-- ==== Sys2Proof/Word.lean ====
section
/-! DEFINITION. The words of the device: bytes, 64-bit bank words with their check bits, 128-bit rows, 256-byte frames, and
the keyed lists the state holds sparse storage in. -/

namespace Sys2Proof

/-- A byte. -/
abbrev Byte := BitVec 8

/-- Bytes in the order a route, a stream or a frame carries them. -/
abbrev Bytes := List Byte

/-- The data of a bank word (R105). -/
abbrev Word := BitVec 64

/-- A row of a bank: two words (R105). -/
abbrev Row := BitVec 128

/-- One L3 frame of a plane, 256 bytes with its tag (R314), or a stretch of frame-sized data. -/
abbrev FrameBits := BitVec 2048

/-- Sparse storage: pairs of a key and a value, keys strictly rising; an unlisted key holds the store's default. -/
abbrev SMap (α : Type) := List (Nat × α)

end Sys2Proof
end

