-- ==== Sys2Proof/Syntax.lean ====
section
/-! DEFINITION. The commands of the block: one constructor per row of the opcode table, with its operands, and the operand
types they share. -/

namespace Sys2Proof

/-- Who sends a dictionary request (R338): the I3C bus, a CAN FD node, Ivtor, the service core in machine mode, its
user tasks, and the loader, which applies SETTINGS records without a controller of its own (R275 step 13). -/
inductive Route
  | i3c
  | can (node : Nat)
  | ivtor
  | coreM
  | coreU
  | loader
deriving DecidableEq, Repr

/-- Where an orbit marker comes from (R44): the ORBIT_P/N pins or the orbit flag of the timing port. -/
inductive OrbitSource
  | pin
  | timingPort
deriving DecidableEq, Repr

/-- What makes a clock loss (R56). -/
inductive LossCause
  | missingEdge
  | pllLock
  | timingPortLock
  | frequency
deriving DecidableEq, Repr

/-- The window selectors of R496. -/
inductive WindowSelector
  | ttWindowIndex | ttWindowSel | qwinIndex | miBank | rtIndex | kpSector | sensorSel | recSel | pfSel
deriving DecidableEq, Repr

/-- The COUNT_CLEAR elements, one per map that lists one, named by the rule's area. -/
inductive ClearElement
  | timeBase | port | bank | district | path | sideStreet | ebGroup | eventBuilder | queue | trunk
  | memScrub | memBank | cfgScrub | susis | can | rights | bist
deriving DecidableEq, Repr

/-- The port settings that PORT_SETTING_WRITE covers (R104). -/
inductive PortSetting
  | enable | coding | rxMult | frameWords | scramble | rxPolarity | expectSrc | adapt | ctle | alignGuard | alignMin
  | dlEnable | txMult | dlSkew | dlPolarity | dlSwing | dlEmph | dlFabric
deriving DecidableEq, Repr

/-- The alignment settings of R88. -/
inductive AlignSetting
  | alignLat | tagMode | tagOffset | gang
deriving DecidableEq, Repr

/-- RING_FIRST or RING_BANKS (R114). -/
inductive RingGeometry
  | first | banks
deriving DecidableEq, Repr

/-- G_PRE or G_POST (R216). -/
inductive WindowSide
  | pre | post
deriving DecidableEq, Repr

/-- The scrubber and reserve settings of R332 kept in the keeper. -/
inductive ScrubSetting
  | enable | firstBank | banks | slotBanks
deriving DecidableEq, Repr

/-- The thermal thresholds of R375. -/
inductive Threshold
  | notice | throttle | ceiling | shutdown
deriving DecidableEq, Repr

/-- A trigger's registers (R437). -/
inductive TriggerRegister
  | tctrl | taddr | tlimit
deriving DecidableEq, Repr

/-- A crossing frame as it leaves a port's decoder (R77 to R79): the phase of its completion in the present crossing, the
header word and the payload words as the line carried them, the 58 line bits before it for the descrambler (R75), and
whether it was cut short. -/
structure RxFrame where
  phase : Nat
  header : BitVec 64
  payload : List (BitVec 64)
  before : BitVec 58
  cut : Bool
deriving DecidableEq, Repr

/-- A request on a bank by bank and row (R105, R159): read or write, service class, row, the row's data and its byte
enables. -/
structure MemRequest where
  write : Bool
  cls : Nat
  row : Nat
  data : BitVec 128
  enables : BitVec 16
deriving DecidableEq, Repr

/-- One access of the service core to a word of its map (R380 to R382), an instruction that it is about to execute, or a write of one
of its CSRs. -/
inductive CoreAccess
  | load (addr : Nat)
  | store (addr value : Nat)
  | loadReserved (addr : Nat)
  | storeConditional (addr : Nat)
  | amo (addr : Nat)
  | fetch (addr : Nat)
  | writeCsr (number value : Nat)
deriving DecidableEq, Repr

/-- An access of the service core, and whether it is made in machine mode. -/
structure CoreStep where
  machine : Bool
  access : CoreAccess
deriving DecidableEq, Repr

/-- A word that the service core stores, or a number that it names, and whether it does so in machine mode (R381, R384); and what the
core has done since its last command. -/
structure CoreWord where
  machine : Bool
  value : Nat
  before : List CoreStep := []
deriving DecidableEq, Repr

/-- A dictionary window that the service core writes, its own or that of user tasks, and whether it does so in machine mode
(R381, R387). -/
structure CoreWindow where
  machine : Bool
  user : Bool
  before : List CoreStep := []
deriving DecidableEq, Repr

/-- Damage of a stored frame, plane × 4800 + frame (R263, R316, R324): the bits that the next writes store inverted, and how many
writes it spoils. -/
structure FrameDamage where
  key : Nat
  bits : BitVec 2093
  writes : Nat
deriving DecidableEq, Repr

/-- What a release of RESET finds in the hardware (R392, R397, R451): the straps, whether the keeper cannot be read at all, the UPTIME in
microseconds from which it fails every read, the sectors that read uncorrectable, and the damaged frames of the configuration
memory (R316). -/
structure ResetFindings where
  straps : Nat
  keeperFails : Bool
  failAt : Option Nat
  bad : List Nat
  damaged : List FrameDamage
deriving DecidableEq, Repr

/-- Who issues requests over the Plaza (R105, R28, R162): the service core in machine mode or in a user task, the debug
bus master, the queue engine, a trunk, or a District. -/
inductive Master
  | core (machine : Bool)
  | debug
  | queues
  | trunk (n : Nat)
  | district (d : Nat)
deriving DecidableEq, Repr

/-- What a tap's fabric signals are in one crossing (R186, R193): DSTROBE, DKIND, DTAG, DATYPE, DUSER and DBUSY as the
expected cycle samples them, and whether DSTROBE was high in any other cycle of the crossing. -/
structure TapOffer where
  strobe : Bool
  kind : BitVec 2
  tag : BitVec 12
  atype : BitVec 4
  user : BitVec 16
  busy : Bool
  stray : Bool
deriving DecidableEq, Repr

/-- A packet as it comes off a trunk (R247): header row and payload rows, with its check judged. -/
structure TrunkPacket where
  header : BitVec 128
  rows : List (BitVec 128)
  good : Bool
deriving DecidableEq, Repr

/-- A MARK with the codewords up to it (R238, R241): its block, and the symbol errors of each codeword since the MARK received before, of
which the last one begins with this MARK. -/
structure MarkSpan where
  block : BitVec 256
  errors : List Nat
deriving DecidableEq, Repr

/-- How the scrubber's three copies agree on one operation (R332 to R334): all three, all but one, or none; or all three, but one of
the triple registers is found with bits of one copy inverted, the settings numbered 0 CS_ENABLE, 1 FR_ENABLE, 2 FR_FIRST,
3 FR_BANKS and 4 FR_SLOT_BANKS. -/
inductive CopyVote
  | agree
  | register (setting : Nat) (copy : Nat) (bits : BitVec 16)
  | odd (copy : Nat)
  | split
deriving DecidableEq, Repr

/-- The beats of a FRAME_WRITE as they come, each with its IP_BEAT, up to IP_LAST (R282, R283). -/
structure IpBeats where
  beats : List (Nat × BitVec 128)
deriving DecidableEq, Repr

/-- What an Inner Port operation of one beat names, a frame to read or a plane to seal, and the beats it comes in (R283). -/
structure IpRequest where
  number : Nat
  beats : Nat
deriving DecidableEq, Repr

/-- A read of a self-test that did not find what it expected (R402, R403): the algorithm's step, the address, the operation within the
step, and the cell positions that read wrong. -/
structure BistRead where
  step : Nat
  address : Nat
  op : Nat
  cells : List Nat
deriving DecidableEq, Repr

/-- A debug transaction (R426): SPACE, ADDR, DATA[31:0], CONSUME and the reserved bit 7; whether the core stands in a locked sequence
as it is performed (R433), and whether it is shifted in while the one before it is still RUNNING. -/
structure DebugTransaction where
  space : Nat
  addr : Nat
  data : Nat
  consume : Bool
  locked : Bool
  reserved : Bool := false
  overlaps : Bool := false
deriving DecidableEq, Repr

/-- The commands: what the outside does to the device, and what comes about in it, each with the rule of its row. -/
inductive Instr
  /-- CLK_SRC_WRITE (R39). -/
  | clkSrcWrite (w : Route) (v : Nat)
  /-- TIMING_PORT_WRITE (R39). -/
  | timingPortWrite (w : Route) (v : Nat)
  /-- MCLK_NOMINAL_WRITE (R36). -/
  | mclkNominalWrite (w : Route) (v : Nat)
  /-- ORBIT_LEN_WRITE (R41). -/
  | orbitLenWrite (w : Route) (v : Nat)
  /-- FABRIC_RATIO_WRITE (R38). -/
  | fabricRatioWrite (w : Route) (v : Nat)
  /-- ALIGN_SRC_WRITE (R44). -/
  | alignSrcWrite (w : Route) (v : Nat)
  /-- ORBIT_OFFSET_WRITE (R45). -/
  | orbitOffsetWrite (w : Route) (v : Nat)
  /-- SYNC_ROLE_WRITE (R49). -/
  | syncRoleWrite (w : Route) (v : Nat)
  /-- SYNC_EVERY_WRITE (R51). -/
  | syncEveryWrite (w : Route) (v : Nat)
  /-- SYNC_SAMPLE_PHASE_WRITE (R52). -/
  | syncSamplePhaseWrite (w : Route) (v : Nat)
  /-- FINE_DELAY_WRITE (R48). -/
  | fineDelayWrite (w : Route) (v : Nat)
  /-- SOURCE_ACQUIRED (R36). -/
  | sourceAcquired (hz : Nat)
  /-- PLL_LOCKED (R42). -/
  | pllLocked
  /-- ORBIT_MARKER (R47). -/
  | orbitMarker (src : OrbitSource)
  /-- MARKER_MISSING (R47). -/
  | markerMissing
  /-- SYNC_WORD_SEND (R51). -/
  | syncWordSend
  /-- SYNC_WORD (R52). -/
  | syncWord (word : BitVec 80)
  /-- SYNC_MISSING (R53). -/
  | syncMissing
  /-- CLOCK_LOSS (R56). -/
  | clockLoss (cause : LossCause)
  /-- SOURCE_RETURN (R57). -/
  | sourceReturn (hz : Nat)
  /-- RESUME (R58). -/
  | resume
  /-- ORBIT_BOUNDARY (R66). -/
  | orbitBoundary
  /-- CROSSING_START (R66). -/
  | crossingStart
  /-- TT_WORD_WRITE (R60). -/
  | ttWordWrite (w : Route) (k : Nat) (v : Nat)
  /-- WINDOW_SELECTOR_WRITE (R496). -/
  | windowSelectorWrite (w : Route) (e : WindowSelector) (v : Nat)
  /-- TT_COPY (R65). -/
  | ttCopy (w : Route) (v : Nat)
  /-- TT_COMMIT (R64). -/
  | ttCommit (w : Route) (v : Nat)
  /-- TT_VALIDATION_DONE (R64). -/
  | ttValidationDone
  /-- TT_WINDOW_START (R63). -/
  | ttWindowStart (entry : Nat)
  /-- TT_WINDOW_END (R63). -/
  | ttWindowEnd (entry : Nat)
  /-- COUNT_CLEAR (R69). -/
  | countClear (w : Route) (e : ClearElement) (unit : Nat) (v : Nat)
  /-- PORT_SETTING_WRITE (R103). -/
  | portSettingWrite (w : Route) (e : PortSetting) (port : Nat) (v : Nat)
  /-- ALIGN_SETTING_WRITE (R88). -/
  | alignSettingWrite (w : Route) (e : AlignSetting) (port : Nat) (v : Nat)
  /-- MASK_WRITE (R103). -/
  | maskWrite (w : Route) (port : Nat) (v : Nat)
  /-- RX_PRBS_WRITE (R101). -/
  | rxPrbsWrite (w : Route) (port : Nat) (v : Nat)
  /-- DL_PRBS_WRITE (R101). -/
  | dlPrbsWrite (w : Route) (port : Nat) (v : Nat)
  /-- DL_CMD_WRITE (R97). -/
  | dlCmdWrite (w : Route) (port : Nat) (v : Nat)
  /-- CDR_LOCK_ACQUIRED (R80). -/
  | cdrLockAcquired (port : Nat)
  /-- CDR_LOCK_LOST (R80). -/
  | cdrLockLost (port : Nat)
  /-- CODE_LOCK_ACQUIRED (R76). -/
  | codeLockAcquired (port : Nat)
  /-- CODE_LOCK_LOST (R76). -/
  | codeLockLost (port : Nat) (errors : Nat)
  /-- FRAME_COMPLETE (R84). -/
  | frameComplete (port : Nat) (f : RxFrame)
  /-- START_SYMBOL_TIMEOUT (R80). -/
  | startSymbolTimeout (port : Nat)
  /-- ALIGN_REQ (R89). -/
  | alignReq (w : Route) (port : Nat) (v : Nat)
  /-- ALIGN_WINDOW_END (R89). -/
  | alignWindowEnd (port : Nat)
  /-- ADAPT_INITIAL_END (R94). -/
  | adaptInitialEnd (port : Nat)
  /-- DL_SEND (R100). -/
  | dlSend (w : Route) (port : Nat) (v : Nat)
  /-- BANK_ARBITRATION (R11). -/
  | bankArbitration (bank : Nat) (cycle : Nat)
  /-- LOCAL_REQUEST (R159). -/
  | localRequest (district : Nat) (bank : Nat) (word : BitVec 32) (data : BitVec 128) (enables : BitVec 16)
  /-- STORE_CHANNEL_REQUEST (R163). -/
  | storeChannelRequest (district : Nat) (word : BitVec 32)
  /-- PLAZA_REQUEST (R162). -/
  | plazaRequest (src : Master) (word : BitVec 40) (data : BitVec 128) (enables : BitVec 16)
  /-- FIXED_RESPONSE (R160). -/
  | fixedResponse (district : Nat) (chan : Nat)
  /-- ORDERED_RESPONSE (R160). -/
  | orderedResponse (district : Nat) (chan : Nat)
  /-- PLAZA_RESPONSE (R34). -/
  | plazaResponse (src : Master) (bank : Nat)
  /-- OWNER_WRITE (R111). -/
  | ownerWrite (w : Route) (bank : Nat) (v : Nat)
  /-- HANDOVER_DRAIN_END (R111). -/
  | handoverDrainEnd (bank : Nat)
  /-- POWER_WRITE (R124). -/
  | powerWrite (w : Route) (bank : Nat) (v : Nat)
  /-- BANK_WAKE_DONE (R123). -/
  | bankWakeDone (bank : Nat)
  /-- DEFERRED_SLEEP (R123). -/
  | deferredSleep (bank : Nat)
  /-- RING_ENABLE_WRITE (R114). -/
  | ringEnableWrite (w : Route) (quarter : Nat) (v : Nat)
  /-- RING_GEOMETRY_WRITE (R114). -/
  | ringGeometryWrite (w : Route) (e : RingGeometry) (quarter : Nat) (v : Nat)
  /-- VAULT_ENABLE_WRITE (R126). -/
  | vaultEnableWrite (w : Route) (v : Nat)
  /-- VAULT_LOCK (R127). -/
  | vaultLock (w : Route) (v : Nat)
  /-- VAULT_UNLOCK (R127). -/
  | vaultUnlock (w : Route) (v : Nat)
  /-- VAULT_WIPE (R128). -/
  | vaultWipe (w : Route) (v : Nat)
  /-- VAULT_WIPE_DONE (R128). -/
  | vaultWipeDone
  /-- UNDERPASS_CONTENTION (R144). -/
  | underpassContention (district : Nat) (underpass : Nat)
  /-- UP_CLEAR (R145). -/
  | upClear (w : Route) (district : Nat) (v : Nat)
  /-- DRAM_UNCORRECTABLE (R149). -/
  | dramUncorrectable (district : Nat) (block : Nat) (row : Nat)
  /-- BASE_NEXT_WRITE (R175). -/
  | baseNextWrite (w : Route) (district : Nat) (v : Nat)
  /-- BASE_AT_WRITE (R175). -/
  | baseAtWrite (w : Route) (district : Nat) (v : Nat)
  /-- LOCK_GROUP_WRITE (R170). -/
  | lockGroupWrite (w : Route) (district : Nat) (v : Nat)
  /-- CAPTURE_ARM (R182). -/
  | captureArm (w : Route) (district : Nat) (v : Nat)
  /-- CAPTURE_DISARM (R182). -/
  | captureDisarm (w : Route) (district : Nat) (v : Nat)
  /-- CAPTURE_CYCLE (R182). -/
  | captureCycle (district : Nat)
  /-- SENTINEL_JUDGE (R193). -/
  | sentinelJudge (tap : Nat) (o : TapOffer)
  /-- DECISION_EMIT (R196). -/
  | decisionEmit
  /-- BREACH_ACK (R194). -/
  | breachAck (w : Route) (v : Nat)
  /-- BUSY_FORCE_WRITE (R207). -/
  | busyForceWrite (w : Route) (v : Nat)
  /-- POLICY_WRITE (R210). -/
  | policyWrite (w : Route) (path : Nat) (v : Nat)
  /-- TAP_OUT_WRITE (R210). -/
  | tapOutWrite (w : Route) (tap : Nat) (v : Nat)
  /-- ACCEPT_LANE_WORD (R202). -/
  | acceptLaneWord (pair : Nat) (word : Nat)
  /-- ACCEPT_PIN_SAMPLE (R203). -/
  | acceptPinSample (pair : Nat)
  /-- SS_MODE_WRITE (R211). -/
  | ssModeWrite (w : Route) (pair : Nat) (v : Nat)
  /-- SS_FIO_CFG_WRITE (R370). -/
  | ssFioCfgWrite (w : Route) (pair : Nat) (v : Nat)
  /-- TOKEN_REFILL (R212). -/
  | tokenRefill
  /-- EXTRACTION_START (R219). -/
  | extractionStart (group : Nat)
  /-- EXTRACTION_DONE (R219). -/
  | extractionDone (group : Nat)
  /-- FRAGMENT_WRITE (R223). -/
  | fragmentWrite (group : Nat)
  /-- EB_GROUP_WRITE (R215). -/
  | ebGroupWrite (w : Route) (port : Nat) (v : Nat)
  /-- G_WINDOW_WRITE (R216). -/
  | gWindowWrite (w : Route) (e : WindowSide) (group : Nat) (v : Nat)
  /-- EVENT_PRESET_WRITE (R213). -/
  | eventPresetWrite (w : Route) (v : Nat)
  /-- Q_ENABLE (R226). -/
  | qEnable (w : Route) (v : Nat)
  /-- Q_DISABLE (R226). -/
  | qDisable (w : Route) (v : Nat)
  /-- Q_FLUSH (R226). -/
  | qFlush (w : Route) (v : Nat)
  /-- QP_PUSH (R229). -/
  | qpPush (district : Nat) (queue : Nat) (row : BitVec 128) (last : Bool)
  /-- QP_POP_REQUEST (R229). -/
  | qpPopRequest (district : Nat) (queue : Nat)
  /-- TK_ENABLE_WRITE (R242). -/
  | tkEnableWrite (w : Route) (trunk : Nat) (v : Nat)
  /-- TK_RATE_WRITE (R238). -/
  | tkRateWrite (w : Route) (trunk : Nat) (v : Nat)
  /-- TK_MODE_WRITE (R239). -/
  | tkModeWrite (w : Route) (trunk : Nat) (v : Nat)
  /-- TK_PRBS_WRITE (R259). -/
  | tkPrbsWrite (w : Route) (trunk : Nat) (v : Nat)
  /-- TRUNK_PLL_LOCK (R242). -/
  | trunkPllLock (trunk : Nat)
  /-- CODEWORD_LOCK (R241). -/
  | codewordLock (trunk : Nat)
  /-- CODEWORD_LOCK_LOST (R241). -/
  | codewordLockLost (trunk : Nat)
  /-- TRAINING_TIMEOUT (R242). -/
  | trainingTimeout (trunk : Nat)
  /-- RETRAIN (R242). -/
  | retrain (w : Route) (trunk : Nat) (v : Nat)
  /-- TK_RESET (R251). -/
  | tkReset (w : Route) (trunk : Nat) (v : Nat)
  /-- IDLE_BLOCK_RECEIVED (R240). -/
  | idleBlockReceived (trunk : Nat) (block : BitVec 256)
  /-- MARK_RECEIVED (R241). -/
  | markReceived (trunk : Nat) (mark : MarkSpan)
  /-- MARK_SEND (R241). -/
  | markSend (trunk : Nat)
  /-- LINK_BLOCK_RECEIVED (R249). -/
  | linkBlockReceived (trunk : Nat) (block : BitVec 256)
  /-- LINK_BLOCK_SEND (R249). -/
  | linkBlockSend (trunk : Nat)
  /-- REPLAY_TIMEOUT (R250). -/
  | replayTimeout (trunk : Nat)
  /-- PACKET_SEND (R248). -/
  | packetSend (trunk : Nat)
  /-- PACKET_RECEIVED (R250). -/
  | packetReceived (trunk : Nat) (p : TrunkPacket)
  /-- C0_BLOCK_RECEIVED (R246). -/
  | c0BlockReceived (trunk : Nat) (block : BitVec 256)
  /-- C0_RX_PRESENT (R246). -/
  | c0RxPresent (trunk : Nat)
  /-- STOP_RECEIVED (R242). -/
  | stopReceived (trunk : Nat)
  /-- RESERVED_BLOCK_RECEIVED (R240). -/
  | reservedBlockReceived (trunk : Nat) (block : BitVec 256)
  /-- ETH_FRAME_SEND (R255). -/
  | ethFrameSend (trunk : Nat)
  /-- ETH_FRAME_RECEIVED (R257). -/
  | ethFrameReceived (trunk : Nat) (bytes : Bytes)
  /-- LOAD_GO (R261). -/
  | loadGo (w : Route) (v : Nat)
  /-- LOAD_ABORT (R288). -/
  | loadAbort (w : Route) (v : Nat)
  /-- LOAD_SRC_WRITE (R262). -/
  | loadSrcWrite (w : Route) (v : Nat)
  /-- LOAD_STREAM_DATA (R275). -/
  | loadStreamData (bytes : Bytes)
  /-- LOAD_FRAME_WRITE (R263). -/
  | loadFrameWrite
  /-- LOAD_ACCEPT (R275). -/
  | loadAccept
  /-- LOAD_TIMEOUT (R275). -/
  | loadTimeout
  /-- LISTENER_GOLDEN_WAIT_END (R268). -/
  | listenerGoldenWaitEnd
  /-- AR_ADVANCE (R274). -/
  | arAdvance (w : Route) (v : Nat)
  /-- KEY_REVOKE (R288). -/
  | keyRevoke (w : Route) (v : Nat)
  /-- IP_HOST_WRITE (R282). -/
  | ipHostWrite (w : Route) (district : Nat) (v : Nat)
  /-- IP_FRAME_WRITE (R284). -/
  | ipFrameWrite (district : Nat) (plane : Nat) (frame : Nat) (data : IpBeats)
  /-- IP_FRAME_READ (R285). -/
  | ipFrameRead (district : Nat) (plane : Nat) (frame : IpRequest)
  /-- IP_PARTIAL (R285). -/
  | ipPartial (district : Nat) (plane : Nat) (frame : Nat) (mask : FrameBits) (data : FrameBits)
  /-- IP_SEAL (R286). -/
  | ipSeal (district : Nat) (plane : IpRequest)
  /-- IP_STREAM (R283). -/
  | ipStream (district : Nat) (data : BitVec 128)
  /-- IP_RESERVED_OP (R283). -/
  | ipReservedOp (district : Nat) (op : Nat)
  /-- TICKET_QUERY (R287). -/
  | ticketQuery (w : Route) (v : Nat)
  /-- INVALIDATE (R293). -/
  | invalidate (w : Route) (v : Nat)
  /-- INVALIDATE_DONE (R293). -/
  | invalidateDone (bank : Nat)
  /-- LB_LEAK_TICK (R295). -/
  | lbLeakTick (bank : Nat)
  /-- LB_LEAK_WRITE (R295). -/
  | lbLeakWrite (w : Route) (v : Nat)
  /-- SCRUB_ROW_READ (R301). -/
  | scrubRowRead (quarter : Nat)
  /-- REPAIR_LIST_SERVE (R294). -/
  | repairListServe (quarter : Nat)
  /-- SCRUB_ENABLE_WRITE (R303). -/
  | scrubEnableWrite (w : Route) (v : Nat)
  /-- RT_RETIRE (R304). -/
  | rtRetire (w : Route) (v : Nat)
  /-- RT_UNRETIRE (R304). -/
  | rtUnretire (w : Route) (v : Nat)
  /-- SUBSTITUTE (R307). -/
  | substitute (w : Route) (quarter : Nat) (v : Nat)
  /-- UNSUBSTITUTE (R308). -/
  | unsubstitute (w : Route) (quarter : Nat) (v : Nat)
  /-- SUBSTITUTE_COPY_DONE (R307). -/
  | substituteCopyDone (quarter : Nat)
  /-- FLIP_ARM (R310). -/
  | flipArm (w : Route) (v : Nat)
  /-- SWEEP_FRAME_READ (R317). -/
  | sweepFrameRead (quarter : Nat) (vote : CopyVote)
  /-- REPAIR_START (R323). -/
  | repairStart (image : Bytes)
  /-- REPAIR_FRAME_WRITE (R324). -/
  | repairFrameWrite (vote : CopyVote)
  /-- REPAIR_DONE (R325). -/
  | repairDone
  /-- CONTENTION_FRAME_READ (R335). -/
  | contentionFrameRead (vote : CopyVote)
  /-- CS_RESET (R334). -/
  | csReset (w : Route) (v : Nat)
  /-- CS_SETTING_WRITE (R332). -/
  | csSettingWrite (w : Route) (e : ScrubSetting) (v : Nat)
  /-- FR_ENABLE_WRITE (R327). -/
  | frEnableWrite (w : Route) (v : Nat)
  /-- RESERVE_FILL_FRAME (R329). -/
  | reserveFillFrame
  /-- I3C_PRIVATE_WRITE (R348). -/
  | i3cPrivateWrite (bytes : Bytes)
  /-- I3C_PRIVATE_READ (R348). -/
  | i3cPrivateRead (count : Nat)
  /-- ENTDAA (R342). -/
  | entdaa (da : Nat)
  /-- SETNEWDA (R340). -/
  | setnewda (da : Nat)
  /-- RSTDAA (R343). -/
  | rstdaa
  /-- RSTACT (R343). -/
  | rstact (action : Nat)
  /-- TARGET_RESET_PATTERN (R343). -/
  | targetResetPattern
  /-- ENEC (R344). -/
  | enec (events : Nat)
  /-- DISEC (R344). -/
  | disec (events : Nat)
  /-- ENTAS (R340). -/
  | entas (k : Nat)
  /-- SETMWL (R340). -/
  | setmwl (v : Nat)
  /-- SETMRL (R340). -/
  | setmrl (v : Nat)
  /-- ENTHDR0 (R340). -/
  | enthdr0
  /-- HDR_DDR_WRITE (R340). -/
  | hdrDdrWrite (code : Nat) (bytes : Bytes)
  /-- HDR_DDR_READ (R340). -/
  | hdrDdrRead (code : Nat) (count : Nat)
  /-- GETPID (R341). -/
  | getpid
  /-- GETBCR (R340). -/
  | getbcr
  /-- GETDCR (R340). -/
  | getdcr
  /-- GETSTATUS (R340). -/
  | getstatus
  /-- GETMWL (R340). -/
  | getmwl
  /-- GETMRL (R340). -/
  | getmrl
  /-- GETMXDS (R340). -/
  | getmxds
  /-- GETCAPS (R340). -/
  | getcaps
  /-- UNSUPPORTED_CCC (R340). -/
  | unsupportedCcc (code : Nat)
  /-- HOT_JOIN (R342). -/
  | hotJoin
  /-- IBI_SEND (R344). -/
  | ibiSend (kind : Nat) (acked : Bool)
  /-- CAN_FRAME (R352). -/
  | canFrame (id : Nat) (bytes : Bytes)
  /-- CAN_BUS_OFF (R352). -/
  | canBusOff
  /-- SUSIS_NOP (R346). -/
  | susisNop (w : Route)
  /-- SUSIS_READ (R346). -/
  | susisRead (w : Route) (eid : Nat) (len : Nat)
  /-- SUSIS_WRITE (R346). -/
  | susisWrite (w : Route) (eid : Nat) (bytes : Bytes)
  /-- DICT_WRITE (R354). -/
  | dictWrite (w : Route) (eid : Nat) (bytes : Bytes)
  /-- EXPERT_LOCK (R356). -/
  | expertLock (w : Route) (v : Nat)
  /-- LOCK_TIMEOUT (R356). -/
  | lockTimeout
  /-- LOCK_BREAK (R356). -/
  | lockBreak (w : Route) (v : Nat)
  /-- ALERT_ACK (R345). -/
  | alertAck (w : Route) (v : Nat)
  /-- DP_BIND_WRITE (R350). -/
  | dpBindWrite (w : Route) (n : Nat) (v : Nat)
  /-- DP_DATA_WRITE (R351). -/
  | dpDataWrite (w : Route) (n : Nat) (bytes : Bytes)
  /-- DP_DATA_READ (R350). -/
  | dpDataRead (w : Route) (n : Nat) (len : Nat)
  /-- IVTOR_HELP (R362). -/
  | ivtorHelp
  /-- IVTOR_VER (R362). -/
  | ivtorVer
  /-- IVTOR_STATUS (R362). -/
  | ivtorStatus
  /-- IVTOR_BAUD (R361). -/
  | ivtorBaud (rate : Bytes)
  /-- IVTOR_ECHO (R362). -/
  | ivtorEcho (on : Bytes)
  /-- IVTOR_READ (R362). -/
  | ivtorRead (eid : Bytes)
  /-- IVTOR_LOG (R362). -/
  | ivtorLog (n : Bytes)
  /-- IVTOR_WRITE (R362). -/
  | ivtorWrite (eid : Bytes) (value : Bytes)
  /-- IVTOR_LOCK (R362). -/
  | ivtorLock
  /-- IVTOR_UNLOCK (R362). -/
  | ivtorUnlock
  /-- SAFE_ENTER (R368). -/
  | safeEnter (w : Route) (v : Nat)
  /-- SAFE_LEAVE (R368). -/
  | safeLeave (w : Route) (v : Nat)
  /-- CORE_RESET_CMD (R369). -/
  | coreResetCmd (w : Route)
  /-- DEVICE_RESET_CMD (R369). -/
  | deviceResetCmd (w : Route)
  /-- COMMAND_RESET (R369). -/
  | commandReset
  /-- BIST_GO (R401). -/
  | bistGo (w : Route) (v : Nat)
  /-- BIST_ABORT (R407). -/
  | bistAbort (w : Route) (v : Nat)
  /-- BIST_SLICE_START (R406). -/
  | bistSliceStart
  /-- BIST_PHASE_DONE (R405). -/
  | bistPhaseDone (fails : List BistRead)
  /-- BIST_OFFLINE_DONE (R408). -/
  | bistOfflineDone (fails : List BistRead)
  /-- THRESHOLD_WRITE (R376). -/
  | thresholdWrite (w : Route) (e : Threshold) (v : Nat)
  /-- LC_CHALLENGE_READ (R444). -/
  | lcChallengeRead (w : Route)
  /-- LC_TOKEN_WRITE (R444). -/
  | lcTokenWrite (w : Route) (bytes : Bytes)
  /-- LC_REQUEST (R442). -/
  | lcRequest (w : Route) (v : Nat)
  /-- LIFECYCLE_CHANGE_DONE (R445). -/
  | lifecycleChangeDone
  /-- KEY_INSTALL (R377). -/
  | keyInstall (w : Route) (bytes : Bytes)
  /-- FREEZE_GO (R378). -/
  | freezeGo (w : Route) (v : Nat)
  /-- FREEZE_START (R378). -/
  | freezeStart
  /-- FREEZE_RELEASE (R378). -/
  | freezeRelease (w : Route) (v : Nat)
  /-- FWP_ENABLE_WRITE (R439). -/
  | fwpEnableWrite (w : Route) (n : Nat) (v : Nat)
  /-- FWP_FIRE (R439). -/
  | fwpFire (n : Nat) (locked : Bool)
  /-- FWP_WINDOW_PASSED (R439). -/
  | fwpWindowPassed (n : Nat)
  /-- VENDOR_REQUEST (R379). -/
  | vendorRequest (w : Route) (eid : Nat) (write : Bool) (bytes : Bytes)
  /-- CORE_BOOT (R390). -/
  | coreBoot
  /-- KW_GO (R384). -/
  | kwGo (sector : Nat) (data : BitVec 512) (v : CoreWord)
  /-- KEEPER_WRITE_DONE (R395). -/
  | keeperWriteDone
  /-- FW_COMMIT (R384). -/
  | fwCommit (v : CoreWord)
  /-- WDT_KICK (R399). -/
  | wdtKick (v : CoreWord)
  /-- WDT_ENABLE_WRITE (R399). -/
  | wdtEnableWrite (w : Route) (v : Nat)
  /-- WDT_FIRST_EXPIRY (R399). -/
  | wdtFirstExpiry
  /-- WDT_SECOND_EXPIRY (R399). -/
  | wdtSecondExpiry
  /-- MTIMECMP_EXPIRY (R384). -/
  | mtimecmpExpiry
  /-- MSIP_WRITE (R384). -/
  | msipWrite (v : CoreWord)
  /-- IRQ_CLEAR (R384). -/
  | irqClear (v : CoreWord)
  /-- MEM_EVENT_POP (R386). -/
  | memEventPop
  /-- MEM_LOST_READ (R384). -/
  | memLostRead
  /-- DQ_GO (R387). -/
  | dqGo (window : CoreWindow) (bytes : Bytes)
  /-- MAILBOX_ROW_COMMIT (R388). -/
  | mailboxRowCommit (queue : CoreWord) (row : BitVec 128) (sof : Bool) (eof : Bool)
  /-- MAILBOX_FRAGMENT_PUSH (R388). -/
  | mailboxFragmentPush
  /-- MAILBOX_POP_ADVANCE (R388). -/
  | mailboxPopAdvance (queue : CoreWord)
  /-- RECORD_WRITE (R415). -/
  | recordWrite
  /-- REC_CLEAR (R422). -/
  | recClear (w : Route) (v : Nat)
  /-- PERSIST_COPY (R420). -/
  | persistCopy
  /-- PERSIST_REFRESH (R420). -/
  | persistRefresh
  /-- EXTEST (R424). -/
  | extest
  /-- IDCODE (R423). -/
  | idcode
  /-- SAMPLE_PRELOAD (R424). -/
  | samplePreload
  /-- EXTEST_PULSE (R102). -/
  | extestPulse
  /-- EXTEST_TRAIN (R102). -/
  | extestTrain
  /-- CLAMP (R424). -/
  | clamp
  /-- HIGHZ (R424). -/
  | highz
  /-- DBG_ACCESS (R424). -/
  | dbgAccess
  /-- BYPASS (R424). -/
  | bypass
  /-- TRST_N (R423). -/
  | trstN
  /-- TAP_LOGIC_RESET (R423). -/
  | tapLogicReset
  /-- DBG_NOP (R426). -/
  | dbgNop
  /-- DBG_READ (R426). -/
  | dbgRead (t : DebugTransaction)
  /-- DBG_WRITE (R426). -/
  | dbgWrite (t : DebugTransaction)
  /-- DBG_RESERVED_OP (R426). -/
  | dbgReservedOp (t : DebugTransaction)
  /-- HALT_REQ (R432). -/
  | haltReq (locked : Bool)
  /-- CORE_RESUME (R432). -/
  | coreResume
  /-- STEP_HALT (R431). -/
  | stepHalt (locked : Bool)
  /-- CUR_WRITE (R435). -/
  | curWrite (v : Bool)
  /-- DBG_CORE_RESET (R431). -/
  | dbgCoreReset
  /-- DETACH (R440). -/
  | detach
  /-- TRIGGER_CONFIG_WRITE (R437). -/
  | triggerConfigWrite (n : Nat) (e : TriggerRegister) (v : Nat)
  /-- CODE_BREAKPOINT_HIT (R436). -/
  | codeBreakpointHit (n : Nat) (locked : Bool)
  /-- DATA_WATCHPOINT_HIT (R436). -/
  | dataWatchpointHit (n : Nat) (store : Bool) (locked : Bool)
  /-- EBREAK (R432). -/
  | ebreak (locked : Bool)
  /-- DEFERRED_HALT (R433). -/
  | deferredHalt
  /-- LOCK_BROKEN_TIMEOUT (R433). -/
  | lockBrokenTimeout
  /-- TAMPER_ASSERT (R447). -/
  | tamperAssert
  /-- LID_OPEN (R447). -/
  | lidOpen
  /-- POWER_ON (R457). -/
  | powerOn
  /-- POWER_LOSS (R458). -/
  | powerLoss
  /-- SUPPLY_RESET (R449). -/
  | supplyReset
  /-- RST_N_ASSERT (R449). -/
  | rstNAssert
  /-- RESET_RELEASE (R449). -/
  | resetRelease (found : ResetFindings)
  /-- BOOT_END (R453). -/
  | bootEnd
  /-- SENSOR_ROUND (R461). -/
  | sensorRound (readings : List (Nat × Option Int))
  /-- SHUTDOWN_ENTRY (R469). -/
  | shutdownEntry
  /-- SHUTDOWN_POWER_GATE (R469). -/
  | shutdownPowerGate
  /-- PARTNER_TRAINING_REQUEST (R242). -/
  | partnerTrainingRequest (trunk : Nat)
  /-- HDR_EXIT_PATTERN (R340). -/
  | hdrExitPattern
  /-- CAN_BUS_OFF_RECOVERY (R352). -/
  | canBusOffRecovery
  /-- TAMPER_N_RELEASE (R447). -/
  | tamperNRelease
  /-- LID_CLOSED (R447). -/
  | lidClosed
deriving DecidableEq, Repr

end Sys2Proof
end

