-- ==== Sys2Proof/Decode.lean ====
section
/-! DEFINITION. The reading of a table word. The device takes commands, not instruction words: the opcode table gives none
of its rows any bits, so no word spells a command. -/

namespace Sys2Proof

/-- The command that a word spells by the table's bits: none, since no row of the table gives bits. -/
def decodeTableWord (_nbits _w : Nat) : Option Instr := none

end Sys2Proof
end

