-- ==== Sys2Proof/Machine/PlaneLogic.lean ====
section
/-! DEFINITION. The fabric's signals and what a plane's frames set of them (R131 to R142, R147, R152 to R156, R178): Blocks,
wires, special columns and Underpasses by name, and the settings of one plane. The mapping onto frame bits is not published
(R134), so Config gives a plane's settings as an uninterpreted function of its frames. -/

namespace Sys2Proof.Machine

/-- A Block, and the Square at its south-west corner: its place in the 512 × 512 array of a logic layer, 0 for L2 and 1 for L4
(R22, R23, R131). -/
structure Site where
  layer : Nat
  x : Nat
  y : Nat
deriving DecidableEq, Repr, Inhabited

/-- The directions in which wires run (R23, R139). -/
inductive Dir
  | north | east | south | west
deriving DecidableEq, Repr, Inhabited

/-- The wires between Squares (R139). -/
inductive WireKind
  | lane1 | lane2 | lane4 | avenue
deriving DecidableEq, Repr, Inhabited

/-- A Lane or an Avenue, named by the Block at whose Square it starts and its number among those that start there (R139). -/
structure Wire where
  kind : WireKind
  dir : Dir
  start : Site
  index : Nat
deriving DecidableEq, Repr, Inhabited

/-- A register point of a Boulevard (R140): line m lies between Block columns, or rows, 16m - 1 and 16m; place is the Block row
of an east or west Boulevard and the Block column of the others; track is 0 to 3. -/
structure Point where
  layer : Nat
  dir : Dir
  line : Nat
  place : Nat
  track : Nat
deriving DecidableEq, Repr, Inhabited

/-- A signal that crosses a District border and passes a Bollard, or the Bollard cells of an Underpass end (R141, R142). -/
inductive Border
  | wire (w : Wire)
  | boulevard (p : Point)
  | underpass (quarter u side : Nat)
deriving DecidableEq, Repr, Inhabited

/-- What a Square can connect to a wire or an input (R132 to R160): bits of a LUT, a carry chain (carry i is CI_i, and carry 8 is
CO_7), a flip-flop, the far end of a wire, the output of a register point, the receiver of an Underpass end, 0 for L and 1 for
H, an output of a Tally tile or a District RAM port, the time port, a front-end port's interface, and the bank, store-channel,
Plaza and queue ports of a District, its side-street port (R370), and the C0 receive interface of a trunk (R246). -/
inductive Sig
  | low
  | high
  | lutX (b : Site) (i : Nat)
  | lutY (b : Site) (i : Nat)
  | carry (b : Site) (i : Nat)
  | sum (b : Site) (i : Nat)
  | flop (b : Site) (i : Nat)
  | wire (w : Wire)
  | boulevard (p : Point)
  | underpass (quarter u side : Nat)
  | tally (district tile bit : Nat)
  | ram (district block port bit : Nat)
  | time (district bit : Nat)
  | port (port bit : Nat)
  | bank (district channel bit : Nat)
  | sideStreet (district bit : Nat)
  | c0r (trunk bit : Nat)
deriving DecidableEq, Repr, Inhabited

/-- What a Square connects a signal to: inputs of a Block, a wire that starts there, the driver at a register point of a
Boulevard, the driver of an Underpass end, and the pins of a Tally tile, a District RAM port or a side-street port. -/
inductive Sink
  | lutIn (b : Site) (i k : Nat)
  | carryIn (b : Site)
  | bypass (b : Site) (i : Nat)
  | ce (b : Site) (n : Nat)
  | sr (b : Site) (n : Nat)
  | wire (w : Wire)
  | boulevard (p : Point)
  | underpass (quarter u side : Nat)
  | tally (district tile pin : Nat)
  | ram (district block port pin : Nat)
  | sideStreet (district pin : Nat)
deriving DecidableEq, Repr, Inhabited

/-- The source of CI_0 (R133). -/
inductive CarryIn
  | chained | zero | one | routed
deriving DecidableEq, Repr, Inhabited

/-- D_SRC (R134). -/
inductive DSrc
  | x | y | s | bypass
deriving DecidableEq, Repr, Inhabited

/-- CE_SEL and SR_SEL (R134): none, or one of the Block's two routed lines. -/
inductive LineSel
  | none | line0 | line1
deriving DecidableEq, Repr, Inhabited

/-- The attributes of a flip-flop but INIT and MODE, which PlaneUser holds (R134). -/
structure FlopSettings where
  dSrc : DSrc
  ceSel : LineSel
  srSel : LineSel
deriving DecidableEq, Repr, Inhabited

/-- The modes of a Tally multiplier beside PAIR (R152). -/
inductive MulMode
  | mul | madd | mac
deriving DecidableEq, Repr, Inhabited

/-- One multiplier of a Tally tile (R152, R153). -/
structure MulSettings where
  mode : MulMode
  signedA : Bool
  signedB : Bool
  pshift : Nat
  accSat : Bool
  /-- MULT_PIPE, 2 to 4 (R157). -/
  pipe : Nat
deriving DecidableEq, Repr, Inhabited

/-- A Tally tile (R152 to R157). -/
structure TallySettings where
  mul0 : MulSettings
  mul1 : MulSettings
  pair : Bool
  /-- The tree's inputs that are signed, and TREE_PIPE, 0 to 3. -/
  treeSigned : BitVec 16
  treePipe : Nat
  /-- ORDER: false descending, true ascending. -/
  order : Bool
  mergeEn : Bool
  /-- MERGE_K, 1 to 8. -/
  mergeK : Nat
deriving DecidableEq, Repr, Inhabited

/-- The shapes of a District RAM port (R147). -/
inductive RamShape
  | w9 | w18 | w36 | w72
deriving DecidableEq, Repr, Inhabited

/-- WVIEW (R147). -/
inductive WView
  | prior | posted | still
deriving DecidableEq, Repr, Inhabited

/-- One port of a District RAM block (R147). -/
structure RamPortSettings where
  shape : RamShape
  view : WView
  outReg : Bool
deriving DecidableEq, Repr, Inhabited

/-- A District RAM block (R147, R149, R150). -/
structure RamSettings where
  a : RamPortSettings
  b : RamPortSettings
  protect : Bool
  count : Bool
deriving DecidableEq, Repr, Inhabited

/-- What the frames of one plane set of its District's logic and routing (R132 to R142, R147 to R156, R178). It is no field of the
state: it is read from the frames wherever it is needed. -/
structure PlaneLogic where
  /-- The truth table of a LUT, and whether it is split (R132). -/
  table : Site → Nat → BitVec 64
  split : Site → Nat → Bool
  carryIn : Site → CarryIn
  flop : Site → Nat → FlopSettings
  /-- What the Squares connect to a sink (R139). -/
  source : Sink → Sig
  /-- The optional register at the driving end of a wire, and at the far end of an Avenue (R139). -/
  hop : Wire → Bool
  endReg : Wire → Bool
  /-- The plane drives a Boulevard just ahead of a register point (R140). -/
  drives : Point → Bool
  /-- The optional hop register of the plane's own Underpass end (R142). -/
  upHop : Nat → Bool
  /-- OUT_TAG, PARK and IN_TAG (R178). -/
  outTag : Border → BitVec 12
  park : Border → BitVec 2
  inTag : Border → BitVec 12
  tally : Nat → TallySettings
  ram : Nat → RamSettings
deriving Inhabited

end Sys2Proof.Machine
end

