-- ==== Sys2Proof/Config.lean ====
section
/-! DEFINITION. The values the manual leaves open and the functions whose bodies it does not give: free values, drawn with
the count that State.fv holds, and uninterpreted functions of their operands. None has a body; nothing may rest on one. -/

namespace Sys2Proof.Config

/-- What a plane's frames set of its District's logic and routing: the mapping onto frame bits is not published (R134). -/
opaque planeLogic (frames : SMap (BitVec 2093)) : Machine.PlaneLogic

/-- A signal that depends on a combinational loop (R138); drawn. -/
opaque loopValue (draw phase : Nat) : Bool

/-- A bit that a bank, store-channel, Plaza or queue port presents to user logic in a fabric cycle (R160): the commands do not
say in which cycle an answer stands; drawn. -/
opaque portValue (draw phase district channel bit : Nat) : Bool

/-- A bit of the words that the pins of a side-street pair in SS_MODE 5 bring to a District's port (R370): the world outside
decides; drawn. -/
opaque fioInput (draw phase district bit : Nat) : Bool

/-- A cell of District RAM that an upset has struck in a crossing, by block 64d + k, where one has (R149); drawn. -/
opaque upsetCell (draw : Nat) : Option (Nat × Nat)

/-- The cells of a row in which a double-bit error is found, all 72 of them (R149); drawn. -/
opaque struckRow (draw : Nat) : BitVec 72

/-- The command that user logic offers for a port's downlink, when it raises DL_CVALID, and its user bytes (R96, R98);
drawn. -/
opaque fabricDownlink (draw port : Nat) : Option Nat × Bytes

/-- The peaking and taps a receiver's adaptation settles at (R94, EQ_STATE); drawn. -/
opaque equaliser (draw port : Nat) : BitVec 29

/-- The banked flip-flops, the INIT values, the Underpass ends and F_CLOSE that a plane's frames set: the mapping onto
frame bits is not published (R134). -/
opaque bankedOf (frames : SMap (BitVec 2093)) : BitVec 65536
opaque initOf (frames : SMap (BitVec 2093)) : BitVec 65536
opaque underpassEndsOf (frames : SMap (BitVec 2093)) : BitVec 1024
opaque fCloseOf (frames : SMap (BitVec 2093)) : Nat

/-- The frame of a plane that holds an Underpass's enable bit (R144, R134). -/
opaque underpassFrame (underpass : Nat) : Nat

/-- The requester index under which the copier of R307 reads: R105 gives it none. -/
opaque copierIndex : Nat

/-- The raw cells of a queue descriptor, whose number the manual does not give (R401), folded to 64 bits, when every cell is
1. -/
opaque descriptorOnes : BitVec 64

/-- The operations that a phase cut short had performed, and which of its reads had found other cells than they expected (R403, R407):
where the engine stood and what the cells held are not the manual's, and no command carries them; drawn. -/
opaque operationsDone (draw : Nat) : Nat
opaque readsFailed (draw : Nat) : List BistRead

/-- The status and the bytes that answer a request of a vendor area which R379 lets through: its entries are not published;
drawn. -/
opaque vendorAnswer (draw : Nat) : BitVec 8 × Bytes

/-- The fields of a word of a header that the queue engine makes in place of an unreadable one, beside those that R234 fixes;
drawn. -/
opaque madeWord (draw : Nat) : BitVec 64

/-- EPOCH as a device reset or TK_RESET takes it from the free-running counter (R251); drawn. -/
opaque epoch (draw : Nat) : BitVec 16

/-- ATYPE and DUSER of a decision that no offer gives (R194 to R196, R198, R200), ATYPE lowest; drawn. -/
opaque unofferedFields (draw : Nat) : BitVec 20

/-! What the frames of the planes say where a rule of the manual reads it; the mapping onto frame bits is not published
(R134). Frames are keyed by plane × 4800 + frame, each its data and tag. -/

/-- A plane's frames drive a decision tap of its District (R191, check 6). -/
opaque drivesTap (frames : SMap (BitVec 2093)) (plane n : Nat) : Bool

/-- The trace of R190 over the loaded planes finds no fault of check 6 on the routes to a tap, whose ledger record and path
record are given with the anchors and port records of the path. -/
opaque routesOk (frames : SMap (BitVec 2093)) (loaded : List Nat) (tap tapRecord pathRecord : Nat) (ports anchors : List (BitVec 64)) :
  Bool

/-- The smallest entry offset, in crossings, that the trace finds for a path (R191, check 7); none where it has no entry. -/
opaque entryOffset (frames : SMap (BitVec 2093)) (loaded : List Nat) (pathRecord : Nat) (ports anchors : List (BitVec 64)) :
  Option Nat

/-- The planes that carry a path, and the Underpasses it crosses, 1024q + u (R176, R146). -/
opaque routePlanes (frames : SMap (BitVec 2093)) (loaded : List Nat) (pathRecord : Nat) (ports anchors : List (BitVec 64)) :
  List Nat
opaque routeUnderpasses (frames : SMap (BitVec 2093)) (loaded : List Nat) (pathRecord : Nat) (ports anchors : List (BitVec 64)) :
  List Nat

/-- The local banks that C0 requests of a plane's frames read, and write, and whether they use the store channel at C0 (R163,
R191, check 8). -/
opaque c0Reads (frames : SMap (BitVec 2093)) (plane : Nat) : BitVec 64
opaque c0Writes (frames : SMap (BitVec 2093)) (plane : Nat) : BitVec 64
opaque c0Store (frames : SMap (BitVec 2093)) (plane : Nat) : Bool

/-- The row of a loader status packet, whose layout the manual does not give (R253): load state, reason and bytes taken. -/
opaque loaderStatus (state reason taken : Nat) : BitVec 128

/-- A byte with which a frame shorter than 60 bytes is filled up before its FCS (R254): IEEE 802.3 leaves it open; drawn. -/
opaque padByte (draw i : Nat) : BitVec 8

/-- Raw DEFLATE of the frame reserve (R328): any stream serves that inflates to its input. -/
opaque deflate (data : Bytes) : Bytes

/-- Kwewalis's public keys in boot ROM, whose values the manual does not give: of firmware (R389) and of the lifecycle (R443),
each a 97-byte point. -/
opaque firmwareKey : Bytes
opaque lifecycleKey : Bytes

/-- The partition table, whose layout the manual does not give, names slot B ACTIVE (R390, R392). -/
opaque activeSlotB (table : Bytes) : Bool

/-- The challenge that a read of LC_CHALLENGE returns (R444); drawn. -/
opaque challenge (draw : Nat) : BitVec 256

/-- The controller that a lifecycle change finished at POR names in its record: the keeper holds none (R441, R445). -/
opaque resumedController : BitVec 8

/-- What the firmware has left where a debugger looks (R429, R431): a TCM word, a general register, a CSR, DPC; drawn. -/
opaque tcmWord (draw addr : Nat) : BitVec 32
opaque coreRegister (draw n : Nat) : BitVec 32
opaque coreCsr (draw n : Nat) : BitVec 32
opaque corePc (draw : Nat) : BitVec 32

/-- mtval of a breakpoint exception: the privileged specification gives 0 or the instruction's address (R432); drawn. -/
opaque breakpointValue (draw : Nat) : BitVec 32

/-- Bits that a read, or a reply of the I3C bus, returns and that no rule and no command of the table determines; drawn. -/
opaque freeBits (draw : Nat) : BitVec 64

/-- The text of Ivtor's replies, whose form the manual does not give (R361, R362): the list of commands, values, event
records, and the data of a dictionary read. -/
opaque ivtorHelp : Bytes
opaque ivtorText (values : List Nat) : Bytes
opaque ivtorLog (records : List Bytes) : Bytes
opaque ivtorValue (data : Bytes) : Bytes

/-- What the I3C target returns to a CCC whose content the manual does not give (R340): GETSTATUS, GETMXDS, GETCAPS; drawn. -/
opaque i3cReply (draw ccc : Nat) : Bytes

/-- The boot ROM's content, which is not published (R382). -/
opaque romWord (addr : Nat) : BitVec 32

end Sys2Proof.Config
end

