-- ==== Sys2Proof/Machine/Dict.lean ====
section
/-! DEFINITION. The object dictionary's elements (R365 and the maps it names): one name for each element of each map, with
its place, type size, access, rights, default, the range the map states for it, and its class of R360. -/

namespace Sys2Proof.Machine

/-- The dictionary's elements, each under its map's name; a COUNT_CLEAR is named CC_ and its area. -/
inductive El
  | TB_STATE | MT | CLK_SRC | TIMING_PORT | MCLK_NOMINAL | MCLK_MEASURED | ORBIT_LEN | FABRIC_RATIO | ALIGN_SRC
  | ORBIT_OFFSET | ORBIT_MISS_LIMIT | MT_PRESET | FINE_DELAY | FINE_DELAY_APPLIED | SYNC_ROLE | SYNC_LOCK_GROUP
  | MEMBER | SYNC_EVERY | SYNC_SAMPLE_PHASE | SYNC_MISS_LIMIT | TB_STATUS | LOSS_COUNT | MARKER_ERRORS
  | MARKER_MISSING | SYNC_CRC_ERRORS | SYNC_MISSING | SYNC_MISMATCH | CC_02 | LAST_LOSS_MT | LAST_RESUME_MT
  | STEP_FIRST | STEP_LAST | TT_ACTIVE | TT_COMMIT | TT_COMMIT_STATUS | TT_REFUSED_ENTRY | TT_COPY | TT_WINDOW_INDEX
  | TT_WORD0 | TT_WORD1 | TT_WORD2 | TT_WORD3 | TT_WINDOW_SEL | ENABLE | CODING | RX_MULT | FRAME_WORDS | SCRAMBLE
  | RX_POLARITY | TAG_MODE | TAG_OFFSET | ALIGN_LAT | GANG | EXPECT_SRC | MASK | ADAPT | CTLE | RX_PRBS | ALIGN_GUARD
  | PORT_STATE | PORT_STATUS | ALIGN_REQ | ALIGN_RESULT | ALIGN_D | ALIGN_MIN | LAST_TAG | EQ_STATE | LINE_RATE
  | DL_ENABLE | TX_MULT | DL_SKEW | DL_POLARITY | DL_SWING | DL_EMPH | DL_FABRIC | DL_CMD | DL_SEND | DL_SEND_STATUS
  | DL_PRBS | FRAMES_OK | CODE_ERRORS | CRC_ERRORS | MISSING | LATE | DUPLICATE | TAG_UNKNOWN | TAG_SLIP
  | LENGTH_ERRORS | FE_ERRORS | SRC_MISMATCH | LOCK_LOSSES | CMD_DROPPED | PRBS_ERRORS | CC_13 | OWNER | OWNER_ACTIVE
  | HANDOVER | READ_SHARE | POWER | POWER_STATE | ROLE | C0_HOLDER | DENIED | AGED | WAKE_ON_ACCESS | C0_ASLEEP
  | CC_05 | RING_ENABLE | RING_FIRST | RING_BANKS | RING_WORDS | RING_K | RING_STRIPES | RING_DEPTH | RING_OLDEST
  | RING_NEWEST | RING_STATE | VAULT_ENABLE | VAULT_STATE | VAULT_LOCK | VAULT_UNLOCK | VAULT_WIPE | WIPE_COUNT
  | LAST_WIPE_CAUSE | FABRIC_STATUS | F_CLOSE | UP_CONTENTIONS | CC_04 | UP_LAST | UP_CLEAR | DRAM_CORR | DRAM_UNCORR
  | BASE_CTX | BASE_NEXT | BASE_AT | PLANES | LOCK_GROUP | BOLLARD_STATUS | CAPTURE_CTRL | CAPTURE_MT | PATH_STATE
  | PATH_LDEC | PATH_S | POLICY | DECISIONS | ACCEPTS | MARKERS | BREACHES | LAST_BREACH_MT | LAST_BREACH_KIND
  | CC_20 | BUSY_SRC | BUSY_FORCE | BREACH_ACK | ACC_TPORT | LEDGER_STATUS | LEDGER_FAIL_CHECK | LEDGER_FAIL_ITEM
  | TAP_PATH | TAP_PHASE | TAP_HOLD | TAP_R | TAP_OUT | TAP_DL_MASK | TAP_TRUNKS | SS_MODE | SS_MULT | SS_SKEW
  | SS_SAMPLE_PHASE | ACC_DELAY | ACC_TYPE | ACC_COUNT | ACC_CRC_ERRORS | ACC_TAG_MISMATCH | SS_TAP | CC_19
  | EB_GROUP | G_ATYPES | G_PRE | G_POST | G_CLASS | G_QBASE | G_QROUND | G_QUARTER | G_PORTS | G_FRAGMENTS
  | G_EXPIRED | G_DAMAGED | G_TRUNCATED | CC_28G | EB_ENABLE | ACC_MIN_GAP | ACC_BURST | ACC_REFILL | EVENT_NEXT
  | EVENT_PRESET | INTAKE_LEVEL | ACCEPTS_TAKEN | REF_BURST | REF_GAP | REF_RATE | REF_FULL | NOQUEUE | CC_28
  | QTYPE_OFFSET | QWIN_INDEX | Q_CTRL | Q_BASE | Q_SIZE | Q_PRODUCER | Q_CONSUMER | Q_HEAD | Q_TAIL | Q_LEVEL
  | Q_FRAGMENTS | Q_STALLS | Q_OVERSIZE | Q_FLUSH | CC_08 | Q_ENABLED | TK_ENABLE | TK_RATE | TK_MODE | C0_PHASE
  | C0_RX_DELAY | MGMT_EN | RX_QBASE | REPLAY_TIMEOUT | TX_PRESET | TK_POLARITY | TK_PRBS | RETRAIN | TK_RESET
  | LINK_STATE | TK_STATUS | TX_SEQ | ACKED_SEQ | RX_EXPECT | FEC_CORRECTED | FEC_UNCORR | REPLAYS | RETRAINS
  | C0_SENT | C0_LOST | C0_LATE | RX_DISCARDED | RX_NOQUEUE | TK_PRBS_ERRORS | CC_18 | ETH_DST | ETH_SRC | ETH_TYPE
  | IP_SRC | IP_DST | UDP_SPORT | UDP_DPORT | IP_TTL_DSCP | ETH_MTU | ARP_ICMP_EN | LOAD_STATE | LOAD_REASON
  | LOAD_DETAIL | LOAD_BYTES | LOAD_SECTION | LOAD_FALLBACK | LOAD_SRC | LOAD_ADDR | LOAD_GO | LOAD_ABORT
  | PRIMARY_ADDR | GOLDEN_ADDR | RELEASE_SPACING | STRAPS | AR_COUNTER | AR_ADVANCE | KEY_STATE | KEY_REVOKE
  | IMAGE_ID | IMAGE_AR | TICKET_QUERY | TICKET_STATE | TICKET_LAST | IP_RAW_ALLOWED | IP_HOST | SCRUB_ENABLE
  | SCRUB_PERIOD | SCRUB_PASSES | SCRUB_LAST_PASS | SCRUB_RATE | SCRUB_SKIPPED | POISON_WRITTEN | REPAIR_DROPPED
  | CC_07 | MI_BANK | CE_COUNT | UE_COUNT | POISON_READS | LB_LEVEL | LB_THRESHOLD | LB_LEAK | LB_OVERFLOWS | CE_LAST
  | UE_LAST | INVALIDATE | INV_STATE | CC_07B | RT_COUNT | RT_RETIRE | RT_UNRETIRE | RT_INDEX | RT_ENTRY | RT_STATE
  | FLIP_BANK | FLIP_DATA | FLIP_CHECK | FLIP_ARM | FLIP_STATE | FLIP_ADDR | SPARE0_FOR | SPARE1_FOR | SUBSTITUTE
  | SUB_STATE | UNSUBSTITUTE | SUB_COPY_UE | CS_ENABLE | CS_STATE | CS_STATUS | CS_RESET | CS_PASSES | CS_LAST_PASS
  | CS_CORRECTED | CS_RELOADED | CS_FAILED | CS_SELF_UPSETS | CS_DEFERRED | CC_01 | FR_ENABLE | FR_FIRST | FR_BANKS
  | FR_SLOT_BANKS | FR_SLOTS | FR_COVERED | FR_QUERY | FR_QUERY_STATE | I3C_STATE | I3C_DA | I3C_PID | HJ_EN
  | IBI_MASK | ALERT_LEVEL | ALERT_PENDING | ALERT_ACK | SUSIS_CRC_ERRORS | SUSIS_MALFORMED | CC_30I | CAN_STATE
  | CAN_ENABLE | CAN_PFX | CAN_NODE | CAN_NOM_RATE | CAN_DATA_RATE | CAN_TEC_REC | CAN_RATE_DROPS | CAN_BUS_OFF
  | CC_30C | EXPERT_LOCK | LOCK_OWNER | LOCK_TIMEOUT | LOCK_BREAK | RIGHTS_I3C | RIGHTS_CAN | RIGHTS_IVTOR
  | MY_CONTROLLER | MY_RIGHTS | REFUSED_STATE | CC_30R | DP_BIND | DP_TARGET | DP_ADDR | DP_DATA | DP_STATUS
  | DP_LIMIT | VENDOR | PART | REVISION | SPEED_GRADE | TEMP_GRADE | SERIAL | ROM_VERSION | FW_VERSION | LIFECYCLE
  | DEV_NAME | DEV_STATE | PREV_STATE | STATE_MT | SAFE_CAUSE | SAFE_ENTER | SAFE_LEAVE | RESET_CMD | RESET_CAUSE
  | UPTIME | SS_FIO_CFG | FIO_STATUS | CORE_STATE | CORE_RESETS | CORE_RESET_CAUSE | WDT_ENABLE | WDT_TIMEOUT
  | WDT_STAGE | WDT_REMAINING | WDT_RESETS | KP_STATE | KP_WORN | KP_RESERVE_FREE | KP_SECTOR | KP_WEAR | KP_ERRORS
  | BIST_KIND | BIST_TARGET | BIST_MODE | BIST_ALGO | BIST_GO | BIST_ABORT | BIST_STATE | BIST_RESULT | BIST_PLANNED
  | BIST_EXECUTED | BIST_SIG | BIST_FAIL_ADDR | BIST_REPAIRS | CC_40 | REC_CAPACITY | REC_COUNT | REC_SEQ_NEXT
  | REC_SEQ_OLDEST | REC_SEL | REC_RECORD | REC_LOST | REC_MIN_SEVERITY | REC_CLEAR | PF_COUNT | PF_SEL | PF_RECORD
  | TJ_MAX | TJ_MAX_SENSOR | THERMAL_STATE | THROTTLE_F | SENSORS_BROKEN | SHUTDOWNS | T_NOTICE | T_THROTTLE
  | T_CEILING | T_SHUTDOWN | SENSOR_SEL | SENSOR_TEMP | SENSOR_STATE | SENSOR_LAYER | SENSOR_PEAK | LC_REQUEST
  | LC_CHALLENGE | LC_TOKEN | JTAG_OPEN | TAMPER_STATE | TAMPER_COUNT | DBG_ATTACHED | KEY_SEL | KEY_INSTALL
  | FREEZE_MASK_LO | FREEZE_MASK_HI | FREEZE_GO | FREEZE_RELEASE | FREEZE_STATE | FREEZE_MT | FWP_ENABLE
  | FWP_DISTRICT | FWP_CTX | FWP_FIRST | FWP_LAST | FWP_HITS
deriving DecidableEq, Repr

/-- Access kinds (R355). -/
inductive Access
  | ro | rw | rwk | wo | cmd
deriving DecidableEq, Repr

/-- The classes of request that R360 permits or refuses by device state; ownRule is judged by the element's own rule. -/
inductive StateClass
  | always | area30 | plain | idleSafe | baseChange | loadGo | anyLive | safeOnly | runHold | holdOnly | lifecycle | ownRule
deriving DecidableEq, Repr

/-- One row of a map: area, first entry, number of entries, element, type size in bytes (the maximum for TEXT and BLOB),
access, least rights, default, range, class, and whether the type is TEXT or BLOB. -/
structure ElInfo where
  area : Nat
  base : Nat
  cnt : Nat
  el : Nat
  size : Nat
  acc : Access
  rights : Nat
  dflt : Nat
  lo : Nat
  hi : Nat
  cls : StateClass
  blob : Bool
deriving DecidableEq, Repr

/-- The maps of the dictionary: R69, R104, R129, R130, R164, R184, R210, R211, R236, R237, R259, R288, R311, R312, R337,
R363, R364, R366, R367, R371 to R375 and R377, row by row. -/
def El.info : El → ElInfo
  | .TB_STATE => ⟨2, 0, 1, 0, 1, .ro, 0, 0, 0, 255, .plain, false⟩
  | .MT => ⟨2, 1, 1, 0, 8, .ro, 0, 0, 0, 18446744073709551615, .plain, false⟩
  | .CLK_SRC => ⟨2, 2, 1, 0, 1, .rw, 2, 0, 0, 1, .idleSafe, false⟩
  | .TIMING_PORT => ⟨2, 2, 1, 1, 2, .rw, 2, 0, 0, 1023, .idleSafe, false⟩
  | .MCLK_NOMINAL => ⟨2, 3, 1, 0, 4, .rw, 2, 40000000, 5000000, 250000000, .idleSafe, false⟩
  | .MCLK_MEASURED => ⟨2, 3, 1, 1, 4, .ro, 0, 0, 0, 4294967295, .plain, false⟩
  | .ORBIT_LEN => ⟨2, 4, 1, 0, 4, .rw, 2, 2048, 1, 65536, .idleSafe, false⟩
  | .FABRIC_RATIO => ⟨2, 5, 1, 0, 1, .rw, 2, 16, 2, 64, .idleSafe, false⟩
  | .ALIGN_SRC => ⟨2, 6, 1, 0, 1, .rw, 2, 0, 0, 1, .idleSafe, false⟩
  | .ORBIT_OFFSET => ⟨2, 6, 1, 1, 2, .rw, 2, 0, 0, 65535, .plain, false⟩
  | .ORBIT_MISS_LIMIT => ⟨2, 6, 1, 2, 1, .rw, 2, 3, 1, 15, .plain, false⟩
  | .MT_PRESET => ⟨2, 6, 1, 3, 8, .rw, 2, 0, 0, 281474976710655, .plain, false⟩
  | .FINE_DELAY => ⟨2, 7, 1, 0, 2, .rw, 2, 0, 0, 65535, .plain, false⟩
  | .FINE_DELAY_APPLIED => ⟨2, 7, 1, 1, 2, .ro, 0, 0, 0, 65535, .plain, false⟩
  | .SYNC_ROLE => ⟨2, 8, 1, 0, 1, .rw, 2, 0, 0, 2, .idleSafe, false⟩
  | .SYNC_LOCK_GROUP => ⟨2, 8, 1, 1, 1, .rw, 2, 0, 0, 63, .plain, false⟩
  | .MEMBER => ⟨2, 8, 1, 2, 1, .rw, 2, 0, 0, 63, .plain, false⟩
  | .SYNC_EVERY => ⟨2, 8, 1, 3, 2, .rw, 2, 1, 1, 65535, .plain, false⟩
  | .SYNC_SAMPLE_PHASE => ⟨2, 8, 1, 4, 1, .rw, 2, 8, 0, 255, .plain, false⟩
  | .SYNC_MISS_LIMIT => ⟨2, 8, 1, 5, 1, .rw, 2, 3, 1, 15, .plain, false⟩
  | .TB_STATUS => ⟨2, 9, 1, 0, 4, .ro, 0, 0, 0, 4294967295, .plain, false⟩
  | .LOSS_COUNT => ⟨2, 10, 1, 0, 4, .ro, 0, 0, 0, 4294967295, .plain, false⟩
  | .MARKER_ERRORS => ⟨2, 10, 1, 1, 4, .ro, 0, 0, 0, 4294967295, .plain, false⟩
  | .MARKER_MISSING => ⟨2, 10, 1, 2, 4, .ro, 0, 0, 0, 4294967295, .plain, false⟩
  | .SYNC_CRC_ERRORS => ⟨2, 10, 1, 3, 4, .ro, 0, 0, 0, 4294967295, .plain, false⟩
  | .SYNC_MISSING => ⟨2, 10, 1, 4, 4, .ro, 0, 0, 0, 4294967295, .plain, false⟩
  | .SYNC_MISMATCH => ⟨2, 10, 1, 5, 4, .ro, 0, 0, 0, 4294967295, .plain, false⟩
  | .CC_02 => ⟨2, 10, 1, 6, 1, .cmd, 1, 0, 0, 1, .always, false⟩
  | .LAST_LOSS_MT => ⟨2, 11, 1, 0, 8, .ro, 0, 0, 0, 18446744073709551615, .plain, false⟩
  | .LAST_RESUME_MT => ⟨2, 11, 1, 1, 8, .ro, 0, 0, 0, 18446744073709551615, .plain, false⟩
  | .STEP_FIRST => ⟨2, 11, 1, 2, 8, .ro, 0, 0, 0, 18446744073709551615, .plain, false⟩
  | .STEP_LAST => ⟨2, 11, 1, 3, 8, .ro, 0, 0, 0, 18446744073709551615, .plain, false⟩
  | .TT_ACTIVE => ⟨2, 16, 1, 0, 1, .ro, 0, 0, 0, 255, .plain, false⟩
  | .TT_COMMIT => ⟨2, 16, 1, 1, 8, .cmd, 2, 0, 0, 18446744073709551615, .plain, false⟩
  | .TT_COMMIT_STATUS => ⟨2, 16, 1, 2, 1, .ro, 0, 0, 0, 255, .plain, false⟩
  | .TT_REFUSED_ENTRY => ⟨2, 16, 1, 3, 2, .ro, 0, 0, 0, 65535, .plain, false⟩
  | .TT_COPY => ⟨2, 16, 1, 4, 1, .cmd, 2, 0, 0, 1, .plain, false⟩
  | .TT_WINDOW_INDEX => ⟨2, 17, 1, 0, 2, .rw, 2, 0, 0, 4095, .always, false⟩
  | .TT_WORD0 => ⟨2, 17, 1, 1, 4, .rw, 2, 0, 0, 4294967295, .plain, false⟩
  | .TT_WORD1 => ⟨2, 17, 1, 2, 4, .rw, 2, 0, 0, 4294967295, .plain, false⟩
  | .TT_WORD2 => ⟨2, 17, 1, 3, 4, .rw, 2, 0, 0, 4294967295, .plain, false⟩
  | .TT_WORD3 => ⟨2, 17, 1, 4, 4, .rw, 2, 0, 0, 4294967295, .plain, false⟩
  | .TT_WINDOW_SEL => ⟨2, 17, 1, 5, 1, .rw, 2, 0, 0, 1, .always, false⟩
  | .ENABLE => ⟨16, 0, 1024, 0, 1, .rw, 1, 0, 0, 1, .plain, false⟩
  | .CODING => ⟨16, 0, 1024, 1, 1, .rw, 2, 0, 0, 1, .plain, false⟩
  | .RX_MULT => ⟨16, 0, 1024, 2, 2, .rw, 2, 256, 0, 65535, .plain, false⟩
  | .FRAME_WORDS => ⟨16, 0, 1024, 3, 1, .rw, 2, 2, 0, 255, .plain, false⟩
  | .SCRAMBLE => ⟨16, 0, 1024, 4, 1, .rw, 2, 1, 0, 1, .plain, false⟩
  | .RX_POLARITY => ⟨16, 0, 1024, 5, 1, .rw, 1, 0, 0, 1, .plain, false⟩
  | .TAG_MODE => ⟨16, 0, 1024, 6, 1, .rw, 2, 0, 0, 1, .idleSafe, false⟩
  | .TAG_OFFSET => ⟨16, 0, 1024, 7, 2, .rw, 2, 0, 0, 65535, .idleSafe, false⟩
  | .ALIGN_LAT => ⟨16, 0, 1024, 8, 1, .rw, 2, 16, 1, 64, .idleSafe, false⟩
  | .GANG => ⟨16, 0, 1024, 9, 1, .rw, 2, 0, 0, 255, .idleSafe, false⟩
  | .EXPECT_SRC => ⟨16, 0, 1024, 10, 2, .rw, 2, 0, 0, 511, .plain, false⟩
  | .MASK => ⟨16, 0, 1024, 11, 1, .rw, 1, 0, 0, 1, .plain, false⟩
  | .ADAPT => ⟨16, 0, 1024, 12, 1, .rw, 1, 0, 0, 2, .plain, false⟩
  | .CTLE => ⟨16, 0, 1024, 13, 1, .rw, 1, 8, 0, 15, .plain, false⟩
  | .RX_PRBS => ⟨16, 0, 1024, 14, 1, .rw, 1, 0, 0, 3, .plain, false⟩
  | .ALIGN_GUARD => ⟨16, 0, 1024, 15, 1, .rw, 2, 4, 0, 255, .plain, false⟩
  | .PORT_STATE => ⟨17, 0, 1024, 0, 1, .ro, 0, 0, 0, 255, .plain, false⟩
  | .PORT_STATUS => ⟨17, 0, 1024, 1, 4, .ro, 0, 393216, 0, 4294967295, .plain, false⟩
  | .ALIGN_REQ => ⟨17, 0, 1024, 2, 2, .cmd, 1, 0, 64, 65535, .plain, false⟩
  | .ALIGN_RESULT => ⟨17, 0, 1024, 3, 1, .ro, 0, 0, 0, 255, .plain, false⟩
  | .ALIGN_D => ⟨17, 0, 1024, 4, 1, .ro, 0, 0, 0, 255, .plain, false⟩
  | .ALIGN_MIN => ⟨17, 0, 1024, 5, 2, .rw, 2, 64, 16, 65535, .plain, false⟩
  | .LAST_TAG => ⟨17, 0, 1024, 6, 2, .ro, 0, 0, 0, 65535, .plain, false⟩
  | .EQ_STATE => ⟨17, 0, 1024, 7, 4, .ro, 0, 0, 0, 4294967295, .plain, false⟩
  | .LINE_RATE => ⟨17, 0, 1024, 8, 4, .ro, 0, 0, 0, 4294967295, .plain, false⟩
  | .DL_ENABLE => ⟨18, 0, 1024, 0, 1, .rw, 1, 0, 0, 1, .plain, false⟩
  | .TX_MULT => ⟨18, 0, 1024, 1, 2, .rw, 2, 80, 0, 65535, .plain, false⟩
  | .DL_SKEW => ⟨18, 0, 1024, 2, 1, .rw, 2, 0, 0, 255, .plain, false⟩
  | .DL_POLARITY => ⟨18, 0, 1024, 3, 1, .rw, 1, 0, 0, 1, .plain, false⟩
  | .DL_SWING => ⟨18, 0, 1024, 4, 1, .rw, 1, 4, 0, 7, .plain, false⟩
  | .DL_EMPH => ⟨18, 0, 1024, 5, 1, .rw, 1, 0, 0, 7, .plain, false⟩
  | .DL_FABRIC => ⟨18, 0, 1024, 6, 1, .rw, 2, 0, 0, 1, .plain, false⟩
  | .DL_CMD => ⟨18, 0, 1024, 7, 2, .rw, 1, 0, 0, 65535, .plain, false⟩
  | .DL_SEND => ⟨18, 0, 1024, 8, 8, .cmd, 1, 0, 0, 18446744073709551615, .plain, false⟩
  | .DL_SEND_STATUS => ⟨18, 0, 1024, 9, 1, .ro, 0, 0, 0, 255, .plain, false⟩
  | .DL_PRBS => ⟨18, 0, 1024, 10, 1, .rw, 1, 0, 0, 3, .plain, false⟩
  | .FRAMES_OK => ⟨19, 0, 1024, 0, 4, .ro, 0, 0, 0, 4294967295, .plain, false⟩
  | .CODE_ERRORS => ⟨19, 0, 1024, 1, 4, .ro, 0, 0, 0, 4294967295, .plain, false⟩
  | .CRC_ERRORS => ⟨19, 0, 1024, 2, 4, .ro, 0, 0, 0, 4294967295, .plain, false⟩
  | .MISSING => ⟨19, 0, 1024, 3, 4, .ro, 0, 0, 0, 4294967295, .plain, false⟩
  | .LATE => ⟨19, 0, 1024, 4, 4, .ro, 0, 0, 0, 4294967295, .plain, false⟩
  | .DUPLICATE => ⟨19, 0, 1024, 5, 4, .ro, 0, 0, 0, 4294967295, .plain, false⟩
  | .TAG_UNKNOWN => ⟨19, 0, 1024, 6, 4, .ro, 0, 0, 0, 4294967295, .plain, false⟩
  | .TAG_SLIP => ⟨19, 0, 1024, 7, 4, .ro, 0, 0, 0, 4294967295, .plain, false⟩
  | .LENGTH_ERRORS => ⟨19, 0, 1024, 8, 4, .ro, 0, 0, 0, 4294967295, .plain, false⟩
  | .FE_ERRORS => ⟨19, 0, 1024, 9, 4, .ro, 0, 0, 0, 4294967295, .plain, false⟩
  | .SRC_MISMATCH => ⟨19, 0, 1024, 10, 4, .ro, 0, 0, 0, 4294967295, .plain, false⟩
  | .LOCK_LOSSES => ⟨19, 0, 1024, 11, 4, .ro, 0, 0, 0, 4294967295, .plain, false⟩
  | .CMD_DROPPED => ⟨19, 0, 1024, 12, 4, .ro, 0, 0, 0, 4294967295, .plain, false⟩
  | .PRBS_ERRORS => ⟨19, 0, 1024, 13, 4, .ro, 0, 0, 0, 4294967295, .plain, false⟩
  | .CC_13 => ⟨19, 0, 1024, 14, 1, .cmd, 1, 0, 0, 1, .always, false⟩
  | .OWNER => ⟨5, 0, 4096, 0, 1, .rw, 2, 129, 0, 132, .plain, false⟩
  | .OWNER_ACTIVE => ⟨5, 0, 4096, 1, 1, .ro, 0, 129, 0, 255, .plain, false⟩
  | .HANDOVER => ⟨5, 0, 4096, 2, 1, .ro, 0, 0, 0, 255, .plain, false⟩
  | .READ_SHARE => ⟨5, 0, 4096, 3, 1, .rw, 2, 0, 0, 1, .plain, false⟩
  | .POWER => ⟨5, 0, 4096, 4, 1, .rw, 1, 0, 0, 1, .plain, false⟩
  | .POWER_STATE => ⟨5, 0, 4096, 5, 1, .ro, 0, 0, 0, 255, .plain, false⟩
  | .ROLE => ⟨5, 0, 4096, 6, 1, .ro, 0, 0, 0, 255, .plain, false⟩
  | .C0_HOLDER => ⟨5, 0, 4096, 7, 1, .ro, 0, 255, 0, 255, .plain, false⟩
  | .DENIED => ⟨5, 0, 4096, 8, 4, .ro, 0, 0, 0, 4294967295, .plain, false⟩
  | .AGED => ⟨5, 0, 4096, 9, 4, .ro, 0, 0, 0, 4294967295, .plain, false⟩
  | .WAKE_ON_ACCESS => ⟨5, 0, 4096, 10, 4, .ro, 0, 0, 0, 4294967295, .plain, false⟩
  | .C0_ASLEEP => ⟨5, 0, 4096, 11, 4, .ro, 0, 0, 0, 4294967295, .plain, false⟩
  | .CC_05 => ⟨5, 0, 4096, 12, 1, .cmd, 1, 0, 0, 1, .always, false⟩
  | .RING_ENABLE => ⟨6, 0, 64, 0, 1, .rw, 2, 0, 0, 1, .idleSafe, false⟩
  | .RING_FIRST => ⟨6, 0, 64, 1, 1, .rw, 2, 0, 0, 63, .idleSafe, false⟩
  | .RING_BANKS => ⟨6, 0, 64, 2, 1, .rw, 2, 64, 1, 64, .idleSafe, false⟩
  | .RING_WORDS => ⟨6, 0, 64, 3, 1, .ro, 0, 0, 0, 255, .plain, false⟩
  | .RING_K => ⟨6, 0, 64, 4, 2, .ro, 0, 0, 0, 65535, .plain, false⟩
  | .RING_STRIPES => ⟨6, 0, 64, 5, 1, .ro, 0, 0, 0, 255, .plain, false⟩
  | .RING_DEPTH => ⟨6, 0, 64, 6, 4, .ro, 0, 0, 0, 4294967295, .plain, false⟩
  | .RING_OLDEST => ⟨6, 0, 64, 7, 8, .ro, 0, 0, 0, 18446744073709551615, .plain, false⟩
  | .RING_NEWEST => ⟨6, 0, 64, 8, 8, .ro, 0, 0, 0, 18446744073709551615, .plain, false⟩
  | .RING_STATE => ⟨6, 0, 64, 9, 1, .ro, 0, 0, 0, 255, .plain, false⟩
  | .VAULT_ENABLE => ⟨6, 128, 1, 0, 1, .rwk, 3, 0, 0, 1, .plain, false⟩
  | .VAULT_STATE => ⟨6, 128, 1, 1, 1, .ro, 0, 0, 0, 255, .plain, false⟩
  | .VAULT_LOCK => ⟨6, 128, 1, 2, 1, .cmd, 1, 0, 0, 1, .plain, false⟩
  | .VAULT_UNLOCK => ⟨6, 128, 1, 3, 1, .cmd, 3, 0, 0, 1, .plain, false⟩
  | .VAULT_WIPE => ⟨6, 128, 1, 4, 1, .cmd, 3, 0, 0, 1, .plain, false⟩
  | .WIPE_COUNT => ⟨6, 128, 1, 5, 4, .ro, 0, 0, 0, 4294967295, .plain, false⟩
  | .LAST_WIPE_CAUSE => ⟨6, 128, 1, 6, 1, .ro, 0, 0, 0, 255, .plain, false⟩
  | .FABRIC_STATUS => ⟨4, 0, 128, 8, 4, .ro, 0, 12, 0, 4294967295, .plain, false⟩
  | .F_CLOSE => ⟨4, 0, 128, 9, 2, .ro, 0, 0, 0, 65535, .plain, false⟩
  | .UP_CONTENTIONS => ⟨4, 0, 128, 10, 4, .ro, 0, 0, 0, 4294967295, .plain, false⟩
  | .CC_04 => ⟨4, 0, 128, 11, 1, .cmd, 1, 0, 0, 1, .always, false⟩
  | .UP_LAST => ⟨4, 0, 128, 12, 2, .ro, 0, 65535, 0, 65535, .plain, false⟩
  | .UP_CLEAR => ⟨4, 0, 128, 13, 2, .cmd, 2, 0, 0, 1023, .plain, false⟩
  | .DRAM_CORR => ⟨4, 0, 128, 14, 4, .ro, 0, 0, 0, 4294967295, .plain, false⟩
  | .DRAM_UNCORR => ⟨4, 0, 128, 15, 4, .ro, 0, 0, 0, 4294967295, .plain, false⟩
  | .BASE_CTX => ⟨4, 0, 128, 0, 1, .ro, 0, 0, 0, 255, .plain, false⟩
  | .BASE_NEXT => ⟨4, 0, 128, 1, 1, .rw, 2, 255, 0, 255, .baseChange, false⟩
  | .BASE_AT => ⟨4, 0, 128, 2, 8, .cmd, 2, 0, 0, 18446744073709551615, .baseChange, false⟩
  | .PLANES => ⟨4, 0, 128, 3, 4, .ro, 0, 0, 0, 4294967295, .plain, false⟩
  | .LOCK_GROUP => ⟨4, 0, 128, 4, 1, .rw, 2, 255, 0, 255, .idleSafe, false⟩
  | .BOLLARD_STATUS => ⟨4, 0, 128, 5, 4, .ro, 0, 3, 0, 4294967295, .plain, false⟩
  | .CAPTURE_CTRL => ⟨4, 0, 128, 6, 4, .rw, 2, 0, 0, 4294967295, .plain, false⟩
  | .CAPTURE_MT => ⟨4, 0, 128, 7, 8, .rw, 2, 0, 0, 18446744073709551615, .plain, false⟩
  | .PATH_STATE => ⟨32, 0, 64, 0, 1, .ro, 0, 0, 0, 255, .plain, false⟩
  | .PATH_LDEC => ⟨32, 0, 64, 1, 2, .ro, 0, 0, 0, 65535, .plain, false⟩
  | .PATH_S => ⟨32, 0, 64, 2, 2, .ro, 0, 0, 0, 65535, .plain, false⟩
  | .POLICY => ⟨32, 0, 64, 3, 1, .rw, 2, 0, 0, 1, .plain, false⟩
  | .DECISIONS => ⟨32, 0, 64, 4, 4, .ro, 0, 0, 0, 4294967295, .plain, false⟩
  | .ACCEPTS => ⟨32, 0, 64, 5, 4, .ro, 0, 0, 0, 4294967295, .plain, false⟩
  | .MARKERS => ⟨32, 0, 64, 6, 4, .ro, 0, 0, 0, 4294967295, .plain, false⟩
  | .BREACHES => ⟨32, 0, 64, 7, 4, .ro, 0, 0, 0, 4294967295, .plain, false⟩
  | .LAST_BREACH_MT => ⟨32, 0, 64, 8, 8, .ro, 0, 0, 0, 18446744073709551615, .plain, false⟩
  | .LAST_BREACH_KIND => ⟨32, 0, 64, 9, 1, .ro, 0, 0, 0, 255, .plain, false⟩
  | .CC_20 => ⟨32, 0, 64, 10, 1, .cmd, 1, 0, 0, 1, .always, false⟩
  | .BUSY_SRC => ⟨32, 256, 1, 0, 4, .ro, 0, 1, 0, 4294967295, .plain, false⟩
  | .BUSY_FORCE => ⟨32, 256, 1, 1, 1, .rw, 1, 0, 0, 1, .plain, false⟩
  | .BREACH_ACK => ⟨32, 256, 1, 2, 1, .cmd, 1, 0, 0, 1, .plain, false⟩
  | .ACC_TPORT => ⟨32, 256, 1, 3, 1, .rw, 2, 0, 0, 1, .plain, false⟩
  | .LEDGER_STATUS => ⟨32, 256, 1, 4, 1, .ro, 0, 0, 0, 255, .plain, false⟩
  | .LEDGER_FAIL_CHECK => ⟨32, 256, 1, 5, 1, .ro, 0, 0, 0, 255, .plain, false⟩
  | .LEDGER_FAIL_ITEM => ⟨32, 256, 1, 6, 2, .ro, 0, 0, 0, 65535, .plain, false⟩
  | .TAP_PATH => ⟨32, 512, 256, 0, 1, .ro, 0, 255, 0, 255, .plain, false⟩
  | .TAP_PHASE => ⟨32, 512, 256, 1, 1, .ro, 0, 0, 0, 255, .plain, false⟩
  | .TAP_HOLD => ⟨32, 512, 256, 2, 1, .ro, 0, 0, 0, 255, .plain, false⟩
  | .TAP_R => ⟨32, 512, 256, 3, 4, .ro, 0, 0, 0, 4294967295, .plain, false⟩
  | .TAP_OUT => ⟨32, 512, 256, 4, 4, .rw, 1, 0, 0, 4294967295, .plain, false⟩
  | .TAP_DL_MASK => ⟨32, 512, 256, 5, 2, .ro, 0, 0, 0, 65535, .plain, false⟩
  | .TAP_TRUNKS => ⟨32, 512, 256, 6, 4, .ro, 0, 0, 0, 4294967295, .plain, false⟩
  | .SS_MODE => ⟨25, 0, 64, 0, 1, .rw, 2, 0, 0, 5, .idleSafe, false⟩
  | .SS_MULT => ⟨25, 0, 64, 1, 1, .rw, 2, 32, 0, 255, .idleSafe, false⟩
  | .SS_SKEW => ⟨25, 0, 64, 2, 1, .rw, 2, 0, 0, 255, .plain, false⟩
  | .SS_SAMPLE_PHASE => ⟨25, 0, 64, 3, 1, .rw, 2, 8, 0, 255, .plain, false⟩
  | .ACC_DELAY => ⟨25, 0, 64, 4, 2, .rw, 2, 0, 0, 65535, .idleSafe, false⟩
  | .ACC_TYPE => ⟨25, 0, 64, 5, 1, .rw, 2, 0, 0, 15, .plain, false⟩
  | .ACC_COUNT => ⟨25, 0, 64, 6, 4, .ro, 0, 0, 0, 4294967295, .plain, false⟩
  | .ACC_CRC_ERRORS => ⟨25, 0, 64, 7, 4, .ro, 0, 0, 0, 4294967295, .plain, false⟩
  | .ACC_TAG_MISMATCH => ⟨25, 0, 64, 8, 4, .ro, 0, 0, 0, 4294967295, .plain, false⟩
  | .SS_TAP => ⟨25, 0, 64, 9, 2, .ro, 0, 65535, 0, 65535, .plain, false⟩
  | .CC_19 => ⟨25, 0, 64, 10, 1, .cmd, 1, 0, 0, 1, .always, false⟩
  | .EB_GROUP => ⟨40, 0, 1024, 0, 1, .rw, 2, 255, 0, 255, .plain, false⟩
  | .G_ATYPES => ⟨40, 1024, 255, 0, 2, .rw, 2, 0, 0, 65535, .plain, false⟩
  | .G_PRE => ⟨40, 1024, 255, 1, 1, .rw, 2, 2, 0, 255, .plain, false⟩
  | .G_POST => ⟨40, 1024, 255, 2, 1, .rw, 2, 1, 0, 255, .plain, false⟩
  | .G_CLASS => ⟨40, 1024, 255, 3, 1, .rw, 2, 1, 1, 2, .plain, false⟩
  | .G_QBASE => ⟨40, 1024, 255, 4, 2, .rw, 2, 0, 0, 65535, .plain, false⟩
  | .G_QROUND => ⟨40, 1024, 255, 5, 1, .rw, 2, 1, 1, 64, .plain, false⟩
  | .G_QUARTER => ⟨40, 1024, 255, 6, 1, .ro, 0, 255, 0, 255, .plain, false⟩
  | .G_PORTS => ⟨40, 1024, 255, 7, 2, .ro, 0, 0, 0, 65535, .plain, false⟩
  | .G_FRAGMENTS => ⟨40, 1024, 255, 8, 4, .ro, 0, 0, 0, 4294967295, .plain, false⟩
  | .G_EXPIRED => ⟨40, 1024, 255, 9, 4, .ro, 0, 0, 0, 4294967295, .plain, false⟩
  | .G_DAMAGED => ⟨40, 1024, 255, 10, 4, .ro, 0, 0, 0, 4294967295, .plain, false⟩
  | .G_TRUNCATED => ⟨40, 1024, 255, 11, 4, .ro, 0, 0, 0, 4294967295, .plain, false⟩
  | .CC_28G => ⟨40, 1024, 255, 12, 1, .cmd, 1, 0, 0, 1, .always, false⟩
  | .EB_ENABLE => ⟨40, 2048, 1, 0, 1, .rw, 2, 0, 0, 1, .plain, false⟩
  | .ACC_MIN_GAP => ⟨40, 2048, 1, 1, 1, .rw, 2, 0, 0, 255, .plain, false⟩
  | .ACC_BURST => ⟨40, 2048, 1, 2, 2, .rw, 2, 1024, 1, 1024, .plain, false⟩
  | .ACC_REFILL => ⟨40, 2048, 1, 3, 2, .rw, 2, 1, 1, 65535, .plain, false⟩
  | .EVENT_NEXT => ⟨40, 2048, 1, 4, 4, .ro, 0, 0, 0, 4294967295, .plain, false⟩
  | .EVENT_PRESET => ⟨40, 2048, 1, 5, 4, .rw, 2, 0, 0, 4294967295, .idleSafe, false⟩
  | .INTAKE_LEVEL => ⟨40, 2048, 1, 6, 2, .ro, 0, 0, 0, 65535, .plain, false⟩
  | .ACCEPTS_TAKEN => ⟨40, 2048, 1, 7, 4, .ro, 0, 0, 0, 4294967295, .plain, false⟩
  | .REF_BURST => ⟨40, 2048, 1, 8, 4, .ro, 0, 0, 0, 4294967295, .plain, false⟩
  | .REF_GAP => ⟨40, 2048, 1, 9, 4, .ro, 0, 0, 0, 4294967295, .plain, false⟩
  | .REF_RATE => ⟨40, 2048, 1, 10, 4, .ro, 0, 0, 0, 4294967295, .plain, false⟩
  | .REF_FULL => ⟨40, 2048, 1, 11, 4, .ro, 0, 0, 0, 4294967295, .plain, false⟩
  | .NOQUEUE => ⟨40, 2048, 1, 12, 4, .ro, 0, 0, 0, 4294967295, .plain, false⟩
  | .CC_28 => ⟨40, 2048, 1, 13, 1, .cmd, 1, 0, 0, 1, .always, false⟩
  | .QTYPE_OFFSET => ⟨40, 2064, 16, 0, 2, .rw, 2, 0, 0, 65535, .plain, false⟩
  | .QWIN_INDEX => ⟨8, 0, 1, 0, 2, .rw, 2, 0, 0, 65535, .always, false⟩
  | .Q_CTRL => ⟨8, 0, 1, 1, 4, .rw, 2, 2, 0, 1023, .plain, false⟩
  | .Q_BASE => ⟨8, 0, 1, 2, 4, .rw, 2, 0, 0, 67108863, .plain, false⟩
  | .Q_SIZE => ⟨8, 0, 1, 3, 1, .rw, 2, 4, 4, 20, .plain, false⟩
  | .Q_PRODUCER => ⟨8, 0, 1, 4, 2, .rw, 2, 0, 0, 65535, .plain, false⟩
  | .Q_CONSUMER => ⟨8, 0, 1, 5, 2, .rw, 2, 0, 0, 65535, .plain, false⟩
  | .Q_HEAD => ⟨8, 0, 1, 6, 4, .ro, 0, 0, 0, 4294967295, .plain, false⟩
  | .Q_TAIL => ⟨8, 0, 1, 7, 4, .ro, 0, 0, 0, 4294967295, .plain, false⟩
  | .Q_LEVEL => ⟨8, 0, 1, 8, 4, .ro, 0, 0, 0, 4294967295, .plain, false⟩
  | .Q_FRAGMENTS => ⟨8, 0, 1, 9, 4, .ro, 0, 0, 0, 4294967295, .plain, false⟩
  | .Q_STALLS => ⟨8, 0, 1, 10, 4, .ro, 0, 0, 0, 4294967295, .plain, false⟩
  | .Q_OVERSIZE => ⟨8, 0, 1, 11, 4, .ro, 0, 0, 0, 4294967295, .plain, false⟩
  | .Q_FLUSH => ⟨8, 0, 1, 12, 1, .cmd, 2, 0, 0, 1, .plain, false⟩
  | .CC_08 => ⟨8, 0, 1, 13, 1, .cmd, 1, 0, 0, 1, .always, false⟩
  | .Q_ENABLED => ⟨8, 1, 1, 0, 4, .ro, 0, 0, 0, 4294967295, .plain, false⟩
  | .TK_ENABLE => ⟨24, 0, 32, 0, 1, .rw, 1, 0, 0, 1, .plain, false⟩
  | .TK_RATE => ⟨24, 0, 32, 1, 1, .rw, 2, 0, 0, 2, .plain, false⟩
  | .TK_MODE => ⟨24, 0, 32, 2, 1, .rw, 2, 0, 0, 2, .plain, false⟩
  | .C0_PHASE => ⟨24, 0, 32, 3, 1, .rw, 2, 0, 0, 255, .idleSafe, false⟩
  | .C0_RX_DELAY => ⟨24, 0, 32, 4, 1, .rw, 2, 8, 1, 64, .idleSafe, false⟩
  | .MGMT_EN => ⟨24, 0, 32, 5, 1, .rwk, 2, 0, 0, 1, .plain, false⟩
  | .RX_QBASE => ⟨24, 0, 32, 6, 2, .rw, 2, 0, 0, 65535, .plain, false⟩
  | .REPLAY_TIMEOUT => ⟨24, 0, 32, 7, 2, .rw, 2, 100, 10, 65535, .plain, false⟩
  | .TX_PRESET => ⟨24, 0, 32, 8, 1, .rw, 1, 0, 0, 5, .plain, false⟩
  | .TK_POLARITY => ⟨24, 0, 32, 9, 1, .rw, 1, 0, 0, 3, .plain, false⟩
  | .TK_PRBS => ⟨24, 0, 32, 10, 1, .rw, 1, 0, 0, 3, .plain, false⟩
  | .RETRAIN => ⟨24, 0, 32, 11, 1, .cmd, 1, 0, 0, 1, .plain, false⟩
  | .TK_RESET => ⟨24, 0, 32, 12, 1, .cmd, 2, 0, 0, 1, .plain, false⟩
  | .LINK_STATE => ⟨24, 256, 32, 0, 1, .ro, 0, 0, 0, 255, .plain, false⟩
  | .TK_STATUS => ⟨24, 256, 32, 1, 4, .ro, 0, 0, 0, 4294967295, .plain, false⟩
  | .TX_SEQ => ⟨24, 256, 32, 2, 2, .ro, 0, 0, 0, 65535, .plain, false⟩
  | .ACKED_SEQ => ⟨24, 256, 32, 3, 2, .ro, 0, 0, 0, 65535, .plain, false⟩
  | .RX_EXPECT => ⟨24, 256, 32, 4, 2, .ro, 0, 0, 0, 65535, .plain, false⟩
  | .FEC_CORRECTED => ⟨24, 256, 32, 5, 4, .ro, 0, 0, 0, 4294967295, .plain, false⟩
  | .FEC_UNCORR => ⟨24, 256, 32, 6, 4, .ro, 0, 0, 0, 4294967295, .plain, false⟩
  | .REPLAYS => ⟨24, 256, 32, 7, 4, .ro, 0, 0, 0, 4294967295, .plain, false⟩
  | .RETRAINS => ⟨24, 256, 32, 8, 4, .ro, 0, 0, 0, 4294967295, .plain, false⟩
  | .C0_SENT => ⟨24, 256, 32, 9, 4, .ro, 0, 0, 0, 4294967295, .plain, false⟩
  | .C0_LOST => ⟨24, 256, 32, 10, 4, .ro, 0, 0, 0, 4294967295, .plain, false⟩
  | .C0_LATE => ⟨24, 256, 32, 11, 4, .ro, 0, 0, 0, 4294967295, .plain, false⟩
  | .RX_DISCARDED => ⟨24, 256, 32, 12, 4, .ro, 0, 0, 0, 4294967295, .plain, false⟩
  | .RX_NOQUEUE => ⟨24, 256, 32, 13, 4, .ro, 0, 0, 0, 4294967295, .plain, false⟩
  | .TK_PRBS_ERRORS => ⟨24, 256, 32, 14, 4, .ro, 0, 0, 0, 4294967295, .plain, false⟩
  | .CC_18 => ⟨24, 256, 32, 15, 1, .cmd, 1, 0, 0, 1, .always, false⟩
  | .ETH_DST => ⟨24, 512, 32, 0, 8, .rw, 2, 0, 0, 281474976710655, .plain, false⟩
  | .ETH_SRC => ⟨24, 512, 32, 1, 8, .rw, 2, 0, 0, 281474976710655, .plain, false⟩
  | .ETH_TYPE => ⟨24, 512, 32, 2, 2, .rw, 2, 34997, 0, 65535, .plain, false⟩
  | .IP_SRC => ⟨24, 512, 32, 3, 4, .rw, 2, 0, 0, 4294967295, .plain, false⟩
  | .IP_DST => ⟨24, 512, 32, 4, 4, .rw, 2, 0, 0, 4294967295, .plain, false⟩
  | .UDP_SPORT => ⟨24, 512, 32, 5, 2, .rw, 2, 49152, 0, 65535, .plain, false⟩
  | .UDP_DPORT => ⟨24, 512, 32, 6, 2, .rw, 2, 49152, 0, 65535, .plain, false⟩
  | .IP_TTL_DSCP => ⟨24, 512, 32, 7, 2, .rw, 2, 64, 0, 16383, .plain, false⟩
  | .ETH_MTU => ⟨24, 512, 32, 8, 2, .rw, 2, 9000, 576, 9000, .plain, false⟩
  | .ARP_ICMP_EN => ⟨24, 512, 32, 9, 1, .rw, 2, 1, 0, 1, .plain, false⟩
  | .LOAD_STATE => ⟨3, 0, 1, 0, 1, .ro, 0, 0, 0, 255, .plain, false⟩
  | .LOAD_REASON => ⟨3, 0, 1, 1, 1, .ro, 0, 0, 0, 255, .plain, false⟩
  | .LOAD_DETAIL => ⟨3, 0, 1, 2, 2, .ro, 0, 0, 0, 65535, .plain, false⟩
  | .LOAD_BYTES => ⟨3, 0, 1, 3, 8, .ro, 0, 0, 0, 18446744073709551615, .plain, false⟩
  | .LOAD_SECTION => ⟨3, 0, 1, 4, 2, .ro, 0, 0, 0, 65535, .plain, false⟩
  | .LOAD_FALLBACK => ⟨3, 0, 1, 5, 1, .ro, 0, 0, 0, 1, .plain, false⟩
  | .LOAD_SRC => ⟨3, 1, 1, 0, 1, .rw, 2, 0, 0, 4, .plain, false⟩
  | .LOAD_ADDR => ⟨3, 1, 1, 1, 4, .rw, 2, 0, 0, 4294967295, .plain, false⟩
  | .LOAD_GO => ⟨3, 1, 1, 2, 1, .cmd, 2, 0, 0, 1, .loadGo, false⟩
  | .LOAD_ABORT => ⟨3, 1, 1, 3, 1, .cmd, 2, 0, 0, 1, .anyLive, false⟩
  | .PRIMARY_ADDR => ⟨3, 2, 1, 0, 4, .rwk, 2, 0, 0, 4294967295, .plain, false⟩
  | .GOLDEN_ADDR => ⟨3, 2, 1, 1, 4, .rwk, 3, 4294967295, 0, 4294967295, .plain, false⟩
  | .RELEASE_SPACING => ⟨3, 2, 1, 2, 1, .rw, 2, 1, 0, 255, .plain, false⟩
  | .STRAPS => ⟨3, 2, 1, 3, 2, .ro, 0, 0, 0, 65535, .plain, false⟩
  | .AR_COUNTER => ⟨3, 3, 1, 0, 2, .ro, 0, 0, 0, 65535, .plain, false⟩
  | .AR_ADVANCE => ⟨3, 3, 1, 1, 2, .cmd, 3, 0, 0, 65535, .plain, false⟩
  | .KEY_STATE => ⟨3, 3, 1, 2, 4, .ro, 0, 0, 0, 4294967295, .plain, false⟩
  | .KEY_REVOKE => ⟨3, 3, 1, 3, 1, .cmd, 3, 0, 0, 3, .plain, false⟩
  | .IMAGE_ID => ⟨3, 4, 1, 0, 16, .ro, 0, 0, 0, 0, .plain, true⟩
  | .IMAGE_AR => ⟨3, 4, 1, 1, 2, .ro, 0, 0, 0, 65535, .plain, false⟩
  | .TICKET_QUERY => ⟨3, 5, 1, 0, 2, .rw, 1, 0, 0, 65535, .always, false⟩
  | .TICKET_STATE => ⟨3, 5, 1, 1, 1, .ro, 0, 0, 0, 255, .plain, false⟩
  | .TICKET_LAST => ⟨3, 5, 1, 2, 2, .ro, 0, 0, 0, 65535, .plain, false⟩
  | .IP_RAW_ALLOWED => ⟨3, 5, 1, 3, 1, .ro, 0, 0, 0, 1, .plain, false⟩
  | .IP_HOST => ⟨3, 256, 128, 0, 1, .rw, 2, 255, 0, 255, .idleSafe, false⟩
  | .SCRUB_ENABLE => ⟨7, 0, 1, 0, 1, .rw, 2, 1, 0, 1, .plain, false⟩
  | .SCRUB_PERIOD => ⟨7, 0, 1, 1, 2, .rw, 2, 60, 1, 3600, .plain, false⟩
  | .SCRUB_PASSES => ⟨7, 0, 1, 2, 4, .ro, 0, 0, 0, 4294967295, .plain, false⟩
  | .SCRUB_LAST_PASS => ⟨7, 0, 1, 3, 4, .ro, 0, 0, 0, 4294967295, .plain, false⟩
  | .SCRUB_RATE => ⟨7, 0, 1, 4, 2, .ro, 0, 256, 0, 65535, .plain, false⟩
  | .SCRUB_SKIPPED => ⟨7, 0, 1, 5, 4, .ro, 0, 0, 0, 4294967295, .plain, false⟩
  | .POISON_WRITTEN => ⟨7, 0, 1, 6, 4, .ro, 0, 0, 0, 4294967295, .plain, false⟩
  | .REPAIR_DROPPED => ⟨7, 0, 1, 7, 4, .ro, 0, 0, 0, 4294967295, .plain, false⟩
  | .CC_07 => ⟨7, 0, 1, 8, 1, .cmd, 1, 0, 0, 1, .always, false⟩
  | .MI_BANK => ⟨7, 1, 1, 0, 2, .rw, 1, 0, 0, 4095, .always, false⟩
  | .CE_COUNT => ⟨7, 1, 1, 1, 4, .ro, 0, 0, 0, 4294967295, .plain, false⟩
  | .UE_COUNT => ⟨7, 1, 1, 2, 4, .ro, 0, 0, 0, 4294967295, .plain, false⟩
  | .POISON_READS => ⟨7, 1, 1, 3, 4, .ro, 0, 0, 0, 4294967295, .plain, false⟩
  | .LB_LEVEL => ⟨7, 1, 1, 4, 1, .ro, 0, 0, 0, 255, .plain, false⟩
  | .LB_THRESHOLD => ⟨7, 1, 1, 5, 1, .rw, 2, 16, 1, 255, .plain, false⟩
  | .LB_LEAK => ⟨7, 1, 1, 6, 2, .rw, 2, 1000, 0, 65535, .plain, false⟩
  | .LB_OVERFLOWS => ⟨7, 1, 1, 7, 4, .ro, 0, 0, 0, 4294967295, .plain, false⟩
  | .CE_LAST => ⟨7, 1, 1, 8, 4, .ro, 0, 0, 0, 4294967295, .plain, false⟩
  | .UE_LAST => ⟨7, 1, 1, 9, 4, .ro, 0, 0, 0, 4294967295, .plain, false⟩
  | .INVALIDATE => ⟨7, 1, 1, 10, 1, .cmd, 2, 0, 0, 1, .plain, false⟩
  | .INV_STATE => ⟨7, 1, 1, 11, 1, .ro, 0, 0, 0, 255, .plain, false⟩
  | .CC_07B => ⟨7, 1, 1, 12, 1, .cmd, 1, 0, 0, 1, .always, false⟩
  | .RT_COUNT => ⟨7, 2, 1, 0, 2, .ro, 0, 0, 0, 65535, .plain, false⟩
  | .RT_RETIRE => ⟨7, 2, 1, 1, 4, .cmd, 2, 0, 0, 262143, .plain, false⟩
  | .RT_UNRETIRE => ⟨7, 2, 1, 2, 4, .cmd, 3, 0, 0, 262143, .plain, false⟩
  | .RT_INDEX => ⟨7, 2, 1, 3, 2, .rw, 1, 0, 0, 4095, .always, false⟩
  | .RT_ENTRY => ⟨7, 2, 1, 4, 4, .ro, 0, 4294967295, 0, 4294967295, .plain, false⟩
  | .RT_STATE => ⟨7, 2, 1, 5, 1, .ro, 0, 0, 0, 255, .plain, false⟩
  | .FLIP_BANK => ⟨7, 3, 1, 0, 2, .rw, 2, 0, 0, 4095, .plain, false⟩
  | .FLIP_DATA => ⟨7, 3, 1, 1, 8, .rw, 2, 0, 0, 18446744073709551615, .plain, false⟩
  | .FLIP_CHECK => ⟨7, 3, 1, 2, 1, .rw, 2, 0, 0, 255, .plain, false⟩
  | .FLIP_ARM => ⟨7, 3, 1, 3, 1, .cmd, 2, 0, 0, 1, .plain, false⟩
  | .FLIP_STATE => ⟨7, 3, 1, 4, 1, .ro, 0, 0, 0, 255, .plain, false⟩
  | .FLIP_ADDR => ⟨7, 3, 1, 5, 4, .ro, 0, 0, 0, 4294967295, .plain, false⟩
  | .SPARE0_FOR => ⟨6, 0, 64, 10, 1, .ro, 0, 255, 0, 255, .plain, false⟩
  | .SPARE1_FOR => ⟨6, 0, 64, 11, 1, .ro, 0, 255, 0, 255, .plain, false⟩
  | .SUBSTITUTE => ⟨6, 0, 64, 12, 1, .cmd, 2, 0, 0, 63, .plain, false⟩
  | .SUB_STATE => ⟨6, 0, 64, 13, 1, .ro, 0, 0, 0, 255, .plain, false⟩
  | .UNSUBSTITUTE => ⟨6, 0, 64, 14, 1, .cmd, 3, 0, 0, 1, .plain, false⟩
  | .SUB_COPY_UE => ⟨6, 0, 64, 15, 4, .ro, 0, 0, 0, 4294967295, .plain, false⟩
  | .CS_ENABLE => ⟨1, 16, 1, 0, 1, .rwk, 2, 1, 0, 1, .plain, false⟩
  | .CS_STATE => ⟨1, 16, 1, 1, 1, .ro, 0, 1, 0, 255, .plain, false⟩
  | .CS_STATUS => ⟨1, 16, 1, 2, 4, .ro, 0, 3, 0, 4294967295, .plain, false⟩
  | .CS_RESET => ⟨1, 16, 1, 3, 1, .cmd, 2, 0, 0, 1, .plain, false⟩
  | .CS_PASSES => ⟨1, 16, 1, 4, 4, .ro, 0, 0, 0, 4294967295, .plain, false⟩
  | .CS_LAST_PASS => ⟨1, 16, 1, 5, 4, .ro, 0, 0, 0, 4294967295, .plain, false⟩
  | .CS_CORRECTED => ⟨1, 16, 1, 6, 4, .ro, 0, 0, 0, 4294967295, .plain, false⟩
  | .CS_RELOADED => ⟨1, 16, 1, 7, 4, .ro, 0, 0, 0, 4294967295, .plain, false⟩
  | .CS_FAILED => ⟨1, 16, 1, 8, 4, .ro, 0, 0, 0, 4294967295, .plain, false⟩
  | .CS_SELF_UPSETS => ⟨1, 16, 1, 9, 4, .ro, 0, 0, 0, 4294967295, .plain, false⟩
  | .CS_DEFERRED => ⟨1, 16, 1, 10, 4, .ro, 0, 0, 0, 4294967295, .plain, false⟩
  | .CC_01 => ⟨1, 16, 1, 11, 1, .cmd, 1, 0, 0, 1, .always, false⟩
  | .FR_ENABLE => ⟨1, 17, 1, 0, 1, .rwk, 2, 0, 0, 1, .idleSafe, false⟩
  | .FR_FIRST => ⟨1, 17, 1, 1, 2, .rwk, 2, 0, 0, 4095, .idleSafe, false⟩
  | .FR_BANKS => ⟨1, 17, 1, 2, 2, .rwk, 2, 0, 0, 4096, .idleSafe, false⟩
  | .FR_SLOT_BANKS => ⟨1, 17, 1, 3, 1, .rwk, 2, 5, 1, 5, .idleSafe, false⟩
  | .FR_SLOTS => ⟨1, 17, 1, 4, 2, .ro, 0, 0, 0, 65535, .plain, false⟩
  | .FR_COVERED => ⟨1, 17, 1, 5, 2, .ro, 0, 0, 0, 65535, .plain, false⟩
  | .FR_QUERY => ⟨1, 17, 1, 6, 2, .rw, 1, 0, 0, 1023, .always, false⟩
  | .FR_QUERY_STATE => ⟨1, 17, 1, 7, 1, .ro, 0, 0, 0, 255, .plain, false⟩
  | .I3C_STATE => ⟨48, 0, 1, 0, 1, .ro, 0, 0, 0, 255, .plain, false⟩
  | .I3C_DA => ⟨48, 0, 1, 1, 1, .ro, 0, 0, 0, 255, .plain, false⟩
  | .I3C_PID => ⟨48, 0, 1, 2, 8, .ro, 0, 0, 0, 18446744073709551615, .plain, false⟩
  | .HJ_EN => ⟨48, 0, 1, 3, 1, .rwk, 2, 1, 0, 1, .area30, false⟩
  | .IBI_MASK => ⟨48, 0, 1, 4, 4, .rw, 1, 15, 0, 15, .area30, false⟩
  | .ALERT_LEVEL => ⟨48, 0, 1, 5, 1, .rw, 1, 4, 0, 5, .area30, false⟩
  | .ALERT_PENDING => ⟨48, 0, 1, 6, 1, .ro, 0, 0, 0, 255, .plain, false⟩
  | .ALERT_ACK => ⟨48, 0, 1, 7, 1, .cmd, 1, 0, 0, 1, .always, false⟩
  | .SUSIS_CRC_ERRORS => ⟨48, 0, 1, 8, 4, .ro, 0, 0, 0, 4294967295, .plain, false⟩
  | .SUSIS_MALFORMED => ⟨48, 0, 1, 9, 4, .ro, 0, 0, 0, 4294967295, .plain, false⟩
  | .CC_30I => ⟨48, 0, 1, 10, 1, .cmd, 1, 0, 0, 1, .always, false⟩
  | .CAN_STATE => ⟨48, 1, 1, 0, 1, .ro, 0, 0, 0, 255, .plain, false⟩
  | .CAN_ENABLE => ⟨48, 1, 1, 1, 1, .rwk, 2, 1, 0, 1, .area30, false⟩
  | .CAN_PFX => ⟨48, 1, 1, 2, 2, .rwk, 2, 165, 0, 511, .area30, false⟩
  | .CAN_NODE => ⟨48, 1, 1, 3, 1, .rwk, 2, 255, 0, 255, .area30, false⟩
  | .CAN_NOM_RATE => ⟨48, 1, 1, 4, 1, .rwk, 2, 2, 0, 3, .area30, false⟩
  | .CAN_DATA_RATE => ⟨48, 1, 1, 5, 1, .rwk, 2, 2, 0, 4, .area30, false⟩
  | .CAN_TEC_REC => ⟨48, 1, 1, 6, 2, .ro, 0, 0, 0, 65535, .plain, false⟩
  | .CAN_RATE_DROPS => ⟨48, 1, 1, 7, 4, .ro, 0, 0, 0, 4294967295, .plain, false⟩
  | .CAN_BUS_OFF => ⟨48, 1, 1, 8, 4, .ro, 0, 0, 0, 4294967295, .plain, false⟩
  | .CC_30C => ⟨48, 1, 1, 9, 1, .cmd, 1, 0, 0, 1, .always, false⟩
  | .EXPERT_LOCK => ⟨48, 2, 1, 0, 1, .cmd, 2, 0, 0, 1, .always, false⟩
  | .LOCK_OWNER => ⟨48, 2, 1, 1, 1, .ro, 0, 0, 0, 255, .plain, false⟩
  | .LOCK_TIMEOUT => ⟨48, 2, 1, 2, 2, .rw, 2, 10, 1, 3600, .area30, false⟩
  | .LOCK_BREAK => ⟨48, 2, 1, 3, 1, .cmd, 3, 0, 0, 1, .always, false⟩
  | .RIGHTS_I3C => ⟨48, 2, 1, 4, 1, .rwk, 3, 2, 0, 3, .area30, false⟩
  | .RIGHTS_CAN => ⟨48, 2, 1, 5, 1, .rwk, 3, 1, 0, 3, .area30, false⟩
  | .RIGHTS_IVTOR => ⟨48, 2, 1, 6, 1, .rwk, 3, 2, 0, 3, .area30, false⟩
  | .MY_CONTROLLER => ⟨48, 2, 1, 7, 1, .ro, 0, 0, 0, 255, .plain, false⟩
  | .MY_RIGHTS => ⟨48, 2, 1, 8, 1, .ro, 0, 0, 0, 255, .plain, false⟩
  | .REFUSED_STATE => ⟨48, 2, 1, 9, 4, .ro, 0, 0, 0, 4294967295, .plain, false⟩
  | .CC_30R => ⟨48, 2, 1, 10, 1, .cmd, 1, 0, 0, 1, .always, false⟩
  | .DP_BIND => ⟨112, 0, 8, 0, 1, .rw, 2, 0, 0, 6, .plain, false⟩
  | .DP_TARGET => ⟨112, 0, 8, 1, 2, .rw, 2, 0, 0, 65535, .plain, false⟩
  | .DP_ADDR => ⟨112, 0, 8, 2, 4, .rw, 1, 0, 0, 4294967295, .plain, false⟩
  | .DP_DATA => ⟨112, 0, 8, 3, 4096, .rw, 1, 0, 0, 0, .ownRule, true⟩
  | .DP_STATUS => ⟨112, 0, 8, 4, 4, .ro, 0, 0, 0, 4294967295, .plain, false⟩
  | .DP_LIMIT => ⟨112, 0, 8, 5, 4, .ro, 0, 0, 0, 4294967295, .plain, false⟩
  | .VENDOR => ⟨0, 0, 1, 0, 2, .ro, 0, 709, 0, 65535, .plain, false⟩
  | .PART => ⟨0, 0, 1, 1, 2, .ro, 0, 4132, 0, 65535, .plain, false⟩
  | .REVISION => ⟨0, 0, 1, 2, 2, .ro, 0, 0, 0, 65535, .plain, false⟩
  | .SPEED_GRADE => ⟨0, 0, 1, 3, 1, .ro, 0, 1, 0, 255, .plain, false⟩
  | .TEMP_GRADE => ⟨0, 0, 1, 4, 1, .ro, 0, 0, 0, 255, .plain, false⟩
  | .SERIAL => ⟨0, 0, 1, 5, 8, .ro, 0, 0, 0, 18446744073709551615, .plain, false⟩
  | .ROM_VERSION => ⟨0, 0, 1, 6, 4, .ro, 0, 0, 0, 4294967295, .plain, false⟩
  | .FW_VERSION => ⟨0, 0, 1, 7, 4, .ro, 0, 0, 0, 4294967295, .plain, false⟩
  | .LIFECYCLE => ⟨0, 0, 1, 8, 1, .ro, 0, 0, 0, 255, .plain, false⟩
  | .DEV_NAME => ⟨0, 0, 1, 9, 32, .rwk, 1, 0, 0, 0, .plain, true⟩
  | .DEV_STATE => ⟨1, 0, 1, 0, 1, .ro, 0, 0, 0, 255, .plain, false⟩
  | .PREV_STATE => ⟨1, 0, 1, 1, 1, .ro, 0, 0, 0, 255, .plain, false⟩
  | .STATE_MT => ⟨1, 0, 1, 2, 8, .ro, 0, 0, 0, 18446744073709551615, .plain, false⟩
  | .SAFE_CAUSE => ⟨1, 0, 1, 3, 1, .ro, 0, 0, 0, 255, .plain, false⟩
  | .SAFE_ENTER => ⟨1, 0, 1, 4, 1, .cmd, 2, 0, 0, 1, .anyLive, false⟩
  | .SAFE_LEAVE => ⟨1, 0, 1, 5, 1, .cmd, 2, 0, 0, 1, .safeOnly, false⟩
  | .RESET_CMD => ⟨1, 0, 1, 6, 1, .cmd, 2, 0, 1, 2, .anyLive, false⟩
  | .RESET_CAUSE => ⟨1, 0, 1, 7, 1, .ro, 0, 0, 0, 255, .plain, false⟩
  | .UPTIME => ⟨1, 0, 1, 8, 8, .ro, 0, 0, 0, 18446744073709551615, .plain, false⟩
  | .SS_FIO_CFG => ⟨25, 0, 64, 11, 4, .rw, 2, 257, 0, 4294967295, .idleSafe, false⟩
  | .FIO_STATUS => ⟨25, 0, 64, 12, 4, .ro, 0, 0, 0, 4294967295, .plain, false⟩
  | .CORE_STATE => ⟨56, 0, 1, 0, 1, .ro, 0, 0, 0, 255, .plain, false⟩
  | .CORE_RESETS => ⟨56, 0, 1, 1, 4, .ro, 0, 0, 0, 4294967295, .plain, false⟩
  | .CORE_RESET_CAUSE => ⟨56, 0, 1, 2, 1, .ro, 0, 0, 0, 255, .plain, false⟩
  | .WDT_ENABLE => ⟨56, 1, 1, 0, 1, .rwk, 3, 1, 0, 1, .plain, false⟩
  | .WDT_TIMEOUT => ⟨56, 1, 1, 1, 4, .rwk, 2, 1000, 1, 10000, .plain, false⟩
  | .WDT_STAGE => ⟨56, 1, 1, 2, 1, .ro, 0, 0, 0, 255, .plain, false⟩
  | .WDT_REMAINING => ⟨56, 1, 1, 3, 4, .ro, 0, 1000, 0, 4294967295, .plain, false⟩
  | .WDT_RESETS => ⟨56, 1, 1, 4, 4, .ro, 0, 0, 0, 4294967295, .plain, false⟩
  | .KP_STATE => ⟨56, 2, 1, 0, 1, .ro, 0, 0, 0, 255, .plain, false⟩
  | .KP_WORN => ⟨56, 2, 1, 1, 4, .ro, 0, 0, 0, 4294967295, .plain, false⟩
  | .KP_RESERVE_FREE => ⟨56, 2, 1, 2, 2, .ro, 0, 4096, 0, 65535, .plain, false⟩
  | .KP_SECTOR => ⟨56, 2, 1, 3, 4, .rw, 1, 0, 0, 524287, .always, false⟩
  | .KP_WEAR => ⟨56, 2, 1, 4, 4, .ro, 0, 0, 0, 4294967295, .plain, false⟩
  | .KP_ERRORS => ⟨56, 2, 1, 5, 4, .ro, 0, 0, 0, 4294967295, .plain, false⟩
  | .BIST_KIND => ⟨64, 0, 1, 0, 1, .rw, 2, 0, 0, 2, .plain, false⟩
  | .BIST_TARGET => ⟨64, 0, 1, 1, 2, .rw, 2, 0, 0, 8191, .plain, false⟩
  | .BIST_MODE => ⟨64, 0, 1, 2, 1, .rw, 2, 0, 0, 1, .plain, false⟩
  | .BIST_ALGO => ⟨64, 0, 1, 3, 1, .rw, 2, 0, 0, 3, .plain, false⟩
  | .BIST_GO => ⟨64, 0, 1, 4, 1, .cmd, 2, 0, 0, 1, .ownRule, false⟩
  | .BIST_ABORT => ⟨64, 0, 1, 5, 1, .cmd, 2, 0, 0, 1, .anyLive, false⟩
  | .BIST_STATE => ⟨64, 0, 1, 6, 1, .ro, 0, 0, 0, 255, .plain, false⟩
  | .BIST_RESULT => ⟨64, 0, 1, 7, 1, .ro, 0, 0, 0, 255, .plain, false⟩
  | .BIST_PLANNED => ⟨64, 0, 1, 8, 4, .ro, 0, 0, 0, 4294967295, .plain, false⟩
  | .BIST_EXECUTED => ⟨64, 0, 1, 9, 4, .ro, 0, 0, 0, 4294967295, .plain, false⟩
  | .BIST_SIG => ⟨64, 0, 1, 10, 8, .ro, 0, 0, 0, 18446744073709551615, .plain, false⟩
  | .BIST_FAIL_ADDR => ⟨64, 0, 1, 11, 4, .ro, 0, 4294967295, 0, 4294967295, .plain, false⟩
  | .BIST_REPAIRS => ⟨64, 0, 1, 12, 4, .ro, 0, 0, 0, 4294967295, .plain, false⟩
  | .CC_40 => ⟨64, 0, 1, 13, 1, .cmd, 1, 0, 0, 1, .always, false⟩
  | .REC_CAPACITY => ⟨72, 0, 1, 0, 4, .ro, 0, 0, 0, 4294967295, .plain, false⟩
  | .REC_COUNT => ⟨72, 0, 1, 1, 4, .ro, 0, 0, 0, 4294967295, .plain, false⟩
  | .REC_SEQ_NEXT => ⟨72, 0, 1, 2, 4, .ro, 0, 0, 0, 4294967295, .plain, false⟩
  | .REC_SEQ_OLDEST => ⟨72, 0, 1, 3, 4, .ro, 0, 0, 0, 4294967295, .plain, false⟩
  | .REC_SEL => ⟨72, 0, 1, 4, 4, .rw, 1, 0, 0, 4294967295, .always, false⟩
  | .REC_RECORD => ⟨72, 0, 1, 5, 64, .ro, 0, 0, 0, 0, .plain, true⟩
  | .REC_LOST => ⟨72, 0, 1, 6, 4, .ro, 0, 0, 0, 4294967295, .plain, false⟩
  | .REC_MIN_SEVERITY => ⟨72, 0, 1, 7, 1, .rw, 1, 1, 0, 5, .plain, false⟩
  | .REC_CLEAR => ⟨72, 0, 1, 8, 1, .cmd, 3, 0, 0, 1, .plain, false⟩
  | .PF_COUNT => ⟨72, 1, 1, 0, 2, .ro, 0, 0, 0, 65535, .plain, false⟩
  | .PF_SEL => ⟨72, 1, 1, 1, 2, .rw, 1, 0, 0, 65535, .always, false⟩
  | .PF_RECORD => ⟨72, 1, 1, 2, 64, .ro, 0, 0, 0, 0, .plain, true⟩
  | .TJ_MAX => ⟨80, 0, 1, 0, 2, .ro, 0, 0, 0, 65535, .plain, false⟩
  | .TJ_MAX_SENSOR => ⟨80, 0, 1, 1, 1, .ro, 0, 0, 0, 255, .plain, false⟩
  | .THERMAL_STATE => ⟨80, 0, 1, 2, 1, .ro, 0, 0, 0, 255, .plain, false⟩
  | .THROTTLE_F => ⟨80, 0, 1, 3, 2, .ro, 0, 0, 0, 65535, .plain, false⟩
  | .SENSORS_BROKEN => ⟨80, 0, 1, 4, 1, .ro, 0, 0, 0, 255, .plain, false⟩
  | .SHUTDOWNS => ⟨80, 0, 1, 5, 4, .ro, 0, 0, 0, 4294967295, .plain, false⟩
  | .T_NOTICE => ⟨80, 1, 1, 0, 2, .rwk, 2, 5440, 0, 65535, .plain, false⟩
  | .T_THROTTLE => ⟨80, 1, 1, 1, 2, .rwk, 2, 6080, 0, 65535, .plain, false⟩
  | .T_CEILING => ⟨80, 1, 1, 2, 2, .rwk, 2, 6720, 0, 65535, .plain, false⟩
  | .T_SHUTDOWN => ⟨80, 1, 1, 3, 2, .rwk, 2, 7168, 0, 65535, .plain, false⟩
  | .SENSOR_SEL => ⟨80, 2, 1, 0, 1, .rw, 1, 0, 0, 95, .always, false⟩
  | .SENSOR_TEMP => ⟨80, 2, 1, 1, 2, .ro, 0, 0, 0, 65535, .plain, false⟩
  | .SENSOR_STATE => ⟨80, 2, 1, 2, 1, .ro, 0, 0, 0, 255, .plain, false⟩
  | .SENSOR_LAYER => ⟨80, 2, 1, 3, 1, .ro, 0, 0, 0, 255, .plain, false⟩
  | .SENSOR_PEAK => ⟨80, 2, 1, 4, 2, .ro, 0, 0, 0, 65535, .plain, false⟩
  | .LC_REQUEST => ⟨88, 0, 1, 0, 1, .cmd, 3, 0, 0, 4, .lifecycle, false⟩
  | .LC_CHALLENGE => ⟨88, 0, 1, 1, 32, .ro, 0, 0, 0, 0, .plain, true⟩
  | .LC_TOKEN => ⟨88, 0, 1, 2, 160, .wo, 2, 0, 0, 0, .plain, true⟩
  | .JTAG_OPEN => ⟨88, 0, 1, 3, 1, .ro, 0, 0, 0, 1, .plain, false⟩
  | .TAMPER_STATE => ⟨88, 0, 1, 4, 4, .ro, 0, 0, 0, 4294967295, .plain, false⟩
  | .TAMPER_COUNT => ⟨88, 0, 1, 5, 4, .ro, 0, 0, 0, 4294967295, .plain, false⟩
  | .DBG_ATTACHED => ⟨88, 0, 1, 6, 1, .ro, 0, 0, 0, 1, .plain, false⟩
  | .KEY_SEL => ⟨88, 1, 1, 0, 1, .rw, 3, 0, 0, 7, .plain, false⟩
  | .KEY_INSTALL => ⟨88, 1, 1, 1, 97, .wo, 3, 0, 0, 0, .lifecycle, true⟩
  | .FREEZE_MASK_LO => ⟨88, 2, 1, 0, 8, .rw, 2, 0, 0, 18446744073709551615, .plain, false⟩
  | .FREEZE_MASK_HI => ⟨88, 2, 1, 1, 8, .rw, 2, 0, 0, 18446744073709551615, .plain, false⟩
  | .FREEZE_GO => ⟨88, 2, 1, 2, 8, .cmd, 2, 0, 0, 18446744073709551615, .runHold, false⟩
  | .FREEZE_RELEASE => ⟨88, 2, 1, 3, 1, .cmd, 2, 0, 0, 1, .holdOnly, false⟩
  | .FREEZE_STATE => ⟨88, 2, 1, 4, 1, .ro, 0, 0, 0, 255, .plain, false⟩
  | .FREEZE_MT => ⟨88, 2, 1, 5, 8, .ro, 0, 0, 0, 18446744073709551615, .plain, false⟩
  | .FWP_ENABLE => ⟨88, 16, 2, 0, 1, .rw, 2, 0, 0, 1, .plain, false⟩
  | .FWP_DISTRICT => ⟨88, 16, 2, 1, 1, .rw, 2, 0, 0, 127, .plain, false⟩
  | .FWP_CTX => ⟨88, 16, 2, 2, 1, .rw, 2, 255, 0, 255, .plain, false⟩
  | .FWP_FIRST => ⟨88, 16, 2, 3, 8, .rw, 2, 0, 0, 18446744073709551615, .plain, false⟩
  | .FWP_LAST => ⟨88, 16, 2, 4, 8, .rw, 2, 0, 0, 18446744073709551615, .plain, false⟩
  | .FWP_HITS => ⟨88, 16, 2, 5, 4, .ro, 0, 0, 0, 4294967295, .plain, false⟩

/-- Every element, area by area. -/
def El.all : List El :=
  ([
    .TB_STATE, .MT, .CLK_SRC, .TIMING_PORT, .MCLK_NOMINAL, .MCLK_MEASURED, .ORBIT_LEN, .FABRIC_RATIO, .ALIGN_SRC,
    .ORBIT_OFFSET, .ORBIT_MISS_LIMIT, .MT_PRESET, .FINE_DELAY, .FINE_DELAY_APPLIED, .SYNC_ROLE, .SYNC_LOCK_GROUP,
    .MEMBER, .SYNC_EVERY, .SYNC_SAMPLE_PHASE, .SYNC_MISS_LIMIT, .TB_STATUS, .LOSS_COUNT, .MARKER_ERRORS,
    .MARKER_MISSING, .SYNC_CRC_ERRORS, .SYNC_MISSING, .SYNC_MISMATCH, .CC_02, .LAST_LOSS_MT, .LAST_RESUME_MT,
    .STEP_FIRST, .STEP_LAST, .TT_ACTIVE, .TT_COMMIT, .TT_COMMIT_STATUS, .TT_REFUSED_ENTRY, .TT_COPY,
    .TT_WINDOW_INDEX, .TT_WORD0, .TT_WORD1] : List El) ++
  ([
    .TT_WORD2, .TT_WORD3, .TT_WINDOW_SEL, .ENABLE, .CODING, .RX_MULT, .FRAME_WORDS, .SCRAMBLE, .RX_POLARITY,
    .TAG_MODE, .TAG_OFFSET, .ALIGN_LAT, .GANG, .EXPECT_SRC, .MASK, .ADAPT, .CTLE, .RX_PRBS, .ALIGN_GUARD,
    .PORT_STATE, .PORT_STATUS, .ALIGN_REQ, .ALIGN_RESULT, .ALIGN_D, .ALIGN_MIN, .LAST_TAG, .EQ_STATE, .LINE_RATE,
    .DL_ENABLE, .TX_MULT, .DL_SKEW, .DL_POLARITY, .DL_SWING, .DL_EMPH, .DL_FABRIC, .DL_CMD, .DL_SEND,
    .DL_SEND_STATUS, .DL_PRBS, .FRAMES_OK] : List El) ++
  ([
    .CODE_ERRORS, .CRC_ERRORS, .MISSING, .LATE, .DUPLICATE, .TAG_UNKNOWN, .TAG_SLIP, .LENGTH_ERRORS, .FE_ERRORS,
    .SRC_MISMATCH, .LOCK_LOSSES, .CMD_DROPPED, .PRBS_ERRORS, .CC_13, .OWNER, .OWNER_ACTIVE, .HANDOVER, .READ_SHARE,
    .POWER, .POWER_STATE, .ROLE, .C0_HOLDER, .DENIED, .AGED, .WAKE_ON_ACCESS, .C0_ASLEEP, .CC_05, .RING_ENABLE,
    .RING_FIRST, .RING_BANKS, .RING_WORDS, .RING_K, .RING_STRIPES, .RING_DEPTH, .RING_OLDEST, .RING_NEWEST,
    .RING_STATE, .VAULT_ENABLE, .VAULT_STATE, .VAULT_LOCK] : List El) ++
  ([
    .VAULT_UNLOCK, .VAULT_WIPE, .WIPE_COUNT, .LAST_WIPE_CAUSE, .FABRIC_STATUS, .F_CLOSE, .UP_CONTENTIONS, .CC_04,
    .UP_LAST, .UP_CLEAR, .DRAM_CORR, .DRAM_UNCORR, .BASE_CTX, .BASE_NEXT, .BASE_AT, .PLANES, .LOCK_GROUP,
    .BOLLARD_STATUS, .CAPTURE_CTRL, .CAPTURE_MT, .PATH_STATE, .PATH_LDEC, .PATH_S, .POLICY, .DECISIONS, .ACCEPTS,
    .MARKERS, .BREACHES, .LAST_BREACH_MT, .LAST_BREACH_KIND, .CC_20, .BUSY_SRC, .BUSY_FORCE, .BREACH_ACK,
    .ACC_TPORT, .LEDGER_STATUS, .LEDGER_FAIL_CHECK, .LEDGER_FAIL_ITEM, .TAP_PATH, .TAP_PHASE] : List El) ++
  ([
    .TAP_HOLD, .TAP_R, .TAP_OUT, .TAP_DL_MASK, .TAP_TRUNKS, .SS_MODE, .SS_MULT, .SS_SKEW, .SS_SAMPLE_PHASE,
    .ACC_DELAY, .ACC_TYPE, .ACC_COUNT, .ACC_CRC_ERRORS, .ACC_TAG_MISMATCH, .SS_TAP, .CC_19, .EB_GROUP, .G_ATYPES,
    .G_PRE, .G_POST, .G_CLASS, .G_QBASE, .G_QROUND, .G_QUARTER, .G_PORTS, .G_FRAGMENTS, .G_EXPIRED, .G_DAMAGED,
    .G_TRUNCATED, .CC_28G, .EB_ENABLE, .ACC_MIN_GAP, .ACC_BURST, .ACC_REFILL, .EVENT_NEXT, .EVENT_PRESET,
    .INTAKE_LEVEL, .ACCEPTS_TAKEN, .REF_BURST, .REF_GAP] : List El) ++
  ([
    .REF_RATE, .REF_FULL, .NOQUEUE, .CC_28, .QTYPE_OFFSET, .QWIN_INDEX, .Q_CTRL, .Q_BASE, .Q_SIZE, .Q_PRODUCER,
    .Q_CONSUMER, .Q_HEAD, .Q_TAIL, .Q_LEVEL, .Q_FRAGMENTS, .Q_STALLS, .Q_OVERSIZE, .Q_FLUSH, .CC_08, .Q_ENABLED,
    .TK_ENABLE, .TK_RATE, .TK_MODE, .C0_PHASE, .C0_RX_DELAY, .MGMT_EN, .RX_QBASE, .REPLAY_TIMEOUT, .TX_PRESET,
    .TK_POLARITY, .TK_PRBS, .RETRAIN, .TK_RESET, .LINK_STATE, .TK_STATUS, .TX_SEQ, .ACKED_SEQ, .RX_EXPECT,
    .FEC_CORRECTED, .FEC_UNCORR] : List El) ++
  ([
    .REPLAYS, .RETRAINS, .C0_SENT, .C0_LOST, .C0_LATE, .RX_DISCARDED, .RX_NOQUEUE, .TK_PRBS_ERRORS, .CC_18,
    .ETH_DST, .ETH_SRC, .ETH_TYPE, .IP_SRC, .IP_DST, .UDP_SPORT, .UDP_DPORT, .IP_TTL_DSCP, .ETH_MTU, .ARP_ICMP_EN,
    .LOAD_STATE, .LOAD_REASON, .LOAD_DETAIL, .LOAD_BYTES, .LOAD_SECTION, .LOAD_FALLBACK, .LOAD_SRC, .LOAD_ADDR,
    .LOAD_GO, .LOAD_ABORT, .PRIMARY_ADDR, .GOLDEN_ADDR, .RELEASE_SPACING, .STRAPS, .AR_COUNTER, .AR_ADVANCE,
    .KEY_STATE, .KEY_REVOKE, .IMAGE_ID, .IMAGE_AR, .TICKET_QUERY] : List El) ++
  ([
    .TICKET_STATE, .TICKET_LAST, .IP_RAW_ALLOWED, .IP_HOST, .SCRUB_ENABLE, .SCRUB_PERIOD, .SCRUB_PASSES,
    .SCRUB_LAST_PASS, .SCRUB_RATE, .SCRUB_SKIPPED, .POISON_WRITTEN, .REPAIR_DROPPED, .CC_07, .MI_BANK, .CE_COUNT,
    .UE_COUNT, .POISON_READS, .LB_LEVEL, .LB_THRESHOLD, .LB_LEAK, .LB_OVERFLOWS, .CE_LAST, .UE_LAST, .INVALIDATE,
    .INV_STATE, .CC_07B, .RT_COUNT, .RT_RETIRE, .RT_UNRETIRE, .RT_INDEX, .RT_ENTRY, .RT_STATE, .FLIP_BANK,
    .FLIP_DATA, .FLIP_CHECK, .FLIP_ARM, .FLIP_STATE, .FLIP_ADDR, .SPARE0_FOR, .SPARE1_FOR] : List El) ++
  ([
    .SUBSTITUTE, .SUB_STATE, .UNSUBSTITUTE, .SUB_COPY_UE, .CS_ENABLE, .CS_STATE, .CS_STATUS, .CS_RESET, .CS_PASSES,
    .CS_LAST_PASS, .CS_CORRECTED, .CS_RELOADED, .CS_FAILED, .CS_SELF_UPSETS, .CS_DEFERRED, .CC_01, .FR_ENABLE,
    .FR_FIRST, .FR_BANKS, .FR_SLOT_BANKS, .FR_SLOTS, .FR_COVERED, .FR_QUERY, .FR_QUERY_STATE, .I3C_STATE, .I3C_DA,
    .I3C_PID, .HJ_EN, .IBI_MASK, .ALERT_LEVEL, .ALERT_PENDING, .ALERT_ACK, .SUSIS_CRC_ERRORS, .SUSIS_MALFORMED,
    .CC_30I, .CAN_STATE, .CAN_ENABLE, .CAN_PFX, .CAN_NODE, .CAN_NOM_RATE] : List El) ++
  ([
    .CAN_DATA_RATE, .CAN_TEC_REC, .CAN_RATE_DROPS, .CAN_BUS_OFF, .CC_30C, .EXPERT_LOCK, .LOCK_OWNER, .LOCK_TIMEOUT,
    .LOCK_BREAK, .RIGHTS_I3C, .RIGHTS_CAN, .RIGHTS_IVTOR, .MY_CONTROLLER, .MY_RIGHTS, .REFUSED_STATE, .CC_30R,
    .DP_BIND, .DP_TARGET, .DP_ADDR, .DP_DATA, .DP_STATUS, .DP_LIMIT, .VENDOR, .PART, .REVISION, .SPEED_GRADE,
    .TEMP_GRADE, .SERIAL, .ROM_VERSION, .FW_VERSION, .LIFECYCLE, .DEV_NAME, .DEV_STATE, .PREV_STATE, .STATE_MT,
    .SAFE_CAUSE, .SAFE_ENTER, .SAFE_LEAVE, .RESET_CMD, .RESET_CAUSE] : List El) ++
  ([
    .UPTIME, .SS_FIO_CFG, .FIO_STATUS, .CORE_STATE, .CORE_RESETS, .CORE_RESET_CAUSE, .WDT_ENABLE, .WDT_TIMEOUT,
    .WDT_STAGE, .WDT_REMAINING, .WDT_RESETS, .KP_STATE, .KP_WORN, .KP_RESERVE_FREE, .KP_SECTOR, .KP_WEAR,
    .KP_ERRORS, .BIST_KIND, .BIST_TARGET, .BIST_MODE, .BIST_ALGO, .BIST_GO, .BIST_ABORT, .BIST_STATE, .BIST_RESULT,
    .BIST_PLANNED, .BIST_EXECUTED, .BIST_SIG, .BIST_FAIL_ADDR, .BIST_REPAIRS, .CC_40, .REC_CAPACITY, .REC_COUNT,
    .REC_SEQ_NEXT, .REC_SEQ_OLDEST, .REC_SEL, .REC_RECORD, .REC_LOST, .REC_MIN_SEVERITY, .REC_CLEAR] : List El) ++
  ([
    .PF_COUNT, .PF_SEL, .PF_RECORD, .TJ_MAX, .TJ_MAX_SENSOR, .THERMAL_STATE, .THROTTLE_F, .SENSORS_BROKEN,
    .SHUTDOWNS, .T_NOTICE, .T_THROTTLE, .T_CEILING, .T_SHUTDOWN, .SENSOR_SEL, .SENSOR_TEMP, .SENSOR_STATE,
    .SENSOR_LAYER, .SENSOR_PEAK, .LC_REQUEST, .LC_CHALLENGE, .LC_TOKEN, .JTAG_OPEN, .TAMPER_STATE, .TAMPER_COUNT,
    .DBG_ATTACHED, .KEY_SEL, .KEY_INSTALL, .FREEZE_MASK_LO, .FREEZE_MASK_HI, .FREEZE_GO, .FREEZE_RELEASE,
    .FREEZE_STATE, .FREEZE_MT, .FWP_ENABLE, .FWP_DISTRICT, .FWP_CTX, .FWP_FIRST, .FWP_LAST, .FWP_HITS] : List El)

/-- The element an EID names, and its unit: the entry less the map's first entry (R346, R365). -/
def elOf (eid : Nat) : Option (El × Nat) :=
  let area := eid / 65536
  let entry := eid / 16 % 4096
  match El.all.find? (fun e => e.info.area == area && e.info.el == eid % 16
      && Nat.ble e.info.base entry && Nat.blt entry (e.info.base + e.info.cnt)) with
  | some e => some (e, entry - e.info.base)
  | none => none

/-- The EID of an element's unit (R346). -/
def eidOf (e : El) (u : Nat) : Nat := e.info.area * 65536 + (e.info.base + u) * 16 + e.info.el

/-- The register file's key of an element's unit: no two units of elements share one. -/
def regKey (e : El) (u : Nat) : Nat := u * 1024 + e.ctorIdx

/-- The number of a key's element, and its unit. -/
def keyEl (k : Nat) : Nat := k % 1024
def keyUnit (k : Nat) : Nat := k / 1024

end Sys2Proof.Machine
end

