-- ==== Sys2Proof/Machine/State.lean ====
section
/-! DEFINITION. The state of the device as plain data: the dictionary's register file, and beside it every piece of state
that the manual gives the device and no dictionary element shows whole. Registers hold their map's default when unlisted. -/

namespace Sys2Proof.Machine

/-- Why the model stops. No rule of the manual stops the device, so no step raises a fault; safe. -/
inductive Fault
  /-- Never raised: the manual prescribes an answer, an abort or no effect for every command; safe. -/
  | none
deriving DecidableEq, Repr

/-- Why the model gives a command no meaning. -/
inductive Refusal
  /-- The command has no meaning yet; raised by Dispatch alone, for no command now; safe. -/
  | notModelled (mnemonic : String)
deriving DecidableEq, Repr

/-- The device states of R13, in its order. -/
inductive DevState
  | powerOff | reset | boot | idle | loading | armed | running | hold | safe | shutdown
deriving DecidableEq, Repr

/-- The time base states of R42, in its order. -/
inductive TbState
  | noClock | acquire | locked | aligned | holdover | realign
deriving DecidableEq, Repr

/-- The lifecycles of R16, in the order of LIFECYCLE (R366). -/
inductive Lifecycle
  | blank | provisioned | field | opened | returned
deriving DecidableEq, Repr

/-- The time base (R35 to R58). -/
structure TimeBase where
  /-- TB_STATE (R42). -/
  st : TbState
  /-- The orbit number, MT[63:16] (R19). -/
  orbit : Nat
  /-- How often the orbit number has wrapped since the numbering began (R41); the model's own. -/
  turns : Nat
  /-- The slot number, MT[15:0] (R19). -/
  slot : Nat
  /-- The boundary into the present orbit has been performed and its slot 0 has not been started yet; the model's own. -/
  entered : Bool
  /-- Machine-clock edges since the PLLs locked, against which marker distances are measured (R46); the model's own. -/
  edges : Nat
  /-- The edge of the provisional marker or word (R46, R52), and the orbit number that word carried. -/
  prov : Option (Nat × Nat)
  /-- The misplaced-orbit count (R47) of a device under ALIGN_SRC. -/
  misplaced : Nat
  /-- The mismatch count (R53) of a follower. -/
  mismatched : Nat
  /-- SRC_PRESENT (TB_STATUS). -/
  srcPresent : Bool
  /-- PLL_LOCKED (TB_STATUS). -/
  pllLocked : Bool
  /-- SYNC_OK (TB_STATUS). -/
  syncOk : Bool
  /-- MARKER_SLOT_ERR (TB_STATUS), two's complement in 16 bits. -/
  slotErr : Nat
  /-- The SYNC word that SYNC_P/N drives (R49, R50); none between words, while the line reads 0. -/
  syncOut : Option (BitVec 80)
  /-- The crossings for which the word is still driven, the present one with them (R50). -/
  syncLeft : Nat
  /-- The crossing in which alignment was confirmed, until entries run again at the first boundary at least 2 crossings
  later (R56). -/
  confirmed : Option Nat
  /-- The Roundabout executes entries (R56). -/
  entriesRun : Bool
  /-- The leader's numbering of the present crossing while MT is held behind it (R57). -/
  held : Option Nat
  /-- The first and the last number stepped over at the last realignment of this numbering (R57). -/
  stepped : Option (Nat × Nat)
  /-- The crossing in which the last loss was declared, and the lowest cause declared in it (R55). -/
  lost : Option (Nat × Nat)
deriving DecidableEq, Repr

/-- The Roundabout (R59 to R67): a table is sparse, an unlisted entry reads as four zero words. -/
structure Roundabout where
  /-- The active table (R59), each entry its four words with TT_WORD0 lowest. -/
  active : SMap (BitVec 128)
  /-- The shadow table (R59). -/
  shadow : SMap (BitVec 128)
  /-- The validation in progress and the orbit its commit names (R64). -/
  validating : Option Nat
  /-- The commit pending after validation, with its orbit (R64). -/
  pendingAt : Option Nat
  /-- The pending commit belongs to an image's table (R59). -/
  fromImage : Bool
  /-- The open windows of the active table: an entry and the crossing in which its window began (R63). -/
  openWindows : List (Nat × Nat)
  /-- Paused slots of the present orbit, by 2q for Quarter q's memory scrubber and 2q + 1 for its configuration scrubber,
  each with the crossing counted last (R67). -/
  paused : SMap (Nat × Nat)
  /-- The NOTICE of R67 has been written since the last swap. -/
  pauseNoted : Bool
deriving DecidableEq, Repr

/-- A received frame that waits in a deskew FIFO (R84): its header word, its payload words, and how it was received. -/
structure StoredFrame where
  header : BitVec 64
  payload : List (BitVec 64)
  crcOk : Bool
  lenOk : Bool
deriving DecidableEq, Repr

/-- An open alignment window (R89): its last crossing when ALIGN_REQ opened it, none when a table window did, and the
frames counted with the least and the greatest d recorded. -/
structure AlignWindow where
  first : Nat
  last : Option Nat
  /-- The time-table entry whose window opened it. -/
  entry : Option Nat
  /-- The frames taken in the window, and the least and the greatest of their offsets (R89). -/
  count : Nat
  dMin : Nat
  dMax : Nat
deriving DecidableEq, Repr

/-- What a port presents to its Districts in the present crossing (R85 to R87). -/
structure Presented where
  crossing : Nat
  status : Nat
  header : BitVec 64
  stored : List (BitVec 64)
  pdata : List (BitVec 64)
  pvalid : Bool
deriving DecidableEq, Repr

/-- A front-end port (R80 to R101). -/
structure Port where
  /-- A receive clock is recovered (R80). -/
  cdr : Bool
  /-- Code lock is held (R76). -/
  code : Bool
  /-- Frame lock is held (R80). -/
  framed : Bool
  /-- The port is in ALIGNED (R89, R91). -/
  aligned : Bool
  /-- NEEDS_ALIGN (R81). -/
  needsAlign : Bool
  /-- Consecutive good frames, towards FRAMED (R80). -/
  goodRun : Nat
  /-- Consecutive frames failing CRC or length (R80). -/
  badRun : Nat
  /-- Consecutive good frames placed at k_g - D_p while NEEDS_ALIGN is set (R91). -/
  placedRun : Nat
  /-- The deskew FIFO, by crossing (R84). -/
  fifo : SMap StoredFrame
  /-- The open alignment window (R89). -/
  window : Option AlignWindow
  /-- The offset that the port takes at the next orbit boundary (R89). -/
  pendingD : Option Nat
  /-- The port returns to ALIGNED at the next orbit boundary under R91. -/
  reenter : Bool
  /-- The forced adaptation of the first 10 ms in CDR_LOCK is on (R94). -/
  adaptForced : Bool
  /-- CAL_WINDOW windows with ARG 0 open on the port (R94). -/
  adaptWindows : Nat
  /-- The crossing that DL_SEND named, while it is pending (R100). -/
  sendAt : Option Nat
  /-- The TEST_PULSE command placed for a crossing (R62, R98). -/
  pulse : Option (Nat × Nat)
  /-- Command sources displaced in the present orbit, by priority number (R98). -/
  displaced : List Nat
  /-- The status of the last presented crossing, LAST_STATUS (R103). -/
  lastStatus : Nat
  /-- What the port presents now (R85). -/
  shown : Option Presented
  /-- The last downlink frame composed: a K character number for character 0, and the bytes after it; none in
  electrical idle (R95, R96), and while boundary-scan values stand on the pins (R102). -/
  downlink : Option (List Nat)
  /-- The orbit flag of the last complete frame of the timing port, and, where it has gone high with that frame, the machine-clock edge
  that the frame's start symbol defines (R93). -/
  orbFlag : Bool
  orbRise : Option Nat
  /-- The NOTICE of a timing port that does not qualify has been written (R92). -/
  noticed : Bool
  /-- The last crossing presented, which is never presented again (R85). -/
  presented : Option Nat
deriving DecidableEq, Repr

/-- A port as reset leaves it (R104): nothing locked, no offset learned, MASKED shown. -/
def Port.idle : Port :=
  { cdr := false, code := false, framed := false, aligned := false, needsAlign := false, goodRun := 0, badRun := 0,
    placedRun := 0, fifo := [], window := none, pendingD := none, reenter := false, adaptForced := false,
    adaptWindows := 0, sendAt := none, pulse := none, displaced := [], lastStatus := 6, shown := none,
    downlink := none, orbFlag := false, orbRise := none, noticed := false, presented := none }

/-- An item of the recorder's intake, or the content of a record (R412, R415). -/
structure Event where
  severity : Nat
  area : Nat
  unit : Nat
  code : Nat
  repeats : Nat
  synthetic : Bool
  mtValid : Bool
  mtFirst : Nat
  mtLast : Nat
  upMs : Nat
  detail : Bytes
deriving DecidableEq, Repr

/-- A record held in a slot of the buffer (R412, R419); pseq is PSEQ, 0 for a record without a keeper copy's number. -/
structure Record where
  slot : Nat
  seq : Nat
  gen : Nat
  pseq : Nat
  persisted : Bool
  ev : Event
deriving DecidableEq, Repr

/-- The event recorder (R412 to R422). -/
structure Recorder where
  /-- The intake FIFO, oldest first, at most 64 items (R415). -/
  intake : List Event
  /-- The records held, by ascending SEQ (R419). -/
  held : List Record
  /-- GEN of each slot (R412), counted in held records and in empty slots alike; unlisted 0. -/
  gens : SMap Nat
  /-- The next SEQ (R413). -/
  seqNext : Nat
  /-- The pending lost count and the MT of the first drop (R417). -/
  lost : Nat
  lostMt : Nat
  /-- The next PSEQ (R420). -/
  pseqNext : Nat
  /-- FATAL records that wait for the keeper as they were when queued, at most 16 (R420). -/
  copies : List Record
  /-- When a copy was last written, in microseconds of UPTIME (R420). -/
  refreshed : Nat
deriving DecidableEq, Repr

/-! The memory layer. -/

/-- A stored word (R289): DATA, CHECK and the three VALID cells; the word of an invalidated bank is all zero. -/
structure StoredWord where
  data : BitVec 64
  check : BitVec 8
  valid : BitVec 3
deriving DecidableEq, Repr

/-- A word that has not been written since its bank was invalidated (R292). -/
def StoredWord.invalid : StoredWord := { data := 0, check := 0, valid := 0 }

/-- Who a request at a bank comes from (R105): a District on one of its channels, the Quarter's extraction unit, a requester
that enters through the Plaza, the memory scrubber or the BIST engine; the store writer acts in store cycles alone. -/
inductive Requester
  | district (d chan : Nat)
  | extraction (quarter : Nat)
  | plaza (m : Master)
  | scrubber
  | bist
deriving DecidableEq, Repr

/-- A request that waits at a bank (R11, R106): its requester, the request, its number in
the issue order of its channel, its TAG, and its losses in a row. -/
structure Waiting where
  src : Requester
  req : MemRequest
  order : Nat
  tag : Nat
  losses : Nat
deriving DecidableEq, Repr

/-- An answer on its way to a requester (R160, R162): the TAG of a Plaza request, data, ERRC, and TSTATUS of a time-addressed request. -/
structure Answer where
  tag : Nat
  data : BitVec 128
  errc : Nat
  tstatus : Nat
deriving DecidableEq, Repr

/-- The answers of one channel, or of one requester over the Plaza at one bank, kept in issue order (R34, R160): how many
requests were issued and answered, the answers that wait for their turn by issue number, and the last one delivered. -/
structure Lane where
  issued : Nat
  delivered : Nat
  done : SMap Answer
  bus : Option Answer
  /-- The answers delivered, by the fabric cycle in which each stands on the bus, those of cycles that have run left out. -/
  seen : SMap Answer
deriving DecidableEq, Repr

/-- A channel on which nothing was issued. -/
def Lane.idle : Lane := { issued := 0, delivered := 0, done := [], bus := none, seen := [] }

/-- The fixed bus of a District's channel (R160): how many C0 requests were issued, their answers in the order of the
requests, none while the bank has not answered, and the last one delivered. -/
structure FixedBus where
  issued : Nat
  wait : List (Nat × Option Answer)
  bus : Option Answer
  /-- The fabric cycles in which answers stand on the bus, each with the number of its request and the answer once the bank has
  given it; those of cycles that have run are left out. -/
  due : SMap (Nat × Option Answer)
deriving DecidableEq, Repr

/-- What a row held before a local write that is not visible yet (R32): the memory cycle of the write's grant where a command
names it, whether a crossing has begun since, the row, and its two words. -/
structure PriorRow where
  cycle : Option Nat
  passed : Bool
  row : Nat
  low : StoredWord
  high : StoredWord
deriving DecidableEq, Repr

/-- A bank port (R105 to R125). -/
structure BankPort where
  /-- Requests that wait, in order of arrival. -/
  waiting : List Waiting
  /-- Store writes that wait for a store cycle (R107): row and data, oldest first. -/
  stores : List (Nat × BitVec 128)
  /-- A sleep held until the wake in progress and its stalled accesses are done (R123). -/
  sleepHeld : Bool
  /-- Requests that stalled on the wake and have not been granted yet (R123). -/
  stalled : Nat
  /-- The rows of local writes that are not visible yet, as they were before, oldest first (R32). -/
  prior : List PriorRow
deriving DecidableEq, Repr

/-- A bank port with nothing waiting. -/
def BankPort.idle : BankPort := { waiting := [], stores := [], sleepHeld := false, stalled := 0, prior := [] }

/-- A stripe of a ring (R112, R115): base and fill, and whether it is in service. -/
structure Stripe where
  base : Nat
  fill : Nat
deriving DecidableEq, Repr

/-- A Quarter's ring (R112 to R120); RING_STATE and the sizes are registers. -/
structure Ring where
  /-- The local banks of the ring, first and number, as enabled (R112). -/
  first : Nat
  banks : Nat
  /-- Stripes that were opened, by number, with base and fill (R115); an unlisted stripe has fill 0. -/
  stripes : SMap Stripe
  /-- The stripe under write and what it held before (R115, R120). -/
  cur : Option Nat
  prevBase : Nat
  prevFill : Nat
  /-- The first crossing that recording takes (R115). -/
  start : Nat
  /-- An MT step asks for a new stripe at the next allocation (R117). -/
  stepped : Bool
  /-- The 8 most recent MT steps, first and last value stepped over, newest first (R120). -/
  steps : List (Nat × Nat)
  /-- Stripes passed over as out of service (R118). -/
  out : List Nat
  /-- The first crossing of the starved span in progress (R119). -/
  starvedFrom : Option Nat
  /-- The 8 most recent finished starved spans, newest first (R119). -/
  spans : List (Nat × Nat)
deriving DecidableEq, Repr

/-- A ring that is off. -/
def Ring.off : Ring :=
  { first := 0, banks := 0, stripes := [], cur := none, prevBase := 0, prevFill := 0, start := 0, stepped := false,
    steps := [], out := [], starvedFrom := none, spans := [] }

/-- What moves onto or off a spare in a Quarter (R307): the local bank, the spare, whether it returns to its original
location, and the words copied as poison so far. -/
structure Move where
  bank : Nat
  spare : Nat
  back : Bool
deriving DecidableEq, Repr

/-- The memory layer's engines (R127, R294, R300, R304, R307, R310). -/
structure MemoryEngines where
  /-- The cause of the wipe in progress, the last one that came (R128). -/
  wipeCause : Nat
  /-- The places of banks, as 66q + place, that a wipe has filled with zero words under fresh check bits (R128): their unlisted
  words read so. -/
  zeroed : List Nat
  /-- Repair lists, by Quarter: local bank × 32768 + word address, oldest first, at most 16, each with whether an uncorrectable
  read listed it (R294, R296). -/
  repairs : SMap (List (Nat × Bool))
  /-- The scrubbers' places, by Quarter: row × 64 + local bank of the next read (R300). -/
  places : SMap Nat
  /-- The passes each Quarter's scrubber has completed, how long its last one took, and when its present one began, in
  microseconds of UPTIME (R300). -/
  passes : SMap Nat
  passTook : SMap Nat
  passFrom : SMap Nat
  /-- The retirement table's slots, by slot number (R493); an unlisted slot is free. -/
  retired : SMap Nat
  /-- Changes of the table whose keeper write is not complete: slot and new content (R304, R493). -/
  retiring : List (Nat × Nat)
  /-- Moves in progress, by Quarter (R307). -/
  moves : SMap Move
  /-- The flip mask that is armed, as it stood when FLIP_ARM was written: bank, DATA and CHECK (R310). -/
  flip : Option (Nat × BitVec 64 × BitVec 8)
deriving DecidableEq, Repr

/-! Districts, planes and Underpasses. -/

/-- What a plane's frames set for its District where a rule of the manual reads it; the mapping onto frame bits is not
published (R134), so the load takes these values from the frames by an uninterpreted function and keeps them as data. -/
structure PlaneUser where
  /-- MODE = BANKED, per flip-flop in the layout of R183 (R134). -/
  banked : BitVec 65536
  /-- INIT, per flip-flop (R134). -/
  init : BitVec 65536
  /-- The driver enables of the plane's own Underpass ends (R142). -/
  upEnds : BitVec 1024
  /-- F_CLOSE in MHz (R137). -/
  fClose : Nat
deriving DecidableEq, Repr

/-- A plane (R165): its state by the codes of PLANES, what its frames set, its bank schedule (R190, R494), and whether the
load or Inner Port writing in progress judged it in service (R166). -/
structure Plane where
  state : Nat
  user : PlaneUser
  c0Banks : BitVec 64
  c0Write : BitVec 64
  rewrite : Bool
  /-- LOADING, and no frame of it has been written yet: its District goes on with what it held (R138, R179). -/
  untouched : Bool
deriving DecidableEq, Repr

/-- A plane that holds no configuration. -/
def Plane.empty : Plane :=
  { state := 0, user := { banked := 0, init := 0, upEnds := 0, fClose := 0 }, c0Banks := 0, c0Write := 0, rewrite := false, untouched := false }

/-- A District (R138, R168 to R182). -/
structure District where
  /-- The current context (R168). -/
  ctx : Nat
  /-- The open CTX_SWITCH windows performed on the District, by entry of the active table (R168, R169). -/
  windows : List Nat
  /-- The orbit of the scheduled base-context change (R175). -/
  baseAt : Option Nat
  /-- The base context fixed by the SETTINGS of a global image, which waits for release stage 1 (R175). -/
  baseByImage : Option Nat
  /-- Stopped by a fabric freeze (R378). -/
  frozen : Bool
  /-- Stopped for an active-plane rewrite or a repair (R179). -/
  stopped : Bool
  /-- Planes whose failed load or repair keeps the District stopped until a load of them succeeds (R278, R326). -/
  stuck : List Nat
  /-- Release stage 1 has been taken: clock enable on, outputs enabled, inputs unmasked (R179). -/
  released : Bool
  /-- WE_HELD (FABRIC_STATUS). -/
  weHeld : Bool
  /-- RESET_HELD (FABRIC_STATUS). -/
  resetHeld : Bool
  /-- The contexts whose planes have been written since the last release (R174). -/
  written : List Nat
  /-- The release stage pending, 1 to 3, and the crossing from which its spacing counts, none until the time base is ALIGNED (R179). -/
  stage : Option (Nat × Option Nat)
  /-- The first crossing of the present uninterrupted running in one context (R176); the model's own. -/
  since : Nat
  /-- The windows that named a plane not loaded in this orbit, by entry and first crossing, each with its ERROR record written
  (R169). -/
  notLoaded : List (Nat × Nat)
  /-- DRAM_UNCORR_SEEN (FABRIC_STATUS). -/
  dramSeen : Bool
  /-- MEM_ALERT with MEM_ALERT_BANK, the last raised (R298). -/
  memAlert : Option Nat
deriving DecidableEq, Repr

/-- A District as reset leaves it (R164, R184): not clocked, resets and write enables held, Bollards held and masked. -/
def District.held : District :=
  { ctx := 0, windows := [], baseAt := none, baseByImage := none, frozen := false, stopped := false, stuck := [],
    released := false, weHeld := true, resetHeld := true, written := [], stage := none, since := 0, notLoaded := [],
    dramSeen := false, memAlert := none }

/-- The contention guard of an Underpass that is latched off, or was within 16 orbits (R144, R145). -/
structure Guard where
  /-- Both drivers latched off. -/
  off : Bool
  /-- A second contention within 16 orbits of a re-enable keeps it off (R145). -/
  keptOff : Bool
  /-- UP_CLEAR has allowed the re-enable (R145). -/
  cleared : Bool
  /-- The frames that have not verified yet, as plane and frame (R144, R145). -/
  frames : List (Nat × Nat)
  /-- The orbit of the last re-enable (R145). -/
  enabledAt : Option Nat
  /-- The crossing of the contention in force, from which decisions are markers (R146). -/
  since : Nat
deriving DecidableEq, Repr

/-! The fabric's registers. -/

/-- A Tally tile (R152 to R157): what its input register captured in the last cycles, newest first, which is what its input
register and pipelines hold; the accumulators, OVF of their last results and STICKY_OVF; and the merged sets, newest first. -/
structure Tile where
  line : List (BitVec 768)
  acc0 : BitVec 48
  acc1 : BitVec 48
  ovf0 : Bool
  ovf1 : Bool
  sticky0 : Bool
  sticky1 : Bool
  merged : List (List (BitVec 32))
deriving DecidableEq, Repr

/-- A tile that has captured nothing. -/
def Tile.rest : Tile :=
  { line := [], acc0 := 0, acc1 := 0, ovf0 := false, ovf1 := false, sticky0 := false, sticky1 := false, merged := [] }

/-- The ports of a District RAM block (R147 to R150): the output of each, 72 bits with CORR and UNCORR above, what the optional
output registers hold, and the count of the last cycle, which port B does not see yet: first cell, width and old value. -/
structure RamPorts where
  outA : BitVec 74
  outB : BitVec 74
  regA : BitVec 74
  regB : BitVec 74
  counted : Option (Nat × Nat × Nat)
deriving DecidableEq, Repr

/-- Ports that have read nothing. -/
def RamPorts.rest : RamPorts := { outA := 0, outB := 0, regA := 0, regB := 0, counted := none }

/-- The registers of the logic layers beside flip-flops and District RAM content (R136, R139 to R142, R152, R178). -/
structure Fabric where
  /-- The fabric cycles of the present crossing that have been run: what the registers present is of the cycle at this phase. -/
  phase : Nat
  /-- The fabric cycles since reset; the model's own. -/
  cycle : Nat
  /-- The count of the free values of the present crossing; the model's own. -/
  draw : Nat
  /-- Hop registers of Lanes and Avenues, by District (R139). -/
  hops : SMap (BitVec 458752)
  /-- Boulevard registers, by District (R140). -/
  boulevards : SMap (BitVec 3072)
  /-- Hop registers of Underpass ends, by District (R142). -/
  upHops : SMap (BitVec 1024)
  /-- Bollard registers, by receiving District (R141). -/
  bollards : SMap (BitVec 23552)
  /-- The values last passed by the Bollards and the Underpass cells into a District, and the PARK settings of the cycles in which
  they passed them, two bits each (R178). -/
  passed : SMap (BitVec 24576)
  parks : SMap (BitVec 49152)
  /-- The context that governed each District in the cycle before (R178). -/
  ran : SMap Nat
  /-- Tally tiles, by tile 32d + t (R131). -/
  tiles : SMap Tile
  /-- The words last taken for the pins of a side-street pair in SS_MODE 5 (R370): FIO_OUT_P, FIO_OUT_N in bits 15:8, FIO_OE_P and
  FIO_OE_N. -/
  fio : SMap (BitVec 18)
  /-- The cycle in which the first row of a pop stands on a District's queue port (R229). -/
  poppedAt : SMap Nat
  /-- District RAM ports, by block 64d + k (R131). -/
  ramPorts : SMap RamPorts
  /-- What protected reads of the cycles that have run found, by District: corrections, and the rows read wrong by block; reported as
  soon as the cycles have run (R149). -/
  found : List (Nat × Nat × List (Nat × Nat))
deriving DecidableEq, Repr

/-- The fabric as reset leaves it: every register 0. -/
def Fabric.reset : Fabric :=
  { phase := 0, cycle := 0, draw := 0, hops := [], boulevards := [], upHops := [], bollards := [], passed := [], parks := [], ran := [],
    tiles := [], fio := [], poppedAt := [], ramPorts := [], found := [] }

/-! Self-test. -/

/-- The phases of an in-field slice (R405). -/
inductive SlicePhase
  | copy | test | restore | clear
deriving DecidableEq, Repr

/-- The spares of one memory in use (R409, R411): the addresses that spare rows replace, in the order taken, 65,536 for one
that was itself replaced, and the cell positions that spare columns replace. -/
structure Repair where
  rows : List Nat
  cols : List Nat
deriving DecidableEq, Repr

/-- The self-test engine (R401 to R411); its settings and results are registers. -/
structure SelfTest where
  /-- The spare of the target's Quarter that an in-field test holds (R405). -/
  spare : Option Nat
  /-- The next slice, or the one in progress with its phase (R405). -/
  slice : Nat
  phase : Option SlicePhase
  /-- BIST_ABORT, or an event that acts as one, ends the test after the slice in progress (R407). -/
  aborted : Bool
  /-- COMPLETE (R403). -/
  complete : Bool
  /-- A read has mismatched (R404). -/
  mismatch : Bool
  /-- The target is beyond repair (R410). -/
  beyond : Bool
  /-- The test and the reference MISR (R403). -/
  misr : BitVec 64
  refMisr : BitVec 64
  /-- The owner that an off-line test gives its bank back to (R408). -/
  owner : Nat
  /-- Banks whose invalidation ends an off-line test, by number: the owner each then goes back to (R408). -/
  back : SMap Nat
  /-- A SUBSTITUTE, or a VAULT_UNLOCK, that waits for the end of the test (R407). -/
  moveDue : Bool
  unlockDue : Bool
  /-- The engine's fail status (R298, R404). -/
  failStatus : Bool
  /-- Repairs in force, by the ID of their record with part 0, and the keeper's sector of each record, by its ID (R411). -/
  repairs : SMap Repair
  homes : SMap Nat
deriving DecidableEq, Repr

/-! The decision path. -/

/-- A path of the ledger in force (R190): L_DEC, S, its port records, its anchors, and, as the trace reads them from the
frames, the planes that carry it and the Underpasses it crosses (1024q + u). -/
structure LedgerPath where
  ldec : Nat
  entry : Nat
  ports : List (BitVec 64)
  anchors : List (BitVec 64)
  planes : List Nat
  underpasses : List Nat
deriving DecidableEq, Repr

/-- A tap record of the ledger in force (R190). -/
structure LedgerTap where
  path : Nat
  contexts : Nat
  phase : Nat
  hold : Nat
  outputs : Nat
  dlMask : Nat
  regs : Nat
  trunks : Nat
deriving DecidableEq, Repr

/-- The kinds of decision that a tap emits (R196), a reject that POLICY put in a breach's place (R194) told from a computed
one, and nothing at all (R208). -/
inductive DecisionKind
  | reject | accept | forced | policyReject | marker | nothing
deriving DecidableEq, Repr

/-- A decision in a tap's hold line or on its outputs (R188, R196): its kind, ATYPE and DUSER. -/
structure Decision where
  kind : DecisionKind
  atype : Nat
  user : Nat
deriving DecidableEq, Repr

/-- What a side-street pair drives for a crossing (R198, R199). -/
inductive PairOut
  | word (w : BitVec 48)
  | pins (accept valid : Bool)
deriving DecidableEq, Repr

/-- The receiver of an accept lane (R202): lock, good words in a row while unlocked, the CRC failures among the last 16
words, latest first, and the orbit of its last WARNING record. -/
structure LaneRx where
  locked : Bool
  good : Nat
  recent : List Bool
  warned : Option Nat
deriving DecidableEq, Repr

/-- An accept offered to or taken by the event builder (R201, R214). -/
structure Accept where
  crossing : Nat
  atype : Nat
  forced : Bool
  mismatch : Bool
  source : Nat
deriving DecidableEq, Repr

/-- The decision path (R185 to R211). -/
structure DecisionPath where
  /-- The ledger in force: paths by identifier, taps by device tap index. -/
  paths : SMap LedgerPath
  taps : SMap LedgerTap
  /-- Hold lines, by tap: decisions by due crossing (R188). -/
  lines : SMap (SMap Decision)
  /-- The last decision of each tap, with its due crossing (R196). -/
  emitted : SMap (Nat × Decision)
  /-- The downlink commands that taps gave for the present crossing, by port (R197, R98). -/
  downlinks : SMap Nat
  /-- What each side-street pair drives (R198, R199). -/
  pairs : SMap PairOut
  /-- The receivers of accept lanes, by pair (R202). -/
  lanes : SMap LaneRx
  /-- The breach latch (R194), and the crossing from which it shows in BUSY_SRC (R207). -/
  breach : Option Nat
  /-- The paths whose breach is latched (PATH_STATE 3). -/
  breached : List Nat
  /-- A BREACH_ACK waits for the boundary, not voided (R194). -/
  ackPending : Bool
  /-- The crossings for which FABRIC of BUSY_SRC is set, the latest first and at most two: each follows a crossing in whose expected
  cycle a tap raised DBUSY (R206, R207). -/
  fabricBusy : List Nat
  /-- The crossing in which each tap was judged last: it has one expected cycle in each (R188, R193). -/
  judged : SMap Nat
  /-- Breaches of offers judged outside RUNNING, which arise only if their due crossing proves to be no marker: tap, due crossing
  and code (R193, R195, R208). -/
  suspects : List (Nat × Nat × Nat)
  /-- FORCE as it drives BUSY_N in the present crossing (R207). -/
  force : Bool
deriving DecidableEq, Repr
/-! Event builder and queues. -/

/-- A taken accept (R212, R213): its number among all taken, its event, the accepts refused before it, and the MT of its
crossing as it was when it was taken (R224). -/
structure Taken where
  ticket : Nat
  event : Nat
  accept : Accept
  refused : Nat
  mt : Nat
deriving DecidableEq, Repr

/-- A fragment in the making, or built (R219 to R223): the accept with its number and its event, the group with its window, ports
and queue, how far extraction has come (0 waiting, 1 reading, 2 built), FLAGS beside EMPTY, DAMAGED and TRUNCATED of the payload,
E, the words of each crossing with the number of damaged ones, and whether it waited for space. -/
structure EbTask where
  ticket : Nat
  event : Nat
  mt : Nat
  accept : Accept
  refused : Nat
  group : Nat
  queue : Nat
  pre : Nat
  post : Nat
  ports : List Nat
  last : Bool
  stage : Nat
  flags : Nat
  entry : Nat
  body : List (List (BitVec 64) × Nat)
  waited : Bool
deriving DecidableEq, Repr

/-- The event builder (R212 to R225); its settings and counters are registers. -/
structure EventBuilder where
  /-- The token bucket, and the crossings since it gained a token (R212). -/
  tokens : Nat
  refill : Nat
  /-- Accepts offered in the present crossing, judged at its end in the order of R205. -/
  offered : List Accept
  /-- The crossing of the last accept taken, and the accepts taken in a crossing (R212). -/
  lastTaken : Option Nat
  takenIn : Nat × Nat
  /-- Accepts refused since the last one taken (R213). -/
  refused : Nat
  /-- How many accepts have been taken in all: the number of the next one. -/
  tickets : Nat
  /-- Taken accepts that wait for phase 0 of the next crossing to be handed over (R219). -/
  fresh : List Taken
  /-- Fragments not written yet, in the merge stage's order (R223). -/
  tasks : List EbTask
  /-- The orbit of the last WARNING record of a refusal reason, or of 16 plus a queue (R212, R218). -/
  warned : SMap Nat
deriving DecidableEq, Repr

/-- A queue's content (R226 to R234): the rows of each whole fragment, oldest first, the rows of the one being pushed, whether
that one is discarded up to its end, whether it has waited for space, and what its trunk has sent: whole fragments, and rows of
the next. -/
structure Queue where
  frags : List (List Nat)
  part : List Nat
  dropping : Bool
  waited : Bool
  sentFrags : Nat
  sentRows : Nat
deriving DecidableEq, Repr

/-- An empty queue. -/
def Queue.empty : Queue := { frags := [], part := [], dropping := false, waited := false, sentFrags := 0, sentRows := 0 }

/-! Trunks. -/

/-- A packet that a trunk has sent and not seen acknowledged (R247, R250): its SEQ, class, queue or management kind, MG, its
place in its fragment, the rows of queue storage it carries, or rows made for it (a management row, or a header of R234), and
whether its acknowledgement frees its fragment. -/
structure SentPacket where
  seq : Nat
  cls : Nat
  queue : Nat
  mg : Bool
  sof : Bool
  eof : Bool
  rows : List Nat
  made : List (BitVec 128)
  frees : Bool
deriving DecidableEq, Repr

/-- A trunk (R238 to R258); its settings, sequence numbers and counters are registers. -/
structure Trunk where
  /-- The trunk PLL is locked; codeword lock is held (TK_STATUS). -/
  pll : Bool
  lock : Bool
  /-- STOP has been sent: the trunk is STOPPED until power is cycled (R242). -/
  stopped : Bool
  /-- The last READY received (TK_STATUS). -/
  remoteReady : Bool
  /-- The trunk's own EPOCH, and the partner's as of the last UP (R251). -/
  epoch : Nat
  partner : Option Nat
  /-- The partner's EPOCH as received last (R240). -/
  seen : Nat
  /-- Packets not acknowledged, oldest first, and how many of them are to be resent before a new one goes out (R250). -/
  unacked : List SentPacket
  resend : Nat
  /-- Timeouts in a row without progress (R250). -/
  timeouts : Nat
  /-- Blocks sent of classes 1 to 3 since the link came up, and the partner's CRED1 to CRED3 (R249). -/
  used : List Nat
  cred : List Nat
  /-- Packets accepted and not pushed yet, oldest first (R250, R252). -/
  received : List TrunkPacket
  /-- Blocks of classes 1 to 3 that left the receive buffer since the link came up (R249). -/
  freed : List Nat
  /-- A NAK has been sent for the present gap; a LINK block that says NAK is due (R250). -/
  nakSent : Bool
  nakDue : Bool
  /-- Turns for which a queue's head packet was passed over, by queue, and the queue served last in each class (R248). -/
  passed : SMap Nat
  turn : List Nat
  /-- Management packets that wait to be sent, oldest first (R253). -/
  mgmtOut : List (BitVec 128)
  /-- The next MARK_COUNT (R240), and the MARKs that have decoded at their spacing in the present training, counted up to 3 (R241). -/
  marks : Nat
  marksIn : Nat
  /-- Uncorrectable codewords in a row (R241). -/
  badWords : Nat
  /-- The C0 messages fixed for a crossing, until the next one sends them (R243). -/
  c0Due : Option (Nat × List (BitVec 64))
  /-- The last C0 messages sent, with the crossing they were fixed for, and the crossing and phase in which their first block left
  (R243). -/
  c0Out : Option (Nat × List (BitVec 64))
  c0At : Option (Nat × Nat)
  /-- Crossings whose C0 messages were not sent since the last block, and the first and last of the interruption (R245). -/
  c0Missed : Nat
  c0Gap : Option (Nat × Nat)
  /-- C0 blocks received, by crossing, messages by slot; crossings that a later LOST counted (R246). -/
  c0In : SMap (SMap (BitVec 64))
  c0Marked : List Nat
  /-- C0R_MSG, C0R_VALID and C0R_STATUS as presented last, with their crossing (R246). -/
  c0Shown : Option (Nat × SMap (BitVec 64) × Nat)
  /-- The blocks of the last thing sent: header bit and 256 bits (R240). -/
  out : List (BitVec 257)
  /-- Ethernet: the next FSEQ, and the last frame sent, with its FCS (R254, R255). -/
  fseq : Nat
  frame : Option Bytes
  /-- Ethernet: the last frame passed to service firmware, and the second and number of its answers in it (R257). -/
  passedOn : Option Bytes
  answers : Nat × Nat
  /-- The orbit of the last ERROR record for a queue (R252). -/
  warned : SMap Nat
deriving DecidableEq, Repr

/-- A trunk as reset leaves it. -/
def Trunk.idle : Trunk :=
  { pll := false, lock := false, stopped := false, remoteReady := false, epoch := 0, partner := none, seen := 0, unacked := [], resend := 0, timeouts := 0,
    used := [0, 0, 0], cred := [0, 0, 0], received := [], freed := [0, 0, 0], nakSent := false, nakDue := false, passed := [],
    turn := [0, 0, 0], mgmtOut := [], marks := 0, marksIn := 0, badWords := 0, c0Due := none, c0Out := none, c0At := none, c0Missed := 0, c0Gap := none, c0In := [], c0Marked := [],
    c0Shown := none, out := [], fseq := 0, frame := none, passedOn := none,
    answers := (0, 0), warned := [] }


/-! Configuration loading. -/

/-- An entry of an image's section table (R270), with the 80 bytes it came from. -/
structure LoadSection where
  typ : Nat
  comp : Nat
  mask : Nat
  target : Nat
  offset : Nat
  stored : Nat
  raw : Nat
  digest : Bytes
  entry : Bytes
deriving DecidableEq, Repr

/-- Frames of a PLANE section that wait to be written (R263): the plane, the section's index, the next frame, the data left, and
the LOAD_DETAIL with which step 10 will fail once they are written. -/
structure FrameJob where
  plane : Nat
  sect : Nat
  next : Nat
  data : Bytes
  fault : Option Nat
deriving DecidableEq, Repr

/-- What an Inner Port answered last (R282, R283): IP_STATUS, IP_TICKET and the frame's data read. -/
structure IpAnswer where
  status : Nat
  ticket : Nat
  data : BitVec 2048
deriving DecidableEq, Repr

/-- A read of the configuration flashes (R264): the command with its extension, the address, the dummy cycles, and the chips
selected, bit i of flash i. -/
structure FlashRead where
  command : Nat
  extension : Nat
  addr : Nat
  dummy : Nat
  chips : Nat
deriving DecidableEq, Repr

/-- The configuration controller (R260 to R288); LOAD_STATE and what it shows are registers. -/
structure Loader where
  /-- A load is in progress. -/
  active : Bool
  /-- It is a golden load (R277). -/
  golden : Bool
  /-- A failed listener waits for a golden stream (R268); once the 2 s in which one may start are over, how many of the bytes it
  hunts in came before their end. -/
  goldenWait : Bool
  waitLeft : Option Nat
  /-- Its source (R262). -/
  source : Nat
  /-- The device state in which it started (R261). -/
  startedIn : DevState
  /-- The bytes taken: from SYNC on, or those hunted so far. -/
  stream : Bytes
  synced : Bool
  /-- Bytes hunted before SYNC (R275 step 1). -/
  hunted : Nat
  /-- The header has passed steps 2 to 5, and the section table step 7. -/
  headed : Bool
  tabled : Bool
  /-- GLOBAL of the header. -/
  global : Bool
  /-- The section table. -/
  table : List LoadSection
  /-- The sections read whole. -/
  done : Nat
  /-- The raw content of the sections that the device takes and that are no PLANE section, by section index. -/
  raws : SMap Bytes
  /-- Frames that wait to be written. -/
  frames : List FrameJob
  /-- The planes written by the load, each with the judgement that it was in service as its load began (R166). -/
  planes : SMap Bool
  /-- The release stages taken since the last global acceptance, and the crossing from which the pending stage counts, none
  until the time base is ALIGNED (R280). -/
  stage : Nat
  pending : Bool
  spaceFrom : Option Nat
  /-- AR_VERSION that AR_COUNTER takes at stage 3 (R274). -/
  advance : Option Nat
  /-- IMAGE_ID of the running global image. -/
  imageId : Bytes
  /-- Tickets of the 256 most recent repairs, newest last, each with its state, and the last one issued (R287). -/
  tickets : List (Nat × Nat)
  lastTicket : Nat
  /-- Planes in LOADING that an Inner Port writes, with the frames written (R284, R286). -/
  ipPlanes : SMap (List Nat)
  /-- The beats of a STREAM, and the answers, by District (R283). -/
  ipOut : SMap IpAnswer
  /-- The planes whose SEAL waits for a test of a bank that they schedule for C0, by District of the port (R401). -/
  sealWait : SMap Nat
  /-- The flash read that the load in progress has begun (R264). -/
  flash : Option FlashRead
deriving DecidableEq, Repr

/-! The configuration scrubber and the frame reserve. -/

/-- An entry of the repair queue (R321): its ticket, the frame, and whom it came from: 0 the contention guard, 1 an Inner Port
or a data port, 2 the sweep. -/
structure RepairEntry where
  ticket : Nat
  plane : Nat
  frame : Nat
  rank : Nat
deriving DecidableEq, Repr

/-- The repair at the head of the queue (R323, R324): its entry, the source as R325 numbers it or 3 for a correction in place (R320), the frame's data, whether its
plane was in service as it came to the head, and whether it has been written. -/
structure Repairing where
  entry : RepairEntry
  source : Nat
  data : BitVec 2048
  inService : Bool
  written : Bool
deriving DecidableEq, Repr

/-- The configuration scrubber (R317 to R335) and the frame reserve (R327 to R330); settings and counters are registers. -/
structure CfgScrub where
  /-- The number of the pass modulo 4, and when it began, in microseconds of UPTIME (R317). -/
  pass : Nat
  passFrom : Nat
  /-- The pass has begun: the planes of each Quarter's sweep are fixed (R317). -/
  begun : Bool
  sets : SMap (List Nat)
  /-- The reads that each Quarter's sweep has made (R317). -/
  reads : SMap Nat
  /-- The repair queue and the priority list of 64 (R321). -/
  queue : List RepairEntry
  extra : List RepairEntry
  /-- The repair in progress. -/
  busy : Option Repairing
  /-- Planes with queued frames judged in service as the first of them came to the head (R324). -/
  judged : SMap Bool
  /-- Tickets that wait for the end of a load of their plane (R495). -/
  superseded : SMap (List Nat)
  /-- Frames that the contention guard handed over, and that have not been read and queued, each with its ticket (R335). -/
  handed : List (Nat × Nat × Nat)
  /-- Reserve slots by plane, fills in progress with the next frame, and the next free byte of each slot (R329). -/
  slots : SMap Nat
  filling : SMap Nat
  tails : SMap Nat
  /-- Image sources: LOAD_SRC, the address and IMAGE_ID, by plane (R331). -/
  images : SMap (Nat × Nat × Bytes)
  /-- Frames written by an Inner Port since the plane's load, which have no image source (R286, R331). -/
  noImage : SMap (List Nat)
  /-- The fields of CS_STATUS. -/
  oddCopy : Nat
  checkOnly : Bool
  stale : Bool
  lastTicket : Nat
  /-- The ticket of the repair that found a load holding the flash (R331). -/
  flashWait : Option Nat
  /-- The three copies of each triple register, copy c of a register at 3 × its key + c (R332). -/
  triple : SMap Nat
  /-- Damaged frames: the bits that the next writes store inverted, and how many writes (R263, R316, R324). -/
  damage : SMap (BitVec 2093 × Nat)
deriving DecidableEq, Repr

/-! The control plane. -/

/-- A request that a route has delivered and the dictionary has not performed yet (R346, R357): its route, its OPCODE byte,
EID, LEN and data, a CAN FD request's identifier, and BAD_CRC or MALFORMED where that is all its answer, 0 otherwise. -/
structure HeldRequest where
  route : Route
  opcode : Nat
  eid : Nat
  len : Nat
  data : Bytes
  id : Nat
  fault : Nat
deriving DecidableEq, Repr

/-- The answer the dictionary gave last: the sender's controller ID, the status, and the data read (R347). -/
structure LastAnswer where
  controller : Nat
  status : Nat
  data : Bytes
deriving DecidableEq, Repr

/-- A pending in-band interrupt (R344): MDB, detail bytes, attempts made. -/
structure PendingIbi where
  mdb : Nat
  first : Nat
  second : Nat
  tries : Nat
deriving DecidableEq, Repr

/-- The I3C target (R340 to R348); its dynamic address is I3C_DA. -/
structure I3cTarget where
  /-- HDR-DDR mode is entered (R340). -/
  ddr : Bool
  /-- The target ignores the bus until the HDR exit pattern (R340). -/
  deaf : Bool
  /-- The maximum write and read lengths (R340). -/
  mwl : Nat
  mrl : Nat
  /-- ENEC has enabled interrupts; Hot-Join is not disabled by DISEC (R342, R344). -/
  intEnabled : Bool
  hotJoinEnabled : Bool
  /-- The response held, whole, until its last CRC byte is read (R348). -/
  response : Option Bytes
  /-- Interrupts that wait for the bus (R344). -/
  ibis : List PendingIbi
  /-- Hot-Joins raised since control became ready (R342). -/
  hotJoins : Nat
  /-- What the target drove in the last transfer addressed to it; none where it did not acknowledge. -/
  out : Option Bytes
  /-- The last in-band interrupt sent: MDB and its detail bytes (R344). -/
  sent : Option (Nat × Nat × Nat)
deriving DecidableEq, Repr

/-- The CAN FD port (R352, R353). -/
structure CanPort where
  /-- Admission tokens (R353) and the time of the last refill, in microseconds of UPTIME. -/
  tokens : Nat
  refilled : Nat
  /-- The last frame sent: identifier and data (R352). -/
  sent : Option (Nat × Bytes)
  /-- A frame has been on the bus since the error counters stood at 0 (R352, R453). -/
  traffic : Bool
deriving DecidableEq, Repr

/-- Ivtor's reply line (R361): OK with a text, ERR with an abort code, ERR DENIED or ERR SYNTAX. -/
inductive IvtorReply
  | ok (text : Bytes)
  | err (abort : Nat)
  | denied
  | syntaxError
deriving DecidableEq, Repr

/-- The Ivtor monitor (R361): its line settings, its last reply, and the characters sent for it, the prompt included. -/
structure Ivtor where
  baud : Nat
  echo : Bool
  reply : Option IvtorReply
  sent : Bytes
deriving DecidableEq, Repr

/-- The routes to the dictionary (R338 to R364). -/
structure Control where
  /-- Requests delivered and not performed, in arrival order (R357). -/
  waiting : List HeldRequest
  /-- The last answer given. -/
  answer : LastAnswer
  i3c : I3cTarget
  can : CanPort
  ivtor : Ivtor
  /-- Data ports that owe a DATA_PORT interrupt after abort 0x0B (R351). -/
  owed : List Nat
  /-- Control is ready (R342, R453). -/
  ready : Bool
deriving DecidableEq, Repr

/-! The service core's registers. -/

/-- A dictionary window (R387): the request bytes written, the response held, and DQ_STATUS. -/
structure DictWindow where
  request : Bytes
  response : Bytes
  status : Nat
deriving DecidableEq, Repr

/-- The service core's core-local block and windows (R384 to R388). -/
structure ServiceCore where
  /-- MTIME beyond UPTIME: cycles of the 100 MHz count (R384). -/
  mtime : Nat
  /-- MTIMECMP (R384). -/
  mtimecmp : Nat
  /-- MSIP bit 0 (R384). -/
  msip : Bool
  /-- The machine timer interrupt is pending (R384). -/
  timerPending : Bool
  /-- BUS_CLASS (R384). -/
  busClass : Nat
  /-- TASK_ID (R384). -/
  taskId : Nat
  /-- Latched external interrupt sources (R385). -/
  irq : Nat
  /-- IRQ_ENABLE (R384). -/
  irqEnable : Nat
  /-- The memory event FIFO, oldest first, at most 16: bank, cause, owner (R386). -/
  memEvents : List (Nat × Nat × Nat)
  /-- MEM_LOST (R386). -/
  memLost : Nat
  /-- The last value that a load of the core gave (R384). -/
  readOut : Nat
  /-- The high word of MT_SNAP, taken with the last read of the low word (R384). -/
  snapHigh : Nat
  /-- KW_SECTOR, KW_STATUS and KW_DATA (R384). -/
  kwSector : Nat
  kwStatus : Nat
  kwData : Bytes
  /-- The machine and the user dictionary window (R387). -/
  dictM : DictWindow
  dictU : DictWindow
deriving DecidableEq, Repr

/-! The keeper. -/

/-- A keeper write that is under way (R384, R493): a raw write, or a change of one slot of the retirement table. -/
inductive KeeperJob
  | raw (sector : Nat) (data : BitVec 512)
  | retirement (slot page : Nat)
deriving DecidableEq, Repr

/-- A signing key slot's public key, or its revocation (R272, KEY_STATE). -/
inductive SigningKey
  | valid (point : Bytes)
  | revoked
deriving DecidableEq, Repr

/-- The keeper (R392 to R397). -/
structure Keeper where
  /-- The sectors' content, 64 bytes each, byte 0 lowest; an unlisted sector is blank, all zero. -/
  sectors : SMap (BitVec 512)
  /-- The wear counters (R395). -/
  wear : SMap Nat
  /-- The reserve sector that stands for a worn home sector (R396). -/
  moved : SMap Nat
  /-- Reserve sectors that were ever taken. -/
  taken : List Nat
  /-- Counters whose two copies failed at BOOT (R394). -/
  dead : List Nat
  /-- The keeper cannot be read (R397), the UPTIME in microseconds at which a keeper that BOOT has read begins to fail every read, and
  the sectors that read uncorrectable (R392). -/
  failed : Bool
  failAt : Option Nat
  bad : List Nat
  /-- FW_COUNTER (R394). -/
  fwCounter : Nat
  /-- Writes under way, oldest first. -/
  jobs : List KeeperJob
  /-- Signing key slots 0 to 3 (R272); an unlisted slot is empty. -/
  signing : SMap SigningKey
  /-- AES key slots 0 to 3 (R270); an unlisted slot is empty. -/
  aes : SMap Bytes
  /-- A secret sector could not be made zero: no key slot is used again (R445). -/
  keysLost : Bool
deriving DecidableEq, Repr

/-! Debug and lifecycle. -/

/-- The instructions of the JTAG port (R424). -/
inductive JtagInstruction
  | extest | idcode | sample | extestPulse | extestTrain | clamp | highz | dbgAccess | bypass
deriving DecidableEq, Repr

/-- A trigger's registers (R431, R436): TADDR, TLIMIT, the settings of TCTRL, THITS, and, for a link, that its predecessor has
hit. -/
structure Trigger where
  addr : Nat
  limit : Nat
  ctrl : Nat
  hits : Nat
  armed : Bool
deriving DecidableEq, Repr

/-- The debug port (R423 to R440). -/
structure DebugPort where
  /-- The instruction in force (R424). -/
  instruction : JtagInstruction
  /-- What the selected data register captures: IDCODE. -/
  idcode : Option (BitVec 32)
  /-- DCTRL: STEP, CUR and STEP_NOIRQ (R431). -/
  step : Bool
  cur : Bool
  stepNoIrq : Bool
  /-- GPR_SEL and CSR_SEL (R431). -/
  gprSel : Nat
  csrSel : Nat
  /-- The last transaction's STATUS, ADDR and DATA (R426). -/
  status : Nat
  addr : Nat
  data : Nat
  /-- Triggers 0 to 13 (R436). -/
  triggers : SMap Trigger
deriving DecidableEq, Repr

/-- An entry of physical memory protection (R381): its byte of pmpcfg, and its pmpaddr, bits 33 to 2 of an address. -/
structure PmpEntry where
  cfg : Nat
  addr : Nat
deriving DecidableEq, Repr

/-- An entry that is off. -/
def PmpEntry.off : PmpEntry := { cfg := 0, addr := 0 }

/-- The service core as the debugger and the resets see it (R380, R390, R398, R431 to R435). -/
structure CoreRun where
  /-- The core executes: not in reset, not held, not halted. -/
  running : Bool
  halted : Bool
  /-- Held in reset by CUR (R435). -/
  held : Bool
  /-- The firmware has been entered: the watchdog counts (R390, R399); otherwise the boot ROM runs, or serves (R391). -/
  entered : Bool
  romService : Bool
  /-- The watchdog's count, in microseconds left of the present stage, and its stage (R399, R400). -/
  wdtLeft : Nat
  wdtStage : Nat
  wdtRuns : Bool
  /-- CAUSE, TRIGGER and LOCK_BROKEN of DSTATUS, and the cause of a deferred halt (R431, R433). -/
  cause : Nat
  trigger : Nat
  lockBroken : Bool
  deferred : Option (Nat × Nat)
  /-- A single step is executing (R431). -/
  stepping : Bool
  /-- The reservation of an LR.W that no SC.W has used up (R433). -/
  reservation : Bool
  /-- FW_AR of the running firmware (R389). -/
  fwAr : Nat
  /-- The draw by which registers and memory hold what the firmware left in them; the model's own. -/
  draw : Nat
  /-- DPC, general registers, CSRs and TCM words as the debugger wrote them, or as the boot ROM loaded them. -/
  dpc : Option Nat
  gprs : SMap Nat
  csrs : SMap Nat
  tcm : SMap Nat
  /-- The boot ROM has jumped to ENTRY, and no command has shown the firmware execute anything since (R390); the model's own. -/
  fresh : Bool
  /-- Entries 0 to 15 of physical memory protection (R381); unlisted ones are off. -/
  pmp : SMap PmpEntry
  /-- mcause and mtval of the last exception that an access fault or a breakpoint has raised (R382, R383, R432). -/
  trap : Option (Nat × Nat)
deriving DecidableEq, Repr

/-- The queue mailbox (R388): the fragment staged, its queue, whether its EOF row has been committed, REFUSED, and the rows of
the fragment presented, with its queue and whether the row presented is its first. -/
structure Mailbox where
  qid : Nat
  /-- The words of the row being written, and bits 0 and 1 of 0x004. -/
  row : BitVec 128
  marks : Nat
  /-- The queue of the fragment that waits. -/
  pushTo : Nat
  staged : List (BitVec 128)
  waiting : Bool
  refused : Bool
  dropping : Bool
  popQid : Nat
  shown : List (BitVec 128 × Bool)
  first : Bool
  /-- The last row of those presented frees its fragment in the queue. -/
  frees : Bool
  /-- The last row taken, with ERR (R388). -/
  taken : Option (BitVec 128 × Bool)
deriving DecidableEq, Repr

/-- The lifecycle controller (R441 to R446). -/
structure LifecycleControl where
  /-- The challenge that the last read of LC_CHALLENGE returned, by the count it was drawn with (R444). -/
  challenge : Option Nat
  /-- The token written since the last LC_REQUEST (R444). -/
  token : Option Bytes
  /-- The change in progress: its target and the controller that requested it (R445). -/
  change : Option (Nat × Nat)
deriving DecidableEq, Repr

/-- The fabric freeze (R378): the crossing it begins in and the Districts it names. -/
structure Freeze where
  at_ : Nat
  mask : BitVec 128
deriving DecidableEq, Repr

/-! Power, reset and tamper. -/

/-- The supplies and reset conditions (R449, R457, R458), tamper edges not counted yet (R447), and what POR has sampled. -/
structure Power where
  /-- VDD_AUX is good. -/
  aux : Bool
  /-- Every domain outside VDD_AUX is power-gated in SHUTDOWN (R469). -/
  gated : Bool
  /-- RESET_CAUSE of the reset in force. -/
  cause : Nat
  /-- Tamper edges seen before the keeper was available (R447). -/
  edges : Nat
  /-- A RESET deferred until a keeper write ends, with its RESET_CAUSE (R450). -/
  deferred : Option Nat
deriving DecidableEq, Repr

/-! Thermal management. -/

/-- A sensor (R460 to R463): its last reading and its highest valid one, in 1/64 °C, whether it is broken, and the rounds in a
row in which its pair has differed by more than 10 °C. -/
structure Sensor where
  last : Int
  peak : Int
  broken : Bool
  apart : Nat
deriving DecidableEq, Repr

/-- The thermal controller (R460 to R471); what it shows is in registers. -/
structure Thermal where
  sensors : SMap Sensor
  /-- Rounds are read every 50 µs (R461). -/
  fast : Bool
  /-- Shutdown is triggered, and the crossing after the round that triggered it (R468, R469). -/
  stopAt : Option Nat
  /-- The last crossing in which taps emit markers in SHUTDOWN (R469). -/
  markersTo : Option Nat
  /-- The readings at which compensated items were last updated, by governing pair (R471). -/
  compensated : SMap Int
deriving DecidableEq, Repr

/-! The whole state. -/

/-- The state of the device. -/
structure State where
  /-- The commands that wait, first in, first out. -/
  pending : List Instr
  /-- The dictionary's registers, by element and unit; unlisted registers hold their map's default. -/
  regs : SMap Nat
  /-- Values in force of elements that take effect at an orbit boundary (R103, R210, R358), by register. -/
  force : SMap Nat
  /-- Values written to such elements since the last boundary (R358). -/
  deferred : SMap Nat
  /-- The number of free values drawn so far; the model's own. -/
  fv : Nat
  /-- The device state (R13). -/
  dev : DevState
  /-- The lifecycle (R16). -/
  life : Lifecycle
  /-- The rights that firmware grants to user tasks (R338, R387): 0 Observer to 2 Expert. -/
  userRights : Nat
  /-- Decisions for crossings before this one are markers after a resume from clock or orbit loss (R58). -/
  cut : Nat
  /-- A clock or orbit loss is in force: crossings are unrecorded, and in HOLD the fabric is stopped, until resume or, in another
  device state, until entries run again (R56, R58). -/
  lossHeld : Bool
  /-- The first crossing of that loss, or of the last one (R56). -/
  lossFrom : Nat
  /-- SAFE is entered at the next crossing, with this cause (R368). -/
  safeDue : Option Nat
  /-- A whole-device reset follows the answer of RESET_CMD = 2 (R369). -/
  resetDue : Bool
  /-- The fabric has its clock: not in SAFE, SHUTDOWN or reset (R368, R469); the Districts run while they are released. -/
  fabricOn : Bool
  /-- The time base (R35 to R58). -/
  tb : TimeBase
  /-- The Roundabout (R59 to R67). -/
  rb : Roundabout
  /-- The front-end ports, by number (R80 to R101). -/
  ports : SMap Port
  /-- The words of the banks (R289), by physical bank × 32768 + word address; an unlisted word is invalid, or zero with fresh
  check bits in a bank that a wipe has filled (R128). -/
  cells : SMap StoredWord
  /-- The bank ports, by logical bank (R105). -/
  banks : SMap BankPort
  /-- Answers in issue order, by channel (R34, R160). -/
  lanes : SMap Lane
  /-- The fixed buses, by District channel (R160). -/
  fixed : SMap FixedBus
  /-- The rings, by Quarter (R112). -/
  rings : SMap Ring
  /-- The memory layer's engines. -/
  mem : MemoryEngines
  /-- The self-test engine (R401 to R411). -/
  bist : SelfTest
  /-- The decision path (R185 to R211). -/
  dec : DecisionPath
  /-- The event builder (R212 to R225). -/
  eb : EventBuilder
  /-- The queues' content, by queue (R226 to R234); descriptors are registers. -/
  queues : SMap Queue
  /-- What each District's queue port was given last (R229): rows with their error indications, none for QP_REMPTY. -/
  qports : SMap (List (BitVec 128 × Bool))
  /-- The trunks, by number (R238 to R258). -/
  trunks : SMap Trunk
  /-- The configuration controller (R260 to R288). -/
  load : Loader
  /-- The configuration scrubber (R313 to R337). -/
  scr : CfgScrub
  /-- The debug port (R423 to R440), the core's run state, the mailbox, the lifecycle and a freeze to come. -/
  dbg : DebugPort
  run : CoreRun
  mbox : Mailbox
  lc : LifecycleControl
  freeze : Option Freeze
  /-- Power and reset (R448 to R458). -/
  power : Power
  /-- The thermal controller (R460 to R471). -/
  heat : Thermal
  /-- The Districts, by number. -/
  dists : SMap District
  /-- The planes, by number 8d + k. -/
  planes : SMap Plane
  /-- The L3 frames, by plane × 4800 + frame, each its 2093 stored bits (R314); an unlisted frame is all zero. -/
  frames : SMap (BitVec 2093)
  /-- The flip-flops of the Districts (R171, R182): District × 16 + 0 to 7 the shadows, 8 the live cells, 9 the capture
  cells; unlisted cells are 0. -/
  flops : SMap (BitVec 65536)
  /-- The other registers of the logic layers. -/
  fabric : Fabric
  /-- The Underpass guards that are not at rest, by 1024q + u (R144). -/
  guards : SMap Guard
  /-- District RAM content, by block 64d + k (R147); unlisted blocks are 0. -/
  dram : SMap (BitVec 36864)
  /-- The event recorder (R412 to R422). -/
  recorder : Recorder
  /-- An instruction of boundary scan holds the pins (R102, R424). -/
  pinsTaken : Bool
  /-- When a rate-limited record was last written, by key, in microseconds of UPTIME (R110, R353). -/
  noted : SMap Nat
  /-- The routes. -/
  ctl : Control
  /-- The service core. -/
  core : ServiceCore
  /-- The keeper. -/
  keeper : Keeper
  /-- DEV_NAME (R366). -/
  devName : Bytes
deriving DecidableEq, Repr

/-- The time base as reset leaves it: NO_CLOCK. -/
def TimeBase.reset : TimeBase :=
  { st := .noClock, orbit := 0, turns := 0, slot := 0, entered := false, edges := 0, prov := none, misplaced := 0, mismatched := 0,
    srcPresent := false, pllLocked := false, syncOk := false, slotErr := 0, syncOut := none, syncLeft := 0,
    confirmed := none, entriesRun := false, held := none, stepped := none,
    lost := none }

/-- The Roundabout as reset leaves it: every entry disabled (R59). -/
def Roundabout.reset : Roundabout :=
  { active := [], shadow := [], validating := none, pendingAt := none, fromImage := false, openWindows := [],
    paused := [], pauseNoted := false }

/-- The engines of the memory layer as reset leaves them. -/
def MemoryEngines.reset : MemoryEngines :=
  { wipeCause := 0, zeroed := [], repairs := [], places := [], passes := [], passTook := [], passFrom := [], retired := [],
    retiring := [], moves := [], flip := none }

/-- The decision path as reset leaves it: no ledger (R459). -/
def DecisionPath.reset : DecisionPath :=
  { paths := [], taps := [], lines := [], emitted := [], downlinks := [], pairs := [], lanes := [],
    breach := none, breached := [], ackPending := false, fabricBusy := [], judged := [], suspects := [], force := false }

/-- The event builder as reset leaves it: a full bucket, nothing taken (R212). -/
def EventBuilder.reset : EventBuilder :=
  { tokens := 1024, refill := 0, offered := [], lastTaken := none, takenIn := (0, 0), refused := 0, tickets := 0, fresh := [],
    tasks := [], warned := [] }

/-- The self-test engine as reset leaves it: idle (R407). -/
def SelfTest.reset : SelfTest :=
  { spare := none, slice := 0, phase := none, aborted := false, complete := false, mismatch := false, beyond := false,
    misr := 0, refMisr := 0, owner := 0, back := [], moveDue := false, unlockDue := false, failStatus := false, repairs := [],
    homes := [] }

/-- The recorder as reset leaves it: no record held, SEQ from 0 (R412, R419). -/
def Recorder.reset : Recorder :=
  { intake := [], held := [], gens := [], seqNext := 0, lost := 0, lostMt := 0, pseqNext := 1,
    copies := [], refreshed := 0 }

/-- The routes as reset leaves them (R361, R363). -/
def Control.reset : Control :=
  { waiting := [], answer := { controller := 0, status := 0, data := [] }, 
    i3c := { ddr := false, deaf := false, mwl := 4104, mrl := 4104, intEnabled := false, hotJoinEnabled := true,
             response := none, ibis := [], hotJoins := 0, out := none, sent := none },
    can := { tokens := 16, refilled := 0, sent := none, traffic := false },
    ivtor := { baud := 115200, echo := false, reply := none, sent := [] },
    owed := [], ready := false }

/-- The service core as reset leaves it (R384). -/
def ServiceCore.reset : ServiceCore :=
  { mtime := 0, mtimecmp := 0xFFFFFFFFFFFFFFFF, msip := false, timerPending := false, busClass := 3, taskId := 0,
    irq := 0, irqEnable := 0, memEvents := [], memLost := 0, readOut := 0, snapHigh := 0, kwSector := 0, kwStatus := 0,
    kwData := List.replicate 64 0, dictM := { request := [], response := [], status := 0 },
    dictU := { request := [], response := [], status := 0 } }

/-- The lifecycle record of manufacture in its first sector (R393, R441): ID 0x0100_0004, LEN 8, BLANK, nothing pending, count
1, GEN 1, and its CRC. -/
def bornRecord : BitVec 512 :=
  6297533846914039166021043182780699128577611699141306601367508868385544400384914134742618523981090707623278921551724334731366724890932222522186826833199108

/-- The counters of manufacture in their first sectors (R393, R394): counter k with VALUE 0, GEN 1, and its CRC. -/
def bornCounters : SMap (BitVec 512) :=
  [(32896, 8181680418590181819313495333016846043063750161305686144510681347766033204504508941573099042662022600478758503625896841581656243362676139927977481715318784),
   (32898, 7072866597829672793388949283690569749822400173241487181415856624235893631138482516671390923948697842239592448898182473232165859764430650159406477870104577),
   (32900, 11824709427375133385356102495870415547317157367194577650903247330533651370273232376288489426780848661468783381102252929144369037351105738993054711275323394),
   (32902, 13144647552125304211391867284797604768032233075445341156695066511105540660718750026949861353026847040949758989276574275314121143392172555514495052176949251)]

/-- A keeper that holds nothing but its counters and the lifecycle record (R355, R394, R441): no persistent value has been written.
DESIGN CHOICE (log entry 200). -/
def Keeper.blank : Keeper :=
  { sectors := bornCounters ++ [(32904, bornRecord)], wear := [], moved := [], taken := [], dead := [], failed := false, failAt := none,
    bad := [], fwCounter := 0, jobs := [],
    signing := [], aes := [], keysLost := false }

/-- The configuration controller as reset leaves it: no load, no stage taken. -/
def Loader.reset : Loader :=
  { active := false, golden := false, goldenWait := false, waitLeft := none, source := 0, startedIn := .idle, stream := [], synced := false,
    hunted := 0, headed := false, tabled := false, global := false, table := [], done := 0, raws := [], frames := [],
    planes := [], stage := 0, pending := false, spaceFrom := none, advance := none, imageId := List.replicate 16 0,
    tickets := [], lastTicket := 0, ipPlanes := [], ipOut := [], sealWait := [], flash := none }

/-- The configuration scrubber as reset leaves it. -/
def CfgScrub.reset : CfgScrub :=
  { pass := 0, passFrom := 0, begun := false, sets := [], reads := [], queue := [], extra := [], busy := none, judged := [],
    superseded := [], handed := [], slots := [], filling := [], tails := [], images := [], noImage := [], oddCopy := 3,
    checkOnly := false, stale := false, lastTicket := 0, flashWait := none, triple := [], damage := [] }

/-- The debug port as power-on leaves it (R423, R431). -/
def DebugPort.reset : DebugPort :=
  { instruction := .idcode, idcode := none, step := false, cur := false, stepNoIrq := false, gprSel := 1, csrSel := 0,
    status := 0, addr := 0, data := 0, triggers := [] }

/-- The core as reset leaves it: out of reset, in the boot ROM. -/
def CoreRun.reset : CoreRun :=
  { running := true, halted := false, held := false, entered := false, romService := false, wdtLeft := 1000000, wdtStage := 0,
    wdtRuns := false, cause := 0, trigger := 0, lockBroken := false, deferred := none, stepping := false, reservation := false, fwAr := 0, draw := 0,
    dpc := none, gprs := [], csrs := [], tcm := [], fresh := false, pmp := [], trap := none }

/-- The mailbox as reset leaves it. -/
def Mailbox.reset : Mailbox :=
  { qid := 0, row := 0, marks := 0, pushTo := 0, staged := [], waiting := false, refused := false, dropping := false, popQid := 0, shown := [], first := false,
    frees := false, taken := none }

/-- The lifecycle controller as reset leaves it: nothing held. -/
def LifecycleControl.reset : LifecycleControl := { challenge := none, token := none, change := none }

/-- Power as it stands in BOOT. -/
def Power.reset : Power :=
  { aux := true, gated := false, cause := 0, edges := 0, deferred := none }

/-- The thermal controller before its first round (R461). -/
def Thermal.reset : Thermal := { sensors := [], fast := false, stopAt := none, markersTo := none, compensated := [] }

/-- The device right after reset: BOOT, entered from RESET (R13, R367). -/
def State.reset : State :=
  { pending := [], regs := [(regKey .PREV_STATE 0, 1)], force := [], deferred := [], fv := 0, dev := .boot, life := .blank, userRights := 0,
    cut := 0, lossHeld := false, lossFrom := 0, safeDue := none, resetDue := false, fabricOn := true,
    tb := TimeBase.reset, rb := Roundabout.reset, ports := [], cells := [], banks := [], lanes := [], fixed := [],
    rings := [], mem := MemoryEngines.reset, bist := SelfTest.reset, dec := DecisionPath.reset, eb := EventBuilder.reset, queues := [], qports := [], trunks := [],
    load := Loader.reset, scr := CfgScrub.reset, dbg := DebugPort.reset, run := CoreRun.reset, mbox := Mailbox.reset,
    lc := LifecycleControl.reset, freeze := none, power := Power.reset, heat := Thermal.reset,
    dists := [], planes := [], frames := [], flops := [], fabric := Fabric.reset, guards := [],
    dram := [], recorder := Recorder.reset, pinsTaken := false,
    noted := [], ctl := Control.reset,
    core := ServiceCore.reset, keeper := Keeper.blank, devName := [] }

end Sys2Proof.Machine
end

