-- ==== Sys2Proof/Machine/Ops.lean ====
section
/-! DEFINITION. The named operations over the state: sparse stores in canonical form, the register file, bytes and cyclic
redundancy checks, machine time, and raising an event into the recorder's intake. -/

namespace Sys2Proof.Machine

/-! Sparse stores. -/

/-- The value stored at a key, when the key is listed. -/
def mfind {α : Type} : SMap α → Nat → Option α
  | [], _ => none
  | (a, v) :: m, k => if a = k then some v else mfind m k

/-- The value at a key of a store whose unlisted keys hold the default d. -/
def mget {α : Type} (m : SMap α) (k : Nat) (d : α) : α := (mfind m k).getD d

/-- The store without a key. -/
def mdel {α : Type} (m : SMap α) (k : Nat) : SMap α := m.filter (fun p => p.1 != k)

/-- The store with a key listed at a value, keys kept strictly rising. -/
def mput {α : Type} : SMap α → Nat → α → SMap α
  | [], k, v => [(k, v)]
  | (a, w) :: m, k, v => if k < a then (k, v) :: (a, w) :: m else if a = k then (k, v) :: m else (a, w) :: mput m k v

/-- The store with a key at a value, the default left unlisted, so that equal stores are equal data. -/
def mset {α : Type} [DecidableEq α] (m : SMap α) (k : Nat) (v d : α) : SMap α :=
  if v = d then mdel m k else mput m k v

/-- Keys strictly rising, above a bound. -/
def risingFrom {α : Type} : Nat → SMap α → Bool
  | _, [] => true
  | b, (a, _) :: m => Nat.ble b a && risingFrom (a + 1) m

/-- The canonical form of a sparse store: keys strictly rising, and no entry equal to the default. -/
def SMap.wf {α : Type} [DecidableEq α] (m : SMap α) (d : α) : Bool :=
  risingFrom 0 m && m.all (fun p => p.2 != d)

/-- Every listed value changed in place. -/
def mmap {α : Type} (f : Nat → α → α) (m : SMap α) : SMap α := m.map (fun p => (p.1, f p.1 p.2))

/-! Bytes. -/

/-- The n low bytes of a value, least significant first (R17). -/
def leBytes : Nat → Nat → Bytes
  | 0, _ => []
  | n + 1, v => BitVec.ofNat 8 v :: leBytes n (v / 256)

/-- The value of bytes, least significant first (R17). -/
def leVal : Bytes → Nat
  | [] => 0
  | b :: bs => b.toNat + 256 * leVal bs

/-- Bits hi to lo of a value. -/
def bitsOf (v hi lo : Nat) : Nat := v / 2 ^ lo % 2 ^ (hi + 1 - lo)

/-- One bit of a value. -/
def bitOf (v i : Nat) : Bool := v / 2 ^ i % 2 = 1

/-- A flag as a bit. -/
def flagBit (b : Bool) (i : Nat) : Nat := if b then 2 ^ i else 0

/-- The least value of a list, or the bound. -/
def listMin (l : List Nat) (b : Nat) : Nat := l.foldl Nat.min b

/-- The greatest value of a list, at least the bound. -/
def listMax (l : List Nat) (b : Nat) : Nat := l.foldl Nat.max b

/-- All ones in 64 bits, by which several elements name a moment relative to the write. -/
def allOnes64 : Nat := 0xFFFFFFFFFFFFFFFF

/-- A quotient rounded up. -/
def ceilDiv (a b : Nat) : Nat := (a + b - 1) / b

/-! Cyclic redundancy checks. -/

/-- One bit of a check that takes the most significant bit first. -/
def crcBit (w poly reg : Nat) (b : Bool) : Nat :=
  let top := (reg / 2 ^ (w - 1) % 2 = 1) != b
  let sh := reg * 2 % 2 ^ w
  if top then Nat.xor sh poly else sh

/-- The bits of a byte, most significant first. -/
def byteBits (b : Byte) : List Bool :=
  let v := b.toNat
  [bitOf v 7, bitOf v 6, bitOf v 5, bitOf v 4, bitOf v 3, bitOf v 2, bitOf v 1, bitOf v 0]

/-- A check over bytes, each most significant bit first. -/
def crcOver (w poly reg : Nat) (bs : Bytes) : Nat :=
  bs.foldl (fun r b => (byteBits b).foldl (crcBit w poly) r) reg

/-- CRC-16, polynomial 0x1021, initial value 0xFFFF, no final XOR (R50, R78, R346). -/
def crc16 (bs : Bytes) : Nat := crcOver 16 0x1021 0xFFFF bs

/-- CRC-8, polynomial 0x07, initial value 0x00, no final XOR (R96). -/
def crc8 (bs : Bytes) : Nat := crcOver 8 0x07 0 bs

/-- One byte of a reflected 32-bit check, bit by bit. -/
def reflectStep (poly : Nat) : Nat → Nat → Nat
  | 0, r => r
  | n + 1, r => reflectStep poly n (if r % 2 = 1 then Nat.xor (r / 2) poly else r / 2)

/-- A reflected 32-bit check with initial value and final XOR of all ones. -/
def crcReflected (poly : Nat) (bs : Bytes) : Nat :=
  Nat.xor (bs.foldl (fun r b => reflectStep poly 8 (Nat.xor r b.toNat)) 0xFFFFFFFF) 0xFFFFFFFF

/-- CRC-32C: polynomial 0x1EDC6F41, reflected (R315); its reversed form is 0x82F63B78. -/
def crc32c (bs : Bytes) : Nat := crcReflected 0x82F63B78 bs

/-- CRC-32 of IEEE 802.3: polynomial 0x04C11DB7, reflected; its reversed form is 0xEDB88320. -/
def crc32 (bs : Bytes) : Nat := crcReflected 0xEDB88320 bs

/-! The register file. -/

/-- The largest value an element's size holds, less one more: 2^(8 × size). -/
def El.modulus (e : El) : Nat := 2 ^ (8 * e.info.size)

/-- The register of an element's unit; unlisted registers hold the map's default. -/
def State.rget (s : State) (e : El) (u : Nat := 0) : Nat := mget s.regs (regKey e u) e.info.dflt

/-- A register written. -/
def State.rset (s : State) (e : El) (u v : Nat) : State := { s with regs := mset s.regs (regKey e u) v e.info.dflt }

/-- A counter moved on by n, saturating at the largest value of its size and never wrapping (R104, R129, R363). -/
def State.radd (s : State) (e : El) (u n : Nat) : State := s.rset e u (Nat.min (s.rget e u + n) (e.modulus - 1))

/-- A counter moved on by one. -/
def State.rinc (s : State) (e : El) (u : Nat := 0) : State := s.radd e u 1

/-- Registers of one unit cleared to 0. -/
def State.rclear (s : State) (u : Nat) (es : List El) : State := es.foldl (fun t e => t.rset e u 0) s

/-- The units of an element whose register is not at its default. -/
def State.unitsSet (s : State) (e : El) : List Nat :=
  s.regs.filterMap (fun p => if keyEl p.1 = e.ctorIdx then some (keyUnit p.1) else none)

/-- A register as a flag. -/
def State.rflag (s : State) (e : El) (u : Nat := 0) : Bool := s.rget e u == 1

/-- The value in force of an element whose writes take effect at an orbit boundary (R358). -/
def State.fget (s : State) (e : El) (u : Nat := 0) : Nat := mget s.force (regKey e u) e.info.dflt

/-- A register written whose value comes into force at the next orbit boundary (R103, R210, R358). -/
def State.rdefer (s : State) (e : El) (u v : Nat) : State :=
  { s.rset e u v with deferred := mput s.deferred (regKey e u) v }

/-- Every deferred value comes into force; a value equal to the default is left unlisted by its own reader's default. -/
def State.enforce (s : State) : State :=
  { s with force := s.deferred.foldl (fun f p => mput f p.1 p.2) s.force, deferred := [] }

/-! Machine time. -/

/-- L, the orbit's length (R41). -/
def State.L (s : State) : Nat := s.rget .ORBIT_LEN

/-- M, the fabric clock ratio (R38). -/
def State.M (s : State) : Nat := s.rget .FABRIC_RATIO

/-- MT counts (R42): ALIGNED, HOLDOVER or REALIGN. -/
def State.counting (s : State) : Bool :=
  match s.tb.st with
  | .aligned | .holdover | .realign => true
  | .noClock | .acquire | .locked => false

/-- MT (R19); it reads 0 while the time base does not count (R42). -/
def State.mt (s : State) : Nat := if s.counting then s.tb.orbit * 65536 + s.tb.slot else 0

/-- The orbits of the present numbering, counted on across the wraps of the orbit number (R41). -/
def State.orbits (s : State) : Nat := s.tb.turns * 2 ^ 48 + s.tb.orbit

/-- The number of a crossing, counted in crossings: orbit × L + slot, on across the wraps of the orbit number (R41). -/
def State.crossing (s : State) : Nat := s.orbits * s.L + s.tb.slot

/-- The MT value of a crossing number. -/
def State.mtOf (s : State) (x : Nat) : Nat := x / s.L % 2 ^ 48 * 65536 + x % s.L

/-- The wraps behind an orbit number that is named (R41): the present turn, or the one before where the number then lies nearer.
DESIGN CHOICE (log entry 189). -/
def State.turnOf (s : State) (orbit : Nat) : Nat :=
  if Nat.blt (s.tb.orbit + 2 ^ 47) orbit then s.tb.turns - 1 else s.tb.turns

/-- The orbits counted to an orbit number that is named. -/
def State.orbitOf (s : State) (orbit : Nat) : Nat := s.turnOf orbit * 2 ^ 48 + orbit

/-- The crossing number of an MT value. -/
def State.crossingOf (s : State) (mt : Nat) : Nat := s.orbitOf (mt / 65536) * s.L + mt % 65536

/-- Microseconds since the last device reset (UPTIME, R367). -/
def State.us (s : State) : Nat := s.rget .UPTIME

/-- A free value's index taken: the present count, and the state that has moved on. -/
def State.draw (s : State) : Nat × State := (s.fv, { s with fv := s.fv + 1 })

/-- A source of the core's external interrupts latched (R385). -/
def latchIrq (k : Nat) (s : State) : State :=
  { s with core := { s.core with irq := Nat.lor s.core.irq (2 ^ k) } }

/-! Raising an event. -/

/-- The recorder's most events in the intake (R415). -/
def intakeSize : Nat := 64

/-- Two events are identical when AREA, UNIT and CODE agree and the newer item is not synthetic (R416). -/
def Event.same (a b : Event) : Bool := a.area == b.area && a.unit == b.unit && a.code == b.code && !a.synthetic

/-- A repeat merged into an event: REPEAT moves on and MT_LAST takes the event's MT (R416). -/
def Event.merge (a b : Event) : Event := { a with repeats := a.repeats + 1, mtLast := b.mtLast }

/-- The last item of a list changed. -/
def onLast {α : Type} (f : α → α) : List α → List α
  | [] => []
  | [a] => [f a]
  | a :: b :: l => a :: onLast f (b :: l)

/-- An event arrives at the intake (R415 to R417): merged into the newest item, queued, or dropped and counted. -/
def Recorder.take (r : Recorder) (e : Event) : Recorder × Bool :=
  let full := Nat.ble intakeSize r.intake.length
  match r.intake.getLast? with
  | some t =>
    if t.same e && Nat.blt t.repeats 65535 then ({ r with intake := onLast (fun a => a.merge e) r.intake }, false)
    else if full then ({ r with lost := r.lost + 1, lostMt := if r.lost = 0 then e.mtFirst else r.lostMt }, true)
    else ({ r with intake := r.intake ++ [e] }, false)
  | none =>
    match r.held.getLast? with
    | some h =>
      if h.ev.same e && Nat.blt h.ev.repeats 65535 then
        ({ r with held := onLast (fun a => { a with ev := a.ev.merge e, gen := (a.gen + 1) % 65536 }) r.held
                  gens := mset r.gens h.slot ((h.gen + 1) % 65536) 0 }, false)
      else ({ r with intake := r.intake ++ [e] }, false)
    | none => ({ r with intake := r.intake ++ [e] }, false)

/-- An event raised by a unit (R415): discarded below REC_MIN_SEVERITY, and otherwise taken at the intake; a drop counts in
REC_LOST (R417). -/
def State.raise (s : State) (severity code unit : Nat) (detail : Bytes) : State :=
  if severity < s.rget .REC_MIN_SEVERITY then s
  else
    let e : Event := { severity, area := code / 256, unit, code, repeats := 0, synthetic := false,
                       mtValid := s.counting, mtFirst := s.mt, mtLast := s.mt,
                       upMs := Nat.min (s.us / 1000) 0xFFFFFFFF, detail }
    let t := s.recorder.take e
    let s' := { s with recorder := t.1 }
    if t.2 then s'.rinc .REC_LOST else s'

/-- The severities of R412. -/
def sevDebug : Nat := 0
def sevInfo : Nat := 1
def sevNotice : Nat := 2
def sevWarning : Nat := 3
def sevError : Nat := 4
def sevFatal : Nat := 5

/-- A record that a rule limits to one per period of microseconds for its unit: written when none was written for the
key within the period (R110, R353), and the time kept. -/
def State.raiseLimited (s : State) (period key severity code unit : Nat) (detail : Bytes) : State :=
  match mfind s.noted key with
  | some t =>
    if s.us < t + period then s
    else { s with noted := mput s.noted key s.us }.raise severity code unit detail
  | none => { s with noted := mput s.noted key s.us }.raise severity code unit detail

end Sys2Proof.Machine
end

