-- ==== Sys2Proof/Machine/Traps.lean ====
section
/-! DEFINITION. What stops the program of the service core: halts (R400, R432, R433), and the exceptions that it takes (R382,
R383, R432). -/

namespace Sys2Proof.Machine

/-- The core's run state changed. -/
def State.setRun (s : State) (r : CoreRun) : State := { s with run := r }

/-! Halts (R400, R432, R433). -/

/-- The core halts with a cause and, for cause 2, its trigger; every halt clears the reservation (R433) and writes the INFO
record of R400. -/
def takeHalt (cause trigger : Nat) (broken : Bool) (s : State) : State :=
  let r := s.run
  let d := s.draw
  (d.2.setRun { r with
    running := false, halted := true, cause, trigger, lockBroken := broken, deferred := none, stepping := false,
    reservation := false, draw := d.1, dpc := none, gprs := [], csrs := [], tcm := [], fresh := false }).raise sevInfo 0x3806 0 []

/-- A deferred halt takes effect after the SC.W, or by the timeout (R433). -/
def takeDeferred (broken : Bool) (s : State) : State :=
  match s.run.deferred with
  | some h => if s.run.running then takeHalt h.1 h.2 broken s else s
  | none => s

/-! Exceptions. -/

/-- An exception of the core: its mcause and mtval. It ends a locked sequence (R433). -/
def coreTrap (cause value : Nat) (s : State) : State := takeDeferred false (s.setRun { s.run with trap := some (cause, value) })

/-- An access fault of the service core: mcause 5 of a load, 7 of a store, and its address in mtval (R382, R383). -/
def accessFault (store : Bool) (a : Nat) (s : State) : State := coreTrap (if store then 7 else 5) a s

end Sys2Proof.Machine
end

