-- ==== Sys2Proof/Machine/Responses.lean ====
section
/-! DEFINITION. Susis responses (R347) and how each route carries them: I3C, CAN FD, the dictionary windows and Ivtor. -/

namespace Sys2Proof.Machine

/-! Frames (R346, R347). -/

/-- OP and L2 of an OPCODE byte. -/
def susisOp (opcode : Nat) : Nat := opcode % 16
def susisLong (opcode : Nat) : Bool := bitOf opcode 4

/-- The largest LEN, and the most bytes that a request takes. -/
def susisMost : Nat := 4096
def requestMost : Nat := 4104

/-- BAD_CRC and MALFORMED (R347). -/
def badCrc : Nat := 0x80
def malformed : Nat := 0x81

/-- A frame with the CRC over its bytes after it. -/
def withCrc (b : Bytes) : Bytes := b ++ leBytes 2 (crc16 b)

/-- A response (R347). -/
def responseFrame (opcode status : Nat) (data : Bytes) : Bytes :=
  withCrc (leBytes 1 opcode ++ leBytes 1 status ++ leBytes 2 data.length ++ data)

/-- A pending in-band interrupt queued, merged with one of its kind (R344). -/
def pendIbi (mdb first second : Nat) (s : State) : State :=
  let keep := s.ctl.i3c.ibis.filter (fun p => p.mdb != mdb)
  { s with ctl := { s.ctl with i3c := { s.ctl.i3c with ibis := keep ++ [{ mdb, first, second, tries := 0 }] } } }

/-! Responses. -/

/-- The routes' state changed. -/
def State.setCtl (s : State) (c : Control) : State := { s with ctl := c }
def State.setI3c (s : State) (x : I3cTarget) : State := s.setCtl { s.ctl with i3c := x }
def State.setIvtor (s : State) (x : Ivtor) : State := s.setCtl { s.ctl with ivtor := x }

/-- The lengths of a CAN FD data field, and a frame padded to one with 0xCC (R352). -/
def canLength (n : Nat) : Nat :=
  if Nat.ble n 8 then n else if Nat.ble n 12 then 12 else if Nat.ble n 16 then 16 else if Nat.ble n 20 then 20
  else if Nat.ble n 24 then 24 else if Nat.ble n 32 then 32 else if Nat.ble n 48 then 48 else 64
def canPad (b : Bytes) : Bytes := b ++ List.replicate (canLength b.length - b.length) 0xCC

/-- The most data bytes of a response in one CAN FD frame. -/
def canDataMost : Nat := 58

/-- A window with the response to the request it submitted; a core reset has taken that request from it (R398). -/
def DictWindow.answered (x : DictWindow) (f : Bytes) : DictWindow :=
  if x.status = 1 then { x with response := f, status := 2 } else x

/-- Two hexadecimal digits of a number. -/
def hexDigit (n : Nat) : Byte := BitVec.ofNat 8 (if n < 10 then 0x30 + n else 0x37 + n)
def hexText (n : Nat) : Bytes := [hexDigit (n / 16 % 16), hexDigit (n % 16)]

/-- The characters of Ivtor's words: OK, ERR, SYNTAX, DENIED, and the prompt "ivtor> " (R361). -/
def okText : Bytes := [0x4F, 0x4B]
def errText : Bytes := [0x45, 0x52, 0x52, 0x20]
def syntaxText : Bytes := [0x53, 0x59, 0x4E, 0x54, 0x41, 0x58]
def deniedText : Bytes := [0x44, 0x45, 0x4E, 0x49, 0x45, 0x44]
def promptText : Bytes := [0x69, 0x76, 0x74, 0x6F, 0x72, 0x3E, 0x20]

/-- A reply as it is sent (R361): one line beginning OK or ERR, and the prompt. DESIGN CHOICE (log entry 216): an abort code is written
0x and two digits, and CR LF ends the line. -/
def IvtorReply.line (r : IvtorReply) : Bytes :=
  (match r with
   | .ok [] => okText
   | .ok (c :: cs) => okText ++ 0x20 :: c :: cs
   | .err abort => errText ++ [0x30, 0x78] ++ hexText abort
   | .denied => errText ++ deniedText
   | .syntaxError => errText ++ syntaxText) ++ [0x0D, 0x0A] ++ promptText

/-- Ivtor's reply sent; UART transmit space raises source 6 (R385). -/
def ivtorReply (r : IvtorReply) (s : State) : State :=
  latchIrq 6 (s.setIvtor { s.ctl.ivtor with reply := some r, sent := r.line })

/-- A response given to the route of its request. -/
def respond (r : HeldRequest) (status : Nat) (data : Bytes) (s : State) : State :=
  let f := responseFrame r.opcode status data
  match r.route with
  | .i3c => pendIbi 2 r.opcode status (s.setI3c { s.ctl.i3c with response := some f })
  | .can _ =>
    if s.rget .CAN_STATE = 1 then
      s.setCtl { s.ctl with can :=
        { s.ctl.can with sent := some (r.id + 2 ^ 15, canPad (responseFrame r.opcode status (data.take canDataMost))) } }
    else s
  | .coreM => { s with core := { s.core with dictM := s.core.dictM.answered f } }
  | .coreU => { s with core := { s.core with dictU := s.core.dictU.answered f } }
  | .ivtor => ivtorReply (if status = 0 then .ok (if data = [] then [] else Config.ivtorValue data) else .err status) s
  | .loader => s

/-- Requests at the front that BAD_CRC or MALFORMED answers get them, up to the first that the dictionary performs. -/
def answerFaults : Nat → State → State
  | 0, s => s
  | fuel + 1, s =>
    match s.ctl.waiting with
    | [] => s
    | r :: rest =>
      if r.fault = 0 then s else answerFaults fuel (respond r r.fault [] (s.setCtl { s.ctl with waiting := rest }))

end Sys2Proof.Machine
end

