-- ==== Sys2Proof/Machine/Control.lean ====
section
/-! DEFINITION. How the dictionary judges a request (R338, R339, R354 to R360), what its answer leaves, and the change of
device state. -/

namespace Sys2Proof.Machine

/-- The controller ID of a request's sender (R338); the loader has none. -/
def controllerOf : Route → Nat
  | .i3c => 1
  | .ivtor => 2
  | .coreM => 3
  | .coreU => 4
  | .can n => 0x80 + n % 128
  | .loader => 0

/-- A RIGHTS value of Service acts as Expert unless the lifecycle is BLANK or OPEN (R339). -/
def externalRights (s : State) (r : Nat) : Nat :=
  match s.life with
  | .blank | .opened => r
  | .provisioned | .field | .returned => Nat.min r 2

/-- The rights of a request's sender (R338, R339). -/
def rightsOf (s : State) : Route → Nat
  | .i3c => externalRights s (s.rget .RIGHTS_I3C)
  | .can _ => externalRights s (s.rget .RIGHTS_CAN)
  | .ivtor => externalRights s (s.rget .RIGHTS_IVTOR)
  | .coreM => 3
  | .coreU => Nat.min s.userRights 2
  | .loader => 3

/-- The device states in the order of R13, numbered from 0. -/
def DevState.code : DevState → Nat
  | .powerOff => 0
  | .reset => 1
  | .boot => 2
  | .idle => 3
  | .loading => 4
  | .armed => 5
  | .running => 6
  | .hold => 7
  | .safe => 8
  | .shutdown => 9

/-- The lifecycles in the codes of LIFECYCLE (R366). -/
def Lifecycle.code : Lifecycle → Nat
  | .blank => 0
  | .provisioned => 1
  | .field => 2
  | .opened => 3
  | .returned => 4

/-- A route is heard in a device state: none in POWER_OFF and RESET, only the service core in BOOT (R360). -/
def heard (s : State) (w : Route) : Bool :=
  match s.dev with
  | .powerOff | .reset => false
  | .boot =>
    match w with
    | .coreM | .coreU | .loader => true
    | .i3c | .can _ | .ivtor => false
  | .idle | .loading | .armed | .running | .hold | .safe | .shutdown => true

/-- The abort with which R360 refuses a class of write in a device state; none where it is permitted. An element of
class ownRule is judged by its own rule. -/
def stateRefusal (c : StateClass) (d : DevState) : Option Nat :=
  match d with
  | .powerOff | .reset | .boot => some 5
  | .idle =>
    match c with
    | .baseChange | .safeOnly | .runHold | .holdOnly => some 5
    | _ => none
  | .loading =>
    match c with
    | .always | .area30 | .anyLive | .ownRule => none
    | .loadGo => some 6
    | _ => some 5
  | .armed =>
    match c with
    | .always | .area30 | .plain | .baseChange | .anyLive | .ownRule => none
    | _ => some 5
  | .running =>
    match c with
    | .always | .area30 | .plain | .baseChange | .loadGo | .anyLive | .runHold | .ownRule => none
    | _ => some 5
  | .hold =>
    match c with
    | .always | .area30 | .plain | .baseChange | .loadGo | .anyLive | .runHold | .holdOnly | .ownRule => none
    | _ => some 5
  | .safe =>
    match c with
    | .baseChange | .runHold | .holdOnly => some 5
    | _ => none
  | .shutdown =>
    match c with
    | .always => none
    | _ => some 5

/-- The Expert lock is held by another controller than the sender (R356). -/
def lockedOut (s : State) (w : Route) : Bool :=
  s.rget .LOCK_OWNER != 0 && s.rget .LOCK_OWNER != controllerOf w

/-- What an element's own rule adds to the judgement: its range as other settings bound it, what its rule refuses
with 0x03, and its effect, or an abort of order 6 to 10 of R354. -/
structure Handler where
  allow : Route → Nat → State → Bool := fun _ _ _ => true
  range : Nat → State → Bool
  act : Nat → State → Except Nat State

/-- An element whose write stores the value. -/
def Handler.store (e : El) (u : Nat) : Handler :=
  { range := fun _ _ => true, act := fun v s => .ok (s.rset e u v) }

/-- An element whose write only acts, or acts after storing. -/
def Handler.doing (f : Nat → State → Except Nat State) : Handler := { range := fun _ _ => true, act := f }

/-- An element that SETTINGS may address (R275): a value of an open area, or IP_HOST. -/
def settable (e : El) : Bool :=
  let a := e.info.area
  (e.info.acc == .rw || e.info.acc == .rwk)
    && (a == 2 || (Nat.ble 4 a && Nat.ble a 6) || a == 8 || (Nat.ble 0x10 a && Nat.ble a 0x13)
      || (Nat.ble 0x18 a && Nat.ble a 0x20) || a == 0x28 || e == .IP_HOST)

/-- A write judged in the abort order of R354; v is none where LEN is not the type's size. The loader speaks for no
controller: rights, the lock and the device state do not bind it (R39, R88, R275), but for EVENT_PRESET, which R275 does not
exempt (R213), and it writes what SETTINGS may address alone (R275). -/
def judge (w : Route) (e : El) (u : Nat) (v : Option Nat) (h : Handler) (s : State) : Except Nat State :=
  let i := e.info
  if Nat.ble i.cnt u then .error 1
  else if i.acc = .ro || Nat.blt (rightsOf s w) i.rights || (w == .loader && !settable e) || !h.allow w (v.getD 0) s then .error 3
  else if w != .loader && Nat.ble 2 i.rights && e != .LOCK_BREAK && lockedOut s w then .error 8
  else match v with
    | none => .error 2
    | some v =>
      if Nat.blt v i.lo || Nat.blt i.hi v || !h.range v s then .error 4
      else match (if w = .loader && e != .EVENT_PRESET then none else stateRefusal i.cls s.dev) with
        | some c => .error c
        | none => h.act v s

/-- The answer given to a sender (R347); the loader takes none. -/
def answerTo (w : Route) (status : Nat) (data : Bytes) (s : State) : State :=
  match w with
  | .loader => s
  | .i3c | .can _ | .ivtor | .coreM | .coreU =>
    { s with ctl := { s.ctl with answer := { controller := controllerOf w, status, data } } }

/-- What a refusal leaves: for abort 0x05, REFUSED_STATE moves on and a NOTICE record names the EID, the controller and the
device state (R15, R359); for every other abort, nothing. -/
def refusedWith (w : Route) (eid code : Nat) (s : State) : State :=
  if code = 5 then
    (s.rinc .REFUSED_STATE).raise sevNotice 0x3001 2
      (leBytes 4 eid ++ leBytes 1 (controllerOf w) ++ leBytes 1 s.dev.code)
  else s

/-! The order of requests (R357). -/

/-- The request at the front of those that wait performed, with its answer given to its route and to its sender. -/
def performFront (r : HeldRequest) (rest : List HeldRequest) (f : State → Nat × Bytes × State) (s : State) : State :=
  let x := f (s.setCtl { s.ctl with waiting := rest })
  let s := respond r x.1 x.2.1 (answerTo r.route x.1 x.2.1 x.2.2)
  answerFaults s.ctl.waiting.length s

/-- A request performed at one instant and in its turn (R357): at once where none waits, and else only as the oldest that waits; what
the loader writes waits for none (R275). -/
def inTurn (w : Route) (asks : HeldRequest → Bool) (f : State → Nat × Bytes × State) (s : State) : State :=
  match (if w = .loader then [] else s.ctl.waiting) with
  | [] =>
    let x := f s
    answerTo w x.1 x.2.1 x.2.2
  | r :: rest => if r.route == w && r.fault == 0 && asks r then performFront r rest f s else s

/-- A request that waits is a write of an EID with these bytes, or a read of so many bytes. -/
def HeldRequest.writes (eid : Nat) (bytes : Bytes) (r : HeldRequest) : Bool :=
  susisOp r.opcode == 2 && r.eid == eid && r.data == bytes
def HeldRequest.reads (eid len : Nat) (r : HeldRequest) : Bool := susisOp r.opcode == 1 && r.eid == eid && r.len == len

/-- A write judged (R354): the effect and status OK, or no effect and the abort. -/
def judged (w : Route) (e : El) (u : Nat) (v : Option Nat) (h : Handler) (s : State) : Nat × State :=
  match judge w e u v h s with
  | .ok t => (0, t)
  | .error c => (c, refusedWith w (eidOf e u) c s)

/-- A write request of a value (R354, R357). -/
def request (w : Route) (e : El) (u : Nat) (v : Option Nat) (h : Handler) (s : State) : State :=
  if heard s w then
    inTurn w (fun r => match v with
      | some n => r.writes (eidOf e u) (leBytes e.info.size n)
      | none => false) (fun s => ((judged w e u v h s).1, [], (judged w e u v h s).2)) s
  else s

/-- A value as a command carries it, for an element of fixed size: none where it does not fit the size (order 4 of R354). -/
def fit (e : El) (v : Nat) : Option Nat := if v < e.modulus then some v else none

/-- A write of an element's unit by a command of its own row. -/
def write (w : Route) (e : El) (u v : Nat) (h : Handler) (s : State) : Host.Outcome State Fault Refusal :=
  .next (request w e u (fit e v) h s)

/-- A change of device state (R13, R367): PREV_STATE, STATE_MT, the STATE_CHANGE interrupt of R344 and source 10 of R385. -/
def State.become (s : State) (d : DevState) : State :=
  if s.dev = d then s
  else
    pendIbi 3 d.code s.dev.code (latchIrq 10
      { (s.rset .PREV_STATE 0 s.dev.code).rset .STATE_MT 0 s.mt with dev := d })

/-- The Expert lock released, with an INFO record (R356). -/
def releaseLock (s : State) : State :=
  if s.rget .LOCK_OWNER = 0 then s else (s.rset .LOCK_OWNER 0 0).raise sevInfo 0x3002 2 []

/-- The Expert lock released when a given controller holds it (R343, R356). -/
def releaseLockOf (c : Nat) (s : State) : State := if s.rget .LOCK_OWNER = c && c != 0 then releaseLock s else s

end Sys2Proof.Machine
end

