-- ==== Sys2Proof/Machine/Words.lean ====
section
/-! DEFINITION. The stored word of the memory layer (R289 to R301): its code, the result of a read, writes, poison, and the
counting of correctable and uncorrectable events. -/

namespace Sys2Proof.Machine

/-! The code. -/

/-- The columns of the data bits (R289): the 56 values of weight 3 ascending, then the eight smallest of weight 5. -/
def dataColumns : List Nat :=
  [0x07, 0x0B, 0x0D, 0x0E, 0x13, 0x15, 0x16, 0x19, 0x1A, 0x1C, 0x23, 0x25, 0x26, 0x29, 0x2A, 0x2C, 0x31, 0x32, 0x34,
   0x38, 0x43, 0x45, 0x46, 0x49, 0x4A, 0x4C, 0x51, 0x52, 0x54, 0x58, 0x61, 0x62, 0x64, 0x68, 0x70, 0x83, 0x85, 0x86,
   0x89, 0x8A, 0x8C, 0x91, 0x92, 0x94, 0x98, 0xA1, 0xA2, 0xA4, 0xA8, 0xB0, 0xC1, 0xC2, 0xC4, 0xC8, 0xD0, 0xE0,
   0x1F, 0x2F, 0x37, 0x3B, 0x3D, 0x3E, 0x4F, 0x57]

/-- CHECK of a value's low bits, one column per bit, lowest first (R289). -/
def checkFold : List Nat → Nat → Nat → Nat
  | [], _, acc => acc
  | c :: cs, d, acc => checkFold cs (d / 2) (if d % 2 = 1 then Nat.xor acc c else acc)

/-- CHECK of a word (R289). -/
def checkOf (d : BitVec 64) : BitVec 8 := BitVec.ofNat 8 (checkFold dataColumns d.toNat 0)

/-- The place of a syndrome among the data columns. -/
def columnIndex (syn : Nat) : List Nat → Nat → Option Nat
  | [], _ => none
  | c :: cs, i => if c = syn then some i else columnIndex syn cs (i + 1)

/-- A value has at most one bit set. -/
def atMostOneBit (n : Nat) : Bool := Nat.land n (n - 1) == 0

/-- A word with fresh check bits and VALID set in all three cells (R292). -/
def StoredWord.fresh (d : BitVec 64) : StoredWord := { data := d, check := checkOf d, valid := 7 }

/-- The poison pattern (R290). -/
def StoredWord.poison : StoredWord := { data := 0, check := 0x7F, valid := 7 }

/-- The result of a read (R291); a corrected read names its syndrome and the data with the bit inverted. -/
inductive ReadResult
  | invalid
  | poison
  | clean (data : BitVec 64)
  | corrected (syndrome : Nat) (data : BitVec 64)
  | uncorrectable
deriving DecidableEq, Repr

/-- VALID by majority of its three cells (R291). -/
def StoredWord.isValid (w : StoredWord) : Bool :=
  w.valid == 3 || w.valid == 5 || w.valid == 6 || w.valid == 7

/-- The three VALID cells disagree (R291). -/
def StoredWord.validDisagrees (w : StoredWord) : Bool := w.valid != 0 && w.valid != 7

/-- The 72 bits differ from the poison pattern in at most one position (R291). -/
def StoredWord.nearPoison (w : StoredWord) : Bool :=
  let c := (w.check ^^^ 0x7F).toNat
  (w.data == 0 && atMostOneBit c) || (c == 0 && atMostOneBit w.data.toNat)

/-- The result of reading a stored word (R291). -/
def StoredWord.read (w : StoredWord) : ReadResult :=
  if !w.isValid then .invalid
  else if w.nearPoison then .poison
  else
    let syn := (checkOf w.data ^^^ w.check).toNat
    if syn = 0 then .clean w.data
    else match columnIndex syn dataColumns 0 with
      | some i => .corrected syn (w.data ^^^ (1#64 <<< i))
      | none => if atMostOneBit syn then .corrected syn w.data else .uncorrectable

/-- The data a read returns, and its error indication (R291). -/
def ReadResult.data : ReadResult → BitVec 64 × Bool
  | .invalid => (0, false)
  | .poison => (0, true)
  | .clean d => (d, false)
  | .corrected _ d => (d, false)
  | .uncorrectable => (0, true)

/-! Where a word lies. -/

/-- The number of logical banks. -/
def bankCount : Nat := 4096

/-- The place within its Quarter of a logical bank: its own bank, or the spare that serves it (R307). -/
def State.placeOfBank (s : State) (n : Nat) : Nat :=
  let q := n / 64
  let b := n % 64
  if s.rget .SPARE0_FOR q = b then 64 else if s.rget .SPARE1_FOR q = b then 65 else b

/-- The key of a word of a bank in a place of a Quarter (R289: word address = row × 2 + word). -/
def cellKey (q place addr : Nat) : Nat := (66 * q + place) * 32768 + addr

/-- The words of an in-field slice: 256 rows (R405). -/
def sliceWords : Nat := 512

/-- A bank is the target of an in-field test that holds a spare (R405). -/
def State.underTest (s : State) (n : Nat) : Bool := s.bist.spare.isSome && s.rget .BIST_TARGET == n

/-- The phase and the shadow's place of the slice in progress that holds a word of a bank (R405). -/
def State.sliceAt (s : State) (n addr : Nat) : Option (SlicePhase × Nat) :=
  if s.underTest n && addr / sliceWords == s.bist.slice then
    match s.bist.spare, s.bist.phase with
    | some sp, some ph => some (ph, 64 + sp)
    | _, _ => none
  else none

/-- The place that serves reads of a word: the shadow in TEST and RESTORE (R405), else the bank's place. -/
def State.readPlace (s : State) (n addr : Nat) : Nat :=
  match s.sliceAt n addr with
  | some (.test, p) => p
  | some (.restore, p) => p
  | some (.copy, _) => s.placeOfBank n
  | some (.clear, _) => s.placeOfBank n
  | none => s.placeOfBank n

/-- The places that take a write of a word: both in COPY and RESTORE, the shadow in TEST (R405), and beside the bank's place
the target of a running move (R307). -/
def State.writePlaces (s : State) (n addr : Nat) (moveTo : Option Nat) : List Nat :=
  match s.sliceAt n addr with
  | some (.test, p) => [p]
  | some (.copy, p) => [s.placeOfBank n, p]
  | some (.restore, p) => [s.placeOfBank n, p]
  | some (.clear, _) => [s.placeOfBank n]
  | none =>
    match moveTo with
    | some t => [s.placeOfBank n, t]
    | none => [s.placeOfBank n]

/-- What an unlisted word of a place, named 66q + place as its words' keys begin, reads as: INVALID, or zero with fresh check bits where
a wipe has filled the place and nothing has cleared it since (R128, R292). -/
def State.blankWord (s : State) (place : Nat) : StoredWord :=
  if s.mem.zeroed.contains place then StoredWord.fresh 0 else StoredWord.invalid

/-- A stored word of a place of a Quarter. -/
def State.cellAt (s : State) (q place addr : Nat) : StoredWord :=
  mget s.cells (cellKey q place addr) (s.blankWord (cellKey q place addr / 32768))

/-- A stored word of a logical bank. -/
def State.cell (s : State) (n addr : Nat) : StoredWord := s.cellAt (n / 64) (s.readPlace n addr) addr

/-- A word stored in a place of a Quarter. -/
def State.setCellAt (s : State) (q place addr : Nat) (w : StoredWord) : State :=
  { s with cells := mset s.cells (cellKey q place addr) w (s.blankWord (cellKey q place addr / 32768)) }

/-- Every listed word of a stretch of a place's addresses dropped: the words read as the place's unlisted words do. -/
def dropCells (q place first count : Nat) (s : State) : State :=
  let from_ := cellKey q place first
  { s with cells := s.cells.filter (fun p => !(Nat.ble from_ p.1 && Nat.blt p.1 (from_ + count))) }

/-- The words of a place, all its unlisted words taken as zero with fresh check bits, or as INVALID (R128, R293). -/
def blankPlace (q place : Nat) (zero : Bool) (s : State) : State :=
  let s := dropCells q place 0 32768 s
  let k := 66 * q + place
  let others := s.mem.zeroed.filter (· != k)
  let listed := others.filter (fun p => Nat.blt p k) ++ k :: others.filter (fun p => Nat.blt k p)
  { s with mem := { s.mem with zeroed := if zero then listed else others } }

/-- The place a running move copies a logical bank to (R307, R308). -/
def State.moveTarget (s : State) (n : Nat) : Option Nat :=
  match mfind s.mem.moves (n / 64) with
  | some m => if m.bank = n % 64 then some (if m.back then m.bank else 64 + m.spare) else none
  | none => none

/-- A word of a logical bank stored in every place that takes its writes. -/
def State.setCell (s : State) (n addr : Nat) (w : StoredWord) : State :=
  (s.writePlaces n addr (s.moveTarget n)).foldl (fun t p => t.setCellAt (n / 64) p addr w) s

/-! Events. -/

/-- The owner's interrupt (R298): MEM_ALERT of a District, the service-core memory interrupt with its FIFO (R386), or the
fail status of BIST and none of the debug bus master. -/
def ownerInterrupt (n cause : Nat) (s : State) : State :=
  let o := s.rget .OWNER_ACTIVE n
  if o < 128 then
    let d := mget s.dists o District.held
    { s with dists := mset s.dists o { d with memAlert := some (n % 64) } District.held }
  else if o = 0x82 then { s with bist := { s.bist with failStatus := true } }
  else if o = 0x80 || o = 0x81 || o = 0x84 then
    if s.core.memEvents.length < 16 then
      latchIrq 1 { s with core := { s.core with memEvents := s.core.memEvents ++ [(n, cause, o)] } }
    else { s with core := { s.core with memLost := Nat.min (s.core.memLost + 1) 0xFFFFFFFF } }
  else s

/-- The unit number of the bank window in records of area 0x07 (R311). -/
def bankWindowUnit : Nat := 1

/-- A correctable event of a bank (R294, R295): counted, kept as CE_LAST, and added to the bucket, which may overflow. -/
def correctable (n addr syndrome : Nat) (s : State) : State :=
  let s := (s.rinc .CE_COUNT n).rset .CE_LAST n (addr + syndrome * 2 ^ 15)
  let level := s.rget .LB_LEVEL n + 1
  if Nat.ble (s.rget .LB_THRESHOLD n) level then
    ((ownerInterrupt n 2 (s.rinc .LB_OVERFLOWS n)).raise sevWarning 0x0701 bankWindowUnit
      (leBytes 2 n ++ leBytes 4 (s.rget .CE_LAST n) ++ leBytes 1 (s.rget .OWNER_ACTIVE n))).rset .LB_LEVEL n 0
  else s.rset .LB_LEVEL n level

/-- A Quarter's repair list changed. -/
def setRepairs (q : Nat) (l : List (Nat × Bool)) (s : State) : State :=
  { s with mem := { s.mem with repairs := mset s.mem.repairs q l [] } }

/-- A word put on the Quarter's repair list of 16 entries by a correctable event or by an uncorrectable read, merged with its own
entry (R294, R296). -/
def listRepair (n addr : Nat) (ue : Bool) (s : State) : State :=
  let q := n / 64
  let k := n % 64 * 32768 + addr
  let l := mget s.mem.repairs q []
  if l.any (fun p => p.1 == k) then setRepairs q (l.map (fun p => if p.1 = k then (k, p.2 || ue) else p)) s
  else if Nat.ble 16 l.length then s.rinc .REPAIR_DROPPED
  else setRepairs q (l ++ [(k, ue)]) s

/-- The index of a requester on a bank, and the Plaza router it entered at (R105, R296, R28, R29 for trunks). -/
def requesterIndex (n : Nat) (home : Nat → Nat) : Requester → Nat × Nat
  | .district d _ => if d / 2 = n / 64 then (1 + d % 2, 0xFF) else (4, d / 2)
  | .extraction _ => (3, 0xFF)
  | .plaza m =>
    match m with
    | .core _ => (4, 0)
    | .debug => (4, 0)
    | .queues => (4, n / 64)
    | .trunk t => (4, home t)
    | .district d => (4, d / 2)
  | .scrubber => (5, 0xFF)
  | .bist => (6, 0xFF)

/-- An UNCORRECTABLE read (R296): counted, kept as UE_LAST, the owner's interrupt, and the ERROR record with the bank, the
word address, the owner, the requester index and the Plaza router. -/
def uncorrectable (n addr index router : Nat) (s : State) : State :=
  (ownerInterrupt n 1 ((s.rinc .UE_COUNT n).rset .UE_LAST n addr)).raise sevError 0x0702 bankWindowUnit
    (leBytes 2 n ++ leBytes 2 addr ++ leBytes 1 (s.rget .OWNER_ACTIVE n) ++ leBytes 1 index ++ leBytes 1 router)

/-- A demand read that finds a given word (R291, R294, R296): the data and error indication, with the events it counts and
the word put on the repair list where it needs one. -/
def readStored (w : StoredWord) (n addr index router : Nat) (s : State) : (BitVec 64 × Bool) × State :=
  let s := if w.validDisagrees then listRepair n addr false (correctable n addr 0 s) else s
  match w.read with
  | .corrected syn d => ((d, false), listRepair n addr false (correctable n addr syn s))
  | .uncorrectable => ((0, true), listRepair n addr true (uncorrectable n addr index router s))
  | .poison => ((0, true), s.rinc .POISON_READS n)
  | .clean d => ((d, false), s)
  | .invalid => ((0, false), s)

/-- A read of a row that holds given words: word 0 in bits 63:0 (R105), and the error indication of either word. -/
def readRowAs (w0 w1 : StoredWord) (n row index router : Nat) (s : State) : (BitVec 128 × Bool) × State :=
  let a := readStored w0 n (2 * row) index router s
  let b := readStored w1 n (2 * row + 1) index router a.2
  ((b.1.1 ++ a.1.1, a.1.2 || b.1.2), b.2)

/-- The bytes of a word replaced where the enables select them (R299). -/
def mergeBytes (old new : BitVec 64) (be : Nat) : BitVec 64 :=
  let mask := (List.range 8).foldl (fun m i => if bitOf be i then m ||| (0xFF#64 <<< (8 * i)) else m) 0#64
  (old &&& ~~~mask) ||| (new &&& mask)

/-- The armed flip mask corrupts the first word of the next write to its bank by an eligible requester, and clears (R310). -/
def flipWord (n addr : Nat) (w : StoredWord) (s : State) : State :=
  match s.mem.flip with
  | some (bank, data, check) =>
    if bank = n then
      let s := { s with mem := { s.mem with flip := none } }
      let w' : StoredWord := { w with data := w.data ^^^ data, check := w.check ^^^ check }
      ((((s.setCell n addr w').rset .FLIP_STATE 0 2).rset .FLIP_ADDR 0 (addr + n * 2 ^ 15)).rset .FLIP_DATA 0 0).rset
        .FLIP_CHECK 0 0 |>.raise sevInfo 0x0705 3 (leBytes 2 n ++ leBytes 2 addr)
    else s.setCell n addr w
  | none => s.setCell n addr w

/-- A write of one word by byte enables (R292, R299): full, partial, or none; true where the answer is an error. -/
def writeWord (n addr index router : Nat) (d : BitVec 64) (be : Nat) (s : State) : Bool × State :=
  if be = 0 then (false, s)
  else if be = 255 then (false, flipWord n addr (StoredWord.fresh d) s)
  else
    let w := s.cell n addr
    let s := if w.validDisagrees then correctable n addr 0 s else s
    match w.read with
    | .invalid => (false, flipWord n addr (StoredWord.fresh (mergeBytes 0 d be)) s)
    | .clean old => (false, flipWord n addr (StoredWord.fresh (mergeBytes old d be)) s)
    | .corrected syn old => (false, flipWord n addr (StoredWord.fresh (mergeBytes old d be)) (correctable n addr syn s))
    | .uncorrectable =>
      (true, flipWord n addr StoredWord.poison
        ((listRepair n addr true (uncorrectable n addr index router s)).rinc .POISON_WRITTEN))
    | .poison => (true, flipWord n addr StoredWord.poison s)

/-- A row of poison written, word 0 first (R234, R290): the mask of R310 falls on its first word as on any write's. -/
def poisonRow (n row : Nat) (s : State) : State :=
  flipWord n (2 * row + 1) StoredWord.poison (flipWord n (2 * row) StoredWord.poison s)

/-- A row written by its byte enables, word 0 first (R105, R299). -/
def writeRow (n row index router : Nat) (d : BitVec 128) (be : Nat) (s : State) : Bool × State :=
  let a := writeWord n (2 * row) index router (d.setWidth 64) (be % 256) s
  let b := writeWord n (2 * row + 1) index router ((d >>> 64).setWidth 64) (be / 256 % 256) a.2
  (a.1 || b.1, b.2)

end Sys2Proof.Machine
end

