-- ==== Sys2Proof/Machine/BankRules.lean ====
section
/-! DEFINITION. What a bank is to the rules that judge it: ring, Vault, C0 schedule, queue region, frame reserve, owner; and
the home Quarters of the trunks. -/

namespace Sys2Proof.Machine

/-- The home Quarter of each trunk (R29). -/
def trunkHomes : List Nat :=
  [0, 0, 1, 2, 3, 4, 5, 6, 7, 7, 15, 23, 31, 39, 47, 55, 63, 63, 62, 61, 60, 59, 58, 57, 56, 56, 48, 40, 32, 24, 16, 8]

/-- The home Quarter of a trunk (R29). -/
def trunkHome (t : Nat) : Nat := trunkHomes.getD t 0

/-- A District's state. -/
def State.dist (s : State) (d : Nat) : District := mget s.dists d District.held

/-- A District's state changed. -/
def State.setDist (s : State) (d : Nat) (x : District) : State := { s with dists := mset s.dists d x District.held }

/-- A plane's state. -/
def State.plane (s : State) (k : Nat) : Plane := mget s.planes k Plane.empty

/-- A plane's state changed. -/
def State.setPlane (s : State) (k : Nat) (x : Plane) : State := { s with planes := mset s.planes k x Plane.empty }

/-- A Quarter's ring. -/
def State.ring (s : State) (q : Nat) : Ring := mget s.rings q Ring.off

/-- A Quarter's ring changed. -/
def State.setRing (s : State) (q : Nat) (r : Ring) : State := { s with rings := mset s.rings q r Ring.off }

/-- A bank port. -/
def State.bank (s : State) (n : Nat) : BankPort := mget s.banks n BankPort.idle

/-- A bank port changed. -/
def State.setBank (s : State) (n : Nat) (b : BankPort) : State := { s with banks := mset s.banks n b BankPort.idle }

/-! Visibility of local writes (R32). -/

/-- The visibility of a write granted in one memory cycle to a read granted in a later one (R32): the read's fabric cycle
lies at most one after the write's, at least two after it, or either, which the memory cycles alone do not settle. -/
inductive Visibility
  | before
  | after
  | either
deriving DecidableEq, Repr

/-- Where a read stands to a write kept in a row's history (R2, R32): by their memory cycles where commands name both, fabric cycles
being M times MCLK and memory cycles 1 GHz; else either, since an engine's access and what is granted before it come in a later
memory cycle that no command names. DESIGN CHOICE (log entry 195). -/
def State.visibility (s : State) (p : PriorRow) (cycle : Option Nat) : Visibility :=
  match p.cycle, cycle with
  | some a, some b =>
    let x := (b - a) * s.rget .FABRIC_RATIO * s.rget .MCLK_NOMINAL
    if Nat.blt b a || Nat.ble 2000000000 x then .after else if Nat.ble x 1000000000 then .before else .either
  | _, _ => .either

/-- The words of a row that a read finds (R32): those before the oldest local write that is not visible to it yet, else the row as it
stands. -/
def foundWords (n row : Nat) (cycle : Option Nat) (s : State) : (StoredWord × StoredWord) × State :=
  (s.bank n).prior.foldr
    (fun p acc =>
      if p.row != row then acc
      else match s.visibility p cycle with
        | .after => acc
        | .before => ((p.low, p.high), acc.2)
        | .either => if (Config.freeBits acc.2.fv).getLsbD 0 then ((p.low, p.high), acc.2.draw.2) else (acc.1, acc.2.draw.2))
    ((s.cell n (2 * row), s.cell n (2 * row + 1)), s)

/-- The row before a local write kept for the reads to come (R32), without what is visible by now. -/
def keepPrior (n row : Nat) (cycle : Option Nat) (s : State) : State :=
  let b := s.bank n
  let live := b.prior.filter (fun p => s.visibility p cycle != .after)
  s.setBank n { b with prior := live ++ [{ cycle, passed := false, row, low := s.cell n (2 * row), high := s.cell n (2 * row + 1) }] }

/-- What a write by byte enables leaves of a word as it was (R292, R299). -/
def StoredWord.written (w : StoredWord) (d : BitVec 64) (be : Nat) : StoredWord :=
  if be = 0 then w
  else if be = 255 then StoredWord.fresh d
  else match w.read with
    | .invalid => StoredWord.fresh (mergeBytes 0 d be)
    | .clean old => StoredWord.fresh (mergeBytes old d be)
    | .corrected _ old => StoredWord.fresh (mergeBytes old d be)
    | .uncorrectable => StoredWord.poison
    | .poison => StoredWord.poison

/-- A write over the Plaza is visible at once (R32), also in what a row held before local writes that are not visible yet. -/
def overlayPrior (n row : Nat) (d : BitVec 128) (be : Nat) (s : State) : State :=
  let b := s.bank n
  s.setBank n { b with prior := b.prior.map (fun p =>
    if p.row != row then p
    else { p with low := p.low.written (d.setWidth 64) (be % 256)
                  high := p.high.written ((d >>> 64).setWidth 64) (be / 256 % 256) }) }

/-- A row of poison is visible at once. -/
def poisonPrior (n row : Nat) (s : State) : State :=
  let b := s.bank n
  s.setBank n { b with prior := b.prior.map (fun p =>
    if p.row != row then p else { p with low := StoredWord.poison, high := StoredWord.poison }) }

/-- A crossing begins: local writes of the crossing before the last are visible to every read (R32), a crossing being at least two
fabric cycles long. -/
def agePriors (s : State) : State :=
  { s with banks := s.banks.filterMap (fun e =>
      let b := { e.2 with prior := (e.2.prior.filter (fun p => !p.passed)).map (fun p => { p with passed := true }) }
      if b = BankPort.idle then none else some (e.1, b)) }

/-- A demand read of one word of a bank by an engine. -/
def readWord (n addr index router : Nat) (s : State) : (BitVec 64 × Bool) × State :=
  let f := foundWords n (addr / 2) none s
  readStored (if addr % 2 = 0 then f.1.1 else f.1.2) n addr index router f.2

/-- A read of a row of a bank by an engine. -/
def readRow (n row index router : Nat) (s : State) : (BitVec 128 × Bool) × State :=
  let f := foundWords n row none s
  readRowAs f.1.1 f.1.2 n row index router f.2

/-- A row written by a requester that enters through the Plaza. -/
def plazaWriteRow (n row index router : Nat) (d : BitVec 128) (be : Nat) (s : State) : Bool × State :=
  writeRow n row index router d be (overlayPrior n row d be s)

/-- One word written by a requester that enters through the Plaza. -/
def plazaWriteWord (n addr index router : Nat) (d : BitVec 64) (be : Nat) (s : State) : Bool × State :=
  let s := if addr % 2 = 0 then overlayPrior n (addr / 2) (d.setWidth 128) be s
    else overlayPrior n (addr / 2) (d.setWidth 128 <<< 64) (be * 256) s
  writeWord n addr index router d be s

/-- A bank of its Quarter's enabled ring (R112). -/
def State.isRingBank (s : State) (n : Nat) : Bool :=
  let r := s.ring (n / 64)
  s.rflag .RING_ENABLE (n / 64) && Nat.ble r.first (n % 64) && Nat.blt (n % 64) (r.first + r.banks)

/-- A bank of the Vault (R126, R127): VAULT_STATE is not DISABLED. -/
def State.isVaultBank (s : State) (n : Nat) : Bool := s.rget .VAULT_STATE != 0 && Nat.ble 48 n && Nat.ble n 63

/-- A bank of the Vault's place, enabled or not. -/
def inVaultPlace (n : Nat) : Bool := Nat.ble 48 n && Nat.ble n 63

/-- The plane a District runs as its current context (R168, R494). -/
def State.currentPlane (s : State) (d : Nat) : Plane := s.plane (8 * d + (s.dist d).ctx)

/-- A District's active context schedules a bank of its Quarter for C0 (R494). -/
def State.schedulesC0 (s : State) (d n : Nat) : Bool :=
  d / 2 == n / 64 && (s.currentPlane d).c0Banks.getLsbD (n % 64)

/-- A District's active context schedules a bank for C0 writes (R494). -/
def State.schedulesC0Write (s : State) (d n : Nat) : Bool :=
  s.schedulesC0 d n && (s.currentPlane d).c0Write.getLsbD (n % 64)

/-- C0_HOLDER (R129, R494): the District whose active context schedules the bank, 0xFF for none. -/
def State.c0Holder (s : State) (n : Nat) : Nat :=
  if s.schedulesC0 (n / 64 * 2) n then n / 64 * 2
  else if s.schedulesC0 (n / 64 * 2 + 1) n then n / 64 * 2 + 1 else 0xFF

/-- A bank is scheduled for C0 in some District's active context (R494). -/
def State.isC0 (s : State) (n : Nat) : Bool := s.c0Holder n != 0xFF

/-- A bank is scheduled for C0 writes in some District's active context (R494). -/
def State.isC0Write (s : State) (n : Nat) : Bool :=
  s.schedulesC0Write (n / 64 * 2) n || s.schedulesC0Write (n / 64 * 2 + 1) n

/-- The elements of a queue's descriptor and counts (R237). -/
def queueElements : List El :=
  [.Q_CTRL, .Q_BASE, .Q_SIZE, .Q_PRODUCER, .Q_CONSUMER, .Q_HEAD, .Q_TAIL, .Q_LEVEL, .Q_FRAGMENTS, .Q_STALLS, .Q_OVERSIZE]

/-- The queues that are enabled: those whose Q_CTRL is off its default with ENABLE set (R226, R237). -/
def State.enabledQueues (s : State) : List Nat := (s.unitsSet .Q_CTRL).filter (fun q => s.rget .Q_CTRL q % 2 == 1)

/-- The rows of a queue: its first row and the number of rows (R226). -/
def State.queueRegion (s : State) (q : Nat) : Nat × Nat := (s.rget .Q_BASE q, 2 ^ s.rget .Q_SIZE q)

/-- Two stretches of rows meet. -/
def rowsMeet (a b : Nat × Nat) : Bool := Nat.blt a.1 (b.1 + b.2) && Nat.blt b.1 (a.1 + a.2)

/-- A bank holds part of an enabled queue (R227). -/
def State.inQueue (s : State) (n : Nat) : Bool :=
  s.enabledQueues.any (fun q => rowsMeet (s.queueRegion q) (16384 * n, 16384))

/-- A bank belongs to the frame reserve while FR_ENABLE = 1 (R327). -/
def State.inReserve (s : State) (n : Nat) : Bool :=
  s.rflag .FR_ENABLE && Nat.ble (s.rget .FR_FIRST) n && Nat.blt n (s.rget .FR_FIRST + s.rget .FR_BANKS)

/-- A bank is AWAKE (R123). -/
def State.isAwake (s : State) (n : Nat) : Bool := s.rget .POWER_STATE n == 0

/-- The page IDs held in the retirement table (R304, R493). -/
def State.retiredPages (s : State) : List Nat := s.mem.retired.map (·.2)

/-- The owner ID a requester acts under (R109, R110): the queue engine and the trunks act for the event builder. -/
def ownerOf : Requester → Nat
  | .district d _ => d
  | .extraction _ => 0x80
  | .plaza m =>
    match m with
    | .core _ => 0x81
    | .debug => 0x83
    | .queues => 0x80
    | .trunk _ => 0x80
    | .district d => d
  | .scrubber => 0xFF
  | .bist => 0x82

/-- A requester may use a bank as its owner, a sharing reader, or under an exception of R110, R108 and R127; the old owner
not at all while a handover drains (R111). -/
def State.mayAccess (s : State) (n : Nat) (r : Requester) (isWrite : Bool) : Bool :=
  let me := ownerOf r
  if s.rget .HANDOVER n == 1 && s.rget .OWNER_ACTIVE n == me && s.rget .OWNER n != me then false
  else if s.isVaultBank n then
    match r with
    | .plaza (.core true) => s.rget .VAULT_STATE == 2
    | _ => false
  else
    let owns := s.rget .OWNER_ACTIVE n == me && s.rget .HANDOVER n == 0
    if isWrite then owns && !s.isRingBank n
    else
      owns
      || (s.isRingBank n && Nat.blt me 128 && me / 2 == n / 64)
      || (s.rflag .READ_SHARE n && s.rget .OWNER_ACTIVE n != me)
      || me == 0x83

/-- A request waits for the end of a handover to its own owner (R111). -/
def State.awaitsHandover (s : State) (n : Nat) (r : Requester) : Bool :=
  s.rget .HANDOVER n == 1 && s.rget .OWNER n == ownerOf r && s.rget .OWNER_ACTIVE n != ownerOf r

/-- The key of the answers of a requester at a bank: a District's channel, or a Plaza requester at one bank (R34, R160); the
service core is one requester in either of its modes (R383). -/
def laneKey (n : Nat) : Requester → Nat
  | .district d c => d * 128 + c
  | .extraction q => 2 ^ 24 + q
  | .plaza m =>
    let code := match m with
      | .core _ => 0
      | .debug => 2
      | .queues => 3
      | .trunk t => 4 + t
      | .district d => 64 + d
    2 ^ 20 + code * 4096 + n
  | .scrubber => 2 ^ 25
  | .bist => 2 ^ 25 + 1

/-- The address at which the core reaches a row of a bank: through the Vault window while VAULT_ENABLE = 1, and in bank space
otherwise (R126, R382, R383). -/
def State.coreAddress (s : State) (n row : Nat) : Nat :=
  if s.isVaultBank n then 0x30000000 + 256 * row + 16 * (n - 48) else 0x40000000 + 262144 * n + 16 * row

/-- The lowest byte of a row that a request of the core asks for: its enables name the bytes of a load too (log entry 218). -/
def lowestLane (enables : BitVec 16) : Nat := ((List.range 16).find? (fun k => bitOf enables.toNat k)).getD 0

/-- A refused access of the service core, or one that meets an error indication, raises an access fault with its address
(R383). -/
def faultOfCore (n : Nat) (w : Waiting) (a : Answer) (s : State) : State :=
  match w.src with
  | .plaza (.core _) =>
    if a.errc = 0 then s else accessFault w.req.write (s.coreAddress n w.req.row + lowestLane w.req.enables) s
  | _ => s

/-- An answer put in its place in the issue order of its requester (R34, R160). -/
def answerLane (key order : Nat) (a : Answer) (s : State) : State :=
  let l := mget s.lanes key Lane.idle
  { s with lanes := mset s.lanes key { l with done := mput l.done order a } Lane.idle }

/-- The next issue number of a requester taken. -/
def issue (key : Nat) (s : State) : Nat × State :=
  let l := mget s.lanes key Lane.idle
  (l.issued, { s with lanes := mset s.lanes key { l with issued := l.issued + 1 } Lane.idle })

/-- The fabric cycle of something that stands alone on a bus: a cycle, or the first after those taken already. DESIGN CHOICE (log entry
206): commands name no fabric cycle; what follows without a cycle run between stands in cycles of its own, in order. -/
def freshCycle (c : Nat) (taken : List Nat) : Nat := taken.foldl (fun m t => Nat.max m (t + 1)) c

/-- The next answer in issue order delivered on the requester's bus in the present fabric cycle, when it is there. -/
def deliver (key : Nat) (s : State) : State :=
  let l := mget s.lanes key Lane.idle
  match mfind l.done l.delivered with
  | some a =>
    let c := freshCycle s.fabric.cycle (l.seen.map (·.1))
    let l' : Lane := { l with delivered := l.delivered + 1, done := mdel l.done l.delivered, bus := some a
                              seen := mput (l.seen.filter (fun p => Nat.ble s.fabric.cycle p.1)) c a }
    { s with lanes := mset s.lanes key l' Lane.idle }
  | none => s

/-- The fixed bus of a channel at rest. -/
def FixedBus.idle : FixedBus := { issued := 0, wait := [], bus := none, due := [] }

/-- The fabric cycles from a C0 request to its response (R160): 8 from L2, whose Districts are even, and 9 from L4. -/
def fixedLatency (key : Nat) : Nat := 8 + key / 128 % 2

/-- The place of a C0 request's answer on its channel's fixed bus taken, with its fabric cycle (R160): its number, and the state. -/
def issueFixed (key : Nat) (s : State) : Nat × State :=
  let f := mget s.fixed key FixedBus.idle
  let live := f.due.filter (fun p => Nat.ble s.fabric.cycle p.1)
  let c := freshCycle (s.fabric.cycle + fixedLatency key) (live.map (·.1))
  let f' : FixedBus := { f with issued := f.issued + 1, wait := f.wait ++ [(f.issued, none)], due := mput live c (f.issued, none) }
  (f.issued, { s with fixed := mset s.fixed key f' FixedBus.idle })

/-- The answer of a C0 request put in its place on the fixed bus, for its fixed cycle (R160). -/
def answerFixed (key order : Nat) (a : Answer) (s : State) : State :=
  let f := mget s.fixed key FixedBus.idle
  let f' : FixedBus := { f with wait := f.wait.map (fun p => if p.1 = order then (order, some a) else p)
                                due := mmap (fun _ x => if x.1 = order then (order, some a) else x) f.due }
  { s with fixed := mset s.fixed key f' FixedBus.idle }

/-- A C0 request answered as it is issued, behind those issued before it (R160). -/
def answerFixedNow (key : Nat) (a : Answer) (s : State) : State :=
  let i := issueFixed key s
  answerFixed key i.1 a i.2

/-- A refused access (R110): DENIED moves on, and a WARNING record names the bank and the requester, at most one per bank
in 1 ms. -/
def denied (n : Nat) (r : Requester) (s : State) : State :=
  (s.rinc .DENIED n).raiseLimited 1000 (0x0501 * 2 ^ 16 + n) sevWarning 0x0501 n (leBytes 2 n ++ leBytes 1 (ownerOf r))

/-! Handover (R111). -/

/-- The abort with which an OWNER write is refused (R111, R227, R327), in the abort order of R354. -/
def State.ownerRefusal (s : State) (n v : Nat) : Option Nat :=
  if s.rflag .VAULT_ENABLE && inVaultPlace n && v != 0x84 then some 3
  else if v = 0x84 && !inVaultPlace n then some 4
  else if s.rget .HANDOVER n = 1 then some 6
  else if s.isRingBank n && v != 0x80 then some 6
  else if s.isC0 n && v != s.c0Holder n && v != 0x80 then some 6
  else if s.inQueue n || s.inReserve n then some 6
  else none

/-- The waiting requests of a bank that stalled on its wake (R123): the first of classes C1 to C3, as many as are counted. -/
def BankPort.stalledOnes (b : BankPort) : List Waiting := (b.waiting.filter (fun w => w.req.cls != 0)).take b.stalled

/-- A request's answer, on the bus of its class. -/
def answerRequest (n : Nat) (w : Waiting) (a : Answer) (s : State) : State :=
  faultOfCore n w a
    (if w.req.cls = 0 then answerFixed (laneKey n w.src) w.order a s else answerLane (laneKey n w.src) w.order a s)

/-- A handover started (R111): HANDOVER 1, and every waiting request of the old owner answered NOT_OWNER. DESIGN CHOICE (log entry
199): where the write names the present owner, who is both, its waiting requests wait and its new ones are refused; and (log entry
226) a handover takes the place of the one that would give the bank back after an off-line test. -/
def startHandover (n v : Nat) (s : State) : State :=
  let s := { s with bist := { s.bist with back := mdel s.bist.back n } }
  let old := s.rget .OWNER_ACTIVE n
  let b := s.bank n
  let goes (w : Waiting) : Bool := ownerOf w.src == old && old != v
  let refusedOnes := b.waiting.filter goes
  let s := s.setBank n { b with waiting := b.waiting.filter (fun w => !goes w)
                                stalled := b.stalled - (b.stalledOnes.filter goes).length }
  let s := refusedOnes.foldl
    (fun t w => denied n w.src (answerRequest n w { tag := w.tag, data := 0, errc := 2, tstatus := 0 } t)) s
  (s.rset .OWNER n v).rset .HANDOVER n 1

end Sys2Proof.Machine
end

