-- ==== Sys2Proof/Machine/Vault.lean ====
section
/-! DEFINITION. The Vault's lock (R127), and the clearing of VALID in a bank (R293). -/

namespace Sys2Proof.Machine

/-- A byte of the Vault by its offset in the OMJ-256 address space (R126): local bank of Quarter 0, row and byte; none where
the offset lies beyond its 4 MiB. -/
def vaultPlace (a : Nat) : Option (Nat × Nat × Nat) :=
  if a < 0x400000 then some (48 + a / 16 % 16, a / 256, a % 16) else none

/-- Every word of a logical bank, and of its copy while it is moved or under test (R293, R307, R405), cleared of VALID, or written as
zero with fresh check bits (R128); what its rows held before local writes is gone with them. -/
def blankBank (n : Nat) (zero : Bool) (s : State) : State :=
  let t := if (s.bank n).prior = [] then s else s.setBank n { s.bank n with prior := [] }
  let t := blankPlace (n / 64) (s.placeOfBank n) zero t
  let t := match s.moveTarget n with
    | some p => blankPlace (n / 64) p zero t
    | none => t
  match (if s.underTest n then s.bist.spare else none) with
  | some sp => blankPlace (n / 64) (64 + sp) zero t
  | none => t

/-- Every word of a logical bank cleared of VALID (R293). -/
def clearBank (n : Nat) (s : State) : State := blankBank n false s

/-- The end of a bank's invalidation (R293): every word INVALID; a bank whose off-line test it follows goes back to its owner
(R408). -/
def endInvalidation (n : Nat) (s : State) : State :=
  if s.rget .INV_STATE n = 1 then
    let t := (clearBank n s).rset .INV_STATE n 0
    match mfind t.bist.back n with
    | some o => startHandover n o t
    | none => t
  else s

end Sys2Proof.Machine
end

