-- ==== Sys2Proof/Machine/Pmp.lean ====
section
/-! DEFINITION. What the service core may reach: its address map (R382), the machine-only regions and physical memory
protection (R381), and the stores and loads of the core that these judge. -/

namespace Sys2Proof.Machine

/-! The map (R382). -/

/-- The regions of the map. -/
inductive Region
  | rom | tcm | vault | bank | keeper | dictM | dictU | mailbox | coreLocal | uart | none
deriving DecidableEq, Repr

/-- An address of data TCM, and of either TCM. -/
def isDataTcm (a : Nat) : Bool := Nat.ble 0x20000000 a && Nat.blt a 0x20040000
def isTcm (a : Nat) : Bool := (Nat.ble 0x10000000 a && Nat.blt a 0x10040000) || isDataTcm a

/-- The region of an address (R382); an offset beyond the Vault is in no region (R126). -/
def regionOf (a : Nat) : Region :=
  if Nat.blt a 0x10000 then .rom
  else if isTcm a then .tcm
  else if Nat.ble 0x30000000 a && (vaultPlace (a - 0x30000000)).isSome then .vault
  else if Nat.ble 0x40000000 a && Nat.blt a 0x80000000 then .bank
  else if Nat.ble 0x80000000 a && Nat.blt a 0x82000000 then .keeper
  else if Nat.ble 0x90000000 a && Nat.blt a 0x90004000 then .dictM
  else if Nat.ble 0x90010000 a && Nat.blt a 0x90014000 then .dictU
  else if Nat.ble 0xA0000000 a && Nat.blt a 0xA0001000 then .mailbox
  else if Nat.ble 0xB0000000 a && Nat.blt a 0xB0001000 then .coreLocal
  else if Nat.ble 0xB0001000 a && Nat.blt a 0xB0001100 then .uart
  else .none

/-- The regions that are machine-only: those that R381 lists, and the UART, whose access R382 gives to machine mode. -/
def Region.machineOnly : Region → Bool
  | .rom | .keeper | .vault | .coreLocal | .dictM | .uart => true
  | .tcm | .bank | .dictU | .mailbox | .none => false

/-- The regions that the core reads and does not write (R382). -/
def Region.readOnly : Region → Bool
  | .rom | .keeper => true
  | .tcm | .vault | .bank | .dictM | .dictU | .mailbox | .coreLocal | .uart | .none => false

/-- The regions from which the core executes: the boot ROM, and what protection alone guards, the TCMs and bank space (R382). DEDUCED
(log entry 217). -/
def Region.executable : Region → Bool
  | .rom | .tcm | .bank => true
  | .vault | .keeper | .dictM | .dictU | .mailbox | .coreLocal | .uart | .none => false

/-! Physical memory protection (R381). The layout of an entry is of the RISC-V privileged specification, version 1.12, that R380
names: PRESUMED (entry 166). -/

/-- The entries. -/
def pmpCount : Nat := 16

/-- An entry of protection. -/
def State.pmpEntry (s : State) (i : Nat) : PmpEntry := mget s.run.pmp i PmpEntry.off

/-- An entry changed. -/
def State.setPmp (s : State) (i : Nat) (e : PmpEntry) : State :=
  s.setRun { s.run with pmp := mset s.run.pmp i e PmpEntry.off }

/-- The address-matching mode of an entry: 0 off, 1 TOR, 2 NA4, 3 NAPOT. -/
def PmpEntry.mode (e : PmpEntry) : Nat := bitsOf e.cfg 4 3

/-- A locked entry: it binds machine mode, and is not written until the core is reset. -/
def PmpEntry.locked (e : PmpEntry) : Bool := bitOf e.cfg 7

/-- An entry grants a load or a store; the reserved combination of W without R grants neither. -/
def PmpEntry.grants (store : Bool) (e : PmpEntry) : Bool := bitOf e.cfg 0 && (!store || bitOf e.cfg 1)

/-- An entry grants execution; the reserved combination of W without R grants nothing. -/
def PmpEntry.runs (e : PmpEntry) : Bool := bitOf e.cfg 2 && (bitOf e.cfg 0 || !bitOf e.cfg 1)

/-- The ones at the low end of a pmpaddr, at most a number of them. -/
def lowOnes : Nat → Nat → Nat
  | 0, _ => 0
  | k + 1, v => if bitOf v 0 then lowOnes k (v / 2) + 1 else 0

/-- An entry matches the word of an address, at the granularity of 4 bytes; TOR begins at the address before it. -/
def PmpEntry.matches (e : PmpEntry) (before a : Nat) : Bool :=
  let w := a / 4
  match e.mode with
  | 0 => false
  | 1 => Nat.ble before w && Nat.blt w e.addr
  | 2 => w == e.addr
  | _ => let k := lowOnes 32 e.addr + 1; w / 2 ^ k == e.addr / 2 ^ k

/-- The lowest entry that matches a word, searched from one entry on over a number of them. -/
def State.pmpFrom (s : State) (a : Nat) : Nat → Nat → Option PmpEntry
  | _, 0 => none
  | i, k + 1 =>
    let before := if i = 0 then 0 else (s.pmpEntry (i - 1)).addr
    if (s.pmpEntry i).matches before a then some (s.pmpEntry i) else s.pmpFrom a (i + 1) k

/-- The lowest-numbered entry that matches a word decides for user mode, and for machine mode where it is locked; where none
matches, machine mode passes and user mode does not. -/
def State.pmpAllows (s : State) (machine : Bool) (grant : PmpEntry → Bool) (a : Nat) : Bool :=
  match s.pmpFrom a 0 pmpCount with
  | some e => (machine && !e.locked) || grant e
  | none => machine

/-- A load or a store of the core passes: its address is listed (R382), in a region that it may reach in its mode and that takes a
store, and protection grants it (R381). -/
def State.coreMay (s : State) (machine store : Bool) (a : Nat) : Bool :=
  let r := regionOf a
  r != .none && (machine || !r.machineOnly) && !(store && r.readOnly) && s.pmpAllows machine (PmpEntry.grants store) a

/-- The core may execute the instruction at an address (R381, R382). -/
def State.coreRuns (s : State) (machine : Bool) (a : Nat) : Bool :=
  let r := regionOf a
  r.executable && (machine || !r.machineOnly) && s.pmpAllows machine PmpEntry.runs a

/-! The registers of protection, as CSRs. -/

/-- A byte of a word. -/
def byteOf (v k : Nat) : Nat := v / 2 ^ (8 * k) % 256

/-- pmpcfg0 to pmpcfg3 and pmpaddr0 to pmpaddr15, by the CSR's number. -/
def State.pmpCsr (s : State) (n : Nat) : Option Nat :=
  if Nat.ble 0x3A0 n && Nat.ble n 0x3A3 then
    some (leVal ((List.range 4).map (fun k => BitVec.ofNat 8 (s.pmpEntry (4 * (n - 0x3A0) + k)).cfg)))
  else if Nat.ble 0x3B0 n && Nat.ble n 0x3BF then some (s.pmpEntry (n - 0x3B0)).addr
  else none

/-- The configuration byte of an entry written: bits 6:5 read 0, and a locked entry keeps its own. -/
def putPmpCfg (i v : Nat) (s : State) : State :=
  if (s.pmpEntry i).locked then s else s.setPmp i { s.pmpEntry i with cfg := v - bitsOf v 6 5 * 32 }

/-- The address of an entry written: a locked entry keeps it, and so does one that a locked TOR entry follows. -/
def putPmpAddr (i v : Nat) (s : State) : State :=
  let next := s.pmpEntry (i + 1)
  if (s.pmpEntry i).locked || (next.locked && next.mode == 1) then s else s.setPmp i { s.pmpEntry i with addr := v }

/-- A register of protection written; none where the CSR is not one of them. -/
def putPmpCsr (n v : Nat) (s : State) : Option State :=
  if Nat.ble 0x3A0 n && Nat.ble n 0x3A3 then
    some ((List.range 4).foldl (fun t k => putPmpCfg (4 * (n - 0x3A0) + k) (byteOf v k) t) s)
  else if Nat.ble 0x3B0 n && Nat.ble n 0x3BF then some (putPmpAddr (n - 0x3B0) v s)
  else none

/-! Stores and loads of the core. -/

/-- Firmware executes: the TCMs are no longer as the boot ROM left them (R390). -/
def State.ran (s : State) : State := s.setRun { s.run with fresh := false }

/-- The class of the core's accesses to banks: BUS_CLASS, of which 0 acts as 3 (R383, R384). -/
def State.coreClass (s : State) : Nat := if s.core.busClass = 0 then 3 else s.core.busClass

/-- Stores of the core into a run of words: its first byte, its length in bytes, what the first so many of its bytes do, and
whether the device itself faults a store there. -/
structure CoreStore where
  addr : Nat
  size : Nat
  effect : Nat → State → State
  faults : State → Bool := fun _ => false

/-- The first word of a run that a store faults at (R381, R382). -/
def State.firstFault (s : State) (machine : Bool) (x : CoreStore) : Option Nat :=
  ((List.range (ceilDiv x.size 4)).map (fun k => x.addr + 4 * k)).find? (fun a => x.faults s || !s.coreMay machine true a)

/-- Stores of the core in program order; the first that faults ends them. -/
def coreStores (machine : Bool) : List CoreStore → State → State
  | [], s => s
  | x :: rest, s =>
    match s.firstFault machine x with
    | some a => accessFault true a (x.effect (a - x.addr) s)
    | none => coreStores machine rest (x.effect x.size s)

/-- One word stored, with its effect. -/
def wordStore (a : Nat) (f : State → State) : CoreStore := { addr := a, size := 4, effect := fun k s => if k = 0 then s else f s }

/-- One load of the core. -/
def coreLoad (machine : Bool) (a : Nat) (f : State → State) (s : State) : State :=
  if s.coreMay machine false a then f s else accessFault false a s

/-- The words of a row that a core's request reaches: those with a lane enabled, and all of a read that names none (log entry
218). -/
def rowWords (write : Bool) (enables : BitVec 16) : List Nat :=
  (List.range 4).filter (fun k => (!write && enables == 0) || bitsOf enables.toNat (4 * k + 3) (4 * k) != 0)

/-- The first word of a core's request at a bank that protection refuses (R381). -/
def State.refusedWord (s : State) (machine write : Bool) (n row : Nat) (enables : BitVec 16) : Option Nat :=
  ((rowWords write enables).map (fun k => s.coreAddress n row + 4 * k)).find? (fun a => !s.coreMay machine write a)

end Sys2Proof.Machine
end

