-- ==== Sys2Proof/Machine/Ports.lean ====
section
/-! DEFINITION. The front-end ports (R70 to R104): validity, locks, frames, deskew, presentation, alignment windows and the
port settings. -/

namespace Sys2Proof.Machine

/-- A port's state. -/
def State.port (s : State) (p : Nat) : Port := mget s.ports p Port.idle

/-- A port's state changed. -/
def State.setPort (s : State) (p : Nat) (x : Port) : State := { s with ports := mset s.ports p x Port.idle }

/-- Every port with state of its own changed. -/
def eachPort (f : Port → Port) (s : State) : State :=
  (s.ports.map (·.1)).foldl (fun t p => t.setPort p (f (t.port p))) s

/-- The number of ports (R70). -/
def portCount : Nat := 1024

/-! Rates and validity. -/

/-- The most payload words a frame may have at a rate multiple and coding (R77). -/
def wMax (coding rxMult : Nat) : Nat := rxMult / (if coding = 0 then 66 else 80) - 1

/-- A port's settings break R71 or the frame-size limit of R77 (R72). -/
def State.cfgInvalid (s : State) (p : Nat) : Bool :=
  let f := s.rget .MCLK_NOMINAL
  let rx := s.rget .RX_MULT p
  let tx := s.rget .TX_MULT p
  let w := s.rget .FRAME_WORDS p
  !(rx % 2 == 0 && Nat.ble 1000000000 (rx * f) && Nat.ble (rx * f) 12800000000
    && tx % 10 == 0 && Nat.ble 70 tx && Nat.ble tx 640 && Nat.ble 400000000 (tx * f) && Nat.ble (tx * f) 3200000000
    && Nat.ble 1 w && Nat.ble w (wMax (s.rget .CODING p) rx))

/-- TIMING_PORT names the port and the time base takes its clock from it (R35). DESIGN CHOICE (log entry 148): a port that gives
only the orbit flag (R44), under CLK_SRC other than 1, is no timing port for R73 and R92. -/
def State.isTimingPort (s : State) (p : Nat) : Bool := s.rget .CLK_SRC == 1 && s.rget .TIMING_PORT == p

/-- A port meets the conditions of R92 that the device can judge: enabled, named, frame-locked. -/
def State.timingQualified (s : State) (p : Nat) : Bool :=
  s.rflag .ENABLE p && s.rget .TIMING_PORT == p
    && s.rget .RX_MULT p % (if s.rget .CODING p = 0 then 66 else 10) == 0

/-- The time base is LOCKED or later (R73, R80). -/
def State.tbLocked (s : State) : Bool :=
  match s.tb.st with
  | .noClock | .acquire => false
  | .locked | .aligned | .holdover | .realign => true

/-- A receiver may hold a receive clock (R72, R73, R80): enabled, validly set, and the time base LOCKED or later or the
port the timing port. -/
def State.mayReceive (s : State) (p : Nat) : Bool :=
  s.rflag .ENABLE p && !s.cfgInvalid p && (s.tbLocked || s.isTimingPort p)

/-- EXTEST, EXTEST_PULSE or EXTEST_TRAIN is in force, under which every port presents LINK_DOWN (R102). -/
def State.scanDrivesPorts (s : State) : Bool :=
  s.pinsTaken && s.dbg.instruction != .clamp && s.dbg.instruction != .highz

/-- PORT_STATE (R80). DESIGN CHOICE (log entry 149): RX_PRBS shows PRBS also with CFG_INVALID set, and never with ENABLE = 0. -/
def State.portState (s : State) (p : Nat) : Nat :=
  let x := s.port p
  if !s.rflag .ENABLE p then 0
  else if s.rget .RX_PRBS p != 0 then 6
  else if !s.mayReceive p || !x.cdr then 1
  else if !x.code then 2
  else if !x.framed then 3
  else if !x.aligned then 4
  else 5

/-- The expected tag E(c) of a crossing (R83). -/
def State.expectedTag (s : State) (p c : Nat) : Nat :=
  if s.rget .TAG_MODE p = 0 then (c % s.L + s.rget .TAG_OFFSET p) % s.L % 4096
  else (c + s.rget .TAG_OFFSET p) % 4096

/-! Leaving states. -/

/-- A port leaves ALIGNED (R81): its offset is kept, NEEDS_ALIGN set, the FIFO's frames discarded, the loss counted and
recorded with the port, the crossing and the level lost. DESIGN CHOICE (log entry 151): the level is coded 0 for ENABLE, 1 for R72
and R73, 2 for the receive clock, 3 for code lock, 4 for frame lock and 5 for RX_PRBS and R91. -/
def leaveAligned (p level : Nat) (s : State) : State :=
  let x := s.port p
  if x.aligned then
    ((s.setPort p { x with aligned := false, needsAlign := true, fifo := [], placedRun := 0, reenter := false }).rinc
      .LOCK_LOSSES p).raise sevWarning 0x1001 p (leBytes 2 p ++ leBytes 8 s.mt ++ leBytes 1 level)
  else s

/-- A port loses frame lock, at the level given (R80, R81). -/
def loseFramed (p level : Nat) (s : State) : State :=
  let s := leaveAligned p level s
  let x := s.port p
  s.setPort p { x with framed := false, goodRun := 0, badRun := 0, placedRun := 0, reenter := false }

/-- A port loses code lock (R76, R80). -/
def loseCode (p level : Nat) (s : State) : State :=
  let s := loseFramed p level s
  s.setPort p { s.port p with code := false }

/-- The receiver adapts in the present cycle (R94): for the first 10 ms, with ADAPT = 0, and with ADAPT = 1 within its windows. What
EQ_STATE reads meanwhile is open. -/
def State.adapting (s : State) (p : Nat) : Bool :=
  let x := s.port p
  x.cdr && (x.adaptForced || s.rget .ADAPT p == 0 || (s.rget .ADAPT p == 1 && x.adaptWindows != 0))

/-- The values that an adapting receiver has reached stay where adaptation may end (R94); they are open. -/
def keepEq (p : Nat) (s : State) : State :=
  if s.adapting p then
    let d := s.draw
    d.2.rset .EQ_STATE p (Config.equaliser d.1 p).toNat
  else s

/-- The code errors of a receiver count while it recovers a clock (R76); those that lose no lock come with no command, and their
number is open. -/
def State.codeCounts (s : State) (p : Nat) : Bool := (s.port p).cdr && s.rget .RX_PRBS p == 0

/-- A counter moved on by a number that is open (R76, R101). -/
def addFree (e : El) (u : Nat) (s : State) : State :=
  let d := s.draw
  d.2.radd e u (Config.freeBits d.1).toNat

/-- A port loses its receive clock (R80). -/
def loseCdr (p level : Nat) (s : State) : State :=
  let s := keepEq p (if s.codeCounts p then addFree .CODE_ERRORS p s else s)
  let s := loseCode p level s
  s.setPort p { s.port p with cdr := false, adaptForced := false }

/-- A port's validity judged again (R72, R73): a receiver that may hold no clock falls to NO_SIGNAL. -/
def settlePort (p : Nat) (s : State) : State :=
  if s.mayReceive p || !(s.port p).cdr then s else loseCdr p 1 s

/-- Every port's validity judged again (R72). -/
def settlePorts (s : State) : State := (s.ports.map (·.1)).foldl (fun t p => settlePort p t) s

/-- An open alignment window ends ABORTED (R89). DESIGN CHOICE (log entry 154): this is no failure of its step 6, and no record is
written. -/
def abortWindow (p : Nat) (s : State) : State :=
  match (s.port p).window with
  | some _ => (s.setPort p { s.port p with window := none }).rset .ALIGN_RESULT p 6
  | none => s

/-- Every open alignment window ends ABORTED (R56, R89). -/
def abortWindows (s : State) : State := (s.ports.map (·.1)).foldl (fun t p => abortWindow p t) s

/-- The timing port does not qualify (R92): SRC_PRESENT cleared, and one NOTICE record written until it qualifies or another port is
named. -/
def unqualified (s : State) : State :=
  let p := s.rget .TIMING_PORT
  let s := { s with tb := { s.tb with srcPresent := false } }
  if (s.port p).noticed then s
  else (s.setPort p { s.port p with noticed := true }).raise sevNotice 0x1004 p (leBytes 2 p)

/-- The timing port's qualification judged (R92). -/
def judgeTiming (s : State) : State :=
  let p := s.rget .TIMING_PORT
  if s.rget .CLK_SRC != 1 then s
  else if s.timingQualified p then s.setPort p { s.port p with noticed := false }
  else unqualified s

/-! Receive events. -/

/-- CDR_LOCK_ACQUIRED: the port enters CDR_LOCK and adapts for 10 ms (R80, R94). -/
def execCdrLockAcquired (port : Nat) (s : State) : Host.Outcome State Fault Refusal :=
  if s.mayReceive port && !(s.port port).cdr && port < portCount then
    let s := s.setPort port { s.port port with cdr := true, adaptForced := true }
    .next (if s.isTimingPort port then judgeTiming s else s)
  else .next s

/-- CDR_LOCK_LOST (R80). -/
def execCdrLockLost (port : Nat) (s : State) : Host.Outcome State Fault Refusal :=
  .next (if (s.port port).cdr then loseCdr port 2 s else s)

/-- CODE_LOCK_ACQUIRED (R76). -/
def execCodeLockAcquired (port : Nat) (s : State) : Host.Outcome State Fault Refusal :=
  let x := s.port port
  .next (if s.mayReceive port && x.cdr && s.rget .RX_PRBS port = 0 then
    s.setPort port { x with code := true, goodRun := 0, badRun := 0 } else s)

/-- CODE_LOCK_LOST: the errors that lost it count in CODE_ERRORS (R76), beside those that come with no command. -/
def execCodeLockLost (port errors : Nat) (s : State) : Host.Outcome State Fault Refusal :=
  .next (if (s.port port).code then loseCode port 3 (s.radd .CODE_ERRORS port errors) else s)

/-- START_SYMBOL_TIMEOUT: no start symbol for 4 crossings loses FRAMED (R80). -/
def execStartSymbolTimeout (port : Nat) (s : State) : Host.Outcome State Fault Refusal :=
  .next (if (s.port port).framed then loseFramed port 4 s else s)

/-- ADAPT_INITIAL_END: ADAPT governs again (R94); the values adapted to are open, and stay. -/
def execAdaptInitialEnd (port : Nat) (s : State) : Host.Outcome State Fault Refusal :=
  .next (if (s.port port).adaptForced then
    (keepEq port s).setPort port { s.port port with adaptForced := false }
  else s)

/-- One word descrambled with x^58 + x^39 + 1, the 58 line bits before it lowest first and latest highest (R75). -/
def descramble (before : BitVec 58) (w : BitVec 64) : BitVec 64 :=
  let line : BitVec 122 := w ++ before
  (line >>> 58 ^^^ line >>> 19 ^^^ line).setWidth 64

/-- The 58 line bits before the next word (R75). -/
def lastLine (w : BitVec 64) : BitVec 58 := (w >>> 6).setWidth 58

/-- Words descrambled in turn (R75). -/
def descrambleAll : BitVec 58 → List (BitVec 64) → List (BitVec 64)
  | _, [] => []
  | b, w :: ws => descramble b w :: descrambleAll (lastLine w) ws

/-- The header and payload of a frame as the decoder gives them: descrambled in 64b/66b mode with SCRAMBLE = 1 (R75). -/
def State.frameWords (s : State) (p : Nat) (f : RxFrame) : BitVec 64 × List (BitVec 64) :=
  if s.rget .CODING p = 0 && s.rflag .SCRAMBLE p then
    (descramble f.before f.header, descrambleAll (lastLine f.header) f.payload)
  else (f.header, f.payload)

/-- The bytes of the header word that the frame's check covers, H[47:8] (R78). -/
def headerCrcBytes (h : BitVec 64) : Bytes := leBytes 5 (bitsOf h.toNat 47 8)

/-- The frame's CRC is good (R78). -/
def frameCrcOk (h : BitVec 64) (ws : List (BitVec 64)) : Bool :=
  bitsOf h.toNat 63 48 == crc16 (headerCrcBytes h ++ (ws.map (fun w => leBytes 8 w.toNat)).flatten)

/-- The crossings from k - n to k, latest first. -/
def crossingsBack (k n : Nat) : List Nat := (List.range (Nat.min n k + 1)).map (fun i => k - i)

/-- The distance of two crossings. -/
def distance (a b : Nat) : Nat := (a - b) + (b - a)

/-- The crossing a good frame belongs to (R84): among those from k - 64 to k with its tag, the nearest to the target, the
earlier on a tie. -/
def State.placeOf (s : State) (p k target tag : Nat) : Option Nat :=
  (crossingsBack k 64).foldl
    (fun best c =>
      if s.expectedTag p c = tag then
        match best with
        | none => some c
        | some b => if Nat.ble (distance c target) (distance b target) then some c else some b
      else best) none

/-- A frame counted in the open alignment window (R89): d is the distance to the latest crossing with its tag. Past the last of its N
crossings a window counts nothing. -/
def countInWindow (p k tag : Nat) (s : State) : State :=
  match (s.port p).window, (crossingsBack k 63).find? (fun c => s.expectedTag p c == tag) with
  | some w, some c =>
    if Nat.ble w.first s.crossing && (match w.last with | some l => Nat.ble s.crossing l | none => true) then
      let d := k - c
      s.setPort p { s.port p with
        window := some { w with count := w.count + 1
                                dMin := if w.count = 0 then d else Nat.min w.dMin d
                                dMax := Nat.max w.dMax d } }
    else s
  | _, _ => s

/-- A frame placed for a crossing (R84, items 3 to 5). -/
def storeFrame (p k c : Nat) (fr : StoredFrame) (s : State) : State :=
  if Nat.ble (c + s.rget .ALIGN_LAT p) k then s.rinc .LATE p
  else match mfind (s.port p).fifo c with
    | some _ => s.rinc .DUPLICATE p
    | none =>
      (s.setPort p { s.port p with fifo := mput (s.port p).fifo c fr }).rset .LAST_TAG p (bitsOf fr.header.toNat 19 8)

/-- The placing of a frame by a port in ALIGNED (R84). -/
def placeFrame (p k : Nat) (fr : StoredFrame) (s : State) : State :=
  let target := k - s.rget .ALIGN_D p
  if fr.crcOk then
    match s.placeOf p k target (bitsOf fr.header.toNat 19 8) with
    | none => s.rinc .TAG_UNKNOWN p
    | some c => storeFrame p k c fr (if c = target then s else s.rinc .TAG_SLIP p)
  else storeFrame p k target fr s

/-- A frame received in FRAMED with NEEDS_ALIGN set: 16 in a row placed at the old offset bring the port back at the next
orbit boundary (R91). -/
def countReplaced (p k : Nat) (fr : StoredFrame) (s : State) : State :=
  let x := s.port p
  let target := k - s.rget .ALIGN_D p
  let hit := fr.crcOk && s.placeOf p k target (bitsOf fr.header.toNat 19 8) == some target
  let run := if hit then x.placedRun + 1 else 0
  s.setPort p { x with placedRun := run, reenter := x.reenter || Nat.ble 16 run }

/-- The runs of good and of bad frames, towards FRAMED and out of it (R80). -/
def countRuns (p : Nat) (good : Bool) (s : State) : State :=
  let x := s.port p
  let g := if good then x.goodRun + 1 else 0
  let b := if good then 0 else x.badRun + 1
  let s := s.setPort p { x with goodRun := g, badRun := b, framed := x.framed || Nat.ble 4 g }
  if x.framed && Nat.ble 16 b then loseFramed p 4 s else s

/-- The line bits of a port's frame, from its start symbol on (R77). -/
def State.frameBits (s : State) (p : Nat) : Nat :=
  (s.rget .FRAME_WORDS p + 1) * (if s.rget .CODING p = 0 then 66 else 80)

/-- The machine-clock edge at which a frame that is complete at a phase of the present crossing started (R77, R93): a frame takes no
longer than a crossing, so that it started at the present edge, or at the one before where its bits do not fit since. -/
def State.startEdge (s : State) (p phase : Nat) : Nat :=
  if Nat.ble (s.frameBits p * s.M) (phase * s.rget .RX_MULT p) then s.tb.edges else s.tb.edges - 1

/-- The orbit flag of a port's frame (R93): its ORB bit, and 0 with a bad CRC; where it goes high it is placed at the start of its
frame. -/
def noteOrbit (p phase : Nat) (flag : Bool) (s : State) : State :=
  let x := s.port p
  s.setPort p { x with orbFlag := flag, orbRise := if flag && !x.orbFlag then some (s.startEdge p phase) else none }

/-- FRAME_COMPLETE: a frame leaves the decoder of a port with code lock (R79, R80, R84, R89, R91, R93). -/
def execFrameComplete (port : Nat) (f : RxFrame) (s : State) : Host.Outcome State Fault Refusal :=
  if Nat.ble 3 (s.portState port) && Nat.ble (s.portState port) 5 then
    let hp := s.frameWords port f
    let lenOk := !f.cut && bitsOf hp.1.toNat 39 32 == s.rget .FRAME_WORDS port
      && hp.2.length == s.rget .FRAME_WORDS port
    let fr : StoredFrame := { header := hp.1, payload := hp.2, crcOk := frameCrcOk hp.1 hp.2, lenOk }
    let k := s.crossing + (f.phase + s.rget .ALIGN_GUARD port) / s.M
    let st := s.portState port
    let s1 := if s.counting then
        let t := if fr.crcOk && Nat.ble 4 st then countInWindow port k (bitsOf hp.1.toNat 19 8) s else s
        if st = 5 then placeFrame port k fr t
        else if st = 4 && (s.port port).needsAlign then countReplaced port k fr t else t
      else s
    let s2 := if port = s.rget .TIMING_PORT then noteOrbit port f.phase (fr.crcOk && bitOf hp.1.toNat 20) s1 else s1
    .next (countRuns port (fr.crcOk && lenOk) s2)
  else .next s

/-- A displaced source (R98): its command is dropped and counted, with one WARNING record per source and orbit. -/
def displace (p source : Nat) (s : State) : State :=
  let s := s.rinc .CMD_DROPPED p
  let s := if source = 4 then s.rset .DL_SEND_STATUS p 3 else s
  let x := s.port p
  if x.displaced.contains source then s
  else (s.setPort p { x with displaced := x.displaced ++ [source] }).raise sevWarning 0x1005 p []

/-! Presentation. -/

/-- The status of a presented crossing (R86). DESIGN CHOICE (log entry 150): a crossing whose frame R81 discarded is MISSING where the
port is ALIGNED again when it is presented. -/
def State.statusOf (s : State) (p c : Nat) : Nat :=
  if !s.rflag .ENABLE p || s.fget .MASK p = 1 then 6
  else if s.portState p != 5 || s.scanDrivesPorts then 5
  else match mfind (s.port p).fifo c with
    | none => 2
    | some f =>
      let e := s.rget .EXPECT_SRC p
      if !f.lenOk then 3
      else if !f.crcOk then 1
      else if bitOf e 8 && bitsOf f.header.toNat 31 24 != e % 256 then 7
      else if bitOf f.header.toNat 21 then 4
      else 0

/-- The stored header of a frame for a crossing (R87). -/
def storedHeader (h expected status : Nat) : BitVec 64 :=
  BitVec.ofNat 64 (bitsOf h 19 8 + bitsOf h 20 20 * 2 ^ 12 + bitsOf h 21 21 * 2 ^ 13 + bitsOf h 22 22 * 2 ^ 14
    + bitsOf h 31 24 * 2 ^ 16 + bitsOf h 47 40 * 2 ^ 24 + status * 2 ^ 32 + expected * 2 ^ 36)

/-- A list of words cut or zero-filled to a length. -/
def padWords (n : Nat) (l : List (BitVec 64)) : List (BitVec 64) := l.take n ++ List.replicate (n - l.length) 0

/-- What a port presents for a crossing (R85 to R87): the stored header, with the fields of a received frame whatever the status, the
stored payload, and the fabric's payload. -/
def State.presentOf (s : State) (p c : Nat) : Presented :=
  let st := s.statusOf p c
  let w := s.rget .FRAME_WORDS p
  let none64 := List.replicate w (0 : BitVec 64)
  match mfind (s.port p).fifo c with
  | none =>
    { crossing := c, status := st, header := storedHeader 0 (s.expectedTag p c) st, stored := none64, pdata := none64,
      pvalid := false }
  | some f =>
    { crossing := c, status := st, header := storedHeader f.header.toNat (s.expectedTag p c) st
      stored := if st = 5 || st = 6 then none64 else padWords w f.payload
      pdata := if st = 0 || st = 4 then padWords w f.payload else none64
      pvalid := st == 0 }

/-- The counter of a presented status (R86). -/
def statusCounter : Nat → Option El
  | 0 => some .FRAMES_OK
  | 1 => some .CRC_ERRORS
  | 2 => some .MISSING
  | 3 => some .LENGTH_ERRORS
  | 4 => some .FE_ERRORS
  | 7 => some .SRC_MISMATCH
  | _ => none

/-- A crossing has not been presented yet (R85). -/
def State.unpresented (s : State) (p c : Nat) : Bool :=
  match (s.port p).presented with
  | some x => Nat.blt x c
  | none => true

/-- A port's entry for a crossing presented (R85, R86): the FIFO slot freed, the status counted. -/
def presentPort (p c : Nat) (s : State) : State :=
  let e := s.presentOf p c
  let x := s.port p
  let s := s.setPort p { x with fifo := mdel x.fifo c, shown := some e, lastStatus := e.status, presented := some c }
  match statusCounter e.status with
  | some k => s.rinc k p
  | none => s

/-- The words of a port's Crossing Store entry (R87): the stored header, the payload, and zero words up to the entry's
size. -/
def entryWords (size : Nat) (e : Presented) : List (BitVec 64) := padWords size (e.header :: e.stored)

/-! Alignment windows. -/

/-- The ports that share a window with a port: its gang, or itself (R90). -/
def State.gangOf (s : State) (p : Nat) : List Nat :=
  let g := s.rget .GANG p
  if g = 0 then [p] else (s.unitsSet .GANG).filter (fun q => s.rget .GANG q == g)

/-- A window is open on a port or on a member of its gang (R89). -/
def State.windowOpen (s : State) (p : Nat) : Bool := (s.gangOf p).any (fun q => (s.port q).window.isSome)

/-- An alignment window opened on a port and its gang (R89, R90). -/
def openAlign (p first : Nat) (last entry : Option Nat) (s : State) : State :=
  (s.gangOf p).foldl
    (fun t q => t.setPort q { t.port q with window := some { first, last, entry, count := 0, dMin := 0, dMax := 0 } }) s

/-- ALIGN_REQ (R89): refused with 0x05 unless ALIGNED, with 0x06 while a window is open on the port or its gang. -/
def hAlignReq (p : Nat) : Handler :=
  Handler.doing (fun n s =>
    if s.tb.st != .aligned then .error 5
    else if s.windowOpen p then .error 6
    else .ok (openAlign p (s.crossing + 1) (some (s.crossing + n)) none s))

/-- ALIGN_REQ. -/
def execAlignReq (w : Route) (port v : Nat) (s : State) : Host.Outcome State Fault Refusal :=
  write w .ALIGN_REQ port v (hAlignReq port) s

/-- A port's own judgement at a window's end, with an offset (R89): 1 OK, 2 TOO_FEW, 3 SPREAD, 4 TOO_LATE, and
TOO_FEW for a member whose window is no longer open. DESIGN CHOICE (log entry 193): where several conditions fail, the first of
TOO_FEW, SPREAD and TOO_LATE is the reason. -/
def State.alignJudge (s : State) (p d : Nat) : Nat :=
  match (s.port p).window with
  | none => 2
  | some w =>
    if w.count < s.rget .ALIGN_MIN p then 2
    else if 1 < w.dMax - w.dMin then 3
    else if Nat.ble (s.rget .ALIGN_LAT p) d then 4
    else 1

/-- The results of a window's end for a port alone, or for its gang (R89, R90): the offset and each member's result. -/
def State.alignResult (s : State) (p : Nat) : Nat × Nat :=
  let ms := s.gangOf p
  let d := listMax (ms.map (fun q => match (s.port q).window with | some w => w.dMax | none => 0)) 0
  if s.rget .GANG p = 0 then (d, s.alignJudge p d)
  else if ms.any (fun q => s.rget .ALIGN_LAT q != s.rget .ALIGN_LAT p) then (d, 4)
  else if ms.all (fun q => s.alignJudge q d == 1) then (d, 1)
  else (d, 5)

/-- A window's end on one member: the result, its record, and the offset that the next boundary applies (R89). -/
def closeAlign (d result : Nat) (q : Nat) (s : State) : State :=
  match (s.port q).window with
  | none => s
  | some _ =>
    let x := s.port q
    let s := (s.setPort q { x with window := none, pendingD := if result = 1 then some d else x.pendingD }).rset
      .ALIGN_RESULT q result
    if result = 1 then s.raise sevInfo 0x1002 q (leBytes 2 q ++ leBytes 1 d)
    else s.raise sevNotice 0x1003 q (leBytes 2 q ++ leBytes 1 result)

/-- An alignment window ends on a port and its gang (R89, R90). -/
def endAlign (p : Nat) (s : State) : State :=
  let r := s.alignResult p
  (s.gangOf p).foldl (fun t q => closeAlign r.1 r.2 q t) s

/-- ALIGN_WINDOW_END: a window opened by ALIGN_REQ ends after its N crossings (R89). -/
def execAlignWindowEnd (port : Nat) (s : State) : Host.Outcome State Fault Refusal :=
  match (s.port port).window with
  | some { last := some l, .. } => .next (if Nat.ble l s.crossing then endAlign port s else s)
  | _ => .next s

/-- The alignment of a port at an orbit boundary: a learned offset applied (R89), or the return under R91. -/
def alignAtBoundary (p : Nat) (s : State) : State :=
  let x := s.port p
  match x.pendingD with
  | some d =>
    (s.setPort p { x with pendingD := none, needsAlign := false, aligned := x.framed, reenter := false,
                          placedRun := 0 }).rset .ALIGN_D p d
  | none =>
    if x.reenter && x.framed then
      s.setPort p { x with reenter := false, needsAlign := false, aligned := true, placedRun := 0 }
    else s

/-- Every port in ALIGNED passes to FRAMED with NEEDS_ALIGN, every FIFO emptied, on reaching ALIGNED from REALIGN (R91). -/
def deskewFlush (s : State) : State :=
  (s.ports.map (·.1)).foldl
    (fun t p => (leaveAligned p 5 t).setPort p { (leaveAligned p 5 t).port p with fifo := [] }) s

/-! Settings. -/

/-- The element of a port setting. -/
def portSettingEl : PortSetting → El
  | .enable => .ENABLE
  | .coding => .CODING
  | .rxMult => .RX_MULT
  | .frameWords => .FRAME_WORDS
  | .scramble => .SCRAMBLE
  | .rxPolarity => .RX_POLARITY
  | .expectSrc => .EXPECT_SRC
  | .adapt => .ADAPT
  | .ctle => .CTLE
  | .alignGuard => .ALIGN_GUARD
  | .alignMin => .ALIGN_MIN
  | .dlEnable => .DL_ENABLE
  | .txMult => .TX_MULT
  | .dlSkew => .DL_SKEW
  | .dlPolarity => .DL_POLARITY
  | .dlSwing => .DL_SWING
  | .dlEmph => .DL_EMPH
  | .dlFabric => .DL_FABRIC

/-- A port setting stored, and what follows from it: the port's validity, and the timing port's, judged again (R72, R92). -/
def storeSetting (e : El) (p v : Nat) (s : State) : State :=
  let before := s.timingQualified p
  let s := settlePort p (s.rset e p v)
  if s.isTimingPort p && before != s.timingQualified p then judgeTiming s else s

/-- ENABLE cleared: the window ends ABORTED and the port leaves every state (R80, R81, R89). -/
def disablePort (p : Nat) (s : State) : State := abortWindow p (loseCdr p 0 s)

/-- A downlink passes to electrical idle (R95). -/
def silence (p : Nat) (s : State) : State := s.setPort p { s.port p with downlink := none }

/-- The ring words of an entry that an enabled ring allows its group's ports (R112): RING_WORDS, or no bound. -/
def State.ringBreaks (s : State) (p v : Nat) : Bool :=
  s.rflag .RING_ENABLE (p / 16) && Nat.blt (s.rget .RING_WORDS (p / 16)) (ceilDiv v 64)

/-- How each port setting is judged and takes effect (R77, R103, R104, R112). DEDUCED (log entry 153): FRAME_WORDS is refused outside 1
to W_max by R103, which states this range for the element, and what other settings make of it is judged under R72 alone (R76). -/
def hPortSetting (e : PortSetting) (p : Nat) : Handler :=
  let busy (on : El) (s : State) (k : Except Nat State) : Except Nat State := if s.rflag on p then .error 6 else k
  match e with
  | .enable => Handler.doing (fun v s => .ok (storeSetting .ENABLE p v (if v = 0 then disablePort p s else s)))
  | .adapt => Handler.doing (fun v s => .ok (storeSetting .ADAPT p v (keepEq p s)))
  | .dlEnable => Handler.doing (fun v s => .ok (storeSetting .DL_ENABLE p v (if v = 0 then silence p s else s)))
  | .coding => Handler.doing (fun v s => busy .ENABLE s (.ok (storeSetting .CODING p v s)))
  | .rxMult => Handler.doing (fun v s =>
      if s.ringBreaks p v then .error 5 else busy .ENABLE s (.ok (storeSetting .RX_MULT p v s)))
  | .frameWords =>
    { range := fun v s => Nat.ble 1 v && Nat.ble v (wMax (s.rget .CODING p) (s.rget .RX_MULT p))
      act := fun v s => busy .ENABLE s (.ok (storeSetting .FRAME_WORDS p v s)) }
  | .scramble => Handler.doing (fun v s => busy .ENABLE s (.ok (storeSetting .SCRAMBLE p v s)))
  | .txMult => Handler.doing (fun v s => busy .DL_ENABLE s (.ok (storeSetting .TX_MULT p v s)))
  | .alignGuard =>
    { range := fun v s => Nat.blt v s.M, act := fun v s => .ok (storeSetting .ALIGN_GUARD p v s) }
  | .dlSkew => { range := fun v s => Nat.blt v s.M, act := fun v s => .ok (storeSetting .DL_SKEW p v s) }
  | .ctle => Handler.doing (fun v s =>
      let t := storeSetting .CTLE p v s
      .ok (if s.rget .ADAPT p = 2 then t.rset .EQ_STATE p (s.rget .EQ_STATE p / 16 * 16 + v) else t))
  | .rxPolarity | .expectSrc | .alignMin | .dlPolarity | .dlSwing | .dlEmph | .dlFabric =>
    Handler.doing (fun v s => .ok (storeSetting (portSettingEl e) p v s))

/-- PORT_SETTING_WRITE. -/
def execPortSettingWrite (w : Route) (e : PortSetting) (port v : Nat) (s : State) : Host.Outcome State Fault Refusal :=
  write w (portSettingEl e) port v (hPortSetting e port) s

/-- The element of an alignment setting. -/
def alignSettingEl : AlignSetting → El
  | .alignLat => .ALIGN_LAT
  | .tagMode => .TAG_MODE
  | .tagOffset => .TAG_OFFSET
  | .gang => .GANG

/-- An alignment setting (R83, R88): in TAG_MODE 0 a TAG_OFFSET of L or more is refused. DESIGN CHOICE (log entry 152): a TAG_OFFSET
that a later TAG_MODE or ORBIT_LEN leaves at L or above stands, and is used as R83's expression has it. -/
def hAlignSetting (e : AlignSetting) (p : Nat) : Handler :=
  { range := fun v s => match e with
      | .tagOffset => s.rget .TAG_MODE p != 0 || Nat.blt v s.L
      | .alignLat | .tagMode | .gang => true
    act := fun v s => .ok (s.rset (alignSettingEl e) p v) }

/-- ALIGN_SETTING_WRITE. -/
def execAlignSettingWrite (w : Route) (e : AlignSetting) (port v : Nat) (s : State) :
    Host.Outcome State Fault Refusal := write w (alignSettingEl e) port v (hAlignSetting e port) s

/-- MASK takes effect at the next orbit boundary (R103). -/
def hMask (p : Nat) : Handler := Handler.doing (fun v s => .ok (s.rdefer .MASK p v))

/-- MASK_WRITE. -/
def execMaskWrite (w : Route) (port v : Nat) (s : State) : Host.Outcome State Fault Refusal :=
  write w .MASK port v (hMask port) s

/-- RX_PRBS (R101): non-zero only while MASK is in force; the port then leaves its states for PRBS, and finds its locks
again afterwards. How many bit errors the checker has counted so far is open. -/
def hRxPrbs (p : Nat) : Handler := Handler.doing (fun v s =>
  if v != 0 && s.fget .MASK p = 0 then .error 6
  else
    let s := if s.rget .RX_PRBS p != 0 then addFree .PRBS_ERRORS p s else if s.codeCounts p then addFree .CODE_ERRORS p s else s
    .ok (if v != 0 then (loseCode p 5 s).rset .RX_PRBS p v else s.rset .RX_PRBS p v))

/-- RX_PRBS_WRITE. -/
def execRxPrbsWrite (w : Route) (port v : Nat) (s : State) : Host.Outcome State Fault Refusal :=
  write w .RX_PRBS port v (hRxPrbs port) s

/-- DL_PRBS (R101): non-zero only while MASK is in force. -/
def hDlPrbs (p : Nat) : Handler := Handler.doing (fun v s =>
  if v != 0 && s.fget .MASK p = 0 then .error 6 else .ok (s.rset .DL_PRBS p v))

/-- DL_PRBS_WRITE. -/
def execDlPrbsWrite (w : Route) (port v : Nat) (s : State) : Host.Outcome State Fault Refusal :=
  write w .DL_PRBS port v (hDlPrbs port) s

/-- A command code that only the decision path issues, or that is never sent (R97). -/
def reservedCommand (v : Nat) : Bool := v % 16 == 1 || v % 16 == 2 || v % 16 == 15

/-- DL_CMD (R97). -/
def hDlCmd (p : Nat) : Handler :=
  { range := fun v _ => !reservedCommand v, act := fun v s => .ok (s.rset .DL_CMD p v) }

/-- DL_CMD_WRITE. -/
def execDlCmdWrite (w : Route) (port v : Nat) (s : State) : Host.Outcome State Fault Refusal :=
  write w .DL_CMD port v (hDlCmd port) s


/-- The crossing that an MT operand names; all ones name the second crossing after the write (R100, R378). -/
def State.namedCrossing (s : State) (v : Nat) : Nat := if v = allOnes64 then s.crossing + 2 else s.crossingOf v

/-- DL_SEND (R100): refused with 0x04 less than 2 crossings ahead, with 0x06 while a send is pending. -/
def hDlSend (p : Nat) : Handler :=
  { range := fun v s => Nat.ble (s.crossing + 2) (s.namedCrossing v)
    act := fun v s =>
      if (s.port p).sendAt.isSome then .error 6
      else .ok ((s.setPort p { s.port p with sendAt := some (s.namedCrossing v) }).rset .DL_SEND_STATUS p 1) }

/-- DL_SEND. -/
def execDlSend (w : Route) (port v : Nat) (s : State) : Host.Outcome State Fault Refusal :=
  write w .DL_SEND port v (hDlSend port) s

end Sys2Proof.Machine
end

