-- ==== Sys2Proof/Machine/Rings.lean ====
section
/-! DEFINITION. The Crossing Store ring (R112 to R121): geometry, recording, stripes, reading by crossing, and its enable. -/

namespace Sys2Proof.Machine

/-! Geometry (R112). -/

/-- The ports of a group. -/
def groupPorts (q : Nat) : List Nat := (List.range 16).map (fun i => 16 * q + i)

/-- E, the words of an entry: the largest need of the group's ports, made even and at least 2. -/
def State.entrySize (s : State) (q : Nat) : Nat :=
  let m := listMax ((groupPorts q).map (fun p => ceilDiv (s.rget .RX_MULT p) 64)) 2
  m + m % 2

/-- z, the rows of a record of E-word entries. -/
def recordRows (e : Nat) : Nat := 16 * (e / 2)

/-- K, the records of a stripe of N banks. -/
def stripeRecords (n e : Nat) : Nat := 256 * n / recordRows e

/-- A stripe holds a retired page in a ring bank (R118): page s of some bank of the ring. -/
def State.stripeRetired (s : State) (q first n stripe : Nat) : Bool :=
  s.retiredPages.any (fun p => p % 64 == stripe && p / 64 / 64 == q && Nat.ble first (p / 64 % 64)
    && Nat.blt (p / 64 % 64) (first + n))

/-- The stripes with no retired page. -/
def State.soundStripes (s : State) (q : Nat) : List Nat :=
  let r := s.ring q
  (List.range 64).filter (fun t => !s.stripeRetired q r.first r.banks t)

/-- A, the largest ALIGN_LAT over the group (R115). -/
def State.maxLat (s : State) (q : Nat) : Nat := listMax ((groupPorts q).map (fun p => s.rget .ALIGN_LAT p)) 0

/-- RING_STRIPES and RING_DEPTH as the stripes in service give them. -/
def setDepth (q : Nat) (s : State) : State :=
  let u := 64 - (s.ring q).out.length
  (s.rset .RING_STRIPES q u).rset .RING_DEPTH q (s.rget .RING_K q * u)

/-! Recording (R115 to R119). -/

/-- A stripe passed over at its opening (R118): its crossings expire, D falls by K, and a WARNING record names the
Quarter, the stripe and the new D. -/
def skipStripe (q t : Nat) (s : State) : State :=
  let r := s.ring q
  let s := s.setRing q { r with stripes := mdel r.stripes t }
  if r.out.contains t then s
  else
    let s := setDepth q (s.setRing q { s.ring q with out := r.out ++ [t] })
    s.raise sevWarning 0x0601 q (leBytes 1 q ++ leBytes 1 t ++ leBytes 4 (s.rget .RING_DEPTH q))

/-- The next stripe that can be opened after a place, those with retired pages passed over, within a number of tries. -/
def seekStripe (q : Nat) : Nat → Nat → State → Option Nat × State
  | 0, _, s => (none, s)
  | n + 1, t, s =>
    let r := s.ring q
    if s.stripeRetired q r.first r.banks (t % 64) then seekStripe q n (t + 1) (skipStripe q (t % 64) s)
    else (some (t % 64), setDepth q (s.setRing q { r with out := r.out.filter (· != t % 64) }))

/-- A depth at which the ring cannot record (R119): no stripe in service, or D at most A + 1. -/
def State.tooShallow (s : State) (q stripes : Nat) : Bool :=
  stripes == 0 || Nat.ble (s.rget .RING_K q * stripes) (s.maxLat q + 1)

/-- A stripe opened for a crossing (R115). -/
def openStripe (q t c : Nat) (s : State) : State :=
  let r := s.ring q
  let old := match r.cur with
    | some _ => mget r.stripes t { base := 0, fill := 0 }
    | none => { base := 0, fill := 0 }
  s.setRing q { r with cur := some t, prevBase := old.base, prevFill := old.fill, stepped := false
                       stripes := mput r.stripes t { base := c, fill := 1 } }

/-- The ring becomes STARVED with a crossing not allocated (R119). -/
def starve (q c : Nat) (s : State) : State :=
  ((s.setRing q { s.ring q with starvedFrom := some c }).rset .RING_STATE q 3).raise sevError 0x0602 q (leBytes 1 q)

/-- The record for a crossing allocated (R115, R116, R119): the next record of the stripe under write, or the first of the
next stripe in service after an MT step or when the stripe is full. -/
def allocate (q c : Nat) (s : State) : State :=
  let r := s.ring q
  let k := s.rget .RING_K q
  let go (from_ : Nat) : State :=
    let f := seekStripe q 64 from_ s
    let u := 64 - (f.2.ring q).out.length
    match f.1 with
    | none => starve q c f.2
    | some t => if f.2.tooShallow q u then starve q c f.2 else openStripe q t c f.2
  match r.cur with
  | none => go 0
  | some t =>
    let st := mget r.stripes t { base := 0, fill := 0 }
    if r.stepped || Nat.ble k st.fill then go (t + 1)
    else s.setRing q { r with stripes := mput r.stripes t { st with fill := st.fill + 1 } }

/-- STARVED judged afresh at a crossing (R119): U and D over every stripe as RING_STRIPES and RING_DEPTH, and the span goes
on, or ends with the crossing before and the next stripe opened; a stripe newly out of service is skipped as R118 says. -/
def judgeStarved (q c : Nat) (s : State) : State :=
  let sound := s.soundStripes q
  let s := (s.rset .RING_STRIPES q sound.length).rset .RING_DEPTH q (s.rget .RING_K q * sound.length)
  if s.tooShallow q sound.length then s
  else
    let r := s.ring q
    let from_ := match r.cur with | some t => t + 1 | none => 0
    let span := match r.starvedFrom with | some f => [(f, c - 1)] | none => []
    let unsound := (List.range 64).filter (fun t => !sound.contains t)
    let r' : Ring := { r with starvedFrom := none, spans := (span ++ r.spans).take 8
                              out := r.out.filter (fun t => unsound.contains t) }
    let s := (s.setRing q r').rset .RING_STATE q 2
    let s := (unsound.filter (fun t => !r'.out.contains t)).foldl (fun a t => skipStripe q t a) (setDepth q s)
    let f := seekStripe q 64 from_ s
    match f.1 with
    | some t => openStripe q t c f.2
    | none => f.2

/-- The writer at phase 0 of crossing t (R115): the record for crossing t - 1 allocated, or STARVED judged. -/
def ringWriter (q t : Nat) (s : State) : State :=
  let r := s.ring q
  if t = 0 || Nat.blt (t - 1) r.start then s
  else if s.rget .RING_STATE q = 2 then allocate q (t - 1) s
  else if s.rget .RING_STATE q = 3 then judgeStarved q (t - 1) s
  else s

/-- The record that holds a crossing in a listed stripe: stripe and record number. -/
def findRecord (c : Nat) : SMap Stripe → Option (Nat × Nat)
  | [] => none
  | (t, st) :: m => if Nat.ble st.base c && Nat.blt c (st.base + st.fill) then some (t, c - st.base) else findRecord c m

/-- The place of an entry's row (R113): logical bank and bank row. -/
def State.ringRow (s : State) (q stripe rec_ i w : Nat) : Nat × Nat :=
  let r := s.ring q
  let e := s.rget .RING_WORDS q
  let rho := rec_ * recordRows e + i * (e / 2) + w
  (64 * q + r.first + rho % r.banks, 256 * stripe + rho / r.banks)

/-- The rows of an entry of E words, zero words filled in (R112, R113). -/
def entryRows : List (BitVec 64) → List (BitVec 128)
  | a :: b :: l => (b ++ a) :: entryRows l
  | [a] => [(0#64) ++ a]
  | [] => []

/-- Store writes queued at the banks that hold an entry's rows (R107, R113). -/
def storeRows (q stripe rec_ i : Nat) : Nat → List (BitVec 128) → State → State
  | _, [], s => s
  | w, d :: ds, s =>
    let a := s.ringRow q stripe rec_ i w
    let b := s.bank a.1
    storeRows q stripe rec_ i (w + 1) ds (s.setBank a.1 { b with stores := b.stores ++ [(a.2, d)] })

/-- A port's entry for a crossing stored in its record, or dropped where the ring holds none for it (R115, R119). -/
def storeEntry (p c : Nat) (words : List (BitVec 64)) (s : State) : State :=
  let q := p / 16
  if s.rget .RING_STATE q = 2 then
    match findRecord c (s.ring q).stripes with
    | some (t, j) => storeRows q t j (p % 16) 0 (entryRows (padWords (s.rget .RING_WORDS q) words)) s
    | none => s
  else s

/-- An UNRECORDED entry's words (R117): STATUS 8 and EXP_TAG. -/
def State.unrecorded (s : State) (p c : Nat) : List (BitVec 64) := [storedHeader 0 (s.expectedTag p c) 8]

/-- The oldest store write of a bank performed (R107): a full write of the row; none while the bank is not AWAKE (R123). -/
def retireStore (n : Nat) (s : State) : State :=
  let b := s.bank n
  match b.stores with
  | [] => s
  | (row, d) :: rest =>
    if !s.isAwake n then s
    else (writeRow n row 0 0xFF d 0xFFFF (s.setBank n { b with stores := rest })).2

/-- Every pending store write of a bank performed. -/
def retireStores (n : Nat) : Nat → State → State
  | 0, s => s
  | k + 1, s => retireStores n k (retireStore n s)

/-- Every store write pending at a crossing's end has been performed within the crossing (R114, R115), but on a bank that is
not AWAKE. -/
def flushStores (s : State) : State :=
  (s.banks.map (fun p => (p.1, p.2.stores.length))).foldl (fun t p => retireStores p.1 p.2 t) s

/-! Reading by crossing (R120). -/

/-- How a crossing resolves. -/
inductive Resolved
  | present (stripe record : Nat)
  | status (t : Nat)
deriving DecidableEq, Repr

/-- A value lies in one of a list of spans. -/
def inSpans (c : Nat) (l : List (Nat × Nat)) : Bool := l.any (fun p => Nat.ble p.1 c && Nat.ble c p.2)

/-- The resolution of a crossing at the present crossing (R120). -/
def State.resolve (s : State) (q c : Nat) : Resolved :=
  let r := s.ring q
  let st := s.rget .RING_STATE q
  if st < 2 then .status 4
  else if Nat.blt s.crossing (c + s.maxLat q + 1) then .status 1
  else match findRecord c (r.stripes.filter (fun p => !r.out.contains p.1)) with
    | some (t, j) => .present t j
    | none =>
      match r.cur with
      | some t =>
        let fill := (mget r.stripes t { base := 0, fill := 0 }).fill
        if Nat.ble (r.prevBase + fill) c && Nat.blt c (r.prevBase + r.prevFill) then .present t (c - r.prevBase)
        else if inSpans c r.steps then .status 3
        else if inSpans c r.spans || (match r.starvedFrom with | some f => Nat.ble f c | none => false) then .status 5
        else .status 2
      | none =>
        if inSpans c r.steps then .status 3
        else if inSpans c r.spans || (match r.starvedFrom with | some f => Nat.ble f c | none => false) then .status 5
        else .status 2

/-- The runs of crossings that the ring holds, each first and last: its stripes in service, and what the stripe under write
still holds from before (R115, R120). -/
def State.ringRuns (s : State) (q : Nat) : List (Nat × Nat) :=
  let r := s.ring q
  let runs := (r.stripes.filter (fun p => Nat.blt 0 p.2.fill && !r.out.contains p.1)).map
    (fun p => (p.2.base, p.2.base + p.2.fill - 1))
  match r.cur with
  | some t =>
    let fill := (mget r.stripes t { base := 0, fill := 0 }).fill
    if Nat.blt fill r.prevFill then (r.prevBase + fill, r.prevBase + r.prevFill - 1) :: runs else runs
  | none => runs

/-- The oldest crossing held, complete or not (R130): none where the ring holds no crossing. -/
def State.oldestHeld (s : State) (q : Nat) : Option Nat :=
  match s.ringRuns q with
  | [] => none
  | p :: l => some (listMin (l.map (·.1)) p.1)

/-- The newest crossing held that is complete (R115, R130): none where the ring holds no complete crossing. -/
def State.newestComplete (s : State) (q : Nat) : Option Nat :=
  let upTo := s.crossing - (s.maxLat q + 1)
  match (s.ringRuns q).filter (fun p => Nat.ble p.1 upTo && Nat.ble (s.maxLat q + 1) s.crossing) with
  | [] => none
  | p :: l => some (listMax (l.map (fun x => Nat.min x.2 upTo)) (Nat.min p.2 upTo))

/-! Enabling (R112, R114). -/

/-- The local banks of a geometry, as logical banks. -/
def geometryBanks (q first n : Nat) : List Nat := (List.range n).map (fun i => 64 * q + first + i)

/-- The abort with which a geometry is refused (R114), in the abort order of R354. -/
def State.ringRefusal (s : State) (q first n : Nat) : Option Nat :=
  let e := s.entrySize q
  let t := 1000000000 / s.rget .MCLK_NOMINAL
  let k := stripeRecords n e
  let bs := geometryBanks q first n
  if 64 < first + n || k < 1 || k * 64 < 128 || t < 4 * ceilDiv (recordRows e) n then some 4
  else if bs.any (fun b => (s.rflag .VAULT_ENABLE && inVaultPlace b) || s.isC0Write b
      || (!s.isRingBank b && (s.rget .HANDOVER b == 1 || s.inQueue b || s.inReserve b))) then some 6
  else none

/-- The ring's content discarded: every crossing it held is expired (R114, R120). -/
def discardRing (q : Nat) (s : State) : State :=
  let r := s.ring q
  s.setRing q { Ring.off with first := r.first, banks := r.banks }

/-- A ring enabled, afresh or anew (R112, R114, R115): the sizes set, the banks it adds handed to owner 0x80, recording
waiting for its boundary. -/
def enableRing (q first n : Nat) (s : State) : State :=
  let e := s.entrySize q
  let added := (geometryBanks q first n).filter (fun b => !s.isRingBank b)
  let s := s.setRing q { Ring.off with first, banks := n }
  let s := (((s.rset .RING_ENABLE q 1).rset .RING_WORDS q e).rset .RING_K q (stripeRecords n e)).rset .RING_STATE q 1
  let s := s.setRing q { s.ring q with out := (List.range 64).filter (fun t => s.stripeRetired q first n t) }
  setDepth q (added.foldl (fun t b => startHandover b 0x80 t) s)

/-- The ring turned off. -/
def disableRing (q : Nat) (s : State) : State :=
  s.setRing q Ring.off |>.rset .RING_ENABLE q 0 |>.rset .RING_STATE q 0 |>.rset .RING_WORDS q 0 |>.rset .RING_K q 0
    |>.rset .RING_STRIPES q 0 |>.rset .RING_DEPTH q 0

/-- RING_ENABLE (R114). -/
def hRingEnable (q : Nat) : Handler :=
  Handler.doing (fun v s =>
    if v = 0 then .ok (disableRing q s)
    else match s.ringRefusal q (s.rget .RING_FIRST q) (s.rget .RING_BANKS q) with
      | some c => .error c
      | none => .ok (enableRing q (s.rget .RING_FIRST q) (s.rget .RING_BANKS q) s))

/-- RING_ENABLE_WRITE. -/
def execRingEnableWrite (w : Route) (quarter v : Nat) (s : State) : Host.Outcome State Fault Refusal :=
  write w .RING_ENABLE quarter v (hRingEnable quarter) s

/-- The element of a ring geometry write. -/
def ringGeometryEl : RingGeometry → El
  | .first => .RING_FIRST
  | .banks => .RING_BANKS

/-- RING_FIRST or RING_BANKS (R114): while enabled, judged by the geometry it would give and taken as a fresh enable. -/
def hRingGeometry (e : RingGeometry) (q : Nat) : Handler :=
  Handler.doing (fun v s =>
    let first := match e with | .first => v | .banks => s.rget .RING_FIRST q
    let n := match e with | .first => s.rget .RING_BANKS q | .banks => v
    if s.rflag .RING_ENABLE q then
      match s.ringRefusal q first n with
      | some c => .error c
      | none => .ok ((enableRing q first n s).rset (ringGeometryEl e) q v)
    else .ok ((discardRing q s).rset (ringGeometryEl e) q v))

/-- RING_GEOMETRY_WRITE. -/
def execRingGeometryWrite (w : Route) (e : RingGeometry) (quarter v : Nat) (s : State) :
    Host.Outcome State Fault Refusal := write w (ringGeometryEl e) quarter v (hRingGeometry e quarter) s

/-- The ring's start at an orbit boundary at which the time base is ALIGNED (R115). -/
def startRing (q : Nat) (s : State) : State :=
  if s.rget .RING_STATE q = 1 then
    (s.setRing q { s.ring q with start := s.crossing }).rset .RING_STATE q 2
  else s

/-- A ring whose time base was reset to NO_CLOCK: recording stops, the content is discarded, and an enabled ring waits for
its boundary again (R117). -/
def resetRing (q : Nat) (s : State) : State :=
  if s.rget .RING_STATE q = 0 then s
  else
    let r := s.ring q
    (setDepth q (s.setRing q { Ring.off with first := r.first, banks := r.banks, out := r.out })).rset .RING_STATE q 1

/-- An MT step kept by an enabled ring, recording or not, and a new stripe asked for (R117, R120). -/
def stepRing (first last q : Nat) (s : State) : State :=
  let r := s.ring q
  if s.rget .RING_STATE q = 0 then s
  else s.setRing q { r with stepped := true, steps := ((first, last) :: r.steps).take 8 }

/-- The Quarters whose ring is enabled. -/
def State.ringQuarters (s : State) : List Nat := s.unitsSet .RING_ENABLE

end Sys2Proof.Machine
end

