-- ==== Sys2Proof/Machine/Banks.lean ====
section
/-! DEFINITION. Requests on the banks (R11, R105 to R125, R159 to R163): offering, arbitration, answers, ownership, and the
power states. -/

namespace Sys2Proof.Machine

/-! The District as a requester. -/

/-- A plane that its District can run on (R138, R179): LOADED or REPAIR, or LOADING before its first frame is written. -/
def State.runsOn (s : State) (plane : Nat) : Bool :=
  let p := s.plane plane
  p.state == 2 || p.state == 3 || (p.state == 1 && p.untouched)

/-- A District's clock enable is on (R138): released, its current plane loaded, neither frozen nor stopped, and the fabric
not held by a clock loss. -/
def State.clocked (s : State) (d : Nat) : Bool :=
  let x := s.dist d
  x.released && !x.frozen && !x.stopped && !(s.lossHeld && s.dev == .hold) && s.fabricOn
    && s.runsOn (8 * d + x.ctx)

/-- An answer with an error code and no data. -/
def errorAnswer (tag errc : Nat) : Answer := { tag, data := 0, errc, tstatus := 0 }

/-- An answer on the bus of a request's class: the fixed bus for C0, the ordered bus in issue order for the others (R160). -/
def answerClass (key cls : Nat) (a : Answer) (s : State) : State :=
  if cls = 0 then answerFixedNow key a s
  else
    let i := issue key s
    answerLane key i.1 a i.2

/-- The requests of one requester that wait at a bank. -/
def BankPort.of (b : BankPort) (r : Requester) : List Waiting := b.waiting.filter (fun w => w.src == r)

/-- A request put at a bank (R105): C0 straight to arbitration, with its place on the fixed bus, others numbered in issue
order. -/
def enqueue (n : Nat) (r : Requester) (q : MemRequest) (tag : Nat) (s : State) : State :=
  let key := laneKey n r
  let i := if q.cls = 0 then issueFixed key s else issue key s
  let b := i.2.bank n
  i.2.setBank n { b with waiting := b.waiting ++ [{ src := r, req := q, order := i.1, tag, losses := 0 }] }

/-- The requests a channel holds in its queue, over every bank (R159, R162, R163). -/
def State.queued (s : State) (p : Requester → Bool) : Nat :=
  (s.banks.map (fun b => (b.2.waiting.filter (fun w => p w.src && w.req.cls != 0)).length)).foldl (· + ·) 0

/-- Write data held off while a District's write enables are held (R179). -/
def State.heldEnables (s : State) (d : Nat) (be : BitVec 16) : BitVec 16 := if (s.dist d).weHeld then 0 else be

/-- The WARNING record of a malformed or unscheduled C0 request (R121, R161, R162): District, bank, MT. -/
def badRequest (d n : Nat) (s : State) : State :=
  s.raise sevWarning 0x0404 d (leBytes 1 d ++ leBytes 2 n ++ leBytes 8 s.mt)

/-- Every bank of a Quarter's ring is in a District's C0 schedule (R122, R163). -/
def State.ringScheduled (s : State) (d : Nat) : Bool :=
  let q := d / 2
  (geometryBanks q (s.ring q).first (s.ring q).banks).all (fun n => s.schedulesC0 d n)

/-- A District's schedule gives it a C0 request on a bank of its Quarter (R122): a write where it names the bank for writes, a
read where it names the bank, and of a ring bank every bank of the ring; never two Districts on one bank (R12): where the active
contexts of both schedule it, the one that C0_HOLDER shows. -/
def State.permitsC0 (s : State) (d n : Nat) (isWrite : Bool) : Bool :=
  s.schedulesC0 d n && s.c0Holder n == d && (!isWrite || s.schedulesC0Write d n) && (isWrite || !s.isRingBank n || s.ringScheduled d)

/-- LOCAL_REQUEST: an ordinary request on a local channel (R159 to R161, R163); nothing is accepted into a full queue. -/
def execLocalRequest (district bank : Nat) (word : BitVec 32) (data : BitVec 128) (enables : BitVec 16) (s : State) :
    Host.Outcome State Fault Refusal :=
  let w := word.toNat
  let b := bank % 64
  let n := 64 * (district / 2) + b
  let r : Requester := .district district b
  let key := laneKey n r
  let cls := bitsOf w 27 26
  if !s.clocked district || (cls != 0 && Nat.ble 8 (s.queued (· == r))) then .next s
  else if bitOf w 25 || bitsOf w 24 15 != 0 || bitsOf w 31 28 != 0 then
    .next (answerClass key cls (errorAnswer 0 3) s)
  else
    let q : MemRequest := { write := bitOf w 14, cls, row := bitsOf w 13 0, data
                            enables := s.heldEnables district enables }
    if cls = 0 && !s.permitsC0 district n q.write then .next (badRequest district n (answerFixedNow key (errorAnswer 0 3) s))
    else .next (enqueue n r q 0 s)

/-- The channel number of a District's store channel. -/
def storeChannel : Nat := 64

/-- A time-addressed request's answer without a bank access: zero data with TSTATUS (R120, R163). -/
def statusAnswer (t : Nat) : Answer := { tag := 0, data := 0, errc := 0, tstatus := t }

/-- e, the rows of an entry (R113): as the enabled ring has them, or as the settings would give them to a ring enabled now. -/
def State.entryRowsOf (s : State) (q : Nat) : Nat :=
  (if s.rget .RING_WORDS q = 0 then s.entrySize q else s.rget .RING_WORDS q) / 2

/-- STORE_CHANNEL_REQUEST: a time-addressed request of a District (R120, R121, R163). -/
def execStoreChannelRequest (district : Nat) (word : BitVec 32) (s : State) : Host.Outcome State Fault Refusal :=
  let w := word.toNat
  let q := district / 2
  let r : Requester := .district district storeChannel
  let key := laneKey 0 r
  let cls := bitsOf w 27 26
  let row := bitsOf w 8 4
  let back := bitsOf w 24 9
  if !s.clocked district then .next s
  else if cls != 0 && Nat.ble 8 (s.queued (· == r)) then .next s
  else if !bitOf w 25 then .next (answerClass key cls (errorAnswer 0 3) s)
  else if Nat.ble (s.entryRowsOf q) row || back = 0 || bitsOf w 31 28 != 0 then
    .next (badRequest district 0xFFFF (answerClass key cls (errorAnswer 0 3) s))
  else if s.rget .RING_STATE q < 2 then .next (answerClass key cls (statusAnswer 4) s)
  else if cls = 0 && !s.ringScheduled district then
    .next (badRequest district 0xFFFF (answerFixedNow key (errorAnswer 0 3) s))
  else match s.resolve q (s.crossing - back) with
    | .status t => .next (answerClass key cls (statusAnswer t) s)
    | .present t j =>
      let a := s.ringRow q t j (bitsOf w 3 0) row
      .next (enqueue a.1 r { write := false, cls, row := a.2, data := 0, enables := 0 } 0 s)

/-- The word at which the service core's request is faulted before it leaves (R381); no other requester has one. -/
def State.plazaFault (s : State) (src : Master) (n : Nat) (w : Nat) (enables : BitVec 16) : Option Nat :=
  match src with
  | .core machine => s.refusedWord machine (bitOf w 26) n (bitsOf w 13 0) enables
  | _ => none

/-- The class of a request over the Plaza: the service core's is that of BUS_CLASS (R383), any other's its word's (R162). -/
def State.plazaClass (s : State) (src : Master) (w : Nat) : Nat :=
  match src with
  | .core _ => s.coreClass
  | _ => bitsOf w 28 27

/-- A request of the service core is an instruction that its firmware has executed (R390). -/
def notedRan (src : Master) (s : State) : State :=
  match src with
  | .core _ => s.ran
  | _ => s

/-- PLAZA_REQUEST: a request over the Plaza in the layout of R162; C0 is refused with ERRC 3 and does not travel. -/
def execPlazaRequest (src : Master) (word : BitVec 40) (data : BitVec 128) (enables : BitVec 16) (s : State) :
    Host.Outcome State Fault Refusal :=
  let w := word.toNat
  let s := notedRan src s
  let n := bitsOf w 25 14
  let cls := s.plazaClass src w
  let tag := bitsOf w 34 29
  let r : Requester := .plaza src
  let key := laneKey n r
  let on := match src with | .district d => s.clocked d | _ => true
  let be := match src with | .district d => s.heldEnables d enables | _ => enables
  let full := match src with | .district _ => Nat.ble 32 (s.queued (· == r)) | _ => false
  if !on || full then .next s
  else if bitsOf w 39 35 != 0 then .next (answerClass key 1 (errorAnswer tag 3) s)
  else if cls = 0 then
    let s := answerClass key 1 (errorAnswer tag 3) s
    .next (match src with | .district d => badRequest d n s | _ => s)
  else match s.plazaFault src n w enables with
    | some a => .next (accessFault (bitOf w 26) a s)
    | none => .next (enqueue n r { write := bitOf w 26, cls, row := bitsOf w 13 0, data, enables := be } tag s)

/-! Arbitration (R11, R106, R107). -/

/-- The losses in a row after which a request is aged (R11). -/
def agedLosses : Nat := 64

/-- The requests of a list that stand at the head of their channel, in order of arrival: every C0 request, which no queue
holds (R159), and the first of the others in each lane of answers (R34, R160). -/
def heads (n : Nat) : List Waiting → List Nat → List Waiting
  | [], _ => []
  | w :: ws, seen =>
    if w.req.cls == 0 then w :: heads n ws seen
    else if seen.contains (laneKey n w.src) then heads n ws seen
    else w :: heads n ws (laneKey n w.src :: seen)

/-- One request goes before another: the lower class, then the lower requester index, then the earlier. -/
def beats (n : Nat) (a b : Waiting) : Bool :=
  let ia := (requesterIndex n trunkHome a.src).1
  let ib := (requesterIndex n trunkHome b.src).1
  Nat.blt a.req.cls b.req.cls || (a.req.cls == b.req.cls && Nat.ble ia ib)

/-- One aged request goes before another: the lower requester index, then the earlier (R106). -/
def agedBeats (n : Nat) (a b : Waiting) : Bool :=
  Nat.ble (requesterIndex n trunkHome a.src).1 (requesterIndex n trunkHome b.src).1

/-- The best of a list by an order that keeps the earlier on a tie. -/
def bestOf (lt : Waiting → Waiting → Bool) : List Waiting → Option Waiting
  | [] => none
  | w :: ws => match bestOf lt ws with
    | none => some w
    | some v => if lt w v then some w else some v

/-- The request granted in a memory cycle (R11): C0 before all; then an aged request; then by class and index. -/
def winner (n : Nat) (cs : List Waiting) : Option Waiting :=
  match bestOf (beats n) (cs.filter (fun w => w.req.cls == 0)) with
  | some w => some w
  | none =>
    match bestOf (agedBeats n) (cs.filter (fun w => Nat.ble agedLosses w.losses)) with
    | some w => some w
    | none => bestOf (beats n) cs

/-- A local requester of a bank, not one that enters through the Plaza (R105). -/
def Requester.isLocal : Requester → Bool
  | .district _ _ => true
  | .extraction _ => true
  | .plaza _ => false
  | .scrubber => true
  | .bist => true

/-- A granted request performed (R110, R125, R291, R299): refused, read or written, and answered; a bank's memory cycle is
named where BANK_ARBITRATION named it. A row of which one word has an error returns each word as R291 gives it to a local
requester (R120, R160), and a plain error answer over the Plaza (R34). -/
def perform (n : Nat) (cycle : Option Nat) (w : Waiting) (s : State) : State :=
  let ix := requesterIndex n trunkHome w.src
  if w.req.cls = 0 && !s.isAwake n then
    let d := ownerOf w.src
    ((answerRequest n w (errorAnswer w.tag 1) s).rinc .C0_ASLEEP n).raise sevError 0x0503 n
      (leBytes 2 n ++ leBytes 1 d ++ leBytes 8 s.mt)
  else if !s.mayAccess n w.src w.req.write then
    denied n w.src (answerRequest n w (errorAnswer w.tag 2) s)
  else if w.req.write then
    let be := w.req.enables.toNat
    let r := if w.src.isLocal then writeRow n w.req.row ix.1 ix.2 w.req.data be (keepPrior n w.req.row cycle s)
      else plazaWriteRow n w.req.row ix.1 ix.2 w.req.data be s
    answerRequest n w (errorAnswer w.tag (if r.1 then 1 else 0)) r.2
  else
    let f := foundWords n w.req.row cycle s
    let r := readRowAs f.1.1 f.1.2 n w.req.row ix.1 ix.2 f.2
    answerRequest n w { tag := w.tag, data := if r.1.2 && !w.src.isLocal then 0 else r.1.1, errc := if r.1.2 then 1 else 0
                        tstatus := 0 } r.2

/-- The waiting list without its first entry equal to a request, the other competitors one loss on (R11, R106). -/
def afterGrant (w : Waiting) (cs : List Waiting) : List Waiting → List Waiting
  | [] => []
  | v :: vs =>
    if v == w then vs.map (fun x => if cs.contains x then { x with losses := x.losses + 1 } else x)
    else (if cs.contains v then { v with losses := v.losses + 1 } else v) :: afterGrant w cs vs

/-- The granted request leaves the list, the losers count, an aged grant counts in AGED, and the request is performed. -/
def grant (n : Nat) (cycle : Option Nat) (w : Waiting) (cs : List Waiting) (s : State) : State :=
  let b := s.bank n
  let aged := w.req.cls != 0 && Nat.ble agedLosses w.losses
  let b' : BankPort := { b with waiting := afterGrant w cs b.waiting
                                stalled := if b.stalledOnes.contains w then b.stalled - 1 else b.stalled }
  let s := s.setBank n b'
  perform n cycle w (if aged then s.rinc .AGED n else s)

/-- The requests of a list that compete in a memory cycle of a bank: those at the head of their channel, none that waits for a
handover, and of classes C1 to C3 only on an AWAKE bank outside an invalidation and in a cycle the throttle leaves them (R111,
R123, R293, R464). -/
def State.competing (s : State) (n cycle : Nat) (ws : List Waiting) : List Waiting :=
  (heads n ws []).filter (fun w =>
    !s.awaitsHandover n w.src
    && (w.req.cls == 0 || (s.isAwake n && s.rget .INV_STATE n == 0 && Nat.ble (s.rget .THROTTLE_F) (cycle % 256))))

/-- The waiting requests that compete in a memory cycle of a bank. -/
def State.competitors (s : State) (n cycle : Nat) : List Waiting := s.competing n cycle (s.bank n).waiting

/-- An engine's own access as a request at a bank (R105). -/
def engineRequest (r : Requester) (cls : Nat) : Waiting :=
  { src := r, req := { write := false, cls, row := 0, data := 0, enables := 0 }, order := 0, tag := 0, losses := 0 }

/-- Memory cycles of a bank that go to waiting requests before an engine's access wins one (R11, R34, R105), at most a number
of them; the competitors that lose to it count the loss. -/
def engineCycles (n : Nat) : Nat → Waiting → State → State
  | 0, _, s => s
  | k + 1, me, s =>
    let b := s.bank n
    let cs := s.competing n 255 (b.waiting ++ [me])
    match winner n cs with
    | some w =>
      if w == me then
        let s := s.setBank n { b with waiting := b.waiting.map (fun x => if cs.contains x then { x with losses := x.losses + 1 } else x) }
        if Nat.ble agedLosses me.losses then s.rinc .AGED n else s
      else engineCycles n k { me with losses := me.losses + 1 } (grant n none w cs s)
    | none => s

/-- An engine's access takes its turn at a bank (R11, R105): the extraction unit, the queue engine, a data port or the debug
bus master, the configuration controller, the scrubber or BIST; requests that go before it are performed first. -/
def engineTurn (n : Nat) (r : Requester) (cls : Nat) (s : State) : State :=
  let ws := (s.bank n).waiting
  if ws = [] then s else engineCycles n (ws.length + 1) (engineRequest r cls) s

/-- The turns of an engine's accesses, one after another: their banks in order. -/
def engineTurns (r : Requester) (cls : Nat) (banks : List Nat) (s : State) : State :=
  banks.foldl (fun t n => engineTurn n r cls t) s

/-- A C1 to C3 access that found the bank RETAINED starts its wake and stalls (R123). -/
def wakeOnAccess (n : Nat) (s : State) : State :=
  let b := s.bank n
  if s.rget .POWER_STATE n = 1 && b.waiting.any (fun w => w.req.cls != 0 && !s.awaitsHandover n w.src) then
    (s.rset .POWER_STATE n 2).rinc .WAKE_ON_ACCESS n
  else s

/-- BANK_ARBITRATION: one memory cycle of a bank, named by its count (R11, R107). -/
def execBankArbitration (bank cycle : Nat) (s : State) : Host.Outcome State Fault Refusal :=
  let s := wakeOnAccess bank s
  if s.isRingBank bank && cycle % 4 == bank % 4 && (s.bank bank).stores != [] && s.isAwake bank then
    .next (retireStore bank s)
  else
    let cs := s.competitors bank cycle
    match winner bank cs with
    | some w => .next (grant bank (some cycle) w cs s)
    | none => .next s

/-! Answers. -/

/-- FIXED_RESPONSE: the answer of the oldest C0 request on the fixed bus in its cycle (R160), once its bank has given it; for
a District that is not clocked it is discarded (R138). -/
def execFixedResponse (district chan : Nat) (s : State) : Host.Outcome State Fault Refusal :=
  let key := district * 128 + chan
  let f := mget s.fixed key FixedBus.idle
  match f.wait with
  | (_, some a) :: rest =>
    let bus := if s.clocked district then some a else f.bus
    .next { s with fixed := mset s.fixed key { f with wait := rest, bus } FixedBus.idle }
  | (_, none) :: _ => .next s
  | [] => .next s

/-- ORDERED_RESPONSE: the next answer in issue order; it waits while the District is not clocked (R138, R160). -/
def execOrderedResponse (district chan : Nat) (s : State) : Host.Outcome State Fault Refusal :=
  .next (if s.clocked district then deliver (district * 128 + chan) s else s)

/-- PLAZA_RESPONSE: the next answer of a requester at a bank (R34, R162). -/
def execPlazaResponse (src : Master) (bank : Nat) (s : State) : Host.Outcome State Fault Refusal :=
  let on := match src with | .district d => s.clocked d | _ => true
  .next (if on then deliver (laneKey bank (.plaza src)) s else s)

/-! Ownership and power. -/

/-- OWNER (R109, R111). -/
def hOwner (n : Nat) : Handler :=
  { allow := fun _ v s => s.ownerRefusal n v != some 3
    range := fun v s => s.ownerRefusal n v != some 4
    act := fun v s => match s.ownerRefusal n v with
      | some c => .error c
      | none => .ok (startHandover n v s) }

/-- OWNER_WRITE. -/
def execOwnerWrite (w : Route) (bank v : Nat) (s : State) : Host.Outcome State Fault Refusal :=
  write w .OWNER bank v (hOwner bank) s

/-- The new owner becomes active and an INFO record is written (R111). -/
def endHandover (n : Nat) (s : State) : State :=
  if s.rget .HANDOVER n = 1 then
    let old := s.rget .OWNER_ACTIVE n
    let new := s.rget .OWNER n
    ((s.rset .OWNER_ACTIVE n new).rset .HANDOVER n 0).raise sevInfo 0x0502 n
      (leBytes 2 n ++ leBytes 1 old ++ leBytes 1 new)
  else s

/-- HANDOVER_DRAIN_END. -/
def execHandoverDrainEnd (bank : Nat) (s : State) : Host.Outcome State Fault Refusal := .next (endHandover bank s)

/-- A wake started: a retained bank begins to wake; a waking or awake bank is left (R123). -/
def startWake (n : Nat) (s : State) : State := if s.rget .POWER_STATE n = 1 then s.rset .POWER_STATE n 2 else s

/-- A slice of a bank is under test (R405). -/
def State.sliceRuns (s : State) (n : Nat) : Bool := s.underTest n && s.bist.phase.isSome

/-- A sleep performed, or held until the wake in progress and its stalled accesses are done (R123), or until the slice in
progress ends (R407). -/
def startSleep (n : Nat) (s : State) : State :=
  match s.rget .POWER_STATE n with
  | 0 => if s.sliceRuns n then s.setBank n { s.bank n with sleepHeld := true } else s.rset .POWER_STATE n 1
  | 2 => s.setBank n { s.bank n with sleepHeld := true }
  | _ => s

/-- A bank that may not sleep (R68, R124): of a ring, scheduled for C0, of the Vault, or of the frame reserve (R327). -/
def State.mayNotSleep (s : State) (n : Nat) : Bool :=
  s.isRingBank n || s.isC0 n || s.isVaultBank n || s.inReserve n

/-- POWER (R123, R124); a write of 0 also takes back a sleep that is held. -/
def hPower (n : Nat) : Handler :=
  Handler.doing (fun v s =>
    if v = 0 then .ok (startWake n ((s.setBank n { s.bank n with sleepHeld := false }).rset .POWER n 0))
    else if s.mayNotSleep n then .error 6
    else .ok (startSleep n (s.rset .POWER n 1)))

/-- POWER_WRITE. -/
def execPowerWrite (w : Route) (bank v : Nat) (s : State) : Host.Outcome State Fault Refusal :=
  write w .POWER bank v (hPower bank) s

/-- The wake in progress of a bank completes: the bank is AWAKE, and the accesses that stalled proceed (R123). -/
def endWake (n : Nat) (s : State) : State :=
  if s.rget .POWER_STATE n = 2 then
    let b := s.bank n
    (s.rset .POWER_STATE n 0).setBank n { b with stalled := (b.waiting.filter (fun w => w.req.cls != 0)).length }
  else s

/-- BANK_WAKE_DONE. -/
def execBankWakeDone (bank : Nat) (s : State) : Host.Outcome State Fault Refusal := .next (endWake bank s)

/-- An access that finds a bank RETAINED starts its wake, and counts (R123). -/
def wakeForAccess (n : Nat) (s : State) : State :=
  if s.rget .POWER_STATE n = 1 then (startWake n s).rinc .WAKE_ON_ACCESS n else s

/-- Banks of C1 to C3 accesses are AWAKE and not under invalidation; a RETAINED one starts to wake, and the access stalls
(R123, R293). -/
def banksReady (banks : List Nat) (s : State) : Bool × State :=
  let banks := banks.eraseDups
  (banks.all (fun n => s.isAwake n && s.rget .INV_STATE n == 0), banks.foldl (fun t n => wakeForAccess n t) s)

/-- A held sleep performed, once the bank is AWAKE, no stalled access waits, and no slice is under test (R123, R407). -/
def fallAsleep (n : Nat) (s : State) : State :=
  let b := s.bank n
  if s.rget .POWER_STATE n = 0 && b.sleepHeld && b.stalled = 0 && !s.sliceRuns n then
    (s.setBank n { b with sleepHeld := false }).rset .POWER_STATE n 1
  else s

/-- DEFERRED_SLEEP. -/
def execDeferredSleep (bank : Nat) (s : State) : Host.Outcome State Fault Refusal := .next (fallAsleep bank s)

/-! Accesses that wait for a bank within their own command: the data ports, the debug bus master and the configuration
controller (R327, R350, R430). -/

/-- A handover to a requester that an access of it finds in progress ends first (R111). -/
def settleHandover (n : Nat) (r : Requester) (s : State) : State := if s.awaitsHandover n r then endHandover n s else s

/-- A permitted access waits for the end of an invalidation, for the bank's wake, and for its turn (R105, R123, R293). -/
def settleBank (n : Nat) (r : Requester) (cls : Nat) (s : State) : State :=
  let s := endInvalidation n s
  engineTurn n r cls (endWake n (wakeForAccess n s))

/-- The class of the debug bus master's accesses (R427), and of the data ports', which enter as it does: DEDUCED (entry
160). -/
def debugClass : Nat := 2

/-- READ_SHARE stores (R110). -/
def hReadShare (n : Nat) : Handler := Handler.store .READ_SHARE n

end Sys2Proof.Machine
end

