-- ==== Sys2Proof/Machine/Keeper.lean ====
section
/-! DEFINITION. The keeper (R392 to R397): sectors and wear, persistent values and counters, relocation into the reserve pool,
raw writes of the service core, and what BOOT reads. -/

namespace Sys2Proof.Machine

/-- The keeper changed. -/
def State.setKeeper (s : State) (k : Keeper) : State := { s with keeper := k }

/-- Sixty-four bytes as a sector. -/
def sectorOf (bs : Bytes) : BitVec 512 := BitVec.ofNat 512 (leVal (bs.take 64))

/-- The bytes of a sector. -/
def sectorBytes (v : BitVec 512) : Bytes := leBytes 64 v.toNat

/-- The writes after which a sector is read-only (R395). -/
def ratedWrites : Nat := 1000000000

/-- The writes of a sector so far (KP_WEAR). -/
def State.wearOf (s : State) (sector : Nat) : Nat := mget s.keeper.wear sector 0

/-- A sector has reached its rated count and is read-only (R395). -/
def State.worn (s : State) (sector : Nat) : Bool := Nat.ble ratedWrites (s.wearOf sector)

/-- KP_STATE (R372): 3 unreadable, else the worst that wear has brought. -/
def State.keeperState (s : State) (v : Nat) : State :=
  let v := if s.keeper.failed then 3 else v
  if s.rget .KP_STATE < v then latchIrq 12 (s.rset .KP_STATE 0 v) else s

/-- A sector's content; none where it reads uncorrectable (R392). -/
def State.sectorRead (s : State) (n : Nat) : Option (BitVec 512) :=
  if s.keeper.bad.contains n then none else some (mget s.keeper.sectors n 0)

/-- Uncorrectable reads among reads of sectors, counted (R392). -/
def countReads (ns : List Nat) (s : State) : State :=
  (ns.filter (fun n => s.keeper.bad.contains n)).foldl (fun t _ => t.rinc .KP_ERRORS) s

/-- A completed write of a sector (R385, R395): content, wear, source 12, and at the rated count the ERROR record. -/
def writeSector (sector : Nat) (data : BitVec 512) (s : State) : State :=
  let n := Nat.min (s.wearOf sector + 1) 0xFFFFFFFF
  let k := s.keeper
  let s := latchIrq 12 (s.setKeeper { k with sectors := mset k.sectors sector data 0, wear := mset k.wear sector n 0
                                             bad := k.bad.filter (· != sector) })
  if n = ratedWrites then
    ((s.rinc .KP_WORN).keeperState 1).raise sevError 0x3804 2 (leBytes 4 sector)
  else s

/-! Values and counters (R393, R394, R396). -/

/-- The reserve pool's first sector and size (R392). -/
def poolFirst : Nat := 33984
def poolSize : Nat := 4096

/-- The sector that stands for a home sector now (R396). -/
def State.sectorFor (s : State) (home : Nat) : Nat := mget s.keeper.moved home home

/-- A value or counter sector's content (R393). -/
def valueSector (id len value home gen : Nat) : BitVec 512 :=
  let head := leBytes 4 id ++ leBytes 1 len ++ leBytes 3 0 ++ leBytes 32 value ++ leBytes 4 home ++ leBytes 12 0
    ++ leBytes 4 gen
  sectorOf (head ++ leBytes 4 (crc32c head))

/-- GEN of a sector (R393). -/
def sectorGen (v : BitVec 512) : Nat := bitsOf v.toNat 479 448

/-- VALUE of a sector (R393). -/
def sectorValue (v : BitVec 512) : Nat := bitsOf v.toNat 319 64

/-- LEN of a sector (R393). -/
def sectorLen (v : BitVec 512) : Nat := bitsOf v.toNat 39 32

/-- HOME of a sector (R393). -/
def sectorHome (v : BitVec 512) : Nat := bitsOf v.toNat 351 320

/-- A sector's CRC is good (R393). -/
def sectorOk (v : BitVec 512) : Bool := bitsOf v.toNat 511 480 == crc32c (leBytes 60 v.toNat)

/-- A sector that is read and whose CRC passes. -/
def State.sectorGood (s : State) (n : Nat) : Bool := (s.sectorRead n).any sectorOk

/-- The lowest free sector of the reserve pool (R396). -/
def State.freePool (s : State) : Option Nat :=
  ((List.range (s.keeper.taken.length + 1)).map (fun i => poolFirst + i)).find? (fun p =>
    !s.keeper.taken.contains p && Nat.blt p (poolFirst + poolSize))

/-- A worn value or counter sector's content copied into the pool (R396); KP_STATE 2 where no free sector remains. -/
def relocate (home id len value gen : Nat) (s : State) : State :=
  match s.freePool with
  | none => s.keeperState 2
  | some p =>
    let k := s.keeper
    let s := (s.setKeeper { k with moved := mput k.moved home p, taken := k.taken ++ [p] }).rset .KP_RESERVE_FREE 0
      (poolSize - (k.taken.length + 1))
    let s := writeSector p (valueSector id len value home (gen + 1)) s
    if s.freePool.isNone then s.keeperState 2 else s

/-- A value or counter written to its home's sector (R393, R395, R396): refused with 0x06 while the keeper cannot be read,
with 0x07 where the sector is worn and no pool sector took its place. -/
def writeValue (home id len value : Nat) (s : State) : Except Nat State :=
  let sec := s.sectorFor home
  if s.keeper.failed then .error 6
  else if s.worn sec then .error 7
  else
    let gen := sectorGen (mget s.keeper.sectors sec 0) + 1
    let s' := writeSector sec (valueSector id len value home gen) s
    .ok (if s'.worn sec then relocate home id len value gen s' else s')

/-- The first home sector of the persistent values (R392). -/
def valuesFirst : Nat := 32960

/-- The place of an RWK element's unit among all of them, in ascending EID order (R392). -/
def rwkIndex (e : El) (u : Nat) : Nat :=
  match e with
  | .DEV_NAME => 0
  | .CS_ENABLE => 1
  | .FR_ENABLE => 2
  | .FR_FIRST => 3
  | .FR_BANKS => 4
  | .FR_SLOT_BANKS => 5
  | .PRIMARY_ADDR => 6
  | .GOLDEN_ADDR => 7
  | .VAULT_ENABLE => 8
  | .MGMT_EN => 9 + u
  | .HJ_EN => 41
  | .CAN_ENABLE => 42
  | .CAN_PFX => 43
  | .CAN_NODE => 44
  | .CAN_NOM_RATE => 45
  | .CAN_DATA_RATE => 46
  | .RIGHTS_I3C => 47
  | .RIGHTS_CAN => 48
  | .RIGHTS_IVTOR => 49
  | .WDT_ENABLE => 50
  | .WDT_TIMEOUT => 51
  | .T_NOTICE => 52
  | .T_THROTTLE => 53
  | .T_CEILING => 54
  | .T_SHUTDOWN => 55
  | _ => 56

/-- The RWK elements of fixed size, each with its units. -/
def rwkElements : List (El × Nat) :=
  [(.CS_ENABLE, 1), (.FR_ENABLE, 1), (.FR_FIRST, 1), (.FR_BANKS, 1), (.FR_SLOT_BANKS, 1), (.PRIMARY_ADDR, 1),
   (.GOLDEN_ADDR, 1), (.VAULT_ENABLE, 1), (.MGMT_EN, 32), (.HJ_EN, 1), (.CAN_ENABLE, 1), (.CAN_PFX, 1),
   (.CAN_NODE, 1), (.CAN_NOM_RATE, 1), (.CAN_DATA_RATE, 1), (.RIGHTS_I3C, 1), (.RIGHTS_CAN, 1), (.RIGHTS_IVTOR, 1),
   (.WDT_ENABLE, 1), (.WDT_TIMEOUT, 1), (.T_NOTICE, 1), (.T_THROTTLE, 1), (.T_CEILING, 1), (.T_SHUTDOWN, 1)]

/-- An RWK element written: the keeper first, then the register (R349, R355). -/
def keepValue (e : El) (u v : Nat) (s : State) : Except Nat State :=
  match writeValue (valuesFirst + rwkIndex e u) (eidOf e u) e.info.size v s with
  | .error c => .error c
  | .ok s' => .ok (s'.rset e u v)

/-- An RWK element whose write only keeps the value. -/
def hKeep (e : El) (u : Nat) : Handler := Handler.doing (fun v s => keepValue e u v s)

/-- The two sectors of a counter (R394). -/
def counterFirst (k : Nat) : Nat := 32896 + 2 * k

/-- A counter raised (R394): the copy with the lower GEN is written; refused with 0x06 where both copies failed. -/
def writeCounter (k len v : Nat) (s : State) : Except Nat State :=
  if s.keeper.dead.contains k then .error 6
  else
    let a := counterFirst k
    let ga := sectorGen (mget s.keeper.sectors (s.sectorFor a) 0)
    let gb := sectorGen (mget s.keeper.sectors (s.sectorFor (a + 1)) 0)
    let home := if Nat.ble ga gb then a else a + 1
    let sec := s.sectorFor home
    if s.keeper.failed then .error 6
    else if s.worn sec then .error 7
    else
      let gen := Nat.max ga gb + 1
      let s' := writeSector sec (valueSector (0x1000000 + k) len v home gen) s
      .ok (if s'.worn sec then relocate home (0x1000000 + k) len v gen s' else s')

/-- A saturating counter of the keeper moved on with its register (R394, R447, R469); one whose sector is worn keeps its last value
(R396), and one of a keeper that cannot be read moves on in its register alone. -/
def bumpCounter (k : Nat) (e : El) (s : State) : State :=
  let v := Nat.min (s.rget e + 1) 0xFFFFFFFF
  match writeCounter k 4 v s with
  | .ok s' => s'.rset e 0 v
  | .error _ => if s.keeper.failed && !s.keeper.dead.contains k then s.rset e 0 v else s

/-- A counter's value at BOOT (R394): the higher value of the copies whose CRC passes, and whether both failed. -/
def State.counterAtBoot (s : State) (k : Nat) : Nat × Bool :=
  let na := s.sectorFor (counterFirst k)
  let nb := s.sectorFor (counterFirst k + 1)
  let a := s.sectorRead na
  let b := s.sectorRead nb
  let va := if a.any sectorOk then sectorValue (a.getD 0) else 0
  let vb := if b.any sectorOk then sectorValue (b.getD 0) else 0
  (Nat.max va vb, !a.any sectorOk && !b.any sectorOk)

/-- An element's value at BOOT (R393): from its sector, or the default with an ERROR record where its CRC fails, as that of a blank
sector does (R355). -/
def bootValue (e : El) (u : Nat) (s : State) : State :=
  let home := valuesFirst + rwkIndex e u
  let sec := s.sectorRead (s.sectorFor home)
  if sec.any sectorOk then s.rset e u (sectorValue (sec.getD 0) % e.modulus)
  else (s.rset e u e.info.dflt).raise sevError 0x3805 2 (leBytes 4 (eidOf e u))

/-- DEV_NAME at BOOT (R355, R366, R393). -/
def bootName (s : State) : State :=
  let sec := s.sectorRead (s.sectorFor valuesFirst)
  if sec.any sectorOk then
    { s with devName := leBytes (Nat.min (sectorLen (sec.getD 0)) 32) (sectorValue (sec.getD 0)) }
  else { s with devName := [] }.raise sevError 0x3805 2 (leBytes 4 (eidOf .DEV_NAME 0))

/-- A counter's register at BOOT, with the ERROR record of one that both copies failed (R394). -/
def bootCounter (k : Nat) (s : State) : State :=
  let c := s.counterAtBoot k
  let s := match k with
    | 0 => s.rset .AR_COUNTER 0 (c.1 % 65536)
    | 1 => s.setKeeper { s.keeper with fwCounter := c.1 % 65536 }
    | 2 => s.rset .SHUTDOWNS 0 (c.1 % 2 ^ 32)
    | _ => s.rset .TAMPER_COUNT 0 (c.1 % 2 ^ 32)
  if c.2 then
    (s.setKeeper { s.keeper with dead := s.keeper.dead ++ [k] }).raise sevError 0x3805 2 (leBytes 4 (0x1000000 + k))
  else s

/-- The reserve pool scanned at BOOT (R396): its used sectors, and for each home the one of the highest GEN whose CRC passes. -/
def bootPool (s : State) : State :=
  let used := s.keeper.sectors.filter (fun p => Nat.ble poolFirst p.1 && Nat.blt p.1 (poolFirst + poolSize))
  let good := used.filter (fun p => s.sectorGood p.1)
  let best := good.foldl (fun (m : SMap (Nat × Nat)) p =>
    match mfind m (sectorHome p.2) with
    | some b => if Nat.ble b.2 (sectorGen p.2) then mput m (sectorHome p.2) (p.1, sectorGen p.2) else m
    | none => mput m (sectorHome p.2) (p.1, sectorGen p.2)) []
  s.setKeeper { s.keeper with moved := best.map (fun p => (p.1, p.2.1)), taken := used.map (·.1) }

/-- The sectors that BOOT reads, of those that read uncorrectable (R452, R493): a second copy of the retirement table only where
the first one fails. -/
def State.bootSectors (s : State) : List Nat :=
  s.keeper.bad.filter (fun n =>
    (Nat.ble 32896 n && Nat.blt n 38336) || (Nat.ble 38336 n && Nat.blt n 38592 && s.keeper.bad.contains (n - 256))
      || (Nat.ble 38592 n && Nat.blt n 41664))

/-- BOOT reads the keeper (R452, R393, R394): every persistent value, the counters; a keeper that cannot be read gives
defaults, KP_STATE 3 and one ERROR record (R397). -/
def bootKeeper (s : State) : State :=
  if s.keeper.failed then (s.keeperState 3).raise sevError 0x3805 2 []
  else
    let s := bootName (bootPool (countReads s.bootSectors s))
    let s := rwkElements.foldl (fun t p => (List.range p.2).foldl (fun t u => bootValue p.1 u t) t) s
    let s := [0, 1, 2, 3].foldl (fun t k => bootCounter k t) (s.setKeeper { s.keeper with dead := [] })
    let wornOnes := (s.keeper.wear.filter (fun p => Nat.ble ratedWrites p.2)).length
    let s := (s.rset .KP_WORN 0 wornOnes).rset .KP_RESERVE_FREE 0 (poolSize - s.keeper.taken.length)
    s.keeperState (if wornOnes = 0 then 0 else if s.freePool.isNone then 2 else 1)

/-- The keeper begins to fail every read while the device runs (R306, R397): KP_STATE 3 and one ERROR record. -/
def loseKeeper (s : State) : State :=
  ((s.setKeeper { s.keeper with failed := true, failAt := none }).keeperState 3).raise sevError 0x3805 2 []

/-- The keeper's failure as UPTIME comes to it. -/
def keeperClock (s : State) : State :=
  match s.keeper.failAt with
  | some t => if Nat.ble t s.us && !s.keeper.failed then loseKeeper s else s
  | none => s

/-! Keys (R272, R377, R392). -/

/-- The sectors of a key slot, as KEY_SEL numbers it, in the secret area: 32,832 + 2i of signing slot i, with the one after it, and 32,840 + j of
AES slot j. DESIGN CHOICE (log entry 116): the manual gives the secret area no layout. -/
def keySectors (k : Nat) : List Nat := if Nat.blt k 4 then [32832 + 2 * k, 32833 + 2 * k] else [32836 + k]

/-- The content of a key slot written: its state, and the key; 0x07 where a sector of it is worn (R395). -/
def keepKey (k : Nat) (bytes : Bytes) (s : State) : Except Nat State :=
  let ns := keySectors k
  if ns.any (fun n => s.worn n) then .error 7
  else .ok ((List.zip ns [bytes, bytes.drop 64]).foldl (fun t p => writeSector p.1 (sectorOf p.2) t) s)

/-! Raw writes (R384, R392). -/

/-- A sector of a region that firmware writes (R392). -/
def firmwareSector (n : Nat) : Bool := Nat.ble n 31 || (Nat.ble 64 n && Nat.ble n 32831) || (Nat.ble 41664 n && Nat.ble n 524287)

/-- KW_STATUS. -/
def State.setKwStatus (s : State) (v : Nat) : State := { s with core := { s.core with kwStatus := v } }

/-- A sector of a firmware slot (R392). -/
def slotSector (n : Nat) : Bool := Nat.ble 64 n && Nat.ble n 32831

/-- 1 written to KW_GO starts a raw write of KW_DATA to KW_SECTOR (R384); no effect while one is busy. The slots are not rewritten
from the boot ROM or from ROM service (R391): PROTECTED, DESIGN CHOICE (log entry 201). -/
def startKeeperWrite (v : Nat) (s : State) : State :=
  let n := s.core.kwSector
  if v != 1 || s.core.kwStatus = 1 then s
  else if s.keeper.failed then s.setKwStatus 5
  else if !firmwareSector n || (slotSector n && !s.run.entered) then s.setKwStatus 4
  else if s.worn n then s.setKwStatus 3
  else (s.setKwStatus 1).setKeeper { s.keeper with jobs := s.keeper.jobs ++ [.raw n (sectorOf s.core.kwData)] }

/-- KW_SECTOR written. -/
def setKwSector (n : Nat) (s : State) : State := { s with core := { s.core with kwSector := n % 4294967296 } }

/-- The first bytes of KW_DATA written. -/
def setKwData (data : BitVec 512) (k : Nat) (s : State) : State :=
  { s with core := { s.core with kwData := (sectorBytes data).take k ++ s.core.kwData.drop k } }

/-- The first sector of the retirement table, copy 0, and the distance to copy 1 (R493). -/
def retirementFirst : Nat := 38080
def retirementCopy : Nat := 256

/-- A sector of the table as a change finds it: a blank one holds free slots alone (R304, R493). -/
def tableSector (sec : BitVec 512) : BitVec 512 := if sec = 0 then BitVec.allOnes 512 else sec

/-- One U32 of a sector replaced (R493). -/
def putSlot (sec : BitVec 512) (i page : Nat) : BitVec 512 :=
  let off := 32 * (i % 16)
  BitVec.ofNat 512 (sec.toNat - bitsOf sec.toNat (off + 31) off * 2 ^ off + page * 2 ^ off)

/-- A change of the retirement table complete (R304, R493): copy 0, then copy 1, but no sector that is worn (R395), and RT_COUNT. -/
def commitSlot (slot page : Nat) (s : State) : State :=
  let put (n : Nat) (s : State) : State :=
    if s.worn n then s else writeSector n (putSlot (tableSector (mget s.keeper.sectors n 0)) slot page) s
  let sec := retirementFirst + slot / 16
  let s := put (sec + retirementCopy) (put sec s)
  let m := s.mem
  let r := if page = 0xFFFFFFFF then mdel m.retired slot else mput m.retired slot page
  { s with mem := { m with retired := r, retiring := m.retiring.erase (slot, page) } }.rset .RT_COUNT 0 r.length

/-- The oldest write under way completes (R384, R385, R395, R493). -/
def endKeeperWrite (s : State) : State :=
  match s.keeper.jobs with
  | [] => s
  | j :: rest =>
    let s := latchIrq 12 (s.setKeeper { s.keeper with jobs := rest })
    match j with
    | .raw n d => (writeSector n d s).setKwStatus 2
    | .retirement slot page => commitSlot slot page s

end Sys2Proof.Machine
end

