-- ==== Sys2Proof/Machine/TimeTable.lean ====
section
/-! DEFINITION. The time-table (R59 to R65, R67): entries, what they match, validation, commits, and the pauses they order. -/

namespace Sys2Proof.Machine

/-! Entries (R60). -/

/-- An entry of the time-table, word by word from TT_WORD0. -/
abbrev TtEntry := BitVec 128

/-- The fields of an entry (R60). -/
def ttFirst (e : TtEntry) : Nat := bitsOf e.toNat 15 0
def ttLast (e : TtEntry) : Nat := bitsOf e.toNat 31 16
def ttModulus (e : TtEntry) : Nat := bitsOf e.toNat 43 32 + 1
def ttResidue (e : TtEntry) : Nat := bitsOf e.toNat 55 44
def ttPhase (e : TtEntry) : Nat := bitsOf e.toNat 61 56
def ttEnabled (e : TtEntry) : Bool := bitOf e.toNat 63
def ttAction (e : TtEntry) : Nat := bitsOf e.toNat 71 64
def ttArg (e : TtEntry) : Nat := bitsOf e.toNat 87 72
def ttKind (e : TtEntry) : Nat := bitsOf e.toNat 91 88
def ttTarget (e : TtEntry) : Nat := bitsOf e.toNat 111 96
def ttStride (e : TtEntry) : Nat := bitsOf e.toNat 127 112 + 1

/-- The reserved bits of an entry: TT_WORD1[30] and TT_WORD2[31:28]. -/
def ttReserved (e : TtEntry) : Nat := bitsOf e.toNat 62 62 + bitsOf e.toNat 95 92

/-- The slots in which an entry's windows start (R63). -/
def ttStarts (e : TtEntry) : List Nat :=
  if ttStride e = 1 then [ttFirst e]
  else (List.range ((ttLast e - ttFirst e) / ttStride e + 1)).map (fun j => ttFirst e + j * ttStride e)

/-- An entry's window starts in a slot. -/
def ttStartsAt (e : TtEntry) (slot : Nat) : Bool :=
  if ttStride e = 1 then slot == ttFirst e
  else Nat.ble (ttFirst e) slot && Nat.ble slot (ttLast e) && (slot - ttFirst e) % ttStride e == 0

/-- The crossings that one window of an entry takes (R63). -/
def ttSpan (e : TtEntry) : Nat := if ttStride e = 1 then ttLast e - ttFirst e + 1 else 1

/-- An entry matches an orbit (R60). -/
def ttMatches (e : TtEntry) (orbit : Nat) : Bool := orbit % ttModulus e == ttResidue e

/-- An entry of the active table. -/
def State.ttActive (s : State) (k : Nat) : TtEntry := mget s.rb.active k 0

/-- The enabled entries of a table, by ascending index. -/
def ttEnabledEntries (t : SMap TtEntry) : List (Nat × TtEntry) := t.filter (fun p => ttEnabled p.2)

/-! Validation (R64). -/

/-- The largest target of a target kind (R61). -/
def ttTargetMax : Nat → Nat
  | 0 => 127
  | 1 => 63
  | 2 => 1023
  | 3 => 63
  | 4 => 4095
  | 5 => 63
  | _ => 0

/-- The target kinds that an action allows (R62). -/
def ttKindAllowed (action kind : Nat) : Bool :=
  match action with
  | 0 => Nat.ble kind 6
  | 1 | 8 => Nat.ble kind 1
  | 2 | 3 => kind == 2 || kind == 3
  | 4 => kind == 5 || kind == 6
  | 5 => kind == 4 || kind == 5
  | 6 | 7 => kind == 4
  | _ => false

/-- The arguments that an action allows (R62, R64); a TEST_PULSE never carries a code that R97 reserves. -/
def ttArgAllowed (action arg : Nat) : Bool :=
  match action with
  | 0 | 5 | 6 | 7 => arg == 0
  | 1 => Nat.ble arg 7
  | 2 => Nat.ble arg 1
  | 3 => !(arg % 16 == 1 || arg % 16 == 2 || arg % 16 == 15)
  | 4 => Nat.ble arg 3
  | 8 => Nat.ble arg 15
  | _ => false

/-- Faults 1 to 3 of R64, which an entry has on its own. -/
def ttOwnFault (l m : Nat) (e : TtEntry) : Bool :=
  ttReserved e != 0 || !ttKindAllowed (ttAction e) (ttKind e) || Nat.blt (ttTargetMax (ttKind e)) (ttTarget e)
    || !ttArgAllowed (ttAction e) (ttArg e)
    || Nat.blt (ttLast e) (ttFirst e) || Nat.ble l (ttLast e) || Nat.ble (ttModulus e) (ttResidue e)
    || Nat.ble m (ttPhase e)
    || (ttPhase e != 0 && ttAction e != 1 && ttAction e != 8)

/-- Two orbit classes, as modulus and residue, meet in some orbit (R64). -/
def classesMeet (a b : Nat × Nat) : Bool := a.2 % Nat.gcd a.1 b.1 == b.2 % Nat.gcd a.1 b.1

/-- An entry's orbit class, moved on by a number of orbits. -/
def ttClass (e : TtEntry) (shift : Nat) : Nat × Nat := (ttModulus e, (ttResidue e + shift) % ttModulus e)

/-- The Districts of a context lock group (R170). -/
def State.groupMembers (s : State) (g : Nat) : List Nat := (s.unitsSet .LOCK_GROUP).filter (fun d => s.rget .LOCK_GROUP d == g)

/-- The Districts that run together with a District: its lock group, or itself (R170). -/
def State.lockstep (s : State) (d : Nat) : List Nat :=
  if s.rget .LOCK_GROUP d = 0xFF then [d] else s.groupMembers (s.rget .LOCK_GROUP d)

/-- The Districts a CTX_SWITCH entry acts on (R170). -/
def State.ctxTargets (s : State) (e : TtEntry) : List Nat :=
  if ttKind e = 1 then s.groupMembers (ttTarget e) else s.lockstep (ttTarget e)

/-- The fabric cycles of an entry's windows within an orbit of l crossings, and of the tail past its last slot, with the
tail counted from the next orbit's start (R63). -/
def ttCycles (l m : Nat) (e : TtEntry) : List (Nat × Nat) × List (Nat × Nat) :=
  let ws := (ttStarts e).map (fun k => (k * m + ttPhase e, (k + ttSpan e) * m + ttPhase e))
  (ws.map (fun w => (w.1, Nat.min w.2 (l * m))),
   (ws.filter (fun w => Nat.blt (l * m) w.2)).map (fun w => (0, w.2 - l * m)))

/-- Two lists of stretches meet. -/
def stretchesMeet (a b : List (Nat × Nat)) : Bool := a.any (fun x => b.any (fun y => Nat.blt x.1 y.2 && Nat.blt y.1 x.2))

/-- Two entries' windows can overlap in time (R63, R64). -/
def ttOverlap (l m : Nat) (a b : TtEntry) : Bool :=
  let ca := ttCycles l m a
  let cb := ttCycles l m b
  (classesMeet (ttClass a 0) (ttClass b 0) && stretchesMeet ca.1 cb.1)
    || (classesMeet (ttClass a 1) (ttClass b 0) && stretchesMeet ca.2 cb.1)
    || (classesMeet (ttClass a 0) (ttClass b 1) && stretchesMeet ca.1 cb.2)

/-- Fault 4 of R64 for a pair: CTX_SWITCH windows of one District with different contexts that can overlap. -/
def State.ttCtxConflict (s : State) (a b : TtEntry) : Bool :=
  ttAction a == 1 && ttAction b == 1 && ttArg a != ttArg b
    && (s.ctxTargets a).any (fun d => (s.ctxTargets b).contains d) && ttOverlap s.L s.M a b

/-- Fault 5 of R64 for a pair: BANK_WAKE and BANK_SLEEP of one bank that can fire in one crossing. -/
def ttBankConflict (a b : TtEntry) : Bool :=
  ((ttAction a == 6 && ttAction b == 7) || (ttAction a == 7 && ttAction b == 6))
    && ttTarget a == ttTarget b && classesMeet (ttClass a 0) (ttClass b 0)
    && (ttStarts a).any (fun k => ttStartsAt b k)

/-- The starts and ends of an entry's windows in a slot, each as the class of the orbits in which it falls there: DEDUCED (log
entry 147), an end that wraps to slot 0 falls into the orbit after the one that matches (R63). -/
def ttEventsAt (l : Nat) (slot : Nat) (e : TtEntry) : List (Nat × Nat) :=
  (if ttStartsAt e slot then [ttClass e 0] else [])
    ++ ((ttStarts e).filter (fun k => (k + ttSpan e) % l == slot)).map
      (fun k => ttClass e (if k + ttSpan e < l then 0 else 1))

/-- The most of a list of orbit classes that can come together, beside classes already taken. -/
def mostTogether : List (Nat × Nat) → List (Nat × Nat) → Nat
  | [], taken => taken.length
  | c :: cs, taken =>
    if taken.all (classesMeet c) then
      if cs.all (classesMeet c) then mostTogether cs (c :: taken)
      else Nat.max (mostTogether cs (c :: taken)) (mostTogether cs taken)
    else mostTogether cs taken

/-- The slots in which an entry's windows start or end. -/
def ttSlots (l : Nat) (e : TtEntry) : List Nat :=
  ttStarts e ++ (ttStarts e).map (fun k => (k + ttSpan e) % l)

/-- Fault 6 of R64: with the entries before it, an entry brings a crossing above 64 starts and ends. -/
def ttCrowds (l : Nat) (upTo : List TtEntry) (e : TtEntry) : Bool :=
  (ttSlots l e).any (fun k =>
    let evs := (upTo.map (ttEventsAt l k)).flatten
    Nat.blt 64 evs.length && Nat.blt 64 (mostTogether evs []))

/-- The lowest offending entry among enabled entries, those before it given latest last (R64). -/
def State.ttOffending (s : State) : List (Nat × TtEntry) → List TtEntry → Option Nat
  | [], _ => none
  | (i, e) :: rest, before =>
    if ttOwnFault s.L s.M e then some i
    else if before.any (fun b => s.ttCtxConflict b e || ttBankConflict b e) then some i
    else if ttCrowds s.L (before ++ [e]) e then some i
    else s.ttOffending rest (before ++ [e])

/-- The validation of a table (R64): the lowest offending entry, or none. -/
def State.ttValidate (s : State) (t : SMap TtEntry) : Option Nat := s.ttOffending (ttEnabledEntries t) []

/-! Writing and committing. -/

/-- A commit is pending, in validation or after it, or is an image's (R59, R64). -/
def State.ttPending (s : State) : Bool := s.rb.validating.isSome || s.rb.pendingAt.isSome

/-- The element of TT_WORD k. -/
def ttWordEl : Nat → El
  | 0 => .TT_WORD0
  | 1 => .TT_WORD1
  | 2 => .TT_WORD2
  | _ => .TT_WORD3

/-- One word of an entry replaced. -/
def ttPutWord (e : TtEntry) (k v : Nat) : TtEntry :=
  BitVec.ofNat 128 (e.toNat - bitsOf e.toNat (32 * k + 31) (32 * k) * 2 ^ (32 * k) + v % 2 ^ 32 * 2 ^ (32 * k))

/-- A word of the window (R59, R60, R64). -/
def hTtWord (k : Nat) : Handler :=
  { allow := fun _ _ s => !s.rflag .TT_WINDOW_SEL
    range := fun _ _ => true
    act := fun v s =>
      if s.ttPending then .error 6
      else
        let i := s.rget .TT_WINDOW_INDEX
        .ok { s with rb := { s.rb with shadow := mset s.rb.shadow i (ttPutWord (mget s.rb.shadow i 0) k v) 0 } } }

/-- TT_WORD_WRITE: word k of the entry that the window shows. -/
def execTtWordWrite (w : Route) (k v : Nat) (s : State) : Host.Outcome State Fault Refusal :=
  write w (ttWordEl (k % 4)) 0 v (hTtWord (k % 4)) s

/-- TT_COPY: the active table copied into the shadow (R65). -/
def hTtCopy : Handler := Handler.doing (fun v s =>
  if s.ttPending then .error 6
  else if v = 0 then .ok s
  else .ok { s with rb := { s.rb with shadow := s.rb.active } })

/-- TT_COPY. -/
def execTtCopy (w : Route) (v : Nat) (s : State) : Host.Outcome State Fault Refusal := write w .TT_COPY 0 v hTtCopy s

/-- TT_COMMIT: validation of the shadow table begins (R64). -/
def hTtCommit : Handler := Handler.doing (fun v s =>
  if s.ttPending then .error 6
  else .ok ({ s with rb := { s.rb with validating := some v, fromImage := false } }.rset .TT_COMMIT_STATUS 0 1))

/-- TT_COMMIT. -/
def execTtCommit (w : Route) (v : Nat) (s : State) : Host.Outcome State Fault Refusal := write w .TT_COMMIT 0 v hTtCommit s

/-- A commit refused (R64): status 3, the entry, and a NOTICE record. -/
def ttRefuse (entry : Nat) (s : State) : State :=
  (({ s with rb := { s.rb with validating := none, pendingAt := none, fromImage := false } }.rset .TT_COMMIT_STATUS 0 3).rset
    .TT_REFUSED_ENTRY 0 entry).raise sevNotice 0x0206 0x010 (leBytes 2 entry)

/-- TT_VALIDATION_DONE: the commit becomes due at its orbit, or is refused; an orbit that began before validation ended
refuses with 0xFFFF (R64). -/
def execTtValidationDone (s : State) : Host.Outcome State Fault Refusal :=
  match s.rb.validating with
  | none => .next s
  | some n =>
    match s.ttValidate s.rb.shadow with
    | some i => .next (ttRefuse i s)
    | none =>
      if n != allOnes64 && s.counting && Nat.ble n s.tb.orbit then .next (ttRefuse 0xFFFF s)
      else .next { s with rb := { s.rb with validating := none, pendingAt := some n } }

/-! Pauses and self-test windows (R62, R63, R67). -/

/-- An open window covers the present crossing (R63). -/
def State.ttCovers (s : State) (w : Nat × Nat) : Bool :=
  Nat.ble w.2 s.crossing && Nat.blt s.crossing (w.2 + ttSpan (s.ttActive w.1))

/-- An entry pauses a scrubber of a Quarter, 0 the memory and 1 the configuration scrubber (R62). -/
def ttPauses (e : TtEntry) (q which : Nat) : Bool :=
  ttAction e == 4 && bitOf (ttArg e) which && (ttKind e == 6 || ttTarget e == q)

/-- A SCRUB_PAUSE window of the present crossing names a Quarter's scrubber. -/
def State.pauseOpen (s : State) (q which : Nat) : Bool :=
  s.rb.openWindows.any (fun w => s.ttCovers w && ttPauses (s.ttActive w.1) q which)

/-- The paused slots that an orbit honours (R67). -/
def State.pauseLimit (s : State) : Nat := 7 * s.L / 8

/-- A scrubber is paused (R67): its window is open, and the present slot is within the limit. -/
def State.paused (s : State) (q which : Nat) : Bool :=
  s.pauseOpen q which &&
    (let c := mget s.rb.paused (2 * q + which) (0, 0)
     if c.1 != 0 && c.2 == s.crossing then Nat.ble c.1 s.pauseLimit else Nat.blt c.1 s.pauseLimit)

/-- The present slot counted as paused for a Quarter's scrubber, and the NOTICE record of the first slot beyond the limit
since the commit (R67). -/
def countPause (q which : Nat) (s : State) : State :=
  let k := 2 * q + which
  let c := mget s.rb.paused k (0, 0)
  if !s.pauseOpen q which || (c.1 != 0 && c.2 == s.crossing) then s
  else
    let s := { s with rb := { s.rb with paused := mput s.rb.paused k (c.1 + 1, s.crossing) } }
    if Nat.ble (c.1 + 1) s.pauseLimit || s.rb.pauseNoted then s
    else { s with rb := { s.rb with pauseNoted := true } }.raise sevNotice 0x0207 0x010 []

/-- Every scrubber's pause counted in the present slot. -/
def countPauses (s : State) : State :=
  if s.rb.openWindows.any (fun w => ttAction (s.ttActive w.1) == 4) then
    (List.range 64).foldl (fun t q => countPause q 1 (countPause q 0 t)) s
  else s

/-- An entry is a BIST_WINDOW of a bank or of its Quarter (R62). -/
def ttBistFor (e : TtEntry) (n : Nat) : Bool :=
  ttEnabled e && ttAction e == 5 && ((ttKind e == 4 && ttTarget e == n) || (ttKind e == 5 && ttTarget e == n / 64))

/-- In-field self-test may start a slice on a bank (R63): no BIST_WINDOW names it, or one is open. -/
def State.bistAllowed (s : State) (n : Nat) : Bool :=
  !s.rb.active.any (fun p => ttBistFor p.2 n)
    || s.rb.openWindows.any (fun w => s.ttCovers w && ttBistFor (s.ttActive w.1) n)

end Sys2Proof.Machine
end

