-- ==== Sys2Proof/Machine/Integrity.lean ====
section
/-! DEFINITION. Memory integrity (R293 to R310): invalidation, the leaky bucket, the memory scrubber, page retirement, moves
onto spares, and the flip mask. -/

namespace Sys2Proof.Machine

/-- The memory layer is powered and out of reset (R13, R469). -/
def State.memoryOn (s : State) : Bool :=
  !s.power.gated &&
    (match s.dev with
     | .powerOff | .reset => false
     | .boot | .idle | .loading | .armed | .running | .hold | .safe | .shutdown => true)

/-! Invalidation (R293). -/

/-- A bank whose content INVALIDATE may not take (R293). -/
def State.mayNotInvalidate (s : State) (n : Nat) : Bool :=
  s.isRingBank n || s.isVaultBank n || s.isC0 n || s.inQueue n || s.inReserve n
    || !s.isAwake n || s.rget .INV_STATE n == 1

/-- INVALIDATE (R293). -/
def hInvalidate : Handler := Handler.doing (fun v s =>
  let n := s.rget .MI_BANK
  if v = 0 then .ok s
  else if s.mayNotInvalidate n then .error 6
  else .ok (s.rset .INV_STATE n 1))

/-- INVALIDATE. -/
def execInvalidate (w : Route) (v : Nat) (s : State) : Host.Outcome State Fault Refusal := write w .INVALIDATE 0 v hInvalidate s

/-- INVALIDATE_DONE: every word of the bank is INVALID, and stalled requests go on (R293). -/
def execInvalidateDone (bank : Nat) (s : State) : Host.Outcome State Fault Refusal :=
  .next (endInvalidation bank s)

/-! The leaky bucket (R295). -/

/-- LB_LEAK_TICK: the bank's leak timer has counted LB_LEAK milliseconds (R295). -/
def execLbLeakTick (bank : Nat) (s : State) : Host.Outcome State Fault Refusal :=
  .next (if s.rget .LB_LEAK bank = 0 then s else s.rset .LB_LEVEL bank (s.rget .LB_LEVEL bank - 1))

/-- LB_LEAK of the bank shown (R295); the restart of its timer is no state here, since its end is a command. -/
def hLbLeak : Handler := Handler.doing (fun v s => .ok (s.rset .LB_LEAK (s.rget .MI_BANK) v))

/-- LB_LEAK_WRITE. -/
def execLbLeakWrite (w : Route) (v : Nat) (s : State) : Host.Outcome State Fault Refusal := write w .LB_LEAK 0 v hLbLeak s

/-- LB_THRESHOLD of the bank shown (R295). -/
def hLbThreshold : Handler := Handler.doing (fun v s => .ok (s.rset .LB_THRESHOLD (s.rget .MI_BANK) v))

/-! The memory scrubber (R300 to R303). -/

/-- The requester index of the memory scrubber (R105). -/
def scrubberIndex : Nat := 5

/-- What the scrubber makes of a word as it stands (R301), with its correctable events counted, and an uncorrectable word's effects
taken, unless the read that listed the word has counted them (R294, R296). -/
def scrubWord (n addr : Nat) (ce ue : Bool) (s : State) : State :=
  let w := s.cell n addr
  let s := if ce && w.validDisagrees then correctable n addr 0 s else s
  match w.read with
  | .invalid => s
  | .clean _ => s
  | .corrected syn d =>
    let s := if ce then correctable n addr syn s else s
    s.setCell n addr (StoredWord.fresh d)
  | .poison => if w == StoredWord.poison then s else s.setCell n addr StoredWord.poison
  | .uncorrectable =>
    let s := if ue then uncorrectable n addr scrubberIndex 0xFF s else s
    (s.setCell n addr StoredWord.poison).rinc .POISON_WRITTEN

/-- The rows of a pass (R300). -/
def passRows : Nat := 1048576

/-- The end of a Quarter's pass (R300): counted, timed, and noted where it took longer than twice SCRUB_PERIOD. -/
def endPass (q : Nat) (s : State) : State :=
  let m := s.mem
  let took := s.us - mget m.passFrom q 0
  let passes := mset m.passes q (mget m.passes q 0 + 1) 0
  let times := mset m.passTook q took 0
  let s := { s with mem := { m with passes, passTook := times, passFrom := mset m.passFrom q s.us 0 } }
  let least := listMin ((List.range 64).map (fun k => mget passes k 0)) 0xFFFFFFFF
  let longest := listMax (times.map (fun p => p.2 / 1000)) 0
  let s := (s.rset .SCRUB_PASSES 0 least).rset .SCRUB_LAST_PASS 0 (Nat.min longest 0xFFFFFFFF)
  if Nat.blt (2000000 * s.rget .SCRUB_PERIOD) took then s.raise sevNotice 0x0703 0 [] else s

/-- The scrubber's place moved on by a row, ending the pass after its last. -/
def nextRow (q : Nat) (s : State) : State :=
  let p := mget s.mem.places q 0 + 1
  let s' := { s with mem := { s.mem with places := mset s.mem.places q (p % passRows) 0 } }
  if p = passRows then endPass q s' else s'

/-- The rows of a slice under in-field test, from COPY to the end of RESTORE (R300, R405). -/
def State.sliceTaken (s : State) (n row : Nat) : Bool :=
  match s.sliceAt n (2 * row) with
  | some (.clear, _) => false
  | some _ => true
  | none => false

/-- A Quarter's memory scrubber issues reads: enabled and not paused (R67, R303). -/
def State.scrubbing (s : State) (q : Nat) : Bool := s.memoryOn && s.rflag .SCRUB_ENABLE && !s.paused q 0

/-- The first entry of a Quarter's repair list that the scrubber can serve: its bank AWAKE (R294), not under invalidation (R293), and
its row not in a slice under test (R300). -/
def State.servable (s : State) (quarter : Nat) : Option (Nat × Bool) :=
  (mget s.mem.repairs quarter []).find? (fun e =>
    let n := 64 * quarter + e.1 / 32768
    s.isAwake n && s.rget .INV_STATE n == 0 && !s.sliceTaken n (e.1 % 32768 / 2))

/-- An entry of the repair list served with a correction write (R294, R301): its word is judged as it stands, and what listed it is
not counted again. -/
def serveRepair (quarter : Nat) (e : Nat × Bool) (s : State) : State :=
  let s := setRepairs quarter ((mget s.mem.repairs quarter []).filter (fun x => x.1 != e.1)) s
  let n := 64 * quarter + e.1 / 32768
  scrubWord n (e.1 % 32768) e.2 (!e.2) (engineTurn n .scrubber 3 s)

/-- The next row of the pass read, or passed over (R300, R301); a row of a bank under invalidation stalls (R293). -/
def scrubRow (quarter : Nat) (s : State) : State :=
  let p := mget s.mem.places quarter 0
  let n := 64 * quarter + p % 64
  let row := p / 64
  if s.rget .INV_STATE n = 1 then s
  else if !s.isAwake n || s.sliceTaken n row then nextRow quarter (s.rinc .SCRUB_SKIPPED)
  else nextRow quarter (scrubWord n (2 * row + 1) true true (scrubWord n (2 * row) true true (engineTurn n .scrubber 3 s)))

/-- SCRUB_ROW_READ: the scrubber's next turn at its rate: an entry of the repair list that can be served goes ahead of the pass (R294,
R302), and otherwise the pass comes to its next row (R300). DEDUCED (log entry 196). -/
def execScrubRowRead (quarter : Nat) (s : State) : Host.Outcome State Fault Refusal :=
  if !s.scrubbing quarter then .next s
  else match s.servable quarter with
    | some e => .next (serveRepair quarter e s)
    | none => .next (scrubRow quarter s)

/-- REPAIR_LIST_SERVE: the first entry of the Quarter's list that can be served (R294, R301). -/
def execRepairListServe (quarter : Nat) (s : State) : Host.Outcome State Fault Refusal :=
  match (if s.scrubbing quarter then s.servable quarter else none) with
  | none => .next s
  | some e => .next (serveRepair quarter e s)

/-- SCRUB_ENABLE (R303). -/
def hScrubEnable : Handler := Handler.store .SCRUB_ENABLE 0

/-- SCRUB_ENABLE_WRITE. -/
def execScrubEnableWrite (w : Route) (v : Nat) (s : State) : Host.Outcome State Fault Refusal :=
  write w .SCRUB_ENABLE 0 v hScrubEnable s

/-! Page retirement (R304, R493). -/

/-- The slots of the retirement table. -/
def retirementSlots : Nat := 4096

/-- The table as it stands once the changes under way are complete. -/
def State.tableDue (s : State) : SMap Nat :=
  s.mem.retiring.foldl (fun m p => if p.2 = 0xFFFFFFFF then mdel m p.1 else mput m p.1 p.2) s.mem.retired

/-- RT_STATE (R306): 1 from a keeper that cannot be read at BOOT or later. -/
def State.retirementState (s : State) : Nat := if s.keeper.failed then 1 else 0

/-- A slot's sector is worn in neither copy (R493), the changes under way counted. -/
def State.slotUsable (s : State) (i : Nat) : Bool :=
  let ahead := (s.mem.retiring.filter (fun p => p.1 / 16 == i / 16)).length
  [retirementFirst, retirementFirst + retirementCopy].all (fun k => Nat.blt (s.wearOf (k + i / 16) + ahead) ratedWrites)

/-- A change of one slot handed to the keeper (R493). -/
def changeSlot (slot page : Nat) (s : State) : State :=
  { s with mem := { s.mem with retiring := s.mem.retiring ++ [(slot, page)] } }.setKeeper
    { s.keeper with jobs := s.keeper.jobs ++ [KeeperJob.retirement slot page] }

/-- RT_RETIRE (R304, R493). -/
def hRtRetire : Handler :=
  { range := fun v _ => Nat.ble v 262143
    act := fun v s =>
      let t := s.tableDue
      if s.retirementState = 1 then .error 6
      else if t.any (fun p => p.2 == v) then .ok s
      else if Nat.ble retirementSlots t.length then .error 6
      else match (List.range retirementSlots).find? (fun i => (mfind t i).isNone && s.slotUsable i) with
        | some i => .ok (changeSlot i v s)
        | none => .error 7 }

/-- RT_RETIRE. -/
def execRtRetire (w : Route) (v : Nat) (s : State) : Host.Outcome State Fault Refusal := write w .RT_RETIRE 0 v hRtRetire s

/-- RT_UNRETIRE (R304, R493). -/
def hRtUnretire : Handler :=
  { range := fun v _ => Nat.ble v 262143
    act := fun v s =>
      if s.retirementState = 1 then .error 6
      else match s.tableDue.find? (fun p => p.2 == v) with
        | none => .ok s
        | some p => if s.slotUsable p.1 then .ok (changeSlot p.1 0xFFFFFFFF s) else .error 7 }

/-- RT_UNRETIRE. -/
def execRtUnretire (w : Route) (v : Nat) (s : State) : Host.Outcome State Fault Refusal :=
  write w .RT_UNRETIRE 0 v hRtUnretire s

/-- The table at BOOT (R306, R493): each sector of copy 0, or of copy 1 where that one is uncorrectable; slots that name a page are held, and
a sector uncorrectable in both copies gives free slots and an ERROR record. -/
def bootRetirement (s : State) : State :=
  if s.keeper.failed then
    { s with mem := { s.mem with retired := [], retiring := [] } }.rset .RT_COUNT 0 0
      |>.raise sevError 0x0704 2 []
  else
    let copyOf (k : Nat) : Option (BitVec 512) :=
      (s.sectorRead (retirementFirst + k)).orElse (fun _ => s.sectorRead (retirementFirst + retirementCopy + k))
    let slotsOf (k : Nat) : SMap Nat :=
      let sec := tableSector ((copyOf k).getD 0)
      (List.range 16).filterMap (fun i =>
        let v := bitsOf sec.toNat (32 * i + 31) (32 * i)
        if Nat.ble v 262143 then some (16 * k + i, v) else none)
    let listed := (List.range 256).filter (fun k =>
      (mfind s.keeper.sectors (retirementFirst + k)).isSome || s.keeper.bad.contains (retirementFirst + k))
    let t := (listed.map slotsOf).flatten
    let s := { s with mem := { s.mem with retired := t, retiring := [] } }.rset .RT_COUNT 0 t.length
    if listed.any (fun k => (copyOf k).isNone) then s.raise sevError 0x0704 2 [] else s

/-! Moves onto spares (R307, R308). -/

/-- A spare of a Quarter is free (R308, R405). -/
def State.spareFree (s : State) (q i : Nat) : Bool :=
  s.rget (if i = 0 then .SPARE0_FOR else .SPARE1_FOR) q == 0xFF
    && !(s.bist.spare == some i && s.rget .BIST_TARGET / 64 == q)
    && (match mfind s.mem.moves q with | some m => m.spare != i | none => true)

/-- The lowest-numbered free spare of a Quarter. -/
def State.freeSpare (s : State) (q : Nat) : Option Nat := [0, 1].find? (fun i => s.spareFree q i)

/-- A move of a bank may not start (R308). -/
def State.moveRefused (s : State) (n : Nat) : Bool :=
  (mfind s.mem.moves (n / 64)).isSome || (inVaultPlace n && s.rget .VAULT_STATE != 0) || !s.isAwake n

/-- A move started (R307 step 1). -/
def startMove (q b spare : Nat) (back : Bool) (s : State) : State :=
  let s := { s with mem := { s.mem with moves := mput s.mem.moves q { bank := b, spare, back } } }
  (s.rset .SUB_STATE q 1).rset .SUB_COPY_UE q 0

/-- SUBSTITUTE's move of a bank where nothing refuses it; none where R308 does. -/
def State.substitute (s : State) (q b : Nat) : Option State :=
  match s.freeSpare q with
  | some i => if s.moveRefused (64 * q + b) then none else some (startMove q b i false s)
  | none => none

/-- A word as a copier writes it: corrected, poison, or INVALID as it was; true where it became poison (R307, R405). -/
def copiedWord (w : StoredWord) : StoredWord × Bool :=
  match w.read with
  | .invalid => (StoredWord.invalid, false)
  | .poison => (StoredWord.poison, true)
  | .uncorrectable => (StoredWord.poison, true)
  | .clean d => (StoredWord.fresh d, false)
  | .corrected _ d => (StoredWord.fresh d, false)

/-- The events of a copier's read of a word (R294, R296), under the requester index it reads with. -/
def copyEvents (n addr index : Nat) (w : StoredWord) (s : State) : State :=
  let s := if w.validDisagrees then correctable n addr 0 s else s
  match w.read with
  | .corrected syn _ => correctable n addr syn s
  | .uncorrectable => listRepair n addr true (uncorrectable n addr index 0xFF s)
  | .poison => s.rinc .POISON_READS n
  | .invalid => s
  | .clean _ => s

/-- One word of a copy: a corrected or reported word as copiedWord and copyEvents have it, and the count of uncorrectable ones. -/
def copyWord (n dst index : Nat) (t : State × Nat) (p : Nat × StoredWord) : State × Nat :=
  let c := copiedWord p.2
  (copyEvents n p.1 index p.2 (t.1.setCellAt (n / 64) dst p.1 c.1), if c.2 then t.2 + 1 else t.2)

/-- Words of a logical bank copied from one place of its Quarter to another, a stretch of addresses: the state, and how many
were copied as poison. -/
def copyWords (n src dst first count index : Nat) (s : State) : State × Nat :=
  let q := n / 64
  let from_ := cellKey q src 0
  let listed := (s.cells.filter (fun p => Nat.ble (from_ + first) p.1 && Nat.blt p.1 (from_ + first + count))).map
    (fun p => (p.1 - from_, p.2))
  let same := s.blankWord (66 * q + src) == s.blankWord (66 * q + dst)
  let words := if same || count = 32768 then listed
    else (List.range count).map (fun i => (first + i, s.cellAt q src (first + i)))
  let s := if count = 32768 then blankPlace q dst (s.mem.zeroed.contains (66 * q + src)) s else dropCells q dst first count s
  words.foldl (copyWord n dst index) (s, 0)

/-- The retirement entries of a bank removed (R307 step 3): at once from the table in use, and slot by slot in the keeper. -/
def dropRetired (n : Nat) (s : State) : State :=
  let mine := s.tableDue.filter (fun p => p.2 / 64 == n)
  let s := mine.foldl (fun t p => changeSlot p.1 0xFFFFFFFF t) s
  let left := s.mem.retired.filter (fun p => p.2 / 64 != n)
  { s with mem := { s.mem with retired := left } }.rset .RT_COUNT 0 left.length

/-- The sector of a Quarter's substitution map (R411): one of 40,576 to 40,639. -/
def sparesSector (q : Nat) : Nat := 40576 + q

/-- The substitution map of a Quarter taken to the keeper (R309, R411), where the keeper can be read and the sector is not worn. The
layout of R393, with VALUE the local banks of both spares, is the model's: DESIGN CHOICE (log entry 202). -/
def keepSpares (q : Nat) (s : State) : State :=
  let h := sparesSector q
  if s.keeper.failed || s.worn h then s
  else writeSector h (valueSector (0x3000000 + q) 2 (s.rget .SPARE0_FOR q + 256 * s.rget .SPARE1_FOR q) h
    (sectorGen (mget s.keeper.sectors h 0) + 1)) s

/-- SUBSTITUTE_COPY_DONE: the last row of a move is copied, and the bank's number addresses its new place (R307); not while a
slice of the bank is under test. -/
def execSubstituteCopyDone (quarter : Nat) (s : State) : Host.Outcome State Fault Refusal :=
  match mfind s.mem.moves quarter with
  | none => .next s
  | some m =>
    let n := 64 * quarter + m.bank
    if s.underTest n && s.bist.phase.isSome then .next s
    else
    let src := s.placeOfBank n
    let c := copyWords n src (if m.back then m.bank else 64 + m.spare) 0 32768 Config.copierIndex s
    let s := { c.1 with mem := { c.1.mem with moves := mdel c.1.mem.moves quarter } }
    let s := if src = 64 then s.rset .SPARE0_FOR quarter 0xFF else if src = 65 then s.rset .SPARE1_FOR quarter 0xFF else s
    let s := if m.back then s else s.rset (if m.spare = 0 then .SPARE0_FOR else .SPARE1_FOR) quarter m.bank
    let s := dropRetired n (keepSpares quarter ((s.rset .SUB_STATE quarter 0).rset .SUB_COPY_UE quarter c.2))
    .next (s.raise sevWarning 0x0604 quarter (leBytes 2 n ++ leBytes 1 m.spare ++ leBytes 4 c.2))

/-- UNSUBSTITUTE (R308, R312): the bank on a spare returns to its original location. -/
def hUnsubstitute (q : Nat) : Handler := Handler.doing (fun v s =>
  let b := s.rget (if v = 0 then .SPARE0_FOR else .SPARE1_FOR) q
  if b = 0xFF || s.moveRefused (64 * q + b) then .error 6 else .ok (startMove q b v true s))

/-- UNSUBSTITUTE. -/
def execUnsubstitute (w : Route) (quarter v : Nat) (s : State) : Host.Outcome State Fault Refusal :=
  write w .UNSUBSTITUTE quarter v (hUnsubstitute quarter) s

/-! The flip mask (R310). -/

/-- FLIP_ARM (R310): the mask and its bank are held as they stand. -/
def hFlipArm : Handler :=
  { allow := fun _ v s => v == 0 || !s.isVaultBank (s.rget .FLIP_BANK)
    range := fun v s => v == 0 || s.rget .FLIP_DATA != 0 || s.rget .FLIP_CHECK != 0
    act := fun v s =>
      if v = 0 then .ok s
      else if s.rget .FLIP_STATE = 1 then .error 6
      else
        let mask := (s.rget .FLIP_BANK, BitVec.ofNat 64 (s.rget .FLIP_DATA), BitVec.ofNat 8 (s.rget .FLIP_CHECK))
        .ok ({ s with mem := { s.mem with flip := some mask } }.rset .FLIP_STATE 0 1) }

/-- FLIP_ARM. -/
def execFlipArm (w : Route) (v : Nat) (s : State) : Host.Outcome State Fault Refusal := write w .FLIP_ARM 0 v hFlipArm s

end Sys2Proof.Machine
end

