-- ==== Sys2Proof/Machine/Bist.lean ====
section
/-! DEFINITION. Self-test and repair (R401 to R411): the March algorithms and their signature, in-field slices, off-line tests,
and the allocation of spare cells. -/

namespace Sys2Proof.Machine

/-! Algorithms and signature (R402, R403). -/

/-- One step of an algorithm (R402): its address order, and on each address its operations, a read of its expected value or a write
of its value. -/
structure MarchStep where
  down : Bool
  ops : List (Bool × Bool)

/-- The operations r0, r1, w0 and w1: whether it is a read, and of which value. -/
def r0 : Bool × Bool := (true, false)
def r1 : Bool × Bool := (true, true)
def w0 : Bool × Bool := (false, false)
def w1 : Bool × Bool := (false, true)

/-- The steps of each algorithm (R402); where either order is allowed, addresses ascend. -/
def marchSteps : Nat → List MarchStep
  | 0 => [⟨false, [w0]⟩, ⟨false, [r0, w1]⟩, ⟨false, [r1, w0]⟩, ⟨true, [r0, w1]⟩, ⟨true, [r1, w0]⟩, ⟨false, [r0]⟩]
  | 1 => [⟨false, [w0]⟩, ⟨false, [r0, w1]⟩, ⟨true, [r1, w0]⟩]
  | 2 => [⟨false, [w0]⟩, ⟨false, [r0, w1, r1, w0, r0, w1]⟩, ⟨false, [r1, w0, w1]⟩, ⟨true, [r1, w0, w1, w0]⟩,
      ⟨true, [r0, w1, w0]⟩]
  | _ => [⟨false, [w0]⟩, ⟨false, [r0, r0, w0, r0, w1]⟩, ⟨false, [r1, r1, w1, r1, w0]⟩, ⟨true, [r0, r0, w0, r0, w1]⟩,
      ⟨true, [r1, r1, w1, r1, w0]⟩, ⟨false, [r0]⟩]

/-- Operations per address (R402). -/
def marchOps (algo : Nat) : Nat := ((marchSteps algo).map (fun x => x.ops.length)).sum

/-- Addresses of a kind of target (R401). -/
def bistAddresses : Nat → Nat
  | 0 => 16384
  | 1 => 512
  | _ => 65536

/-- Cells of an address that are all 1, folded to 64 bits (R403). -/
def onesFold : Nat → BitVec 64
  | 0 => 0x3FFFFF
  | 1 => 0xFFFFFFFFFFFFFF00
  | _ => Config.descriptorOnes

/-- One clock of a MISR with the polynomial x^64 + x^4 + x^3 + x + 1 (R403). -/
def misrClock (m d : BitVec 64) : BitVec 64 := (m <<< 1) ^^^ (if m.msb then 0x1B else 0) ^^^ d

/-- An operation as the engine performs it: the step, the address, its place within the step, and what it does. -/
structure MarchOp where
  step : Nat
  address : Nat
  op : Nat
  reads : Bool
  value : Bool

/-- The operations of one step, over a number of addresses from one on. -/
def stepTrace (step : Nat) (x : MarchStep) (first n : Nat) : List MarchOp :=
  let up := (List.range n).map (· + first)
  (if x.down then up.reverse else up).flatMap (fun a =>
    x.ops.zipIdx.map (fun o => { step, address := a, op := o.2, reads := o.1.1, value := o.1.2 }))

/-- Every operation of an algorithm in order, over a number of addresses from one on. -/
def marchTrace (algo first n : Nat) : List MarchOp :=
  (marchSteps algo).zipIdx.flatMap (fun x => stepTrace x.2 x.1 first n)

/-- A failed read is this operation's. -/
def failsAt (o : MarchOp) (f : BistRead) : Bool := o.reads && f.step == o.step && f.address == o.address && f.op == o.op

/-- The cells that an operation read wrong, folded to 64 bits (R403). -/
def wrongFold (fails : List BistRead) (o : MarchOp) : BitVec 64 :=
  ((fails.filter (failsAt o)).flatMap (·.cells)).foldl (fun m c => m ^^^ (1#64 <<< (c % 64))) 0

/-- A MISR over the reads of some operations, of which some fail (R403). -/
def misrOver (ones : BitVec 64) (fails : List BistRead) (ops : List MarchOp) (m : BitVec 64) : BitVec 64 :=
  ops.foldl (fun m o => if o.reads then misrClock m ((if o.value then ones else 0) ^^^ wrongFold fails o) else m) m

/-! Results (R404). -/

/-- A self-test runs or waits for its window (R373). -/
def State.bistRunning (s : State) : Bool := s.rget .BIST_STATE == 1

/-- The test at its end (R404): state, result, record, and source 13 of R385. -/
def closeTest (s : State) : State :=
  let b := s.bist
  let ok := b.complete && !b.aborted && s.rget .BIST_EXECUTED == s.rget .BIST_PLANNED
  let result := if !ok then 3 else if b.mismatch || b.misr != b.refMisr then 2 else 1
  let s := (s.rset .BIST_STATE 0 3).rset .BIST_RESULT 0 result
  let s := { s with bist := { b with spare := none, phase := none, failStatus := b.failStatus || result == 2 } }
  let items := leBytes 2 (s.rget .BIST_TARGET) ++ leBytes 1 (s.rget .BIST_ALGO) ++ leBytes 4 (s.rget .BIST_EXECUTED)
    ++ leBytes 4 (s.rget .BIST_FAIL_ADDR)
  let s := latchIrq 13 s
  if result = 1 then s.raise sevInfo 0x4001 0 items
  else if result = 2 then s.raise sevWarning 0x4002 0 items
  else s.raise sevNotice 0x4003 0 items

/-- The record of a memory beyond repair whose move is refused, or of a repair that the keeper did not take (R410, R411). -/
def beyondRecord (s : State) : State := s.raise sevError 0x4005 0 []

/-- The end of a test (R404, R407, R410): the result, then what waited for it. -/
def endTest (s : State) : State :=
  let n := s.rget .BIST_TARGET
  let b := s.bist
  let kind := s.rget .BIST_KIND
  let s := closeTest s
  let s := { s with bist := { s.bist with moveDue := false, unlockDue := false, beyond := false } }
  let s := if b.unlockDue && s.rget .VAULT_STATE = 1 then s.rset .VAULT_STATE 0 2 else s
  let s := if b.moveDue || (b.beyond && kind = 0) then
      match s.substitute (n / 64) (n % 64) with
      | some t => t
      | none => beyondRecord s
    else s
  if b.beyond && kind != 0 then beyondRecord s else s

/-! Repair (R409 to R411). -/

/-- The ID of the record of a target's memory, with part 0 (R411): a bank served by a spare is that spare. -/
def State.repairId (s : State) (kind target : Nat) : Nat :=
  let place := if kind = 0 then s.placeOfBank target else 0
  if kind = 0 && Nat.ble 64 place then 0x10000 + target / 64 * 4 + (place - 64) else kind * 2 ^ 28 + target

/-- Spare rows and spare columns of a kind (R409). -/
def spareCells : Nat → Nat × Nat
  | 0 => (16, 4)
  | 1 => (4, 1)
  | _ => (32, 0)

/-- A memory with no spare in use. -/
def Repair.none : Repair := { rows := [], cols := [] }

/-- The cell positions that fail in 3 or more addresses (R409). -/
def failingColumns (fails : List (Nat × Nat)) : List Nat :=
  let cols := (fails.map (·.2)).eraseDups
  cols.filter (fun c => Nat.ble 3 ((fails.filter (fun f => f.2 == c)).map (·.1)).eraseDups.length)

/-- The new spares that a log of failures takes: the columns, and the addresses for rows (R409). -/
def spareNeeds (fails : List (Nat × Nat)) : List Nat × List Nat :=
  let cols := failingColumns fails
  (cols, ((fails.filter (fun f => !cols.contains f.2)).map (·.1)).eraseDups)

/-- An address given a spare row; the spare row that served it, having failed, is given up (R409). -/
def Repair.addRow (r : Repair) (a : Nat) : Repair :=
  { r with rows := r.rows.map (fun x => if x = a then 65536 else x) ++ [a] }

/-- A repair record (R411). -/
def repairRecord (id : Nat) (rows cols : List Nat) (gen : Nat) : BitVec 512 :=
  let row (j : Nat) : Nat := rows.getD j 65536
  let used := (List.range 16).foldl (fun m j => m + flagBit (Nat.blt (row j) 65536) j) 0
  let body := leBytes 4 id ++ ((List.range 16).map (fun j => leBytes 2 (row j % 65536))).flatten
    ++ ((List.range 4).map (fun j => leBytes 1 (cols.getD j 0xFF))).flatten ++ leBytes 2 used ++ leBytes 14 0 ++ leBytes 4 gen
  sectorOf (body ++ leBytes 4 (crc32c body))

/-- The sectors of the repair-map region that hold repair records (R411). -/
def repairFirst : Nat := 38592
def repairSectors : Nat := 1984

/-- The sector of a record: its own, or the lowest free one. -/
def State.repairHome (s : State) (id : Nat) : Option Nat :=
  match mfind s.bist.homes id with
  | some h => some h
  | none => ((List.range (s.bist.homes.length + 1)).map (fun i => repairFirst + i)).find? (fun h =>
      Nat.blt h (repairFirst + repairSectors) && !s.bist.homes.any (fun p => p.2 == h))

/-- A record taken to the keeper, or the ERROR record where it cannot be (R411). -/
def keepRepair (id : Nat) (rows cols : List Nat) (s : State) : State :=
  match (if s.keeper.failed then none else s.repairHome id) with
  | none => beyondRecord s
  | some h =>
    if s.worn h then beyondRecord s
    else
      let gen := sectorGen (mget s.keeper.sectors h 0) + 1
      let s := writeSector h (repairRecord id rows cols gen) s
      { s with bist := { s.bist with homes := mput s.bist.homes id h } }

/-- The WARNING record of one spare taken (R409): target, address, and spare, columns numbered after the rows. -/
def spareRecord (target address spare : Nat) (s : State) : State :=
  (s.rinc .BIST_REPAIRS).raise sevWarning 0x4004 0 (leBytes 2 target ++ leBytes 4 address ++ leBytes 1 spare)

/-- The allocation of spares for a log of failures (R409, R410). -/
def allocateSpares (fails : List (Nat × Nat)) (s : State) : State :=
  let kind := s.rget .BIST_KIND
  let target := s.rget .BIST_TARGET
  let id := s.repairId kind target
  let r := mget s.bist.repairs id Repair.none
  let need := spareNeeds fails
  let most := spareCells kind
  if fails = [] then s
  else if Nat.blt 64 fails.length || Nat.blt most.1 (r.rows.length + need.2.length)
      || Nat.blt most.2 (r.cols.length + need.1.length) then
    { s with bist := { s.bist with beyond := true } }
  else
    let r' := need.2.foldl (fun x a => x.addRow a) { r with cols := r.cols ++ need.1 }
    let firstOf (c : Nat) : Nat := match fails.find? (fun f => f.2 == c) with | some f => f.1 | none => 0
    let s := { s with bist := { s.bist with repairs := mput s.bist.repairs id r' } }
    let s := (List.range need.1.length).foldl
      (fun t i => spareRecord target (firstOf (need.1.getD i 0)) (most.1 + r.cols.length + i) t) s
    let s := (List.range need.2.length).foldl (fun t i => spareRecord target (need.2.getD i 0) (r.rows.length + i) t) s
    let s := keepRepair id (r'.rows.take 16) r'.cols s
    if Nat.blt 16 r'.rows.length then keepRepair (id + 1) (r'.rows.drop 16) [] s else s

/-- Repair records at BOOT (R411): applied, and one whose CRC fails ignored with an ERROR record; none where the keeper cannot be
read (R397). -/
def bootRepairs (s : State) : State :=
  let mine := (if s.keeper.failed then [] else s.keeper.sectors).filter (fun p => Nat.ble repairFirst p.1 && Nat.blt p.1 (repairFirst + repairSectors))
  let s := { s with bist := { s.bist with repairs := [], homes := [] } }
  mine.foldl
    (fun t p =>
      if !s.sectorGood p.1 then beyondRecord t
      else
        let v := p.2.toNat
        let id := bitsOf v 31 0
        let used := bitsOf v 335 320
        let rows := (List.range 16).map (fun j => if bitOf used j then bitsOf v (32 + 16 * j + 15) (32 + 16 * j) else 65536)
        let top := (List.range 16).foldl (fun m j => if bitOf used j then j + 1 else m) 0
        let cols := ((List.range 4).map (fun j => bitsOf v (288 + 8 * j + 7) (288 + 8 * j))).filter (· != 0xFF)
        let part := if id / 2 ^ 28 = 2 then id % 2 else 0
        let old := mget t.bist.repairs (id - part) Repair.none
        let rows := rows.take top
        let r : Repair :=
          if part = 1 then { old with rows := old.rows ++ List.replicate (16 - old.rows.length) 65536 ++ rows }
          else { rows := rows ++ old.rows.drop 16, cols }
        { t with bist := { t.bist with repairs := mput t.bist.repairs (id - part) r
                                       homes := mput t.bist.homes id p.1 } })
    s

/-! Running a test. -/

/-- The target of the selection is in its kind's range, and its mode is permitted for the kind (R401). -/
def State.bistSelectable (s : State) : Bool :=
  let t := s.rget .BIST_TARGET
  (match s.rget .BIST_KIND with
    | 0 => Nat.blt t 4096
    | 1 => Nat.blt t 8192
    | _ => t == 0)
  && (s.rget .BIST_MODE == 1 || s.rget .BIST_KIND == 0)

/-- A bank that a LOADED or REPAIR plane of its Quarter's Districts schedules for C0 (R401). -/
def State.c0Planned (s : State) (n : Nat) : Bool :=
  (List.range 16).any (fun i =>
    let p := s.plane (16 * (n / 64) + i)
    (p.state == 2 || p.state == 3) && p.c0Banks.getLsbD (n % 64))

/-- The abort of the handover with which an off-line test of a bank begins (R408). -/
def State.testOwner (s : State) : Option Nat :=
  if s.rget .BIST_MODE = 1 && s.rget .BIST_KIND = 0 && s.bistSelectable then s.ownerRefusal (s.rget .BIST_TARGET) 0x82 else none

/-- The abort of R360, R373 and R408 for BIST_GO, past orders 1 to 5 of R354; none where the test starts. -/
def State.bistRefusal (s : State) : Option Nat :=
  let n := s.rget .BIST_TARGET
  if s.rget .BIST_MODE = 1 && s.dev != .idle && s.dev != .safe then some 5
  else if s.bistRunning then some 6
  else if s.rget .BIST_MODE = 0 then
    (if s.c0Planned n || (s.isVaultBank n && s.rget .VAULT_STATE == 2) then some 6 else none)
  else if s.rget .BIST_KIND = 2 && s.enabledQueues != [] then some 6
  else s.testOwner

/-- A test's counts and seeds (R403). -/
def seedTest (s : State) : State :=
  let kind := s.rget .BIST_KIND
  let planned := marchOps (s.rget .BIST_ALGO) * bistAddresses kind
  let seed := BitVec.ofNat 64 (planned * 2 ^ 32 + (bistAddresses kind - 1) * 65536)
  let s := (((s.rset .BIST_PLANNED 0 planned).rset .BIST_EXECUTED 0 0).rset .BIST_FAIL_ADDR 0 0xFFFFFFFF).rset
    .BIST_RESULT 0 0
  { (s.rset .BIST_SIG 0 0).rset .BIST_STATE 0 1 with
    bist := { s.bist with spare := none, slice := 0, phase := none, aborted := false, complete := false, mismatch := false
                          beyond := false, misr := seed, refMisr := seed, moveDue := false, unlockDue := false } }

/-- A test begins (R403, R405, R408). -/
def beginTest (s : State) : State :=
  let n := s.rget .BIST_TARGET
  let s := seedTest s
  if s.rget .BIST_MODE = 0 then
    match s.freeSpare (n / 64) with
    | some i => { s with bist := { s.bist with spare := some i } }
    | none => closeTest s
  else if s.rget .BIST_KIND = 0 then
    startHandover n 0x82 { s with bist := { s.bist with owner := (mfind s.bist.back n).getD (s.rget .OWNER n) } }
  else s

/-- BIST_GO (R373, R401). -/
def hBistGo : Handler :=
  { allow := fun _ v s => v == 0 || s.testOwner != some 3
    range := fun v s => v == 0 || (s.bistSelectable && s.testOwner != some 4)
    act := fun v s =>
      if v = 0 then .ok s
      else match s.bistRefusal with
        | some c => .error c
        | none => .ok (beginTest s) }

/-- BIST_GO. -/
def execBistGo (w : Route) (v : Nat) (s : State) : Host.Outcome State Fault Refusal := write w .BIST_GO 0 v hBistGo s

/-- A setting of the test, refused while one runs (R373). -/
def hBistSetting (e : El) : Handler := Handler.doing (fun v s =>
  if s.bistRunning then .error 6 else .ok (s.rset e 0 v))

/-- The failing address and cell position pairs that the engine logs, in the order met (R409). -/
def failLog (fails : List BistRead) (ops : List MarchOp) : List (Nat × Nat) :=
  (ops.flatMap (fun o => (fails.filter (failsAt o)).flatMap (fun f => f.cells.map (fun c => (o.address, c))))).eraseDups

/-- Operations performed (R403): counted, their reads clocked into both MISRs, and the first mismatch kept. -/
def clockReads (ops : List MarchOp) (fails : List BistRead) (s : State) : State :=
  let ones := onesFold (s.rget .BIST_KIND)
  let b := s.bist
  let s := s.radd .BIST_EXECUTED 0 ops.length
  let s := { s with bist := { b with refMisr := misrOver ones [] ops b.refMisr, misr := misrOver ones fails ops b.misr } }
  match failLog fails ops with
  | [] => s
  | f :: _ =>
    let s := if b.mismatch then s else s.rset .BIST_FAIL_ADDR 0 f.1
    { s with bist := { s.bist with mismatch := true } }

/-- The operations of the TEST phase of the slice in progress, or of an off-line test (R402, R405). -/
def State.testOps (s : State) : List MarchOp :=
  if s.rget .BIST_MODE = 1 then marchTrace (s.rget .BIST_ALGO) 0 (bistAddresses (s.rget .BIST_KIND))
  else marchTrace (s.rget .BIST_ALGO) (256 * s.bist.slice) 256

/-- The last operation on the last address has been performed: COMPLETE and the final clock (R403). -/
def completeTest (s : State) : State :=
  let b := s.bist
  { s with bist := { b with complete := true
                            misr := misrClock b.misr (BitVec.ofNat 64 (s.rget .BIST_EXECUTED))
                            refMisr := misrClock b.refMisr (BitVec.ofNat 64 (s.rget .BIST_PLANNED)) } }

/-- BIST_SIG shows the test MISR (R403). -/
def showSignature (s : State) : State := s.rset .BIST_SIG 0 s.bist.misr.toNat

/-- The phase of the slice in progress changed. -/
def setPhase (p : Option SlicePhase) (s : State) : State := { s with bist := { s.bist with phase := p } }

/-- The engine's requester index (R105). -/
def bistIndex : Nat := 6

/-- The slice's words copied between the bank and the shadow (R405). -/
def copySlice (toShadow : Bool) (s : State) : State :=
  let n := s.rget .BIST_TARGET
  let home := s.placeOfBank n
  let shadow := 64 + s.bist.spare.getD 0
  let first := sliceWords * s.bist.slice
  if toShadow then (copyWords n home shadow first sliceWords bistIndex s).1
  else (copyWords n shadow home first sliceWords bistIndex s).1

/-- The words of a slice in a place cleared. -/
def clearSlice (place : Nat) (s : State) : State :=
  let q := s.rget .BIST_TARGET / 64
  let first := sliceWords * s.bist.slice
  let s := dropCells q place first sliceWords s
  if s.mem.zeroed.contains (66 * q + place) then
    (List.range sliceWords).foldl (fun t i => t.setCellAt q place (first + i) StoredWord.invalid) s
  else s

/-- The slice in progress, or passed over, is done with: a sleep that waited for it is performed, and the next one is due, or the test
ends (R405 to R407). -/
def nextSlice (s : State) : State :=
  let s := setPhase none { s with bist := { s.bist with slice := s.bist.slice + 1 } }
  let s := fallAsleep (s.rget .BIST_TARGET) s
  if s.bist.aborted || s.bist.slice = 64 then endTest (showSignature s) else s

/-- BIST_SLICE_START (R406); a bank with a sleep held counts as not AWAKE (R407). -/
def execBistSliceStart (s : State) : Host.Outcome State Fault Refusal :=
  let n := s.rget .BIST_TARGET
  if !s.bistRunning || s.bist.spare.isNone || s.bist.phase.isSome || !s.bistAllowed n || s.rget .THROTTLE_F != 0
      || (mfind s.mem.moves (n / 64)).isSome || s.rget .INV_STATE n = 1 then .next s
  else if !s.isAwake n || (s.bank n).sleepHeld then .next (nextSlice s)
  else .next (setPhase (some .copy) s)

/-- BIST's accesses in a phase take their turn at the bank under test, at C3 and its own index (R105). -/
def bistTurn (s : State) : State := engineTurn (s.rget .BIST_TARGET) .bist 3 s

/-- BIST_PHASE_DONE: a phase of the slice in progress completes (R405); the reads of the TEST phase that failed come with it. -/
def execBistPhaseDone (fails : List BistRead) (s : State) : Host.Outcome State Fault Refusal :=
  let s := if s.bist.phase.isSome then bistTurn s else s
  match s.bist.phase with
  | none => .next s
  | some .copy => .next (setPhase (some .test) (copySlice true s))
  | some .test =>
    let ops := s.testOps
    let s := clockReads ops fails s
    let s := if s.bist.slice = 63 then completeTest s else s
    let s := clearSlice (s.placeOfBank (s.rget .BIST_TARGET)) (showSignature s)
    .next (setPhase (some .restore) (allocateSpares (failLog fails ops) s))
  | some .restore => .next (setPhase (some .clear) (copySlice false s))
  | some .clear => .next (nextSlice (clearSlice (64 + s.bist.spare.getD 0) s))

/-- Every queue back at its reset descriptor (R408). -/
def resetDescriptors (s : State) : State :=
  { s with regs := s.regs.filter (fun p => !(queueElements.map (·.ctorIdx)).contains (keyEl p.1)) }

/-- A bank after its off-line test (R408): its invalidation begins (R293), at whose end it goes back to its owner. DESIGN CHOICE
(log entry 226): a bank that another handover has meanwhile given away stays with its new owner. -/
def returnBank (n : Nat) (s : State) : State :=
  let b := s.bist
  let back := if s.rget .OWNER n = 0x82 then mput b.back n b.owner else b.back
  { s.rset .INV_STATE n 1 with bist := { b with back } }

/-- The end of an off-line test (R408): its target's content is lost, and a bank goes back to its owner. -/
def endOffline (s : State) : State :=
  let n := s.rget .BIST_TARGET
  let s := showSignature s
  let s := match s.rget .BIST_KIND with
    | 0 => returnBank n s
    | 1 => { s with dram := mset s.dram n 0 0 }
    | _ => resetDescriptors s
  endTest s

/-- BIST_OFFLINE_DONE (R408): the algorithm has run over the whole range; a throttled engine is paused, and its
accesses stall on a handover or an invalidation of its bank (R111, R293). -/
def execBistOfflineDone (fails : List BistRead) (s : State) : Host.Outcome State Fault Refusal :=
  let kind := s.rget .BIST_KIND
  if !s.bistRunning || s.rget .BIST_MODE = 0 || s.rget .THROTTLE_F != 0
      || (kind = 0 && (s.rget .HANDOVER (s.rget .BIST_TARGET) = 1 || s.rget .INV_STATE (s.rget .BIST_TARGET) = 1)) then .next s
  else
    let s := if kind = 0 then bistTurn s else s
    let ops := s.testOps
    .next (endOffline (allocateSpares (failLog fails ops) (completeTest (clockReads ops fails s))))

/-- The algorithm stopped before its last operation (R407): how many it had performed, and what it had met, are free; the failures met
are kept and logged as those of a whole run are. -/
def cutShort (s : State) : List (Nat × Nat) × State :=
  let ops := s.testOps.take (Config.operationsDone s.fv % s.testOps.length)
  let fails := Config.readsFailed s.fv
  (failLog fails ops, clockReads ops fails s.draw.2)

/-- What BIST_ABORT does, and every event that acts as one (R407, R408). -/
def abortTest (s : State) : State :=
  if !s.bistRunning then s
  else
    let s := { s with bist := { s.bist with aborted := true } }
    if s.rget .BIST_MODE = 1 then
      let r := cutShort s
      endOffline (allocateSpares r.1 r.2)
    else match s.bist.phase with
      | none => endTest (showSignature s)
      | some .copy => setPhase (some .clear) s
      | some .test =>
        let r := cutShort s
        let s := clearSlice (s.placeOfBank (s.rget .BIST_TARGET)) (showSignature r.2)
        setPhase (some .restore) (allocateSpares r.1 s)
      | some .restore => s
      | some .clear => s

/-- BIST_ABORT (R407). -/
def hBistAbort : Handler := Handler.doing (fun v s => .ok (if v = 1 then abortTest s else s))

/-- BIST_ABORT. -/
def execBistAbort (w : Route) (v : Nat) (s : State) : Host.Outcome State Fault Refusal := write w .BIST_ABORT 0 v hBistAbort s

/-- A wipe stops a test of a Vault bank at once, with no restore (R407). -/
def stopTest (s : State) : State :=
  let n := s.rget .BIST_TARGET
  if s.bistRunning && s.rget .BIST_KIND = 0 && inVaultPlace n then
    let s := { s with bist := { s.bist with aborted := true } }
    let s := if s.rget .BIST_MODE = 1 || s.bist.phase == some .test then (cutShort s).2 else s
    let s := match s.bist.phase, s.bist.spare with
      | some _, some sp => clearSlice (64 + sp) s
      | _, _ => s
    if s.rget .BIST_MODE = 1 then endOffline s else endTest (showSignature s)
  else s

end Sys2Proof.Machine
end

