-- ==== Sys2Proof/Machine/DistrictRam.lean ====
section
/-! DEFINITION. District RAM (R147 to R150): what both ports of a block do in one fabric cycle. A block is 36,864 cells, row r in
bits 72r + 71 to 72r. The numbers of pins and output bits are the model's own. -/

namespace Sys2Proof.Machine

/-- What user logic gives a port in a cycle: the write and the read request, the address, the lane enables, the data, and INC. -/
structure RamAccess where
  write : Bool
  read : Bool
  addr : Nat
  lanes : Nat
  data : Nat
  inc : Nat
deriving DecidableEq, Repr

/-- The number of pins of a port, and the access that they spell. -/
def ramPins : Nat := 102
def accessOf (v : BitVec 102) : RamAccess :=
  { write := v.getLsbD 0, addr := bitsOf v.toNat 12 1, lanes := bitsOf v.toNat 20 13, data := bitsOf v.toNat 92 21
    inc := bitsOf v.toNat 100 93, read := v.getLsbD 101 }

/-- The bits of a word of a shape (R147). -/
def RamShape.width : RamShape → Nat
  | .w9 => 9
  | .w18 => 18
  | .w36 => 36
  | .w72 => 72

/-- The first cell of the word that a port addresses (R147): a row holds 72 / width words, so word w lies at width × w. -/
def firstCell (g : RamPortSettings) (x : RamAccess) : Nat := g.shape.width * (x.addr % (36864 / g.shape.width))

/-- A stretch of cells, and the cells with a stretch replaced. -/
def cellsAt (c : BitVec 36864) (first n : Nat) : Nat := bitsOf c.toNat (first + n - 1) first
def putCells (c : BitVec 36864) (first n v : Nat) : BitVec 36864 :=
  let mask := BitVec.ofNat 36864 (2 ^ n - 1) <<< first
  (c &&& ~~~mask) ||| (BitVec.ofNat 36864 (v % 2 ^ n) <<< first)

/-- A write by its lane enables, one for each 9 bits that the port covers (R147). -/
def writeLanes (g : RamPortSettings) (x : RamAccess) (c : BitVec 36864) : BitVec 36864 :=
  ((List.range (g.shape.width / 9)).filter (fun l => bitOf x.lanes l)).foldl
    (fun c l => putCells c (firstCell g x + 9 * l) 9 (bitsOf x.data (9 * l + 8) (9 * l))) c

/-! PROTECT (R149): 64 data bits and the 8 check bits of R289. -/

/-- A row with fresh check bits. -/
def protectedRow (data : Nat) : Nat := data % 2 ^ 64 + (checkOf (BitVec.ofNat 64 data)).toNat * 2 ^ 64

/-- The data of a write: lanes that are not enabled are written as zero. -/
def enabledData (x : RamAccess) : Nat :=
  ((List.range 8).map (fun l => if bitOf x.lanes l then bitsOf x.data (9 * l + 8) (9 * l) * 2 ^ (9 * l) else 0)).sum

/-- A protected write: on the whole row where any lane is enabled. -/
def writeProtected (g : RamPortSettings) (x : RamAccess) (c : BitVec 36864) : BitVec 36864 :=
  if x.lanes = 0 then c else putCells c (firstCell g x) 72 (protectedRow (enabledData x))

/-- A protected read of a row: the word, corrected where one bit is wrong and as it stands where two are, with CORR and
UNCORR. -/
def readProtected (row : Nat) : Nat × Bool × Bool :=
  let data := BitVec.ofNat 64 row
  let syn := (checkOf data ^^^ BitVec.ofNat 8 (row / 2 ^ 64)).toNat
  if syn = 0 then (row, false, false)
  else match columnIndex syn dataColumns 0 with
    | some i => (protectedRow (data ^^^ (1#64 <<< i)).toNat, true, false)
    | none => if atMostOneBit syn then (protectedRow data.toNat, true, false) else (row, false, true)

/-! A cycle. -/

/-- PROTECT and COUNT act where the manual allows them (R149, R150). -/
def RamSettings.protects (g : RamSettings) : Bool := g.protect && !g.count && g.a.shape == .w72 && g.b.shape == .w72
def RamSettings.counts (g : RamSettings) : Bool := g.count && (g.a.shape == .w18 || g.a.shape == .w36)

/-- The write of a port; write enables that are held off suppress it (R138, R179). -/
def portWrite (g : RamSettings) (p : RamPortSettings) (x : RamAccess) (c : BitVec 36864) : BitVec 36864 :=
  if x.write then (if g.protects then writeProtected p x c else writeLanes p x c) else c

/-- An output of a port: the word in bits 71:0, CORR in bit 72 and UNCORR in bit 73. -/
def portWord (n : Nat) (corr uncorr : Bool) : BitVec 74 := BitVec.ofNat 74 (n % 2 ^ 72 + flagBit corr 72 + flagBit uncorr 73)

/-- What a port's output takes at the end of a cycle (R147, R148): a read returns the cells before the cycle's writes, checked
under PROTECT; a writing port follows WVIEW, and one that neither reads nor writes keeps its output. -/
def portOutput (g : RamSettings) (p : RamPortSettings) (x : RamAccess) (before after : BitVec 36864) (kept : BitVec 74) :
    BitVec 74 :=
  let word (c : BitVec 36864) : Nat := cellsAt c (firstCell p x) p.shape.width
  if x.write then
    match p.view with
    | .prior => portWord (word before) false false
    | .posted => portWord (word after) false false
    | .still => kept
  else if !x.read then kept
  else if g.protects then
    let r := readProtected (word before)
    portWord r.1 r.2.1 r.2.2
  else portWord (word before) false false

/-- A count request (R150): the saturated sum of the word and INC. -/
def countedSum (p : RamPortSettings) (x : RamAccess) (c : BitVec 36864) : Nat :=
  Nat.min (cellsAt c (firstCell p x) p.shape.width + x.inc) (2 ^ p.shape.width - 1)

/-- The cells as port B reads them: without the count of the cycle before (R150). -/
def RamPorts.lagging (r : RamPorts) (c : BitVec 36864) : BitVec 36864 :=
  match r.counted with
  | some (first, n, v) => putCells c first n v
  | none => c

/-- A cycle of a block in COUNT (R150): port A counts, port B reads and drops writes. -/
def countCycle (g : RamSettings) (a b : RamAccess) (c : BitVec 36864) (r : RamPorts) : BitVec 36864 × RamPorts :=
  let first := firstCell g.a a
  let n := g.a.shape.width
  let sum := countedSum g.a a c
  let c' := putCells c first n sum
  (c', { outA := portWord sum false false, outB := portOutput g g.b { b with write := false } (r.lagging c) c' r.outB
         regA := r.outA, regB := r.outB
         counted := if a.inc = 0 then none else some (first, n, cellsAt c first n) })

/-- A cycle of a block whose ports read and write (R147, R148): where both write a lane, A's data is stored. -/
def portCycle (g : RamSettings) (a b : RamAccess) (c : BitVec 36864) (r : RamPorts) : BitVec 36864 × RamPorts :=
  let c' := portWrite g g.a a (portWrite g g.b b c)
  (c', { outA := portOutput g g.a a c c' r.outA, outB := portOutput g g.b b c c' r.outB, regA := r.outA, regB := r.outB
         counted := none })

/-- A port whose write enables are held off (R179): it writes and counts nothing. -/
def RamAccess.held (x : RamAccess) : RamAccess := { x with lanes := 0, inc := 0 }

/-- A fabric cycle of a block. -/
def ramCycle (g : RamSettings) (weHeld : Bool) (a b : RamAccess) (c : BitVec 36864) (r : RamPorts) : BitVec 36864 × RamPorts :=
  let a := if weHeld then a.held else a
  let b := if weHeld then b.held else b
  if g.counts then countCycle g a b c r else portCycle g a b c r

/-- What a port presents (R147): with its output register one cycle later. -/
def RamPorts.shows (g : RamSettings) (r : RamPorts) (port : Nat) : BitVec 74 :=
  if port = 0 then (if g.a.outReg then r.regA else r.outA) else (if g.b.outReg then r.regB else r.outB)

/-- The port reads in the cycle (R147): one that writes does not. -/
def RamAccess.reads (x : RamAccess) : Bool := x.read && !x.write

/-- The reads of a cycle that found one wrong bit, and the rows in which a read found two (R149). -/
def ramCorrections (a b : RamAccess) (r : RamPorts) : Nat :=
  (if a.reads && r.outA.getLsbD 72 then 1 else 0) + (if b.reads && r.outB.getLsbD 72 then 1 else 0)
def ramDoubles (a b : RamAccess) (r : RamPorts) : List Nat :=
  (if a.reads && r.outA.getLsbD 73 then [a.addr % 512] else []) ++ (if b.reads && r.outB.getLsbD 73 then [b.addr % 512] else [])

end Sys2Proof.Machine
end

