-- ==== Sys2Proof/Machine/Tally.lean ====
section
/-! DEFINITION. Tally tiles (R152 to R157): two multipliers with accumulators, the adder tree, and the sorting network with its
merge chain. A tile keeps what its input register captured in the last cycles, and each function reads the inputs of as many
cycles ago as R157 counts registers; the numbers of pins and output bits are the model's own. -/

namespace Sys2Proof.Machine

/-! Pins: A and B of multiplier 0 and 1, C of each, LOAD and CLR of each, the tree's inputs and enables, and the elements. -/

/-- A stretch of a tile's pins. -/
def pinsOf (v : BitVec 768) (first n : Nat) : BitVec n := v.extractLsb' first n

/-- The operands of multiplier m. -/
def pinA (m : Nat) (v : BitVec 768) : BitVec 27 := pinsOf v (54 * m) 27
def pinB (m : Nat) (v : BitVec 768) : BitVec 27 := pinsOf v (54 * m + 27) 27
def pinC (m : Nat) (v : BitVec 768) : BitVec 48 := pinsOf v (108 + 48 * m) 48
def pinLoad (m : Nat) (v : BitVec 768) : Bool := v.getLsbD (204 + 2 * m)
def pinClr (m : Nat) (v : BitVec 768) : Bool := v.getLsbD (205 + 2 * m)

/-- The adder tree's inputs and enables, and the sorting network's elements. -/
def pinTree (i : Nat) (v : BitVec 768) : BitVec 18 := pinsOf v (208 + 18 * i) 18
def pinTreeOn (i : Nat) (v : BitVec 768) : Bool := v.getLsbD (496 + i)
def pinElements (v : BitVec 768) : List (BitVec 32) := (List.range 8).map (fun i => pinsOf v (512 + 32 * i) 32)

/-! Multipliers (R152, R153). -/

/-- A value read as signed or unsigned. -/
def intOf {w : Nat} (signed : Bool) (v : BitVec w) : Int := if signed then v.toInt else v.toNat

/-- The result of a multiplier is signed when an operand is. -/
def MulSettings.signed (x : MulSettings) : Bool := x.signedA || x.signedB

/-- The full product without the bits below PSHIFT (R152): P before it is cut to 48 bits. -/
def MulSettings.exact (x : MulSettings) (m : Nat) (v : BitVec 768) : Int :=
  intOf x.signedA (pinA m v) * intOf x.signedB (pinB m v) / 2 ^ Nat.min x.pshift 6

/-- The range of a 48-bit result (R153). -/
def MulSettings.lowest (x : MulSettings) : Int := if x.signed then -(2 ^ 47) else 0
def MulSettings.highest (x : MulSettings) : Int := if x.signed then 2 ^ 47 - 1 else 2 ^ 48 - 1

/-- A value does not fit a 48-bit result. -/
def MulSettings.overflows (x : MulSettings) (n : Int) : Bool := decide (n < x.lowest) || decide (x.highest < n)

/-- A 48-bit result (R153): it wraps, or saturates under ACC_SAT. -/
def MulSettings.result (x : MulSettings) (n : Int) : BitVec 48 :=
  if x.accSat && decide (n < x.lowest) then BitVec.ofInt 48 x.lowest
  else if x.accSat && decide (x.highest < n) then BitVec.ofInt 48 x.highest
  else BitVec.ofInt 48 n

/-- The multiplier's settings. -/
def TallySettings.mulOf (t : TallySettings) (m : Nat) : MulSettings := if m = 0 then t.mul0 else t.mul1

/-- The single value P of a multiplier, P0 + P1 in PAIR mode for the first (R152), and whether product bits are lost (R153). -/
def TallySettings.product (t : TallySettings) (m : Nat) (v : BitVec 768) : Int × Bool :=
  let p := (t.mulOf m).exact m v
  if t.pair && m == 0 then
    let q := t.mul1.exact 1 v
    (p + q, t.mul0.overflows p || t.mul1.overflows q)
  else (p, (t.mulOf m).overflows p)

/-- MULT_PIPE within its range (R157). -/
def MulSettings.stages (x : MulSettings) : Nat := Nat.max 2 (Nat.min x.pipe 4)

/-- How many cycles after the input register the product is ready: MULT_PIPE, and one more in PAIR mode (R157). -/
def TallySettings.depth (t : TallySettings) (m : Nat) : Nat := (t.mulOf m).stages + (if t.pair then 1 else 0)

/-- What a tile's input register captured d cycles before the last one. -/
def Tile.ins (x : Tile) (d : Nat) : BitVec 768 := x.line.getD d 0

/-- The accumulator, OVF of its last result, and STICKY_OVF of multiplier m. -/
def Tile.acc (x : Tile) (m : Nat) : BitVec 48 := if m = 0 then x.acc0 else x.acc1
def Tile.accOvf (x : Tile) (m : Nat) : Bool := if m = 0 then x.ovf0 else x.ovf1
def Tile.sticky (x : Tile) (m : Nat) : Bool := if m = 0 then x.sticky0 else x.sticky1

/-- The result of multiplier m in the present cycle, with OVF (R152, R153): MUL and MADD from their pipeline, MAC from ACC. -/
def mulOutput (t : TallySettings) (x : Tile) (m : Nat) : BitVec 48 × Bool :=
  let g := t.mulOf m
  let v := x.ins (t.depth m)
  let p := t.product m v
  match g.mode with
  | .mul => (g.result p.1, p.2 || g.overflows p.1)
  | .madd =>
    let n := p.1 + intOf g.signed (pinC m v)
    (g.result n, p.2 || g.overflows n)
  | .mac => (x.acc m, x.accOvf m)

/-- STICKY_OVF of multiplier m (R153). -/
def mulSticky (t : TallySettings) (x : Tile) (m : Nat) : Bool := x.sticky m || (mulOutput t x m).2

/-- ACC after the present cycle, with OVF of the result (R152, R153): CLR before LOAD before accumulation; outside MAC, and for
the second of a pair, it keeps its value. -/
def accNext (t : TallySettings) (x : Tile) (m : Nat) : BitVec 48 × Bool :=
  let g := t.mulOf m
  let v := x.ins (t.depth m)
  if g.mode != .mac || (t.pair && m == 1) then (x.acc m, x.accOvf m)
  else if pinClr m v then (0, false)
  else
    let p := t.product m v
    let n := if pinLoad m v then p.1 else intOf g.signed (x.acc m) + p.1
    (g.result n, p.2 || g.overflows n)

/-! The adder tree (R154). -/

/-- The sum of the enabled inputs, each signed or unsigned, in 22 bits. -/
def treeSum (signed : BitVec 16) (v : BitVec 768) : BitVec 22 :=
  BitVec.ofInt 22 (((List.range 16).map (fun i => if pinTreeOn i v then intOf (signed.getLsbD i) (pinTree i v) else 0)).sum)

/-! The sorting network (R155) and the merge chain (R156). -/

/-- KEY and V of an element. -/
def elementKey (e : BitVec 32) : Nat := bitsOf e.toNat 17 0
def elementValid (e : BitVec 32) : Bool := e.getLsbD 31

/-- An element comes before another whatever their input indices: valid before invalid, then by KEY in the tile's ORDER. -/
def comesBefore (ascending : Bool) (a b : BitVec 32) : Bool :=
  elementValid a && (!elementValid b || (if ascending then decide (elementKey a < elementKey b) else decide (elementKey b < elementKey a)))

/-- An element put into a sorted set whose elements have higher input indices. -/
def insertElement (ascending : Bool) (x : BitVec 32) : List (BitVec 32) → List (BitVec 32)
  | [] => [x]
  | y :: ys => if comesBefore ascending y x then y :: insertElement ascending x ys else x :: y :: ys

/-- The sorted set: among equal keys the lower input index comes first (R155). -/
def sortElements (ascending : Bool) : List (BitVec 32) → List (BitVec 32)
  | [] => []
  | x :: xs => insertElement ascending x (sortElements ascending xs)

/-- An element with V = 0, its other bits unchanged. -/
def invalidElement (e : BitVec 32) : BitVec 32 := e &&& 0x7FFFFFFF#32

/-- The first 8 of the union of a tile's own set and the elements that arrive, which come first among equal keys (R156). -/
def mergeElements (ascending : Bool) (arriving own : List (BitVec 32)) : List (BitVec 32) :=
  (sortElements ascending (arriving ++ own)).take 8

/-- The tile's own sorted set, 4 registers after the elements' launch (R157). -/
def ownSet (t : TallySettings) (x : Tile) : List (BitVec 32) := sortElements t.order (pinElements (x.ins 3))

/-- The set that a tile gives: its own, or with MERGE_EN the merged one, 2 registers later (R156, R157). -/
def tileSet (t : TallySettings) (x : Tile) : List (BitVec 32) := if t.mergeEn then x.merged.getD 1 [] else ownSet t x

/-- What the merge port of a tile takes from the tile before it: the first MERGE_K elements, the one tile's number giving how
many are passed and the other's how many are taken; from a tile of the other ORDER, as though invalid (R156). -/
def mergeArrives (before own : TallySettings) (x : Tile) : List (BitVec 32) :=
  let l := (tileSet before x).take (Nat.min before.mergeK own.mergeK)
  if before.order == own.order then l else l.map invalidElement

/-- A tile after a cycle: it captures its pins, its pipelines move on, and held user resets keep its accumulators at 0 (R153). -/
def tileNext (t : TallySettings) (arriving : List (BitVec 32)) (pins : BitVec 768) (resetHeld : Bool) (x : Tile) : Tile :=
  let a := accNext t x 0
  let b := accNext t x 1
  let keep (m : Nat) : Bool := !pinClr m (x.ins (t.depth m)) && mulSticky t x m
  { line := (pins :: x.line).take 8
    acc0 := if resetHeld then 0 else a.1
    acc1 := if resetHeld then 0 else b.1
    ovf0 := a.2, ovf1 := b.2, sticky0 := keep 0, sticky1 := keep 1
    merged := (mergeElements t.order arriving (ownSet t x) :: x.merged).take 2 }

/-- The outputs of a tile by bit: the results of both multipliers, OVF and STICKY_OVF of both, the tree, and the set. -/
def tileOutput (t : TallySettings) (x : Tile) (bit : Nat) : Bool :=
  if bit < 96 then (mulOutput t x (bit / 48)).1.getLsbD (bit % 48)
  else if bit < 98 then (mulOutput t x (bit - 96)).2
  else if bit < 100 then mulSticky t x (bit - 98)
  else if bit < 122 then (treeSum t.treeSigned (x.ins (1 + Nat.min t.treePipe 3))).getLsbD (bit - 100)
  else ((tileSet t x).getD ((bit - 122) / 32) 0).getLsbD ((bit - 122) % 32)

end Sys2Proof.Machine
end

