-- ==== Sys2Proof/Machine/Fabric.lean ====
section
/-! DEFINITION. The fabric's logic and routing in one fabric cycle (R131 to R144, R158, R178): what a plane sets, where its parts
sit, and the value of every signal, from the registers as they stand in the present cycle. -/

namespace Sys2Proof.Machine

/-! Planes. -/

/-- A plane is LOADED or REPAIR (R165). -/
def State.loaded (s : State) (k : Nat) : Bool := (s.plane k).state == 2 || (s.plane k).state == 3

/-- The frames of one plane. -/
def State.planeFrames (s : State) (plane : Nat) : SMap (BitVec 2093) := s.frames.filter (fun p => p.1 / 4800 == plane)

/-- What the frames of a plane set; a plane that holds no loaded configuration sets nothing that is read. -/
def State.logicOf (s : State) (plane : Nat) : PlaneLogic := Config.planeLogic (s.planeFrames plane)

/-- The plane that a District runs as its current context, and what it sets. -/
def State.planeOf (s : State) (d : Nat) : Nat := 8 * d + (s.dist d).ctx
def State.logic (s : State) (d : Nat) : PlaneLogic := s.logicOf (s.planeOf d)

/-! Flip-flops (R171, R182). -/

/-- The keys of a District's shadows, live cells and capture cells. -/
def shadowKey (d k : Nat) : Nat := 16 * d + k
def liveKey (d : Nat) : Nat := 16 * d + 8
def captureKey (d : Nat) : Nat := 16 * d + 9

/-- A store of a District's flip-flops. -/
def State.flop (s : State) (key : Nat) : BitVec 65536 := mget s.flops key 0

/-- A store of a District's flip-flops written. -/
def State.setFlop (s : State) (key : Nat) (v : BitVec 65536) : State := { s with flops := mset s.flops key v 0 }

/-- What every flip-flop of a District presents in the present cycle (R134, R171, R174): INIT of the current plane while user
resets are held, and its live cell otherwise. -/
def State.presentFlops (s : State) (d : Nat) : BitVec 65536 :=
  if (s.dist d).resetHeld then (s.currentPlane d).user.init else s.flop (liveKey d)

/-! Underpass drivers (R142 to R145). -/

/-- A guard at rest. -/
def Guard.rest : Guard := { off := false, keptOff := false, cleared := false, frames := [], enabledAt := none, since := 0 }

/-- The guard of Underpass u of Quarter q. -/
def State.guard (s : State) (q u : Nat) : Guard := mget s.guards (1024 * q + u) Guard.rest

/-- The Underpass ends that a plane drives; one that holds no loaded configuration drives nothing (R143), one that is LOADING drives
on until its first frame is written (R179). -/
def State.drives (s : State) (plane : Nat) : BitVec 1024 := if s.runsOn plane then (s.plane plane).user.upEnds else 0

/-- An Underpass end is enabled in the current plane of its District, which is the driving District of the Underpass then (R178). -/
def State.endConfigured (s : State) (q u side : Nat) : Bool := (s.drives (s.planeOf (2 * q + side))).getLsbD u

/-- The driver of an Underpass end is enabled by the current plane of its District, whose outputs are enabled (R142, R179). -/
def State.endRequested (s : State) (q u side : Nat) : Bool := (s.dist (2 * q + side)).released && s.endConfigured q u side

/-- The effective driver enable of an Underpass end (R144): its own, unless the guard holds both drivers off. -/
def State.endEnabled (s : State) (q u side : Nat) : Bool := !(s.guard q u).off && s.endRequested q u side

/-- The contention that the guard detects (R144): both effective enables are 1. -/
def State.contends (s : State) (q u : Nat) : Bool := s.endEnabled q u 0 && s.endEnabled q u 1

/-! Geometry (R22, R23, R131, R139). -/

/-- The District that holds a Block, and a Block by its District and place there. -/
def Site.district (b : Site) : Nat := 2 * (b.x / 64 + 8 * (b.y / 64)) + b.layer
def siteOf (d x y : Nat) : Site := { layer := d % 2, x := 64 * (d / 2 % 8) + x, y := 64 * (d / 16) + y }

/-- A Block's number within its District, in the order of the capture image (R183). -/
def Site.index (b : Site) : Nat := 64 * (b.y % 64) + b.x % 64

/-- The Block that lies n Blocks on in a direction, where the array has one. -/
def Site.move (b : Site) (dir : Dir) (n : Nat) : Option Site :=
  match dir with
  | .north => if b.y + n < 512 then some { b with y := b.y + n } else none
  | .east => if b.x + n < 512 then some { b with x := b.x + n } else none
  | .south => if n ≤ b.y then some { b with y := b.y - n } else none
  | .west => if n ≤ b.x then some { b with x := b.x - n } else none

/-- The Blocks that a wire spans, and how many start per Block and direction (R139). -/
def WireKind.span : WireKind → Nat
  | .lane1 => 1
  | .lane2 => 2
  | .lane4 => 4
  | .avenue => 16
def WireKind.starts : WireKind → Nat
  | .avenue => 2
  | _ => 8

/-- The Block at whose Square a wire ends; none for a track that the array's edge cuts off (R139). -/
def Wire.stop (w : Wire) : Option Site := if w.index < w.kind.starts then w.start.move w.dir w.kind.span else none

/-- A wire crosses a District border (R141). -/
def Wire.crosses (w : Wire) : Bool :=
  match w.stop with
  | some e => e.district != w.start.district
  | none => false

/-- The Blocks just before and just after a register point of a Boulevard (R140). -/
def Point.before (p : Point) : Site :=
  match p.dir with
  | .north => { layer := p.layer, x := p.place, y := 16 * p.line - 1 }
  | .east => { layer := p.layer, x := 16 * p.line - 1, y := p.place }
  | .south => { layer := p.layer, x := p.place, y := 16 * p.line }
  | .west => { layer := p.layer, x := 16 * p.line, y := p.place }
def Point.after (p : Point) : Site :=
  match p.dir with
  | .north => { layer := p.layer, x := p.place, y := 16 * p.line }
  | .east => { layer := p.layer, x := 16 * p.line, y := p.place }
  | .south => { layer := p.layer, x := p.place, y := 16 * p.line - 1 }
  | .west => { layer := p.layer, x := 16 * p.line - 1, y := p.place }

/-- A register point of the array: lines 1 to 31, tracks 0 to 3. -/
def Point.exists (p : Point) : Bool :=
  Nat.ble 1 p.line && Nat.blt p.line 32 && Nat.blt p.place 512 && Nat.blt p.track 4 && Nat.blt p.layer 2

/-- The register point lies on a District border, where a Bollard takes the register's place (R140). -/
def Point.atBorder (p : Point) : Bool := p.line % 4 == 0

/-- The register point that a Boulevard passes before another. -/
def Point.previous (p : Point) : Point :=
  { p with line := match p.dir with | .north | .east => p.line - 1 | .south | .west => p.line + 1 }

/-- The landing Square of Underpass u (R131): u = 64g + y at Block (4g + (y mod 4), y), in both Districts of the Quarter. -/
def underpassSite (d u : Nat) : Site := siteOf d (4 * (u / 64) + u % 4) (u % 64)

/-- The device-wide numbers of Tally tile t and District RAM block k of a District (R131). -/
def tileKey (d t : Nat) : Nat := 32 * d + t
def ramKey (d k : Nat) : Nat := 64 * d + k

/-- The Squares beside a Tally tile, between columns 31 and 32, and beside a District RAM block, between columns 15 and 16 or
47 and 48 (R131): item k lies at Block rows 2k and 2k + 1. -/
def tileSites (d t : Nat) : List Site := [siteOf d 32 (2 * t), siteOf d 32 (2 * t + 1)]
def ramSites (d k : Nat) : List Site :=
  let x := if k < 32 then 16 else 48
  [siteOf d x (2 * (k % 32)), siteOf d x (2 * (k % 32) + 1)]

/-- The Squares at the four corners of a Block (R139). DEDUCED (log entry 205): a Square on a border line belongs to the District north
or east of it, so that a Block beside the line meets it through a Bollard only, as every signal that crosses a border does. -/
def Site.corners (b : Site) : List Site :=
  [b, { b with x := b.x + 1 }, { b with y := b.y + 1 }, { b with x := b.x + 1, y := b.y + 1 }]

/-- The Squares at which a sink takes a signal; none for a side-street port, whose place the manual does not give. -/
def Sink.sites : Sink → List Site
  | .lutIn b _ _ | .carryIn b | .bypass b _ | .ce b _ | .sr b _ => b.corners
  | .wire w => [w.start]
  | .boulevard p => [p.before]
  | .underpass q u side => [underpassSite (2 * q + side) u]
  | .tally d t _ => tileSites d t
  | .ram d k _ _ => ramSites d k
  | .sideStreet _ _ => []

/-- The District of a sink: the one whose plane connects it. -/
def Sink.district : Sink → Nat
  | .lutIn b _ _ | .carryIn b | .bypass b _ | .ce b _ | .sr b _ => b.district
  | .wire w => w.start.district
  | .boulevard p => p.before.district
  | .underpass q _ side => 2 * q + side
  | .tally d _ _ | .ram d _ _ _ | .sideStreet d _ => d

/-- The channel numbers of a District's store channel, of its Plaza and queue ports, and of MEM_ALERT; 0 to 63 are the local banks. -/
def storePort : Nat := 64
def plazaPort : Nat := 65
def queuePort : Nat := 66

/-- The District in which a signal stands, and the Squares at which it can be taken; none where the manual names no site: the
time port, front-end ports, and the store-channel, Plaza, queue and side-street ports. -/
def Sig.place : Sig → Option (Nat × Option (List Site))
  | .low | .high => none
  | .lutX b _ | .lutY b _ | .carry b _ | .sum b _ | .flop b _ => some (b.district, some b.corners)
  | .wire w => match w.stop with | some e => some (e.district, some [e]) | none => some (128, some [])
  | .boulevard p => some (p.after.district, some [p.after])
  | .underpass q u side => some (2 * q + side, some [underpassSite (2 * q + side) u])
  | .tally d t _ => some (d, some (tileSites d t))
  | .ram d k _ _ => some (d, some (ramSites d k))
  | .time d _ => some (d, none)
  | .port p _ => some (2 * (p / 16), none)
  | .bank d c _ => some (d, if c < storePort then some [siteOf d c 32] else none)
  | .sideStreet d _ => some (d, none)
  | .c0r t _ => some (2 * trunkHome t, none)

/-- A Square connects a signal to a sink (R139): both meet at it, in one District; a front-end port is read in both Districts
of its Quarter (R85), and so is a trunk's C0 receive interface (R246). -/
def connects (g : Sig) (k : Sink) : Bool :=
  match g.place with
  | none => true
  | some (d, sites) =>
    (d == k.district || (match g with | .port _ _ | .c0r _ _ => d / 2 == k.district / 2 | _ => false))
      && (match sites with
          | none => true
          | some l => k.sites.isEmpty || l.any (fun x => k.sites.contains x))

/-! Registers: the bit of each in its District's stores. -/

/-- The directions by number. -/
def Dir.code : Dir → Nat
  | .north => 0
  | .east => 1
  | .south => 2
  | .west => 3
def Dir.all : List Dir := [.north, .east, .south, .west]
def dirOf (n : Nat) : Dir := Dir.all.getD (n % 4) .north

/-- The bit of a flip-flop (R183). -/
def flopBit (b : Site) (i : Nat) : Nat := 16 * b.index + i

/-- The registers of one Block's Square: 96 on Lanes, 8 at the starts and 8 at the ends of Avenues. -/
def hopsPerBlock : Nat := 112
def WireKind.base : WireKind → Nat
  | .lane1 => 0
  | .lane2 => 32
  | .lane4 => 64
  | .avenue => 96
def hopBit (w : Wire) : Nat := hopsPerBlock * w.start.index + w.kind.base + w.kind.starts * w.dir.code + w.index
def endBit (e : Site) (w : Wire) : Nat := hopsPerBlock * e.index + 104 + 2 * w.dir.code + w.index

/-- The bit of a Boulevard register of the District ahead of the line: 3 lines, 64 places and 4 tracks in each direction. -/
def boulevardBit (p : Point) : Nat := ((p.dir.code * 3 + (p.line % 4 - 1)) * 64 + p.place % 64) * 4 + p.track

/-- The Bollards of one border Block edge in one direction: 56 on Lanes, 32 on Avenues, 4 on Boulevards (R141). -/
def bollardsPerEdge : Nat := 92

/-- A wire's track at the border that it crosses, by how many Blocks before the border it starts. -/
def Wire.track (w : Wire) : Nat :=
  let j := match w.dir with
    | .north => 63 - w.start.y % 64
    | .east => 63 - w.start.x % 64
    | .south => w.start.y % 64
    | .west => w.start.x % 64
  match w.kind with
  | .lane1 => w.index
  | .lane2 => 8 + 8 * j + w.index
  | .lane4 => 24 + 8 * j + w.index
  | .avenue => 56 + 2 * j + w.index

/-- The place along a border at which a wire crosses it. -/
def Wire.lane (w : Wire) : Nat :=
  match w.dir with
  | .north | .south => w.start.x % 64
  | .east | .west => w.start.y % 64

/-- The Districts on the driving and the receiving side of a border's signal (R178); at an Underpass end the receiving side is the
end's own District. -/
def Border.driver : Border → Nat
  | .wire w => w.start.district
  | .boulevard p => p.before.district
  | .underpass q _ side => 2 * q + (1 - side)
def Border.receiver : Border → Nat
  | .wire w => match w.stop with | some e => e.district | none => 128
  | .boulevard p => p.after.district
  | .underpass q _ side => 2 * q + side

/-- The bit of a Bollard among those into its receiving District: 64 Block edges on each of 4 sides, then the cells of its 1,024
Underpass ends. -/
def bordersIn : Nat := 4 * 64 * bollardsPerEdge
def Border.bit : Border → Nat
  | .wire w => (64 * w.dir.code + w.lane) * bollardsPerEdge + w.track
  | .boulevard p => (64 * p.dir.code + p.place % 64) * bollardsPerEdge + 88 + p.track
  | .underpass _ u _ => bordersIn + u

/-- The Bollard of a bit into a District; none where no District lies beyond the border. -/
def borderAt (d k : Nat) : Option Border :=
  if bordersIn ≤ k then some (.underpass (d / 2) (k - bordersIn) (d % 2))
  else
    let dir := dirOf (k / bollardsPerEdge / 64)
    let at_ := k / bollardsPerEdge % 64
    let t := k % bollardsPerEdge
    let entry := match dir with
      | .north => siteOf d at_ 0
      | .east => siteOf d 0 at_
      | .south => siteOf d at_ 63
      | .west => siteOf d 63 at_
    let back := match dir with | .north => Dir.south | .east => .west | .south => .north | .west => .east
    let wire (kind : WireKind) (j i : Nat) : Option Border := (entry.move back (j + 1)).map (fun b => .wire ⟨kind, dir, b, i⟩)
    if t < 8 then wire .lane1 0 t
    else if t < 24 then wire .lane2 ((t - 8) / 8) ((t - 8) % 8)
    else if t < 56 then wire .lane4 ((t - 24) / 8) ((t - 24) % 8)
    else if t < 88 then wire .avenue ((t - 56) / 2) ((t - 56) % 2)
    else
      let p : Point := match dir with
        | .north => ⟨entry.layer, dir, entry.y / 16, entry.x, t - 88⟩
        | .east => ⟨entry.layer, dir, entry.x / 16, entry.y, t - 88⟩
        | .south => ⟨entry.layer, dir, (entry.y + 1) / 16, entry.x, t - 88⟩
        | .west => ⟨entry.layer, dir, (entry.x + 1) / 16, entry.y, t - 88⟩
      if p.exists then some (.boulevard p) else none

/-- The stores of the fabric's registers. -/
def State.hops (s : State) (d : Nat) : BitVec 458752 := mget s.fabric.hops d 0
def State.boulevards (s : State) (d : Nat) : BitVec 3072 := mget s.fabric.boulevards d 0
def State.bollards (s : State) (d : Nat) : BitVec 23552 := mget s.fabric.bollards d 0
def State.passed (s : State) (d : Nat) : BitVec 24576 := mget s.fabric.passed d 0
def State.parks (s : State) (d : Nat) : BitVec 49152 := mget s.fabric.parks d 0
def State.upHops (s : State) (d : Nat) : BitVec 1024 := mget s.fabric.upHops d 0
def State.tile (s : State) (n : Nat) : Tile := mget s.fabric.tiles n Tile.rest
def State.ramPorts (s : State) (n : Nat) : RamPorts := mget s.fabric.ramPorts n RamPorts.rest

/-! Bollards (R178). -/

/-- OUT_TAG of the plane that governed the driving District in the cycle of the launch, and IN_TAG of the receiving District's
present plane (R178): a Bollard register presents what was launched in the cycle before, the cells of an Underpass end what is
driven now (R142). -/
def State.launchPlane (s : State) (b : Border) : Nat :=
  match b with
  | .underpass _ _ _ => s.planeOf b.driver
  | .wire _ | .boulevard _ => 8 * b.driver + mget s.fabric.ran b.driver 0
def State.outTag (s : State) (b : Border) : Nat := ((s.logicOf (s.launchPlane b)).outTag b).toNat
def State.inTag (s : State) (b : Border) : Nat := ((s.logic b.receiver).inTag b).toNat

/-- The tags of a signal agree (R178). -/
def State.tagsAgree (s : State) (b : Border) : Bool := s.outTag b != 0 && s.outTag b == s.inTag b

/-- A signal's driving District is the other one (R178): at a border always, and at an Underpass where the other end is enabled in its
District's current plane; and an Underpass end that its own District drives, which takes nothing over the border. -/
def State.hasDriver (s : State) (b : Border) : Bool :=
  match b with
  | .underpass q u side => s.endConfigured q u (1 - side)
  | .wire _ | .boulevard _ => true
def State.ownEnd (s : State) (b : Border) : Bool :=
  match b with
  | .underpass q u side => s.endConfigured q u side
  | .wire _ | .boulevard _ => false

/-- A Bollard holds its value back for its tags alone (R178, R181): outputs are enabled, inputs unmasked, and the tags differ; the cells
of an Underpass end where the other District alone drives it. DEDUCED (log entry 156): two tags of 0 are no mismatch. -/
def State.tagMismatch (s : State) (b : Border) : Bool :=
  (s.dist b.driver).released && (s.dist b.receiver).released && s.outTag b != s.inTag b
    && s.hasDriver b && !s.ownEnd b

/-- TAG_HELD of a District in the present cycle (R181): no border counts while its inputs are masked. -/
def State.tagHeld (s : State) (d : Nat) : Nat :=
  if (s.dist d).released then
    Nat.min 65535 ((List.range (bordersIn + 1024)).filter (fun k => match borderAt d k with
      | some b => s.tagMismatch b
      | none => false)).length
  else 0

/-- A Bollard passes its value in the present cycle (R178). -/
def State.passes (s : State) (b : Border) : Bool :=
  (s.dist b.driver).released && (s.dist b.receiver).released && s.hasDriver b && s.tagsAgree b

/-- The PARK setting of the last cycle in which a Bollard passed a value, 0 if it never has (R178). -/
def State.parkOf (s : State) (b : Border) : Nat := bitsOf (s.parks b.receiver).toNat (2 * b.bit + 1) (2 * b.bit)

/-- The hold value of a Bollard (R178): the last value passed, or a parked 0 or 1. -/
def State.holdValue (s : State) (b : Border) : Bool :=
  if s.parkOf b = 1 then false else if s.parkOf b = 2 then true else (s.passed b.receiver).getLsbD b.bit

/-- What a Bollard presents to the receiving District (R178): 0 while the District's inputs are masked, the launched value where it
passes, and otherwise its hold value. -/
def State.presents (s : State) (b : Border) (launched : Bool) : Bool :=
  if !(s.dist b.receiver).released then false else if s.passes b then launched else s.holdValue b

/-- What a border Bollard presents: its register holds the value launched in the cycle before. -/
def State.bollardValue (s : State) (b : Border) : Bool := s.presents b ((s.bollards b.receiver).getLsbD b.bit)

/-! The time port (R158). -/

/-- The fabric cycles from the start of time to the present one. -/
def State.cycleNow (s : State) : Nat := s.crossing * s.M + s.fabric.phase

/-- A FLAG window of the active table that covers the present cycle raises a flag for a District (R62, R63, R170). -/
def State.flagHigh (s : State) (d n : Nat) : Bool :=
  s.rb.openWindows.any (fun w =>
    let e := s.ttActive w.1
    ttAction e == 8 && ttArg e == n
      && (if ttKind e = 1 then s.rget .LOCK_GROUP d == ttTarget e else ttTarget e == d)
      && Nat.ble (w.2 * s.M + ttPhase e) s.cycleNow && Nat.blt s.cycleNow ((w.2 + ttSpan e) * s.M + ttPhase e))

/-- The time port of a District by bit: PHASE in bits 5:0, XSTART, OSTART, SLOT in 23:8, ORBIT in 39:24, CTX in 42:40, FLAG in
58:43. -/
def State.timeBit (s : State) (d i : Nat) : Bool :=
  if i < 6 then bitOf s.fabric.phase i
  else if i = 6 then s.fabric.phase == 0
  else if i = 7 then s.fabric.phase == 0 && s.tb.slot == 0
  else if i < 24 then bitOf s.tb.slot (i - 8)
  else if i < 40 then bitOf s.tb.orbit (i - 24)
  else if i < 43 then bitOf (s.dist d).ctx (i - 40)
  else s.flagHigh d (i - 43)

/-- A front-end port's interface by bit (R87): PVALID, PSTATUS in 4:1, PTAG in 16:5, PORB, PUSER in 25:18, then PDATA. -/
def State.portBit (s : State) (p i : Nat) : Bool :=
  match (s.port p).shown with
  | none => false
  | some x =>
    if i = 0 then x.pvalid
    else if i < 5 then bitOf x.status (i - 1)
    else if i < 17 then x.header.getLsbD (i - 5)
    else if i = 17 then x.header.getLsbD 12
    else if i < 26 then x.header.getLsbD (24 + (i - 18))
    else (x.pdata.getD ((i - 26) / 64) 0).getLsbD ((i - 26) % 64)

/-! Fast I/O (R370). -/

/-- The line rate of fast I/O is within 1.6 Gb/s (R370). -/
def State.fioRateOk (s : State) (cfg : Nat) : Bool :=
  Nat.ble (8 * s.M * s.rget .MCLK_NOMINAL) (1600000000 * bitsOf cfg 11 6)

/-- A pair gives its pins to user logic: SS_MODE 5, and a setting that still passes the line rate check. -/
def State.fioOn (s : State) (q : Nat) : Bool := s.rget .SS_MODE q == 5 && s.fioRateOk (s.rget .SS_FIO_CFG q)

/-- The side-street port of a District is the one that its Quarter's pair connects to. -/
def State.fioConnects (s : State) (d : Nat) : Bool :=
  s.fioOn (d / 2) && flagBit (bitOf (s.rget .SS_FIO_CFG (d / 2)) 5) 0 == d % 2

/-- FIO_WSTB of a District's side-street port: one fabric cycle in WORD_DIV, counted from phase 0 of slot 0 of orbit 0; low where no
pair is connected. -/
def State.fioStrobe (s : State) (d : Nat) : Bool :=
  s.fioConnects d && s.cycleNow % bitsOf (s.rget .SS_FIO_CFG (d / 2)) 11 6 == 0

/-- What the pins of a pair carry, the lane or SS_P[q] and then SS_N[q]: the word last taken where the pin drives, and none where
it is an input or at high impedance, as before release stage 1 (R279) and for a pair that is not valid. -/
def State.fioPins (s : State) (q : Nat) : Option Byte × Option Byte :=
  let cfg := s.rget .SS_FIO_CFG q
  let w := mget s.fabric.fio q 0
  let on := s.fioOn q && Nat.ble 1 s.load.stage
  let drives (dir : Nat) (oe : Bool) : Bool := on && (dir == 1 || dir == 2 && oe)
  (if drives (bitsOf cfg 2 1) (w.getLsbD 16) then some (w.extractLsb' 0 8) else none,
   if !bitOf cfg 0 && drives (bitsOf cfg 4 3) (w.getLsbD 17) then some (w.extractLsb' 8 8) else none)

/-! Signals. -/

/-- A LUT's outputs (R132): the index has I1 as its lowest bit. -/
def lutIndex (ins : List Bool) : Nat := (ins.zipIdx.map (fun p => flagBit p.1 p.2)).sum
def lutOutX (table : BitVec 64) (split : Bool) (ins : List Bool) : Bool :=
  if split then table.getLsbD (lutIndex ins % 32) else table.getLsbD (lutIndex ins)
def lutOutY (table : BitVec 64) (split : Bool) (ins : List Bool) : Bool :=
  if split then table.getLsbD (32 + lutIndex ins % 32) else lutOutX table split ins

/-- CO_i (R133): CI_i where P_i is 1, and G_i otherwise. -/
def carryOut (p g ci : Bool) : Bool := if p then ci else g

/-- What a Square gives a sink in the present cycle: the source that the plane's frames connect, where the two meet. -/
def State.routed (s : State) (value : Sig → Bool) (k : Sink) : Bool :=
  let g := (s.logic k.district).source k
  connects g k && value g

/-- The value launched onto a wire: from its hop register, or straight from its Square. -/
def State.launched (s : State) (value : Sig → Bool) (w : Wire) : Bool :=
  if (s.logic w.start.district).hop w then (s.hops w.start.district).getLsbD (hopBit w) else s.routed value (.wire w)

/-- The value at a wire's far end before an Avenue's end register: through the Bollard where it crosses a border. -/
def State.arrives (s : State) (value : Sig → Bool) (w : Wire) : Bool :=
  if w.crosses then s.bollardValue (.wire w) else s.launched value w

/-- What a register point of a Boulevard takes (R140): the signal that enters just ahead of it, or what the point before gives. -/
def State.pointInput (s : State) (value : Sig → Bool) (p : Point) : Bool :=
  if (s.logic p.before.district).drives p then s.routed value (.boulevard p)
  else p.previous.exists && value (.boulevard p.previous)

/-- What an Underpass end drives (R142): from its hop register, or straight from its Square. -/
def State.endLaunched (s : State) (value : Sig → Bool) (q u side : Nat) : Bool :=
  let d := 2 * q + side
  if (s.logic d).upHop u then (s.upHops d).getLsbD u else s.routed value (.underpass q u side)

/-- An Underpass's wire (R142, R144): what its one enabled end drives; the Curb holds it at 0 where no driver is enabled, and
where both ask for it, which the guard turns off in the same cycle. -/
def State.underpassWire (s : State) (value : Sig → Bool) (q u : Nat) : Bool :=
  if s.contends q u then false
  else if s.endEnabled q u 0 then s.endLaunched value q u 0
  else if s.endEnabled q u 1 then s.endLaunched value q u 1
  else false

/-- What the receiver of an Underpass end gives its Squares: the wire, through the end's Bollard cells, which hold where no enabled end of
the other District drives (R142, R178); an end that its own District drives reads its wire. -/
def State.underpassValue (s : State) (value : Sig → Bool) (q u side : Nat) : Bool :=
  let v := s.underpassWire value q u
  if s.endConfigured q u side then v else s.presents (.underpass q u side) v

/-! Bank, Plaza and queue ports (R159 to R163, R229, R298). -/

/-- READY of a District's channel or of its Plaza port (R159, R162): low while its queue is full. -/
def State.portReady (s : State) (d c : Nat) : Bool :=
  if c = plazaPort then Nat.blt (s.queued (· == .plaza (.district d))) 32 else Nat.blt (s.queued (· == .district d c)) 8

/-- What stands on a channel's fixed bus in the present fabric cycle (R160): nothing, or a response whose answer the bank has given. -/
def State.fixedNow (s : State) (d c : Nat) : Option (Option Answer) :=
  (mfind (mget s.fixed (128 * d + c) FixedBus.idle).due s.fabric.cycle).map (·.2)

/-- What stands on a channel's ordered bus in the present fabric cycle (R160). -/
def State.orderedNow (s : State) (d c : Nat) : Option Answer := mfind (mget s.lanes (128 * d + c) Lane.idle).seen s.fabric.cycle

/-- What stands on a District's Plaza port in the present fabric cycle (R162): of responses from several banks, that of the lowest. -/
def State.plazaNow (s : State) (d : Nat) : Option Answer :=
  let first := laneKey 0 (.plaza (.district d))
  (s.lanes.filter (fun p => Nat.ble first p.1 && Nat.blt p.1 (first + 4096))).findSome? (fun p => mfind p.2.seen s.fabric.cycle)

/-- A response on a bus by bit: VALID, ERRC in 2:1, TSTATUS in 5:3, then the data; what stands beside VALID = 0 is free. -/
def busBit (free : Bool) (a : Option Answer) (i : Nat) : Bool :=
  match a with
  | none => i != 0 && free
  | some a => if i = 0 then true else if i < 3 then bitOf a.errc (i - 1) else if i < 6 then bitOf a.tstatus (i - 3) else a.data.getLsbD (i - 6)

/-- A C0 response whose bank has not answered in its cycle has only VALID. -/
def fixedBit (free : Bool) (a : Option (Option Answer)) (i : Nat) : Bool :=
  match a with
  | some none => i == 0 || free
  | some (some a) => busBit free (some a) i
  | none => busBit free none i

/-- A Plaza response by bit: VALID, ERRC in 2:1, TAG in 8:3, then the data. -/
def plazaBit (free : Bool) (a : Option Answer) (i : Nat) : Bool :=
  match a with
  | none => i != 0 && free
  | some a => if i = 0 then true else if i < 3 then bitOf a.errc (i - 1) else if i < 9 then bitOf a.tag (i - 3) else a.data.getLsbD (i - 9)

/-- The queue port by bit (R229): QP_RVALID, QP_RSOF, QP_REOF, QP_RERR, QP_REMPTY, then QP_RDATA; QP_WREADY above them is free, as the
commands push whole rows. DESIGN CHOICE (log entry 206): the rows of a pop stand in cycles one after another. -/
def State.queuePortBit (s : State) (free : Bool) (d i : Nat) : Bool :=
  let rows := mget s.qports d []
  let from_ := mget s.fabric.poppedAt d 0
  let n := s.fabric.cycle - from_
  if Nat.blt s.fabric.cycle from_ || (mfind s.qports d).isNone then i != 0 && i != 4 && free
  else match rows[n]? with
    | some r =>
      if i = 0 then true else if i = 1 then n == 0 else if i = 2 then n + 1 == rows.length else if i = 3 then r.2 else if i = 4 then false
      else if i < 133 then r.1.getLsbD (i - 5) else free
    | none => if i = 0 then false else if i = 4 then rows == [] && n == 0 else free

/-- The bank-port interface of a District by bit (R159 to R163, R298). Of a channel: READY, the fixed bus in 134:1, the ordered bus
from 135. Of the Plaza port: READY, then the response. Above the queue port: MEM_ALERT, and MEM_ALERT_BANK in 6:1. -/
def State.bankBit (s : State) (d c i : Nat) : Bool :=
  let free := Config.portValue s.fabric.draw s.fabric.phase d c i
  if c ≤ storePort then
    if i = 0 then s.portReady d c
    else if i < 135 then fixedBit free (s.fixedNow d c) (i - 1)
    else busBit free (s.orderedNow d c) (i - 135)
  else if c = plazaPort then (if i = 0 then s.portReady d c else plazaBit free (s.plazaNow d) (i - 1))
  else if c = queuePort then s.queuePortBit free d i
  else match (s.dist d).memAlert with
    | some b => if i = 0 then true else bitOf b (i - 1)
    | none => i != 0 && free

/-- The C0 receive interface of a trunk by bit (R246): C0R_STATUS in 1:0, C0R_VALID in 5:2, then C0R_MSG0 to C0R_MSG3. -/
def State.c0rBit (s : State) (t i : Nat) : Bool :=
  match (mget s.trunks t Trunk.idle).c0Shown with
  | none => i < 2
  | some (_, m, st) =>
    if i < 2 then bitOf st i
    else if i < 6 then (mfind m (i - 2)).isSome
    else (mget m ((i - 6) / 64) 0).getLsbD ((i - 6) % 64)

/-- The value of a signal in the present cycle. A combinational loop, which only an upset can make (R138), leaves no depth to
spend: the signals that depend on it are free; so are the words that pins bring in. Bits 7:0 of a side-street port are FIO_IN_P,
15:8 FIO_IN_N, and 16 FIO_WSTB (R370). -/
def State.sig (s : State) : Nat → Sig → Bool
  | 0, _ => Config.loopValue s.fabric.draw s.fabric.phase
  | n + 1, g =>
    let value := s.sig n
    let ins (b : Site) (i : Nat) : List Bool := (List.range 6).map (fun k => s.routed value (.lutIn b i k))
    match g with
    | .low => false
    | .high => true
    | .lutX b i => let x := s.logic b.district; lutOutX (x.table b i) (x.split b i) (ins b i)
    | .lutY b i => let x := s.logic b.district; lutOutY (x.table b i) (x.split b i) (ins b i)
    | .carry b 0 =>
      match (s.logic b.district).carryIn b with
      | .chained => b.y % 64 != 0 && value (.carry { b with y := b.y - 1 } 8)
      | .zero => false
      | .one => true
      | .routed => s.routed value (.carryIn b)
    | .carry b (i + 1) => carryOut (value (.lutX b i)) (value (.lutY b i)) (value (.carry b i))
    | .sum b i => value (.lutX b i) != value (.carry b i)
    | .flop b i => (s.presentFlops b.district).getLsbD (flopBit b i)
    | .wire w =>
      match w.stop with
      | none => false
      | some e => if w.kind == .avenue && (s.logic e.district).endReg w then (s.hops e.district).getLsbD (endBit e w) else s.arrives value w
    | .boulevard p =>
      if p.atBorder then s.bollardValue (.boulevard p) else (s.boulevards p.before.district).getLsbD (boulevardBit p)
    | .underpass q u side => s.underpassValue value q u side
    | .tally d t i => tileOutput ((s.logic d).tally t) (s.tile (tileKey d t)) i
    | .ram d k port i => ((s.ramPorts (ramKey d k)).shows ((s.logic d).ram k) port).getLsbD i
    | .time d i => s.timeBit d i
    | .port p i => s.portBit p i
    | .bank d c i => s.bankBit d c i
    | .c0r t i => s.c0rBit t i
    | .sideStreet d i => if i = 16 then s.fioStrobe d else Config.fioInput s.fabric.draw s.fabric.phase d i

/-- More steps than any path without a loop has: every Block of both layers has fewer than 256 signals of its own. -/
def signalDepth : Nat := 2 ^ 28

/-- The value of a signal in the present cycle. -/
def State.value (s : State) (g : Sig) : Bool := s.sig signalDepth g

end Sys2Proof.Machine
end

