-- ==== Sys2Proof/Machine/FabricCycle.lean ====
section
/-! DEFINITION. Fabric cycles (R134 to R142, R171, R178): what every register of the logic layers takes at a clock edge, and the
running of the fabric up to a phase of the present crossing. A District whose clock enable is off keeps all its state (R138). -/

namespace Sys2Proof.Machine

/-- The bits of a store, each given by its number. -/
def bitsOfFn (w : Nat) (f : Nat → Bool) : BitVec w := BitVec.ofNat w (((List.range w).map (fun i => flagBit (f i) i)).sum)

/-! Flip-flops (R134, R171). -/

/-- A set/reset line or a clock enable of a Block (R134): off where none is selected and the default is given for that. -/
def State.lineOf (s : State) (sel : LineSel) (sink : Nat → Sink) (none_ : Bool) : Bool :=
  match sel with
  | .none => none_
  | .line0 => s.routed s.value (sink 0)
  | .line1 => s.routed s.value (sink 1)

/-- The data of flip-flop i of a Block (R134): flip-flops 2j and 2j + 1 sit beside LUT j. -/
def State.flopData (s : State) (b : Site) (i : Nat) : DSrc → Bool
  | .x => s.value (.lutX b (i / 2))
  | .y => s.value (.lutY b (i / 2))
  | .s => s.value (.sum b (i / 2))
  | .bypass => s.routed s.value (.bypass b i)

/-- V of flip-flop i of a Block (R134, R171): INIT where its set/reset line is asserted, whatever the clock enable; its data
where it is enabled; and otherwise what it holds. -/
def State.flopNext (s : State) (b : Site) (i : Nat) : Bool :=
  let d := b.district
  let g := (s.logic d).flop b i
  if s.lineOf g.srSel (.sr b) false then (s.currentPlane d).user.init.getLsbD (flopBit b i)
  else if s.lineOf g.ceSel (.ce b) true then s.flopData b i g.dSrc
  else (s.flop (liveKey d)).getLsbD (flopBit b i)

/-- A Block of a District by its number there (R183). -/
def blockAt (d k : Nat) : Site := siteOf d (k % 64) (k / 64)

/-- What every flip-flop of a clocked District takes at the edge: INIT while user resets are held (R134, R174). -/
def State.flopsNext (s : State) (d : Nat) : BitVec 65536 :=
  if (s.dist d).resetHeld then (s.currentPlane d).user.init
  else bitsOfFn 65536 (fun k => s.flopNext (blockAt d (k / 16)) (k % 16))

/-! Wires (R139 to R142). -/

/-- The wire kinds in the order of their registers. -/
def laneKind (n : Nat) : WireKind := if n = 0 then .lane1 else if n = 1 then .lane2 else .lane4

/-- What a hop register of a Block's Square takes: registers 0 to 95 of the Lanes that start there, 96 to 103 of the Avenues that
start there, and 104 to 111 of those that end there. -/
def State.hopNext (s : State) (b : Site) (r : Nat) : Bool :=
  if r < 96 then s.routed s.value (.wire ⟨laneKind (r / 32), dirOf (r % 32 / 8), b, r % 8⟩)
  else if r < 104 then s.routed s.value (.wire ⟨.avenue, dirOf ((r - 96) / 2), b, r % 2⟩)
  else
    let dir := dirOf ((r - 104) / 2)
    let back := match dir with | .north => Dir.south | .east => .west | .south => .north | .west => .east
    match b.move back 16 with
    | some a => s.arrives s.value ⟨.avenue, dir, a, r % 2⟩
    | none => false

/-- The hop registers of a District after the edge. -/
def State.hopsNext (s : State) (d : Nat) : BitVec 458752 :=
  bitsOfFn 458752 (fun k => s.hopNext (blockAt d (k / hopsPerBlock)) (k % hopsPerBlock))

/-- The register point of a Boulevard register of a District, by its bit. -/
def pointAt (d k : Nat) : Point :=
  let dir := dirOf (k / 4 / 64 / 3)
  let corner := siteOf d 0 0
  let line := k / 4 / 64 % 3 + 1
  let place := k / 4 % 64
  match dir with
  | .north | .south => ⟨corner.layer, dir, corner.y / 16 + line, corner.x + place, k % 4⟩
  | .east | .west => ⟨corner.layer, dir, corner.x / 16 + line, corner.y + place, k % 4⟩

/-- The Boulevard registers of a District after the edge (R140). -/
def State.boulevardsNext (s : State) (d : Nat) : BitVec 3072 := bitsOfFn 3072 (fun k => s.pointInput s.value (pointAt d k))

/-- The hop registers of a District's Underpass ends after the edge (R142): a contention carries its 0 into them (R146). -/
def State.upHopsNext (s : State) (d : Nat) : BitVec 1024 :=
  bitsOfFn 1024 (fun u => !s.contends (d / 2) u && s.routed s.value (.underpass (d / 2) u (d % 2)))

/-- The value launched in the present cycle at a border, which its Bollard presents in the next (R141). -/
def State.launchedAt (s : State) : Border → Bool
  | .wire w => s.launched s.value w
  | .boulevard p => s.pointInput s.value p
  | .underpass q u _ => s.underpassWire s.value q u

/-- The Bollards into a District after the edge: those whose driving District is clocked take what it launches. -/
def State.bollardsNext (s : State) (d : Nat) : BitVec 23552 :=
  bitsOfFn 23552 (fun k => match borderAt d k with
    | some b => if s.clocked b.driver then s.launchedAt b else (s.bollards d).getLsbD k
    | none => false)

/-- The value that a Bollard or an Underpass cell lets through in the present cycle. -/
def State.throughAt (s : State) (b : Border) : Bool :=
  match b with
  | .underpass q u _ => s.underpassWire s.value q u
  | .wire _ | .boulevard _ => (s.bollards b.receiver).getLsbD b.bit

/-- A Bollard into a District passes a value in a cycle in which its driving District is clocked. -/
def State.passesNow (s : State) (b : Border) : Bool :=
  s.clocked b.driver && s.passes b && !s.ownEnd b

/-- The values last passed into a District, after the present cycle (R178). -/
def State.passedNext (s : State) (d : Nat) : BitVec 24576 :=
  bitsOfFn 24576 (fun k => match borderAt d k with
    | some b => if s.passesNow b then s.throughAt b else (s.passed d).getLsbD k
    | none => false)

/-- The PARK settings of the last cycles in which the Bollards into a District passed a value (R178). -/
def State.parksNext (s : State) (d : Nat) : BitVec 49152 :=
  bitsOfFn 49152 (fun k => match borderAt d (k / 2) with
    | some b =>
      if s.passesNow b then ((s.logicOf (s.launchPlane b)).park b).getLsbD (k % 2) else (s.parks d).getLsbD k
    | none => false)

/-! Tally tiles and District RAM. -/

/-- The pins of a tile and of a RAM port in the present cycle. -/
def State.tilePins (s : State) (d t : Nat) : BitVec 768 := bitsOfFn 768 (fun i => s.routed s.value (.tally d t i))
def State.ramPinsOf (s : State) (d k port : Nat) : RamAccess :=
  accessOf (bitsOfFn ramPins (fun i => s.routed s.value (.ram d k port i)))

/-- Tile t of a District after the edge: its merge port takes from tile t - 1, and tile 0 takes nothing (R156). -/
def State.tileNext (s : State) (d t : Nat) : Tile :=
  let g := (s.logic d).tally t
  let arriving := if t = 0 then [] else mergeArrives ((s.logic d).tally (t - 1)) g (s.tile (tileKey d (t - 1)))
  Machine.tileNext g arriving (s.tilePins d t) (s.dist d).resetHeld (s.tile (tileKey d t))

/-- The content of District RAM block k of a District. -/
def State.ramOf (s : State) (d k : Nat) : BitVec 36864 := mget s.dram (ramKey d k) 0

/-- District RAM block k of a District after the edge. -/
def State.ramNext (s : State) (d k : Nat) : BitVec 36864 × RamPorts :=
  ramCycle ((s.logic d).ram k) (s.dist d).weHeld (s.ramPinsOf d k 0) (s.ramPinsOf d k 1) (s.ramOf d k) (s.ramPorts (ramKey d k))

/-- What the protected reads of a cycle find (R149): the corrections of a District, and the rows that read wrong by block. -/
def State.ramFaults (s : State) (d : Nat) : Nat × List (Nat × Nat) :=
  (List.range 64).foldl (fun a k =>
    let r := (s.ramNext d k).2
    (a.1 + ramCorrections (s.ramPinsOf d k 0) (s.ramPinsOf d k 1) r,
     a.2 ++ (ramDoubles (s.ramPinsOf d k 0) (s.ramPinsOf d k 1) r).map (fun row => (k, row)))) (0, [])

/-- The words that a pair's pins take in the present cycle, where the strobe of the District that it connects to is high (R370). -/
def State.fioNext (s : State) (d : Nat) (m : SMap (BitVec 18)) : SMap (BitVec 18) :=
  if s.fioStrobe d then mset m (d / 2) (bitsOfFn 18 (fun i => s.routed s.value (.sideStreet d i))) 0 else m

/-! The edge. -/

/-- The Districts whose clock enable is on (R138). -/
def State.clockedList (s : State) : List Nat := (s.dists.map (·.1)).filter (fun d => s.clocked d)

/-- A store of the fabric with the values of some Districts replaced. -/
def putAll {w : Nat} (ds : List Nat) (f : Nat → BitVec w) (m : SMap (BitVec w)) : SMap (BitVec w) :=
  ds.foldl (fun m d => mset m d (f d) 0) m

/-- The context of each District is the one that governed the cycle before. -/
def State.ranNow (s : State) : SMap Nat := s.dists.foldl (fun m p => mset m p.1 p.2.ctx 0) s.fabric.ran

/-- The registers of the fabric after an edge, but flip-flops and RAM content: clocked Districts' own, and the Bollards into every
District. -/
def State.fabricNext (s : State) : Fabric :=
  let ds := s.clockedList
  let all := List.range 128
  { s.fabric with
    phase := s.fabric.phase + 1
    cycle := s.fabric.cycle + 1
    hops := putAll ds s.hopsNext s.fabric.hops
    boulevards := putAll ds s.boulevardsNext s.fabric.boulevards
    upHops := putAll ds s.upHopsNext s.fabric.upHops
    bollards := putAll all s.bollardsNext s.fabric.bollards
    passed := putAll all s.passedNext s.fabric.passed
    parks := putAll all s.parksNext s.fabric.parks
    tiles := ds.foldl (fun m d => (List.range 32).foldl (fun m t => mset m (tileKey d t) (s.tileNext d t) Tile.rest) m) s.fabric.tiles
    fio := ds.foldl (fun m d => s.fioNext d m) s.fabric.fio
    ramPorts := ds.foldl (fun m d =>
      (List.range 64).foldl (fun m k => mset m (ramKey d k) (s.ramNext d k).2 RamPorts.rest) m) s.fabric.ramPorts
    ran := s.ranNow
    found := s.fabric.found ++ ds.map (fun d => (d, s.ramFaults d)) }

/-- MEM_ALERT is high for one fabric cycle (R298): with a cycle run, the alerts of the Districts are over. -/
def dropAlerts (s : State) : State :=
  s.dists.foldl (fun t p => if p.2.memAlert.isSome then t.setDist p.1 { t.dist p.1 with memAlert := none } else t) s

/-- One fabric cycle of the whole device, up to and with the edge that ends it. -/
def fabricCycle (s : State) : State :=
  let ds := s.clockedList
  dropAlerts { s with
    fabric := s.fabricNext
    flops := ds.foldl (fun m d => mset m (liveKey d) (s.flopsNext d) 0) s.flops
    dram := ds.foldl (fun m d => (List.range 64).foldl (fun m k => mset m (ramKey d k) (s.ramNext d k).1 0) m) s.dram }

/-- Some fabric cycles. -/
def fabricCycles : Nat → State → State
  | 0, s => s
  | n + 1, s => fabricCycles n (fabricCycle s)

/-- The District RAM events of a District in cycles that have run (R149): corrections count, a double error counts, sets
DRAM_UNCORR_SEEN, and is recorded with the block and the row. -/
def reportRam (d : Nat) (f : Nat × List (Nat × Nat)) (s : State) : State :=
  let s := if f.1 = 0 then s else s.radd .DRAM_CORR d f.1
  f.2.foldl (fun t x =>
    ((t.rinc .DRAM_UNCORR d).setDist d { t.dist d with dramSeen := true }).raise sevError 0x0403 d
      (leBytes 2 (ramKey d x.1) ++ leBytes 2 x.2)) s

/-- What the cycles that have run found in District RAM is reported, once. -/
def reportFound (s : State) : State :=
  s.fabric.found.foldl (fun t p => reportRam p.1 p.2 t) { s with fabric := { s.fabric with found := [] } }

/-- The fabric runs up to a phase of the present crossing, where it has not got so far yet; with no District clocked no register
changes. -/
def runTo (phase : Nat) (s : State) : State :=
  if phase ≤ s.fabric.phase then s
  else
    if s.clockedList.isEmpty then
      dropAlerts { s with fabric := { s.fabric with phase := phase, cycle := s.fabric.cycle + (phase - s.fabric.phase), ran := s.ranNow } }
    else reportFound (fabricCycles (phase - s.fabric.phase) s)

/-- An upset that has struck a cell of District RAM in the crossing, where one has (R149). -/
def strikeRam (draw : Nat) (s : State) : State :=
  match Config.upsetCell draw with
  | some (k, c) => { s with dram := mset s.dram k (mget s.dram k 0 ^^^ (1#36864 <<< (c % 36864))) 0 }
  | none => s

/-- The crossing's last cycles run, and the next crossing begins at phase 0 with a free value of its own. -/
def endCycles (s : State) : State :=
  let s := runTo s.M s
  let d := s.draw
  let s : State := { d.2 with fabric := { d.2.fabric with phase := 0, draw := d.1 } }
  if s.clockedList.isEmpty then s else strikeRam d.1 s

end Sys2Proof.Machine
end

