-- ==== Sys2Proof/Machine/Contexts.lean ====
section
/-! DEFINITION. Contexts (R165 to R184) and the Underpasses (R143 to R146): switches, base-context changes, lock groups,
the driver census, captures, and the contention guard. -/

namespace Sys2Proof.Machine

/-! Planes. -/

/-- The contexts that enabled CTX_SWITCH entries of the active table name for a District (R166). -/
def State.namedContexts (s : State) (d : Nat) : List Nat :=
  (s.rb.active.filter (fun p => ttEnabled p.2 && ttAction p.2 == 1 && (s.ctxTargets p.2).contains d)).map (fun p => ttArg p.2)

/-- A plane is in service (R166). -/
def State.inService (s : State) (plane : Nat) : Bool :=
  let d := plane / 8
  let k := plane % 8
  s.rget .BASE_CTX d == k
    || ((s.dist d).baseAt.isSome && s.rget .BASE_NEXT d == k)
    || (s.namedContexts d).contains k

/-! Switches. -/

/-- The flip-flops of a District at a switch edge (R171): V is what the live cells took at the edge. While user resets are held,
the live cells hold INIT and no shadow changes (R174). -/
def switchFlops (d j k : Nat) (s : State) : State :=
  if (s.dist d).resetHeld then s
  else
    let bj := (s.plane (8 * d + j)).user.banked
    let bk := (s.plane (8 * d + k)).user.banked
    let v := s.flop (liveKey d)
    let s := s.setFlop (shadowKey d j) ((v &&& bj) ||| (s.flop (shadowKey d j) &&& ~~~bj))
    s.setFlop (liveKey d) ((s.flop (shadowKey d k) &&& bk) ||| (v &&& ~~~bk))

/-- The banked shadow of a plane's context takes the plane's INIT (R167, R174). -/
def initShadow (plane : Nat) (s : State) : State :=
  s.setFlop (shadowKey (plane / 8) (plane % 8)) (s.plane plane).user.init

/-- A plane has been written since its District's last release (R174); where the user resets are held its shadow holds INIT. -/
def noteWritten (plane : Nat) (s : State) : State :=
  let x := s.dist (plane / 8)
  let s := s.setDist (plane / 8) { x with written := plane % 8 :: x.written.filter (· != plane % 8) }
  if x.resetHeld then initShadow plane s else s

/-- The INFO record of a switch for one path whose decisions it marks (R176): the path, and the first and the last due
crossing marked. The 17 bytes of these items are cut to the 16 of DETAIL. DESIGN CHOICE (log
entry 207): of a switch onto a plane that does not carry the path the last marked crossing is not known yet; the record gives the last
one that the switch's own edge marks. -/
def noteSwitch (d j k phase : Nat) (p : Nat × LedgerPath) (s : State) : State :=
  let first := s.crossing
  let last := s.crossing - (if phase = 0 then 1 else 0) - p.2.entry + p.2.ldec
  let on := p.2.planes.contains (8 * d + j) || p.2.planes.contains (8 * d + k)
  if on && s.dev = .running && Nat.ble first last then
    s.raise sevInfo 0x0406 d (leBytes 1 p.1 ++ leBytes 8 (s.mtOf first) ++ leBytes 7 (s.mtOf last))
  else s

/-- A plane that a context number names is LOADED or REPAIR in every member of a District's group (R170, R175). -/
def State.baseLoaded (s : State) (d k : Nat) : Bool := (s.lockstep d).all (fun m => s.loaded (8 * m + k))

/-- A switch of a District to a context is performed (R169, R170): into a plane that is LOADED or REPAIR in every District of its
group; a District that runs no loaded plane only follows its base context. -/
def State.maySwitch (s : State) (d k : Nat) : Bool := s.baseLoaded d k || !s.loaded (s.planeOf d)

/-- A District passes to a context at a phase of the present crossing (R171, R176), the cycles before it run under the old one:
nothing where it already runs it, and where the switch is not performed. -/
def switchTo (d k phase : Nat) (s : State) : State :=
  let x := s.dist d
  if x.ctx = k || !s.maySwitch d k then s
  else
    let s := runTo phase s
    let s := if s.clocked d then s.dec.paths.foldl (fun t p => noteSwitch d x.ctx k phase p t) s else s
    let s := switchFlops d x.ctx k s
    s.setDist d { s.dist d with ctx := k, since := s.crossing + (if phase = 0 then 0 else 1) }

/-- The context that a District runs by its windows and its base context (R168). -/
def State.dueContext (s : State) (d : Nat) : Nat :=
  match (s.dist d).windows.getLast? with
  | some e => ttArg (s.ttActive e)
  | none => s.rget .BASE_CTX d

/-- The District passes to the context its windows and base context give. -/
def settleContext (d phase : Nat) (s : State) : State := switchTo d (s.dueContext d) phase s

/-- A CTX_SWITCH entry of the active table starts a window for a District at a phase of the present crossing (R63, R66), into a
plane that the District's group can run. -/
def State.windowStartsNow (s : State) (d phase : Nat) : Bool :=
  s.rb.active.any (fun p => ttEnabled p.2 && ttAction p.2 == 1 && ttPhase p.2 == phase && ttMatches p.2 s.tb.orbit
    && ttStartsAt p.2 s.tb.slot && (s.ctxTargets p.2).contains d && s.baseLoaded d (ttArg p.2))

/-- A CTX_SWITCH window opens on a District (R168 to R170): performed where every District of its group has the plane LOADED or
REPAIR; otherwise each stays in the context it runs without it, with one ERROR record for the window in the orbit, which names the first
of them whose plane is in another state. -/
def openCtx (entry d : Nat) (s : State) : State :=
  let e := s.ttActive entry
  let x := s.dist d
  let w := (entry, s.crossing)
  if s.baseLoaded d (ttArg e) then
    settleContext d (ttPhase e) (s.setDist d { x with windows := x.windows ++ [entry] })
  else
    let s := settleContext d (ttPhase e) s
    if x.notLoaded.contains w || (s.lockstep d).find? (fun m => !s.loaded (8 * m + ttArg e)) != some d then s
    else
      (s.setDist d { s.dist d with notLoaded := x.notLoaded ++ [w] }).raise sevError 0x0405 d
        (leBytes 1 d ++ leBytes 1 (ttArg e) ++ leBytes 8 s.mt)

/-- A CTX_SWITCH window closes on a District at a phase; a window that starts at the same edge passes the District on
directly (R66). -/
def closeCtx (entry phase d : Nat) (s : State) : State :=
  let x := s.dist d
  let s := s.setDist d { x with windows := x.windows.filter (· != entry) }
  if s.windowStartsNow d phase then s else settleContext d phase s

/-- Every context window of a District closes (R58, R66); the context it then runs is settled by its caller. -/
def dropWindows (d : Nat) (s : State) : State := s.setDist d { s.dist d with windows := [] }

/-- A District passes at phase 0 of the present crossing to the context that its windows and base context give, in one switch,
unless a window that starts there passes it on (R66, R171). -/
def settleAtStart (d : Nat) (s : State) : State := if s.windowStartsNow d 0 then s else settleContext d 0 s

/-- The Districts with state of their own. -/
def State.distList (s : State) : List Nat := s.dists.map (·.1)

/-! Base contexts (R170, R175). -/

/-- A base change is pending on a District's group. -/
def State.basePending (s : State) (d : Nat) : Bool := (s.lockstep d).any (fun m => (s.dist m).baseAt.isSome)

/-- BASE_NEXT (R170, R175): the record of a global image is judged only for its value, and fixes the base context of stage 1. -/
def hBaseNext (w : Route) (d : Nat) : Handler :=
  { range := fun v _ => Nat.ble v 7 || v == 0xFF
    act := fun v s =>
      let all := s.lockstep d
      if w = .loader && s.load.global then
        .ok (all.foldl (fun t m => (t.setDist m { t.dist m with baseByImage := if v = 0xFF then none else some v }).rset
          .BASE_NEXT m v) s)
      else if v != 0xFF && !s.baseLoaded d v then .error 5
      else if s.basePending d then .error 6
      else .ok (all.foldl (fun t m => t.rset .BASE_NEXT m v) s) }

/-- BASE_NEXT_WRITE. -/
def execBaseNextWrite (w : Route) (district v : Nat) (s : State) : Host.Outcome State Fault Refusal :=
  write w .BASE_NEXT district v (hBaseNext w district) s

/-- The first orbit whose boundary begins at least one crossing after now, which lies within the present crossing (R175). -/
def State.nextOrbit (s : State) : Nat := ceilDiv (s.crossing + 2) s.L

/-- BASE_AT (R175). -/
def hBaseAt (d : Nat) : Handler :=
  { range := fun v s => s.rget .BASE_NEXT d != 0xFF && (v == allOnes64 || !s.counting || Nat.ble (s.crossing + 2) (s.orbitOf v * s.L))
    act := fun v s =>
      if !s.baseLoaded d (s.rget .BASE_NEXT d) then .error 5
      else if s.basePending d then .error 6
      else
        let n := if v = allOnes64 then s.nextOrbit else s.orbitOf v
        .ok ((s.lockstep d).foldl (fun t m => t.setDist m { t.dist m with baseAt := some n }) s) }

/-- BASE_AT_WRITE. -/
def execBaseAtWrite (w : Route) (district v : Nat) (s : State) : Host.Outcome State Fault Refusal :=
  write w .BASE_AT district v (hBaseAt district) s

/-- A due base change of a District performed at a boundary (R169, R175): BASE_NEXT returns to 0xFF; into a plane that is not loaded it
is cancelled, with one ERROR record for the group, which names its first member whose plane is not loaded. The District passes to the
new base context with the boundary's one switch. -/
def changeBase (d : Nat) (s : State) : State :=
  match (s.dist d).baseAt with
  | none => s
  | some n =>
    if Nat.ble n s.orbits then
      let k := s.rget .BASE_NEXT d
      let ok := s.baseLoaded d k
      let s := (s.setDist d { s.dist d with baseAt := none }).rset .BASE_NEXT d 0xFF
      if ok then s.rset .BASE_CTX d k
      else if (s.lockstep d).find? (fun m => !s.loaded (8 * m + k)) == some d then
        s.raise sevError 0x0405 d (leBytes 1 d ++ leBytes 1 k ++ leBytes 8 s.mt)
      else s
    else s

/-! The driver census and lock groups (R143, R170). -/

/-- The driver census of a Quarter whose Districts have given lock groups (R143). -/
def State.census (s : State) (q ga gb : Nat) : Bool :=
  let ks := List.range 8
  if ga = gb && ga != 0xFF then ks.all (fun k => (s.drives (16 * q + k) &&& s.drives (16 * q + 8 + k)) == 0)
  else ks.all (fun k => ks.all (fun j => (s.drives (16 * q + k) &&& s.drives (16 * q + 8 + j)) == 0))

/-- The open CTX_SWITCH windows that reach a District with the lock groups in force (R170). -/
def State.reachingWindows (s : State) (d : Nat) : List Nat :=
  (s.dist d).windows.filter (fun e => (s.ctxTargets (s.ttActive e)).contains d)

/-- A District leaves its lock group: windows that reach it no more are closed for it (R170). -/
def leaveGroup (d : Nat) (s : State) : State := s.setDist d { s.dist d with windows := s.reachingWindows d }

/-- A District joins the group of a member (R170, R175): it takes the member's base context with a base change that is pending and one
that an image has fixed, and the windows open for it, so that it runs what the group runs. -/
def joinGroup (d m : Nat) (s : State) : State :=
  let y := s.dist m
  let s := (s.rset .BASE_CTX d (s.rget .BASE_CTX m)).rset .BASE_NEXT d (s.rget .BASE_NEXT m)
  s.setDist d { s.dist d with baseByImage := y.baseByImage, baseAt := y.baseAt, windows := y.windows, notLoaded := y.notLoaded }

/-- LOCK_GROUP (R143, R170): a joining District takes the base context of the group's members, and with it the one that an image has
fixed for them (R175). -/
def hLockGroup (d : Nat) : Handler :=
  { range := fun v _ => Nat.ble v 63 || v == 0xFF
    act := fun v s =>
      let other := s.rget .LOCK_GROUP (if d % 2 = 0 then d + 1 else d - 1)
      let ok := if d % 2 = 0 then s.census (d / 2) v other else s.census (d / 2) other v
      if !ok then .error 6
      else
        let t := leaveGroup d (s.rset .LOCK_GROUP d v)
        match (if v = 0xFF then [] else (s.groupMembers v).filter (· != d)) with
        | m :: _ => .ok (settleContext d 0 (joinGroup d m t))
        | [] => .ok (settleContext d 0 t) }

/-- LOCK_GROUP_WRITE. -/
def execLockGroupWrite (w : Route) (district v : Nat) (s : State) : Host.Outcome State Fault Refusal :=
  write w .LOCK_GROUP district v (hLockGroup district) s

/-! Captures (R182): CAPTURE_CTRL holds MODE, PHASE, CTX_FILTER, FILTER_EN, STATE, CAP_CTX and SEQ. -/

/-- The writable bits of CAPTURE_CTRL that are kept. -/
def captureKept : Nat := 0x0FFE

/-- CAPTURE_CTRL with its settings, and its STATE, CAP_CTX and SEQ replaced. -/
def capturePut (settings st ctx seq : Nat) : Nat :=
  Nat.land settings captureKept + st * 2 ^ 16 + ctx * 2 ^ 19 + seq % 256 * 2 ^ 24

/-- STATE, CAP_CTX and SEQ of CAPTURE_CTRL. -/
def captureState (c : Nat) : Nat := bitsOf c 18 16
def captureCtx (c : Nat) : Nat := bitsOf c 21 19
def captureSeq (c : Nat) : Nat := bitsOf c 31 24

/-- An armed capture ends MISSED (R182). -/
def captureMissed (d : Nat) (s : State) : State :=
  let c := s.rget .CAPTURE_CTRL d
  s.rset .CAPTURE_CTRL d (capturePut c 3 (captureCtx c) (captureSeq c))

/-- An armed capture takes place in the present cycle (R182): DONE with the cells holding what the flip-flops present, and a DEBUG
record, or MISSED where the filter does not match or, in MODE 0, the District is not clocked. -/
def captureNow (d : Nat) (s : State) : State :=
  let c := s.rget .CAPTURE_CTRL d
  let x := s.dist d
  if captureState c != 1 then s
  else if (bitOf c 11 && x.ctx != bitsOf c 10 8) || (!bitOf c 1 && !s.clocked d) then captureMissed d s
  else
    let s := s.setFlop (captureKey d) (s.presentFlops d)
    (s.rset .CAPTURE_CTRL d (capturePut c 2 x.ctx (captureSeq c + 1))).raise sevDebug 0x0407 d []

/-- CAPTURE_CTRL (R182): settings stored; DISARM ends an armed capture as MISSED, ARM arms one. -/
def hCapture (d : Nat) : Handler :=
  { range := fun v s =>
      Nat.blt (bitsOf v 7 2) s.M && bitsOf v 15 13 == 0 && bitsOf v 23 22 == 0
        && !(bitOf v 0 && !bitOf v 1 && Nat.blt (s.crossingOf (s.rget .CAPTURE_MT d)) (s.crossing + 2))
    act := fun v s =>
      let c := s.rget .CAPTURE_CTRL d
      let armed := captureState c == 1
      let arm := bitOf v 0
      if arm && armed then .error 6
      else
        let st := if arm then 1 else if bitOf v 12 && armed then 3 else captureState c
        .ok (s.rset .CAPTURE_CTRL d (capturePut v st (captureCtx c) (captureSeq c))) }

/-- CAPTURE_ARM: a write of CAPTURE_CTRL with ARM (R182). -/
def execCaptureArm (w : Route) (district v : Nat) (s : State) : Host.Outcome State Fault Refusal :=
  write w .CAPTURE_CTRL district (v - v % 2 + 1) (hCapture district) s

/-- CAPTURE_DISARM: a write of CAPTURE_CTRL with DISARM and without ARM (R182). -/
def execCaptureDisarm (w : Route) (district v : Nat) (s : State) : Host.Outcome State Fault Refusal :=
  write w .CAPTURE_CTRL district (Nat.lor (v - v % 2) 0x1000) (hCapture district) s

/-- CAPTURE_CYCLE: the cycle that a MODE 0 capture names arrives (R182), in the crossing of CAPTURE_MT at its PHASE; in any other
crossing nothing happens. -/
def execCaptureCycle (district : Nat) (s : State) : Host.Outcome State Fault Refusal :=
  let c := s.rget .CAPTURE_CTRL district
  .next (if bitOf c 1 || captureState c != 1 || !s.counting || s.crossing != s.crossingOf (s.rget .CAPTURE_MT district) then s
    else captureNow district (runTo (bitsOf c 7 2) s))

/-! Underpasses (R144, R145). -/

/-- A guard changed. -/
def State.setGuard (s : State) (q u : Nat) (g : Guard) : State :=
  { s with guards := mset s.guards (1024 * q + u) g Guard.rest }

/-- The active frame of a District that holds an Underpass's enable bit (R144); its number is the frames' own. -/
def State.guardFrame (s : State) (d u : Nat) : Nat × Nat := (8 * d + (s.dist d).ctx, Config.underpassFrame u % 4800)

/-- UP_CLEAR (R145): an Underpass that a second contention keeps off may be re-enabled; no effect on any other. -/
def hUpClear (d : Nat) : Handler := Handler.doing (fun v s =>
  let g := s.guard (d / 2) v
  .ok (if g.off then s.setGuard (d / 2) v { g with cleared := true } else s))

/-- UP_CLEAR. -/
def execUpClear (w : Route) (district v : Nat) (s : State) : Host.Outcome State Fault Refusal :=
  write w .UP_CLEAR district v (hUpClear district) s

/-- A guard's re-enable at an orbit boundary, once its frames have verified and nothing keeps it off (R145). -/
def reenable (key : Nat) (s : State) : State :=
  let q := key / 1024
  let u := key % 1024
  let g := s.guard q u
  if g.off && g.frames == [] && (!g.keptOff || g.cleared) then
    (s.setGuard q u { g with off := false, keptOff := false, cleared := false, enabledAt := some s.orbits }).raise
      sevInfo 0x0402 (2 * q) (leBytes 1 q ++ leBytes 2 u)
  else s

/-- A frame of an Underpass's enable bit has verified (R145). -/
def frameVerified (plane frame : Nat) (s : State) : State :=
  { s with guards := mmap (fun _ g => { g with frames := g.frames.filter (· != (plane, frame)) }) s.guards }

/-- A reload of a plane: its frames count as verified anew, and a guard kept off is freed where the plane is active (R145). DESIGN CHOICE
(log entry 208): active where the load judged the plane in service as it began (R166), or was global. -/
def guardsReloaded (plane : Nat) (active : Bool) (s : State) : State :=
  let d := plane / 8
  { s with guards := mmap (fun k g =>
      { g with frames := g.frames.filter (fun f => f.1 != plane)
               cleared := g.cleared || (active && k / 1024 == d / 2) }) s.guards }

/-- DRAM_UNCORRECTABLE: a protected read finds a double-bit error (R149): the row's cells are not what was written, UNCORR counts,
DRAM_UNCORR_SEEN is set, and an ERROR record names the block and the address. -/
def execDramUncorrectable (district block row : Nat) (s : State) : Host.Outcome State Fault Refusal :=
  .next (if s.clocked district then
    let d := s.draw
    let k := ramKey district block
    let c := putCells (mget s.dram k 0) (72 * (row % 512)) 72 (Config.struckRow d.1).toNat
    reportRam district (0, [(block, row)]) { d.2 with dram := mset s.dram k c 0 }
  else s)

end Sys2Proof.Machine
end

