-- ==== Sys2Proof/Machine/Frames.lean ====
section
/-! DEFINITION. The frames of L3 (R313 to R316), repair tickets (R287, R322), the repair queue (R321), and what empties a
plane or begins a load into it (R326, R495). -/

namespace Sys2Proof.Machine

/-! The stored frame. -/

/-- The positions of DATA and TAG in the code, ascending: 1 to 2,092 without the powers of 2 (R314). -/
def framePositions : List Nat := (List.range 2093).filter (fun p => Nat.land p (p - 1) != 0)

/-- The XOR of the low n bits of a value. -/
def oddBits : Nat → Nat → Bool
  | 0, _ => false
  | n + 1, v => (v % 2 = 1) != oddBits n (v / 2)

/-- TAG of a frame (R315). -/
def frameTag (plane frame : Nat) (data : BitVec 2048) : Nat :=
  crc32c (leBytes 2 plane ++ leBytes 2 frame ++ leBytes 256 data.toNat)

/-- P[11:0] over DATA and TAG (R314). -/
def frameParity (body : Nat) : Nat := checkFold framePositions body 0

/-- The 2,093 bits stored for a frame (R313, R314). -/
def makeFrame (plane frame : Nat) (data : BitVec 2048) : BitVec 2093 :=
  let body := data.toNat + frameTag plane frame data * 2 ^ 2048
  let p := frameParity body
  let top := if oddBits 2080 body != oddBits 12 p then 1 else 0
  BitVec.ofNat 2093 (body + p * 2 ^ 2080 + top * 2 ^ 2092)

/-- DATA of a stored frame. -/
def frameData (v : BitVec 2093) : BitVec 2048 := v.setWidth 2048

/-- The result of a frame read (R316); a corrected one with the stored bits as they should be. -/
inductive FrameResult
  | clean
  | corrected (fixed : BitVec 2093)
  | multi
  | tagFail
deriving DecidableEq, Repr

/-- The stored bit that a syndrome names (R314): P[12], a bit of P, or a bit of DATA and TAG. -/
def namedBit (syn : Nat) : Nat :=
  if syn = 0 then 2092
  else if Nat.land syn (syn - 1) = 0 then 2080 + syn.log2
  else (columnIndex syn framePositions 0).getD 0

/-- TAG verifies in stored bits (R315). -/
def tagVerifies (plane frame : Nat) (v : BitVec 2093) : Bool := bitsOf v.toNat 2079 2048 == frameTag plane frame (frameData v)

/-- A frame read classified (R316). -/
def classify (plane frame : Nat) (v : BitVec 2093) : FrameResult :=
  let n := v.toNat
  let syn := Nat.xor (frameParity (n % 2 ^ 2080)) (bitsOf n 2091 2080)
  let odd := oddBits 2093 n
  if syn = 0 && !odd then (if tagVerifies plane frame v then .clean else .tagFail)
  else if odd && Nat.ble syn 2092 then
    let fixed := v ^^^ (1#2093 <<< namedBit syn)
    if tagVerifies plane frame fixed then .corrected fixed else .tagFail
  else .multi

/-- The key of a frame. -/
def frameKey (plane frame : Nat) : Nat := plane * 4800 + frame

/-- A stored frame. -/
def State.frame (s : State) (plane frame : Nat) : BitVec 2093 := mget s.frames (frameKey plane frame) 0

/-- A frame's stored bits replaced. -/
def State.setFrame (s : State) (plane frame : Nat) (v : BitVec 2093) : State :=
  { s with frames := mset s.frames (frameKey plane frame) v 0 }

/-- Bits stored in a frame's cells, of which damaged ones store some inverted (R263, R316, R324). -/
def setFrameCells (plane frame : Nat) (v : BitVec 2093) (s : State) : State :=
  let key := frameKey plane frame
  match mfind s.scr.damage key with
  | none => s.setFrame plane frame v
  | some (bits, n) =>
    { s.setFrame plane frame (v ^^^ bits) with
      scr := { s.scr with damage := if n ≤ 1 then mdel s.scr.damage key else mput s.scr.damage key (bits, n - 1) } }

/-- A frame written with fresh check bits and tag (R313). -/
def writeFrame (plane frame : Nat) (data : BitVec 2048) (s : State) : State :=
  setFrameCells plane frame (makeFrame plane frame data) s

/-- A frame as it is read back stands: CLEAN by the classification of R316. -/
def State.readsBack (s : State) (plane frame : Nat) : Bool := classify plane frame (s.frame plane frame) == .clean

/-- A frame verifies: its tag matches after the correction of R316 (R315). -/
def State.verifies (s : State) (plane frame : Nat) : Bool :=
  match classify plane frame (s.frame plane frame) with
  | .clean => true
  | .corrected _ => true
  | .multi => false
  | .tagFail => false

/-- A frame written and read back, and written once more where it does not stand as a reading of it judges (R263, R284, R324): whether
it stands in the end. -/
def writeTwice (stands : State → Bool) (plane frame : Nat) (data : BitVec 2048) (s : State) : Bool × State :=
  let s := writeFrame plane frame data s
  if stands s then (true, s)
  else
    let s := writeFrame plane frame data s
    (stands s, s)

/-- A repaired frame: it reads back CLEAN (R324). -/
def writeChecked (plane frame : Nat) (data : BitVec 2048) (s : State) : Bool × State :=
  writeTwice (fun s => s.readsBack plane frame) plane frame data s

/-- A frame that a load or a port writes: its tag compares (R263, R284). -/
def writeVerified (plane frame : Nat) (data : BitVec 2048) (s : State) : Bool × State :=
  writeTwice (fun s => s.verifies plane frame) plane frame data s

/-! Tickets. -/

/-- The tickets kept (R287). -/
def ticketsKept : Nat := 256

/-- The last of a list's entries, at most n of them. -/
def lastOf {α : Type} (n : Nat) (l : List α) : List α := l.drop (l.length - n)

/-- A new ticket, pending (R287): one more than the last, 0 skipped. -/
def newTicket (s : State) : Nat × State :=
  let t := if s.load.lastTicket = 65535 then 1 else s.load.lastTicket + 1
  (t, { s with load := { s.load with lastTicket := t, tickets := lastOf ticketsKept (s.load.tickets ++ [(t, 1)]) } })

/-- A ticket's state changed (R322). -/
def setTicket (t v : Nat) (s : State) : State :=
  { s with load := { s.load with tickets := s.load.tickets.map (fun p => if p.1 = t then (t, v) else p) } }

/-- Several tickets' state changed. -/
def setTickets (ts : List Nat) (v : Nat) (s : State) : State := ts.foldl (fun u t => setTicket t v u) s

/-- TICKET_STATE of a ticket (R287). -/
def State.ticketState (s : State) (t : Nat) : Nat :=
  match s.load.tickets.reverse.find? (fun p => p.1 == t) with
  | some p => p.2
  | none => 0

/-! The repair queue. -/

/-- The scrubber changed. -/
def State.setScr (s : State) (c : CfgScrub) : State := { s with scr := c }

/-- The unit number of the configuration scrubber, and of the frame reserve, in records of area 0x01 (R337). -/
def scrubUnit : Nat := 0x010
def reserveUnit : Nat := 0x011

/-- Every entry of the queue and of the priority list, the repair in progress included (R321). -/
def State.repairsQueued (s : State) : List RepairEntry :=
  (match s.scr.busy with
   | some b => [b.entry]
   | none => []) ++ s.scr.queue ++ s.scr.extra

/-- The frames the queue holds at most, and the priority list (R321). -/
def repairSlots : Nat := 1024
def prioritySlots : Nat := 64

/-- An entry placed behind those of its rank and of the ranks before it (R321). -/
def insertEntry (e : RepairEntry) : List RepairEntry → List RepairEntry
  | [] => [e]
  | a :: l => if e.rank < a.rank then e :: a :: l else a :: insertEntry e l

/-- The level of the queue (CS_STATUS). -/
def State.queueLevel (s : State) : Nat := s.scr.queue.length + (if s.scr.busy.isSome then 1 else 0)

/-- The queue and the priority list are full (R321). -/
def State.repairsFull (s : State) : Bool := Nat.ble repairSlots s.queueLevel && Nat.ble prioritySlots s.scr.extra.length

/-- A plane becomes REPAIR when a frame of it is queued (R165, R321). -/
def markRepair (plane : Nat) (s : State) : State :=
  if (s.plane plane).state = 2 then s.setPlane plane { s.plane plane with state := 3 } else s

/-- The ticket under which a frame waits, queued or handed over by the contention guard (R321, R335). -/
def State.ticketHeld (s : State) (plane frame : Nat) : Option Nat :=
  match s.repairsQueued.find? (fun e => e.plane == plane && e.frame == frame) with
  | some e => some e.ticket
  | none => (s.scr.handed.find? (fun h => h.1 == plane && h.2.1 == frame)).map (·.2.2)

/-- A frame enters the repair queue with a ticket (R321, R322): a frame already queued keeps its own; a sweep frame that finds
the queue full is deferred; any other one waits in the priority list. A frame of a plane being loaded or sealed waits with its
ticket for the end of that load (R319, R495); a frame of an EMPTY plane fails at once (R313). -/
def enqueueRepair (plane frame rank : Nat) (s : State) : Nat × State :=
  match s.ticketHeld plane frame with
  | some t => (t, s)
  | none =>
    let full := Nat.ble repairSlots s.queueLevel
    if (s.plane plane).state = 0 then
      let p := newTicket s
      (p.1, setTicket p.1 3 p.2)
    else if (s.plane plane).state = 1 then
      let p := newTicket s
      let c := p.2.scr
      (p.1, p.2.setScr { c with superseded := mput c.superseded plane (mget c.superseded plane [] ++ [p.1]) })
    else if full && rank = 2 then (0, s.rinc .CS_DEFERRED)
    else
      let p := newTicket s
      let e : RepairEntry := { ticket := p.1, plane, frame, rank }
      let c := p.2.scr
      let c := if full then { c with extra := c.extra ++ [e] } else { c with queue := insertEntry e c.queue }
      (p.1, markRepair plane (p.2.setScr c))

/-- Waiting entries of the priority list move up while the queue has room (R321). -/
def promoteRepairs (s : State) : State :=
  let room := repairSlots - s.queueLevel
  s.setScr { s.scr with
    queue := (s.scr.extra.take room).foldl (fun q e => insertEntry e q) s.scr.queue
    extra := s.scr.extra.drop room }

/-- A plane has a frame in the queue. -/
def State.hasQueued (s : State) (plane : Nat) : Bool := s.repairsQueued.any (fun e => e.plane == plane)

/-- Every queued frame of a plane leaves the queue, and the tickets they held. -/
def dropQueued (plane : Nat) (s : State) : List Nat × State :=
  let ts := (s.repairsQueued.filter (fun e => e.plane == plane)).map (·.ticket)
  let c := s.scr
  let keep (l : List RepairEntry) : List RepairEntry := l.filter (fun e => e.plane != plane)
  let busy := match c.busy with
    | some b => if b.entry.plane = plane then none else some b
    | none => none
  (ts, promoteRepairs (s.setScr { c with queue := keep c.queue, extra := keep c.extra, busy, judged := mdel c.judged plane }))

/-- A load begins to write a plane (R495): its queued repairs leave the queue, and their tickets stay pending until it ends. -/
def supersede (plane : Nat) (s : State) : State :=
  let p := dropQueued plane s
  let c := p.2.scr
  let ts := (p.1 ++ (c.handed.filter (fun h => h.1 == plane)).map (·.2.2)).eraseDups
  p.2.setScr { c with
    superseded := mset c.superseded plane (mget c.superseded plane [] ++ ts) []
    handed := c.handed.filter (fun h => h.1 != plane) }

/-- The load of a plane ends (R495): the waiting tickets read 2 or 3. -/
def settleSuperseded (plane v : Nat) (s : State) : State :=
  let ts := mget s.scr.superseded plane []
  setTickets ts v (s.setScr { s.scr with superseded := mdel s.scr.superseded plane })

/-- A plane holds no configuration: it drives nothing, none of its frames verifies, and they have no image source (R165, R313, R331).
DESIGN CHOICE (log entry 214): its frames hold 0. -/
def voidPlane (plane : Nat) (s : State) : State :=
  let s := { s with frames := s.frames.filter (fun p => p.1 / 4800 != plane) }
  (s.setPlane plane Plane.empty).setScr { s.scr with images := mdel s.scr.images plane, noImage := mdel s.scr.noImage plane }

/-- A plane becomes EMPTY by a failure (R277, R278, R326): the tickets that waited for its load have failed. -/
def emptyPlane (plane : Nat) (s : State) : State := settleSuperseded plane 3 (voidPlane plane s)

/-! Stopping a District (R179). -/

/-- A stopped District waits for a successful load of a plane that failed (R278, R326). -/
def keepStopped (plane : Nat) (s : State) : State :=
  let x := s.dist (plane / 8)
  if x.stopped then s.setDist (plane / 8) { x with stage := none, stuck := plane :: x.stuck.filter (· != plane) } else s

/-- A District's outputs are held and its inputs masked, its user resets and write enables are held, with the shadows of the planes
written since the last release at their INIT (R174, R179). -/
def holdDistrict (d : Nat) (s : State) : State :=
  let s := (s.dist d).written.foldl (fun t k => initShadow (8 * d + k) t) s
  s.setDist d { s.dist d with released := false, weHeld := true, resetHeld := true, stage := none }

/-- A District stops behind its Bollards for an active-plane rewrite or a repair (R179): its clock enable is off. -/
def stopDistrict (d : Nat) (s : State) : State :=
  if (s.dist d).stopped then s.setDist d { s.dist d with stage := none }
  else
    let s := holdDistrict d s
    s.setDist d { s.dist d with stopped := true }

/-- The release of a stopped District begins to count its spacing (R179): from now, or from the crossing in which the time base
reaches ALIGNED; a District that waits for a load of a failed plane stays stopped (R278, R326), and one whose release has begun
goes on with it (R167). -/
def releaseFrom (d : Nat) (s : State) : State :=
  if (s.dist d).stopped && (s.dist d).stuck == [] && (s.dist d).stage.isNone then
    s.setDist d { s.dist d with stage := some (1, if s.tb.st = .aligned then some s.crossing else none) }
  else s

end Sys2Proof.Machine
end

