-- ==== Sys2Proof/Machine/Crypto.lean ====
section
/-! DEFINITION. The cryptography that images, tokens and firmware are judged by (R269 to R273, R389, R443): SHA-384 of
FIPS 180-4, ECDSA over P-384 of FIPS 186-5, and AES-256-GCM of FIPS 197 and SP 800-38D. -/

namespace Sys2Proof.Machine

/-- The value of bytes, most significant first. -/
def beVal : Bytes → Nat := fun bs => bs.foldl (fun a b => a * 256 + b.toNat) 0

/-- The n bytes of a value, most significant first. -/
def beBytes (n v : Nat) : Bytes := (leBytes n v).reverse

/-- A list cut into pieces of n, the last one shorter; fuel bounds the pieces. -/
def chunks {α : Type} (n : Nat) : Nat → List α → List (List α)
  | 0, _ => []
  | _ + 1, [] => []
  | f + 1, a :: l => ((a :: l).take n) :: chunks n f ((a :: l).drop n)

/-! SHA-384. -/

/-- The round constants. -/
def shaK0 : List (BitVec 64) :=
  [0x428A2F98D728AE22, 0x7137449123EF65CD, 0xB5C0FBCFEC4D3B2F, 0xE9B5DBA58189DBBC,
   0x3956C25BF348B538, 0x59F111F1B605D019, 0x923F82A4AF194F9B, 0xAB1C5ED5DA6D8118,
   0xD807AA98A3030242, 0x12835B0145706FBE, 0x243185BE4EE4B28C, 0x550C7DC3D5FFB4E2,
   0x72BE5D74F27B896F, 0x80DEB1FE3B1696B1, 0x9BDC06A725C71235, 0xC19BF174CF692694,
   0xE49B69C19EF14AD2, 0xEFBE4786384F25E3, 0x0FC19DC68B8CD5B5, 0x240CA1CC77AC9C65]
def shaK1 : List (BitVec 64) :=
  [0x2DE92C6F592B0275, 0x4A7484AA6EA6E483, 0x5CB0A9DCBD41FBD4, 0x76F988DA831153B5,
   0x983E5152EE66DFAB, 0xA831C66D2DB43210, 0xB00327C898FB213F, 0xBF597FC7BEEF0EE4,
   0xC6E00BF33DA88FC2, 0xD5A79147930AA725, 0x06CA6351E003826F, 0x142929670A0E6E70,
   0x27B70A8546D22FFC, 0x2E1B21385C26C926, 0x4D2C6DFC5AC42AED, 0x53380D139D95B3DF,
   0x650A73548BAF63DE, 0x766A0ABB3C77B2A8, 0x81C2C92E47EDAEE6, 0x92722C851482353B]
def shaK2 : List (BitVec 64) :=
  [0xA2BFE8A14CF10364, 0xA81A664BBC423001, 0xC24B8B70D0F89791, 0xC76C51A30654BE30,
   0xD192E819D6EF5218, 0xD69906245565A910, 0xF40E35855771202A, 0x106AA07032BBD1B8,
   0x19A4C116B8D2D0C8, 0x1E376C085141AB53, 0x2748774CDF8EEB99, 0x34B0BCB5E19B48A8,
   0x391C0CB3C5C95A63, 0x4ED8AA4AE3418ACB, 0x5B9CCA4F7763E373, 0x682E6FF3D6B2B8A3,
   0x748F82EE5DEFB2FC, 0x78A5636F43172F60, 0x84C87814A1F0AB72, 0x8CC702081A6439EC]
def shaK3 : List (BitVec 64) :=
  [0x90BEFFFA23631E28, 0xA4506CEBDE82BDE9, 0xBEF9A3F7B2C67915, 0xC67178F2E372532B,
   0xCA273ECEEA26619C, 0xD186B8C721C0C207, 0xEADA7DD6CDE0EB1E, 0xF57D4F7FEE6ED178,
   0x06F067AA72176FBA, 0x0A637DC5A2C898A6, 0x113F9804BEF90DAE, 0x1B710B35131C471B,
   0x28DB77F523047D84, 0x32CAAB7B40C72493, 0x3C9EBE0A15C9BEBC, 0x431D67C49C100D4C,
   0x4CC5D4BECB3E42B6, 0x597F299CFC657E2A, 0x5FCB6FAB3AD6FAEC, 0x6C44198C4A475817]
def shaK : List (BitVec 64) := shaK0 ++ shaK1 ++ shaK2 ++ shaK3

/-- The initial hash value of SHA-384. -/
def shaInit : List (BitVec 64) :=
  [0xCBBB9D5DC1059ED8, 0x629A292A367CD507, 0x9159015A3070DD17, 0x152FECD8F70E5939,
   0x67332667FFC00B31, 0x8EB44A8768581511, 0xDB0C2E0D64F98FA7, 0x47B5481DBEFA4FA4]

/-- The message schedule: 64 more words, the list newest first. -/
def shaExpand : Nat → List (BitVec 64) → List (BitVec 64)
  | 0, ws => ws
  | n + 1, ws =>
    let a := ws.getD 1 0
    let b := ws.getD 6 0
    let c := ws.getD 14 0
    let d := ws.getD 15 0
    let s1 := a.rotateRight 19 ^^^ a.rotateRight 61 ^^^ a >>> 6
    let s0 := c.rotateRight 1 ^^^ c.rotateRight 8 ^^^ c >>> 7
    shaExpand n ((s1 + b + s0 + d) :: ws)

/-- One round on the eight working words. -/
def shaRound (v : List (BitVec 64)) (kw : BitVec 64 × BitVec 64) : List (BitVec 64) :=
  match v with
  | [a, b, c, d, e, f, g, h] =>
    let s1 := e.rotateRight 14 ^^^ e.rotateRight 18 ^^^ e.rotateRight 41
    let ch := (e &&& f) ^^^ (~~~e &&& g)
    let t1 := h + s1 + ch + kw.1 + kw.2
    let s0 := a.rotateRight 28 ^^^ a.rotateRight 34 ^^^ a.rotateRight 39
    let maj := (a &&& b) ^^^ (a &&& c) ^^^ (b &&& c)
    [t1 + s0 + maj, a, b, c, d + t1, e, f, g]
  | v => v

/-- One block of 128 bytes. -/
def shaBlock (h : List (BitVec 64)) (block : Bytes) : List (BitVec 64) :=
  let ws := (chunks 8 16 block).map (fun c => BitVec.ofNat 64 (beVal c))
  let sched := (shaExpand 64 ws.reverse).reverse
  let v := (shaK.zip sched).foldl shaRound h
  (h.zip v).map (fun p => p.1 + p.2)

/-- SHA-384 of bytes. -/
def sha384 (m : Bytes) : Bytes :=
  let pad := (239 - m.length % 128) % 128
  let padded := m ++ (0x80 :: List.replicate pad 0) ++ beBytes 16 (8 * m.length)
  let h := (chunks 128 (padded.length / 128 + 1) padded).foldl shaBlock shaInit
  ((h.take 6).map (fun w => beBytes 8 w.toNat)).flatten

/-! ECDSA over P-384. -/

/-- The curve: its prime, its order, b (a is -3), and the base point. -/
def curveP : Nat := 2 ^ 384 - 2 ^ 128 - 2 ^ 96 + 2 ^ 32 - 1
def curveN : Nat :=
  0xFFFFFFFFFFFFFFFFFFFFFFFFFFFFFFFFFFFFFFFFFFFFFFFFC7634D81F4372DDF581A0DB248B0A77AECEC196ACCC52973
def curveB : Nat :=
  0xB3312FA7E23EE7E4988E056BE3F82D19181D9C6EFE8141120314088F5013875AC656398D8A2ED19D2A85C8EDD3EC2AEF
def curveG : Nat × Nat :=
  (0xAA87CA22BE8B05378EB1C71EF320AD746E1D3B628BA79B9859F741E082542A385502F25DBF55296C3A545E3872760AB7,
   0x3617DE4A96262C6F5D9E98BF9292DC29F8F41DBD289A147CE9DA3113B5F0B8C00A60B1CE1D7E819D7A431D7C90EA0E5F)

/-- A power modulo m, over the bits of the exponent, lowest first; fuel bounds the bits. -/
def powMod (m : Nat) : Nat → Nat → Nat → Nat → Nat
  | 0, _, _, acc => acc
  | f + 1, b, e, acc => if e = 0 then acc else powMod m f (b * b % m) (e / 2) (if e % 2 = 1 then acc * b % m else acc)

/-- The inverse modulo a prime of 384 bits. -/
def invMod (m a : Nat) : Nat := powMod m 384 (a % m) (m - 2) 1

/-- A point lies on the curve. -/
def onCurve (x y : Nat) : Bool :=
  Nat.blt x curveP && Nat.blt y curveP && y * y % curveP == (x * x * x + (curveP - 3) * x + curveB) % curveP

/-- The sum of two points; none is the point at infinity. -/
def pointAdd : Option (Nat × Nat) → Option (Nat × Nat) → Option (Nat × Nat)
  | none, q => q
  | p, none => p
  | some (x1, y1), some (x2, y2) =>
    if x1 = x2 && (y1 + y2) % curveP = 0 then none
    else
      let l := if x1 = x2 then (3 * x1 * x1 + (curveP - 3)) * invMod curveP (2 * y1) % curveP
        else (y2 + curveP - y1) * invMod curveP (x2 + curveP - x1) % curveP
      let x3 := (l * l + 2 * curveP - x1 - x2) % curveP
      some (x3, (l * (x1 + curveP - x3) + curveP - y1) % curveP)

/-- A multiple of a point, over the bits of the factor, lowest first; fuel bounds the bits. -/
def pointMul : Nat → Nat → Option (Nat × Nat) → Option (Nat × Nat) → Option (Nat × Nat)
  | 0, _, _, acc => acc
  | f + 1, k, p, acc =>
    if k = 0 then acc else pointMul f (k / 2) (pointAdd p p) (if k % 2 = 1 then pointAdd acc p else acc)

/-- An uncompressed point: 0x04, then x and y of 48 bytes each; none where it is no point of the curve (R377). -/
def pointOf (key : Bytes) : Option (Nat × Nat) :=
  let x := beVal ((key.drop 1).take 48)
  let y := beVal (key.drop 49)
  if key.length = 97 && key.headD 0 == 0x04 && onCurve x y then some (x, y) else none

/-- A signature, r then s of 48 bytes each, verifies for a message under a public key (R269). -/
def signatureOk (key message signature : Bytes) : Bool :=
  match pointOf key with
  | none => false
  | some q =>
    let r := beVal (signature.take 48)
    let t := beVal ((signature.drop 48).take 48)
    let z := beVal (sha384 message)
    if signature.length != 96 || r = 0 || t = 0 || Nat.ble curveN r || Nat.ble curveN t then false
    else
      let w := invMod curveN t
      let u := pointAdd (pointMul 384 (z * w % curveN) (some curveG) none) (pointMul 384 (r * w % curveN) (some q) none)
      match u with
      | none => false
      | some (x, _) => x % curveN == r

/-! AES-256-GCM. -/

/-- A product in the field of AES. -/
def gmul8 : Nat → Nat → Nat → Nat → Nat
  | 0, _, _, acc => acc
  | f + 1, a, b, acc =>
    gmul8 f (if Nat.ble 128 a then Nat.xor (2 * a) 0x11B else 2 * a) (b / 2) (if b % 2 = 1 then Nat.xor acc a else acc)

/-- A power of a field element. -/
def gpow8 (a : Nat) : Nat → Nat
  | 0 => 1
  | n + 1 => gmul8 8 a (gpow8 a n) 0

/-- The S-box: the inverse, then the affine map. -/
def sbox (a : Nat) : Nat :=
  let i := gpow8 a 254
  let r (k : Nat) : Nat := (i * 2 ^ k + i * 2 ^ k / 256) % 256
  Nat.xor (Nat.xor (Nat.xor (Nat.xor (Nat.xor i (r 1)) (r 2)) (r 3)) (r 4)) 0x63

/-- The S-box as a table. -/
def sboxTable : List Nat := (List.range 256).map sbox

/-- One byte through the S-box. -/
def subByte (a : Nat) : Nat := sboxTable.getD a 0

/-- The next words of the key schedule, newest first; n counts the words to come, i the next word. -/
def expandKey : Nat → Nat → List (List Nat) → List (List Nat)
  | 0, _, ws => ws
  | n + 1, i, ws =>
    let t := ws.headD []
    let t := if i % 8 = 0 then
        match (t.drop 1 ++ t.take 1).map subByte with
        | a :: r => Nat.xor a (2 ^ (i / 8 - 1)) :: r
        | [] => []
      else if i % 8 = 4 then t.map subByte else t
    expandKey n (i + 1) ((List.zipWith Nat.xor (ws.getD 7 []) t) :: ws)

/-- The 15 round keys of a 32-byte key. -/
def roundKeys (key : Bytes) : List (List Nat) :=
  let ws := (chunks 4 8 (key.map (·.toNat))).reverse
  (chunks 4 15 (expandKey 52 8 ws).reverse).map List.flatten

/-- MixColumns on one column. -/
def mixColumn : List Nat → List Nat
  | [a, b, c, d] =>
    let m2 (x : Nat) : Nat := gmul8 8 x 2 0
    let m3 (x : Nat) : Nat := gmul8 8 x 3 0
    [Nat.xor (Nat.xor (m2 a) (m3 b)) (Nat.xor c d), Nat.xor (Nat.xor a (m2 b)) (Nat.xor (m3 c) d),
     Nat.xor (Nat.xor a b) (Nat.xor (m2 c) (m3 d)), Nat.xor (Nat.xor (m3 a) b) (Nat.xor c (m2 d))]
  | l => l

/-- ShiftRows on 16 bytes in column order. -/
def shiftRows (s : List Nat) : List Nat := (List.range 16).map (fun i => s.getD ((i + 4 * (i % 4)) % 16) 0)

/-- A block of 16 bytes enciphered. -/
def aesBlock (keys : List (List Nat)) (block : List Nat) : List Nat :=
  let start := List.zipWith Nat.xor block (keys.headD [])
  let mid := (keys.drop 1).take 13
  let s := mid.foldl
    (fun s k => List.zipWith Nat.xor ((chunks 4 4 (shiftRows (s.map subByte))).map mixColumn).flatten k) start
  List.zipWith Nat.xor (shiftRows (s.map subByte)) (keys.getD 14 [])

/-- A product in the field of GHASH, bit 0 the most significant bit of the block; over the bits of the first factor. -/
def ghashMul : Nat → Nat → Nat → Nat → Nat
  | 0, _, _, z => z
  | f + 1, x, v, z =>
    let z := if x / 2 ^ f % 2 = 1 then Nat.xor z v else z
    ghashMul f x (if v % 2 = 1 then Nat.xor (v / 2) (0xE1 * 2 ^ 120) else v / 2) z

/-- A block of up to 16 bytes, zero-filled, as a field element. -/
def blockVal (b : Bytes) : Nat := beVal (b ++ List.replicate (16 - b.length) 0)

/-- GHASH over data and ciphertext. -/
def ghash (h : Nat) (aad data : Bytes) : Nat :=
  let blocks (m : Bytes) : List Nat := (chunks 16 (m.length / 16 + 1) m).map blockVal
  let all := blocks aad ++ blocks data ++ [8 * aad.length * 2 ^ 64 + 8 * data.length]
  all.foldl (fun y b => ghashMul 128 (Nat.xor y b) h 0) 0

/-- The bytes of a block enciphered, as a value. -/
def aesVal (keys : List (List Nat)) (v : Nat) : Nat :=
  beVal ((aesBlock keys ((beBytes 16 v).map (·.toNat))).map (BitVec.ofNat 8))

/-- The counter mode of GCM from a counter on. -/
def gcmStream (keys : List (List Nat)) (nonce : Nat) : Nat → List Bytes → Bytes
  | _, [] => []
  | c, b :: bs =>
    let k := beBytes 16 (aesVal keys (nonce * 2 ^ 32 + c % 2 ^ 32))
    List.zipWith (fun x y => x ^^^ y) b k ++ gcmStream keys nonce (c + 1) bs

/-- AES-256-GCM opened: the plaintext, and whether the tag of 16 bytes at the end is right. -/
def gcmOpen (key nonce aad sealed : Bytes) : Bytes × Bool :=
  let keys := roundKeys key
  let n := beVal nonce
  let data := sealed.take (sealed.length - 16)
  let tag := sealed.drop (sealed.length - 16)
  let h := aesVal keys 0
  let t := Nat.xor (ghash h aad data) (aesVal keys (n * 2 ^ 32 + 1))
  (gcmStream keys n 2 (chunks 16 (data.length / 16 + 1) data), tag == beBytes 16 t)

end Sys2Proof.Machine
end

