-- ==== Sys2Proof/Machine/Inflate.lean ====
section
/-! DEFINITION. Raw DEFLATE (RFC 1951) as COMP = 1 of a section and a packed reserve record use it (R270, R272, R328): the
bytes a stream inflates to, or none where it is malformed. Output is gathered newest first. -/

namespace Sys2Proof.Machine

/-- The bits of bytes, least significant first (RFC 1951, 3.1.1). -/
def streamBits : Bytes → List Bool
  | [] => []
  | b :: bs =>
    let v := b.toNat
    bitOf v 0 :: bitOf v 1 :: bitOf v 2 :: bitOf v 3 :: bitOf v 4 :: bitOf v 5 :: bitOf v 6 :: bitOf v 7 :: streamBits bs

/-- The next n bits as a number, least significant first; none where the stream ends. -/
def takeBits : Nat → List Bool → Option (Nat × List Bool)
  | 0, bs => some (0, bs)
  | _ + 1, [] => none
  | n + 1, b :: bs => (takeBits n bs).map (fun p => ((if b then 1 else 0) + 2 * p.1, p.2))

/-- A code: for each length from 1, its symbols in order (RFC 1951, 3.2.2). -/
abbrev PrefixCode := List (List Nat)

/-- The code that code lengths give. -/
def codeOf (lengths : List Nat) : PrefixCode :=
  (List.range 15).map (fun l => (lengths.zipIdx.filter (fun p => p.1 == l + 1)).map (·.2))

/-- The codes left unused at the longest length; none where the lengths claim more codes than there are. -/
def codeSlack : Nat → PrefixCode → Option Nat
  | left, [] => some left
  | left, syms :: rest => if 2 * left < syms.length then none else codeSlack (2 * left - syms.length) rest

/-- A code is usable: not over-subscribed, and complete, or of at most one symbol. -/
def codeUsable (c : PrefixCode) : Bool :=
  match codeSlack 1 c with
  | none => false
  | some left => left == 0 || Nat.ble ((c.map List.length).foldl (· + ·) 0) 1

/-- The next symbol of a code: value is the code read so far less the first code of its length. -/
def readSymbol : PrefixCode → Nat → List Bool → Option (Nat × List Bool)
  | [], _, _ => none
  | _ :: _, _, [] => none
  | syms :: rest, value, b :: bs =>
    let v := value + (if b then 1 else 0)
    if v < syms.length then (syms[v]?).map (fun s => (s, bs)) else readSymbol rest (2 * (v - syms.length)) bs

/-- The fixed codes (RFC 1951, 3.2.6). -/
def fixedLengths : List Nat :=
  List.replicate 144 8 ++ List.replicate 112 9 ++ List.replicate 24 7 ++ List.replicate 8 8
def fixedDistances : List Nat := List.replicate 30 5

/-- Base and extra bits of length symbols 257 to 285 (RFC 1951, 3.2.5). -/
def lengthBase : List (Nat × Nat) :=
  [(3, 0), (4, 0), (5, 0), (6, 0), (7, 0), (8, 0), (9, 0), (10, 0), (11, 1), (13, 1), (15, 1), (17, 1), (19, 2), (23, 2),
   (27, 2), (31, 2), (35, 3), (43, 3), (51, 3), (59, 3), (67, 4), (83, 4), (99, 4), (115, 4), (131, 5), (163, 5), (195, 5),
   (227, 5), (258, 0)]

/-- Base and extra bits of distance symbols 0 to 29. -/
def distanceBase : List (Nat × Nat) :=
  [(1, 0), (2, 0), (3, 0), (4, 0), (5, 1), (7, 1), (9, 2), (13, 2), (17, 3), (25, 3), (33, 4), (49, 4), (65, 5), (97, 5),
   (129, 6), (193, 6), (257, 7), (385, 7), (513, 8), (769, 8), (1025, 9), (1537, 9), (2049, 10), (3073, 10), (4097, 11),
   (6145, 11), (8193, 12), (12289, 12), (16385, 13), (24577, 13)]

/-- n bytes copied from a distance back, byte by byte, so that a copy may overlap itself. -/
def copyBack : Nat → Nat → Bytes → Bytes
  | 0, _, out => out
  | n + 1, dist, out => copyBack n dist (out.getD (dist - 1) 0 :: out)

/-- Symbols up to the end of a block; fuel bounds the symbols. -/
def inflateSymbols (lit dist : PrefixCode) : Nat → List Bool → Bytes → Option (List Bool × Bytes)
  | 0, _, _ => none
  | f + 1, bs, out =>
    match readSymbol lit 0 bs with
    | none => none
    | some (sym, bs) =>
      if sym < 256 then inflateSymbols lit dist f bs (BitVec.ofNat 8 sym :: out)
      else if sym = 256 then some (bs, out)
      else
        match lengthBase[sym - 257]? with
        | none => none
        | some (lb, le) =>
          match takeBits le bs with
          | none => none
          | some (lx, bs) =>
            match readSymbol dist 0 bs with
            | none => none
            | some (ds, bs) =>
              match distanceBase[ds]? with
              | none => none
              | some (db, de) =>
                match takeBits de bs with
                | none => none
                | some (dx, bs) =>
                  if out.length < db + dx then none
                  else inflateSymbols lit dist f bs (copyBack (lb + lx) (db + dx) out)

/-- The order in which code length code lengths come (RFC 1951, 3.2.7). -/
def lengthOrder : List Nat := [16, 17, 18, 0, 8, 7, 9, 6, 10, 5, 11, 4, 12, 3, 13, 2, 14, 1, 15]

/-- n numbers of 3 bits. -/
def takeThrees : Nat → List Bool → Option (List Nat × List Bool)
  | 0, bs => some ([], bs)
  | n + 1, bs =>
    match takeBits 3 bs with
    | none => none
    | some (v, bs) => (takeThrees n bs).map (fun p => (v :: p.1, p.2))

/-- The code lengths of a dynamic block, newest first, until want of them are there; fuel bounds the symbols. -/
def readLengths (code : PrefixCode) (want : Nat) : Nat → List Bool → List Nat → Option (List Nat × List Bool)
  | 0, _, _ => none
  | f + 1, bs, acc =>
    if acc.length = want then some (acc, bs)
    else if want < acc.length then none
    else
      match readSymbol code 0 bs with
      | none => none
      | some (sym, bs) =>
        if sym < 16 then readLengths code want f bs (sym :: acc)
        else
          let prev := if sym = 16 then acc.head? else some 0
          let extra := if sym = 16 then 2 else if sym = 17 then 3 else 7
          let base := if sym = 18 then 11 else 3
          match prev, takeBits extra bs with
          | some p, some (x, bs) => readLengths code want f bs (List.replicate (base + x) p ++ acc)
          | _, _ => none

/-- The codes of a dynamic block (RFC 1951, 3.2.7). -/
def dynamicCodes (bs : List Bool) : Option (PrefixCode × PrefixCode × List Bool) :=
  match takeBits 5 bs with
  | none => none
  | some (hl, bs) =>
    match takeBits 5 bs with
    | none => none
    | some (hd, bs) =>
      match takeBits 4 bs with
      | none => none
      | some (hc, bs) =>
        match takeThrees (hc + 4) bs with
        | none => none
        | some (ls, bs) =>
          let cl := codeOf ((List.range 19).map (fun i =>
            ((lengthOrder.zip ls).find? (fun p => p.1 == i)).elim 0 (·.2)))
          if !codeUsable cl || 29 < hl || 29 < hd then none
          else
            match readLengths cl (hl + 257 + hd + 1) 320 bs [] with
            | none => none
            | some (acc, bs) =>
              let all := acc.reverse
              let lit := codeOf (all.take (hl + 257))
              let dist := codeOf (all.drop (hl + 257))
              if codeUsable lit && codeUsable dist && all.getD 256 0 != 0 then some (lit, dist, bs) else none

/-- Whole bytes from bits. -/
def bytesOfBits : Nat → List Bool → Option (Bytes × List Bool)
  | 0, bs => some ([], bs)
  | n + 1, bs =>
    match takeBits 8 bs with
    | none => none
    | some (v, bs) => (bytesOfBits n bs).map (fun p => (BitVec.ofNat 8 v :: p.1, p.2))

/-- Blocks up to the final one; fuel bounds the blocks and, in each, the symbols. -/
def inflateBlocks : Nat → List Bool → Bytes → Option Bytes
  | 0, _, _ => none
  | f + 1, bs, out =>
    match takeBits 1 bs with
    | none => none
    | some (final, bs) =>
      match takeBits 2 bs with
      | none => none
      | some (kind, bs) =>
        let block : Option (List Bool × Bytes) :=
          if kind = 0 then
            let bs := bs.drop (bs.length % 8)
            match takeBits 16 bs with
            | none => none
            | some (n, bs) =>
              match takeBits 16 bs with
              | none => none
              | some (m, bs) =>
                if n + m != 65535 then none
                else (bytesOfBits n bs).map (fun p => (p.2, p.1.reverse ++ out))
          else if kind = 1 then inflateSymbols (codeOf fixedLengths) (codeOf fixedDistances) (bs.length + 1) bs out
          else if kind = 2 then
            match dynamicCodes bs with
            | none => none
            | some (lit, dist, bs) => inflateSymbols lit dist (bs.length + 1) bs out
          else none
        match block with
        | none => none
        | some (bs, out) => if final = 1 then some out else inflateBlocks f bs out

/-- The bytes a raw DEFLATE stream inflates to; none where it is malformed. -/
def inflate (data : Bytes) : Option Bytes :=
  let bs := streamBits data
  (inflateBlocks (bs.length + 1) bs []).map List.reverse

end Sys2Proof.Machine
end

