-- ==== Sys2Proof/Machine/Image.lean ====
section
/-! DEFINITION. The Wyiley image (R267, R269 to R273): its header, its section table, and what a section's stored bytes must be,
as pure judgements over bytes. -/

namespace Sys2Proof.Machine

/-- A little-endian field of bytes. -/
def fieldAt (bs : Bytes) (offset size : Nat) : Nat := leVal ((bs.drop offset).take size)

/-- The bytes of SYNC (R269). -/
def syncBytes : Bytes := [0xC3, 0x5A, 0x0F, 0xE1, 0x57, 0x59, 0x4C, 0x31]

/-- The lengths of the header and of a table entry (R269, R270). -/
def headerLen : Nat := 256
def entryLen : Nat := 80

/-- Fields of the header (R269), from SYNC on. -/
def hdrFormat (h : Bytes) : Nat := fieldAt h 8 2
def hdrSections (h : Bytes) : Nat := fieldAt h 10 2
def hdrFlags (h : Bytes) : Nat := fieldAt h 12 4
def hdrGlobal (h : Bytes) : Bool := bitOf (hdrFlags h) 0
def hdrGolden (h : Bytes) : Bool := bitOf (hdrFlags h) 1
def hdrEncrypted (h : Bytes) : Bool := bitOf (hdrFlags h) 2
def hdrAdvance (h : Bytes) : Bool := bitOf (hdrFlags h) 3
def hdrRawIp (h : Bytes) : Bool := bitOf (hdrFlags h) 4
def hdrVersion (h : Bytes) : Nat := fieldAt h 16 2
def hdrKeySlot (h : Bytes) : Nat := fieldAt h 18 1
def hdrAesSlot (h : Bytes) : Nat := fieldAt h 19 1
def hdrNonce (h : Bytes) : Bytes := (h.drop 20).take 12
def hdrLength (h : Bytes) : Nat := fieldAt h 32 8
def hdrId (h : Bytes) : Bytes := (h.drop 40).take 16
def hdrDigest (h : Bytes) : Bytes := (h.drop 56).take 48
def hdrSignature (h : Bytes) : Bytes := (h.drop 160).take 96

/-- A slot number is used, absent, or reserved (R269, R275 step 2). -/
def slotField (v : Nat) : Bool := Nat.ble v 3 || v == 0xFF

/-- Step 2 of R275 over the header: FORMAT, N_SECTIONS, reserved fields and values, ENCRYPTED with AES_SLOT. -/
def headerFormed (h : Bytes) : Bool :=
  hdrFormat h == 1 && Nat.ble 1 (hdrSections h) && Nat.ble (hdrSections h) 2048 && hdrFlags h / 32 == 0
    && slotField (hdrKeySlot h) && slotField (hdrAesSlot h) && ((h.drop 104).take 56).all (· == 0)
    && (hdrEncrypted h == Nat.ble (hdrAesSlot h) 3)

/-- A section-table entry (R270). -/
def sectionOf (e : Bytes) : LoadSection :=
  { typ := fieldAt e 0 1, comp := fieldAt e 1 1, mask := fieldAt e 2 2, target := fieldAt e 4 4, offset := fieldAt e 8 8,
    stored := fieldAt e 16 4, raw := fieldAt e 20 4, digest := (e.drop 32).take 48, entry := e }

/-- The table of n entries that follows the header. -/
def tableOf (n : Nat) (image : Bytes) : List LoadSection :=
  (chunks entryLen n ((image.drop headerLen).take (entryLen * n))).map sectionOf

/-- The bytes a section occupies, chunk checks included (R270). -/
def LoadSection.span (x : LoadSection) : Nat := x.stored + 4 * ceilDiv x.stored 4096

/-- The end of a section. -/
def LoadSection.endsAt (x : LoadSection) : Nat := x.offset + x.span

/-- The device takes a section (R267). -/
def LoadSection.taken (x : LoadSection) (devId : Nat) : Bool := bitOf x.mask devId

/-- The rules of one entry (R270, R271): reserved fields, COMP, TYPE, OFFSET's multiple, and TARGET and RAW_LEN by TYPE. -/
def LoadSection.formed (x : LoadSection) : Bool :=
  ((x.entry.drop 24).take 8).all (· == 0) && Nat.ble x.comp 1 && x.offset % 16 == 0 &&
    (match x.typ with
     | 1 => Nat.ble x.target 1023 && x.raw == 1228800
     | 2 => Nat.ble x.target 127 && x.raw == 294912
     | 3 => x.target == 0
     | 4 => x.target == 0 && x.raw % 16 == 0
     | 5 => x.target == 0 && x.raw % 16 == 0 && Nat.ble x.raw 65536
     | 6 => x.target == 0
     | _ => false)

/-- Sections lie one after another from a place on, and the last one ends at the image's end (R270). -/
def placesFormed (len : Nat) : Nat → List LoadSection → Bool
  | at_, [] => at_ == len
  | at_, x :: l => Nat.ble at_ x.offset && (match l with | [] => x.endsAt == len | _ :: _ => placesFormed len x.endsAt l)

/-- Ascending offsets, told apart from the sections' ends: two sections of no bytes may not share a place (R270). -/
def offsetsRise : List LoadSection → Bool
  | a :: b :: l => Nat.blt a.offset b.offset && offsetsRise (b :: l)
  | _ => true

/-- No value is listed twice. -/
def distinctNats : List Nat → Bool
  | [] => true
  | a :: l => !l.contains a && distinctNats l

/-- The limits of R271 among the sections the device takes. -/
def limitsKept (ts : List LoadSection) : Bool :=
  let targets (k : Nat) : List Nat := (ts.filter (fun x => x.typ == k)).map (·.target)
  distinctNats (targets 1) && distinctNats (targets 2) && Nat.ble (targets 4).length 1 && Nat.ble (targets 5).length 1
    && (targets 3).length == 1

/-- The first entry that breaks a rule of R270 or R271 on its own. -/
def malformedEntry (ts : List LoadSection) : Option Nat := (ts.zipIdx.find? (fun p => !p.1.formed)).map (·.2)

/-- The table rules of step 7 of R275 hold. -/
def tableFormed (len devId : Nat) (ts : List LoadSection) : Bool :=
  (malformedEntry ts).isNone && offsetsRise ts && placesFormed len (headerLen + entryLen * ts.length) ts
    && limitsKept (ts.filter (fun x => x.taken devId))

/-- The stored bytes of a section freed of their chunk checks; none where one fails (R272). -/
def unchunk : List Bytes → Option Bytes
  | [] => some []
  | c :: l =>
    let data := c.take (c.length - 4)
    if leVal (c.drop (c.length - 4)) = crc32 data then (unchunk l).map (fun r => data ++ r) else none

/-- A section's nonce: NONCE with its last 4 bytes XORed with the section index (R272), a little-endian U32 like the image's
fields. -/
def sectionNonce (nonce : Bytes) (index : Nat) : Bytes :=
  nonce.take 8 ++ List.zipWith (fun a b => a ^^^ b) (nonce.drop 8) (leBytes 4 index)

/-- What a section's bytes give (R272, R275 steps 9 and 10): the raw content, and whether DIGEST and the GCM tag hold; none
where a chunk check, the inflation or RAW_LEN fails. -/
structure SectionContent where
  raw : Bytes
  digestOk : Bool
  tagOk : Bool
deriving DecidableEq, Repr

/-- A section's bytes read; key is the AES key of an encrypted image. -/
def readSection (x : LoadSection) (index : Nat) (nonce : Bytes) (key : Option Bytes) (bytes : Bytes) : Option SectionContent :=
  match unchunk (chunks 4100 (ceilDiv x.stored 4096) bytes) with
  | none => none
  | some stored =>
    let opened : Bytes × Bool := match key with
      | some k => gcmOpen k (sectionNonce nonce index) x.entry stored
      | none => (stored, true)
    let raw := if x.comp = 1 then inflate opened.1 else some opened.1
    match raw with
    | none => none
    | some r =>
      if r.length = x.raw then some { raw := r, digestOk := sha384 stored == x.digest, tagOk := opened.2 } else none

/-- The key of a signing slot; none where the slot is empty or revoked (R273). -/
def State.signingKey (s : State) (slot : Nat) : Option Bytes :=
  match mfind s.keeper.signing slot with
  | some (.valid p) => some p
  | some .revoked => none
  | none => none

/-- The lifecycle takes unsigned images (R273). -/
def State.takesUnsigned (s : State) : Bool := s.life == .blank || s.life == .opened

/-- The signature of an image as R273 judges it: the LOAD_DETAIL of a failure. -/
def State.judgeSignature (s : State) (h : Bytes) : Option Nat :=
  if hdrKeySlot h = 0xFF then (if s.takesUnsigned then none else some 7)
  else if s.keeper.failed then some 8
  else match s.signingKey (hdrKeySlot h) with
    | none => some 2
    | some k => if signatureOk k (h.take 160) (hdrSignature h) then none else some 1

/-- The AES key of an encrypted image, as R273 judges it. -/
def State.judgeAes (s : State) (h : Bytes) : Option Nat :=
  if !hdrEncrypted h then none
  else if s.keeper.failed then some 8
  else if (mfind s.keeper.aes (hdrAesSlot h)).isNone then some 9
  else none

/-- The AES key under which an image's sections are read. -/
def State.imageKey (s : State) (h : Bytes) : Option Bytes :=
  if hdrEncrypted h then some (mget s.keeper.aes (hdrAesSlot h) []) else none

/-- DEV_ID (R288). -/
def State.devId (s : State) : Nat := bitsOf (s.rget .STRAPS) 7 4

/-- The place of SYNC in bytes, wholly within a limit. -/
def findSync : Nat → Nat → Bytes → Option Nat
  | _, _, [] => none
  | limit, i, b :: bs =>
    if limit < i + 8 then none else if (b :: bs).take 8 == syncBytes then some i else findSync limit (i + 1) bs

/-- The flash hunt's limit (R275 step 1). -/
def huntLimit : Nat := 65536

end Sys2Proof.Machine
end

