-- ==== Sys2Proof/Machine/CfgScrub.lean ====
section
/-! DEFINITION. The configuration scrubber and the frame reserve (R313 to R337, R495): the sweep, correction in place, repair,
contention frames, check-only mode, the reserve's records and their filling. -/

namespace Sys2Proof.Machine

/-! The contention guard (R144). -/

/-- A queued frame moved to the rank of the contention guard (R321, R335), in the queue or in the priority list. -/
def raiseRank (plane frame : Nat) (s : State) : State :=
  let here (e : RepairEntry) : Bool := e.plane == plane && e.frame == frame
  let c := s.scr
  let queue := match c.queue.find? here with
    | some e => insertEntry { e with rank := 0 } (c.queue.filter (fun a => !here a))
    | none => c.queue
  s.setScr { c with queue, extra := c.extra.map (fun e => if here e then { e with rank := 0 } else e) }

/-- A frame that the guard hands over to be read out of turn, with a ticket; one that waits already, queued or handed over, keeps its
own (R144, R321, R322, R335). -/
def handOverFrame (f : Nat × Nat) (s : State) : State :=
  if s.scr.handed.any (fun h => h.1 == f.1 && h.2.1 == f.2) then s
  else
    let p := match s.ticketHeld f.1 f.2 with
      | some t => (t, s)
      | none => newTicket s
    p.2.setScr { p.2.scr with handed := p.2.scr.handed ++ [(f.1, f.2, p.1)] }

/-- UNDERPASS_CONTENTION: both drivers of an Underpass are enabled (R144, R145). -/
def execUnderpassContention (district underpass : Nat) (s : State) : Host.Outcome State Fault Refusal :=
  let q := district / 2
  let g := s.guard q underpass
  if g.off then .next s
  else
    let a := 2 * q
    let b := 2 * q + 1
    let again := match g.enabledAt with
      | some n => Nat.blt s.orbits (n + 16)
      | none => false
    let frames := [s.guardFrame a underpass, s.guardFrame b underpass]
    let g : Guard := { off := true, keptOff := again, cleared := false, frames, enabledAt := g.enabledAt, since := s.crossing }
    let s := s.setGuard q underpass g
    let s := (s.rinc .UP_CONTENTIONS a).rinc .UP_CONTENTIONS b
    let s := (s.rset .UP_LAST a underpass).rset .UP_LAST b underpass
    let s := s.raise sevError 0x0401 a (leBytes 1 q ++ leBytes 2 underpass ++ leBytes 1 a ++ leBytes 1 b
      ++ leBytes 1 (s.dist a).ctx ++ leBytes 1 (s.dist b).ctx ++ leBytes 8 s.mt)
    .next (frames.foldl (fun t f => handOverFrame f t) s)

/-! The triple registers and passes (R317, R332). -/

/-- The settings kept in triple registers (R332). -/
def tripleElements : List El := [.CS_ENABLE, .FR_ENABLE, .FR_FIRST, .FR_BANKS, .FR_SLOT_BANKS]

/-- One copy of a triple register, 0 A to 2 C (R332). -/
def State.copyOf (s : State) (e : El) (c : Nat) : Nat := mget s.scr.triple (3 * regKey e 0 + c) e.info.dflt

/-- The bitwise majority of three values. -/
def majority (a b c : Nat) : Nat := Nat.lor (Nat.lor (Nat.land a b) (Nat.land a c)) (Nat.land b c)

/-- A triple register as the bitwise majority of its copies reads (R332). -/
def State.votedSetting (s : State) (e : El) : Nat := majority (s.copyOf e 0) (s.copyOf e 1) (s.copyOf e 2)

/-- One copy of a triple register written. -/
def setCopy (e : El) (c v : Nat) (s : State) : State :=
  s.setScr { s.scr with triple := mset s.scr.triple (3 * regKey e 0 + c) v e.info.dflt }

/-- All three copies of a triple register written. -/
def setCopies (e : El) (v : Nat) (s : State) : State := setCopy e 2 v (setCopy e 1 v (setCopy e 0 v s))

/-- The triple registers refreshed from the keeper copy; a keeper that cannot be read leaves them, stale, with one record. -/
def refreshTriple (s : State) : State :=
  if s.keeper.failed then
    if s.scr.stale then s else (s.setScr { s.scr with stale := true }).raise sevWarning 0x0114 scrubUnit []
  else
    let s := tripleElements.foldl (fun t e => setCopies e (t.rget e) t) s
    s.setScr { s.scr with stale := false }

/-- The sweep is on (CS_ENABLE in force). -/
def State.sweepOn (s : State) : Bool := s.votedSetting .CS_ENABLE == 1

/-- The planes of a Quarter's sweep in the present pass (R317). -/
def State.sweepSet (s : State) (q : Nat) : List Nat :=
  ((List.range 16).map (fun i => 16 * q + i)).filter (fun k =>
    s.loaded k && (s.inService k || k % 8 % 4 == s.scr.pass))

/-- A pass begins in all Quarters (R317, R332). -/
def startPass (s : State) : State :=
  let s := refreshTriple s
  if s.sweepOn then
    let sets := (List.range 64).foldl (fun m q => mset m q (s.sweepSet q) []) []
    s.setScr { s.scr with begun := true, passFrom := s.us, sets, reads := [] }
  else s.setScr { s.scr with begun := false, sets := [], reads := [] }

/-- A Quarter's sweep has ended. -/
def State.sweepDone (s : State) (q : Nat) : Bool :=
  Nat.ble (4800 * (mget s.scr.sets q []).length) (mget s.scr.reads q 0)

/-- The pass ends when the slowest Quarter has finished, and the next one begins (R317). -/
def finishPass (s : State) : State :=
  if s.scr.sets.all (fun p => s.sweepDone p.1) then
    let took := Nat.min (s.us - s.scr.passFrom) 0xFFFFFFFF
    let s := (s.rinc .CS_PASSES).rset .CS_LAST_PASS 0 took
    startPass (s.setScr { s.scr with pass := (s.scr.pass + 1) % 4 })
  else s

/-! The three copies (R332 to R334). -/

/-- One copy disagrees and is reloaded (R333). -/
def selfUpset (copy : Nat) (s : State) : State :=
  ((s.setScr { s.scr with oddCopy := copy % 3 }).rinc .CS_SELF_UPSETS).raise sevWarning 0x0112 scrubUnit (leBytes 1 (copy % 3))

/-- A triple register whose copies differ is corrected by its majority, which counts as a copy outvoted does (R333). -/
def correctTriple (e : El) (s : State) : State :=
  let v := s.votedSetting e
  match (List.range 3).find? (fun c => s.copyOf e c != v) with
  | none => s
  | some c => selfUpset c (setCopies e v s)

/-- The scrubber's registers as an operation finds them: bits of one copy inverted, which the majority corrects (R332, R333). -/
def findTriple (vote : CopyVote) (s : State) : State :=
  match vote with
  | .agree => s
  | .odd _ => s
  | .split => s
  | .register i c bits => match tripleElements[i]? with
    | none => s
    | some e =>
      correctTriple e (setCopy e (c % 3) (Nat.xor (s.copyOf e (c % 3)) (bits.toNat % 2 ^ (8 * e.info.size))) s)

/-- All three copies disagree: check-only mode (R334). -/
def enterCheckOnly (s : State) : State :=
  if s.scr.checkOnly then s else (s.setScr { s.scr with checkOnly := true }).raise sevError 0x0113 scrubUnit []

/-- A frame write of the scrubber under the vote of its copies (R332 to R334): none in check-only mode or where all three
disagree. The answer says whether it was made. -/
def votedWrite (vote : CopyVote) (act : State → State) (s : State) : Bool × State :=
  if s.scr.checkOnly then (false, s)
  else match vote with
    | .agree => (true, act s)
    | .register _ _ _ => (true, act s)
    | .odd c => (true, act (selfUpset c s))
    | .split => (false, enterCheckOnly s)

/-! The sweep (R317 to R320). -/

/-- A frame found CORRECTED is corrected where it lies and read back (R320): whether it reads CLEAN. -/
def correctFrame (plane frame : Nat) (fixed : BitVec 2093) (s : State) : Bool × State :=
  let s := (setFrameCells plane frame fixed s).rinc .CS_CORRECTED
  if s.readsBack plane frame then (true, frameVerified plane frame s) else (false, s)

/-- A correction in place; a frame whose readback is not CLEAN is handed to repair (R320). -/
def correctOrRepair (plane frame : Nat) (fixed : BitVec 2093) (s : State) : State :=
  let r := correctFrame plane frame fixed s
  if r.1 then r.2 else (enqueueRepair plane frame 2 r.2).2

/-- The result of a frame of a loaded plane acted on (R316, R320, R321). -/
def sweepFrame (plane frame : Nat) (vote : CopyVote) (s : State) : State :=
  match classify plane frame (s.frame plane frame) with
  | .clean => s
  | .corrected fixed => (votedWrite vote (correctOrRepair plane frame fixed) s).2
  | .multi => (enqueueRepair plane frame 2 s).2
  | .tagFail => (enqueueRepair plane frame 2 s).2

/-- SWEEP_FRAME_READ: a Quarter's frame reader reads its next frame (R317 to R319). -/
def execSweepFrameRead (quarter : Nat) (vote : CopyVote) (s : State) : Host.Outcome State Fault Refusal :=
  if !s.memoryOn then .next s
  else
    let s := findTriple vote s
    let s := if s.scr.begun then s else startPass s
    let set := mget s.scr.sets quarter []
    if !s.scr.begun || s.paused quarter 1 then .next s
    else if s.sweepDone quarter then .next (finishPass s)
    else
      let r := mget s.scr.reads quarter 0
      let plane := set.getD (r % set.length) 0
      let s := s.setScr { s.scr with reads := mput s.scr.reads quarter (r + 1) }
      .next (finishPass (if s.loaded plane then sweepFrame plane (r / set.length) vote s else s))

/-! The frame reserve (R327 to R330). -/

/-- The requester index and the router under which the controller reaches the reserve, as the service core's (R327). -/
def reserveIndex : Nat := 4
def reserveRouter : Nat := 0

/-- The controller as a requester of the reserve: with the service core's rights, at C3 (R327). -/
def reserveMaster : Requester := .plaza (.core true)

/-- An access of the controller to a place of the reserve waits for its turn (R105, R327). -/
def reserveTurn (place : Nat) (s : State) : State := settleBank (place / 262144) reserveMaster 3 s

/-- Bytes of a bank's neighbourhood, from a byte place of the memory layer on: the bytes and the error indication. -/
def readBytes : Nat → Nat → Nat → State → (Bytes × Bool) × State
  | 0, _, _, s => (([], false), s)
  | f + 1, place, n, s =>
    if n = 0 then (([], false), s)
    else
      let k := Nat.min n (16 - place % 16)
      let r := readRow (place / 262144) (place % 262144 / 16) reserveIndex reserveRouter (reserveTurn place s)
      let rest := readBytes f (place + k) (n - k) r.2
      (((leBytes 16 r.1.1.toNat).drop (place % 16) |>.take k |> (· ++ rest.1.1), r.1.2 || rest.1.2), rest.2)

/-- Bytes written from a byte place of the memory layer on. -/
def writeBytes : Nat → Nat → Bytes → State → State
  | 0, _, _, s => s
  | f + 1, place, bs, s =>
    match bs with
    | [] => s
    | _ :: _ =>
      let o := place % 16
      let part := bs.take (16 - o)
      let d := BitVec.ofNat 128 (leVal part * 2 ^ (8 * o))
      let be := (2 ^ part.length - 1) * 2 ^ o
      writeBytes f (place + part.length) (bs.drop (16 - o))
        (plazaWriteRow (place / 262144) (place % 262144 / 16) reserveIndex reserveRouter d be (reserveTurn place s)).2

/-- FR_SLOTS (R327). -/
def State.reserveSlots (s : State) : Nat := s.votedSetting .FR_BANKS / Nat.max (s.votedSetting .FR_SLOT_BANKS) 1

/-- The bytes of a slot, and a slot's first byte in the memory layer. -/
def State.slotSize (s : State) : Nat := 262144 * s.votedSetting .FR_SLOT_BANKS
def State.slotBase (s : State) (slot : Nat) : Nat := 262144 * s.votedSetting .FR_FIRST + slot * s.slotSize

/-- The first byte after a slot's directory (R328). -/
def directoryLen : Nat := 19200

/-- The slot of a plane that serves repairs (R323, R330): assigned, and not being filled. -/
def State.filledSlot (s : State) (plane : Nat) : Option Nat :=
  if s.votedSetting .FR_ENABLE = 1 && (mfind s.scr.filling plane).isNone then mfind s.scr.slots plane else none

/-- A frame's directory entry (R328). -/
def directoryEntry (slot frame : Nat) (s : State) : (Nat × Bool) × State :=
  let r := readBytes 3 (s.slotBase slot + 4 * frame) 4 s
  ((leVal r.1.1, r.1.2), r.2)

/-- The check of a record: CRC-32C over the data bytes alone (R328). -/
def recordCheck (data : BitVec 2048) : Nat := crc32c (leBytes 256 data.toNat)

/-- The data that a record's bytes give (R328); none where the inflation or the check fails. -/
def recordData (raw : Bool) (bs : Bytes) : Option (BitVec 2048) :=
  let body := bs.drop 4
  let data := if raw then some body else inflate body
  match data with
  | none => none
  | some d =>
    let v := BitVec.ofNat 2048 (leVal d)
    if d.length = 256 && recordCheck v = leVal (bs.take 4) then some v else none

/-- The reserve's answer for a frame (R323): no record, one that is unusable, or the data. -/
inductive ReserveRead
  | absent
  | unusable
  | data (v : BitVec 2048)
deriving DecidableEq, Repr

/-- A frame's record read from the reserve (R323, R328). -/
def readReserve (plane frame : Nat) (s : State) : ReserveRead × State :=
  match s.filledSlot plane with
  | none => (.absent, s)
  | some slot =>
    let e := directoryEntry slot frame s
    if e.1.2 then (.unusable, e.2)
    else if !bitOf e.1.1 31 then (.absent, e.2)
    else
      let r := readBytes 40 (e.2.slotBase slot + bitsOf e.1.1 20 0) (bitsOf e.1.1 29 21) e.2
      if r.1.2 then (.unusable, r.2)
      else match recordData (bitOf e.1.1 30) r.1.1 with
        | some v => (.data v, r.2)
        | none => (.unusable, r.2)

/-- The bytes of a frame's record and whether it is raw (R328). -/
def makeRecord (data : BitVec 2048) : Bytes × Bool :=
  let plain := leBytes 256 data.toNat
  let packed := Config.deflate plain
  let good := Nat.blt packed.length 256 && inflate packed == some plain
  (leBytes 4 (recordCheck data) ++ (if good then packed else plain), !good)

/-- A frame copied into its plane's slot at the free tail (R328, R329): false where the tail has no room. -/
def copyToReserve (plane slot frame : Nat) (s : State) : Bool × State :=
  let tail := mget s.scr.tails plane directoryLen
  let rec_ := makeRecord (frameData (s.frame plane frame))
  let dir := s.slotBase slot + 4 * frame
  if Nat.ble (tail + rec_.1.length) s.slotSize then
    let entry := tail + rec_.1.length * 2 ^ 21 + flagBit rec_.2 30 + 2 ^ 31
    let s := writeBytes 40 (s.slotBase slot + tail) rec_.1 s
    let s := writeBytes 3 dir (leBytes 4 entry) s
    (true, s.setScr { s.scr with tails := mput s.scr.tails plane (tail + rec_.1.length) })
  else (false, writeBytes 3 dir (leBytes 4 0) s)

/-- A frame taken into its plane's slot (R329): copied where it reads CLEAN, and otherwise marked not VALID; false where the tail has
no room. -/
def reserveFrame (plane slot frame : Nat) (s : State) : Bool × State :=
  if s.readsBack plane frame then copyToReserve plane slot frame s
  else (true, writeBytes 3 (s.slotBase slot + 4 * frame) (leBytes 4 0) s)

/-- A plane loses its slot: no reserve copy, with a NOTICE record (R328). -/
def dropSlot (plane : Nat) (s : State) : State :=
  let c := s.scr
  (s.setScr { c with slots := mdel c.slots plane, filling := mdel c.filling plane, tails := mdel c.tails plane }).raise
    sevNotice 0x0116 reserveUnit []

/-- The filling of a plane's slot begins, or begins anew. -/
def refill (plane : Nat) (s : State) : State :=
  let c := s.scr
  if (mfind c.slots plane).isSome then
    s.setScr { c with filling := mput c.filling plane 0, tails := mput c.tails plane directoryLen }
  else s

/-- A free slot (R329). -/
def State.freeSlot (s : State) : Option Nat :=
  (List.range s.reserveSlots).find? (fun i => s.scr.slots.all (fun p => p.2 != i))

/-- A plane takes a free slot, while one is left (R329), and its filling begins. -/
def takeSlot (plane : Nat) (s : State) : State :=
  if s.votedSetting .FR_ENABLE != 1 then s
  else if (mfind s.scr.slots plane).isSome then refill plane s
  else match s.freeSlot with
    | some i => refill plane (s.setScr { s.scr with slots := mput s.scr.slots plane i })
    | none => s

/-- Slots assigned at a global acceptance (R329): in-service planes first, then background planes, in ascending number. -/
def assignSlots (planes : List Nat) (s : State) : State :=
  let s := s.setScr { s.scr with slots := [], filling := [], tails := [] }
  let front := planes.filter s.inService
  let back := planes.filter (fun k => !s.inService k)
  (front ++ back).foldl (fun t k => takeSlot k t) s

/-- RESERVE_FILL_FRAME: the controller copies the next frame of the first slot in filling (R329): a frame that is not CLEAN, or
finds no room, gets no valid record; a plane that does not fit has no reserve copy (R328). -/
def execReserveFillFrame (s : State) : Host.Outcome State Fault Refusal :=
  match s.scr.filling.find? (fun p => s.loaded p.1) with
  | none => .next s
  | some (plane, frame) =>
    if s.votedSetting .FR_ENABLE != 1 || !s.memoryOn then .next s
    else
      let slot := mget s.scr.slots plane 0
      let r := reserveFrame plane slot frame s
      if !r.1 then .next (dropSlot plane r.2)
      else
        let c := r.2.scr
        .next (r.2.setScr { c with
          filling := if Nat.ble 4800 (frame + 1) then mdel c.filling plane else mput c.filling plane (frame + 1) })

/-! Repair (R321 to R326). -/

/-- A plane with no frame left in the queue returns to LOADED (R325), and a District stopped for repairs begins its release once
none of its frames is queued (R324); one that a load in progress has stopped waits for that load (R179). -/
def settleRepairs (plane : Nat) (s : State) : State :=
  let d := plane / 8
  let s := if s.hasQueued plane then s
    else
      let s := s.setScr { s.scr with judged := mdel s.scr.judged plane }
      if (s.plane plane).state = 3 then s.setPlane plane { s.plane plane with state := 2 } else s
  if s.repairsQueued.any (fun e => e.plane / 8 == d) || (s.dist d).stage.isSome
      || s.load.planes.any (fun p => p.1 / 8 == d && p.2) then s else releaseFrom d s

/-- A repair fails (R326): the ticket, the count, the plane EMPTY with its queued frames failed, the ERROR record; a District
stopped for it stays stopped. -/
def failRepair (e : RepairEntry) (inService : Bool) (s : State) : State :=
  let p := dropQueued e.plane s
  let s := setTickets (e.ticket :: p.1) 3 p.2
  let s := (s.setScr { s.scr with busy := none, lastTicket := e.ticket }).rinc .CS_FAILED
  let s := if inService then keepStopped e.plane s else s
  settleRepairs e.plane ((promoteRepairs (emptyPlane e.plane s)).raise sevError 0x0111 scrubUnit [])

/-- The frame that an image gives for a repair, its checks made in the order of R331; none where one fails. -/
def State.imageFrame (s : State) (id image : Bytes) (plane frame : Nat) : Option (BitVec 2048) :=
  let table := tableOf (hdrSections image) image
  let digest := sha384 ((image.drop headerLen).take (entryLen * hdrSections image))
  if image.take 8 != syncBytes || hdrId image != id || (s.judgeSignature image).isSome || (s.judgeAes image).isSome
      || digest != hdrDigest image then none
  else match table.zipIdx.find? (fun p => p.1.taken s.devId && p.1.typ == 1 && p.1.target == plane) with
    | none => none
    | some (x, i) =>
      match readSection x i (hdrNonce image) (s.imageKey image) ((image.drop x.offset).take x.span) with
      | none => none
      | some c =>
        if c.digestOk && c.tagOk then some (BitVec.ofNat 2048 (leVal ((c.raw.drop (256 * frame)).take 256))) else none

/-- A plane has an image source for a frame (R331). -/
def State.imageSource (s : State) (plane frame : Nat) : Option (Nat × Nat × Bytes) :=
  if (mget s.scr.noImage plane []).contains frame then none else mfind s.scr.images plane

/-- A load holds the flash (R331). -/
def State.flashHeld (s : State) : Bool := s.load.active && Nat.ble s.load.source 1

/-- The repair at the head begins, with its source and data. -/
def beginRepair (e : RepairEntry) (source : Nat) (data : BitVec 2048) (inService : Bool) (s : State) : State :=
  s.setScr { s.scr with
    queue := s.scr.queue.drop 1
    busy := some { entry := e, source, data, inService, written := source == 0 } }

/-- The source after the reserve: the image, which waits while a load holds the flash, or none (R323, R331). -/
def repairFromImage (e : RepairEntry) (image : Bytes) (inService : Bool) (s : State) : State :=
  match s.imageSource e.plane e.frame with
  | none => failRepair e inService s
  | some (_, _, id) =>
    if s.flashHeld then s.setScr { s.scr with flashWait := some e.ticket }
    else match s.imageFrame id image e.plane e.frame with
      | some v => beginRepair e 2 v inService s
      | none => failRepair e inService s

/-- The repair that found a load holding the flash waits for it yet, at the head of the queue (R331). -/
def State.flashWaits (s : State) : Bool :=
  s.flashHeld && (match s.scr.queue with
    | e :: _ => s.scr.flashWait == some e.ticket
    | [] => false)

/-- REPAIR_START: the queue's head is judged and its source chosen and read (R320, R323, R324); image is what the flash holds at
the recorded address. In check-only mode, where no frame is written, only a frame found CLEAN is done with, and every other one waits
(R334). -/
def execRepairStart (image : Bytes) (s : State) : Host.Outcome State Fault Refusal :=
  match s.scr.busy, s.scr.queue with
  | none, e :: _ =>
    let inService := mget s.scr.judged e.plane (s.inService e.plane)
    let s := s.setScr { s.scr with judged := mput s.scr.judged e.plane inService }
    match classify e.plane e.frame (s.frame e.plane e.frame) with
    | .clean => .next (beginRepair e 0 0 inService s)
    | .corrected fixed => .next (if s.scr.checkOnly then s else beginRepair e 3 (frameData fixed) inService s)
    | _ =>
      if s.scr.checkOnly then .next s else
      let r := readReserve e.plane e.frame s
      match r.1 with
      | .data v => .next (beginRepair e 1 v inService r.2)
      | .unusable => .next (repairFromImage e image inService (r.2.raise sevWarning 0x0115 reserveUnit []))
      | .absent => .next (repairFromImage e image inService r.2)
  | _, _ => .next s

/-- The write of the repair in progress: a correction in place stops no District (R320) and is no writing of the plane; a reload of a
plane judged in service stops its District first (R324), and its shadow is held at INIT (R174); a frame that does not read back CLEAN
after one rewrite fails the repair (R324, R326). -/
def writeRepair (b : Repairing) (s : State) : State :=
  let s := if b.inService && b.source != 3 then stopDistrict (b.entry.plane / 8) s else s
  let r := writeChecked b.entry.plane b.entry.frame b.data s
  let s := if b.source = 3 then r.2.rinc .CS_CORRECTED else noteWritten b.entry.plane r.2
  if r.1 then s.setScr { s.scr with busy := some { b with written := true } } else failRepair b.entry b.inService s

/-- REPAIR_FRAME_WRITE: the repaired frame is written whole and read back (R324, R332 to R334). -/
def execRepairFrameWrite (vote : CopyVote) (s : State) : Host.Outcome State Fault Refusal :=
  let s := findTriple vote s
  match s.scr.busy with
  | none => .next s
  | some b => .next (if b.written then s else (votedWrite vote (writeRepair b) s).2)

/-- A frame that waited for repair verifies (R322, R325, R335): its ticket reads 2, it waits nowhere any more, and it is recorded with
its source, but for a correction in place (R320). -/
def finishRepair (plane frame ticket source : Nat) (s : State) : State :=
  let c := s.scr
  let others (l : List RepairEntry) : List RepairEntry := l.filter (fun e => e.plane != plane || e.frame != frame)
  let busy := match c.busy with
    | some b => if b.entry.plane = plane ∧ b.entry.frame = frame then none else some b
    | none => none
  let s := setTicket ticket 2 (s.setScr { c with
    busy, queue := others c.queue, extra := others c.extra, lastTicket := ticket
    handed := c.handed.filter (fun h => h.1 != plane || h.2.1 != frame) })
  let s := frameVerified plane frame s
  let s := if source = 3 then s
    else (s.rinc .CS_RELOADED).raise sevWarning 0x0110 scrubUnit
      (leBytes 1 (plane / 8) ++ leBytes 2 plane ++ leBytes 2 frame ++ leBytes 1 source ++ leBytes 2 ticket)
  settleRepairs plane (promoteRepairs s)

/-- REPAIR_DONE: the repaired frame verifies (R325); a correction in place writes no record (R320). -/
def execRepairDone (s : State) : Host.Outcome State Fault Refusal :=
  match s.scr.busy with
  | none => .next s
  | some b =>
    if !b.written then .next s
    else
      .next (finishRepair b.entry.plane b.entry.frame b.entry.ticket b.source s)

/-! Contention frames (R335). -/

/-- A handed-over frame that does not read CLEAN goes to the head of the repair queue under its own ticket, where it may be queued
already, and else into the priority list (R321, R335). DESIGN CHOICE (log entry 215): while that is full too, it stays handed over. -/
def queueHanded (plane frame ticket : Nat) (s : State) : State :=
  let e : RepairEntry := { ticket, plane, frame, rank := 0 }
  let queued := s.repairsQueued.any (fun a => a.plane == plane && a.frame == frame)
  if !queued && s.repairsFull then s
  else
    let c := { s.scr with handed := s.scr.handed.filter (fun h => h.1 != plane || h.2.1 != frame) }
    if queued then raiseRank plane frame (s.setScr c)
    else markRepair plane (s.setScr (if Nat.ble repairSlots s.queueLevel then { c with extra := c.extra ++ [e] }
      else { c with queue := insertEntry e c.queue }))

/-- CONTENTION_FRAME_READ: the next handed-over frame is read out of turn (R335), whatever pause, throttle or mode is in force. -/
def execContentionFrameRead (vote : CopyVote) (s : State) : Host.Outcome State Fault Refusal :=
  let s := findTriple vote s
  match s.scr.handed with
  | [] => .next s
  | (plane, frame, ticket) :: rest =>
    let gone := s.setScr { s.scr with handed := rest }
    if (s.plane plane).state = 0 then .next (setTicket ticket 3 gone)
    else if (s.plane plane).state = 1 then
      .next (gone.setScr { gone.scr with superseded := mput gone.scr.superseded plane (mget gone.scr.superseded plane [] ++ [ticket]) })
    else match classify plane frame (s.frame plane frame) with
      | .clean => .next (finishRepair plane frame ticket 0 s)
      | .corrected fixed =>
        let w := votedWrite vote (fun s => (correctFrame plane frame fixed s).2) s
        .next (if w.1 && w.2.readsBack plane frame then finishRepair plane frame ticket 3 w.2 else queueHanded plane frame ticket w.2)
      | .multi => .next (queueHanded plane frame ticket s)
      | .tagFail => .next (queueHanded plane frame ticket s)

/-! Settings (R327, R332, R334, R337). -/

/-- CS_RESET (R334): the copies reloaded from the keeper copy, the pass restarted at frame 0 of pass 0, check-only mode left. -/
def hCsReset : Handler := Handler.doing (fun v s =>
  if v = 0 then .ok s else .ok (startPass (s.setScr { s.scr with pass := 0, checkOnly := false })))

/-- CS_RESET. -/
def execCsReset (w : Route) (v : Nat) (s : State) : Host.Outcome State Fault Refusal := write w .CS_RESET 0 v hCsReset s

/-- The element of a setting. -/
def scrubSettingEl : ScrubSetting → El
  | .enable => .CS_ENABLE
  | .firstBank => .FR_FIRST
  | .banks => .FR_BANKS
  | .slotBanks => .FR_SLOT_BANKS

/-- A setting kept in the keeper, in force at the next pass (R332); with the sweep off no pass runs, and one begins now. -/
def hCsSetting (e : ScrubSetting) : Handler :=
  { range := fun v s => match e with
      | .banks => Nat.ble (v + s.rget .FR_FIRST) 4096
      | .enable | .firstBank | .slotBanks => true
    act := fun v s => match keepValue (scrubSettingEl e) 0 v s with
      | .error c => .error c
      | .ok s => .ok (if s.scr.begun then s else startPass s) }

/-- CS_SETTING_WRITE. -/
def execCsSettingWrite (w : Route) (e : ScrubSetting) (v : Nat) (s : State) : Host.Outcome State Fault Refusal :=
  write w (scrubSettingEl e) 0 v (hCsSetting e) s

/-- A bank that FR_ENABLE = 1 does not accept (R327). -/
def State.reserveRefuses (s : State) (n : Nat) : Bool :=
  Nat.ble bankCount n || s.rget .OWNER_ACTIVE n != 0x81 || s.isRingBank n || s.isVaultBank n || s.isC0 n || s.inQueue n
    || !s.isAwake n

/-- FR_ENABLE (R327, R332). -/
def hFrEnable : Handler := Handler.doing (fun v s =>
  let banks := (List.range (s.rget .FR_BANKS)).map (fun i => s.rget .FR_FIRST + i)
  if v = 1 && banks.any s.reserveRefuses then .error 6
  else match keepValue .FR_ENABLE 0 v s with
    | .error c => .error c
    | .ok s => .ok (if s.scr.begun then s else startPass s))

/-- FR_ENABLE_WRITE. -/
def execFrEnableWrite (w : Route) (v : Nat) (s : State) : Host.Outcome State Fault Refusal := write w .FR_ENABLE 0 v hFrEnable s

/-! What area 0x01 shows (R330, R337). -/

/-- CS_STATE. -/
def State.csState (s : State) : Nat := if s.scr.checkOnly then 2 else if s.sweepOn then 1 else 0

/-- CS_STATUS. -/
def State.csStatus (s : State) : Nat :=
  s.scr.oddCopy + flagBit s.scr.checkOnly 2 + flagBit s.scr.stale 3 + flagBit s.flashWaits 4 + s.queueLevel * 2 ^ 5
    + s.scr.lastTicket * 2 ^ 16

/-- A frame's directory entry is VALID, as its bits stand. -/
def State.recordValid (s : State) (slot frame : Nat) : Bool :=
  let place := s.slotBase slot + 4 * frame
  let w := s.cell (place / 262144) (place % 262144 / 8)
  match w.read with
  | .clean d => d.getLsbD (8 * (place % 8) + 31)
  | .corrected _ d => d.getLsbD (8 * (place % 8) + 31)
  | .invalid => false
  | .poison => false
  | .uncorrectable => false

/-- FR_QUERY_STATE of a plane (R330). -/
def State.reserveState (s : State) (plane : Nat) : Nat :=
  match mfind s.scr.slots plane with
  | none => 0
  | some slot =>
    if (mfind s.scr.filling plane).isSome then 1
    else if (List.range 4800).all (fun f => s.recordValid slot f) then 2 else 3

/-- FR_COVERED. -/
def State.reserveCovered (s : State) : Nat := (s.scr.slots.filter (fun p => (mfind s.scr.filling p.1).isNone)).length

end Sys2Proof.Machine
end

