-- ==== Sys2Proof/Machine/Queues.lean ====
section
/-! DEFINITION. The queue engine (R226 to R234, R237): descriptors, the rows of a region, pushes and pops. -/

namespace Sys2Proof.Machine

/-- A queue's content. -/
def State.queue (s : State) (q : Nat) : Queue := mget s.queues q Queue.empty

/-- The fields of Q_CTRL (R237). -/
def State.qEnabled (s : State) (q : Nat) : Bool := bitOf (s.rget .Q_CTRL q) 0
def State.qClass (s : State) (q : Nat) : Nat := bitsOf (s.rget .Q_CTRL q) 2 1
def State.qPolicy (s : State) (q : Nat) : Nat := bitsOf (s.rget .Q_CTRL q) 5 3
def State.qPkind (s : State) (q : Nat) : Nat := bitsOf (s.rget .Q_CTRL q) 7 6
def State.qCkind (s : State) (q : Nat) : Nat := bitsOf (s.rget .Q_CTRL q) 9 8

/-- Every row a queue holds, whole fragments first. -/
def Queue.held (x : Queue) : List Nat := x.frags.flatten ++ x.part

/-- A queue's content changed, with Q_HEAD and Q_LEVEL following it (R237), and source 5 of R385. -/
def State.setQueue (s : State) (q : Nat) (x : Queue) : State :=
  let h := x.held
  let core := s.qPkind q == 2 || s.qCkind q == 2
  let s := if core && h.length != (s.queue q).held.length then latchIrq 5 s else s
  let s := { s with queues := mset s.queues q x Queue.empty }
  (s.rset .Q_HEAD q (h.headD (s.rget .Q_TAIL q))).rset .Q_LEVEL q h.length

/-! Regions (R226, R230, R232). -/

/-- A row lies in a page of the retirement table (R304). -/
def State.rowRetired (s : State) (r : Nat) : Bool := s.retiredPages.contains (r / 256)

/-- The row after the end of a region is its first. -/
def State.wrapRow (s : State) (q r : Nat) : Nat :=
  let g := s.queueRegion q
  if Nat.ble (g.1 + g.2) r then g.1 else r

/-- The row the tail writes next: a retired page is skipped where the tail would enter it (R232). -/
def State.enterRow (s : State) (q : Nat) : Nat → Nat → Nat
  | 0, r => r
  | n + 1, r =>
    if s.rowRetired r && (r % 256 == 0 || r == s.rget .Q_BASE q) then s.enterRow q n (s.wrapRow q (256 * (r / 256 + 1)))
    else r

/-- The pages that a region may touch. -/
def State.regionPages (s : State) (q : Nat) : Nat := 2 ^ s.rget .Q_SIZE q / 256 + 2

/-- The rows of a region that lie in retired pages (R230). -/
def State.retiredRows (s : State) (q : Nat) : Nat :=
  let g := s.queueRegion q
  (s.retiredPages.map (fun p => Nat.min (g.1 + g.2) (256 * p + 256) - Nat.max g.1 (256 * p))).foldl (· + ·) 0

/-- The free space of a queue (R230). -/
def State.queueFree (s : State) (q : Nat) : Nat := 2 ^ s.rget .Q_SIZE q - (s.queue q).held.length - s.retiredRows q

/-- The rows of the whole region of a queue, retired pages included: a fragment of more is oversize (R230). -/
def State.queueRows (s : State) (q : Nat) : Nat := 2 ^ s.rget .Q_SIZE q

/-- The next rows of a queue's tail, and the tail after them. -/
def State.tailRows (s : State) (q : Nat) : Nat → Nat → List Nat × Nat
  | 0, t => ([], t)
  | n + 1, t =>
    let r := s.enterRow q (s.regionPages q) t
    let m := s.tailRows q n (s.wrapRow q (r + 1))
    (r :: m.1, m.2)

/-- The queue engine as a requester. -/
def queueRequester : Requester := .plaza .queues

/-- The banks of rows as the queue engine finds them (R105, R123): ready, and then its accesses to the rows take their turns in
a queue's class; or not ready, and it waits. -/
def rowsReady (cls : Nat) (rows : List Nat) (s : State) : Bool × State :=
  let banks := rows.map (· / 16384)
  let r := banksReady banks s
  if r.1 then (true, engineTurns queueRequester cls banks r.2) else r

/-- A row of the queue address space written (R105): whole, or as the poison pattern in both words. -/
def putRow (r : Nat) (d : BitVec 128) (poison : Bool) (s : State) : State :=
  let n := r / 16384
  let row := r % 16384
  if poison then poisonRow n row (poisonPrior n row s)
  else
    let ix := requesterIndex n trunkHome queueRequester
    (plazaWriteRow n row ix.1 ix.2 d 0xFFFF s).2

/-- A row of the queue address space read, word by word with error indications (R291). -/
def takeRow (r : Nat) (s : State) : ((BitVec 64 × Bool) × (BitVec 64 × Bool)) × State :=
  let n := r / 16384
  let ix := requesterIndex n trunkHome queueRequester
  let a := readWord n (2 * (r % 16384)) ix.1 ix.2 s
  let b := readWord n (2 * (r % 16384) + 1) ix.1 ix.2 a.2
  ((a.1, b.1), b.2)

/-- Rows written at the tail, one after another, each with whether it is written as poison. -/
def writeRows : List (Nat × BitVec 128 × Bool) → State → State
  | [], s => s
  | (r, d, p) :: l, s => writeRows l (putRow r d p s)

/-- The record of a push or a pop by another producer or consumer (R228). -/
def refusedQueue (s : State) : State := s.raise sevWarning 0x0801 0 []

/-! Pushes of producers other than the event builder (R228 to R231). -/

/-- One row of a fragment pushed into a queue that its producer owns: written at the tail, with the last one ending the
fragment; false where it waits. A fragment larger than the region is discarded (R230). -/
def pushRow (q : Nat) (d : BitVec 128) (poison last : Bool) (s : State) : Bool × State :=
  let x := s.queue q
  if x.dropping then
    (true, s.setQueue q { x with dropping := !last, waited := false })
  else if Nat.ble (s.queueRows q) x.part.length then
    (true, (s.rset .Q_TAIL q (x.part.headD (s.rget .Q_TAIL q))).setQueue q
      { x with part := [], dropping := !last, waited := false } |>.rinc .Q_OVERSIZE q)
  else if s.queueFree q = 0 then
    (false, if x.waited then s else (s.setQueue q { x with waited := true }).rinc .Q_STALLS q)
  else
    let t := s.tailRows q 1 (s.rget .Q_TAIL q)
    let ready := rowsReady (s.qClass q) t.1 s
    if !ready.1 then (false, ready.2)
    else
      let s := writeRows (t.1.map (fun r => (r, d, poison))) ready.2
      let part := x.part ++ t.1
      let s := s.rset .Q_TAIL q t.2
      if last then
        (true, (s.setQueue q { x with frags := x.frags ++ [part], part := [], waited := false }).rinc .Q_FRAGMENTS q)
      else (true, s.setQueue q { x with part })

/-- A queue is enabled for a producer (R228). -/
def State.produces (s : State) (q kind who : Nat) : Bool := s.qEnabled q && s.qPkind q == kind && s.rget .Q_PRODUCER q == who

/-- A queue is enabled for a consumer (R228). -/
def State.consumes (s : State) (q kind who : Nat) : Bool := s.qEnabled q && s.qCkind q == kind && s.rget .Q_CONSUMER q == who

/-- QP_PUSH: a row on a District's queue port; the first row of a fragment is its SOF (R229). -/
def execQpPush (district queue : Nat) (row : BitVec 128) (last : Bool) (s : State) : Host.Outcome State Fault Refusal :=
  if !s.clocked district then .next s
  else if !s.produces queue 1 district then .next (refusedQueue s)
  else .next (pushRow queue row false last s).2

/-! Delivery (R233, R234). -/

/-- A word of a made header: as read, or free where it was unreadable (R234). -/
def madeField (w : BitVec 64 × Bool) (s : State) : BitVec 64 × State :=
  if w.2 then
    let d := s.draw
    (Config.madeWord d.1, d.2)
  else (w.1, s)

/-- A value with some bits taken from another. -/
def withBits (w mask v : BitVec 64) : BitVec 64 := (w &&& ~~~mask) ||| (v &&& mask)

/-- The header the engine makes (R234): EMPTY and DAMAGED, N_WORDS 0 in both copies, MARK, VERSION and HCRC as R224 has them,
and RESYNC with EVENT 0 where both lengths were lost. -/
def madeHeader (a b : (BitVec 64 × Bool) × (BitVec 64 × Bool)) (resync : Bool) (s : State) : List (BitVec 128) × State :=
  let w0 := madeField a.1 s
  let w1 := madeField a.2 w0.2
  let w2 := madeField b.1 w1.2
  let w3 := madeField b.2 w2.2
  let flags : BitVec 64 := if resync then 0x405 else 0x005
  let v0 := withBits w0.1 0xFFFFFFFF00000FFF (flags <<< 32 ||| 0x1F5)
  let v1 := if resync then withBits w1.1 0xFFFFFFFF 0 else w1.1
  let v3 := withBits w3.1 0xFFFFFFFFC0E00000 0
  let crc := crc16 (leBytes 8 v0.toNat ++ leBytes 8 v1.toNat ++ leBytes 8 w2.1.toNat ++ leBytes 6 v3.toNat)
  ([v1 ++ v0, (v3 ||| (BitVec.ofNat 64 crc <<< 48)) ++ w2.1], w3.2)

/-- Rows read for delivery, each with its error indication (R234). -/
def takeRows : List Nat → State → List (BitVec 128 × Bool) × State
  | [], s => ([], s)
  | r :: rs, s =>
    let a := takeRow r s
    let m := takeRows rs a.2
    ((a.1.2.1 ++ a.1.1.1, a.1.1.2 || a.1.2.2) :: m.1, m.2)

/-- A fragment as it is delivered (R234): its rows, or a header the engine makes; true where every row up to the tail is
skipped. -/
def deliverRows (rows : List Nat) (s : State) : (List (BitVec 128 × Bool) × Bool) × State :=
  match rows with
  | r0 :: r1 :: _ =>
    let a := takeRow r0 s
    let b := takeRow r1 a.2
    if a.1.1.2 || b.1.2.2 then
      let resync := a.1.1.2 && b.1.2.2
      let m := madeHeader a.1 b.1 resync b.2
      ((m.1.map (fun d => (d, false)), resync), m.2)
    else
      let m := takeRows (rows.drop 2) b.2
      (((a.1.2.1 ++ a.1.1.1, a.1.2.2) :: (b.1.2.1 ++ b.1.1.1, b.1.1.2) :: m.1, false), m.2)
  | _ =>
    let m := takeRows rows s
    ((m.1, false), m.2)

/-- Every row of a queue up to its tail skipped, with the ERROR record of the queue and the rows (R234): whole fragments, and the
rows of one that is being pushed, whose rest is discarded to its end (DEDUCED, entry 162). -/
def resyncQueue (q : Nat) (s : State) : State :=
  let x := s.queue q
  let n := x.held.length
  (s.setQueue q { x with frags := [], part := [], dropping := x.dropping || x.part != [],
                          waited := x.waited && x.part == [], sentFrags := 0, sentRows := 0 }).raise
    sevError 0x0802 0 (leBytes 2 q ++ leBytes 4 n)

/-- The oldest fragment of a queue delivered whole and its rows freed (R233); none where the queue is empty or its banks are
not ready. -/
def popFragment (q : Nat) (s : State) : Option (List (BitVec 128 × Bool)) × State :=
  let x := s.queue q
  match x.frags with
  | [] => (some [], s)
  | rows :: rest =>
    let ready := rowsReady (s.qClass q) rows s
    if !ready.1 then (none, ready.2)
    else
      let d := deliverRows rows ready.2
      if d.1.2 then (some d.1.1, resyncQueue q d.2)
      else (some d.1.1, d.2.setQueue q { d.2.queue q with frags := rest })

/-- QP_POP_REQUEST: the next fragment of a queue on a District's queue port, or QP_REMPTY (R229). -/
def execQpPopRequest (district queue : Nat) (s : State) : Host.Outcome State Fault Refusal :=
  if !s.clocked district then .next s
  else if !s.consumes queue 1 district then .next (refusedQueue s)
  else
    let p := popFragment queue s
    match p.1 with
    | none => .next p.2
    | some rows =>
      .next { p.2 with qports := mput p.2.qports district rows
                       fabric := { p.2.fabric with poppedAt := mput p.2.fabric.poppedAt district p.2.fabric.cycle } }

/-! Descriptors (R226, R237). -/

/-- The queue that the window shows. -/
def State.qwin (s : State) : Nat := s.rget .QWIN_INDEX

/-- The banks of a region of rows. -/
def regionBanks (g : Nat × Nat) : List Nat := (List.range ((g.1 + g.2 - 1) / 16384 - g.1 / 16384 + 1)).map (fun i => g.1 / 16384 + i)

/-- A setting of Q_CTRL that no enable accepts (R226, R230, R248). -/
def State.ctrlRefused (s : State) (q v : Nat) : Bool :=
  let cls := bitsOf v 2 1
  let pol := bitsOf v 5 3
  let g := s.queueRegion q
  Nat.blt (2 ^ 26) (g.1 + g.2) || cls == 0 || Nat.blt 2 pol || (pol == 1 && cls == 3) || (pol == 2 && cls != 2)
    || bitsOf v 9 8 == 3 || (bitsOf v 9 8 == 0 && Nat.blt 31 (s.rget .Q_CONSUMER q))

/-- A region that no enable accepts now (R226). -/
def State.regionBusy (s : State) (q : Nat) : Bool :=
  let g := s.queueRegion q
  (regionBanks g).any (fun n => s.isRingBank n || s.isVaultBank n || s.rget .OWNER_ACTIVE n != 0x80 || s.rget .HANDOVER n == 1)
    || s.enabledQueues.any (fun o => o != q && rowsMeet g (s.queueRegion o))
    || s.retiredPages.any (fun p => rowsMeet g (256 * p, 256))

/-- A queue holds data, or a fragment is being written into it (R226). -/
def Queue.busy (x : Queue) : Bool := x.held != [] || x.dropping

/-- Q_CTRL of the queue shown (R226, R237). -/
def hQCtrl : Handler :=
  { range := fun v s => bitsOf v 31 10 == 0 && !(bitOf v 0 && s.ctrlRefused s.qwin v)
    act := fun v s =>
      let q := s.qwin
      let cur := s.rget .Q_CTRL q
      let x := s.queue q
      if bitOf cur 0 then
        if v / 2 != cur / 2 then .error 6
        else if bitOf v 0 then (if s.regionBusy q then .error 6 else .ok s)
        else if x.busy then .error 6
        else .ok ((s.rset .Q_CTRL q v).setQueue q Queue.empty)
      else if bitOf v 0 then
        if s.regionBusy q then .error 6
        else .ok (((s.rset .Q_CTRL q v).rset .Q_TAIL q (s.rget .Q_BASE q)).setQueue q Queue.empty)
      else .ok (s.rset .Q_CTRL q v) }

/-- Q_ENABLE: a write of Q_CTRL with ENABLE = 1 (R226). -/
def execQEnable (w : Route) (v : Nat) (s : State) : Host.Outcome State Fault Refusal :=
  write w .Q_CTRL 0 (v - v % 2 + 1) hQCtrl s

/-- Q_DISABLE: a write of Q_CTRL with ENABLE = 0 (R226). -/
def execQDisable (w : Route) (v : Nat) (s : State) : Host.Outcome State Fault Refusal := write w .Q_CTRL 0 (v - v % 2) hQCtrl s

/-- Another descriptor element of the queue shown, refused while the queue is enabled (R226). -/
def hQField (e : El) : Handler := Handler.doing (fun v s => if s.qEnabled s.qwin then .error 6 else .ok (s.rset e s.qwin v))

/-- Q_FLUSH (R226). -/
def hQFlush : Handler := Handler.doing (fun v s =>
  if s.qEnabled s.qwin then .error 6 else .ok (if v = 1 then s.setQueue s.qwin Queue.empty else s))

/-- Q_FLUSH. -/
def execQFlush (w : Route) (v : Nat) (s : State) : Host.Outcome State Fault Refusal := write w .Q_FLUSH 0 v hQFlush s

end Sys2Proof.Machine
end

