-- ==== Sys2Proof/Machine/Counts.lean ====
section
/-! DEFINITION. COUNT_CLEAR: each map's element clears exactly the counters it names (R69, R104, R129, R164, R210, R211, R236,
R237, R259, R311, R337, R363, R373). -/

namespace Sys2Proof.Machine

/-- The COUNT_CLEAR element of a map. -/
def clearEl : ClearElement → El
  | .timeBase => .CC_02
  | .port => .CC_13
  | .bank => .CC_05
  | .district => .CC_04
  | .path => .CC_20
  | .sideStreet => .CC_19
  | .ebGroup => .CC_28G
  | .eventBuilder => .CC_28
  | .queue => .CC_08
  | .trunk => .CC_18
  | .memScrub => .CC_07
  | .memBank => .CC_07B
  | .cfgScrub => .CC_01
  | .susis => .CC_30I
  | .can => .CC_30C
  | .rights => .CC_30R
  | .bist => .CC_40

/-- The elements that a map's COUNT_CLEAR clears. -/
def clearedBy : ClearElement → List El
  | .timeBase => [.LOSS_COUNT, .MARKER_ERRORS, .MARKER_MISSING, .SYNC_CRC_ERRORS, .SYNC_MISSING, .SYNC_MISMATCH]
  | .port => [.FRAMES_OK, .CODE_ERRORS, .CRC_ERRORS, .MISSING, .LATE, .DUPLICATE, .TAG_UNKNOWN, .TAG_SLIP,
      .LENGTH_ERRORS, .FE_ERRORS, .SRC_MISMATCH, .LOCK_LOSSES, .CMD_DROPPED, .PRBS_ERRORS]
  | .bank => [.DENIED, .AGED, .WAKE_ON_ACCESS, .C0_ASLEEP]
  | .district => [.UP_CONTENTIONS, .DRAM_CORR, .DRAM_UNCORR]
  | .path => [.DECISIONS, .ACCEPTS, .MARKERS, .BREACHES, .LAST_BREACH_MT, .LAST_BREACH_KIND]
  | .sideStreet => [.ACC_COUNT, .ACC_CRC_ERRORS, .ACC_TAG_MISMATCH]
  | .ebGroup => [.G_FRAGMENTS, .G_EXPIRED, .G_DAMAGED, .G_TRUNCATED]
  | .eventBuilder => [.ACCEPTS_TAKEN, .REF_BURST, .REF_GAP, .REF_RATE, .REF_FULL, .NOQUEUE]
  | .queue => [.Q_FRAGMENTS, .Q_STALLS, .Q_OVERSIZE]
  | .trunk => [.FEC_CORRECTED, .FEC_UNCORR, .REPLAYS, .RETRAINS, .C0_SENT, .C0_LOST, .C0_LATE, .RX_DISCARDED, .RX_NOQUEUE,
      .TK_PRBS_ERRORS]
  | .memScrub => [.SCRUB_PASSES, .SCRUB_LAST_PASS, .SCRUB_SKIPPED, .POISON_WRITTEN, .REPAIR_DROPPED]
  | .memBank => [.CE_COUNT, .UE_COUNT, .POISON_READS, .LB_OVERFLOWS]
  | .cfgScrub => [.CS_PASSES, .CS_LAST_PASS, .CS_CORRECTED, .CS_RELOADED, .CS_FAILED, .CS_SELF_UPSETS, .CS_DEFERRED]
  | .susis => [.SUSIS_CRC_ERRORS, .SUSIS_MALFORMED]
  | .can => [.CAN_RATE_DROPS, .CAN_BUS_OFF]
  | .rights => [.REFUSED_STATE]
  | .bist => [.BIST_REPAIRS]

/-- The unit whose counters a COUNT_CLEAR clears: its own, or the one that its area's window shows (R237, R311). -/
def State.clearUnit (s : State) (e : ClearElement) (u : Nat) : Nat :=
  match e with
  | .queue => s.qwin
  | .memBank => s.rget .MI_BANK
  | .timeBase | .port | .bank | .district | .path | .sideStreet | .ebGroup | .eventBuilder | .trunk | .memScrub | .cfgScrub
  | .susis | .can | .rights | .bist => u

/-- SCRUB_PASSES counts from here on: the passes that every Quarter has completed are taken off each (R311). -/
def restartPasses (s : State) : State :=
  let m := s.mem
  let least := listMin ((List.range 64).map (fun k => mget m.passes k 0)) 0xFFFFFFFF
  let passes := (List.range 64).foldl (fun p k => mset p k (mget m.passes k 0 - least) 0) m.passes
  { s with mem := { m with passes, passTook := [] } }

/-- The counters a COUNT_CLEAR names cleared, with what stands behind them outside the register file (R164, R311). -/
def clearCounts (e : ClearElement) (u : Nat) (s : State) : State :=
  let s := s.rclear (s.clearUnit e u) (clearedBy e)
  match e with
  | .district => s.setDist u { s.dist u with dramSeen := false }
  | .memScrub => restartPasses s
  | .timeBase | .port | .bank | .path | .sideStreet | .ebGroup | .eventBuilder | .queue | .trunk | .memBank | .cfgScrub
  | .susis | .can | .rights | .bist => s

/-- A COUNT_CLEAR element: writing 1 clears; 0 has no effect. -/
def hClear (e : ClearElement) (u : Nat) : Handler := Handler.doing (fun v s => .ok (if v = 1 then clearCounts e u s else s))

/-- COUNT_CLEAR. -/
def execCountClear (w : Route) (e : ClearElement) (unit v : Nat) (s : State) : Host.Outcome State Fault Refusal :=
  write w (clearEl e) unit v (hClear e unit) s

end Sys2Proof.Machine
end

