-- ==== Sys2Proof/Machine/EventBuilder.lean ====
section
/-! DEFINITION. The event builder (R212 to R225, R236): the intake, source groups, extraction, fragments, and the merge stage. -/

namespace Sys2Proof.Machine

/-! Groups (R215 to R217). -/

/-- The ports of a group by the values in force (R215, R236). -/
def State.groupOf (s : State) (g : Nat) : List Nat :=
  (s.force.filter (fun p => keyEl p.1 == El.EB_GROUP.ctorIdx && p.2 == g && g != 0xFF)).map (fun p => keyUnit p.1)

/-- The groups that an accept type enables, in ascending number (R216). -/
def State.groupsFor (s : State) (atype : Nat) : List Nat :=
  (List.range 255).filter (fun g => bitOf (s.fget .G_ATYPES g) atype && s.groupOf g != [])

/-- The queue of a group's fragment (R217). -/
def State.queueFor (s : State) (g atype event : Nat) : Nat :=
  (s.rget .G_QBASE g + s.rget .QTYPE_OFFSET atype + event % s.rget .G_QROUND g) % 65536

/-! Intake (R212 to R214). -/

/-- The accepts in the intake FIFO: those not extracted by every unit, and those not handed over (R219, R231). -/
def State.intakeLevel (s : State) : Nat :=
  ((s.eb.tasks.filter (fun t => t.stage != 2)).map (·.ticket)).eraseDups.length + s.eb.fresh.length

/-- INTAKE_LEVEL. -/
def showLevel (s : State) : State := s.rset .INTAKE_LEVEL 0 s.intakeLevel

/-- The first test of R212 that an accept fails: 1 BURST, 2 GAP, 3 RATE, 4 FULL. -/
def State.intakeRefusal (s : State) : Option Nat :=
  let e := s.eb
  let x := s.crossing
  let gap := s.fget .ACC_MIN_GAP
  if e.takenIn.1 = x && Nat.ble 16 e.takenIn.2 then some 1
  else if gap != 0 && (match e.lastTaken with | some l => Nat.blt x (l + gap) | none => false) then some 2
  else if e.tokens = 0 then some 3
  else if Nat.ble 1024 s.intakeLevel then some 4
  else none

/-- The counter of a refusal reason (R212). -/
def refusalCounter : Nat → El
  | 1 => .REF_BURST
  | 2 => .REF_GAP
  | 3 => .REF_RATE
  | _ => .REF_FULL

/-- A WARNING record of the event builder at most once per orbit for its key (R212, R218). -/
def warnOnce (key code : Nat) (detail : Bytes) (s : State) : State :=
  if mfind s.eb.warned key = some s.tb.orbit then s
  else { s with eb := { s.eb with warned := mput s.eb.warned key s.tb.orbit } }.raise sevWarning code 0x800 detail

/-- An accept refused (R212): counted, recorded, and carried to the next event (R213). -/
def refuseAccept (reason : Nat) (s : State) : State :=
  let s := { s.rinc (refusalCounter reason) with eb := { s.eb with refused := s.eb.refused + 1 } }
  warnOnce reason 0x2801 (leBytes 1 reason) s

/-- The fragments of a taken accept as it is handed over, one per group it enables by the values in force (R216, R217, R219). -/
def State.tasksFor (s : State) (f : Taken) : List EbTask :=
  let a := f.accept
  let gs := s.groupsFor a.atype
  gs.map (fun g =>
    { ticket := f.ticket, event := f.event, mt := f.mt, accept := a, refused := Nat.min f.refused 255, group := g
      queue := s.queueFor g a.atype f.event, pre := s.fget .G_PRE g, post := s.fget .G_POST g, ports := s.groupOf g
      last := gs.getLast? == some g, stage := 0, flags := 0, entry := 0, body := [], waited := false })

/-- An accept taken (R212, R213): numbered, and given to the intake FIFO. -/
def takeAccept (a : Accept) (s : State) : State :=
  let event := s.rget .EVENT_NEXT
  let x := s.crossing
  let e := s.eb
  let n := if e.takenIn.1 = x then e.takenIn.2 + 1 else 1
  let f : Taken := { ticket := e.tickets, event, accept := a, refused := e.refused, mt := s.mtOf a.crossing }
  let eb : EventBuilder :=
    { e with tokens := e.tokens - 1, lastTaken := some x, takenIn := (x, n), refused := 0, tickets := e.tickets + 1
             fresh := e.fresh ++ [f] }
  showLevel (({ s with eb }.rset .EVENT_NEXT 0 ((event + 1) % 2 ^ 32)).rinc .ACCEPTS_TAKEN)

/-- An accept offered to the intake (R212): discarded outside RUNNING and HOLD and while EB_ENABLE is 0, and otherwise judged at
the end of its crossing, when every accept of the crossing is there (R205). -/
def offerAccept (a : Accept) (s : State) : State :=
  if s.rflag .EB_ENABLE && (s.dev == .running || s.dev == .hold) then
    { s with eb := { s.eb with offered := s.eb.offered ++ [a] } }
  else s

/-- The intake's judgement of one accept (R212). -/
def judgeAccept (a : Accept) (s : State) : State :=
  match s.intakeRefusal with
  | some r => refuseAccept r s
  | none => takeAccept a s

/-- The accepts of a crossing in the order of R205: paths, then pairs, then the timing port, each by its number, which is the
order of SOURCE; of one source, in the order of their offers. -/
def acceptOrder (l : List Accept) : List Accept := (List.range 129).flatMap (fun k => l.filter (fun a => a.source == k))

/-- The accepts offered in the crossing that ends, judged in their order (R205, R212). -/
def takeOffers (s : State) : State :=
  if s.eb.offered = [] then s
  else (acceptOrder s.eb.offered).foldl (fun t a => judgeAccept a t) { s with eb := { s.eb with offered := [] } }

/-- TOKEN_REFILL (R212): the bucket gains a token once ACC_REFILL crossings have passed since it last gained one. -/
def execTokenRefill (s : State) : Host.Outcome State Fault Refusal :=
  if Nat.ble (s.fget .ACC_REFILL) s.eb.refill then
    .next { s with eb := { s.eb with tokens := Nat.min (s.eb.tokens + 1) (s.fget .ACC_BURST), refill := 0 } }
  else .next s

/-- Phase 0 of a crossing: the bucket's count of crossings goes on, and every accept taken in the crossing before is handed to the
extraction units (R212, R219); an event that enables no group leaves no fragment (R223). -/
def handOver (s : State) : State :=
  let s := { s with eb := { s.eb with refill := s.eb.refill + 1 } }
  if s.eb.fresh = [] then s
  else
    let ts := s.eb.fresh.flatMap (fun f => s.tasksFor f)
    showLevel { s with eb := { s.eb with fresh := [], tasks := s.eb.tasks ++ ts } }

/-! Extraction (R219 to R222). -/

/-- FLAGS of R224. -/
def flagEmpty : Nat := 0x001
def flagExpired : Nat := 0x002
def flagDamaged : Nat := 0x004
def flagTruncated : Nat := 0x008
def flagForced : Nat := 0x010
def flagMismatch : Nat := 0x020
def flagUnrecorded : Nat := 0x040
def flagNoRing : Nat := 0x080
def flagPortErr : Nat := 0x100
def flagLast : Nat := 0x200

/-- The Quarter of a fragment's ports. -/
def EbTask.quarter (t : EbTask) : Nat := t.ports.headD 0 / 16

/-- The first crossing of a fragment's window; none where it would lie before crossing 0. -/
def EbTask.first (t : EbTask) : Option Nat := if t.pre ≤ t.accept.crossing then some (t.accept.crossing - t.pre) else none

/-- The crossings of the payload (R225). -/
def EbTask.crossings (t : EbTask) (e : Nat) : Nat :=
  let per := t.ports.length * e
  let n := t.pre + t.post + 1
  if Nat.blt 65535 (n * per) then 65535 / per else n

/-- The bytes a built or reading fragment takes of its unit's buffer (R223). -/
def EbTask.size (t : EbTask) : Nat := 32 + 8 * (t.body.map (fun b => b.1.length)).foldl (· + ·) 0

/-- The bytes that a Quarter's unit holds for fragments built and not written. -/
def State.bufferUsed (s : State) (q : Nat) : Nat :=
  ((s.eb.tasks.filter (fun t => t.stage == 2 && t.quarter == q)).map EbTask.size).foldl (· + ·) 0

/-- The first task of a Quarter that is not built: its unit serves events and groups in order (R219). -/
def State.unitTask (s : State) (q : Nat) : Option EbTask := s.eb.tasks.find? (fun t => t.stage != 2 && t.quarter == q)

/-- A task changed in its place: an accept's number and the group name it. -/
def setTask (t : EbTask) (s : State) : State :=
  { s with eb := { s.eb with
      tasks := s.eb.tasks.map (fun u => if u.ticket == t.ticket && u.group == t.group then t else u) } }

/-- A fragment's window is not complete (R219 step 1): before phase 0 of crossing c + G_POST + A + 1. -/
def State.windowIncomplete (s : State) (t : EbTask) : Bool :=
  Nat.blt s.crossing (t.accept.crossing + t.post + s.maxLat t.quarter + 1)

/-- The resolution of a window's first crossing (R120, R219); one before crossing 0 is held by no ring (DEDUCED, entry 161). -/
def State.resolveFirst (s : State) (t : EbTask) : Resolved :=
  match t.first with
  | some c => s.resolve t.quarter c
  | none => if s.rget .RING_STATE t.quarter < 2 then .status 4 else .status 2

/-- EXTRACTION_START (R219): the unit resolves the window's first crossing once the window is complete, earlier work is done
and its buffer has room. -/
def execExtractionStart (group : Nat) (s : State) : Host.Outcome State Fault Refusal :=
  match s.eb.tasks.find? (fun t => t.stage == 0 && t.group == group) with
  | none => .next s
  | some t =>
    let q := t.quarter
    let e := s.rget .RING_WORDS q
    let room := s.bufferUsed q
    if s.unitTask q != some t || !s.counting || s.windowIncomplete t
        || (room != 0 && Nat.blt 65536 (room + 32 + 8 * (t.crossings e * t.ports.length * e))) then .next s
    else
      let t := { t with stage := 1, entry := e }
      match s.resolveFirst t with
      | .status 4 => .next (setTask { t with flags := flagNoRing } s)
      | .status 2 => .next (setTask { t with flags := flagExpired } s)
      | _ => .next (setTask { t with flags := if t.crossings e = t.pre + t.post + 1 then 0 else flagTruncated } s)

/-- A word read by the extraction unit, all ones where it comes with the error flag (R222). -/
def extractWord (n addr : Nat) (s : State) : (BitVec 64 × Bool) × State :=
  let r := readWord n addr 3 0xFF s
  ((if r.1.2 then BitVec.allOnes 64 else r.1.1, r.1.2), r.2)

/-- The words of rows read by the extraction unit of a bank's Quarter in a class, each row at its turn (R105), and how many
were damaged. -/
def extractRows (cls : Nat) : List (Nat × Nat) → State → (List (BitVec 64 × Bool)) × State
  | [], s => ([], s)
  | (n, row) :: l, s =>
    let a := extractWord n (2 * row) (engineTurn n (.extraction (n / 64)) cls s)
    let b := extractWord n (2 * row + 1) a.2
    let m := extractRows cls l b.2
    (a.1 :: b.1 :: m.1, m.2)

/-- The flag that a stored header's STATUS sets (R220). -/
def statusFlag (w : BitVec 64 × Bool) : Nat :=
  let st := bitsOf w.1.toNat 35 32
  if w.2 || st = 0 then 0 else if st = 8 then flagUnrecorded else if Nat.ble st 7 then flagPortErr else 0

/-- The rows of a port's entry in a record of the ring, for the entry size of a fragment (R113). -/
def State.entryPlaces (s : State) (t : EbTask) (stripe record p : Nat) : List (Nat × Nat) :=
  (List.range (t.entry / 2)).map (fun w => s.ringRow t.quarter stripe record (p % 16) w)

/-- The entries of a crossing that the ring holds: words, damaged words, and flags (R220, R222), read in the group's class. -/
def extractPresent (t : EbTask) (stripe record : Nat) (s : State) : (List (BitVec 64) × Nat × Nat) × State :=
  t.ports.foldl
    (fun acc p =>
      let m := extractRows (acc.2.rget .G_CLASS t.group) (acc.2.entryPlaces t stripe record p) acc.2
      let bad := (m.1.filter (·.2)).length
      let flag := match m.1 with | w :: _ => statusFlag w | [] => 0
      ((acc.1.1 ++ m.1.map (·.1), acc.1.2.1 + bad, Nat.lor acc.1.2.2 flag), m.2))
    (([], 0, 0), s)

/-- The entries written for a crossing that is no record of the ring, each a header and zero words (R220). -/
def State.madeEntries (s : State) (t : EbTask) (c status : Nat) (tagged : Bool) : List (BitVec 64) :=
  (t.ports.map (fun p =>
    padWords t.entry [storedHeader 0 (if tagged then s.expectedTag p c else 0) status])).flatten

/-- One crossing of a window (R220). -/
def extractCrossing (t : EbTask) (c : Nat) (s : State) : (List (BitVec 64) × Nat × Nat) × State :=
  match s.resolve t.quarter c with
  | .present a b => extractPresent t a b s
  | .status 3 => ((s.madeEntries t c 9 false, 0, flagUnrecorded), s)
  | .status 4 => (([], 0, flagNoRing), s)
  | .status _ => ((s.madeEntries t c 10 true, 0, flagUnrecorded), s)

/-- The crossings of a window, one after another. -/
def extractAll (t : EbTask) : List Nat → State → (List (List (BitVec 64) × Nat) × Nat) × State
  | [], s => (([], 0), s)
  | c :: cs, s =>
    let a := extractCrossing t c s
    let m := extractAll t cs a.2
    (((a.1.1, a.1.2.1) :: m.1.1, Nat.lor a.1.2.2 m.1.2), m.2)

/-- The crossings that a fragment's payload covers (R216, R225). -/
def EbTask.span (t : EbTask) : List Nat :=
  match t.first with
  | some c => (List.range (t.crossings t.entry)).map (fun i => c + i)
  | none => []

/-- The banks that a fragment's rows lie in, of the crossings that the ring holds (R113). -/
def State.spanBanks (s : State) (t : EbTask) : List Nat :=
  t.span.flatMap (fun c => match s.resolve t.quarter c with
    | .present a b => (t.ports.flatMap (fun p => s.entryPlaces t a b p)).map (·.1)
    | .status _ => [])

/-- A fragment made empty and EXPIRED (R221). -/
def EbTask.expired (t : EbTask) : EbTask := { t with stage := 2, flags := flagExpired, body := [] }

/-- EXTRACTION_DONE (R219 steps 3 and 4, R221): the rows have returned; a window whose first crossing has expired meanwhile, or
whose ring has been configured anew (R235), gives an empty EXPIRED fragment. Rows in a bank that is not AWAKE stall the unit
(R123). -/
def execExtractionDone (group : Nat) (s : State) : Host.Outcome State Fault Refusal :=
  match s.eb.tasks.find? (fun t => t.stage == 1 && t.group == group) with
  | none => .next s
  | some t =>
    if t.flags = flagNoRing || t.flags = flagExpired then .next (showLevel (setTask { t with stage := 2 } s))
    else
      let ready := banksReady (s.spanBanks t) s
      if !ready.1 then .next ready.2
      else
        let m := extractAll t t.span ready.2
        let s := m.2
        match s.resolveFirst t with
        | .status 2 => .next (showLevel (setTask t.expired s))
        | .status 4 => .next (showLevel (setTask t.expired s))
        | _ => .next (showLevel (setTask { t with stage := 2, flags := Nat.lor t.flags m.1.2, body := m.1.1 } s))

/-! Fragments (R223 to R225, R230). -/

/-- The payload words of a fragment. -/
def EbTask.words (t : EbTask) : List (BitVec 64) := (t.body.map (·.1)).flatten

/-- The rows of a fragment with its header (R230). -/
def EbTask.rows (t : EbTask) : Nat := 2 + (t.words.length + 1) / 2

/-- FLAGS of a fragment (R224). -/
def EbTask.allFlags (t : EbTask) : Nat :=
  Nat.lor t.flags
    ((if t.body = [] then flagEmpty else 0) + (if t.body.any (fun b => b.2 != 0) then flagDamaged else 0)
      + (if t.accept.forced then flagForced else 0) + (if t.accept.mismatch then flagMismatch else 0)
      + (if t.last then flagLast else 0))

/-- The header of a fragment (R224). -/
def EbTask.header (t : EbTask) (mt : Nat) : List (BitVec 64) :=
  let n := t.words.length
  let bad := Nat.min ((t.body.map (·.2)).foldl (· + ·) 0) 255
  let w0 := 0xF5 + 2 ^ 8 + t.accept.atype * 2 ^ 12 + t.group * 2 ^ 16 + t.accept.source * 2 ^ 24 + t.allFlags * 2 ^ 32
    + n * 2 ^ 48
  let w1 := t.event + bad * 2 ^ 32 + t.refused * 2 ^ 40 + t.queue * 2 ^ 48
  let lo := t.pre + t.post * 2 ^ 8 + t.ports.length * 2 ^ 16 + t.entry * 2 ^ 24 + n * 2 ^ 32
  let crc := crc16 (leBytes 8 w0 ++ leBytes 8 w1 ++ leBytes 8 mt ++ leBytes 6 lo)
  [w0, w1, mt, lo + crc * 2 ^ 48].map (BitVec.ofNat 64)

/-- Words in pairs as rows, the last half zero where their number is odd (R230). -/
def pairRows : List (BitVec 64) → List (BitVec 128)
  | a :: b :: l => (b ++ a) :: pairRows l
  | [a] => [(0#64) ++ a]
  | [] => []

/-- The most whole crossings of a fragment that fit in a number of rows, header included (R230). -/
def fitBody : List (List (BitVec 64) × Nat) → Nat → Nat → List (List (BitVec 64) × Nat)
  | [], _, _ => []
  | b :: bs, used, rows =>
    if Nat.ble (2 + (used + b.1.length + 1) / 2) rows then b :: fitBody bs (used + b.1.length) rows else []

/-- A fragment cut to a number of rows (R230). -/
def EbTask.cut (t : EbTask) (rows : Nat) : EbTask :=
  let b := fitBody t.body 0 rows
  if b.length = t.body.length then t else { t with body := b, flags := Nat.lor t.flags flagTruncated }

/-- What POLICY makes of a fragment that does not fit (R230); none where the event builder waits. -/
def State.policyFor (s : State) (t : EbTask) : Option EbTask :=
  let free := s.queueFree t.queue
  if Nat.ble t.rows free then some t
  else if Nat.blt free 2 then none
  else match s.qPolicy t.queue with
    | 1 => some (t.cut free)
    | 2 => some { t with body := [], flags := Nat.lor t.flags flagTruncated }
    | _ => none

/-- The merge stage is done with its first fragment. -/
def dropTask (s : State) : State := { s with eb := { s.eb with tasks := s.eb.tasks.drop 1 } }

/-- A fragment written into its queue, and counted (R223, R236). -/
def writeFragment (t : EbTask) (s : State) : State :=
  let q := t.queue
  let data := pairRows (t.header t.mt ++ t.words)
  let rows := s.tailRows q data.length (s.rget .Q_TAIL q)
  let ready := rowsReady (s.qClass q) rows.1 s
  if !ready.1 then ready.2
  else
    let s := writeRows ((rows.1.zip data).map (fun p => (p.1, p.2, false))) ready.2
    let x := s.queue q
    let s := ((s.rset .Q_TAIL q rows.2).setQueue q { x with frags := x.frags ++ [rows.1], waited := false }).rinc .Q_FRAGMENTS q
    let f := t.allFlags
    let s := s.rinc .G_FRAGMENTS t.group
    let s := if Nat.land f flagExpired != 0 then s.rinc .G_EXPIRED t.group else s
    let s := if Nat.land f flagDamaged != 0 then s.rinc .G_DAMAGED t.group else s
    let s := if Nat.land f flagTruncated != 0 then s.rinc .G_TRUNCATED t.group else s
    dropTask s

/-- FRAGMENT_WRITE: the merge stage writes its first fragment, once it is built (R218, R223, R230, R231). -/
def execFragmentWrite (group : Nat) (s : State) : Host.Outcome State Fault Refusal :=
  match s.eb.tasks with
  | [] => .next s
  | t :: _ =>
    if t.stage != 2 || t.group != group then .next s
    else if !s.qEnabled t.queue then .next (dropTask (warnOnce (16 + t.queue) 0x2802 [] (s.rinc .NOQUEUE)))
    else if s.qPkind t.queue != 0 || s.rget .Q_PRODUCER t.queue != 0 then .next (dropTask (refusedQueue s))
    else
      match s.policyFor (t.cut (s.queueRows t.queue)) with
      | some u => .next (writeFragment u s)
      | none =>
        let x := s.queue t.queue
        .next (if t.waited then s
          else (setTask { t with waited := true } (s.setQueue t.queue { x with waited := true })).rinc .Q_STALLS t.queue)

/-! Settings (R215, R216, R236). -/

/-- EB_GROUP (R215). -/
def hEbGroup (p : Nat) : Handler := Handler.doing (fun v s =>
  if v != 0xFF && (s.unitsSet .EB_GROUP).any (fun o => s.rget .EB_GROUP o == v && o / 16 != p / 16) then .error 6
  else .ok (s.rdefer .EB_GROUP p v))

/-- EB_GROUP_WRITE. -/
def execEbGroupWrite (w : Route) (port v : Nat) (s : State) : Host.Outcome State Fault Refusal :=
  write w .EB_GROUP port v (hEbGroup port) s

/-- The element of a window side. -/
def windowSideEl : WindowSide → El
  | .pre => .G_PRE
  | .post => .G_POST

/-- G_PRE or G_POST (R216). -/
def hGWindow (e : WindowSide) (g : Nat) : Handler :=
  { range := fun v s => Nat.ble (v + s.rget (match e with | .pre => .G_POST | .post => .G_PRE) g) 255
    act := fun v s => .ok (s.rdefer (windowSideEl e) g v) }

/-- G_WINDOW_WRITE. -/
def execGWindowWrite (w : Route) (e : WindowSide) (group v : Nat) (s : State) : Host.Outcome State Fault Refusal :=
  write w (windowSideEl e) group v (hGWindow e group) s

/-- EVENT_PRESET (R213): sets EVENT_NEXT. -/
def hEventPreset : Handler := Handler.doing (fun v s => .ok ((s.rset .EVENT_PRESET 0 v).rset .EVENT_NEXT 0 v))

/-- EVENT_PRESET_WRITE. -/
def execEventPresetWrite (w : Route) (v : Nat) (s : State) : Host.Outcome State Fault Refusal :=
  write w .EVENT_PRESET 0 v hEventPreset s

/-- The settings of the event builder that take effect at the next orbit boundary (R236). -/
def hEbDeferred (e : El) (u : Nat) : Handler := Handler.doing (fun v s => .ok (s.rdefer e u v))

/-- The bucket holds no more than ACC_BURST in force. -/
def clampTokens (s : State) : State :=
  { s with eb := { s.eb with tokens := Nat.min s.eb.tokens (s.fget .ACC_BURST) } }

end Sys2Proof.Machine
end

