-- ==== Sys2Proof/Machine/TrunkLink.lean ====
section
/-! DEFINITION. The trunks' link layer (R238 to R246, R249 to R251, R258, R259): enabling, training, READY and EPOCH, credits,
acknowledgement and replay, and the C0 channel. -/

namespace Sys2Proof.Machine

/-- A trunk's state. -/
def State.trunk (s : State) (k : Nat) : Trunk := mget s.trunks k Trunk.idle

/-- A trunk's state changed. -/
def State.setTrunk (s : State) (k : Nat) (x : Trunk) : State := { s with trunks := mset s.trunks k x Trunk.idle }

/-- The number of trunks. -/
def trunkCount : Nat := 32

/-! Link states (R242). -/

/-- Local READY (R242): from release stage 1, in ARMED, RUNNING, HOLD and SAFE. -/
def State.localReady (s : State) : Bool :=
  Nat.ble 1 s.load.stage &&
    (match s.dev with
     | .armed | .running | .hold | .safe => true
     | .powerOff | .reset | .boot | .idle | .loading | .shutdown => false)

/-- The states that LINK_STATE reports (R242). -/
def linkState (s : State) (k : Nat) : Nat := s.rget .LINK_STATE k

/-- The trunk carries blocks both ways: UP_NOT_READY or UP. -/
def State.linked (s : State) (k : Nat) : Bool := linkState s k == 3 || linkState s k == 4

/-- In Omium trunk framing a link is UP with both READY bits; Ethernet carries no READY of the partner. -/
def State.bothReady (s : State) (k : Nat) : Bool :=
  s.localReady && (s.rget .TK_MODE k != 0 || (s.trunk k).remoteReady)

/-- A class buffer's blocks (R249). -/
def bufferBlocks : Nat := 2048

/-- Entry into UP (R242, R249): both credit counts restart from the full buffer, the partner's EPOCH is kept (R251), and a resend of
what is not acknowledged starts (R258, R259). -/
def enterUp (k : Nat) (s : State) : State :=
  let x := s.trunk k
  let s := if x.resend = 0 then s else s.rinc .REPLAYS k
  (s.setTrunk k { x with used := [0, 0, 0], freed := [0, 0, 0], cred := [bufferBlocks, bufferBlocks, bufferBlocks]
                         partner := some x.seen, timeouts := 0 }).rset .LINK_STATE k 4

/-- The link state that lock and READY give a trunk that has finished training (R242). -/
def settleLink (k : Nat) (s : State) : State :=
  let x := s.trunk k
  let st := linkState s k
  if (st = 2 || st = 3 || st = 4) && x.lock then
    if s.bothReady k then (if st = 4 then s else enterUp k s)
    else s.rset .LINK_STATE k 3
  else s

/-- The link states settle anew where READY may have changed (R242). -/
def settleLinks (s : State) : State := (s.trunks.map (·.1)).foldl (fun t k => settleLink k t) s

/-- A trunk passes to TRAINING (R242, R258): lock is lost, RETRAINS counts a link that was up, and what is not acknowledged is to
be resent. -/
def toTraining (k : Nat) (s : State) : State :=
  let st := linkState s k
  if st = 2 || st = 3 || st = 4 then
    let s := if st = 2 then s else s.rinc .RETRAINS k
    let x := s.trunk k
    (s.setTrunk k { x with lock := false, marksIn := 0, badWords := 0, resend := x.unacked.length, timeouts := 0 }).rset .LINK_STATE k 2
  else s

/-- BOOT_SRC of the straps sampled (R265). -/
def State.bootSrc (s : State) : Nat := bitsOf (s.rget .STRAPS) 2 0

/-- A trunk runs: TK_ENABLE, or trunk 0 where BOOT_SRC selects trunk loading, which carries its management lane from PLL lock
(R253). -/
def State.trunkRuns (s : State) (k : Nat) : Bool := s.rflag .TK_ENABLE k || (k == 0 && s.bootSrc == 2)

/-- A trunk carries management packets (R253): in UP_NOT_READY and UP, with MGMT_EN, or trunk 0 where BOOT_SRC selects it. -/
def State.mgmtLane (s : State) (k : Nat) : Bool := s.linked k && (s.rflag .MGMT_EN k || (k == 0 && s.bootSrc == 2))

/-- The state an enabled trunk starts in (R242, R259). -/
def startTrunk (k : Nat) (s : State) : State :=
  let x := s.trunk k
  if x.stopped then s.rset .LINK_STATE k 6
  else if !s.trunkRuns k then
    (s.setTrunk k { x with lock := false, marksIn := 0, badWords := 0, remoteReady := false, resend := x.unacked.length }).rset .LINK_STATE k 0
  else if s.rget .TK_PRBS k != 0 then
    (s.setTrunk k { x with lock := false, marksIn := 0, badWords := 0, resend := x.unacked.length }).rset .LINK_STATE k 5
  else s.rset .LINK_STATE k (if x.pll then 2 else 1)

/-- A loaded tap names the trunk in TRUNKS (R190). -/
def State.tapNames (s : State) (k : Nat) : Bool := s.dec.taps.any (fun t => bitOf t.2.outputs 2 && bitOf t.2.trunks k)

/-- An enabled queue names the trunk as producer or consumer (R228, R259). -/
def State.queueNames (s : State) (k : Nat) : Bool := s.enabledQueues.any (fun q => s.produces q 3 k || s.consumes q 0 k)

/-- TK_ENABLE (R242). -/
def hTkEnable (k : Nat) : Handler := Handler.doing (fun v s =>
  .ok (if s.rget .TK_ENABLE k = v then s else startTrunk k (s.rset .TK_ENABLE k v)))

/-- TK_ENABLE_WRITE. -/
def execTkEnableWrite (w : Route) (trunk v : Nat) (s : State) : Host.Outcome State Fault Refusal :=
  write w .TK_ENABLE trunk v (hTkEnable trunk) s

/-- TK_RATE (R238, R239): the Ethernet modes allow rate 0 alone. -/
def hTkRate (k : Nat) : Handler :=
  { range := fun v s => s.rget .TK_MODE k == 0 || v == 0
    act := fun v s => if s.rflag .TK_ENABLE k then .error 6 else .ok (s.rset .TK_RATE k v) }

/-- TK_RATE_WRITE. -/
def execTkRateWrite (w : Route) (trunk v : Nat) (s : State) : Host.Outcome State Fault Refusal :=
  write w .TK_RATE trunk v (hTkRate trunk) s

/-- TK_MODE (R239). -/
def hTkMode (k : Nat) : Handler :=
  { range := fun v s => v == 0 || s.rget .TK_RATE k == 0
    act := fun v s =>
      if s.rflag .TK_ENABLE k || (v != 0 && s.tapNames k) then .error 6 else .ok (s.rset .TK_MODE k v) }

/-- TK_MODE_WRITE. -/
def execTkModeWrite (w : Route) (trunk v : Nat) (s : State) : Host.Outcome State Fault Refusal :=
  write w .TK_MODE trunk v (hTkMode trunk) s

/-- TK_PRBS (R242, R259). -/
def hTkPrbs (k : Nat) : Handler := Handler.doing (fun v s =>
  if v != 0 && (s.tapNames k || s.queueNames k) then .error 6
  else if s.rget .TK_PRBS k = v then .ok s
  else .ok (startTrunk k (s.rset .TK_PRBS k v)))

/-- TK_PRBS_WRITE. -/
def execTkPrbsWrite (w : Route) (trunk v : Nat) (s : State) : Host.Outcome State Fault Refusal :=
  write w .TK_PRBS trunk v (hTkPrbs trunk) s

/-- TRUNK_PLL_LOCK: training starts (R242). -/
def execTrunkPllLock (trunk : Nat) (s : State) : Host.Outcome State Fault Refusal :=
  let s := s.setTrunk trunk { s.trunk trunk with pll := true }
  .next (if linkState s trunk = 1 then s.rset .LINK_STATE trunk 2 else s)

/-- The MARKs after which the receiver takes codeword lock (R241). -/
def lockMarks : Nat := 3

/-- CODEWORD_LOCK: training ends (R241, R242), in Omium trunk framing once 3 MARKs have decoded; in Ethernet mode the FEC locks. -/
def execCodewordLock (trunk : Nat) (s : State) : Host.Outcome State Fault Refusal :=
  .next (if linkState s trunk = 2 && (s.rget .TK_MODE trunk != 0 || Nat.ble lockMarks (s.trunk trunk).marksIn) then
    settleLink trunk (s.setTrunk trunk { s.trunk trunk with lock := true }) else s)

/-- CODEWORD_LOCK_LOST (R241, R242). -/
def execCodewordLockLost (trunk : Nat) (s : State) : Host.Outcome State Fault Refusal :=
  .next (if (s.trunk trunk).lock then toTraining trunk s else s)

/-- TRAINING_TIMEOUT: the attempt gives up after 500 ms, and training repeats (R242). -/
def execTrainingTimeout (trunk : Nat) (s : State) : Host.Outcome State Fault Refusal :=
  .next (if linkState s trunk = 2 then s.setTrunk trunk { s.trunk trunk with lock := false, marksIn := 0 } else s)

/-- PARTNER_TRAINING_REQUEST (R242). -/
def execPartnerTrainingRequest (trunk : Nat) (s : State) : Host.Outcome State Fault Refusal := .next (toTraining trunk s)

/-- RETRAIN (R242). -/
def hRetrain (k : Nat) : Handler := Handler.doing (fun v s => .ok (if v = 1 then toTraining k s else s))

/-- RETRAIN. -/
def execRetrain (w : Route) (trunk v : Nat) (s : State) : Host.Outcome State Fault Refusal :=
  write w .RETRAIN trunk v (hRetrain trunk) s

/-! EPOCH (R251). -/

/-- Packets numbered from SEQ 0 on. -/
def renumber : Nat → List SentPacket → List SentPacket
  | _, [] => []
  | n, p :: ps => { p with seq := n % 65536 } :: renumber (n + 1) ps

/-- Both directions restart from SEQ 0, and everything unacknowledged is resent (R251), which starts a resend where the link is UP
(R259). -/
def restartSeq (k : Nat) (s : State) : State :=
  let x := s.trunk k
  let n := x.unacked.length
  let s := if linkState s k = 4 && n != 0 then s.rinc .REPLAYS k else s
  ((s.setTrunk k { x with unacked := renumber 0 x.unacked, resend := n, nakSent := false }).rset .RX_EXPECT k 0).rset
    .TX_SEQ k (n % 65536)

/-- TK_RESET (R251): a new EPOCH. -/
def hTkReset (k : Nat) : Handler := Handler.doing (fun v s =>
  .ok (if v = 1 then
    let d := s.draw
    restartSeq k (d.2.setTrunk k { d.2.trunk k with epoch := (Config.epoch d.1).toNat })
  else s))

/-- TK_RESET. -/
def execTkReset (w : Route) (trunk v : Nat) (s : State) : Host.Outcome State Fault Refusal :=
  write w .TK_RESET trunk v (hTkReset trunk) s

/-- A received EPOCH compared with that of the last UP (R251): a change restarts SEQ and is recorded. -/
def noteEpoch (k e : Nat) (s : State) : State :=
  let x := s.trunk k
  let s := s.setTrunk k { x with seen := e }
  match x.partner with
  | some p =>
    if p = e then s
    else (restartSeq k (s.setTrunk k { s.trunk k with partner := some e })).raise sevError 0x1803 k []
  | none => s

/-! Control blocks (R240). -/

/-- A control block: the header bit, and B from its fields. -/
def controlBlock (b : Nat) : BitVec 257 := BitVec.ofNat 257 (1 + 2 * (b % 2 ^ 256))

/-- A data block of two rows, the earlier lower (R247). -/
def dataBlock (a b : BitVec 128) : BitVec 257 := BitVec.ofNat 257 (2 * (a.toNat + b.toNat * 2 ^ 128))

/-- READY and EPOCH as IDLE and MARK carry them. -/
def State.readyEpoch (s : State) (k : Nat) : Nat := flagBit s.localReady 8 + (s.trunk k).epoch % 65536 * 2 ^ 16

/-- What a trunk sends. -/
def sendBlocks (k : Nat) (bs : List (BitVec 257)) (s : State) : State := s.setTrunk k { s.trunk k with out := bs }

/-- READY and EPOCH received (R240, R242). -/
def takeReady (k : Nat) (b : BitVec 256) (s : State) : State :=
  let s := noteEpoch k (bitsOf b.toNat 31 16) s
  settleLink k (s.setTrunk k { s.trunk k with remoteReady := bitOf b.toNat 8 })

/-- A trunk in Omium trunk framing receives blocks: it has codeword lock. -/
def State.receives (s : State) (k : Nat) : Bool := (s.trunk k).lock && s.rget .TK_MODE k == 0

/-- IDLE_BLOCK_RECEIVED (R240). -/
def execIdleBlockReceived (trunk : Nat) (block : BitVec 256) (s : State) : Host.Outcome State Fault Refusal :=
  .next (if s.receives trunk then takeReady trunk block s else s)

/-! Codewords (R238, R241). -/

/-- The symbol errors that RS(544,514) corrects in a codeword (R238), the codewords from MARK to MARK, and the uncorrectable ones in a
row that lose lock (R241). -/
def correctedSymbols : Nat := 15
def markSpacing : Nat := 1024
def lostWords : Nat := 8

/-- A codeword that is not corrected: its 20 blocks are lost (R238). -/
def wordLost (errors : Nat) : Bool := Nat.blt correctedSymbols errors

/-- Codewords decoded (R238, R259): those corrected and those uncorrectable are counted. DESIGN CHOICE (log entry 209): they are counted
with the MARK that follows them. -/
def countWords (k : Nat) (es : List Nat) (s : State) : State :=
  (s.radd .FEC_CORRECTED k (es.filter (fun e => e != 0 && !wordLost e)).length).radd .FEC_UNCORR k (es.filter wordLost).length

/-- Uncorrectable codewords in a row after some more codewords, and whether there were as many as lose lock. -/
def lostRun : Nat → List Nat → Nat × Bool
  | n, [] => (n, false)
  | n, e :: es =>
    let m := if wordLost e then n + 1 else 0
    let r := lostRun m es
    (r.1, r.2 || Nat.ble lostWords m)

/-- The places before a MARK at which one was expected and absent (R241). -/
def absentMarks (es : List Nat) : Nat := (es.length - 1) / markSpacing

/-- MARK_RECEIVED (R238, R240, R241): under codeword lock its codewords are counted, and 2 absent MARKs in a row or 8 uncorrectable
codewords in a row lose lock; in training it counts towards lock, where it stands 1,024 codewords after the one before. -/
def execMarkReceived (trunk : Nat) (mark : MarkSpan) (s : State) : Host.Outcome State Fault Refusal :=
  let x := s.trunk trunk
  if s.receives trunk then
    let run := lostRun x.badWords mark.errors
    let s := countWords trunk mark.errors s
    if run.2 || Nat.ble 2 (absentMarks mark.errors) then .next (toTraining trunk s)
    else .next (takeReady trunk mark.block (s.setTrunk trunk { x with badWords := run.1 }))
  else if linkState s trunk = 2 && s.rget .TK_MODE trunk = 0 then
    let spaced := x.marksIn != 0 && mark.errors.length == markSpacing
    .next (s.setTrunk trunk { x with marksIn := if spaced then Nat.min (x.marksIn + 1) lockMarks else 1 })
  else .next s

/-- An IDLE block with READY and EPOCH (R240). -/
def State.idleBlock (s : State) (k : Nat) : BitVec 257 := controlBlock (s.readyEpoch k)

/-- The IDLE blocks between two MARKs at least (R241). -/
def idleBlocks : Nat := 4

/-- MARK_SEND (R240, R241): a MARK, and the IDLE blocks that stand at least between it and the next. -/
def execMarkSend (trunk : Nat) (s : State) : Host.Outcome State Fault Refusal :=
  let st := linkState s trunk
  if (st = 2 || st = 3 || st = 4) && s.rget .TK_MODE trunk = 0 then
    let x := s.trunk trunk
    .next (s.setTrunk trunk { x with
      marks := (x.marks + 1) % 2 ^ 32
      out := controlBlock (0x1E + s.readyEpoch trunk + x.marks % 2 ^ 32 * 2 ^ 32) :: List.replicate idleBlocks (s.idleBlock trunk) })
  else .next s

/-- STOP_RECEIVED (R242). -/
def execStopReceived (trunk : Nat) (s : State) : Host.Outcome State Fault Refusal :=
  .next (if s.receives trunk then (toTraining trunk s).raise sevWarning 0x1801 trunk [] else s)

/-- RESERVED_BLOCK_RECEIVED (R240). -/
def execReservedBlockReceived (trunk : Nat) (block : BitVec 256) (s : State) : Host.Outcome State Fault Refusal :=
  let known := [0x00, 0x1E, 0x3C, 0x55, 0xA5, 0xF0]
  .next (if s.receives trunk && !known.contains (bitsOf block.toNat 7 0) then s.rinc .RX_DISCARDED trunk else s)

/-- Every trunk stops for a thermal shutdown: STOP eight times, then electrical idle (R242, R469). -/
def stopTrunk (k : Nat) (s : State) : State :=
  let x := s.trunk k
  let stop := controlBlock (0xF0 + x.epoch % 65536 * 2 ^ 16 + 2 ^ 32)
  (s.setTrunk k { x with stopped := true, lock := false, out := if s.linked k then List.replicate 8 stop else [] }).rset
    .LINK_STATE k 6

/-! Acknowledgement (R249, R250). -/

/-- A list entry of a class, 1 to 3. -/
def ofClass (l : List Nat) (c : Nat) : Nat := l.getD (c - 1) 0

/-- A list with the entry of a class moved on, modulo 65,536. -/
def addClass (l : List Nat) (c n : Nat) : List Nat :=
  (List.range 3).map (fun i => if i + 1 = c then (l.getD i 0 + n) % 65536 else l.getD i 0)

/-- The fragment at a queue's head, delivered to its trunk, is freed (R233). -/
def freeFragment (q : Nat) (s : State) : State :=
  let x := s.queue q
  s.setQueue q { x with frags := x.frags.drop 1, sentFrags := x.sentFrags - 1 }

/-- Packets up to a number are acknowledged: those of a fragment's end free its rows (R233, R250); where there is one, that is
progress. -/
def acknowledge (k n : Nat) (s : State) : State :=
  let x := s.trunk k
  let gone := x.unacked.take n
  let s := s.setTrunk k { x with unacked := x.unacked.drop n, resend := Nat.min x.resend (x.unacked.length - n)
                                 timeouts := if gone = [] then x.timeouts else 0 }
  let s := match gone.getLast? with
    | some p => s.rset .ACKED_SEQ k p.seq
    | none => s
  gone.foldl (fun t p => if p.frees && p.eof then freeFragment p.queue t else t) s

/-- How many of the unacknowledged packets an acknowledged SEQ covers; none where it names no packet (R250). -/
def ackCount (x : Trunk) (seq : Nat) : Nat :=
  match x.unacked with
  | [] => 0
  | p :: _ =>
    let n := (seq + 65536 - p.seq + 1) % 65536
    if Nat.ble n x.unacked.length then n else 0

/-- LINK_BLOCK_RECEIVED (R249, R250): EPOCH, acknowledgement, credits, and a replay on NAK. -/
def execLinkBlockReceived (trunk : Nat) (block : BitVec 256) (s : State) : Host.Outcome State Fault Refusal :=
  if !s.receives trunk then .next s
  else
    let b := block.toNat
    let s := noteEpoch trunk (bitsOf b 95 80) s
    let nak := bitOf b 8
    let seq := if nak then (bitsOf b 31 16 + 65535) % 65536 else bitsOf b 31 16
    let s := acknowledge trunk (ackCount (s.trunk trunk) seq) s
    let x := s.trunk trunk
    let s := s.setTrunk trunk { x with cred := [bitsOf b 47 32, bitsOf b 63 48, bitsOf b 79 64] }
    if nak && x.unacked != [] then
      .next ((s.setTrunk trunk { s.trunk trunk with resend := x.unacked.length }).rinc .REPLAYS trunk)
    else .next s

/-- LINK_BLOCK_SEND (R249, R250). -/
def execLinkBlockSend (trunk : Nat) (s : State) : Host.Outcome State Fault Refusal :=
  if !s.linked trunk || s.rget .TK_MODE trunk != 0 then .next s
  else
    let x := s.trunk trunk
    let e := s.rget .RX_EXPECT trunk
    let ack := if x.nakDue then e else (e + 65535) % 65536
    let c (i : Nat) : Nat := (bufferBlocks + ofClass x.freed i) % 65536
    let b := 0xA5 + flagBit x.nakDue 8 + ack * 2 ^ 16 + c 1 * 2 ^ 32 + c 2 * 2 ^ 48 + c 3 * 2 ^ 64 + x.epoch % 65536 * 2 ^ 80
    .next (sendBlocks trunk [controlBlock b] (s.setTrunk trunk { x with nakDue := false }))

/-- REPLAY_TIMEOUT (R250): everything unacknowledged is resent; after 16 in a row without progress the trunk retrains. A NAK may be
sent anew for the present gap. -/
def execReplayTimeout (trunk : Nat) (s : State) : Host.Outcome State Fault Refusal :=
  let x := s.trunk trunk
  let s := s.setTrunk trunk { x with nakSent := false }
  if !s.linked trunk || x.unacked = [] then .next s
  else if Nat.ble 15 x.timeouts then .next (toTraining trunk s)
  else .next ((s.setTrunk trunk { s.trunk trunk with resend := x.unacked.length, timeouts := x.timeouts + 1 }).rinc
    .REPLAYS trunk)

/-! The C0 channel (R243 to R246). -/

/-- A C0 block of up to three messages (R244). -/
def c0Block (index lost : Nat) (ms : List (BitVec 64)) : BitVec 257 :=
  let m (i : Nat) : Nat := (ms.getD i 0).toNat * 2 ^ (64 * (i + 1))
  controlBlock (0x3C + (2 ^ ms.length - 1) * 2 ^ 8 + index * 2 ^ 11 + Nat.min lost 65535 * 2 ^ 16 + m 0 + m 1 + m 2)

/-- The C0 messages of a crossing are fixed (R243, R196): the next crossing sends them. -/
def fixC0 (k t : Nat) (ms : List (BitVec 64)) (s : State) : State := s.setTrunk k { s.trunk k with c0Due := some (t, ms) }

/-- The C0 messages of a crossing are sent, or counted as lost (R243, R245): the first block sent after an interruption carries
its length, and the record of the interruption its first and last crossing; the first block leaves at C0_PHASE of the present
crossing. -/
def sendC0 (k t : Nat) (ms : List (BitVec 64)) (s : State) : State :=
  let x := s.trunk k
  if linkState s k = 4 && s.rget .TK_MODE k = 0 then
    let s := match x.c0Gap with
      | some (a, b) => s.raise sevError 0x1802 k (leBytes 8 (s.mtOf a) ++ leBytes 8 (s.mtOf b))
      | none => s
    let second := if ms.length ≤ 3 then [] else [c0Block 1 x.c0Missed (ms.drop 3)]
    let s := s.setTrunk k { s.trunk k with c0Out := some (t, ms), c0At := some (s.crossing, s.rget .C0_PHASE k)
                                           c0Missed := 0, c0Gap := none }
    (sendBlocks k (c0Block 0 x.c0Missed (ms.take 3) :: second) s).radd .C0_SENT k ms.length
  else
    let gap := match x.c0Gap with
      | some (a, _) => (a, t)
      | none => (t, t)
    (s.setTrunk k { x with c0Missed := x.c0Missed + 1, c0Gap := some gap }).rinc .C0_LOST k

/-- The C0 messages fixed in the crossing before leave each trunk (R243); in SHUTDOWN none does (R469). -/
def sendDueC0 (s : State) : State :=
  (s.trunks.filter (fun p => p.2.c0Due.isSome)).foldl
    (fun t p => match p.2.c0Due with
      | some m =>
        let t := t.setTrunk p.1 { t.trunk p.1 with c0Due := none }
        if t.dev = .shutdown then t else sendC0 p.1 m.1 m.2 t
      | none => t) s

/-- The crossing of a received C0 block (R246): the latest one no later than now, within 64, with the slot of MSG0. -/
def State.c0Crossing (s : State) (slot : Nat) : Option Nat := (crossingsBack s.crossing 64).find? (fun t => t % s.L == slot)

/-- The messages of a C0 block by message slot (R244). -/
def c0Messages (b : Nat) : SMap (BitVec 64) :=
  (List.range 3).filterMap (fun j =>
    if bitOf b (8 + j) then some (3 * bitsOf b 11 11 + j, BitVec.ofNat 64 (b / 2 ^ (64 * (j + 1)))) else none)

/-- C0_BLOCK_RECEIVED (R246). -/
def execC0BlockReceived (trunk : Nat) (block : BitVec 256) (s : State) : Host.Outcome State Fault Refusal :=
  let b := block.toNat
  if !s.receives trunk || !s.counting then .next s
  else match s.c0Crossing (bitsOf b 127 112) with
    | none => .next s
    | some t =>
      let delay := s.rget .C0_RX_DELAY trunk
      let x := s.trunk trunk
      let lost := bitsOf b 31 16
      let marked := ((List.range (Nat.min lost 64)).map (fun i => t - 1 - i)).filter (fun c => Nat.blt s.crossing (c + delay))
      let s := s.setTrunk trunk { x with c0Marked := (x.c0Marked ++ marked).eraseDups }
      if Nat.ble (t + delay) s.crossing then .next (s.rinc .C0_LATE trunk)
      else
        let x := s.trunk trunk
        let had := mget x.c0In t []
        let all := (c0Messages b).foldl (fun m p => mput m p.1 p.2) had
        .next (s.setTrunk trunk { x with c0In := mput x.c0In t all })

/-- C0_RX_PRESENT (R246): the messages for the crossing that lies C0_RX_DELAY back, with their status. -/
def execC0RxPresent (trunk : Nat) (s : State) : Host.Outcome State Fault Refusal :=
  let delay := s.rget .C0_RX_DELAY trunk
  if !s.counting || Nat.blt s.crossing delay then .next s
  else
    let t := s.crossing - delay
    let x := s.trunk trunk
    let shown := match mfind x.c0In t with
      | some m => (t, m, 0)
      | none => (t, [], if x.c0Marked.contains t then 1 else if linkState s trunk = 4 then 2 else 3)
    .next (s.setTrunk trunk { x with c0Shown := some shown, c0In := x.c0In.filter (fun p => Nat.blt t p.1)
                                     c0Marked := x.c0Marked.filter (fun c => Nat.blt t c) })

end Sys2Proof.Machine
end

