-- ==== Sys2Proof/Machine/Decision.lean ====
section
/-! DEFINITION. The decision path (R185 to R211, R370, R371): the sentinel, the decisions that taps emit and what their outputs
carry, BUSY_N, accepts from outside, and the side-street settings. -/

namespace Sys2Proof.Machine

/-! The path's markers. -/

/-- The crossing tag CT of a due crossing's decided crossing (R187). -/
def decidedTag (t ldec : Nat) : Nat := (t + 65536 - ldec) % 4096

/-- An Underpass of a path makes the decision due at a crossing a marker (R146): its guard is off, or was re-enabled at a
boundary less than L_DEC before. -/
def State.guardMarks (s : State) (p : LedgerPath) (t : Nat) : Bool :=
  p.underpasses.any (fun u =>
    let g := mget s.guards u Guard.rest
    (g.off && Nat.ble g.since t)
      || (match g.enabledAt with | some n => Nat.blt t (n * s.L + p.ldec) | none => false))

/-- A District of a path meets R176 so far for the decision due at a crossing: it is clocked, and has run one context whose plane
carries the path since phase 0 of crossing c + S. -/
def State.districtCarries (s : State) (p : LedgerPath) (t d : Nat) : Bool :=
  let x := s.dist d
  s.clocked d && p.planes.contains (8 * d + x.ctx) && !x.resetHeld && Nat.ble (x.since + p.ldec) (t + p.entry)

/-- The Districts of a path. -/
def LedgerPath.districts (p : LedgerPath) : List Nat := (p.planes.map (· / 8)).eraseDups

/-- The decision of a path due at a crossing is a marker, as far as the present cycle shows (R58, R146, R176, R180). -/
def State.pathMarked (s : State) (p : LedgerPath) (t : Nat) : Bool :=
  Nat.blt t (s.cut + p.ldec) || s.guardMarks p t || !p.districts.all (fun d => s.districtCarries p t d)

/-! The sentinel (R193 to R195). -/

/-- The breach of an offer, lowest code first (R193). -/
def breachOf (o : TapOffer) (tag : Nat) : Option Nat :=
  if !o.strobe then some 1
  else if o.tag.toNat != tag then some 2
  else if o.kind = 3 then some 3
  else if o.stray then some 4
  else none

/-- A tap's hold line. -/
def State.line (s : State) (i : Nat) : SMap Decision := mget s.dec.lines i []

/-- A decision put into a tap's hold line (R188). -/
def holdDecision (i t : Nat) (d : Decision) (s : State) : State :=
  { s with dec := { s.dec with lines := mset s.dec.lines i (mput (s.line i) t d) [] } }

/-- The kind of a good offer (R186, R195). -/
def offeredKind (o : TapOffer) : DecisionKind := if o.kind = 0 then .reject else if o.kind = 1 then .accept else .marker

/-- A breach (R194): POLICY stands for the decision, BUSY latches from a crossing on, a waiting acknowledgement is void, and the breach
is counted, kept and recorded. -/
def breach (i p t code shown : Nat) (s : State) : State :=
  let f := s.draw
  let user := (Config.unofferedFields f.1).toNat / 16
  let kind : DecisionKind := if f.2.fget .POLICY p = 1 then .forced else .policyReject
  let s := holdDecision i t { kind, atype := 0, user } f.2
  let latch := match s.dec.breach with
    | some c => some c
    | none => some shown
  let s := { s with dec := { s.dec with breach := latch, ackPending := false
                                        breached := if s.dec.breached.contains p then s.dec.breached else s.dec.breached ++ [p] } }
  (((s.rinc .BREACHES p).rset .LAST_BREACH_MT p (s.mtOf t)).rset .LAST_BREACH_KIND p code).raise sevFatal 0x2001 (0x200 + i)
    (leBytes 1 p ++ leBytes 1 i ++ leBytes 1 code ++ leBytes 8 (s.mtOf t))

/-- A breach of an offer judged outside RUNNING, kept until a release shows that no device state makes its decision a marker (R195,
R208). -/
def suspect (i t code : Nat) (s : State) : State :=
  { s with dec := { s.dec with suspects := s.dec.suspects ++ [(i, t, code)] } }

/-- The judgement of an offer due at a crossing (R193, R195, R208): in a marker interval nothing is judged; outside RUNNING, where
the end of the marker interval is not known yet, a good offer waits in the hold line and a bad one is kept until the release (DEDUCED,
entry 163). -/
def judgeOffer (i : Nat) (tap : LedgerTap) (path : LedgerPath) (o : TapOffer) (s : State) : State :=
  let t := s.crossing + tap.hold
  if s.pathMarked path t then s
  else match breachOf o (decidedTag t path.ldec) with
    | none => holdDecision i t { kind := offeredKind o, atype := o.atype.toNat, user := o.user.toNat } s
    | some code => if s.dev = .running then breach i tap.path t code (s.crossing + 1) s else suspect i t code s

/-- The device runs again (R194, R195, R207): the breaches of offers that were judged in HOLD, whose decisions fall due from the release
on and are no markers, arise with it. -/
def ariseSuspects (s : State) : State :=
  s.dec.suspects.foldl (fun u x =>
    match mfind u.dec.taps x.1 with
    | none => u
    | some tap =>
      match mfind u.dec.paths tap.path with
      | none => u
      | some p => if Nat.blt x.2.1 u.crossing || u.pathMarked p x.2.1 then u else breach x.1 tap.path x.2.1 x.2.2 u.crossing u)
    { s with dec := { s.dec with suspects := [] } }

/-- A crossing for which FABRIC is set, among the latest two (R206, R207). -/
def noteBusy (c : Nat) (l : List Nat) : List Nat := if l.contains c then l else (c :: l).take 2

/-- SENTINEL_JUDGE: a tap's expected cycle, one in a crossing, in a District that runs a plane that carries the tap (R188, R193,
R207). -/
def execSentinelJudge (tap : Nat) (o : TapOffer) (s : State) : Host.Outcome State Fault Refusal :=
  match mfind s.dec.taps tap with
  | none => .next s
  | some x =>
    match mfind s.dec.paths x.path with
    | none => .next s
    | some p =>
      let d := tap / 2
      if !s.counting || !s.clocked d || !bitOf x.contexts (s.dist d).ctx || mfind s.dec.judged tap = some s.crossing then .next s
      else
        let busy := if o.busy then noteBusy (s.crossing + 1) s.dec.fabricBusy else s.dec.fabricBusy
        let s := { s with dec := { s.dec with judged := mput s.dec.judged tap s.crossing, fabricBusy := busy } }
        .next (judgeOffer tap x p o s)

/-! What a tap emits (R196, R208). -/

/-- A marker, whose ATYPE and DUSER no offer gives. -/
def freeMarker (s : State) : Decision × State :=
  let f := s.draw
  let v := (Config.unofferedFields f.1).toNat
  ({ kind := .marker, atype := v % 16, user := v / 16 }, f.2)

/-- Nothing is emitted. -/
def noDecision : Decision := { kind := .nothing, atype := 0, user := 0 }

/-- The decision in a hold line for a crossing, or a marker where a marker interval prescribes one or nothing was offered (R188, R195). -/
def lineDecision (i t : Nat) (p : LedgerPath) (s : State) : Decision × State :=
  if s.pathMarked p t then freeMarker s
  else match mfind (s.line i) t with
    | some d => (d, s)
    | none => freeMarker s

/-- What a tap emits for the present crossing by the device state (R57, R195, R208, R469). -/
def emission (i t : Nat) (p : LedgerPath) (s : State) : Decision × State :=
  if s.tb.held.isSome then (noDecision, s)
  else match s.dev with
    | .running => lineDecision i t p s
    | .hold => freeMarker s
    | .armed => if Nat.ble 1 s.load.stage then freeMarker s else (noDecision, s)
    | .safe => if s.tb.st = .aligned || s.tb.st = .holdover then freeMarker s else (noDecision, s)
    | .shutdown =>
      match s.heat.markersTo with
      | some last => if Nat.ble t last then freeMarker s else (noDecision, s)
      | none => (noDecision, s)
    | .powerOff => (noDecision, s)
    | .reset => (noDecision, s)
    | .boot => (noDecision, s)
    | .idle => (noDecision, s)
    | .loading => (noDecision, s)

/-- KIND of a side-street word and of a C0 message (R196). -/
def DecisionKind.code : DecisionKind → Nat
  | .reject => 0
  | .accept => 1
  | .forced => 3
  | .policyReject => 0
  | .marker => 2
  | .nothing => 0

/-- An accept, forced or not. -/
def DecisionKind.accepts : DecisionKind → Bool
  | .accept => true
  | .forced => true
  | .reject => false
  | .policyReject => false
  | .marker => false
  | .nothing => false

/-- CMD of a decision on the downlinks; a reject gives none (R196, R197). -/
def downlinkCommand (d : Decision) (ct : Nat) : Option Nat :=
  match d.kind with
  | .accept => some (1 + d.atype * 2 ^ 4 + ct % 128 * 2 ^ 9)
  | .forced => some (1 + d.atype * 2 ^ 4 + 2 ^ 8 + ct % 128 * 2 ^ 9)
  | .marker => some (2 + ct % 128 * 2 ^ 9)
  | .reject => none
  | .policyReject => none
  | .nothing => none

/-- A side-street word's CRC-8 over bits 2 to 15 and then 24 up, in sending order (R198). -/
def sideCrc (mult w : Nat) : Nat :=
  let bits := (List.range 14).map (fun i => bitOf w (2 + i)) ++ (List.range (mult - 24)).map (fun i => bitOf w (24 + i))
  bits.foldl (crcBit 8 0x07) 0

/-- A side-street word (R198). -/
def sideWord (mult slot : Nat) (d : Decision) (ct : Nat) : BitVec 48 :=
  let start := if slot = 0 then 2 else 1
  let atype := if d.kind.accepts then d.atype else 0
  let w := start + d.kind.code * 2 ^ 2 + atype * 2 ^ 4 + ct % 256 * 2 ^ 8 + d.user % 2 ^ (mult - 24) * 2 ^ 24
  BitVec.ofNat 48 (w + sideCrc mult w * 2 ^ 16)

/-- What a tap's side-street pair drives for a crossing (R196, R198, R199); none where the pair is no decision output. -/
def State.pairOut (s : State) (q slot : Nat) (d : Decision) (ct : Nat) : Option PairOut :=
  match s.rget .SS_MODE q with
  | 1 => some (.word (if d.kind = .nothing then 0 else sideWord (s.rget .SS_MULT q) slot d ct))
  | 2 => some (.pins d.kind.accepts (d.kind == .reject || d.kind == .policyReject || d.kind == .accept))
  | _ => none

/-- A C0 message (R200). -/
def c0Message (slot path : Nat) (d : Decision) (ct : Nat) : BitVec 64 :=
  BitVec.ofNat 64 (ct + d.kind.code * 2 ^ 12 + d.atype * 2 ^ 14 + path * 2 ^ 18 + d.user * 2 ^ 32 + slot * 2 ^ 48)

/-- The counters of a decision (R210). -/
def countDecision (p : Nat) (d : Decision) (s : State) : State :=
  match d.kind with
  | .reject => s.rinc .DECISIONS p
  | .accept => (s.rinc .DECISIONS p).rinc .ACCEPTS p
  | .forced => s.rinc .ACCEPTS p
  | .marker => s.rinc .MARKERS p
  | .policyReject => s
  | .nothing => s

/-- The downlink commands of a tap put at its ports (R190, R197). -/
def putDownlinks (q mask cmd : Nat) (s : State) : State :=
  (List.range 16).foldl
    (fun t j => if bitOf mask j then { t with dec := { t.dec with downlinks := mput t.dec.downlinks (16 * q + j) cmd } } else t) s

/-- One tap's decision handed to its outputs, but for trunks (R196 to R201). -/
def handOut (i t : Nat) (tap : LedgerTap) (p : LedgerPath) (d : Decision) (s : State) : State :=
  let q := i / 4
  let out := s.fget .TAP_OUT i
  let ct := decidedTag t p.ldec
  let s := match (if bitOf out 0 then downlinkCommand d ct else none) with
    | some cmd => putDownlinks q tap.dlMask cmd s
    | none => s
  let s := match (if bitOf tap.outputs 1 then s.pairOut q (t % s.L) (if bitOf out 1 then d else noDecision) ct else none) with
    | some v => { s with dec := { s.dec with pairs := mput s.dec.pairs q v } }
    | none => s
  if bitOf out 3 && d.kind.accepts && Nat.ble p.ldec t then
    offerAccept { crossing := t - p.ldec, atype := d.atype, forced := d.kind == .forced, mismatch := false, source := tap.path } s
  else s

/-- One tap emits for a crossing, once (R196, R209). -/
def emitTap (t : Nat) (i : Nat) (tap : LedgerTap) (s : State) : State :=
  match mfind s.dec.paths tap.path with
  | none => s
  | some p =>
    if (match mfind s.dec.emitted i with | some (u, _) => u == t | none => false) then s
    else
      let r := emission i t p s
      let s := handOut i t tap p r.1 (countDecision tap.path r.1 r.2)
      let keep := (s.line i).filter (fun e => Nat.blt t e.1)
      { s with dec := { s.dec with emitted := mput s.dec.emitted i (t, r.1), lines := mset s.dec.lines i keep []
                                   suspects := s.dec.suspects.filter (fun x => x.1 != i || Nat.blt t x.2.1) } }

/-- The taps in path order, and by index within a path (R205). -/
def State.tapsInOrder (s : State) : List (Nat × LedgerTap) :=
  (List.range 64).flatMap (fun p => s.dec.taps.filter (fun x => x.2.path == p))

/-- The C0 messages of a trunk for a crossing, by ascending tap index (R200, R244): of the taps that emitted and whose trunk output
is enabled. -/
def State.messagesFor (s : State) (k t : Nat) : List (BitVec 64) :=
  s.dec.taps.filterMap (fun x =>
    if bitOf (s.fget .TAP_OUT x.1) 2 && bitOf x.2.trunks k then
      match mfind s.dec.emitted x.1, mfind s.dec.paths x.2.path with
      | some (u, d), some p =>
        if u = t && d.kind != .nothing then some (c0Message (t % s.L) x.2.path d (decidedTag t p.ldec)) else none
      | _, _ => none
    else none)

/-- The C0 messages of a crossing fixed for every trunk that a loaded tap names (R243); in SHUTDOWN none is (R469). -/
def fixMessages (t : Nat) (s : State) : State :=
  if s.dev = .shutdown then s
  else
    (List.range trunkCount).foldl
      (fun u k => if u.tapNames k && u.messagesFor k t != [] then fixC0 k t (u.messagesFor k t) u else u) s

/-- Every tap has emitted for a crossing already. -/
def State.emittedAll (s : State) (t : Nat) : Bool :=
  s.dec.taps.all (fun x => match mfind s.dec.emitted x.1 with | some (u, _) => u == t | none => false)

/-- DECISION_EMIT: phase M - 1 of the present crossing (R188, R196). -/
def execDecisionEmit (s : State) : Host.Outcome State Fault Refusal :=
  let t := s.crossing
  if !s.counting || s.emittedAll t then .next s
  else .next (fixMessages t (s.tapsInOrder.foldl (fun u x => emitTap t x.1 x.2 u) s))

/-! BUSY_N (R206, R207). -/

/-- BREACH of BUSY_SRC: latched, from phase 0 of the crossing after the expected cycle. -/
def State.breachShown (s : State) : Bool :=
  match s.dec.breach with
  | some c => !s.counting || Nat.ble c s.crossing
  | none => false

/-- BUSY_SRC (R206). -/
def State.busySrc (s : State) : Nat :=
  flagBit (s.dev != .running) 0 + flagBit s.breachShown 1 + flagBit s.dec.force 2
    + flagBit (s.counting && s.dec.fabricBusy.contains s.crossing) 3

/-- BUSY_N is driven high (R10, R207): no source is set, and boundary scan does not hold the pins (R424). -/
def State.busyHigh (s : State) : Bool := s.busySrc == 0 && !s.pinsTaken

/-- BREACH_ACK (R194). -/
def hBreachAck : Handler := Handler.doing (fun v s =>
  .ok (if v = 1 && s.dec.breach.isSome then { s with dec := { s.dec with ackPending := true } } else s))

/-- BREACH_ACK. -/
def execBreachAck (w : Route) (v : Nat) (s : State) : Host.Outcome State Fault Refusal := write w .BREACH_ACK 0 v hBreachAck s

/-- The breach latch clears at an orbit boundary (R194). -/
def clearBreach (s : State) : State :=
  if s.dec.ackPending then { s with dec := { s.dec with breach := none, breached := [], ackPending := false } } else s

/-- BUSY_FORCE acts from phase 0 of the next crossing, or at once where no crossing comes (R207). -/
def hBusyForce : Handler := Handler.doing (fun v s =>
  let s := s.rset .BUSY_FORCE 0 v
  .ok (if s.counting then s else { s with dec := { s.dec with force := v == 1 } }))

/-- BUSY_FORCE_WRITE. -/
def execBusyForceWrite (w : Route) (v : Nat) (s : State) : Host.Outcome State Fault Refusal :=
  write w .BUSY_FORCE 0 v hBusyForce s

/-- POLICY takes effect at the next orbit boundary (R210). -/
def hPolicy (p : Nat) : Handler := Handler.doing (fun v s => .ok (s.rdefer .POLICY p v))

/-- POLICY_WRITE. -/
def execPolicyWrite (w : Route) (path v : Nat) (s : State) : Host.Outcome State Fault Refusal :=
  write w .POLICY path v (hPolicy path) s

/-- TAP_OUT (R210): a subset of OUTPUTS, in force at the next orbit boundary. -/
def hTapOut (i : Nat) : Handler :=
  { range := fun v s =>
      let o := match mfind s.dec.taps i with
        | some x => x.outputs
        | none => 0
      Nat.lor v o == o
    act := fun v s => .ok (s.rdefer .TAP_OUT i v) }

/-- TAP_OUT_WRITE. -/
def execTapOutWrite (w : Route) (tap v : Nat) (s : State) : Host.Outcome State Fault Refusal :=
  write w .TAP_OUT tap v (hTapOut tap) s

/-! Accepts from outside (R202 to R205). -/

/-- A lane's receiver at rest (R202). -/
def LaneRx.idle : LaneRx := { locked := false, good := 0, recent := [], warned := none }

/-- A pair's receiver. -/
def State.lane (s : State) (q : Nat) : LaneRx := mget s.dec.lanes q LaneRx.idle

/-- A pair's receiver changed. -/
def State.setLane (s : State) (q : Nat) (x : LaneRx) : State :=
  { s with dec := { s.dec with lanes := mset s.dec.lanes q x LaneRx.idle } }

/-- A received word has a valid START and a good CRC (R198, R202). -/
def laneStartOk (w : Nat) : Bool := w % 4 == 1 || w % 4 == 2
def laneCrcOk (mult w : Nat) : Bool := bitsOf w 23 16 == sideCrc mult w

/-- A word with a CRC failure is discarded (R202): counted and recorded at most once per orbit, locked or not, and 4 within 16
words unlock. -/
def badLaneWord (q : Nat) (s : State) : State :=
  let x := s.lane q
  let recent := if x.locked then (true :: x.recent).take 16 else []
  let lost := !x.locked || Nat.ble 4 (recent.filter (· == true)).length
  let s := (s.setLane q { x with recent := if lost then [] else recent, locked := !lost, good := 0 }).rinc .ACC_CRC_ERRORS q
  if x.warned = some s.tb.orbit then s
  else (s.setLane q { s.lane q with warned := some s.tb.orbit }).raise sevWarning 0x1901 q []

/-- An accept taken from a pair (R202, R203). -/
def pairAccept (q atype : Nat) (forced mismatch : Bool) (s : State) : State :=
  let s := if mismatch then s.rinc .ACC_TAG_MISMATCH q else s
  offerAccept { crossing := s.crossing - s.rget .ACC_DELAY q, atype, forced, mismatch, source := 64 + q } (s.rinc .ACC_COUNT q)

/-- ACCEPT_LANE_WORD: a whole word whose last bit is sampled in the present crossing (R202). -/
def execAcceptLaneWord (pair word : Nat) (s : State) : Host.Outcome State Fault Refusal :=
  if s.rget .SS_MODE pair != 3 || !s.counting || Nat.ble 64 pair then .next s
  else
    let x := s.lane pair
    let mult := s.rget .SS_MULT pair
    let good := laneCrcOk mult word
    if !good then .next (badLaneWord pair s)
    else if !x.locked then
      let n := if laneStartOk word then x.good + 1 else 0
      .next (s.setLane pair { x with good := n, locked := Nat.ble 16 n, recent := [] })
    else
      let s := s.setLane pair { x with recent := (false :: x.recent).take 16 }
      let kind := bitsOf word 3 2
      if (kind = 1 || kind = 3) && Nat.ble (s.rget .ACC_DELAY pair) s.crossing then
        let ct := (s.crossing - s.rget .ACC_DELAY pair) % 4096
        .next (pairAccept pair (bitsOf word 7 4) (kind == 3) (bitsOf word 15 8 != ct % 256) s)
      else .next s

/-- ACCEPT_PIN_SAMPLE: a high sample in the present crossing (R203). -/
def execAcceptPinSample (pair : Nat) (s : State) : Host.Outcome State Fault Refusal :=
  if s.rget .SS_MODE pair = 4 && s.counting && Nat.blt pair 64 && Nat.ble (s.rget .ACC_DELAY pair) s.crossing then
    .next (pairAccept pair (s.rget .ACC_TYPE pair) false false s)
  else .next s

/-- A timing-port frame presented with status OK and USER[7] is an accept for its crossing (R204). -/
def timingAccept (e : Presented) (s : State) : State :=
  let user := bitsOf e.header.toNat 31 24
  if s.rflag .ACC_TPORT && e.status = 0 && bitOf user 7 then
    offerAccept { crossing := e.crossing, atype := user % 16, forced := false, mismatch := false, source := 128 } s
  else s

/-! Side-street settings (R211, R370, R371). -/

/-- SS_MODE (R211): a pair bound to a tap stays a decision output. -/
def hSsMode (q : Nat) : Handler := Handler.doing (fun v s =>
  if s.rget .SS_TAP q != 0xFFFF && v != 1 && v != 2 then .error 6
  else
    let s := s.rset .SS_MODE q v
    .ok { s.setLane q LaneRx.idle with dec := { (s.setLane q LaneRx.idle).dec with pairs := mdel s.dec.pairs q } })

/-- SS_MODE_WRITE. -/
def execSsModeWrite (w : Route) (pair v : Nat) (s : State) : Host.Outcome State Fault Refusal :=
  write w .SS_MODE pair v (hSsMode pair) s

/-- A setting of SS_FIO_CFG is in range (R370): no reserved direction or bit, WORD_DIV at least 1, and the line rate. -/
def State.fioCfgOk (s : State) (v : Nat) : Bool :=
  bitsOf v 31 12 == 0 && bitsOf v 2 1 != 3 && bitsOf v 4 3 != 3 && bitsOf v 11 6 != 0 && s.fioRateOk v

/-- SS_FIO_CFG (R370, R371). -/
def hSsFioCfg (q : Nat) : Handler :=
  { range := fun v s => s.fioCfgOk v, act := fun v s => .ok (s.rset .SS_FIO_CFG q v) }

/-- SS_FIO_CFG_WRITE. -/
def execSsFioCfgWrite (w : Route) (pair v : Nat) (s : State) : Host.Outcome State Fault Refusal :=
  write w .SS_FIO_CFG pair v (hSsFioCfg pair) s

/-- FIO_STATUS (R370, R371): FIO_INVALID where the line rate check fails, and ACTIVE in mode 5 once released. -/
def State.fioStatus (s : State) (q : Nat) : Nat :=
  let five := s.rget .SS_MODE q == 5
  let bad := five && !s.fioRateOk (s.rget .SS_FIO_CFG q)
  flagBit bad 0 + flagBit (five && Nat.ble 1 s.load.stage) 1

end Sys2Proof.Machine
end

