-- ==== Sys2Proof/Machine/Spares.lean ====
section
/-! DEFINITION. What acts on banks that a self-test may hold: SUBSTITUTE (R307), and the Vault's enable, lock and wipe (R126 to
R128). -/

namespace Sys2Proof.Machine

/-- SUBSTITUTE (R307, R308, R407): a bank under in-field test ends its test first. -/
def hSubstitute (q : Nat) : Handler := Handler.doing (fun v s =>
  match s.substitute q v with
  | none => .error 6
  | some t =>
    if s.underTest (64 * q + v) then .ok (abortTest { s with bist := { s.bist with moveDue := true } }) else .ok t)

/-- SUBSTITUTE. -/
def execSubstitute (w : Route) (quarter v : Nat) (s : State) : Host.Outcome State Fault Refusal :=
  write w .SUBSTITUTE quarter v (hSubstitute quarter) s

/-- The banks of the Vault's place. -/
def vaultBanks : List Nat := (List.range 16).map (fun i => 48 + i)

/-- A wipe started by a cause (R128): WIPING at once; a second cause during a wipe only replaces the one kept, also while VAULT_ENABLE
is 0 in the wipe of cause 5. -/
def startWipe (cause : Nat) (s : State) : State :=
  if s.rflag .VAULT_ENABLE || s.rget .VAULT_STATE = 3 || cause = 5 then
    let s := stopTest s
    let s := if s.rget .VAULT_STATE = 3 then s else vaultBanks.foldl (fun t n => clearBank n t) s
    { s.rset .VAULT_STATE 0 3 with mem := { s.mem with wipeCause := cause } }
  else s

/-- VAULT_ENABLE (R126): 1 hands the banks to owner 0x84, 0 wipes the Vault first. DESIGN CHOICE (log entry 197): a handover that is
in progress on one of the banks goes on with 0x84 as its new owner. -/
def hVaultEnable : Handler := Handler.doing (fun v s =>
  if v = 1 then
    if s.rflag .VAULT_ENABLE then keepValue .VAULT_ENABLE 0 1 s
    else if vaultBanks.any (fun n => s.isRingBank n || s.isC0 n || s.rget .POWER_STATE n == 1) then .error 6
    else match keepValue .VAULT_ENABLE 0 1 s with
      | .error c => .error c
      | .ok s =>
        if s.rget .VAULT_STATE = 3 then .ok s
        else .ok ((vaultBanks.foldl (fun t n => startHandover n 0x84 t) s).rset .VAULT_STATE 0 1)
  else if s.rflag .VAULT_ENABLE then
    match keepValue .VAULT_ENABLE 0 0 s with
    | .error c => .error c
    | .ok s => .ok (startWipe 5 s)
  else keepValue .VAULT_ENABLE 0 0 s)

/-- VAULT_ENABLE_WRITE. -/
def execVaultEnableWrite (w : Route) (v : Nat) (s : State) : Host.Outcome State Fault Refusal :=
  write w .VAULT_ENABLE 0 v hVaultEnable s

/-- VAULT_LOCK (R127): an unlocked Vault is LOCKED in the next memory cycle, which is the first that a later command can show. -/
def hVaultLock : Handler := Handler.doing (fun v s => .ok (if v = 1 && s.rget .VAULT_STATE = 2 then s.rset .VAULT_STATE 0 1 else s))

/-- VAULT_LOCK. -/
def execVaultLock (w : Route) (v : Nat) (s : State) : Host.Outcome State Fault Refusal := write w .VAULT_LOCK 0 v hVaultLock s

/-- VAULT_UNLOCK (R127, R407, R447). -/
def hVaultUnlock : Handler :=
  { allow := fun w _ _ => w == .coreM
    range := fun _ _ => true
    act := fun v s =>
      if s.rget .VAULT_STATE = 3 || s.rget .TAMPER_STATE != 0 then .error 6
      else if v = 0 || s.rget .VAULT_STATE != 1 then .ok s
      else if s.bistRunning && s.rget .BIST_KIND = 0 && inVaultPlace (s.rget .BIST_TARGET) then
        .ok (abortTest { s with bist := { s.bist with unlockDue := true } })
      else .ok (s.rset .VAULT_STATE 0 2) }

/-- VAULT_UNLOCK. -/
def execVaultUnlock (w : Route) (v : Nat) (s : State) : Host.Outcome State Fault Refusal := write w .VAULT_UNLOCK 0 v hVaultUnlock s

/-- VAULT_WIPE (R128). -/
def hVaultWipe : Handler := Handler.doing (fun v s => .ok (if v = 1 then startWipe 4 s else s))

/-- VAULT_WIPE. -/
def execVaultWipe (w : Route) (v : Nat) (s : State) : Host.Outcome State Fault Refusal := write w .VAULT_WIPE 0 v hVaultWipe s

/-- The end of a wipe: the zero rows are written (R128 steps 3 to 5), and after a wipe of cause 5 the banks go to owner 0x81 (R126).
DESIGN CHOICE (log entry 198): a wipe of cause 5 in which VAULT_ENABLE was written 1 again ends LOCKED, the banks still with 0x84. -/
def finishWipe (s : State) : State :=
  if s.rget .VAULT_STATE = 3 then
    let cause := s.mem.wipeCause
    let s := vaultBanks.foldl (fun t n => blankBank n true t) s
    let on := s.rflag .VAULT_ENABLE
    let s := ((s.rset .VAULT_STATE 0 (if on then 1 else 0)).rinc .WIPE_COUNT).rset .LAST_WIPE_CAUSE 0 cause
    let s := if on then s else vaultBanks.foldl (fun t n => startHandover n 0x81 t) s
    s.raise sevWarning 0x0603 0x080 (leBytes 1 cause)
  else s

/-- VAULT_WIPE_DONE. -/
def execVaultWipeDone (s : State) : Host.Outcome State Fault Refusal := .next (finishWipe s)

end Sys2Proof.Machine
end

