-- ==== Sys2Proof/Machine/TimeBase.lean ====
section
/-! DEFINITION. The time base (R35 to R58): its settings, acquisition, orbit alignment, SYNC, and clock and orbit loss. -/

namespace Sys2Proof.Machine

/-! Settings. -/

/-- Every open window but those of contexts closes (R56): flags, pauses, self-test and calibration windows with it. -/
def closeWindows (s : State) : State :=
  let keep := s.rb.openWindows.filter (fun w => ttAction (s.ttActive w.1) == 1)
  let s := abortWindows { s with rb := { s.rb with openWindows := keep } }
  eachPort (fun x => { x with adaptWindows := 0 }) ((s.ports.map (·.1)).foldl (fun t p => keepEq p t) s)

/-- The numbering of crossings ends with the time base's return to NO_CLOCK: what names a crossing of it is over, so that a later
numbering, which may begin lower, meets none of its numbers (R39, R46). DESIGN CHOICE (log entry 190). -/
def endNumbering (s : State) : State :=
  let d : DecisionPath := { s.dec with lines := [], emitted := [], judged := [], suspects := [], fabricBusy := []
                                       breach := s.dec.breach.map (fun _ => 0) }
  let s := { s with lossHeld := false, lossFrom := 0, cut := 0, dec := d
                    eb := { s.eb with lastTaken := none, takenIn := (0, 0), warned := [] }
                    guards := mmap (fun _ g => { g with enabledAt := none, since := 0 }) s.guards
                    trunks := mmap (fun _ t => { t with c0In := [], c0Marked := [], c0Due := none, c0Shown := none, warned := [] }) s.trunks
                    dists := mmap (fun _ x => { x with windows := [], since := 0, notLoaded := []
                                                       stage := x.stage.map (fun (g : Nat × Option Nat) => (g.1, none)) }) s.dists }
  { s with load := { s.load with spaceFrom := none } }

/-- The time base returns to NO_CLOCK (R39, R42): windows close, ports lose a clock they may not hold, downlinks pass to electrical
idle (R95), rings wait anew. -/
def toNoClock (s : State) : State :=
  let s := closeWindows { (if s.tb.st = .noClock then s else latchIrq 10 s) with tb := TimeBase.reset }
  let s := endNumbering { s with rb := { s.rb with openWindows := [] } }
  s.ringQuarters.foldl (fun t q => resetRing q t) (eachPort (fun x => { x with downlink := none }) (settlePorts s))

/-- A setting whose change returns the time base to NO_CLOCK (R39); the value in force changes nothing. A port newly named for the
clock is judged anew (R92). -/
def storeTimeSetting (e : El) (v : Nat) (s : State) : State :=
  let anew := e = .CLK_SRC || e = .TIMING_PORT
  if s.rget e = v then s
  else
    let s := toNoClock (s.rset e 0 v)
    judgeTiming (if anew then eachPort (fun x => { x with noticed := false }) s else s)

/-- CLK_SRC (R35, R39). -/
def hClkSrc : Handler := Handler.doing (fun v s => .ok (storeTimeSetting .CLK_SRC v s))

/-- CLK_SRC_WRITE. -/
def execClkSrcWrite (w : Route) (v : Nat) (s : State) : Host.Outcome State Fault Refusal := write w .CLK_SRC 0 v hClkSrc s

/-- TIMING_PORT (R35, R39). -/
def hTimingPort : Handler := Handler.doing (fun v s => .ok (storeTimeSetting .TIMING_PORT v s))

/-- TIMING_PORT_WRITE. -/
def execTimingPortWrite (w : Route) (v : Nat) (s : State) : Host.Outcome State Fault Refusal :=
  write w .TIMING_PORT 0 v hTimingPort s

/-- The speed-grade limit of the fabric clock in Hz (R2). -/
def State.speedLimit (s : State) : Nat := if s.rget .SPEED_GRADE = 2 then 900000000 else 750000000

/-- A fabric clock ratio and a machine clock give a permitted fabric clock (R3, R38). -/
def State.fabricClockOk (s : State) (m f : Nat) : Bool := Nat.ble 100000000 (m * f) && Nat.ble (m * f) s.speedLimit

/-- MCLK_NOMINAL (R36, R38, R39). -/
def hMclkNominal : Handler :=
  { range := fun v s => s.fabricClockOk s.M v, act := fun v s => .ok (storeTimeSetting .MCLK_NOMINAL v s) }

/-- MCLK_NOMINAL_WRITE. -/
def execMclkNominalWrite (w : Route) (v : Nat) (s : State) : Host.Outcome State Fault Refusal :=
  write w .MCLK_NOMINAL 0 v hMclkNominal s

/-- ORBIT_LEN (R39, R41, R51): a length that breaks SYNC_EVERY × L ≥ 96 is refused. DESIGN CHOICE (log entry 143): an ORBIT_OFFSET
left at or above a shorter length stands, and is used as it is. -/
def hOrbitLen : Handler :=
  { range := fun v s => Nat.ble 96 (s.rget .SYNC_EVERY * v), act := fun v s => .ok (storeTimeSetting .ORBIT_LEN v s) }

/-- ORBIT_LEN_WRITE. -/
def execOrbitLenWrite (w : Route) (v : Nat) (s : State) : Host.Outcome State Fault Refusal := write w .ORBIT_LEN 0 v hOrbitLen s

/-- The largest value of an element over all its units, the default of an unlisted unit included. -/
def State.largest (s : State) (e : El) : Nat :=
  let us := s.unitsSet e
  listMax (us.map (fun u => s.rget e u)) (if us.length < e.info.cnt then e.info.dflt else 0)

/-- Every phase setting of R38 lies within M - 1, TAP_PHASE of a loaded tap within M - 2. -/
def State.phasesFit (s : State) (m : Nat) : Bool :=
  [El.SYNC_SAMPLE_PHASE, .ALIGN_GUARD, .DL_SKEW, .SS_SKEW, .SS_SAMPLE_PHASE, .C0_PHASE].all (fun e => Nat.blt (s.largest e) m)
    && (s.unitsSet .CAPTURE_CTRL).all (fun d => Nat.blt (bitsOf (s.rget .CAPTURE_CTRL d) 7 2) m)
    && (ttEnabledEntries s.rb.active).all (fun p => Nat.blt (ttPhase p.2) m)
    && s.dec.taps.all (fun p => Nat.blt (p.2.phase + 1) m)

/-- FABRIC_RATIO (R3, R38, R39). -/
def hFabricRatio : Handler :=
  { range := fun v s => s.fabricClockOk v (s.rget .MCLK_NOMINAL) && s.phasesFit v
    act := fun v s => .ok (storeTimeSetting .FABRIC_RATIO v s) }

/-- FABRIC_RATIO_WRITE. -/
def execFabricRatioWrite (w : Route) (v : Nat) (s : State) : Host.Outcome State Fault Refusal :=
  write w .FABRIC_RATIO 0 v hFabricRatio s

/-- ALIGN_SRC (R39, R44). -/
def hAlignSrc : Handler := Handler.doing (fun v s => .ok (storeTimeSetting .ALIGN_SRC v s))

/-- ALIGN_SRC_WRITE. -/
def execAlignSrcWrite (w : Route) (v : Nat) (s : State) : Host.Outcome State Fault Refusal := write w .ALIGN_SRC 0 v hAlignSrc s

/-- ORBIT_OFFSET (R45). -/
def hOrbitOffset : Handler := { range := fun v s => Nat.blt v s.L, act := fun v s => .ok (s.rset .ORBIT_OFFSET 0 v) }

/-- ORBIT_OFFSET_WRITE. -/
def execOrbitOffsetWrite (w : Route) (v : Nat) (s : State) : Host.Outcome State Fault Refusal :=
  write w .ORBIT_OFFSET 0 v hOrbitOffset s

/-- SYNC_EVERY (R51). -/
def hSyncEvery : Handler := { range := fun v s => Nat.ble 96 (v * s.L), act := fun v s => .ok (s.rset .SYNC_EVERY 0 v) }

/-- SYNC_EVERY_WRITE. -/
def execSyncEveryWrite (w : Route) (v : Nat) (s : State) : Host.Outcome State Fault Refusal := write w .SYNC_EVERY 0 v hSyncEvery s

/-- SYNC_SAMPLE_PHASE (R52). -/
def hSyncSamplePhase : Handler :=
  { range := fun v s => Nat.blt v s.M, act := fun v s => .ok (s.rset .SYNC_SAMPLE_PHASE 0 v) }

/-- SYNC_SAMPLE_PHASE_WRITE. -/
def execSyncSamplePhaseWrite (w : Route) (v : Nat) (s : State) : Host.Outcome State Fault Refusal :=
  write w .SYNC_SAMPLE_PHASE 0 v hSyncSamplePhase s

/-- FINE_DELAY (R48): 6 ps a step, shorter than one crossing period. -/
def hFineDelay : Handler :=
  { range := fun v s => Nat.blt (v * 6 * s.rget .MCLK_NOMINAL) 1000000000000
    act := fun v s => .ok (s.rset .FINE_DELAY 0 v) }

/-- FINE_DELAY_WRITE. -/
def execFineDelayWrite (w : Route) (v : Nat) (s : State) : Host.Outcome State Fault Refusal := write w .FINE_DELAY 0 v hFineDelay s

/-- The applied fine delay moves one step toward the set value in a crossing (R48), whether MT counts or not. -/
def slewFineDelay (s : State) : State :=
  let a := s.rget .FINE_DELAY_APPLIED
  let t := s.rget .FINE_DELAY
  if a < t then s.rset .FINE_DELAY_APPLIED 0 (a + 1) else if t < a then s.rset .FINE_DELAY_APPLIED 0 (a - 1) else s

/-! Loss (R55, R56). -/

/-- The DETAIL of a loss record (R56). -/
def lossDetail (mt cause : Nat) : Bytes := leBytes 8 mt ++ leBytes 1 cause

/-- The record of a loss declared in the present crossing takes a lower cause code (R55). -/
def amendLoss (cause : Nat) (s : State) : State :=
  let fix (e : Event) : Event :=
    if e.code == 0x0203 && e.mtFirst == s.mt then { e with detail := lossDetail s.mt cause } else e
  { s with recorder := { s.recorder with intake := s.recorder.intake.map fix
                                         held := s.recorder.held.map (fun r => { r with ev := fix r.ev }) } }

/-- What a loss is counted and recorded as (R42, R56): once for all conditions declared in one crossing, with the lowest cause
code (R55). -/
def recordLoss (cause : Nat) (s : State) : State :=
  let note (k : Nat) (s : State) : State := { s with tb := { s.tb with lost := some (s.crossing, k) } }
  let fresh := note cause (((s.rinc .LOSS_COUNT).rset .LAST_LOSS_MT 0 s.mt).raise sevError 0x0203 0 (lossDetail s.mt cause))
  match s.tb.lost with
  | some (x, k) => if x = s.crossing then (if cause < k then note cause (amendLoss cause s) else s) else fresh
  | none => fresh

/-- TB_STATE changes (R42), with source 10 of R385. -/
def toTb (st : TbState) (s : State) : State := if s.tb.st = st then s else latchIrq 10 { s with tb := { s.tb with st } }

/-- A loss declared in ALIGNED (R56): the time base passes to HOLDOVER or REALIGN, a device in RUNNING to HOLD, entries stop,
and windows close. The fabric's registers stand as the cycles run so far have left them. -/
def lose (st : TbState) (cause : Nat) (s : State) : State :=
  let s := recordLoss cause s
  let s := toTb st s
  let t := s.tb
  let t : TimeBase := { t with prov := none, misplaced := 0, mismatched := 0, syncOk := false, syncOut := none, syncLeft := 0 }
  let t : TimeBase := { t with confirmed := none, entriesRun := false, held := none }
  let s := closeWindows { s with tb := t, lossHeld := true, lossFrom := s.crossing }
  if s.dev = .running then s.become .hold else s

/-- The cause codes of R55. -/
def lossCode : LossCause → Nat
  | .missingEdge => 1
  | .pllLock => 2
  | .timingPortLock => 3
  | .frequency => 4

/-- The source stays present only where the PLL alone lost its lock; the PLL is out of lock until it relocks. -/
def dropSource (cause : LossCause) (s : State) : State :=
  { s with tb := { s.tb with srcPresent := s.tb.srcPresent && cause == .pllLock, pllLocked := false } }

/-- A further condition declared in the crossing of the loss (R55): a lower cause code is the one recorded. -/
def lossAgain (cause : Nat) (s : State) : State :=
  match s.tb.lost with
  | some (x, _) => if x = s.crossing then recordLoss cause s else s
  | none => s

/-- CLOCK_LOSS (R42, R55, R56). DESIGN CHOICE (log entry 191): a loss in ACQUIRE or LOCKED, before MT counts, is not counted in
LOSS_COUNT and writes no record. -/
def execClockLoss (cause : LossCause) (s : State) : Host.Outcome State Fault Refusal :=
  if cause = .timingPortLock && s.rget .CLK_SRC != 1 then .next s
  else match s.tb.st with
    | .noClock => .next s
    | .holdover => .next (dropSource cause (lossAgain (lossCode cause) s))
    | .acquire => .next (toNoClock s)
    | .locked => .next (toNoClock s)
    | .aligned => .next (dropSource cause (lose .holdover (lossCode cause) s))
    | .realign =>
      let s := recordLoss (lossCode cause) s
      .next (dropSource cause (toTb .holdover { s with tb := { s.tb with prov := none } }))

/-! Acquisition. -/

/-- A measured frequency within ±200 ppm of MCLK_NOMINAL (R36). -/
def State.within200 (s : State) (hz : Nat) : Bool :=
  Nat.ble (distance hz (s.rget .MCLK_NOMINAL) * 1000000) (200 * s.rget .MCLK_NOMINAL)

/-- The selected source gives a machine clock: a timing port only while it qualifies and recovers its clock (R35, R92). -/
def State.sourceUsable (s : State) : Bool :=
  s.rget .CLK_SRC == 0 || (s.timingQualified (s.rget .TIMING_PORT) && (s.port (s.rget .TIMING_PORT)).cdr)

/-- The time base runs: not in POWER_OFF or RESET, nor power-gated in SHUTDOWN (R13, R469). -/
def State.powered (s : State) : Bool :=
  !s.power.gated &&
    (match s.dev with
     | .powerOff | .reset => false
     | .boot | .idle | .loading | .armed | .running | .hold | .safe | .shutdown => true)

/-- SOURCE_ACQUIRED (R36). -/
def execSourceAcquired (hz : Nat) (s : State) : Host.Outcome State Fault Refusal :=
  if s.tb.st = .noClock && s.powered && s.sourceUsable then
    let s := s.rset .MCLK_MEASURED 0 hz
    .next (if s.within200 hz then toTb .acquire { s with tb := { s.tb with srcPresent := true } } else s)
  else .next s

/-- SOURCE_RETURN (R57). -/
def execSourceReturn (hz : Nat) (s : State) : Host.Outcome State Fault Refusal :=
  if s.tb.st = .holdover && s.sourceUsable then
    let s := s.rset .MCLK_MEASURED 0 hz
    .next (if s.within200 hz then { s with tb := { s.tb with srcPresent := true } } else s)
  else .next s

/-! Alignment. -/

/-- The device is a SYNC follower (R49). -/
def State.follower (s : State) : Bool := s.rget .SYNC_ROLE == 2

/-- MT values stepped over at realignment (R57): shown, recorded, and told to the rings. -/
def stepOver (first last : Nat) (s : State) : State :=
  let s := (s.rset .STEP_FIRST 0 (s.mtOf first)).rset .STEP_LAST 0 (s.mtOf last)
  let s := s.ringQuarters.foldl (fun t q => stepRing first last q t) { s with tb := { s.tb with stepped := some (first, last) } }
  s.raise sevNotice 0x0204 0 (leBytes 8 (s.mtOf first) ++ leBytes 8 (s.mtOf last))

/-- The time base enters ALIGNED with the present crossing numbered (R46, R52, R57). From REALIGN, values between the flywheel
count and the new number are stepped over, and the deskew FIFOs are emptied (R91); from LOCKED the numbering is a new one. -/
def align (x : Nat) (s : State) : State :=
  let was := s.crossing
  let back := s.tb.st == .realign
  let s := if back && Nat.blt was x then stepOver was (x - 1) s else s
  let s := toTb .aligned s
  let tb := { s.tb with orbit := x / s.L % 2 ^ 48, turns := x / s.L / 2 ^ 48, slot := x % s.L, entered := false, prov := none,
                        misplaced := 0, mismatched := 0, confirmed := some x, held := none }
  let s := { s with tb }
  if back then deskewFlush s else eachPort (fun y => { y with presented := none }) s

/-- The alignment of a follower whose leader's numbering lies behind its flywheel count: MT holds (R57). DESIGN CHOICE (log
entry 144): the 2 crossings after which entries run again (R56) are measured from the crossing that MT is held at. -/
def alignHeld (x : Nat) (s : State) : State :=
  let s := toTb .aligned s
  deskewFlush { s with tb := { s.tb with prov := none, misplaced := 0, mismatched := 0
                                         confirmed := some s.crossing, held := some x } }

/-- The number of a confirming marker's crossing, which lies some crossings back (R46, R57): from REALIGN the least one at slot
ORBIT_OFFSET that is not below its flywheel count. -/
def State.markerCrossing (s : State) (back : Nat) : Nat :=
  let o := s.rget .ORBIT_OFFSET
  if s.tb.st = .realign then ceilDiv (s.crossing - back - o) s.L * s.L + o
  else s.rget .MT_PRESET % 2 ^ 48 * s.L + o

/-- With L = 1 a device that is no follower needs no marker (R45). -/
def State.needsNoMarker (s : State) : Bool := s.L == 1 && !s.follower

/-- A device that waits for a marker and needs none is aligned (R45). -/
def alignAtOnce (s : State) : State :=
  if !s.needsNoMarker then s
  else match s.tb.st with
    | .locked => align (s.markerCrossing 0) s
    | .realign => align s.crossing s
    | .noClock | .acquire | .aligned | .holdover => s

/-- PLL_LOCKED (R42, R45, R57). -/
def execPllLocked (s : State) : Host.Outcome State Fault Refusal :=
  let locked (st : TbState) : State :=
    alignAtOnce (toTb st { s with tb := { s.tb with pllLocked := true, edges := 0, prov := none } })
  match s.tb.st with
  | .acquire => .next (locked .locked)
  | .holdover => .next (if s.tb.srcPresent && !s.tb.pllLocked then locked .realign else s)
  | .noClock => .next s
  | .locked => .next s
  | .aligned => .next s
  | .realign => .next s

/-- SYNC_ROLE (R39, R45, R46, R49): a device that is no leader drives nothing; one that begins or ceases to follow aligns anew, and with
L = 1 one that ceases to follow is aligned as soon as the PLLs are locked. -/
def hSyncRole : Handler := Handler.doing (fun v s =>
  let was := s.follower
  let s := s.rset .SYNC_ROLE 0 v
  let s := if v = 1 then s else { s with tb := { s.tb with syncOut := none } }
  let s := if was = s.follower then s else { s with tb := { s.tb with prov := none } }
  .ok (alignAtOnce s))

/-- SYNC_ROLE_WRITE. -/
def execSyncRoleWrite (w : Route) (v : Nat) (s : State) : Host.Outcome State Fault Refusal := write w .SYNC_ROLE 0 v hSyncRole s

/-- A distance modulo L as MARKER_SLOT_ERR codes it, two's complement in 16 bits (TB_STATUS). -/
def State.slotCode (s : State) (d : Nat) : Nat := if d < (s.L + 1) / 2 then d else (65536 + d - s.L) % 65536

/-- MARKER_SLOT_ERR of a marker some crossings back. -/
def State.slotError (s : State) (back : Nat) : Nat :=
  s.slotCode ((s.tb.slot + s.L - s.rget .ORBIT_OFFSET % s.L + s.L - back % s.L) % s.L)

/-- MARKER_SLOT_ERR of a marker while MT does not count. DESIGN CHOICE (log entry 145): there is no slot yet, so the error is taken
against the provisional alignment, and is 0 for the marker that sets the first one. -/
def State.provisionalError (s : State) (back : Nat) : Nat :=
  match s.tb.prov with
  | some (e, _) => s.slotCode ((s.tb.edges - back - e) % s.L)
  | none => 0

/-- A marker in ALIGNED, checked against the count (R47). DESIGN CHOICE (log entry 146): each misplaced marker counts, so that two of
them in one orbit count twice. -/
def checkMarker (back : Nat) (s : State) : State :=
  let err := s.slotError back
  let s := { s with tb := { s.tb with slotErr := err } }
  if err = 0 then { s with tb := { s.tb with misplaced := 0 } }
  else
    let n := s.tb.misplaced + 1
    let s := (({ s with tb := { s.tb with misplaced := n } }).rinc .MARKER_ERRORS).raise sevWarning 0x0201 0 (leBytes 2 err)
    if Nat.ble (s.rget .ORBIT_MISS_LIMIT) n then lose .realign 5 s else s

/-- A marker that sets or confirms the provisional alignment (R46). -/
def provisionalMarker (back : Nat) (s : State) : State :=
  let at_ := s.tb.edges - back
  let first := { s with tb := { s.tb with prov := some (at_, 0) } }
  match s.tb.prov with
  | some (e, _) => if at_ = e + s.L then align (s.markerCrossing back + back) s else first
  | none => first

/-- The source that ALIGN_SRC selects (R44). -/
def State.alignSource (s : State) : OrbitSource := if s.rget .ALIGN_SRC = 0 then .pin else .timingPort

/-- The selected source has a marker to give: the pin by the command itself, the timing port where the orbit flag of its frames has
gone high (R45, R93). -/
def State.markerDue (s : State) (src : OrbitSource) : Bool :=
  src == s.alignSource && (src == .pin || (s.port (s.rget .TIMING_PORT)).orbRise.isSome)

/-- How many crossings back the marker lies: a pin's in the present crossing, the timing port's at the start of its frame (R93). -/
def State.markerBack (s : State) (src : OrbitSource) : Nat :=
  match src, (s.port (s.rget .TIMING_PORT)).orbRise with
  | .timingPort, some e => s.tb.edges - e
  | _, _ => 0

/-- A marker taken: the timing port's flag has been read. -/
def takeMarker (src : OrbitSource) (s : State) : State :=
  if src = .pin then s
  else
    let p := s.rget .TIMING_PORT
    s.setPort p { s.port p with orbRise := none }

/-- ORBIT_MARKER (R45 to R47, R93). -/
def execOrbitMarker (src : OrbitSource) (s : State) : Host.Outcome State Fault Refusal :=
  let put (n : Nat) (s : State) : State := { s with tb := { s.tb with slotErr := n } }
  let back := s.markerBack src
  if s.follower || s.L = 1 || !s.markerDue src then .next s
  else match s.tb.st with
    | .locked => .next (provisionalMarker back (put (s.provisionalError back) (takeMarker src s)))
    | .realign => .next (provisionalMarker back (put (s.slotError back) (takeMarker src s)))
    | .aligned => .next (checkMarker back (takeMarker src s))
    | .noClock => .next s
    | .acquire => .next s
    | .holdover => .next s

/-- MARKER_MISSING (R47). -/
def execMarkerMissing (s : State) : Host.Outcome State Fault Refusal :=
  .next (if s.tb.st = .aligned && !s.follower && s.L != 1 then s.rinc .MARKER_MISSING else s)

/-! SYNC (R49 to R53). -/

/-- The fields of a SYNC word (R50). -/
def syncGroup (w : BitVec 80) : Nat := bitsOf w.toNat 13 8
def syncOrbit (w : BitVec 80) : Nat := bitsOf w.toNat 63 16

/-- The CRC of a SYNC word, over bits 8 to 63 in sending order (R50). -/
def syncCrc (w : BitVec 80) : Nat := ((List.range 56).map (fun i => bitOf w.toNat (8 + i))).foldl (crcBit 16 0x1021) 0xFFFF

/-- A word is well formed (R52). -/
def syncWellFormed (w : BitVec 80) : Bool :=
  bitsOf w.toNat 7 0 == 0x7E && bitsOf w.toNat 15 14 == 0 && bitsOf w.toNat 79 64 == syncCrc w

/-- The SYNC word of a lock group for an orbit (R50). -/
def syncWordOf (group orbit : Nat) : BitVec 80 :=
  let w := BitVec.ofNat 80 (0x7E + group % 64 * 2 ^ 8 + orbit % 2 ^ 48 * 2 ^ 16)
  w ||| (BitVec.ofNat 80 (syncCrc w) <<< 64)

/-- A valid word in LOCKED or REALIGN sets or confirms the provisional alignment (R52, R57). -/
def provisionalWord (n : Nat) (s : State) : State :=
  let every := s.rget .SYNC_EVERY
  let again := { s with tb := { s.tb with prov := some (s.tb.edges, n) } }
  match s.tb.prov with
  | some (e, n0) =>
    if s.tb.edges = e + every * s.L && n = (n0 + every) % 2 ^ 48 then
      let s := { s with tb := { s.tb with syncOk := true } }
      let x := (s.tb.turns * 2 ^ 48 + n) * s.L
      if s.tb.st = .realign && Nat.blt x s.crossing then alignHeld x s else align x s
    else again
  | none => again

/-- A word in ALIGNED, checked against the count (R53). -/
def checkWord (w : BitVec 80) (s : State) : State :=
  let x := s.tb.held.getD s.crossing
  let n := syncOrbit w
  let put (ok : Bool) (s : State) : State := { s with tb := { s.tb with syncOk := ok } }
  if !syncWellFormed w then put false (s.rinc .SYNC_CRC_ERRORS)
  else if syncGroup w = s.rget .SYNC_LOCK_GROUP && x % (2 ^ 48 * s.L) = n * s.L && n % s.rget .SYNC_EVERY = 0 then
    put true { s with tb := { s.tb with mismatched := 0 } }
  else
    let m := s.tb.mismatched + 1
    let s := ((put false { s with tb := { s.tb with mismatched := m } }).rinc .SYNC_MISMATCH).raise sevWarning 0x0202 0 []
    if Nat.ble (s.rget .SYNC_MISS_LIMIT) m then lose .realign 6 s else s

/-- SYNC_WORD: a whole word, in the crossing after its bit 79 (R52, R53). -/
def execSyncWord (word : BitVec 80) (s : State) : Host.Outcome State Fault Refusal :=
  if !s.follower then .next s
  else
    let valid := syncWellFormed word && syncGroup word == s.rget .SYNC_LOCK_GROUP
    match s.tb.st with
    | .locked => .next (if valid then provisionalWord (syncOrbit word) s else s)
    | .realign => .next (if valid then provisionalWord (syncOrbit word) s else s)
    | .aligned => .next (checkWord word s)
    | .noClock => .next s
    | .acquire => .next s
    | .holdover => .next s

/-- SYNC_MISSING (R53). -/
def execSyncMissing (s : State) : Host.Outcome State Fault Refusal :=
  .next (if s.follower && s.tb.st = .aligned then
    { s.rinc .SYNC_MISSING with tb := { s.tb with syncOk := false } } else s)

/-- SYNC_WORD_SEND: bit 0 of the word for an orbit N is driven 80 crossings before its slot 0 (R51). -/
def execSyncWordSend (s : State) : Host.Outcome State Fault Refusal :=
  let n := (s.crossing + 80) / s.L
  .next (if s.rget .SYNC_ROLE = 1 && s.tb.st = .aligned && (s.crossing + 80) % s.L = 0 && n % 2 ^ 48 % s.rget .SYNC_EVERY = 0 then
    { s with tb := { s.tb with syncOut := some (syncWordOf (s.rget .SYNC_LOCK_GROUP) n), syncLeft := 80 } } else s)

/-- A crossing of the word on SYNC_P/N is over: after bit 79 the line reads 0 until the next word (R50). -/
def tickSync (s : State) : State :=
  if s.tb.syncLeft ≤ 1 then { s with tb := { s.tb with syncOut := none, syncLeft := 0 } }
  else { s with tb := { s.tb with syncLeft := s.tb.syncLeft - 1 } }

/-- The bit that SYNC_P/N shows (R50). -/
def State.syncLine (s : State) : Bool :=
  match s.tb.syncOut with
  | some w => w.getLsbD (80 - s.tb.syncLeft)
  | none => false

end Sys2Proof.Machine
end

