-- ==== Sys2Proof/Machine/Settings.lean ====
section
/-! DEFINITION. The elements that an image's SETTINGS may address, each with the judgement of its own rule (R275 step 12): areas
0x02, 0x04 to 0x06, 0x08, 0x10 to 0x13, 0x18 to 0x20, 0x28, and IP_HOST. -/

namespace Sys2Proof.Machine

/-- A phase, from 0 to M − 1 (R38, R211, R259). -/
def hPhase (e : El) (u : Nat) : Handler := { range := fun v s => Nat.blt v s.M, act := fun v s => .ok (s.rset e u v) }

/-- SS_MULT (R211): 24, 32, 40 or 48, at most 1.6 Gb/s at MCLK_NOMINAL. -/
def hSsMult (q : Nat) : Handler :=
  { range := fun v s => (v == 24 || v == 32 || v == 40 || v == 48) && Nat.ble (v * s.rget .MCLK_NOMINAL) 1600000000
    act := fun v s => .ok (s.rset .SS_MULT q v) }

/-- An Ethernet entry of a trunk, refused while the trunk is enabled (R259). -/
def hEthernet (e : El) (k : Nat) : Handler := Handler.doing (fun v s =>
  if s.rflag .TK_ENABLE k then .error 6 else .ok (s.rset e k v))

/-- IP_HOST (R282, R288): a District, or 0xFF. -/
def hIpHost (d : Nat) : Handler :=
  { range := fun v _ => Nat.ble v 127 || v == 0xFF, act := fun v s => .ok (s.rset .IP_HOST d v) }

/-- IP_HOST_WRITE. -/
def execIpHostWrite (w : Route) (district v : Nat) (s : State) : Host.Outcome State Fault Refusal :=
  write w .IP_HOST district v (hIpHost district) s

/-- The judgement and effect of a write of an element that SETTINGS may address; an element without a rule of its own
stores. -/
def settingHandler (w : Route) (e : El) (u : Nat) : Handler :=
  match e with
  | .CLK_SRC => hClkSrc
  | .TIMING_PORT => hTimingPort
  | .MCLK_NOMINAL => hMclkNominal
  | .ORBIT_LEN => hOrbitLen
  | .FABRIC_RATIO => hFabricRatio
  | .ALIGN_SRC => hAlignSrc
  | .ORBIT_OFFSET => hOrbitOffset
  | .FINE_DELAY => hFineDelay
  | .SYNC_ROLE => hSyncRole
  | .SYNC_EVERY => hSyncEvery
  | .SYNC_SAMPLE_PHASE => hSyncSamplePhase
  | .TT_WORD0 => hTtWord 0
  | .TT_WORD1 => hTtWord 1
  | .TT_WORD2 => hTtWord 2
  | .TT_WORD3 => hTtWord 3
  | .BASE_NEXT => hBaseNext w u
  | .LOCK_GROUP => hLockGroup u
  | .CAPTURE_CTRL => hCapture u
  | .OWNER => hOwner u
  | .READ_SHARE => hReadShare u
  | .POWER => hPower u
  | .RING_ENABLE => hRingEnable u
  | .RING_FIRST => hRingGeometry .first u
  | .RING_BANKS => hRingGeometry .banks u
  | .VAULT_ENABLE => hVaultEnable
  | .Q_CTRL => hQCtrl
  | .Q_BASE => hQField .Q_BASE
  | .Q_SIZE => hQField .Q_SIZE
  | .Q_PRODUCER => hQField .Q_PRODUCER
  | .Q_CONSUMER => hQField .Q_CONSUMER
  | .ENABLE => hPortSetting .enable u
  | .CODING => hPortSetting .coding u
  | .RX_MULT => hPortSetting .rxMult u
  | .FRAME_WORDS => hPortSetting .frameWords u
  | .SCRAMBLE => hPortSetting .scramble u
  | .RX_POLARITY => hPortSetting .rxPolarity u
  | .EXPECT_SRC => hPortSetting .expectSrc u
  | .ADAPT => hPortSetting .adapt u
  | .CTLE => hPortSetting .ctle u
  | .ALIGN_GUARD => hPortSetting .alignGuard u
  | .ALIGN_MIN => hPortSetting .alignMin u
  | .DL_ENABLE => hPortSetting .dlEnable u
  | .TX_MULT => hPortSetting .txMult u
  | .DL_SKEW => hPortSetting .dlSkew u
  | .DL_POLARITY => hPortSetting .dlPolarity u
  | .DL_SWING => hPortSetting .dlSwing u
  | .DL_EMPH => hPortSetting .dlEmph u
  | .DL_FABRIC => hPortSetting .dlFabric u
  | .ALIGN_LAT => hAlignSetting .alignLat u
  | .TAG_MODE => hAlignSetting .tagMode u
  | .TAG_OFFSET => hAlignSetting .tagOffset u
  | .GANG => hAlignSetting .gang u
  | .MASK => hMask u
  | .RX_PRBS => hRxPrbs u
  | .DL_PRBS => hDlPrbs u
  | .DL_CMD => hDlCmd u
  | .TK_ENABLE => hTkEnable u
  | .TK_RATE => hTkRate u
  | .TK_MODE => hTkMode u
  | .TK_PRBS => hTkPrbs u
  | .C0_PHASE => hPhase .C0_PHASE u
  | .MGMT_EN => hKeep .MGMT_EN u
  | .ETH_DST => hEthernet .ETH_DST u
  | .ETH_SRC => hEthernet .ETH_SRC u
  | .ETH_TYPE => hEthernet .ETH_TYPE u
  | .IP_SRC => hEthernet .IP_SRC u
  | .IP_DST => hEthernet .IP_DST u
  | .UDP_SPORT => hEthernet .UDP_SPORT u
  | .UDP_DPORT => hEthernet .UDP_DPORT u
  | .IP_TTL_DSCP => hEthernet .IP_TTL_DSCP u
  | .ETH_MTU => hEthernet .ETH_MTU u
  | .SS_MODE => hSsMode u
  | .SS_MULT => hSsMult u
  | .SS_SKEW => hPhase .SS_SKEW u
  | .SS_SAMPLE_PHASE => hPhase .SS_SAMPLE_PHASE u
  | .SS_FIO_CFG => hSsFioCfg u
  | .POLICY => hPolicy u
  | .BUSY_FORCE => hBusyForce
  | .TAP_OUT => hTapOut u
  | .EB_GROUP => hEbGroup u
  | .G_ATYPES => hEbDeferred .G_ATYPES u
  | .G_PRE => hGWindow .pre u
  | .G_POST => hGWindow .post u
  | .ACC_MIN_GAP => hEbDeferred .ACC_MIN_GAP 0
  | .ACC_BURST => hEbDeferred .ACC_BURST 0
  | .ACC_REFILL => hEbDeferred .ACC_REFILL 0
  | .EVENT_PRESET => hEventPreset
  | .IP_HOST => hIpHost u
  | _ => Handler.store e u

/-! SETTINGS (R271, R275). -/

/-- Area 0x02 is open to SETTINGS only in a global load (R275). -/
def settingAllowed (global : Bool) (e : El) : Bool := global || e.info.area != 2

/-- A SETTINGS record of 16 bytes judged as a write by the loader, with its effect (R271, R275 step 12): none where it fails. -/
def applySetting (global : Bool) (rec_ : Bytes) (s : State) : Option State :=
  let len := leVal ((rec_.drop 4).take 1)
  let value := leVal (rec_.drop 8)
  match elOf (leVal (rec_.take 3)) with
  | none => none
  | some (e, u) =>
    if settingAllowed global e && settable e && !e.info.blob && len == e.info.size && rec_.getD 3 0 == 0
        && ((rec_.drop 5).take 3).all (· == 0) then
      match judge .loader e u (fit e value) (settingHandler .loader e u) s with
      | .ok t => some t
      | .error _ => none
    else none

/-- The records in order, each against what the earlier ones leave; the index of the first that fails. -/
def applySettings (global : Bool) : Nat → List Bytes → State → Except Nat State
  | _, [], s => .ok s
  | i, r :: rs, s =>
    match applySetting global r s with
    | none => .error i
    | some t => applySettings global (i + 1) rs t

end Sys2Proof.Machine
end

