-- ==== Sys2Proof/Machine/Ledger.lean ====
section
/-! DEFINITION. The latency ledger of an image (R189, R190), its checks (R40, R137, R191, R192), and what its acceptance puts in
force. -/

namespace Sys2Proof.Machine

/-- The magic number of a ledger (R189). -/
def ledgerMagic : Nat := 0x5244474C

/-- The length of the header and of each kind of record (R189, R190). -/
def ledgerHeader : Nat := 32
def pathLen : Nat := 16
def tapLen : Nat := 16
def portLen : Nat := 8
def anchorLen : Nat := 8
def schedLen : Nat := 24

/-- The counts of a ledger's header. -/
def nPaths (b : Bytes) : Nat := fieldAt b 6 2
def nTaps (b : Bytes) : Nat := fieldAt b 8 2
def nPorts (b : Bytes) : Nat := fieldAt b 10 2
def nAnchors (b : Bytes) : Nat := fieldAt b 12 2
def nSched (b : Bytes) : Nat := fieldAt b 14 2

/-- M, GRADE and L that the ledger was compiled for. -/
def ledgerM (b : Bytes) : Nat := fieldAt b 16 1
def ledgerGrade (b : Bytes) : Nat := fieldAt b 17 1
def ledgerL (b : Bytes) : Nat := fieldAt b 18 2 + 1

/-- n records of a length from an offset. -/
def recordsAt (b : Bytes) (offset len n : Nat) : List Bytes := chunks len n ((b.drop offset).take (len * n))

/-- The records of a ledger, in their order. -/
def pathRecords (b : Bytes) : List Bytes := recordsAt b ledgerHeader pathLen (nPaths b)
def tapsAt (b : Bytes) : Nat := ledgerHeader + pathLen * nPaths b
def tapRecords (b : Bytes) : List Bytes := recordsAt b (tapsAt b) tapLen (nTaps b)
def portsAt (b : Bytes) : Nat := tapsAt b + tapLen * nTaps b
def portRecords (b : Bytes) : List Bytes := recordsAt b (portsAt b) portLen (nPorts b)
def anchorsAt (b : Bytes) : Nat := portsAt b + portLen * nPorts b
def anchorRecords (b : Bytes) : List Bytes := recordsAt b (anchorsAt b) anchorLen (nAnchors b)
def schedAt (b : Bytes) : Nat := anchorsAt b + anchorLen * nAnchors b
def schedRecords (b : Bytes) : List Bytes := recordsAt b (schedAt b) schedLen (nSched b)

/-- The length that the counts give. -/
def ledgerLength (b : Bytes) : Nat := schedAt b + schedLen * nSched b

/-- A record as a number. -/
def record64 (r : Bytes) : BitVec 64 := BitVec.ofNat 64 (leVal r)

/-- Bytes that must be 0. -/
def zeroBytes (b : Bytes) (offset n : Nat) : Bool := ((b.drop offset).take n).all (· == 0)

/-- The index of the first record that a test catches. -/
def firstBad (bad : Bytes → Bool) (rs : List Bytes) : Option Nat := (rs.zipIdx.find? (fun p => bad p.1)).map (·.2)

/-- The path a path record gives, its traces not read yet. -/
def pathOf (b r : Bytes) : LedgerPath :=
  { ldec := fieldAt r 2 2, entry := fieldAt r 4 2,
    ports := (((portRecords b).drop (fieldAt r 6 2)).take (fieldAt r 8 2)).map record64,
    anchors := (((anchorRecords b).drop (fieldAt r 10 2)).take (fieldAt r 12 2)).map record64,
    planes := [], underpasses := [] }

/-- The device tap index of a tap record: 2d + n (R185, R190). -/
def tapIndexOf (r : Bytes) : Nat := 2 * (fieldAt r 1 1 % 128) + fieldAt r 1 1 / 128

/-- The tap a tap record gives. -/
def tapOf (r : Bytes) : LedgerTap :=
  { path := fieldAt r 0 1, contexts := fieldAt r 2 1, phase := fieldAt r 3 1, hold := fieldAt r 4 1,
    outputs := fieldAt r 5 1, dlMask := fieldAt r 6 2, regs := fieldAt r 8 4, trunks := fieldAt r 12 4 }

/-- The plane, C0_BANKS and C0_WRITE of a schedule record. -/
def schedOf (r : Bytes) : Nat × BitVec 64 × BitVec 64 :=
  (8 * fieldAt r 0 1 + fieldAt r 1 1, record64 ((r.drop 8).take 8), record64 ((r.drop 16).take 8))

/-- A path's and a tap's record as the trace is given them. -/
def pathWord (id : Nat) (p : LedgerPath) : Nat := id + p.ldec * 2 ^ 8 + p.entry * 2 ^ 24
def tapWord (t : LedgerTap) : Nat := t.path + t.contexts * 2 ^ 8 + t.phase * 2 ^ 16 + t.hold * 2 ^ 24 + t.regs * 2 ^ 32

/-- Why a ledger fails: LOAD_DETAIL (R276), the check of R191, and the record index. -/
structure LedgerFault where
  detail : Nat
  check : Nat
  item : Nat
deriving DecidableEq, Repr

/-- A fault of a check of R191. -/
def checkFault (check item : Nat) : LedgerFault := { detail := 100 + check, check, item }

/-! Checks on the section alone. -/

/-- Check 1 of R191: the offending record, if any. A count above its stated range, and an anchor's FF above 15, are taken as fields out
of form and fail this check: DESIGN CHOICE (log entry 203). -/
def ledgerCheck1 (b : Bytes) : Option Nat :=
  if b.length < ledgerHeader || fieldAt b 0 4 != ledgerMagic || fieldAt b 4 2 != 1 || !zeroBytes b 20 12
      || Nat.blt 64 (nPaths b) || Nat.blt 256 (nTaps b) || b.length != ledgerLength b
      || !(ledgerGrade b == 1 || ledgerGrade b == 2) then some 0
  else
    (firstBad (fun r => !zeroBytes r 1 1 || !zeroBytes r 14 2 || Nat.blt (nPorts b) (fieldAt r 6 2 + fieldAt r 8 2)
      || Nat.blt (nAnchors b) (fieldAt r 10 2 + fieldAt r 12 2)) (pathRecords b)).orElse (fun _ =>
    (firstBad (fun r => Nat.ble 16 (fieldAt r 5 1)) (tapRecords b)).orElse (fun _ =>
    (firstBad (fun r => !zeroBytes r 6 2) (portRecords b)).orElse (fun _ =>
    (firstBad (fun r => !zeroBytes r 5 3 || Nat.ble 16 (fieldAt r 4 1)) (anchorRecords b)).orElse (fun _ =>
    firstBad (fun r => !zeroBytes r 2 6) (schedRecords b)))))

/-- A record repeats the key of one before it. -/
def firstRepeat (key : Bytes → Nat) : Nat → List Nat → List Bytes → Option Nat
  | _, _, [] => none
  | i, seen, r :: rs => if seen.contains (key r) then some i else firstRepeat key (i + 1) (key r :: seen) rs

/-- Check 3 of R191 over the records carried, together with those that stay in force (R192): old names their paths, taps all the taps
that the load would leave. -/
def ledgerCheck3 (b : Bytes) (old : List Nat) (taps : SMap LedgerTap) : Option Nat :=
  let ids := (pathRecords b).map (fun r => fieldAt r 0 1)
  let served := taps.map (fun t => t.2.path)
  (firstBad (fun r => Nat.blt 63 (fieldAt r 0 1)) (pathRecords b)).orElse (fun _ =>
  (firstRepeat (fun r => fieldAt r 0 1) 0 [] (pathRecords b)).orElse (fun _ =>
  (firstBad (fun r => !served.contains (fieldAt r 0 1)) (pathRecords b)).orElse (fun _ =>
  (firstBad (fun r => !ids.contains (fieldAt r 0 1) && !old.contains (fieldAt r 0 1)) (tapRecords b)).orElse (fun _ =>
  firstRepeat tapIndexOf 0 [] (tapRecords b)))))

/-! The records that a load would put in force (R192). -/

/-- The records in force after a load: paths by identifier, taps by index. -/
structure Ledger where
  paths : SMap LedgerPath
  taps : SMap LedgerTap
deriving DecidableEq, Repr

/-- The taps that stay from before, without the contexts whose planes the load writes. -/
def keptTaps (written : List Nat) (taps : SMap LedgerTap) : SMap LedgerTap :=
  (taps.map (fun p =>
    let left := (List.range 8).foldl (fun m k =>
      if bitOf p.2.contexts k && !written.contains (8 * (p.1 / 2) + k) then m + 2 ^ k else m) 0
    (p.1, { p.2 with contexts := left }))).filter (fun p => p.2.contexts != 0)

/-- The records of a global load are the image's; those of a partial one join the records of the other loaded planes. -/
def mergeLedger (global : Bool) (written : List Nat) (b : Bytes) (d : DecisionPath) : Ledger :=
  let paths := (pathRecords b).foldl (fun m r => mput m (fieldAt r 0 1) (pathOf b r)) (if global then [] else d.paths)
  let taps := (tapRecords b).foldl (fun m r => mput m (tapIndexOf r) (tapOf r))
    (if global then [] else keptTaps written d.taps)
  { paths := paths.filter (fun p => taps.any (fun t => t.2.path == p.1)), taps }

/-- The loaded planes of a state, ascending. -/
def State.loadedPlanes (s : State) : List Nat := (s.planes.filter (fun p => p.2.state == 2 || p.2.state == 3)).map (·.1)

/-- The paths with what the traces read from the frames: the planes that carry them and the Underpasses they cross. -/
def traced (l : Ledger) (t : State) : Ledger :=
  { l with paths := l.paths.map (fun p =>
      let w := pathWord p.1 p.2
      (p.1, { p.2 with
        planes := Config.routePlanes t.frames t.loadedPlanes w p.2.ports p.2.anchors
        underpasses := Config.routeUnderpasses t.frames t.loadedPlanes w p.2.ports p.2.anchors })) }

/-- The taps over which checks 3 to 9 run (R192). -/
def tapsJudged (written : List Nat) (l : Ledger) : List (Nat × LedgerTap) :=
  l.taps.filter (fun p => written.any (fun k => k / 8 == p.1 / 2)
    || (match mfind l.paths p.2.path with
        | some x => x.planes.any (fun k => written.contains k)
        | none => false))

/-! Checks against the state that the load would leave: t holds the written planes LOADED and the SETTINGS. -/

/-- A port record agrees with the port's settings (R88, check 4). -/
def portAgrees (t : State) (r : BitVec 64) : Bool :=
  let v := r.toNat
  let p := bitsOf v 15 0
  Nat.blt p 1024 && t.rget .ALIGN_LAT p == bitsOf v 23 16 && t.rget .TAG_MODE p == bitsOf v 31 24
    && t.rget .TAG_OFFSET p == bitsOf v 47 32

/-- Check 4: the index of the first port record that differs; 0 for one that is kept from an earlier load and has no place in the
section: DESIGN CHOICE (log entry 204). -/
def ledgerCheck4 (t : State) (b : Bytes) (l : Ledger) (judged : List (Nat × LedgerTap)) : Option Nat :=
  (firstBad (fun r => !portAgrees t (record64 r)) (portRecords b)).orElse (fun _ =>
    if judged.any (fun q => match mfind l.paths q.2.path with
        | some p => p.ports.any (fun r => !portAgrees t r)
        | none => false) then some 0 else none)

/-- The place of a tap's record in the section, or its index where the record is one kept. -/
def tapItem (b : Bytes) (i : Nat) : Nat :=
  match firstBad (fun r => tapIndexOf r == i) (tapRecords b) with
  | some k => k
  | none => i

/-- The first tap that a test catches, as a record index. -/
def firstTap (b : Bytes) (bad : Nat → LedgerTap → Bool) (judged : List (Nat × LedgerTap)) : Option Nat :=
  (judged.find? (fun p => bad p.1 p.2)).map (fun p => tapItem b p.1)

/-- Check 5 on one tap (R188). -/
def tapTimingBad (m : Nat) (l : Ledger) (t : LedgerTap) : Bool :=
  match mfind l.paths t.path with
  | none => true
  | some p =>
    Nat.blt m (t.phase + 2) || Nat.ble p.ldec (t.hold + p.entry) || t.regs != (p.ldec - p.entry - t.hold) * m + t.phase

/-- Check 6 on one tap (R185, R190): what the frames of its District's loaded planes drive, and the trace of its routes. -/
def tapRoutesBad (t : State) (l : Ledger) (i : Nat) (x : LedgerTap) : Bool :=
  let d := i / 2
  (List.range 8).any (fun k => t.loaded (8 * d + k) && Config.drivesTap t.frames (8 * d + k) (i % 2) != bitOf x.contexts k)
    || (match mfind l.paths x.path with
        | none => true
        | some p => !Config.routesOk t.frames t.loadedPlanes i (tapWord x) (pathWord x.path p) p.ports p.anchors)

/-- Check 7 on one path. -/
def pathEntryBad (t : State) (id : Nat) (p : LedgerPath) : Bool :=
  match Config.entryOffset t.frames t.loadedPlanes (pathWord id p) p.ports p.anchors with
  | some e => e != p.entry
  | none => false

/-- The place of a path's record in the section; 0 for one kept from an earlier load (log entry 204). -/
def pathItem (b : Bytes) (id : Nat) : Nat := (firstBad (fun r => fieldAt r 0 1 == id) (pathRecords b)).getD 0

/-- The place of a plane's schedule record in the section; 0 for one kept from an earlier load (log entry 204). -/
def schedItem (b : Bytes) (plane : Nat) : Nat := (firstBad (fun r => (schedOf r).1 == plane) (schedRecords b)).getD 0

/-- The ring banks, and the ring and Vault banks, of a Quarter. -/
def ringMask (t : State) (q : Nat) : BitVec 64 :=
  (List.range 64).foldl (fun m b => if t.isRingBank (64 * q + b) then m ||| (1#64 <<< b) else m) 0
def protectedMask (t : State) (q : Nat) : BitVec 64 :=
  (List.range 64).foldl (fun m b => if t.isRingBank (64 * q + b) || t.isVaultBank (64 * q + b) then m ||| (1#64 <<< b) else m) 0

/-- Check 8 on one loaded plane: no C0 write on a ring or Vault bank, and no C0 request of its frames that the schedule does not
name (R33, R163). -/
def scheduleBad (t : State) (plane : Nat) : Bool :=
  let q := plane / 16
  let x := t.plane plane
  let store := Config.c0Store t.frames plane
  (x.c0Banks &&& x.c0Write &&& protectedMask t q) != 0
    || ((Config.c0Reads t.frames plane ||| Config.c0Writes t.frames plane) &&& ~~~x.c0Banks) != 0
    || (Config.c0Writes t.frames plane &&& ~~~x.c0Write) != 0
    || (store && ((ringMask t q &&& ~~~x.c0Banks) != 0 || (ringMask t q &&& x.c0Write) != 0))

/-- Two planes of a Quarter's Districts can run together, and both schedule a bank (R12). -/
def scheduleClash (t : State) (a b : Nat) : Bool :=
  let g := t.rget .LOCK_GROUP (a / 8)
  let together := !(g != 0xFF && g == t.rget .LOCK_GROUP (b / 8)) || a % 8 == b % 8
  together && ((t.plane a).c0Banks &&& (t.plane b).c0Banks) != 0

/-- Two loaded planes of a Quarter that put two C0 requesters on one bank (R12): the one of the second District. -/
def quarterClash (t : State) (q : Nat) : Option Nat :=
  let of (d : Nat) : List Nat := ((List.range 8).map (fun k => 8 * d + k)).filter t.loaded
  (of (2 * q + 1)).find? (fun b => (of (2 * q)).any (fun a => scheduleClash t a b))

/-- Check 8 over one Quarter: the plane whose schedule fails. -/
def quarterSchedule (t : State) (q : Nat) : Option Nat :=
  let of (d : Nat) : List Nat := ((List.range 8).map (fun k => 8 * d + k)).filter t.loaded
  let all := of (2 * q) ++ of (2 * q + 1)
  (all.find? (scheduleBad t)).orElse (fun _ => quarterClash t q)

/-- Check 8: the index of the record that fails; a record of a District or a context that does not exist fails (R33). The Quarters
whose planes the load writes are judged whole, and of the others, whose lock groups its SETTINGS may change, that no two Districts hold one
bank (R12). -/
def ledgerCheck8 (t : State) (b : Bytes) (written : List Nat) : Option Nat :=
  (firstBad (fun r => Nat.blt 127 (fieldAt r 0 1) || Nat.blt 7 (fieldAt r 1 1)) (schedRecords b)).orElse (fun _ =>
    (((written.map (· / 16)).eraseDups.findSome? (fun q => quarterSchedule t q)).orElse (fun _ =>
      (t.loadedPlanes.map (· / 16)).eraseDups.findSome? (fun q => quarterClash t q))).map (schedItem b))

/-- Two taps of a Quarter share a downlink or its side-street pair (check 9). -/
def outputsClash (a b : Nat × LedgerTap) : Bool :=
  let both (k : Nat) : Bool := bitOf a.2.outputs k && bitOf b.2.outputs k
  a.1 != b.1 && a.1 / 4 == b.1 / 4 && ((both 0 && Nat.land a.2.dlMask b.2.dlMask != 0) || both 1)

/-- Check 9 on one tap (R29, R198, R199). -/
def tapOutputsBad (t : State) (l : Ledger) (i : Nat) (x : LedgerTap) : Bool :=
  l.taps.any (fun o => outputsClash (i, x) o)
    || (List.range 32).any (fun k => bitOf x.trunks k && trunkHome k != i / 4)
    || (bitOf x.outputs 1 && t.rget .SS_MODE (i / 4) != 1 && t.rget .SS_MODE (i / 4) != 2)

/-- Checks 3 to 9 of R191 under R192, the first that fails. -/
def ledgerChecks (t : State) (b : Bytes) (written : List Nat) (old : List Nat) (l : Ledger) : Option LedgerFault :=
  let judged := tapsJudged written l
  let at_ (c : Nat) (o : Option Nat) : Option LedgerFault := o.map (checkFault c)
  (at_ 3 (ledgerCheck3 b old l.taps)).orElse (fun _ =>
  (at_ 4 (ledgerCheck4 t b l judged)).orElse (fun _ =>
  (at_ 5 (firstTap b (fun _ x => tapTimingBad t.M l x) judged)).orElse (fun _ =>
  (at_ 6 (firstTap b (tapRoutesBad t l) judged)).orElse (fun _ =>
  (at_ 7 ((l.paths.find? (fun p => judged.any (fun q => q.2.path == p.1) && pathEntryBad t p.1 p.2)).map (fun p => pathItem b p.1))).orElse
    (fun _ =>
  (at_ 8 (ledgerCheck8 t b written)).orElse (fun _ =>
  at_ 9 (firstTap b (tapOutputsBad t l) judged)))))))

/-- R40 and R137, which are check 2. -/
def ledgerRates (t : State) (b : Bytes) (written : List Nat) : Option LedgerFault :=
  if ledgerM b != t.M || ledgerL b != t.L then some { detail := 20, check := 2, item := 0 }
  else if (ledgerGrade b == 2 && t.rget .SPEED_GRADE == 1)
      || written.any (fun k => Nat.blt ((t.plane k).user.fClose * 1000000) (t.M * t.rget .MCLK_NOMINAL)) then
    some { detail := 21, check := 2, item := 0 }
  else none

/-- Every judgement of a ledger in the order of R275 step 12. -/
def judgeLedger (t : State) (b : Bytes) (written old : List Nat) (l : Ledger) : Option LedgerFault :=
  (ledgerRates t b written).orElse (fun _ =>
  ((ledgerCheck1 b).map (checkFault 1)).orElse (fun _ => ledgerChecks t b written old l))

/-- LEDGER_STATUS and what it says of a refusal (R191, R210). -/
def showLedger (f : Option LedgerFault) (s : State) : State :=
  match f with
  | none => ((s.rset .LEDGER_STATUS 0 1).rset .LEDGER_FAIL_CHECK 0 0).rset .LEDGER_FAIL_ITEM 0 0
  | some x => ((s.rset .LEDGER_STATUS 0 2).rset .LEDGER_FAIL_CHECK 0 x.check).rset .LEDGER_FAIL_ITEM 0 x.item

/-! In force. -/

/-- What area 0x20 shows of a tap (R210); TAP_OUT is OUTPUTS and in force at once. -/
def showTap (i : Nat) (x : LedgerTap) (fresh : Bool) (s : State) : State :=
  let s := (((s.rset .TAP_PATH i x.path).rset .TAP_PHASE i x.phase).rset .TAP_HOLD i x.hold).rset .TAP_R i x.regs
  let s := (s.rset .TAP_DL_MASK i x.dlMask).rset .TAP_TRUNKS i x.trunks
  let s := if bitOf x.outputs 1 then s.rset .SS_TAP (i / 4) i
           else if s.rget .SS_TAP (i / 4) = i then s.rset .SS_TAP (i / 4) 0xFFFF else s
  if fresh then
    { s.rset .TAP_OUT i x.outputs with
      force := mset s.force (regKey .TAP_OUT i) x.outputs El.TAP_OUT.info.dflt, deferred := mdel s.deferred (regKey .TAP_OUT i) }
  else s

/-- What area 0x20 and SS_TAP show of a tap or path that is no longer there. -/
def hideTap (i : Nat) (s : State) : State :=
  let s := [El.TAP_PATH, .TAP_PHASE, .TAP_HOLD, .TAP_R, .TAP_OUT, .TAP_DL_MASK, .TAP_TRUNKS].foldl
    (fun t e => t.rset e i e.info.dflt) s
  let s := { s with force := mdel s.force (regKey .TAP_OUT i), deferred := mdel s.deferred (regKey .TAP_OUT i) }
  if s.rget .SS_TAP (i / 4) = i then s.rset .SS_TAP (i / 4) 0xFFFF else s

/-- Records put in force (R190, R210): the registers that show them follow; fresh names the taps that the load carries, the
others keep what TAP_OUT selects. Hold lines never vary (R188): only a tap that leaves the ledger loses its own. -/
def putLedger (l : Ledger) (fresh : Nat → Bool) (s : State) : State :=
  let keep (i : Nat) : Bool := (mfind l.taps i).isSome
  let s := (s.dec.taps.filter (fun p => (mfind l.taps p.1).isNone)).foldl (fun t p => hideTap p.1 t) s
  let s := s.dec.paths.foldl (fun t p => (t.rset .PATH_LDEC p.1 0).rset .PATH_S p.1 0) s
  let s := { s with dec := { s.dec with
    paths := l.paths, taps := l.taps, lines := s.dec.lines.filter (fun p => keep p.1),
    emitted := s.dec.emitted.filter (fun p => keep p.1) } }
  let s := l.paths.foldl (fun t p => (t.rset .PATH_LDEC p.1 p.2.ldec).rset .PATH_S p.1 p.2.entry) s
  l.taps.foldl (fun t p => showTap p.1 p.2 (fresh p.1) t) s

end Sys2Proof.Machine
end

