-- ==== Sys2Proof/Machine/Stops.lean ====
section
/-! DEFINITION. What stops the fabric as a whole: SAFE (R368), the start of a global load (R275, R279), and the end of a load that
is not accepted (R276 to R278). -/

namespace Sys2Proof.Machine

/-- The configuration controller changed. -/
def State.setLoad (s : State) (l : Loader) : State := { s with load := l }

/-- Every District changed. -/
def eachDistrict (f : District → District) (s : State) : State := s.distList.foldl (fun t d => t.setDist d (f (t.dist d))) s

/-- A freeze, to come or in force, is over (R378). -/
def endFreeze (s : State) : State :=
  eachDistrict (fun x => { x with frozen := false }) ({ s with freeze := none }.rset .FREEZE_STATE 0 0)

/-- The commit of an image's table that waits for release stage 1: later than every orbit (R59). -/
def atStageOne : Nat := 2 ^ 64

/-- Release stages still pending are cancelled, of a global load and of rewritten Districts, and what stage 1 would have put in
force with them (R59, R280, R368). -/
def cancelStages (s : State) : State :=
  let s := s.setLoad { s.load with pending := false, spaceFrom := none, advance := none }
  let s := if s.rb.pendingAt = some atStageOne then
      { s with rb := { s.rb with pendingAt := none, fromImage := false } }.rset .TT_COMMIT_STATUS 0 0
    else s
  eachDistrict (fun x => { x with stage := none, baseByImage := none }) s

/-- The device enters SAFE (R368): every District clock stops behind its Bollards (R179), and pending stages are cancelled. -/
def enterSafe (cause : Nat) (s : State) : State :=
  let s := cancelStages (endFreeze { s with fabricOn := false })
  let s := s.distList.foldl (fun t d => holdDistrict d t) s
  settleLinks ((s.rset .SAFE_CAUSE 0 cause).become .safe)

/-- No ledger is in force (R459). -/
def dropLedger (s : State) : State := (putLedger { paths := [], taps := [] } (fun _ => true) s).rset .LEDGER_STATUS 0 0

/-- Every plane EMPTY, with the ledger and the identity of the image that they carried, and every District unclocked, its outputs held and its inputs masked
(R275 step 8, R279, R288, R368); repairs queued wait for the end of a load that writes their plane. -/
def clearConfiguration (s : State) : State :=
  let ps := (s.planes.map (·.1) ++ s.repairsQueued.map (fun (e : RepairEntry) => e.plane) ++ s.scr.handed.map (·.1)).eraseDups
  let s := ps.foldl (fun t k => voidPlane k (supersede k t)) s
  let s := eachDistrict (fun x => { District.held with ctx := x.ctx, dramSeen := x.dramSeen, memAlert := x.memAlert }) s
  let s := s.setLoad { s.load with stage := 0, ipPlanes := [], imageId := Loader.reset.imageId }
  let s := ((s.rset .IMAGE_AR 0 0).rset .IP_RAW_ALLOWED 0 0).rset .LOAD_FALLBACK 0 0
  settleLinks (dropLedger (endFreeze s))

/-- The tickets that still wait for the end of a load have failed (R495). -/
def failWaiting (s : State) : State := (s.scr.superseded.map (·.1)).foldl (fun t k => settleSuperseded k 3 t) s

/-! LOAD_STATE (R253, R288). -/

/-- A loader status packet waits on a trunk's management lane (R253). -/
def sendStatusOn (k : Nat) (s : State) : State :=
  if s.mgmtLane k then
    let x := s.trunk k
    s.setTrunk k { x with mgmtOut := x.mgmtOut ++
      [Config.loaderStatus (s.rget .LOAD_STATE) (s.rget .LOAD_REASON) (s.rget .LOAD_BYTES)] }
  else s

/-- A loader status packet waits on every management lane (R253). -/
def sendLoaderStatus (s : State) : State := (List.range trunkCount).foldl (fun t k => sendStatusOn k t) s

/-- LOAD_STATE of a load (R288): a golden load shows 7 until it is accepted or fails. -/
def loadPhase (v : Nat) (s : State) : State :=
  let v := if s.load.golden && Nat.blt v 5 then 7 else v
  if s.rget .LOAD_STATE = v then s else sendLoaderStatus (latchIrq 11 (s.rset .LOAD_STATE 0 v))

/-- A listener on a shared configuration bus (R266). -/
def State.listener (s : State) : Bool := s.devId != 0

/-- The read of a flash that the controller begins (R264): of flash 0, or of both in one transaction; a listener never drives the
bus (R266), and no other source is a flash. -/
def State.flashRead (s : State) (golden : Bool) (source : Nat) : Option FlashRead :=
  if s.listener || Nat.ble 2 source then none
  else some { command := 0xEE, extension := 0x11, addr := if golden then s.rget .GOLDEN_ADDR else s.rget .LOAD_ADDR, dummy := 20,
              chips := if source = 0 then 1 else 3 }

/-- A load that starts (R261, R277): nothing taken yet. -/
def startLoad (golden : Bool) (source : Nat) (startedIn : DevState) (s : State) : State :=
  let l := s.load
  let flash := s.flashRead golden source
  let l : Loader := { l with
    active := true, golden, goldenWait := false, source, startedIn, stream := [], synced := false, hunted := 0,
    headed := false, tabled := false, global := false, table := [], done := 0, raws := [], frames := [], planes := [], flash }
  let s := ((s.setLoad l).rset .LOAD_BYTES 0 0).rset .LOAD_SECTION 0 0
  let s := if golden then s else (s.rset .LOAD_REASON 0 0).rset .LOAD_DETAIL 0 0
  loadPhase 1 s

/-- The load is over: the controller holds nothing of it. -/
def finishLoad (s : State) : State :=
  s.setLoad { s.load with
    active := false, golden := false, goldenWait := false, stream := [], synced := false, hunted := 0, headed := false, tabled := false,
    table := [], done := 0, raws := [], frames := [], planes := [], flash := none }

/-- A load of a global kind, or one that may still prove to be: it started in IDLE or SAFE (R261). -/
def State.loadsGlobal (s : State) : Bool := s.load.startedIn == .idle || s.load.startedIn == .safe

/-- The planes that a load wrote become EMPTY; a District stopped for one of them stays stopped (R277, R278). -/
def dropWritten (s : State) : State :=
  s.load.planes.foldl (fun t p => emptyPlane p.1 (if p.2 then keepStopped p.1 t else t)) s

/-- Why a load ends (R276). -/
structure LoadFault where
  reason : Nat
  detail : Nat
  item : Nat
deriving DecidableEq, Repr

/-- LOAD_REASON and LOAD_DETAIL of a primary load, LOAD_SECTION of any, and LOAD_STATE 6 (R276, R288). -/
def showFault (f : LoadFault) (s : State) : State :=
  let s := if s.load.golden then s else (s.rset .LOAD_REASON 0 f.reason).rset .LOAD_DETAIL 0 f.detail
  loadPhase 6 (s.rset .LOAD_SECTION 0 f.item)

/-- The ERROR record of a failed load (R276 to R278): reason, detail and source, and the failing section after them (log entry
212). -/
def recordFault (f : LoadFault) (s : State) : State :=
  s.raise sevError 0x0302 0 (leBytes 1 f.reason ++ leBytes 2 f.detail ++ leBytes 1 s.load.source ++ leBytes 2 f.item)

/-- The ERROR record of a golden load that failed, or of none (R277). -/
def recordGolden (f : LoadFault) (s : State) : State :=
  s.raise sevError 0x0303 0 (leBytes 1 f.reason ++ leBytes 2 f.detail ++ leBytes 2 f.item)

/-- The flash width that a golden load reads (R277). -/
def State.goldenSource (s : State) : Nat := if s.bootSrc = 1 then 1 else 0

/-- After a primary load failed (R268, R277): a listener waits for a golden stream; any other device loads from GOLDEN_ADDR, or
enters SAFE where there is no golden image. -/
def fallBack (s : State) : State :=
  let s := finishLoad s
  if s.listener then s.setLoad { s.load with goldenWait := true, waitLeft := none }
  else if s.rget .GOLDEN_ADDR = 0xFFFFFFFF then enterSafe 2 (recordGolden { reason := 0, detail := 0, item := 0 } s)
  else startLoad true s.goldenSource s.load.startedIn s

/-- A load fails with a reason that falls back (R276 to R278). -/
def failLoad (f : LoadFault) (s : State) : State :=
  let s := showFault f s
  if s.loadsGlobal then
    let s := dropWritten (if s.load.tabled then failWaiting s else s)
    if s.load.golden then enterSafe 2 (finishLoad (recordGolden f s)) else fallBack (recordFault f s)
  else finishLoad (recordFault f (dropWritten s))

/-- A load ends with STATE_CONFLICT (R261): nothing is written, and a load started in IDLE or SAFE returns there. -/
def conflictLoad (s : State) : State :=
  let s := (showFault { reason := 8, detail := 0, item := 0 } s).raise sevNotice 0x0301 0 []
  let back := s.load.startedIn
  finishLoad (if s.loadsGlobal then settleLinks (s.become back) else s)

/-- A load in progress ends with ABORTED (R276 to R278): a global one leaves every plane EMPTY, without a fallback; what state
the device takes is its caller's. -/
def abortLoad (s : State) : State :=
  if !s.load.active then s.setLoad { s.load with goldenWait := false, stream := [] }
  else
    let f : LoadFault := { reason := 9, detail := 0, item := s.rget .LOAD_SECTION }
    let s := showFault f s
    if s.loadsGlobal then finishLoad (failWaiting (clearConfiguration s))
    else finishLoad (recordFault f (dropWritten s))

end Sys2Proof.Machine
end

