-- ==== Sys2Proof/Machine/Loader.lean ====
section
/-! DEFINITION. Configuration loading (R260 to R281): a stream taken through the steps of R275, frames written, the checks and the
acceptance, and the commands of area 0x03. -/

namespace Sys2Proof.Machine

/-! The stream (R275 steps 1 to 10). -/

/-- The image's header, once its bytes have come. -/
def State.header (s : State) : Bytes := s.load.stream.take headerLen

/-- Bytes taken into the stream, none beyond the end of the image and of its section table, with LOAD_BYTES. -/
def takeBytes (bs : Bytes) (s : State) : State :=
  let l := s.load
  let stream := l.stream ++ bs
  let stream := if l.headed then stream.take (Nat.max (hdrLength stream) (headerLen + entryLen * hdrSections stream)) else stream
  (s.setLoad { l with stream }).rset .LOAD_BYTES 0 (l.hunted + stream.length)

/-- Step 1: SYNC found, within the first 64 KiB of a flash, or as the first bytes of another source. -/
def findStart (s : State) : State :=
  let l := s.load
  if l.synced then s
  else if Nat.ble l.source 1 then
    match findSync huntLimit 0 l.stream with
    | some k => loadPhase 2 (s.setLoad { l with synced := true, hunted := k, stream := l.stream.drop k })
    | none => if Nat.ble huntLimit l.stream.length then failLoad { reason := 3, detail := 0, item := 0 } s else s
  else if l.stream.length < 8 then s
  else if l.stream.take 8 == syncBytes then loadPhase 2 (s.setLoad { l with synced := true })
  else failLoad { reason := 3, detail := 0, item := 0 } s

/-- Step 4 fails (R273, R274): the version lies below the counter, in a keeper that can be read. -/
def State.rolledBack (s : State) (h : Bytes) : Bool := !s.keeper.failed && Nat.blt (hdrVersion h) (s.rget .AR_COUNTER)

/-- Step 5 fails (R261, R262): the kind does not suit the state, or a global image comes from an Inner Port. -/
def State.kindConflict (s : State) (h : Bytes) : Bool := hdrGlobal h != s.loadsGlobal || (hdrGlobal h && s.load.source == 4)

/-- No golden stream came to a listener in time (R268): SAFE, with the second ERROR record of R277. -/
def noGolden (s : State) : State :=
  enterSafe 2 (recordGolden { reason := 0, detail := 0, item := 0 } (s.setLoad { s.load with goldenWait := false, stream := [] }))

/-- Steps 2 to 5 over the header; a golden load must carry GLOBAL and GOLDEN (R277). -/
def judgeHeader (s : State) : State :=
  let l := s.load
  if !l.active || !l.synced || l.headed || l.stream.length < headerLen then s
  else
    let h := s.header
    let golden := hdrGlobal h && hdrGolden h
    if !headerFormed h || (l.golden && !golden) then failLoad { reason := 4, detail := 0, item := 0 } s
    else match (s.judgeSignature h).orElse (fun _ => s.judgeAes h) with
      | some d => failLoad { reason := 1, detail := d, item := 0 } s
      | none =>
        if s.rolledBack h then failLoad { reason := 1, detail := 3, item := 0 } s
        else if s.kindConflict h then conflictLoad s
        else takeBytes [] (s.setLoad { l with headed := true, global := hdrGlobal h })

/-- Steps 6 to 8: the section table judged; a global load then empties the device. -/
def judgeTable (s : State) : State :=
  let l := s.load
  let n := hdrSections l.stream
  if !l.active || !l.headed || l.tabled || l.stream.length < headerLen + entryLen * n then s
  else
    let ts := tableOf n l.stream
    if sha384 ((l.stream.drop headerLen).take (entryLen * n)) != hdrDigest l.stream then
      failLoad { reason := 1, detail := 4, item := 0 } s
    else if !tableFormed (hdrLength l.stream) s.devId ts then
      failLoad { reason := 4, detail := 0, item := (malformedEntry ts).getD 0 } s
    else
      let s := if l.global then { clearConfiguration s with fabricOn := true } else s
      loadPhase 3 (s.setLoad { s.load with tabled := true, table := ts })

/-- A section of a plane begins (R275 step 8, R495): the plane becomes LOADING, judged in service or not, and its queued repairs
leave the queue. -/
def beginPlane (plane : Nat) (s : State) : State :=
  if (mfind s.load.planes plane).isSome then s
  else
    let serves := !s.load.global && s.inService plane
    let s := supersede plane s
    let s := s.setPlane plane { s.plane plane with state := 1, rewrite := serves, untouched := s.runsOn plane }
    settleRepairs plane
      (s.setLoad { s.load with planes := mput s.load.planes plane serves, ipPlanes := mdel s.load.ipPlanes plane })

/-- A whole section of the stream processed (steps 9 and 10): the frames of a plane wait to be written, other content is kept. -/
def takeSection (i : Nat) (x : LoadSection) (s : State) : State :=
  let done (s : State) : State := s.setLoad { s.load with done := i + 1 }
  if !x.taken s.devId then done s
  else
    let l := s.load
    match readSection x i (hdrNonce l.stream) (s.imageKey s.header) ((l.stream.drop x.offset).take x.span) with
    | none => failLoad { reason := 2, detail := 0, item := i } s
    | some c =>
      let fault := if !c.digestOk then some 5 else if !c.tagOk then some 6 else none
      if x.typ = 1 then
        done (s.setLoad { l with frames := [{ plane := x.target, sect := i, next := 0, data := c.raw, fault }] })
      else match fault with
        | some d => failLoad { reason := 1, detail := d, item := i } s
        | none => done (if x.typ = 6 then s else s.setLoad { l with raws := mput l.raws i c.raw })

/-- The sections from one on, in order, while the stream holds them and no frame waits to be written. -/
def takeSections : Nat → List LoadSection → State → State
  | _, [], s => if s.load.active && s.load.frames == [] then loadPhase 4 s else s
  | i, x :: xs, s =>
    if !s.load.active || s.load.frames != [] || s.load.stream.length ≤ x.offset && x.span != 0 then s
    else
      let s := s.rset .LOAD_SECTION 0 i
      let s := if x.typ = 1 && x.taken s.devId then beginPlane x.target s else s
      if s.load.stream.length < x.endsAt then s else takeSections (i + 1) xs (takeSection i x s)

/-- The sections not processed yet. -/
def resumeSections (s : State) : State :=
  if s.load.active && s.load.tabled then takeSections s.load.done (s.load.table.drop s.load.done) s else s

/-- The last bytes of a stream that may be the first ones of SYNC: the longest of its ends that SYNC begins with. -/
def syncTail : Bytes → Bytes
  | [] => []
  | b :: bs => if syncBytes.take (bs.length + 1) == b :: bs then b :: bs else syncTail bs

/-- What a listener that waits for a golden stream makes of the bytes it sees, within a number of streams (R266, R268): it hunts
them for SYNC, passes over a stream whose header does not carry GOLDEN, and takes the first that does from its SYNC on: the bytes
taken, if any, and what it keeps to hunt on in, which begins where a stream may have begun. -/
def huntGolden : Nat → Bytes → Option Bytes × Bytes
  | 0, bs => (none, bs)
  | n + 1, bs =>
    match findSync bs.length 0 bs with
    | none => (none, syncTail (bs.drop (bs.length - 7)))
    | some k =>
      let own := bs.drop k
      if own.length < 16 then (none, own)
      else if hdrGolden own then (some own, [])
      else huntGolden n (own.drop 8)

/-- Bytes seen by a listener that waits for a golden stream: a load of the stream it takes starts, or the hunt goes on; once its time
is over it goes on only in a stream whose first byte came before (R268). -/
def awaitGolden (bs : Bytes) (s : State) : State × Bytes :=
  let all := s.load.stream ++ bs
  let r := huntGolden (all.length + 1) all
  let rest := r.1.getD r.2
  let passed := all.length - rest.length
  match s.load.waitLeft, r.1 with
  | none, some own => (startLoad true 0 .idle s, own)
  | none, none => (s.setLoad { s.load with stream := rest }, [])
  | some n, own =>
    if rest == [] || Nat.ble n passed then (noGolden s, [])
    else match own with
      | some own => (startLoad true 0 .idle s, own)
      | none => (s.setLoad { s.load with stream := rest, waitLeft := some (n - passed) }, [])

/-- Bytes of the source processed as far as they go. -/
def feed (bs : Bytes) (s : State) : State :=
  let w := if s.load.goldenWait then awaitGolden bs s else (s, bs)
  let s := w.1
  let bs := w.2
  if s.load.active then
    let s := findStart (takeBytes bs s)
    resumeSections (judgeTable (judgeHeader s))
  else s

/-- LOAD_STREAM_DATA. -/
def execLoadStreamData (bytes : Bytes) (s : State) : Host.Outcome State Fault Refusal := .next (feed bytes s)

/-- Stream bytes of a LOAD_SRC 3 load that wait in the buffer behind a section whose frames are being written (R351). -/
def State.bufferedBytes (s : State) : Nat :=
  match s.load.frames with
  | [] => 0
  | j :: _ => match s.load.table.drop j.sect with
    | x :: _ => s.load.stream.length - x.endsAt
    | [] => 0

/-- The 64 KiB of the stream buffer (R351). -/
def streamBuffer : Nat := 65536

/-- The DATA_PORT interrupt of the ports that were refused for room, once half the buffer is free (R344, R351); a load that has
ended owes none. -/
def payOwed (s : State) : State :=
  if !s.load.active then { s with ctl := { s.ctl with owed := [] } }
  else if Nat.blt (streamBuffer / 2) s.bufferedBytes then s
  else s.ctl.owed.foldl (fun t n => pendIbi 4 n 0 t) { s with ctl := { s.ctl with owed := [] } }

/-- LOAD_FRAME_WRITE: the next frame is written and read back (R263), and one that does not stand ends the load with a CRC failure; the
first frame of a plane in service stops its District (R179), and the last one is followed by step 10. -/
def execLoadFrameWrite (s : State) : Host.Outcome State Fault Refusal :=
  match (if s.load.active then s.load.frames else []) with
  | [] => .next s
  | j :: _ =>
    let s := if j.next = 0 && mget s.load.planes j.plane false then stopDistrict (j.plane / 8) s else s
    let s := if j.next = 0 then s.setPlane j.plane { s.plane j.plane with untouched := false } else s
    let r := writeVerified j.plane j.next (BitVec.ofNat 2048 (leVal (j.data.take 256))) s
    let s := r.2
    if !r.1 then .next (payOwed (failLoad { reason := 2, detail := 0, item := j.sect } s))
    else if j.next + 1 < 4800 then
      .next (s.setLoad { s.load with frames := [{ j with next := j.next + 1, data := j.data.drop 256 }] })
    else
      let s := s.setLoad { s.load with frames := [] }
      match j.fault with
      | some d => .next (payOwed (failLoad { reason := 1, detail := d, item := j.sect } s))
      | none => .next (payOwed (resumeSections s))

/-! Acceptance (R275 steps 11 to 13). -/

/-- The planes the load writes, ascending, and their Districts. -/
def State.loadedNow (s : State) : List Nat := s.load.planes.map (·.1)
def State.districtsNow (s : State) : List Nat := (s.loadedNow.map (· / 8)).eraseDups

/-- What a plane's frames set (R134). -/
def State.userOf (s : State) (plane : Nat) : PlaneUser :=
  let f := s.planeFrames plane
  { banked := Config.bankedOf f, init := Config.initOf f, upEnds := Config.underpassEndsOf f, fClose := Config.fCloseOf f }

/-- The first section of a kind that the device takes, with its content. -/
def State.sectionOfType (s : State) (typ : Nat) : Option Bytes :=
  (s.load.raws.find? (fun p => (s.load.table[p.1]?).any (fun x => x.typ == typ))).map (·.2)

/-- The first section that carries a plane of a Quarter. -/
def State.quarterSection (s : State) (q : Nat) : Nat :=
  ((s.load.table.zipIdx.find? (fun p => p.1.typ == 1 && p.1.taken s.devId && p.1.target / 16 == q)).map (·.2)).getD 0

/-- The schedule records that a ledger gives a plane (R190, R494): none schedules nothing. -/
def scheduleOf (b : Bytes) (plane : Nat) : BitVec 64 × BitVec 64 :=
  match (schedRecords b).find? (fun r => (schedOf r).1 == plane) with
  | some r => (schedOf r).2
  | none => (0, 0)

/-- The state with every written plane LOADED, its schedule as the ledger gives it. -/
def withPlanes (b : Bytes) (s : State) : State :=
  s.loadedNow.foldl (fun t k =>
    let x := scheduleOf b k
    t.setPlane k { state := 2, user := t.userOf k, c0Banks := x.1, c0Write := x.2, rewrite := false, untouched := false }) s

/-- The Quarter whose census fails with the lock groups in force (R143, step 11). -/
def State.censusFails (t : State) (qs : List Nat) : Option Nat :=
  qs.find? (fun q => !t.census q (t.rget .LOCK_GROUP (2 * q)) (t.rget .LOCK_GROUP (2 * q + 1)))

/-- The base context that a global image gives a District that receives a plane (R175, R275). -/
def State.imageBase (t : State) (d : Nat) : Nat := (t.dist d).baseByImage.getD 0

/-- The table of an image (R271). -/
def imageTable (b : Bytes) : SMap (BitVec 128) :=
  ((chunks 16 4096 b).zipIdx.filterMap (fun p =>
    let w := BitVec.ofNat 128 (leVal p.1)
    if w = 0 then none else some (p.2, w)))

/-- Steps 11 and 12 (R275): the state that the load would leave with its planes, SETTINGS and ledger, or why it fails; the fault of
a ledger beside it. -/
def State.judgeLoad (s : State) : Except (LoadFault × Option LedgerFault) (State × Ledger) :=
  let l := s.load
  let b := (s.sectionOfType 3).getD []
  let t := withPlanes b s
  let fault (reason detail item : Nat) : Except (LoadFault × Option LedgerFault) (State × Ledger) :=
    .error ({ reason, detail, item }, none)
  match t.censusFails (s.loadedNow.map (· / 16)).eraseDups with
  | some q => fault 5 0 (s.quarterSection q)
  | none =>
    let records := (s.sectionOfType 4).getD []
    match applySettings l.global 0 (chunks 16 records.length records) t with
    | .error i => fault 6 23 i
    | .ok t =>
      match (if l.global then s.districtsNow.find? (fun d => !t.loaded (8 * d + t.imageBase d)) else none) with
      | some d => fault 6 24 d
      | none =>
        let old := if l.global then [] else s.dec.paths.map (·.1)
        let led := traced (mergeLedger l.global s.loadedNow b s.dec) t
        match judgeLedger t b s.loadedNow old led with
        | some f => .error ({ reason := 6, detail := f.detail, item := f.item }, some f)
        | none =>
          match (s.sectionOfType 5).bind (fun c => t.ttValidate (imageTable c)) with
          | some i => fault 6 22 i
          | none => .ok (t, led)

/-- An accepted plane is put in place (R167, R171, R326, R331, R495): its banked shadow takes INIT, its tickets read 2, its image
source is recorded where the device drives the flash. -/
def settlePlane (s0 : State) (plane : Nat) (s : State) : State :=
  let l := s0.load
  let s := settleSuperseded plane 2 s
  let s := noteWritten plane (initShadow plane s)
  let d := s.dist (plane / 8)
  let s := guardsReloaded plane (l.global || mget l.planes plane false) (s.setDist (plane / 8) { d with stuck := d.stuck.filter (· != plane) })
  let addr := if l.golden then s0.rget .GOLDEN_ADDR else s0.rget .LOAD_ADDR
  let c := s.scr
  let images := if Nat.ble l.source 1 && !s0.listener then mput c.images plane (l.source, addr + l.hunted, hdrId l.stream)
    else mdel c.images plane
  s.setScr { c with images, noImage := mdel c.noImage plane }

/-- The active plane of a District that the load writes (R151, R271): of a global image the base context that it gives, of a partial one
a plane that the load judged in service as it began (R166). -/
def State.writesActive (s0 t : State) (d : Nat) : Bool :=
  if s0.load.global then s0.loadedNow.contains (8 * d + t.imageBase d)
  else s0.load.planes.any (fun p => p.1 / 8 == d && p.2)

/-- District RAM content applied, where the District's active plane is written by the same load (R151, R271). -/
def applyDram (s0 : State) (s : State) : State :=
  s0.load.raws.foldl (fun t p =>
    match s0.load.table[p.1]? with
    | none => t
    | some x =>
      if x.typ = 2 && s0.writesActive s x.target then
        { t with dram := (chunks 4608 64 p.2).zipIdx.foldl (fun m b =>
            mset m (64 * x.target + b.2) (BitVec.ofNat 36864 (leVal b.1)) 0) t.dram }
      else t) s

/-- An image's table takes the shadow's place and waits for its commit (R59): a commit that was written through TT_COMMIT is
refused. -/
def putTable (b : Bytes) (due : Nat) (s : State) : State :=
  let s := if s.ttPending && !s.rb.fromImage then ttRefuse 0xFFFF s else s
  { s with rb := { s.rb with shadow := imageTable b, validating := none, pendingAt := some due, fromImage := true } }.rset
    .TT_COMMIT_STATUS 0 1

/-- The spacing of release stages counts from now, or from the crossing in which the time base reaches ALIGNED (R280). -/
def State.spacingFrom (s : State) : Option Nat := if s.tb.st = .aligned then some s.crossing else none

/-- The counter takes an image's version, where that is higher and the keeper takes it (R274). -/
def raiseVersion (v : Nat) (s : State) : State :=
  if Nat.blt (s.rget .AR_COUNTER) v then
    match writeCounter 0 2 v s with
    | .ok t => t.rset .AR_COUNTER 0 v
    | .error _ => s
  else s

/-- The reserve's slots after a global acceptance, with the planes in service as the image's base contexts and table will have them
(R329). -/
def assignReserve (ks : List Nat) (s : State) : State :=
  let t := s.distList.foldl (fun t d => match (t.dist d).baseByImage with
    | some k => t.rset .BASE_CTX d k
    | none => t) s
  let t := if s.rb.pendingAt = some atStageOne then { t with rb := { t.rb with active := t.rb.shadow } } else t
  s.setScr (assignSlots ks t).scr

/-- What a global acceptance adds (R274, R275, R280, R284, R288): the image's identity, its base contexts, the release stages to
come, and ARMED. -/
def acceptGlobal (s0 s : State) : State :=
  let l := s0.load
  let h := l.stream
  let s := s0.districtsNow.foldl (fun t d => t.setDist d { t.dist d with baseByImage := some (t.imageBase d) }) s
  let s := assignReserve s0.loadedNow (failWaiting s)
  let s := ((s.rset .IMAGE_AR 0 (hdrVersion h)).rset .IP_RAW_ALLOWED 0 (if hdrRawIp h then 1 else 0)).rset .LOAD_FALLBACK 0
    (if l.golden then 1 else 0)
  let s := s.setLoad { s.load with
    imageId := hdrId h, stage := 0, pending := true, spaceFrom := s.spacingFrom,
    advance := if hdrAdvance h && !l.golden then some (hdrVersion h) else none }
  (s.rset .SAFE_CAUSE 0 0).become .armed

/-- What a partial acceptance adds (R179, R274, R329): slots, the counter, and the release of stopped Districts. -/
def acceptPartial (s0 s : State) : State :=
  let h := s0.load.stream
  let s := s0.loadedNow.foldl (fun t k => takeSlot k t) s
  let s := if hdrAdvance h then raiseVersion (hdrVersion h) s else s
  s0.districtsNow.foldl (fun t d =>
    if t.repairsQueued.any (fun (e : RepairEntry) => e.plane / 8 == d) then t else releaseFrom d t) s

/-- Step 13 (R275): t is the state that steps 11 and 12 judged. -/
def acceptLoad (s0 t : State) (led : Ledger) : State :=
  let s := putLedger led (fun i => !(mfind s0.dec.taps i).isSome || s0.load.global
    || (tapRecords ((s0.sectionOfType 3).getD [])).any (fun r => tapIndexOf r == i)) t
  let s := showLedger none s
  let s := s0.loadedNow.foldl (fun t k => settlePlane s0 k t) (applyDram s0 s)
  let s := match s0.sectionOfType 5 with
    | some b => putTable b (if s0.load.global then atStageOne else allOnes64) s
    | none => s
  let s := if s0.load.global then acceptGlobal s0 s else acceptPartial s0 s
  finishLoad (loadPhase 5 s)

/-- A bank under in-field test that a written plane schedules for C0 (R401). -/
def State.scheduledUnderTest (t : State) (ks : List Nat) : Bool :=
  let n := t.rget .BIST_TARGET
  t.bistRunning && t.rget .BIST_KIND == 0 && t.rget .BIST_MODE == 0
    && ks.any (fun k => k / 16 == n / 64 && (t.plane k).c0Banks.getLsbD (n % 64))

/-- LOAD_ACCEPT: with every section read and every frame written, the checks are judged and the load is accepted or fails; it
waits for a test of a bank that it schedules for C0 (R401). -/
def execLoadAccept (s : State) : Host.Outcome State Fault Refusal :=
  let l := s.load
  if !l.active || !l.tabled || l.done < l.table.length || l.frames != [] then .next s
  else match s.judgeLoad with
    | .error (f, none) => .next (failLoad f s)
    | .error (f, some x) => .next (failLoad f (showLedger (some x) s))
    | .ok (t, led) => if t.scheduledUnderTest s.loadedNow then .next (abortTest s) else .next (acceptLoad s t led)

/-- LOAD_TIMEOUT: a step has taken no byte for 2 s (R275), and so the golden stream that a listener judges past its wait. -/
def execLoadTimeout (s : State) : Host.Outcome State Fault Refusal :=
  .next (if s.load.active then failLoad { reason := 7, detail := 0, item := s.rget .LOAD_SECTION } s
    else if s.load.goldenWait && s.load.waitLeft.isSome then noGolden s else s)

/-- LISTENER_GOLDEN_WAIT_END: the 2 s after a listener's failure are over (R268): SAFE, where no stream has begun; one whose first byte
has come is judged yet. -/
def execListenerGoldenWaitEnd (s : State) : Host.Outcome State Fault Refusal :=
  .next (if s.load.goldenWait && s.load.waitLeft.isNone then
      if s.load.stream == [] then noGolden s else s.setLoad { s.load with waitLeft := some s.load.stream.length }
    else s)

/-! Commands of area 0x03. -/

/-- LOAD_GO (R261): a load from IDLE or SAFE enters LOADING at once; a listener that waits for a golden stream has its load still in
progress (R268). -/
def hLoadGo : Handler := Handler.doing (fun v s =>
  if v = 0 then .ok s
  else if s.load.active || s.load.goldenWait then .error 6
  else
    let t := startLoad false (s.rget .LOAD_SRC) s.dev s
    match s.dev with
    | .idle | .safe => .ok (settleLinks (t.become .loading))
    | _ => .ok t)

/-- LOAD_GO. -/
def execLoadGo (w : Route) (v : Nat) (s : State) : Host.Outcome State Fault Refusal := write w .LOAD_GO 0 v hLoadGo s

/-- LOAD_ABORT (R277, R288): a global load that is aborted leaves the device in SAFE. -/
def hLoadAbort : Handler := Handler.doing (fun v s =>
  if v = 0 || !(s.load.active || s.load.goldenWait) then .ok s
  else .ok (if s.loadsGlobal then enterSafe 3 (abortLoad s) else abortLoad s))

/-- LOAD_ABORT. -/
def execLoadAbort (w : Route) (v : Nat) (s : State) : Host.Outcome State Fault Refusal := write w .LOAD_ABORT 0 v hLoadAbort s

/-- LOAD_SRC_WRITE (R262). -/
def execLoadSrcWrite (w : Route) (v : Nat) (s : State) : Host.Outcome State Fault Refusal :=
  write w .LOAD_SRC 0 v (Handler.store .LOAD_SRC 0) s

/-- AR_ADVANCE (R274). -/
def hArAdvance : Handler :=
  { range := fun v s => Nat.blt (s.rget .AR_COUNTER) v || s.keeper.dead.contains 0
    act := fun v s => match writeCounter 0 2 v s with
      | .error c => .error c
      | .ok t => .ok (t.rset .AR_COUNTER 0 v) }

/-- AR_ADVANCE. -/
def execArAdvance (w : Route) (v : Nat) (s : State) : Host.Outcome State Fault Refusal := write w .AR_ADVANCE 0 v hArAdvance s

/-- The signing slots that are valid. -/
def State.validSlots (s : State) : List Nat := (List.range 4).filter (fun j => (s.signingKey j).isSome)

/-- A signing slot is revoked already. -/
def State.slotRevoked (s : State) (j : Nat) : Bool := mfind s.keeper.signing j == some .revoked

/-- KEY_REVOKE (R288). -/
def hKeyRevoke : Handler := Handler.doing (fun v s =>
  if s.slotRevoked v then .ok s
  else if s.keeper.failed || s.validSlots == [v] then .error 6
  else (keepKey v [2] s).map (fun s => s.setKeeper { s.keeper with signing := mput s.keeper.signing v .revoked }))

/-- KEY_REVOKE. -/
def execKeyRevoke (w : Route) (v : Nat) (s : State) : Host.Outcome State Fault Refusal := write w .KEY_REVOKE 0 v hKeyRevoke s

/-- KEY_STATE (R288). -/
def State.keyState (s : State) : Nat :=
  (List.range 4).foldl (fun n j =>
    let v := match mfind s.keeper.signing j with
      | none => 0
      | some (.valid _) => 1
      | some .revoked => 2
    n + v * 4 ^ j + flagBit (mfind s.keeper.aes j).isSome (8 + j)) 0

end Sys2Proof.Machine
end

