-- ==== Sys2Proof/Machine/InnerPort.lean ====
section
/-! DEFINITION. The Inner Ports (R282 to R286): frames read and written by user logic, SEAL, STREAM; and tickets (R287). -/

namespace Sys2Proof.Machine

/-- The answer of a District's Inner Port: IP_STATUS, IP_TICKET, and the read beats (R282, R283). -/
def ipAnswer (d status ticket : Nat) (data : BitVec 2048) (s : State) : State :=
  s.setLoad { s.load with ipOut := mput s.load.ipOut d { status, ticket, data } }

/-- The port of a District reaches a plane's frame (R282, R283). -/
def State.ipReaches (s : State) (d plane frame : Nat) : Bool :=
  Nat.blt plane 1024 && s.rget .IP_HOST (plane / 8) == d && Nat.blt frame 4800

/-- A plane in LOADING that an Inner Port writes (R284). -/
def State.ipWrites (s : State) (plane : Nat) : Bool := (mfind s.load.ipPlanes plane).isSome

/-- What an operation on a frame is answered before the frame is touched (R283): RANGE, IN_SERVICE as judged when the port's
writing began (R166), BUSY, and RAW_OFF for a write (R284); none where it may proceed. -/
def State.ipRefusal (s : State) (d plane frame : Nat) (writes : Bool) : Option Nat :=
  if !s.ipReaches d plane frame then some 2
  else if !s.ipWrites plane && s.inService plane then some 1
  else if !s.ipWrites plane && (s.plane plane).state == 1 then some 4
  else if writes && !s.rflag .IP_RAW_ALLOWED then some 5
  else none

/-- The port begins to write a plane (R284, R495): it becomes LOADING, and its queued repairs leave the queue. -/
def ipBegin (plane : Nat) (s : State) : State :=
  if s.ipWrites plane then s
  else
    let s := supersede plane s
    let s := s.setPlane plane { s.plane plane with state := 1, rewrite := false, untouched := false }
    settleRepairs plane (s.setLoad { s.load with ipPlanes := mput s.load.ipPlanes plane [] })

/-- A frame added to a list of frames once. -/
def addFrame (frame : Nat) (fs : List Nat) : List Nat := if fs.contains frame then fs else fs ++ [frame]

/-- A frame written through a port or a data port (R284, R331), and whether it verifies as it is read back: fresh check bits and tag;
it has no image source from then on. DESIGN CHOICE (log entry 211): one that does not verify is written once more. -/
def ipWriteFrame (plane frame : Nat) (data : BitVec 2048) (s : State) : Bool × State :=
  let r := writeVerified plane frame data (ipBegin plane s)
  let s := r.2.setLoad { r.2.load with ipPlanes := mput r.2.load.ipPlanes plane (addFrame frame (mget r.2.load.ipPlanes plane [])) }
  (r.1, s.setScr { s.scr with noImage := mput s.scr.noImage plane (addFrame frame (mget s.scr.noImage plane [])) })

/-- A damaged or correctable frame finds no room among the repairs (R321). -/
def State.repairRefused (s : State) (plane frame : Nat) : Bool :=
  s.repairsFull && (s.ticketHeld plane frame).isNone && (s.plane plane).state != 0 && (s.plane plane).state != 1

/-- The answer to a frame met damaged (R285, log entry 211): DAMAGED with a ticket and the data read, the frame handed over for repair;
while the priority list is full the port holds IP_READY low and nothing is done (R321). -/
def ipDamaged (d plane frame : Nat) (v : BitVec 2048) (s0 s : State) : State :=
  if s.repairRefused plane frame then s0
  else
    let p := enqueueRepair plane frame 1 s
    ipAnswer d 3 p.1 v p.2

/-- A frame written through the port, and its answer (R284): OK, or DAMAGED where it does not verify. -/
def ipStore (d plane frame : Nat) (data : BitVec 2048) (s : State) : State :=
  let r := ipWriteFrame plane frame data s
  if r.1 then ipAnswer d 0 0 0 r.2 else ipDamaged d plane frame 0 r.2 r.2

/-- The port of a District takes an operation: the District is clocked, and no SEAL waits (R282, R401). -/
def State.ipReady (s : State) (d : Nat) : Bool := s.clocked d && (mfind s.load.sealWait d).isNone

/-- The beats of a frame are the 16 of R283, in order. -/
def frameBeats (b : IpBeats) : Bool := b.beats.map (·.1) == List.range 16

/-- The frame that beats carry: beat j is bits 128j + 127 to 128j (R282). -/
def beatsData (b : IpBeats) : BitVec 2048 := BitVec.ofNat 2048 (b.beats.foldr (fun x n => x.2.toNat + 2 ^ 128 * n) 0)

/-- IP_FRAME_WRITE (R283, R284). -/
def execIpFrameWrite (district plane frame : Nat) (data : IpBeats) (s : State) : Host.Outcome State Fault Refusal :=
  if !s.ipReady district then .next s
  else if !frameBeats data then .next (ipAnswer district 8 0 0 s)
  else match s.ipRefusal district plane frame true with
    | some st => .next (ipAnswer district st 0 0 s)
    | none => .next (ipStore district plane frame (beatsData data) s)

/-- What reading a frame under R285 gives: its data, the data with a single-bit error corrected, or the data as read of a frame
whose tag fails. -/
inductive PortRead
  | good (data : BitVec 2048)
  | fixed (data : BitVec 2048)
  | damaged (data : BitVec 2048)
deriving DecidableEq, Repr

/-- A frame read under R285; one of an EMPTY plane never verifies (R313). -/
def State.portRead (s : State) (plane frame : Nat) : PortRead :=
  let v := s.frame plane frame
  if (s.plane plane).state = 0 then .damaged (frameData v)
  else match classify plane frame v with
  | .clean => .good (frameData v)
  | .corrected f => .fixed (frameData f)
  | .multi => .damaged (frameData v)
  | .tagFail => .damaged (frameData v)

/-- IP_FRAME_READ (R283, R285): a corrected frame is queued for the scrubber's correction (R320), a damaged one for repair; while the
priority list is full the port holds IP_READY low (R321). -/
def execIpFrameRead (district plane : Nat) (frame : IpRequest) (s : State) : Host.Outcome State Fault Refusal :=
  if !s.ipReady district then .next s
  else if frame.beats != 1 then .next (ipAnswer district 8 0 0 s)
  else match s.ipRefusal district plane frame.number false with
    | some st => .next (ipAnswer district st 0 0 s)
    | none =>
      match s.portRead plane frame.number with
      | .good v => .next (ipAnswer district 0 0 v s)
      | .fixed v =>
        if s.repairRefused plane frame.number then .next s
        else .next (ipAnswer district 0 0 v (enqueueRepair plane frame.number 1 s).2)
      | .damaged v => .next (ipDamaged district plane frame.number v s s)

/-- A mask of one beat (R283). -/
def oneBeat (mask : BitVec 2048) : Bool :=
  Nat.ble ((List.range 16).filter (fun j => bitsOf mask.toNat (128 * j + 127) (128 * j) != 0)).length 1

/-- Masked bits merged into a frame. -/
def mergeFrame (old mask data : BitVec 2048) : BitVec 2048 := (old &&& ~~~mask) ||| (data &&& mask)

/-- IP_PARTIAL (R285). -/
def execIpPartial (district plane frame : Nat) (mask data : FrameBits) (s : State) : Host.Outcome State Fault Refusal :=
  if !s.ipReady district then .next s
  else if !oneBeat mask then .next (ipAnswer district 8 0 0 s)
  else match s.ipRefusal district plane frame true with
    | some st => .next (ipAnswer district st 0 0 s)
    | none =>
      match s.portRead plane frame with
      | .good v => .next (ipStore district plane frame (mergeFrame v mask data) s)
      | .fixed v => .next (ipStore district plane frame (mergeFrame v mask data) (s.rinc .CS_CORRECTED))
      | .damaged _ => .next (ipDamaged district plane frame 0 s s)

/-! SEAL (R286). -/

/-- Every frame's tag verifies. -/
def State.tagsVerify (s : State) (plane : Nat) : Bool := (List.range 4800).all (fun f => s.verifies plane f)

/-- F_CLOSE is what the plane's last configuration had; a plane that held none has none to keep. -/
def State.closeKept (s : State) (plane : Nat) : Bool :=
  (s.plane plane).user == Plane.empty.user || (s.plane plane).user.fClose == (s.userOf plane).fClose

/-- The checks of SEAL over the state t that it would leave: LOAD_REASON and LOAD_DETAIL of a failure. -/
def State.sealFault (s t : State) (plane : Nat) : Option (Nat × Nat) :=
  let led := traced { paths := s.dec.paths, taps := s.dec.taps } t
  if !s.tagsVerify plane then some (2, 0)
  else if (t.censusFails [plane / 16]).isSome then some (5, 0)
  else match ledgerChecks t [] [plane] (s.dec.paths.map (·.1)) led with
    | some f => some (6, f.detail)
    | none => if s.closeKept plane then none else some (6, 21)

/-- The frames written since the plane's load are copied into its slot's free tail, or a free slot is taken and filled (R286,
R329). -/
def sealReserve (plane : Nat) (frames : List Nat) (s : State) : State :=
  if s.votedSetting .FR_ENABLE != 1 then s
  else match mfind s.scr.slots plane with
    | some slot =>
      let upTo := mget s.scr.filling plane 4800
      (frames.filter (fun f => Nat.blt f upTo)).foldl (fun t f => (reserveFrame plane slot f t).2) s
    | none => takeSlot plane s

/-- A plane sealed (R167, R286, R495), with the paths of the ledger traced through its new routes (R146, R191). -/
def sealPlane (plane : Nat) (t : State) : State :=
  let frames := mget t.load.ipPlanes plane []
  let s := noteWritten plane (initShadow plane t)
  let s := s.setLoad { s.load with ipPlanes := mdel s.load.ipPlanes plane }
  let s := { s with dec := { s.dec with paths := (traced { paths := s.dec.paths, taps := s.dec.taps } s).paths } }
  sealReserve plane frames (settleSuperseded plane 2 s)

/-- A SEAL judged and performed (R286); one that passes waits for a test of a bank that the plane schedules for C0, which it ends, and
where it can end at once goes on (R401). -/
def sealNow : Nat → Nat → Nat → State → State
  | 0, _, _, s => s
  | fuel + 1, d, plane, s =>
    if !s.ipWrites plane then ipAnswer d 6 0 0 s
    else
      let t := s.setPlane plane { s.plane plane with state := 2, user := s.userOf plane }
      match s.sealFault t plane with
      | some f => ipAnswer d 6 0 0 ((s.rset .LOAD_REASON 0 f.1).rset .LOAD_DETAIL 0 f.2)
      | none =>
        if t.scheduledUnderTest [plane] then
          let s := abortTest s
          if s.bistRunning then s.setLoad { s.load with sealWait := mput s.load.sealWait d plane } else sealNow fuel d plane s
        else ipAnswer d 0 0 0 (sealPlane plane t)

/-- IP_SEAL (R283, R286). -/
def execIpSeal (district : Nat) (plane : IpRequest) (s : State) : Host.Outcome State Fault Refusal :=
  if !s.ipReady district then .next s
  else if plane.beats != 1 then .next (ipAnswer district 8 0 0 s)
  else match s.ipRefusal district plane.number 0 false with
    | some st => .next (ipAnswer district st 0 0 s)
    | none => .next (sealNow 2 district plane.number s)

/-- SEALs that waited for a test go on once no test runs (R401). DESIGN CHOICE (log entry 213): with the next crossing, judged anew. -/
def settleSeals (s : State) : State :=
  if s.bistRunning then s
  else s.load.sealWait.foldl (fun t p => sealNow 2 p.1 p.2 (t.setLoad { t.load with sealWait := mdel t.load.sealWait p.1 })) s

/-- IP_STREAM: 16 bytes of a LOAD_SRC 4 load, least significant first (R262, R283). -/
def execIpStream (district : Nat) (data : BitVec 128) (s : State) : Host.Outcome State Fault Refusal :=
  if !s.ipReady district then .next s
  else if s.load.active && s.load.source = 4 then .next (ipAnswer district 0 0 0 (feed (leBytes 16 data.toNat) s))
  else .next (ipAnswer district 7 0 0 s)

/-- IP_RESERVED_OP (R283). -/
def execIpReservedOp (district op : Nat) (s : State) : Host.Outcome State Fault Refusal :=
  .next (if s.ipReady district && Nat.ble 5 op && Nat.ble op 7 then ipAnswer district 8 0 0 s else s)

/-- TICKET_QUERY (R287). -/
def execTicketQuery (w : Route) (v : Nat) (s : State) : Host.Outcome State Fault Refusal :=
  write w .TICKET_QUERY 0 v (Handler.store .TICKET_QUERY 0) s

end Sys2Proof.Machine
end

