-- ==== Sys2Proof/Machine/Recorder.lean ====
section
/-! DEFINITION. The event recorder (R412 to R422): the writer, the buffer, ALERT, the FATAL copies in the keeper, and the
authorised clear. -/

namespace Sys2Proof.Machine

/-- The recorder changed. -/
def State.setRecorder (s : State) (r : Recorder) : State := { s with recorder := r }

/-- The slots of the buffer (R419). -/
def recordSlots : Nat := 8192

/-- FLAGS (R412). -/
def Record.flags (r : Record) : Nat :=
  flagBit r.ev.synthetic 0 + flagBit r.persisted 1 + flagBit r.ev.mtValid 2

/-- The record's 64 bytes (R412). -/
def Record.bytes (r : Record) : Bytes :=
  let e := r.ev
  let head := leBytes 8 r.seq ++ leBytes 2 r.gen ++ leBytes 1 e.severity ++ leBytes 1 e.area ++ leBytes 2 e.unit
    ++ leBytes 2 e.code ++ leBytes 2 e.repeats ++ leBytes 1 r.flags ++ [0] ++ leBytes 4 r.pseq ++ leBytes 8 e.mtFirst
    ++ leBytes 8 e.mtLast ++ leBytes 4 e.upMs ++ (e.detail ++ List.replicate 16 0).take 16
  head ++ leBytes 4 (crc32c head)

/-- A record's severity and SEQ, by which R419 picks the slot to overwrite. -/
def Record.rank (r : Record) : Nat := r.ev.severity * 2 ^ 64 + r.seq

/-- The held record that a new one overwrites (R419). -/
def lowestRank : List Record → Option Record
  | [] => none
  | r :: l =>
    match lowestRank l with
    | none => some r
    | some m => if Nat.ble r.rank m.rank then some r else some m

/-- ALERT for a record at or above ALERT_LEVEL (R344, R345, R385, R418). -/
def raiseAlert (severity area : Nat) (s : State) : State :=
  if Nat.blt severity (s.rget .ALERT_LEVEL) then s
  else
    pendIbi 1 severity area (latchIrq 2
      (s.rset .ALERT_PENDING 0 (Nat.max (s.rget .ALERT_PENDING) (severity + 1))))

/-! The FATAL copies (R420). -/

/-- The FATAL region (R392). -/
def fatalFirst : Nat := 40640
def fatalSectors : Nat := 1024

/-- PSEQ and REPEAT of a sector that holds a record. -/
def sectorPseq (v : BitVec 512) : Nat := bitsOf v.toNat 191 160
def sectorRepeats (v : BitVec 512) : Nat := bitsOf v.toNat 143 128

/-- The copies whose CRC passes: sector number and content, by sector. -/
def State.fatalCopies (s : State) : List (Nat × BitVec 512) :=
  if s.keeper.failed then []
  else s.keeper.sectors.filter (fun p => Nat.ble fatalFirst p.1 && Nat.blt p.1 (fatalFirst + fatalSectors) && s.sectorGood p.1)

/-- The sector that holds a PSEQ. -/
def State.fatalSector (s : State) (pseq : Nat) : Option Nat :=
  (s.fatalCopies.find? (fun p => sectorPseq p.2 == pseq)).map (·.1)

/-- The highest PSEQ whose CRC passes, with its sector. -/
def State.highestPseq (s : State) : Option (Nat × Nat) :=
  s.fatalCopies.foldl
    (fun best p =>
      match best with
      | some b => if Nat.ble b.1 (sectorPseq p.2) then some (sectorPseq p.2, p.1) else best
      | none => some (sectorPseq p.2, p.1)) none

/-- The sector a new copy takes: after the one of the highest PSEQ, in cyclic order, worn sectors skipped. -/
def State.nextFatalSector (s : State) : Option Nat :=
  let start := match s.highestPseq with
    | some p => p.2 + 1 - fatalFirst
    | none => 0
  ((List.range fatalSectors).map (fun i => fatalFirst + (start + i) % fatalSectors)).find? (fun k => !s.worn k)

/-- A FATAL record handed to the keeper, where the queue has room, the keeper is available and it does not wait already. -/
def queueCopy (r : Record) (s : State) : State :=
  let q := s.recorder.copies
  if s.keeper.failed || Nat.ble 16 q.length || q.any (fun p => p.seq == r.seq) then s
  else s.setRecorder { s.recorder with copies := q ++ [r] }

/-- The keeper copy of a record is behind its REPEAT. -/
def State.copyBehind (s : State) (r : Record) : Bool :=
  r.persisted &&
    (match s.fatalSector r.pseq with
     | some k => sectorRepeats (mget s.keeper.sectors k 0) != r.ev.repeats
     | none => false)

/-- A held record changed; its slot is written, so GEN moves on (R412). -/
def rewriteRecord (seq : Nat) (f : Record → Record) (s : State) : State :=
  let r := s.recorder
  match r.held.find? (fun p => p.seq == seq) with
  | none => s
  | some h =>
    let g := (h.gen + 1) % 65536
    s.setRecorder { r with held := r.held.map (fun p => if p.seq == seq then { f p with gen := g } else p)
                           gens := mset r.gens h.slot g 0 }

/-- A copy written (R420): under its own PSEQ where the keeper holds one of it, else under the next, its sector the one after
the highest. -/
def copyRecord (r : Record) (s : State) : State :=
  let s := s.setRecorder { s.recorder with refreshed := s.us }
  if r.pseq != 0 then
    match s.fatalSector r.pseq with
    | some k => if s.worn k then s else writeSector k (sectorOf r.bytes) s
    | none => s
  else
    match s.nextFatalSector with
    | none => s
    | some k =>
      let n := s.recorder.pseqNext
      let s := rewriteRecord r.seq (fun p => { p with pseq := n, persisted := true })
        (s.setRecorder { s.recorder with pseqNext := (n + 1) % 2 ^ 32 })
      let now := (s.recorder.held.find? (fun p => p.seq == r.seq)).getD { r with pseq := n, persisted := true }
      writeSector k (sectorOf now.bytes) s

/-- PERSIST_COPY: the oldest record of the queue is copied, as it now stands where it is still held (R420). -/
def execPersistCopy (s : State) : Host.Outcome State Fault Refusal :=
  match s.recorder.copies with
  | [] => .next s
  | r :: rest =>
    let s := s.setRecorder { s.recorder with copies := rest }
    if s.keeper.failed then .next s
    else .next (copyRecord ((s.recorder.held.find? (fun p => p.seq == r.seq)).getD r) s)

/-- PERSIST_REFRESH: the copy of the record that repeats is written again, a second or more after it was written last
(R420). -/
def execPersistRefresh (s : State) : Host.Outcome State Fault Refusal :=
  match s.recorder.held.getLast? with
  | none => .next s
  | some r => .next (if s.copyBehind r && Nat.ble (s.recorder.refreshed + 1000000) s.us then copyRecord r s else s)

/-- PSEQ at BOOT: on from the highest whose CRC passes (R420). -/
def bootPseq (s : State) : State :=
  s.setRecorder { s.recorder with pseqNext := match s.highestPseq with | some p => (p.1 + 1) % 2 ^ 32 | none => 1 }

/-! The writer (R415 to R419). -/

/-- A record written with the next SEQ (R413, R415, R418, R419, R420). -/
def writeRecord (e : Event) (s : State) : State :=
  let r := s.recorder
  let old := if Nat.blt r.held.length recordSlots then none else lowestRank r.held
  let slot := match old with
    | some o => o.slot
    | none => r.held.length
  let kept := match old with
    | some o => r.held.filter (fun p => p.seq != o.seq)
    | none => r.held
  let g := (mget r.gens slot 0 + 1) % 65536
  let new : Record := { slot, seq := r.seqNext, gen := g, pseq := 0, persisted := false, ev := e }
  let before := r.held.getLast?
  let s := s.setRecorder { r with held := kept ++ [new], gens := mset r.gens slot g 0, seqNext := r.seqNext + 1 }
  let s := match before with
    | some p => if p.ev.severity = sevFatal && s.copyBehind p then queueCopy p s else s
    | none => s
  let s := if e.severity = sevFatal then queueCopy new s else s
  raiseAlert e.severity e.area s

/-- A record that the recorder makes itself (R417, R422). -/
def State.synthetic (s : State) (severity code : Nat) (detail : Bytes) : Event :=
  { severity, area := code / 256, unit := 0, code, repeats := 0, synthetic := true, mtValid := s.counting,
    mtFirst := s.mt, mtLast := s.mt, upMs := Nat.min (s.us / 1000) 0xFFFFFFFF, detail }

/-- The writer takes the oldest item, whose entry the record of the lost events fills (R415, R417), and makes it a record. -/
def writeNext (s : State) : State :=
  match s.recorder.intake with
  | [] => s
  | e :: rest =>
    let r := s.recorder
    let lost := s.synthetic sevWarning 0x4801 (leBytes 4 r.lost ++ [0, 0, 0, 0] ++ leBytes 8 r.lostMt)
    let s := if r.lost = 0 then s.setRecorder { r with intake := rest }
      else s.setRecorder { r with intake := rest ++ [lost], lost := 0, lostMt := 0 }
    writeRecord e s

/-- RECORD_WRITE. -/
def execRecordWrite (s : State) : Host.Outcome State Fault Refusal := .next (writeNext s)

/-- REC_CLEAR (R422): every slot emptied, GEN kept, and the record of the clear written first. -/
def hRecClear (w : Route) : Handler := Handler.doing (fun v s =>
  if v = 0 then .ok s
  else
    let n := s.recorder.held.length
    let top := match s.recorder.held.getLast? with
      | some h => h.seq
      | none => 0
    let s := (s.setRecorder { s.recorder with held := [] }).rset .REC_LOST 0 0
    .ok (writeRecord (s.synthetic sevNotice 0x4802
      (leBytes 1 (controllerOf w) ++ List.replicate 7 0 ++ leBytes 4 n ++ leBytes 4 top)) s))

/-- REC_CLEAR. -/
def execRecClear (w : Route) (v : Nat) (s : State) : Host.Outcome State Fault Refusal := write w .REC_CLEAR 0 v (hRecClear w) s

/-- The held record that REC_SEL names, the highest where several match (R413). -/
def State.selectedRecord (s : State) (sel : Nat) : Option Record :=
  (s.recorder.held.filter (fun p => p.seq % 2 ^ 32 == sel)).getLast?

/-- A slot's 64 bytes as binding 6 of a data port reads them (R419, R421). -/
def State.slotBytes (s : State) (slot : Nat) : Bytes :=
  match s.recorder.held.find? (fun p => p.slot == slot) with
  | some r => r.bytes
  | none => leBytes 8 allOnes64 ++ leBytes 2 (mget s.recorder.gens slot 0) ++ List.replicate 54 0

/-- The copies in descending PSEQ, which PF_SEL counts (R420). -/
def State.pfRecords (s : State) : List (Nat × BitVec 512) :=
  s.fatalCopies.foldl
    (fun l p => l.takeWhile (fun q => Nat.blt (sectorPseq p.2) (sectorPseq q.2)) ++ [p]
      ++ l.dropWhile (fun q => Nat.blt (sectorPseq p.2) (sectorPseq q.2))) []

end Sys2Proof.Machine
end

