-- ==== Sys2Proof/Machine/DataPorts.lean ====
section
/-! DEFINITION. The data ports of area 0x70 (R350, R351, R364): bindings, and transfers between DP_DATA and the space bound. -/

namespace Sys2Proof.Machine

/-- DP_LIMIT of a binding (R350). -/
def dpLimit (bind : Nat) : Nat :=
  match bind with
  | 1 => 0xFFFFFFFF
  | 2 => 1228800
  | 3 => 8192
  | 4 => 8192
  | 5 => 262144
  | 6 => 524288
  | _ => 0

/-- DP_TARGET names something that the binding has (R350). -/
def dpTargetOk (bind target : Nat) : Bool :=
  match bind with
  | 1 => target == 0
  | 2 => Nat.blt target 1024
  | 3 => Nat.blt target 128
  | 4 => Nat.blt target 1024
  | 5 => Nat.blt target bankCount
  | 6 => target == 0
  | _ => true

/-- DATA_ERR and OVERRUN of a port, as DP_STATUS holds them. -/
def setDpError (n : Nat) (overrun : Bool) (s : State) : State :=
  s.rset .DP_STATUS n (s.rget .DP_STATUS n % 4 + flagBit overrun 2)

/-- DATA_ERR set, until the next bind. -/
def setDataErr (n : Nat) (s : State) : State := s.rset .DP_STATUS n (Nat.lor (s.rget .DP_STATUS n) 2)

/-- DP_STATUS (R364). -/
def State.dpStatus (s : State) (n : Nat) : Nat := s.rget .DP_STATUS n + flagBit (s.rget .DP_BIND n != 0) 0

/-- DP_BIND (R350): one port alone may hold the loader; DP_ADDR returns to 0, and DATA_ERR and OVERRUN clear. -/
def hDpBind (n : Nat) : Handler := Handler.doing (fun v s =>
  if v = 1 && (List.range 8).any (fun m => m != n && s.rget .DP_BIND m == 1) then .error 6
  else .ok (({ s with ctl := { s.ctl with owed := s.ctl.owed.filter (· != n) } }.rset .DP_BIND n v).rclear n [.DP_ADDR, .DP_STATUS]))

/-- DP_BIND_WRITE. -/
def execDpBindWrite (w : Route) (n v : Nat) (s : State) : Host.Outcome State Fault Refusal := write w .DP_BIND n v (hDpBind n) s

/-- DP_TARGET (R350): DP_ADDR returns to 0. -/
def hDpTarget (n : Nat) : Handler :=
  { range := fun v s => dpTargetOk (s.rget .DP_BIND n) v
    act := fun v s => .ok ((s.rset .DP_TARGET n v).rset .DP_ADDR n 0) }

/-! Judgement (R350, R351, R354, R360). -/

/-- A load from LOAD_SRC 3 is in progress. -/
def State.streamsHere (s : State) : Bool := s.load.active && s.load.source == 3

/-- The debug bus master, as which a port reads and writes banks (R350). -/
def dpMaster : Requester := .plaza .debug

/-- A transfer that the binding refuses with 0x03. -/
def State.dpRefused (s : State) (n : Nat) (writes : Bool) : Bool :=
  match s.rget .DP_BIND n with
  | 1 => !writes
  | 2 => writes && !s.rflag .IP_RAW_ALLOWED
  | 3 => writes
  | 4 => writes
  | 5 => writes && !(settleHandover (s.rget .DP_TARGET n) dpMaster s).mayAccess (s.rget .DP_TARGET n) dpMaster true
  | 6 => writes
  | _ => false

/-- A transfer outside the space: beyond DP_LIMIT, of a target that does not exist, or not at the loader's place. -/
def State.dpOutside (s : State) (n len : Nat) : Bool :=
  let b := s.rget .DP_BIND n
  b != 0 && (!dpTargetOk b (s.rget .DP_TARGET n) || Nat.blt (dpLimit b) (s.rget .DP_ADDR n + len)
    || (b == 1 && s.streamsHere && s.rget .DP_ADDR n != s.load.stream.length))

/-- The device state does not permit a transfer. -/
def State.dpWrongState (s : State) (n : Nat) : Bool :=
  if s.rget .DP_BIND n = 1 then (stateRefusal .runHold s.dev).isSome && s.dev != .loading || !s.streamsHere
  else (stateRefusal .anyLive s.dev).isSome

/-- The abort of a transfer before anything moves, in the order of R354; none where it may proceed. -/
def State.dpRefusal (s : State) (w : Route) (n len : Nat) (writes : Bool) : Option Nat :=
  if Nat.ble El.DP_DATA.info.cnt n then some 1
  else if w == .loader || Nat.blt (rightsOf s w) El.DP_DATA.info.rights || s.dpRefused n writes then some 3
  else if Nat.blt El.DP_DATA.info.size len then some 2
  else if s.dpOutside n len then some 4
  else if s.dpWrongState n then some 5
  else if s.rget .DP_BIND n = 0 then some 6
  else none

/-! Frames of a plane (R285, R351). -/

/-- A plane that a port may not touch now: in service, or LOADING under the configuration controller. -/
def State.dpPlaneBusy (s : State) (plane : Nat) : Bool :=
  !s.ipWrites plane && (s.inService plane || (s.plane plane).state == 1)

/-- A damaged frame met by a port: its ticket in TICKET_LAST and abort 0x0A, or 0x06 while the priority list is full (R321). -/
def dpDamaged (plane frame : Nat) (s : State) : Nat × State :=
  if s.repairRefused plane frame then (6, s)
  else
    let p := enqueueRepair plane frame 1 s
    (0x0A, p.2.rset .TICKET_LAST 0 p.1)

/-- Bytes put into a frame from a byte on. -/
def patchFrame (old : BitVec 2048) (offset : Nat) (bs : Bytes) : BitVec 2048 :=
  let b := leBytes 256 old.toNat
  BitVec.ofNat 2048 (leVal (b.take offset ++ bs ++ b.drop (offset + bs.length)))

/-- A whole frame written through a port: one that does not verify as it is read back is refused as damaged (log entry 211). -/
def dpPutFrame (plane frame : Nat) (data : BitVec 2048) (s : State) : Option Nat × State :=
  let r := ipWriteFrame plane frame data s
  if r.1 then (none, r.2)
  else
    let d := dpDamaged plane frame r.2
    (some d.1, d.2)

/-- One frame, or a part of it, written: an abort, or the state. -/
def dpWriteFrame (plane frame offset : Nat) (bs : Bytes) (s : State) : Option Nat × State :=
  if s.dpPlaneBusy plane then (some 6, s)
  else if bs.length = 256 then dpPutFrame plane frame (BitVec.ofNat 2048 (leVal bs)) s
  else match s.portRead plane frame with
    | .good v => dpPutFrame plane frame (patchFrame v offset bs) s
    | .fixed v => dpPutFrame plane frame (patchFrame v offset bs) (s.rinc .CS_CORRECTED)
    | .damaged _ =>
      let r := dpDamaged plane frame s
      (some r.1, r.2)

/-- A plane written frame by frame from a byte on, up to the first frame refused: the abort, and where it stopped. -/
def dpWritePlane (plane : Nat) : Nat → Nat → Bytes → State → Option Nat × Nat × State
  | 0, addr, _, s => (none, addr, s)
  | fuel + 1, addr, bs, s =>
    match bs with
    | [] => (none, addr, s)
    | _ :: _ =>
      let part := bs.take (256 - addr % 256)
      let r := dpWriteFrame plane (addr / 256) (addr % 256) part s
      match r.1 with
      | some c => (some c, addr, r.2)
      | none => dpWritePlane plane fuel (addr + part.length) (bs.drop part.length) r.2

/-- Frames of a plane read whole, in turn: an abort, or their bytes. -/
def dpReadFrames (plane : Nat) : Nat → Nat → State → Except Nat Bytes × State
  | 0, _, s => (.ok [], s)
  | k + 1, frame, s =>
    if s.dpPlaneBusy plane then (.error 6, s)
    else
      let one : Except Nat (BitVec 2048) × State :=
        match s.portRead plane frame with
        | .good v => (.ok v, s)
        | .fixed v => if s.repairRefused plane frame then (.error 6, s) else (.ok v, (enqueueRepair plane frame 1 s).2)
        | .damaged _ =>
          let r := dpDamaged plane frame s
          (.error r.1, r.2)
      match one.1 with
      | .error c => (.error c, one.2)
      | .ok v =>
        let r := dpReadFrames plane k (frame + 1) one.2
        match r.1 with
        | .error c => (.error c, r.2)
        | .ok bs => (.ok (leBytes 256 v.toNat ++ bs), r.2)

/-! Banks (R350). -/

/-- Words of a bank read in turn: an error indication reads as 0xFF bytes and sets DATA_ERR. -/
def dpReadWords (port bank : Nat) : Nat → Nat → State → Bytes × State
  | 0, _, s => ([], s)
  | k + 1, addr, s =>
    let ix := requesterIndex bank trunkHome dpMaster
    let r := readWord bank addr ix.1 ix.2 s
    let s := if r.1.2 then setDataErr port r.2 else r.2
    let rest := dpReadWords port bank k (addr + 1) s
    ((if r.1.2 then List.replicate 8 0xFF else leBytes 8 r.1.1.toNat) ++ rest.1, rest.2)

/-- Bytes written into a bank from a byte on, word by word. -/
def dpWriteWords (bank : Nat) : Nat → Nat → Bytes → State → State
  | 0, _, _, s => s
  | fuel + 1, addr, bs, s =>
    match bs with
    | [] => s
    | _ :: _ =>
      let part := bs.take (8 - addr % 8)
      let data := leVal part * 2 ^ (8 * (addr % 8))
      let enables := (2 ^ part.length - 1) * 2 ^ (addr % 8)
      let ix := requesterIndex bank trunkHome dpMaster
      let r := plazaWriteWord bank (addr / 8) ix.1 ix.2 (BitVec.ofNat 64 data) enables s
      dpWriteWords bank fuel (addr + part.length) (bs.drop part.length) r.2

/-! Transfers. -/

/-- Bytes of a bit image from a byte on (R183). -/
def imageBytes (v : BitVec 65536) (addr len : Nat) : Bytes := leBytes len (v.toNat / 2 ^ (8 * addr))

/-- The bytes of a read, or its abort (R350, R351). -/
def dpFetch (n len : Nat) (s : State) : Except Nat Bytes × State :=
  let addr := s.rget .DP_ADDR n
  let target := s.rget .DP_TARGET n
  match s.rget .DP_BIND n with
  | 2 =>
    let frames := if len = 0 then 0 else (addr + len - 1) / 256 - addr / 256 + 1
    let r := dpReadFrames target frames (addr / 256) s
    (r.1.map (fun bs => (bs.drop (addr % 256)).take len), r.2)
  | 3 => (.ok (imageBytes (s.flop (captureKey target)) addr len), s)
  | 4 => (.ok (imageBytes (s.flop (shadowKey (target / 8) (target % 8))) addr len), s)
  | 5 =>
    let s := if len = 0 then s else settleHandover target dpMaster s
    if len = 0 then (.ok [], s)
    else if !s.mayAccess target dpMaster false then (.ok (List.replicate len 0xFF), setDataErr n (denied target dpMaster s))
    else
      let words := (addr + len - 1) / 8 - addr / 8 + 1
      let r := dpReadWords n target words (addr / 8) (settleBank target dpMaster debugClass s)
      (.ok ((r.1.drop (addr % 8)).take len), r.2)
  | 6 =>
    let slots := if len = 0 then 0 else (addr + len - 1) / 64 - addr / 64 + 1
    let bs := (List.range slots).flatMap (fun i => s.slotBytes (addr / 64 + i))
    (.ok ((bs.drop (addr % 64)).take len), s)
  | _ => (.error 3, s)

/-- A read of DP_DATA: the answer's status and data, DP_ADDR moved on by the bytes moved (R350). -/
def dpRead (w : Route) (n len : Nat) (s : State) : Except Nat Bytes × State :=
  match s.dpRefusal w n len false with
  | some c => (.error c, refusedWith w (eidOf .DP_DATA n) c s)
  | none =>
    let r := dpFetch n len s
    match r.1 with
    | .error c => (.error c, r.2)
    | .ok bs => (.ok bs, r.2.rset .DP_ADDR n (s.rget .DP_ADDR n + bs.length))

/-- A write that may proceed: its abort if it stops, and the state with DP_ADDR where it stopped (R350, R351). -/
def dpStore (n : Nat) (bs : Bytes) (s : State) : Option Nat × State :=
  let addr := s.rget .DP_ADDR n
  let target := s.rget .DP_TARGET n
  match s.rget .DP_BIND n with
  | 1 =>
    if Nat.blt streamBuffer (s.bufferedBytes + bs.length) && s.bufferedBytes != 0 then
      (some 0x0B, setDpError n true { s with ctl := { s.ctl with owed := (s.ctl.owed.filter (· != n)) ++ [n] } })
    else (none, (setDpError n false (feed bs s)).rset .DP_ADDR n (addr + bs.length))
  | 2 =>
    let r := dpWritePlane target (bs.length + 1) addr bs (setDpError n false s)
    (r.1, r.2.2.rset .DP_ADDR n r.2.1)
  | _ =>
    let s := settleBank target dpMaster debugClass (settleHandover target dpMaster (setDpError n false s))
    (none, (dpWriteWords target (bs.length + 1) addr bs s).rset .DP_ADDR n (addr + bs.length))

/-- A write of DP_DATA (R351): the abort, if any, and the state. -/
def dpWrite (w : Route) (n : Nat) (bs : Bytes) (s : State) : Option Nat × State :=
  match s.dpRefusal w n bs.length true with
  | some c => (some c, refusedWith w (eidOf .DP_DATA n) c (if Nat.blt n 8 then setDpError n false s else s))
  | none => dpStore n bs s

/-- A transfer's status, data and what it leaves. -/
def dpWritten (r : Option Nat × State) : Nat × Bytes × State := (r.1.getD 0, [], r.2)
def dpWasRead (r : Except Nat Bytes × State) : Nat × Bytes × State :=
  match r.1 with
  | .ok bs => (0, bs, r.2)
  | .error c => (c, [], r.2)

/-- DP_DATA_WRITE. -/
def execDpDataWrite (w : Route) (n : Nat) (bytes : Bytes) (s : State) : Host.Outcome State Fault Refusal :=
  .next (if heard s w then inTurn w (HeldRequest.writes (eidOf .DP_DATA n) bytes) (fun s => dpWritten (dpWrite w n bytes s)) s else s)

/-- DP_DATA_READ. -/
def execDpDataRead (w : Route) (n len : Nat) (s : State) : Host.Outcome State Fault Refusal :=
  .next (if heard s w then inTurn w (HeldRequest.reads (eidOf .DP_DATA n) len) (fun s => dpWasRead (dpRead w n len s)) s else s)

end Sys2Proof.Machine
end

