-- ==== Sys2Proof/Machine/Locks.lean ====
section
/-! DEFINITION. The Expert lock (R356) and the alert's acknowledgement (R345). -/

namespace Sys2Proof.Machine

/-- EXPERT_LOCK (R356): 1 takes the lock for the sender, whom the judgement lets through only where it is free or its own; 0 of
the holder releases it. -/
def hExpertLock (w : Route) : Handler := Handler.doing (fun v s =>
  .ok (if v = 1 then s.rset .LOCK_OWNER 0 (controllerOf w) else releaseLockOf (controllerOf w) s))

/-- EXPERT_LOCK. -/
def execExpertLock (w : Route) (v : Nat) (s : State) : Host.Outcome State Fault Refusal :=
  write w .EXPERT_LOCK 0 v (hExpertLock w) s

/-- LOCK_TIMEOUT: the holder has sent no request for the time that LOCK_TIMEOUT names (R356). -/
def execLockTimeout (s : State) : Host.Outcome State Fault Refusal := .next (releaseLock s)

/-- LOCK_BREAK (R356): 1 releases the lock whoever holds it. -/
def hLockBreak : Handler := Handler.doing (fun v s => .ok (if v = 1 then releaseLock s else s))

/-- LOCK_BREAK. -/
def execLockBreak (w : Route) (v : Nat) (s : State) : Host.Outcome State Fault Refusal := write w .LOCK_BREAK 0 v hLockBreak s

/-- ALERT_N is pulled low (R345); elsewhere the open-drain pin is released. -/
def State.alertLow (s : State) : Bool := s.rget .ALERT_PENDING != 0

/-- ALERT_ACK (R345): 1 clears ALERT_PENDING, which ALERT_N follows. -/
def hAlertAck : Handler := Handler.doing (fun v s => .ok (if v = 1 then s.rset .ALERT_PENDING 0 0 else s))

/-- ALERT_ACK. -/
def execAlertAck (w : Route) (v : Nat) (s : State) : Host.Outcome State Fault Refusal := write w .ALERT_ACK 0 v hAlertAck s

end Sys2Proof.Machine
end

