-- ==== Sys2Proof/Machine/CoreUnit.lean ====
section
/-! DEFINITION. The service core as a unit: firmware slots and boot (R389 to R391), core resets (R398), the watchdog (R399,
R400), interrupts and the core-local block (R384 to R386), and the queue mailbox (R388). -/

namespace Sys2Proof.Machine

/-- The core-local block changed. -/
def State.setCore (s : State) (c : ServiceCore) : State := { s with core := c }

/-! The watchdog (R399, R400). -/

/-- The watchdog counts: enabled, past the jump to ENTRY, and not frozen by a debug halt. -/
def State.wdtCounts (s : State) : Bool := s.rflag .WDT_ENABLE && s.run.wdtRuns && s.run.running

/-- A stage of the watchdog begins with the WDT_TIMEOUT in force. -/
def startStage (k : Nat) (s : State) : State :=
  s.setRun { s.run with wdtStage := k, wdtLeft := 1000 * s.rget .WDT_TIMEOUT }

/-- A write of 0x030; 0x0000_C1A5 restarts stage 0 (R384, R399). -/
def kickWatchdog (v : Nat) (s : State) : State := if v = 0xC1A5 && s.run.wdtRuns then startStage 0 s else s

/-- WDT_ENABLE (R399): 0 stops the count, 1 restarts it at stage 0. -/
def hWdtEnable : Handler := Handler.doing (fun v s =>
  match keepValue .WDT_ENABLE 0 v s with
  | .error c => .error c
  | .ok s => .ok (if v = 1 then startStage 0 s else s))

/-- WDT_ENABLE_WRITE. -/
def execWdtEnableWrite (w : Route) (v : Nat) (s : State) : Host.Outcome State Fault Refusal := write w .WDT_ENABLE 0 v hWdtEnable s

/-- The time of the watchdog's present stage has passed (R399); a kick that came before gave it a new one. -/
def State.stageOver (s : State) (k : Nat) : Bool := s.wdtCounts && s.run.wdtStage == k && s.run.wdtLeft == 0

/-- Stage 0 ends: source 8 is raised and stage 1 begins (R399). -/
def endFirstStage (s : State) : State := startStage 1 (latchIrq 8 s)

/-- WDT_FIRST_EXPIRY: stage 0 ends where its time has passed (R399). -/
def execWdtFirstExpiry (s : State) : Host.Outcome State Fault Refusal :=
  .next (if s.stageOver 0 then endFirstStage s else s)

/-! Core resets (R398, R435, R459). -/

/-- The Vault locks where it is unlocked (R127, R398, R469). -/
def lockVault (s : State) : State := if s.rget .VAULT_STATE = 2 then s.rset .VAULT_STATE 0 1 else s

/-- The core starts: in the boot ROM, or held in reset under CUR (R390, R435). -/
def startCore (s : State) : State :=
  let hold := s.dbg.cur
  (s.setRun { CoreRun.reset with running := !hold, held := hold, draw := s.fv }).draw.2.rset .FW_VERSION 0 0

/-- The fragment that the mailbox holds is discarded: it has not waited for its queue's space (R237, R388). -/
def dropStaged (s : State) : State :=
  if s.mbox.waiting then s.setQueue s.mbox.pushTo { s.queue s.mbox.pushTo with waited := false } else s

/-- The windows, the mailbox and the core-local registers that firmware sets, as a core reset leaves them: requests that
wait and responses are discarded, a staged fragment is discarded, latched interrupts stay (R385, R388, R398). -/
def dropCoreWork (s : State) : State :=
  let s := dropStaged s
  let c := s.core
  { s with
    mbox := Mailbox.reset
    ctl := { s.ctl with waiting := s.ctl.waiting.filter (fun r => r.route != .coreM && r.route != .coreU) }
    core := { c with mtimecmp := ServiceCore.reset.mtimecmp, msip := false, timerPending := false, busClass := 3, taskId := 0,
                     irqEnable := 0, dictM := ServiceCore.reset.dictM, dictU := ServiceCore.reset.dictU } }

/-- A reset of the core alone (R398): cause 1 watchdog, 2 RESET_CMD 1, 3 debugger. -/
def coreReset (cause : Nat) (s : State) : State :=
  let s := releaseLockOf 4 (releaseLockOf 3 s)
  let s := startCore (dropCoreWork (lockVault s))
  let s := (s.rinc .CORE_RESETS).rset .CORE_RESET_CAUSE 0 cause
  if cause = 1 then s.raise sevError 0x3801 0 [] else s.raise sevInfo 0x3802 0 []

/-- Stage 1 ends: the core alone is reset (R399). -/
def endSecondStage (s : State) : State := coreReset 1 (s.rinc .WDT_RESETS)

/-- WDT_SECOND_EXPIRY: stage 1 ends where its time has passed (R399). -/
def execWdtSecondExpiry (s : State) : Host.Outcome State Fault Refusal :=
  .next (if s.stageOver 1 then endSecondStage s else s)

/-! Firmware slots (R389 to R391). -/

/-- The first sectors of slots A and B (R392). -/
def slotFirst (i : Nat) : Nat := if i = 0 then 64 else 16448

/-- Bytes of the keeper from a sector on. -/
def State.keeperBytes (s : State) (first n : Nat) : Bytes :=
  (((List.range (ceilDiv n 64)).map (fun i => sectorBytes (mget s.keeper.sectors (first + i) 0))).flatten).take n

/-- Fields of a slot's header (R389). -/
def fwField (h : Bytes) (off n : Nat) : Nat := leVal ((h.drop off).take n)
def fwMagicOk (h : Bytes) : Bool := h.take 4 == [0x4B, 0x57, 0x46, 0x57]
def fwReservedOk (h : Bytes) : Bool := ((h.drop 11).take 5).all (· == 0) && ((h.drop 272).take 240).all (· == 0)
def fwILen (h : Bytes) : Nat := fwField h 16 4
def fwDLen (h : Bytes) : Nat := fwField h 20 4
def fwUILen (h : Bytes) : Nat := 256 * fwField h 24 2
def fwUDLen (h : Bytes) : Nat := 256 * fwField h 26 2
def fwEntry (h : Bytes) : Nat := fwField h 28 4
def fwLengthsOk (h : Bytes) : Bool :=
  Nat.ble (fwILen h) 131072 && Nat.ble (fwDLen h) 131072 && Nat.ble (fwUILen h) 131072 && Nat.ble (fwUDLen h) 131072

/-- The bytes of a slot after its header: instruction image, data image, user part (R389). -/
def State.fwBody (s : State) (i : Nat) (h : Bytes) : Bytes :=
  s.keeperBytes (slotFirst i + 8) (fwILen h + fwDLen h + fwUILen h + fwUDLen h)

/-- The sectors of a slot that the boot ROM reads: its header, and with lengths within their limits what follows it. -/
def fwSectors (i : Nat) (h : Bytes) : List Nat :=
  let n := if fwLengthsOk h then ceilDiv (fwILen h + fwDLen h + fwUILen h + fwUDLen h) 64 else 0
  (List.range (8 + n)).map (fun k => slotFirst i + k)

/-- A slot passes (R390); an uncorrectable read fails it (R392). -/
def State.slotPasses (s : State) (i : Nat) : Bool :=
  let h := s.keeperBytes (slotFirst i) 512
  !s.keeper.failed && (fwSectors i h).all (fun n => !s.keeper.bad.contains n) && fwMagicOk h && fwReservedOk h
    && fwLengthsOk h && Nat.ble s.keeper.fwCounter (fwField h 8 2)
    && sha384 (s.fwBody i h) == (h.drop 32).take 48 && signatureOk Config.firmwareKey (h.take 80) ((h.drop 80).take 96)

/-- The user part of a slot passes, judged as R273 judges an image, with USER_SLOT in place of KEY_SLOT (R390). -/
def State.userPasses (s : State) (h : Bytes) : Bool :=
  let k := fwField h 10 1
  if k = 0xFF then s.takesUnsigned
  else match s.signingKey k with
    | some key => signatureOk key ((h.drop 32).take 48) ((h.drop 176).take 96)
    | none => false

/-- Words of bytes from an address on. -/
def tcmWords : Nat → List Bytes → SMap Nat → SMap Nat
  | _, [], m => m
  | a, w :: ws, m => tcmWords (a + 4) ws (mput m a (leVal w))

/-- Bytes laid into a TCM from an address on. -/
def layBytes (a : Nat) (bs : Bytes) (m : SMap Nat) : SMap Nat := tcmWords a (chunks 4 (ceilDiv bs.length 4) bs) m

/-- The TCMs as the boot ROM leaves them (R382, R390): images in the firmware halves, the user part in the user halves where it
passes. -/
def tcmAtEntry (h body : Bytes) (user : Bool) : SMap Nat :=
  let i := fwILen h
  let d := fwDLen h
  let m := layBytes 0x20000000 ((body.drop i).take d) (layBytes 0x10000000 (body.take i) [])
  if user then
    let u := body.drop (i + d)
    layBytes 0x20020000 ((u.drop (fwUILen h)).take (fwUDLen h)) (layBytes 0x10020000 (u.take (fwUILen h)) m)
  else m

/-- A slot run (R390): images copied, the watchdog started, and the jump to ENTRY. -/
def runSlot (i : Nat) (s : State) : State :=
  let h := s.keeperBytes (slotFirst i) 512
  let part := fwUILen h + fwUDLen h != 0
  let user := part && s.userPasses h
  let s := if part && !user then s.raise sevError 0x3803 0 [] else s
  startStage 0 ((s.setRun { s.run with entered := true, romService := false, wdtRuns := true, fwAr := fwField h 8 2,
                                       dpc := some (fwEntry h), tcm := tcmAtEntry h (s.fwBody i h) user, fresh := true }).rset
    .FW_VERSION 0 (fwField h 4 4))

/-- The slot that the partition table names ACTIVE: the manual gives the table no layout (R392). -/
def State.activeSlot (s : State) : Nat := if Config.activeSlotB (s.keeperBytes 0 2048) then 1 else 0

/-- CORE_BOOT: the boot ROM runs the first slot that passes, ACTIVE first, or stays in ROM service (R390, R391). -/
def execCoreBoot (s : State) : Host.Outcome State Fault Refusal :=
  if !s.run.running || s.run.entered || s.run.romService then .next s
  else
    let a := s.activeSlot
    let read (i : Nat) (s : State) : State := countReads (fwSectors i (s.keeperBytes (slotFirst i) 512)) s
    if s.slotPasses a then .next (runSlot a s)
    else
      let s := read (1 - a) ((read a s).raise sevError 0x3803 0 [])
      if s.slotPasses (1 - a) then .next (runSlot (1 - a) s)
      else
        let s := s.raise sevError 0x3803 0 []
        .next (s.setRun { s.run with romService := true })

/-- A write of 0x06C; 1 raises FW_COUNTER to the running FW_AR (R384, R389, R394). -/
def commitFirmware (v : Nat) (s : State) : State :=
  if v != 1 || !Nat.blt s.keeper.fwCounter s.run.fwAr then s
  else match writeCounter 1 2 s.run.fwAr s with
    | .ok s' => s'.setKeeper { s'.keeper with fwCounter := s.run.fwAr }
    | .error _ => s

/-! Interrupts and memory events (R384 to R386). -/

/-- The machine timer interrupt follows MTIME and MTIMECMP (R384). -/
def settleTimer (s : State) : State := s.setCore { s.core with timerPending := Nat.ble s.core.mtimecmp s.core.mtime }

/-- MTIMECMP_EXPIRY: MTIME has come to MTIMECMP, and the machine timer interrupt is raised (R384). -/
def execMtimecmpExpiry (s : State) : Host.Outcome State Fault Refusal :=
  .next (settleTimer (s.setCore { s.core with mtime := Nat.max s.core.mtime s.core.mtimecmp }))

/-- A write of 0x010 (R384). -/
def writeMsip (v : Nat) (s : State) : State := s.setCore { s.core with msip := bitOf v 0 }

/-- A dictionary window holds a response (R385, R387). -/
def DictWindow.holds (w : DictWindow) : Bool := w.status == 2

/-- IRQ_PENDING (R384, R385): the latched sources, and sources 3 and 4 as their windows stand. -/
def State.irqPending (s : State) : Nat := s.core.irq + flagBit s.core.dictM.holds 3 + flagBit s.core.dictU.holds 4

/-- The machine external interrupt: a source that is pending and enabled drives it (R384, R385). -/
def State.externalInterrupt (s : State) : Bool := Nat.land s.irqPending s.core.irqEnable != 0

/-- The bits of mip that the core-local block drives: the machine software, timer and external interrupts (R384, R385). Their places
are of the RISC-V privileged specification, version 1.12, that R380 names: PRESUMED (entry 166). -/
def State.mip (s : State) : Nat :=
  flagBit s.core.msip 3 + flagBit s.core.timerPending 7 + flagBit s.externalInterrupt 11

/-- A write of 0x048; each bit of 1 clears its latched source (R384). -/
def clearIrq (v : Nat) (s : State) : State := s.setCore { s.core with irq := Nat.xor s.core.irq (Nat.land s.core.irq v) }

/-- MEM_EVENT of the FIFO's head (R386); 0 of an empty FIFO. -/
def State.memEventWord (s : State) : Nat :=
  match s.core.memEvents with
  | [] => 0
  | e :: _ => e.1 + e.2.1 * 2 ^ 12 + e.2.2 * 2 ^ 16

/-- MEM_EVENT_POP: a read of 0x050 takes the oldest memory event (R384, R386). -/
def popMemEvent (s : State) : State := s.setCore { s.core with readOut := s.memEventWord, memEvents := s.core.memEvents.drop 1 }

/-- MEM_EVENT_POP: a load from machine mode (entry 184). -/
def execMemEventPop (s : State) : Host.Outcome State Fault Refusal := .next (coreLoad true 0xB0000050 popMemEvent s.ran)

/-- A read of 0x054 takes the count of dropped memory events and clears it (R384). -/
def takeMemLost (s : State) : State := s.setCore { s.core with readOut := s.core.memLost, memLost := 0 }

/-- MEM_LOST_READ: a load from machine mode (entry 184). -/
def execMemLostRead (s : State) : Host.Outcome State Fault Refusal := .next (coreLoad true 0xB0000054 takeMemLost s.ran)

/-! The queue mailbox (R388). -/

/-- The mailbox changed. -/
def State.setMbox (s : State) (m : Mailbox) : State := { s with mbox := m }

/-- The rows that the staging buffer holds (R388). -/
def stagingRows : Nat := 64

/-- A push or a pop that the mailbox refuses (R228, R388). -/
def refuseMailbox (s : State) : State := refusedQueue (s.setMbox { s.mbox with refused := true })

/-- A queue takes fragments of the service core, or gives it them (R228). -/
def State.coreProduces (s : State) (q : Nat) : Bool := s.qEnabled q && s.qPkind q == 2
def State.coreConsumes (s : State) (q : Nat) : Bool := s.qEnabled q && s.qCkind q == 2

/-- Q_OVERSIZE of a queue that the mailbox names (R230, R388). -/
def countOversize (q : Nat) (s : State) : State := s.rinc .Q_OVERSIZE q

/-- The row written joins the staged fragment; its EOF row starts the push; a 65th row discards the fragment; no row is taken
while a fragment waits (R388). -/
def commitRow (s : State) : State :=
  let m := s.mbox
  let sof := bitOf m.marks 0
  let eof := bitOf m.marks 1
  if m.waiting then s
  else if m.dropping && !sof then s.setMbox { m with dropping := !eof }
  else
    let rows := if sof then [m.row] else m.staged ++ [m.row]
    if Nat.blt stagingRows rows.length then countOversize m.qid (s.setMbox { m with staged := [], dropping := !eof })
    else if !eof then s.setMbox { m with staged := rows, dropping := false }
    else if !s.coreProduces m.qid then refuseMailbox (s.setMbox { m with staged := [], dropping := false })
    else if Nat.blt (s.queueRows m.qid) rows.length then
      countOversize m.qid (s.setMbox { m with staged := [], dropping := false })
    else s.setMbox { m with staged := rows, waiting := true, pushTo := m.qid, refused := false, dropping := false }

/-- The first bytes of the row's registers written. -/
def setRow (row : BitVec 128) (k : Nat) (s : State) : State :=
  let old := s.mbox.row.toNat
  s.setMbox { s.mbox with row := BitVec.ofNat 128 (row.toNat % 2 ^ (8 * k) + old / 2 ^ (8 * k) * 2 ^ (8 * k)) }

/-- MAILBOX_FRAGMENT_PUSH: the fragment that waits is written into its queue where it fits, and otherwise goes on waiting
(R230, R388). -/
def execMailboxFragmentPush (s : State) : Host.Outcome State Fault Refusal :=
  let m := s.mbox
  let q := m.pushTo
  if !m.waiting then .next s
  else if !s.coreProduces q then .next (refuseMailbox (s.setMbox { m with staged := [], waiting := false }))
  else
    let x := s.queue q
    let t := s.tailRows q m.staged.length (s.rget .Q_TAIL q)
    if Nat.blt (s.queueFree q) m.staged.length then
      .next (if x.waited then s else (s.setQueue q { x with waited := true }).rinc .Q_STALLS q)
    else
      let ready := rowsReady (s.qClass q) t.1 s
      if !ready.1 then .next ready.2
      else
        let s := writeRows (List.zipWith (fun r d => (r, d, false)) t.1 m.staged) ready.2
        let s := (s.rset .Q_TAIL q t.2).setQueue q { s.queue q with frags := x.frags ++ [t.1], waited := false }
        .next ((s.rinc .Q_FRAGMENTS q).setMbox { m with staged := [], waiting := false })

/-- The next fragment of the queue named for pops is presented, its rows read and not freed yet (R233, R234, R388). -/
def presentFragment (s : State) : State :=
  let m := s.mbox
  match (s.queue m.popQid).frags with
  | [] => s
  | rows :: _ =>
    let ready := rowsReady (s.qClass m.popQid) rows s
    if m.shown != [] || !s.coreConsumes m.popQid then s
    else if !ready.1 then ready.2
    else
      let d := deliverRows rows ready.2
      let s := if d.1.2 then resyncQueue m.popQid d.2 else d.2
      s.setMbox { m with shown := d.1.1, first := true, frees := !d.1.2 }

/-- The queue that pops name, written at 0x040 (R388): what another queue presented stays in it. -/
def namePops (q : Nat) (s : State) : State :=
  let s := if s.mbox.popQid = q then s else s.setMbox { s.mbox with popQid := q, shown := [], first := false, frees := false }
  if s.coreConsumes q then presentFragment (s.setMbox { s.mbox with refused := false }) else refuseMailbox s

/-- The row presented is taken, its fragment freed with its last row, and the next one presented (R388). -/
def takePresented (s : State) : State :=
  let m := s.mbox
  match m.shown with
  | [] => presentFragment (s.setMbox { m with taken := none })
  | r :: rest =>
    let s := s.setMbox { m with taken := some r, shown := rest, first := false }
    if rest.isEmpty then
      let x := s.queue m.popQid
      presentFragment (if m.frees then s.setQueue m.popQid { x with frags := x.frags.drop 1 } else s)
    else s

/-- A read of 0x05C takes the row that is presented, and advances (R388). -/
def advancePops (s : State) : State := if s.coreConsumes s.mbox.popQid then takePresented s else s

/-- Bits 0 to 3 of 0x044 for the row presented (R388): SOF, EOF, ERR, EMPTY. -/
def State.popFlags (s : State) : Nat :=
  match s.mbox.shown with
  | [] => 8
  | r :: rest => flagBit s.mbox.first 0 + flagBit rest.isEmpty 1 + flagBit r.2 2

end Sys2Proof.Machine
end

