-- ==== Sys2Proof/Machine/RunControl.lean ====
section
/-! DEFINITION. Core run control, triggers and fabric watchpoints (R431 to R440): halts and their deferral, resume, chains, and
the detachment of a debugger. -/

namespace Sys2Proof.Machine

/-- The debug port changed. -/
def State.setDbg (s : State) (d : DebugPort) : State := { s with dbg := d }

/-! Halts (R400, R432, R433). -/

/-- A halt falls due (R432, R433): at once, or deferred inside a locked sequence; none on a core that does not run. -/
def requestHalt (cause trigger : Nat) (locked : Bool) (s : State) : State :=
  let r := s.run
  if !r.running then s
  else if locked then
    s.setRun { r with deferred := some (r.deferred.getD (cause, trigger)), reservation := true, stepping := false }
  else takeHalt cause trigger false s

/-- DEFERRED_HALT: the boundary after the SC.W (R433). -/
def execDeferredHalt (s : State) : Host.Outcome State Fault Refusal := .next (takeDeferred false s)

/-- LOCK_BROKEN_TIMEOUT: 256 core cycles after the halt fell due (R433). -/
def execLockBrokenTimeout (s : State) : Host.Outcome State Fault Refusal :=
  .next (if s.run.deferred.isSome && s.run.running then (takeDeferred true s).raise sevWarning 0x5803 0 [] else s)

/-- The core goes on from a halt (R400, R431 to R433): the watchdog with at least 1 ms left, the INFO record written. -/
def releaseHalt (s : State) : State :=
  let r := s.run
  let d := s.draw
  (d.2.setRun { r with
    running := true, halted := false, lockBroken := false, stepping := s.dbg.step,
    wdtLeft := if r.wdtRuns then Nat.max r.wdtLeft 1000 else r.wdtLeft
    draw := d.1, dpc := none, gprs := [], csrs := [], tcm := [], fresh := false }).raise sevInfo 0x3806 0 []

/-- A core held in reset by CUR is released halted at 0x0000_0000, with cause 5 (R435). -/
def releaseHeld (s : State) : State :=
  (s.setRun { s.run with held := false, halted := true, running := false, cause := 5, trigger := 0, dpc := some 0 }).raise
    sevInfo 0x3806 0 []

/-- RESUME (R432, R435); no effect on a running core. -/
def resumeCore (s : State) : State :=
  if s.run.held then releaseHeld s else if s.run.halted then releaseHalt s else s

/-! Triggers (R436 to R438). -/

/-- The triggers. -/
def triggerCount : Nat := 14

/-- A trigger as the debug registers' reset leaves it: ACCESS 3 (R436). -/
def Trigger.reset : Trigger := { addr := 0, limit := 0, ctrl := 0x18, hits := 0, armed := false }

/-- A trigger. -/
def State.trigger (s : State) (n : Nat) : Trigger := mget s.dbg.triggers n Trigger.reset

/-- A trigger changed. -/
def State.setTrigger (s : State) (n : Nat) (t : Trigger) : State :=
  s.setDbg { s.dbg with triggers := mset s.dbg.triggers n t Trigger.reset }

/-- The fields of TCTRL (R436). -/
def Trigger.enabled (t : Trigger) : Bool := bitOf t.ctrl 0
def Trigger.access (t : Trigger) : Nat := bitsOf t.ctrl 4 3
def Trigger.link (t : Trigger) : Nat := bitsOf t.ctrl 8 5
def Trigger.chains (t : Trigger) : Bool := bitOf t.ctrl 9
def Trigger.halts (t : Trigger) : Bool := bitOf t.ctrl 31

/-- The triggers as a list, with their numbers. -/
def State.triggerList (s : State) : List (Nat × Trigger) := (List.range triggerCount).map (fun n => (n, s.trigger n))

/-- The enabled triggers that name a trigger as their LINK with CHAIN (R437). -/
def linksTo (ts : List (Nat × Trigger)) (n : Nat) : List Nat :=
  (ts.filter (fun p => p.2.enabled && p.2.chains && p.2.link == n)).map (·.1)

/-- A trigger is the head of its chain (R437). -/
def State.isHead (s : State) (n : Nat) : Bool := (linksTo s.triggerList n).isEmpty

/-- A trigger can hit now, ARMED (R436, R437). -/
def State.armed (s : State) (n : Nat) : Bool := (s.trigger n).enabled && (s.isHead n || (s.trigger n).armed)

/-- The members of a chain after a trigger, through enabled members (R437). -/
def chainAfter (ts : List (Nat × Trigger)) : Nat → Nat → List Nat
  | 0, _ => []
  | k + 1, n =>
    match ts.find? (fun p => p.1 == n) with
    | some p => if p.2.enabled && p.2.chains then p.2.link :: chainAfter ts k p.2.link else []
    | none => []

/-- The members of a chain before a trigger. -/
def chainBefore (ts : List (Nat × Trigger)) : Nat → Nat → List Nat
  | 0, _ => []
  | k + 1, n =>
    match linksTo ts n with
    | [] => []
    | m :: _ => m :: chainBefore ts k m

/-- The chain limits hold around a trigger (R437): at most 4 triggers, one predecessor each, no loop. -/
def chainOk (ts : List (Nat × Trigger)) (n : Nat) : Bool :=
  let after := chainAfter ts triggerCount n
  let before := chainBefore ts triggerCount n
  !after.contains n && Nat.ble (after.length + before.length + 1) 4
    && (n :: (after ++ before)).all (fun m => Nat.ble (linksTo ts m).length 1)

/-- The qualifiers of a trigger hold (R438). -/
def State.qualified (s : State) (t : Trigger) : Bool :=
  (!bitOf t.ctrl 11 || s.core.taskId == bitsOf t.ctrl 19 12)
    && (!bitOf t.ctrl 20 || (s.clocked (bitsOf t.ctrl 27 21) && (s.dist (bitsOf t.ctrl 27 21)).ctx == bitsOf t.ctrl 30 28))

/-- An armed trigger is hit (R437): counted; a chaining member arms its LINK, the last member takes its ACTION. -/
def hitTrigger (n : Nat) (locked : Bool) (s : State) : State :=
  let t := s.trigger n
  if !s.armed n || !s.qualified t then s
  else
    let s := s.setTrigger n { t with hits := Nat.min (t.hits + 1) 0xFFFFFFFF, armed := false }
    if t.chains then
      let l := s.trigger t.link
      if l.enabled then s.setTrigger t.link { l with armed := true } else s
    else if t.halts then requestHalt 2 n locked s
    else s

/-- CODE_BREAKPOINT_HIT: an instruction at TADDR is about to execute (R436); a halt stands at it, and at ENTRY before the firmware
has executed anything the TCMs are as the boot ROM left them (R390, log entry 219). -/
def execCodeBreakpointHit (n : Nat) (locked : Bool) (s : State) : Host.Outcome State Fault Refusal :=
  if !Nat.blt n 8 || !s.run.running then .next s
  else
    let t := hitTrigger n locked s
    let a := (s.trigger n).addr
    .next (if t.run.halted then
        t.setRun { t.run with dpc := some a, fresh := s.run.fresh && s.run.dpc == some a,
                              tcm := if s.run.fresh && s.run.dpc == some a then s.run.tcm else t.run.tcm }
      else t)

/-- DATA_WATCHPOINT_HIT: a load or a store touches a byte from TADDR to TLIMIT (R436). -/
def execDataWatchpointHit (n : Nat) (store locked : Bool) (s : State) : Host.Outcome State Fault Refusal :=
  if Nat.blt n 8 || !Nat.blt n 12 || !s.run.running || !bitOf (s.trigger n).access (if store then 1 else 0) then .next s
  else .next (hitTrigger n locked s)

/-- The breakpoint exception of the privileged specification (R432): mcause 3; mtval, 0 or the address of the instruction, is
free. A trap ends a locked sequence (R433). PRESUMED (log entry 166). -/
def breakpointTrap (s : State) : State :=
  let d := s.draw
  coreTrap 3 (Config.breakpointValue d.1).toNat d.2

/-- EBREAK: a halt with cause 4 while a debugger is attached, and the breakpoint exception otherwise (R432); a core that does not run
executes none. -/
def execEbreak (locked : Bool) (s : State) : Host.Outcome State Fault Refusal :=
  .next (if !s.run.running then s else if s.rflag .DBG_ATTACHED then requestHalt 4 0 locked s else breakpointTrap s)

/-- STEP_HALT: the single step has executed its instruction (R431, R433). -/
def execStepHalt (locked : Bool) (s : State) : Host.Outcome State Fault Refusal :=
  .next (if s.run.stepping then requestHalt 3 0 locked s else s)

/-! Fabric watchpoints (R439). -/

/-- The trigger of a fabric watchpoint. -/
def fabricTrigger (w : Nat) : Nat := 12 + w

/-- MODE 1 captures that still wait in a District (R182). -/
def State.waitsForWatchpoint (s : State) (d : Nat) : Bool :=
  let c := s.rget .CAPTURE_CTRL d
  captureState c == 1 && bitOf c 1

/-- A watchpoint stops waiting without firing; with none left that names its District, a MODE 1 capture there ends MISSED
(R182). -/
def stopWaiting (w : Nat) (s : State) : State :=
  if s.rflag .FWP_ENABLE w then
    let s := s.rset .FWP_ENABLE w 0
    let d := s.rget .FWP_DISTRICT w
    if s.waitsForWatchpoint d && !(s.rflag .FWP_ENABLE (1 - w) && s.rget .FWP_DISTRICT (1 - w) = d) then captureMissed d s
    else s
  else s

/-- FWP_ENABLE (R377, R439). -/
def hFwpEnable (w : Nat) : Handler :=
  { range := fun v s => v == 0 || Nat.ble (s.rget .FWP_FIRST w) (s.rget .FWP_LAST w)
    act := fun v s => .ok (if v = 1 then s.rset .FWP_ENABLE w 1 else stopWaiting w s) }

/-- FWP_ENABLE_WRITE. -/
def execFwpEnableWrite (w : Route) (n v : Nat) (s : State) : Host.Outcome State Fault Refusal := write w .FWP_ENABLE n v (hFwpEnable n) s

/-- The other settings of a watchpoint, refused while it is enabled (R377). -/
def hFwpField (e : El) (n : Nat) : Handler :=
  { range := fun v _ => e != .FWP_CTX || Nat.ble v 7 || v == 0xFF
    act := fun v s => if s.rflag .FWP_ENABLE n then .error 6 else .ok (s.rset e n v) }

/-- The present fabric cycle meets a watchpoint (R439). -/
def State.watchpointMet (s : State) (w : Nat) : Bool :=
  let d := s.rget .FWP_DISTRICT w
  let c := s.rget .FWP_CTX w
  let n := fabricTrigger w
  s.rflag .FWP_ENABLE w && s.counting && Nat.ble (s.rget .FWP_FIRST w) s.mt && Nat.ble s.mt (s.rget .FWP_LAST w)
    && s.clocked d && (c == 0xFF || c == (s.dist d).ctx) && (!(s.trigger n).enabled || s.armed n)

/-- FWP_FIRE: a watchpoint fires in the first cycle that meets it (R439): counted, disabled, and, as the last of its chain, the
capture cycle of its District. -/
def execFwpFire (n : Nat) (locked : Bool) (s : State) : Host.Outcome State Fault Refusal :=
  if !Nat.blt n 2 || !s.watchpointMet n then .next s
  else
    let t := s.trigger (fabricTrigger n)
    let d := s.rget .FWP_DISTRICT n
    let s := (s.rinc .FWP_HITS n).rset .FWP_ENABLE n 0
    let s := if !(t.enabled && t.chains) && s.waitsForWatchpoint d then captureNow d s else s
    .next (if t.enabled then hitTrigger (fabricTrigger n) locked s else s)

/-- FWP_WINDOW_PASSED: FWP_LAST has passed without a firing (R439). -/
def execFwpWindowPassed (n : Nat) (s : State) : Host.Outcome State Fault Refusal :=
  .next (if Nat.blt n 2 && s.counting && Nat.blt (s.rget .FWP_LAST n) s.mt then stopWaiting n s else s)

/-! Detachment (R440). -/

/-- A trigger disabled. -/
def disableTrigger (n : Nat) (s : State) : State :=
  let t := s.trigger n
  s.setTrigger n { t with ctrl := t.ctrl - t.ctrl % 2, armed := false }

/-- DBG_ATTACHED clears (R440): triggers disabled, CUR cleared, a halted or held core goes on, the INFO record written. -/
def detach (s : State) : State :=
  if !s.rflag .DBG_ATTACHED then s
  else
    let s := stopWaiting 1 (stopWaiting 0 (s.rset .DBG_ATTACHED 0 0))
    let s := (List.range triggerCount).foldl (fun t n => disableTrigger n t) (s.setDbg { s.dbg with cur := false })
    if s.run.halted then
      let s := releaseHalt s
      s.setRun { s.run with stepping := false }
    else if s.run.held then (s.setRun { s.run with held := false, running := true }).raise sevInfo 0x3806 0 []
    else s.raise sevInfo 0x3806 0 []

end Sys2Proof.Machine
end

