-- ==== Sys2Proof/Machine/Lifecycle.lean ====
section
/-! DEFINITION. The lifecycle and its token (R441 to R446), key installation (R377), fabric freeze (R378), and tamper (R447). -/

namespace Sys2Proof.Machine

/-- JTAG is open (R425). -/
def State.jtagOpen (s : State) : Bool := s.life == .blank || s.life == .opened || s.life == .returned

/-! The record (R441). -/

/-- The lifecycle of a code; none where it names none. -/
def lifecycleOf (v : Nat) : Option Lifecycle :=
  if v = 0 then some .blank else if v = 1 then some .provisioned else if v = 2 then some .field
  else if v = 3 then some .opened else if v = 4 then some .returned else none

/-- The counter of R394 in whose manner the record is kept. -/
def lifecycleCounter : Nat := 4

/-- A copy of the record whose CRC passes: lifecycle, PENDING and count (R393, R441). -/
def State.lifecycleCopy (s : State) (i : Nat) : Option (Nat × Nat × Nat) :=
  let n := s.sectorFor (counterFirst lifecycleCounter + i)
  if s.sectorGood n then
    let v := sectorValue (mget s.keeper.sectors n 0)
    some (v % 256, v / 256 % 256, v / 2 ^ 32 % 2 ^ 32)
  else none

/-- The copy with the higher count; none where neither passes or the keeper is unavailable. -/
def State.lifecycleRecord (s : State) : Option (Nat × Nat × Nat) :=
  if s.keeper.failed then none
  else match s.lifecycleCopy 0, s.lifecycleCopy 1 with
    | some a, some b => some (if Nat.blt a.2.2 b.2.2 then b else a)
    | some a, none => some a
    | none, some b => some b
    | none, none => none

/-- The record written with its count moved on. -/
def writeLifecycle (code pending : Nat) (s : State) : Except Nat State :=
  let n := match s.lifecycleRecord with
    | some r => r.2.2 + 1
    | none => 1
  writeCounter lifecycleCounter 8 (code + 256 * pending + n % 2 ^ 32 * 2 ^ 32) s

/-! Requests (R442, R444). -/

/-- A change of R442: whether it needs a valid signing key slot, a token, and whether it erases the secret area. -/
structure LifecycleChange where
  needsKey : Bool
  needsToken : Bool
  erases : Bool
deriving DecidableEq, Repr

/-- The changes of R442. -/
def changeOf : Lifecycle → Nat → Option LifecycleChange
  | .blank, 1 => some { needsKey := true, needsToken := false, erases := false }
  | .blank, 4 => some { needsKey := false, needsToken := false, erases := true }
  | .provisioned, 2 => some { needsKey := false, needsToken := false, erases := false }
  | .provisioned, 3 => some { needsKey := false, needsToken := true, erases := true }
  | .field, 3 => some { needsKey := false, needsToken := true, erases := true }
  | .opened, 1 => some { needsKey := true, needsToken := false, erases := false }
  | .provisioned, 4 => some { needsKey := false, needsToken := true, erases := true }
  | .field, 4 => some { needsKey := false, needsToken := true, erases := true }
  | .opened, 4 => some { needsKey := false, needsToken := true, erases := true }
  | _, _ => none

/-- The challenge held, as its 32 bytes. -/
def State.challengeBytes (s : State) : Option Bytes := s.lc.challenge.map (fun n => leBytes 32 (Config.challenge n).toNat)

/-- A token's fields have their required values (R443, R444). -/
def State.tokenFields (s : State) (target : Nat) (t : Bytes) : Bool :=
  t.length == 160 && t.take 4 == [0x4C, 0x43, 0x54, 0x4B] && (t.drop 4).take 2 == [1, 0] && leVal ((t.drop 6).take 1) == target
    && leVal ((t.drop 8).take 8) == s.rget .SERIAL && ((t.drop 48).take 16).all (· == 0)
    && some ((t.drop 16).take 32) == s.challengeBytes

/-- The key that a token names: a valid signing slot, or the Kwewalis lifecycle key (R443). -/
def State.tokenKey (s : State) (t : Bytes) : Option Bytes :=
  let k := leVal ((t.drop 7).take 1)
  if k = 0xFE then some Config.lifecycleKey else s.signingKey k

/-- The token held passes for a target (R444). -/
def State.tokenPasses (s : State) (target : Nat) : Bool :=
  match s.lc.token with
  | none => false
  | some t =>
    s.tokenFields target t &&
      (match s.tokenKey t with
       | some key => signatureOk key (t.take 64) (t.drop 64)
       | none => false)

/-- LC_REQUEST as R442 judges it; its first two steps of R445 follow at once. -/
def hLcRequest (w : Route) : Handler :=
  { range := fun v s => (changeOf s.life v).isSome
    act := fun v s =>
      match changeOf s.life v with
      | none => .error 4
      | some c =>
        if s.keeper.failed || s.lc.change.isSome || (c.needsKey && (List.range 4).all (fun k => (s.signingKey k).isNone)) then .error 6
        else if c.needsToken && !s.tokenPasses v then .error 9
        else match writeLifecycle s.life.code v s with
          | .error e => .error e
          | .ok s => .ok (startWipe 3 { s with lc := { s.lc with change := some (v, controllerOf w) } }) }

/-- What an LC_REQUEST uses up, whatever its answer (R444): the token, and for 3 and 4 the challenge. -/
def consumeToken (w : Route) (v : Nat) (before s : State) : State :=
  if heard before w then
    { s with lc := { s.lc with token := none, challenge := if v = 3 || v = 4 then none else s.lc.challenge } }
  else s

/-- LC_REQUEST. -/
def execLcRequest (w : Route) (v : Nat) (s : State) : Host.Outcome State Fault Refusal :=
  .next (if heard s w then
      inTurn w (HeldRequest.writes (eidOf .LC_REQUEST 0) (leBytes El.LC_REQUEST.info.size v)) (fun s =>
        let r := judged w .LC_REQUEST 0 (fit .LC_REQUEST v) (hLcRequest w) s
        (r.1, [], consumeToken w v s r.2)) s
    else s)

/-- LC_CHALLENGE read (R444): a new challenge, held from now on. -/
def renewChallenge (s : State) : Bytes × State :=
  let d := s.draw
  (leBytes 32 (Config.challenge d.1).toNat, { d.2 with lc := { d.2.lc with challenge := some d.1 } })

/-- LC_CHALLENGE_READ. -/
def execLcChallengeRead (w : Route) (s : State) : Host.Outcome State Fault Refusal :=
  if heard s w then
    .next (inTurn w (HeldRequest.reads (eidOf .LC_CHALLENGE 0) 0) (fun s => (0, renewChallenge s)) s)
  else .next s

/-- A write of a BLOB or TEXT, judged as R354 has it: its length, and what its rule says of its bytes. -/
def requestBytes (w : Route) (e : El) (u : Nat) (bytes : Bytes) (lenOk : Bool) (h : Handler) (s : State) : State :=
  if heard s w then
    inTurn w (HeldRequest.writes (eidOf e u) bytes) (fun s =>
      let r := judged w e u (if lenOk && Nat.ble bytes.length e.info.size then some 0 else none) h s
      (r.1, [], r.2)) s
  else s

/-- LC_TOKEN (R444). -/
def hLcToken (bytes : Bytes) : Handler := Handler.doing (fun _ s => .ok { s with lc := { s.lc with token := some bytes } })

/-- LC_TOKEN_WRITE. -/
def execLcTokenWrite (w : Route) (bytes : Bytes) (s : State) : Host.Outcome State Fault Refusal :=
  .next (requestBytes w .LC_TOKEN 0 bytes true (hLcToken bytes) s)

/-! Keys (R377). -/

/-- The slot that KEY_SEL names is a signing slot. -/
def State.signingSelected (s : State) : Bool := Nat.blt (s.rget .KEY_SEL) 4

/-- KEY_INSTALL takes the length of the slot's kind. -/
def State.keyLength (s : State) (bytes : Bytes) : Bool := bytes.length == (if s.signingSelected then 97 else 32)

/-- KEY_INSTALL (R377). -/
def hKeyInstall (bytes : Bytes) : Handler :=
  { allow := fun _ _ s => s.life != .field && s.life != .returned
    range := fun _ s => !s.signingSelected || (pointOf bytes).isSome
    act := fun _ s =>
      let k := s.rget .KEY_SEL
      let m := s.keeper
      if m.failed || m.keysLost then .error 6
      else if s.signingSelected then
        if (mfind m.signing k).isSome then .error 6
        else (keepKey k (1 :: bytes) s).map (fun s => s.setKeeper { s.keeper with signing := mput m.signing k (.valid bytes) })
      else if (mfind m.aes (k - 4)).isSome then .error 6
      else (keepKey k (1 :: bytes) s).map (fun s => s.setKeeper { s.keeper with aes := mput m.aes (k - 4) bytes }) }

/-- KEY_INSTALL. -/
def execKeyInstall (w : Route) (bytes : Bytes) (s : State) : Host.Outcome State Fault Refusal :=
  .next (requestBytes w .KEY_INSTALL 0 bytes (s.keyLength bytes) (hKeyInstall bytes) s)

/-! The change itself (R445). -/

/-- The secret area (R392). -/
def secretSectors : List Nat := (List.range 64).map (fun i => 32832 + i)

/-- The secret area erased (R445 step 3): every key slot empty; false where a worn sector cannot be made zero. -/
def eraseSecrets (s : State) : Bool × State :=
  let ok := !secretSectors.any (fun n => s.worn n)
  let s := secretSectors.foldl (fun t n => if t.worn n then t else writeSector n 0 t) s
  (ok, s.setKeeper { s.keeper with signing := [], aes := [], keysLost := s.keeper.keysLost || !ok })

/-- JTAG closes with the lifecycle (R424, R446): an instruction that is not available acts as BYPASS, and any debugger is
detached. -/
def closeJtag (s : State) : State :=
  if s.jtagOpen then s
  else
    let i := if s.dbg.instruction = .idcode then JtagInstruction.idcode else .bypass
    detach ({ s with pinsTaken := false }.setDbg { s.dbg with instruction := i })

/-- Steps 2 to 5 of a change (R445). -/
def completeChange (target controller : Nat) (s : State) : State :=
  let old := s.life
  let s := { finishWipe s with lc := { s.lc with change := none } }
  let erases := match changeOf old target with
    | some c => c.erases
    | none => false
  let e := if erases then eraseSecrets s else (true, s)
  if !e.1 then e.2.raise sevError 0x3804 2 []
  else match writeLifecycle target 0xFF e.2 with
    | .error _ => e.2
    | .ok s =>
      let s := closeJtag { s with life := (lifecycleOf target).getD old }
      s.raise sevNotice 0x5802 0 (leBytes 1 old.code ++ leBytes 1 s.life.code ++ leBytes 1 controller)

/-- LIFECYCLE_CHANGE_DONE: the change in progress ends (R445). -/
def execLifecycleChangeDone (s : State) : Host.Outcome State Fault Refusal :=
  match s.lc.change with
  | some c => .next (completeChange c.1 c.2 s)
  | none => .next s

/-- POR takes the lifecycle from the keeper, FIELD where it holds none (R441). -/
def bootLifecycle (s : State) : State :=
  { s with life := match s.lifecycleRecord with | some r => (lifecycleOf r.1).getD .field | none => .field }

/-- A change that POR finds pending is completed (R445). -/
def bootChange (s : State) : State :=
  match s.lifecycleRecord with
  | some r => if r.2.1 = 0xFF then s else completeChange r.2.1 Config.resumedController.toNat (startWipe 3 s)
  | none => s

/-! Freeze (R378). -/

/-- The crossing that FREEZE_GO names; all ones for the second one after the write. -/
def State.freezeCrossing (s : State) (v : Nat) : Nat := if v = allOnes64 then s.crossing + 2 else s.crossingOf v

/-- The Districts that the masks name. -/
def State.freezeMask (s : State) : BitVec 128 := BitVec.ofNat 128 (s.rget .FREEZE_MASK_LO + s.rget .FREEZE_MASK_HI * 2 ^ 64)

/-- FREEZE_GO (R378). -/
def hFreezeGo : Handler :=
  { range := fun v s => s.freezeMask != 0 && Nat.ble (s.crossing + 2) (s.freezeCrossing v)
    act := fun v s =>
      if s.rget .FREEZE_STATE != 0 then .error 6
      else .ok ({ s with freeze := some { at_ := s.freezeCrossing v, mask := s.freezeMask } }.rset .FREEZE_STATE 0 1) }

/-- FREEZE_GO. -/
def execFreezeGo (w : Route) (v : Nat) (s : State) : Host.Outcome State Fault Refusal := write w .FREEZE_GO 0 v hFreezeGo s

/-- FREEZE_START: at the crossing named the Districts stop and the device enters HOLD (R378). -/
def execFreezeStart (s : State) : Host.Outcome State Fault Refusal :=
  match s.freeze with
  | none => .next s
  | some f =>
    if s.counting && Nat.ble f.at_ s.crossing && (s.dev = .running || s.dev = .hold) then
      let s := { s with freeze := none }
      let ds := (List.range 128).filter (fun d => f.mask.getLsbD d)
      let s := ds.foldl (fun t d => t.setDist d { t.dist d with frozen := true }) s
      .next (((s.rset .FREEZE_STATE 0 2).rset .FREEZE_MT 0 s.mt).become .hold)
    else .next s

/-- FREEZE_RELEASE (R378). -/
def hFreezeRelease : Handler := Handler.doing (fun v s =>
  .ok (if v = 1 && s.rget .FREEZE_STATE = 2 then s.rset .FREEZE_STATE 0 3 else s))

/-- FREEZE_RELEASE. -/
def execFreezeRelease (w : Route) (v : Nat) (s : State) : Host.Outcome State Fault Refusal := write w .FREEZE_RELEASE 0 v hFreezeRelease s

/-! Tamper (R447). -/

/-- The assertion edge of a source, 1 TAMPER_N or 2 the lid switch (R447). -/
def tamperEdge (source : Nat) (s : State) : State :=
  if !s.power.aux || bitOf (s.rget .TAMPER_STATE) (source - 1) then s
  else
    let off := s.dev = .powerOff || s.dev = .reset
    let s := s.rset .TAMPER_STATE 0 (s.rget .TAMPER_STATE + 2 ^ (source - 1))
    let s := if off then s else startWipe source s
    let s := if off then { s with power := { s.power with edges := s.power.edges + 1 } } else bumpCounter 3 .TAMPER_COUNT s
    (latchIrq 9 s).raise sevWarning 0x5801 0 (leBytes 1 source)

/-- A source returns. -/
def tamperOver (source : Nat) (s : State) : State :=
  if bitOf (s.rget .TAMPER_STATE) (source - 1) then s.rset .TAMPER_STATE 0 (s.rget .TAMPER_STATE - 2 ^ (source - 1)) else s

/-- TAMPER_ASSERT. -/
def execTamperAssert (s : State) : Host.Outcome State Fault Refusal := .next (tamperEdge 1 s)

/-- LID_OPEN. -/
def execLidOpen (s : State) : Host.Outcome State Fault Refusal := .next (tamperEdge 2 s)

/-- TAMPER_N_RELEASE. -/
def execTamperNRelease (s : State) : Host.Outcome State Fault Refusal := .next (tamperOver 1 s)

/-- LID_CLOSED. -/
def execLidClosed (s : State) : Host.Outcome State Fault Refusal := .next (tamperOver 2 s)

end Sys2Proof.Machine
end

