-- ==== Sys2Proof/Machine/Thermal.lean ====
section
/-! DEFINITION. Thermal management (R375, R376, R460 to R471): rounds of readings, broken sensors, the throttle fraction, the
thermal state, the trigger of a shutdown, and compensation. -/

namespace Sys2Proof.Machine

/-- The thermal controller changed. -/
def State.setHeat (s : State) (h : Thermal) : State := { s with heat := h }

/-- A TEMP as its 16 bits (R17). -/
def tempBits (t : Int) : Nat := (t % 65536).toNat

/-- A TEMP element as a temperature. -/
def State.tget (s : State) (e : El) : Int :=
  let v := s.rget e
  if Nat.blt v 32768 then (v : Int) else (v : Int) - 65536

/-- A threshold's element. -/
def thresholdEl : Threshold → El
  | .notice => .T_NOTICE
  | .throttle => .T_THROTTLE
  | .ceiling => .T_CEILING
  | .shutdown => .T_SHUTDOWN

/-- T_NOTICE < T_THROTTLE < T_CEILING < T_SHUTDOWN with a threshold at a value (R376). -/
def State.orderKept (s : State) (e : El) (v : Nat) : Bool :=
  let at_ (x : El) : Nat := if x = e then v else s.rget x
  Nat.blt (at_ .T_NOTICE) (at_ .T_THROTTLE) && Nat.blt (at_ .T_THROTTLE) (at_ .T_CEILING)
    && Nat.blt (at_ .T_CEILING) (at_ .T_SHUTDOWN)

/-- A threshold written (R376). -/
def hThreshold (e : El) : Handler :=
  { range := fun v s => Nat.ble v e.info.dflt && Nat.ble 1600 v && s.orderKept e v
    act := fun v s => keepValue e 0 v s }

/-- THRESHOLD_WRITE. -/
def execThresholdWrite (w : Route) (e : Threshold) (v : Nat) (s : State) : Host.Outcome State Fault Refusal :=
  write w (thresholdEl e) 0 v (hThreshold (thresholdEl e)) s

/-! Sensors (R460 to R463). -/

/-- The sensors. -/
def sensorCount : Nat := 96

/-- A reading that no valid sensor gives (R463): outside -40 °C to 150 °C. -/
def outOfRange (t : Int) : Bool := decide (t < -2560) || decide (9600 < t)

/-- What stands for a conversion that did not finish: the lowest TEMP, out of every valid range. -/
def brokenReading : Int := -32768

/-- The unit number of the sensor window in records of area 0x50. -/
def sensorUnit : Nat := 2

/-- A sensor found broken (R463): it stays so until the next device reset. -/
def breakSensor (n : Nat) (s : State) : State :=
  match mfind s.heat.sensors n with
  | none => s
  | some x =>
    if x.broken then s
    else
      ((s.setHeat { s.heat with sensors := mput s.heat.sensors n { x with broken := true } }).rinc .SENSORS_BROKEN).raise
        sevWarning 0x5003 sensorUnit []

/-- What a round gives of a sensor: its reading, or none where the conversion did not finish, which breaks it (R463). -/
def takeReading (n : Nat) (r : Option Int) (s : State) : State :=
  if !Nat.blt n sensorCount then s
  else
    let t := r.getD brokenReading
    let x := (mfind s.heat.sensors n).getD { last := t, peak := -32768, broken := false, apart := 0 }
    let bad := outOfRange t
    let x := { x with last := t, peak := if bad || x.broken then x.peak else max x.peak t }
    let s := s.setHeat { s.heat with sensors := mput s.heat.sensors n x }
    if bad then breakSensor n s else s

/-- A sensor's valid reading; none of a broken one, and of one that has not been read. -/
def State.reading (s : State) (n : Nat) : Option Int :=
  match mfind s.heat.sensors n with
  | some x => if x.broken then none else some x.last
  | none => none

/-- The rounds in a row in which a pair has differed by more than 10 °C; in the fourth the lower sensor is broken (R463). -/
def comparePair (i : Nat) (s : State) : State :=
  let put (k : Nat) (s : State) : State :=
    match mfind s.heat.sensors (2 * i) with
    | some x => s.setHeat { s.heat with sensors := mput s.heat.sensors (2 * i) { x with apart := k } }
    | none => s
  match s.reading (2 * i), s.reading (2 * i + 1) with
  | some a, some b =>
    if decide (640 < a - b) || decide (640 < b - a) then
      let k := (match mfind s.heat.sensors (2 * i) with | some x => x.apart | none => 0) + 1
      if k = 4 then breakSensor (if decide (a < b) then 2 * i else 2 * i + 1) (put 0 s) else put k s
    else put 0 s
  | _, _ => put 0 s

/-- A sensor is broken. -/
def State.sensorBroken (s : State) (n : Nat) : Bool :=
  match mfind s.heat.sensors n with
  | some x => x.broken
  | none => false

/-- What a sensor contributes to TJ_MAX (R462, R463): its reading, T_CEILING when broken, T_SHUTDOWN when its whole pair is. -/
def State.standing (s : State) (n : Nat) : Option Int :=
  if s.sensorBroken n then
    let partner := if n % 2 = 0 then n + 1 else n - 1
    some (if s.sensorBroken partner then s.tget .T_SHUTDOWN else s.tget .T_CEILING)
  else s.reading n

/-- TJ_MAX and the sensor that gives it, the lowest of equals (R462). -/
def State.hottest (s : State) : Option (Nat × Int) :=
  (List.range sensorCount).foldl
    (fun best n =>
      match s.standing n, best with
      | some t, some b => if decide (b.2 < t) then some (n, t) else best
      | some t, none => some (n, t)
      | none, _ => best) none

/-! Throttling and the thermal state (R462, R464, R468). -/

/-- THROTTLE_F (R464). -/
def State.throttleOf (s : State) (t : Int) : Nat :=
  let a := s.tget .T_THROTTLE
  let b := s.tget .T_CEILING
  if decide (t ≤ a) then 0
  else if decide (b ≤ t) then 256
  else Nat.min 256 ((t - a).toNat * 256 / (b - a).toNat)

/-- THERMAL_STATE changes (R385, R462). -/
def thermalTo (v : Nat) (s : State) : State := latchIrq 10 (s.rset .THERMAL_STATE 0 v)

/-- The thermal state as a round leaves it (R462), 3 excepted. -/
def judgeState (sensor : Nat) (t : Int) (f : Nat) (s : State) : State :=
  let st := s.rget .THERMAL_STATE
  if st = 0 || st = 1 then
    if f != 0 then (thermalTo 2 s).raise sevWarning 0x5002 0 []
    else if st = 0 && decide (s.tget .T_NOTICE ≤ t) then
      (thermalTo 1 s).raise sevNotice 0x5001 0 (leBytes 1 sensor ++ leBytes 2 (tempBits t))
    else if st = 1 && decide (t < s.tget .T_NOTICE - 128) then thermalTo 0 s
    else s
  else if st = 2 && f = 0 then thermalTo 1 s
  else s

/-- A round triggers the shutdown (R468, R469): the FATAL record enters the intake, and the stop falls on the next crossing. -/
def triggerShutdown (s : State) : State :=
  let s := (thermalTo 3 s).raise sevFatal 0x5004 0 []
  s.setHeat { s.heat with stopAt := some (if s.counting then s.crossing + 1 else 0) }

/-- The governing reading of a pair (R471): the higher valid sensor. -/
def State.governing (s : State) (i : Nat) : Option Int :=
  match s.reading (2 * i), s.reading (2 * i + 1) with
  | some a, some b => some (max a b)
  | some a, none => some a
  | none, some b => some b
  | none, none => none

/-- Compensated items follow their governing pair in steps of 2 °C or more (R471). -/
def compensate (i : Nat) (s : State) : State :=
  match s.governing i with
  | none => s
  | some t =>
    let stale := match mfind s.heat.compensated i with
      | some last => decide (128 ≤ t - last) || decide (128 ≤ last - t)
      | none => true
    if stale then s.setHeat { s.heat with compensated := mput s.heat.compensated i t } else s

/-- The pairs of layer L0, which govern the compensated items (R460, R471). -/
def basePairs : Nat := 10

/-- The judgements at the end of a round (R461, R462, R464, R468); in SHUTDOWN no threshold acts any more (R470). -/
def judgeRound (s : State) : State :=
  match s.hottest with
  | none => s
  | some (n, t) =>
    let s := (s.rset .TJ_MAX 0 (tempBits t)).rset .TJ_MAX_SENSOR 0 n
    if s.dev = .shutdown || s.rget .THERMAL_STATE = 3 then s
    else
      let f := s.throttleOf t
      let s := s.rset .THROTTLE_F 0 f
      let h := s.tget .T_THROTTLE
      let fast := if decide (h - 512 ≤ t) then true else if decide (t < h - 640) then false else s.heat.fast
      let s := s.setHeat { s.heat with fast }
      if decide (s.tget .T_SHUTDOWN ≤ t) then triggerShutdown s else judgeState n t f s

/-- The sensors are read: from step 2 of BOOT on (R461, R470). -/
def State.sensorsOn (s : State) : Bool := s.dev != .powerOff && s.dev != .reset

/-- SENSOR_ROUND: a full round of readings ends; a sensor without an entry reads as before (R461 to R464). -/
def execSensorRound (readings : List (Nat × Option Int)) (s : State) : Host.Outcome State Fault Refusal :=
  if !s.sensorsOn then .next s
  else
    let s := readings.foldl (fun t p => takeReading p.1 p.2 t) s
    let s := (List.range (sensorCount / 2)).foldl (fun t i => comparePair i t) s
    .next (judgeRound ((List.range basePairs).foldl (fun t i => compensate i t) s))

/-- SENSOR_LAYER (R460). -/
def sensorLayer (n : Nat) : Nat :=
  let i := n / 2
  if Nat.blt i 10 then 0 else if Nat.blt i 18 then 1 else if Nat.blt i 30 then 2 else if Nat.blt i 38 then 3 else 4

end Sys2Proof.Machine
end

