-- ==== Sys2Proof/Machine/Power.lean ====
section
/-! DEFINITION. Device states and resets: SAFE (R368), RESET_CMD (R369), power-on reset and BOOT (R448 to R459), and the stop
sequence of a thermal shutdown (R468 to R470). -/

namespace Sys2Proof.Machine

/-! SAFE (R368). -/

/-- SAFE_ENTER: at the next crossing, or at once while MT does not count. -/
def hSafeEnter : Handler := Handler.doing (fun v s =>
  if v = 0 || s.dev = .safe then .ok s
  else if s.counting then .ok { s with safeDue := some 1 }
  else .ok (enterSafe 1 (abortLoad s)))

/-- SAFE_ENTER. -/
def execSafeEnter (w : Route) (v : Nat) (s : State) : Host.Outcome State Fault Refusal := write w .SAFE_ENTER 0 v hSafeEnter s

/-- SAFE_LEAVE: every plane EMPTY, and IDLE. -/
def hSafeLeave : Handler := Handler.doing (fun v s =>
  if v = 0 then .ok s
  else
    let s := { failWaiting (clearConfiguration s) with fabricOn := true }
    .ok ((s.rset .SAFE_CAUSE 0 0).become .idle))

/-- SAFE_LEAVE. -/
def execSafeLeave (w : Route) (v : Nat) (s : State) : Host.Outcome State Fault Refusal := write w .SAFE_LEAVE 0 v hSafeLeave s

/-! RESET_CMD (R369). -/

/-- RESET_CMD: 1 resets the core alone, 2 the device once the answer is sent. -/
def hResetCmd : Handler := Handler.doing (fun v s => .ok (if v = 1 then coreReset 2 s else { s with resetDue := true }))

/-- CORE_RESET_CMD: RESET_CMD = 1. -/
def execCoreResetCmd (w : Route) (s : State) : Host.Outcome State Fault Refusal := write w .RESET_CMD 0 1 hResetCmd s

/-- DEVICE_RESET_CMD: RESET_CMD = 2. -/
def execDeviceResetCmd (w : Route) (s : State) : Host.Outcome State Fault Refusal := write w .RESET_CMD 0 2 hResetCmd s

/-! RESET (R449, R450, R457 to R459). -/

/-- What a device reset keeps (R459): the keeper, the tamper sources, and, but for a power-on or supply reset, the TAP and the
debug registers. -/
def inReset (cause : Nat) (dev : DevState) (s : State) : State :=
  let soft := cause != 0
  let r := State.reset
  let t : State :=
    { r with
      pending := s.pending, fv := s.fv, dev, life := s.life, fabricOn := false
      keeper := { s.keeper with jobs := [] }
      power := { s.power with cause, gated := false, deferred := none }
      dbg := if soft then s.dbg else DebugPort.reset
      pinsTaken := soft && s.pinsTaken
      recorder := { r.recorder with gens := if soft then s.recorder.gens else [] }
      run := { CoreRun.reset with running := false } }
  (t.rset .TAMPER_STATE 0 (s.rget .TAMPER_STATE)).rset .DBG_ATTACHED 0 (if soft then s.rget .DBG_ATTACHED else 0)

/-- A reset condition (R449, R450, R458): RESET at once, or at the end of a keeper write; none in POWER_OFF and SHUTDOWN. In
RESET a supply condition makes the reset a power-on reset. -/
def resetBy (cause : Nat) (s : State) : State :=
  if s.dev = .powerOff || s.dev = .shutdown then s
  else if s.dev = .reset then (if cause = 0 then inReset 0 .reset s else s)
  else if s.keeper.jobs.isEmpty then inReset cause .reset s
  else { s with power := { s.power with deferred := some (Nat.min cause (s.power.deferred.getD cause)) } }

/-- SUPPLY_RESET. -/
def execSupplyReset (s : State) : Host.Outcome State Fault Refusal := .next (resetBy 0 s)

/-- RST_N_ASSERT. -/
def execRstNAssert (s : State) : Host.Outcome State Fault Refusal := .next (resetBy 1 s)

/-- COMMAND_RESET: the reset that RESET_CMD = 2 scheduled (R369). -/
def execCommandReset (s : State) : Host.Outcome State Fault Refusal :=
  .next (if s.resetDue then resetBy 2 { s with resetDue := false } else s)

/-- KEEPER_WRITE_DONE: a RESET that waited for the write follows at once (R450), but for a device that has entered SHUTDOWN, which
only a power cycle leaves (R14, R458). -/
def execKeeperWriteDone (s : State) : Host.Outcome State Fault Refusal :=
  let s := endKeeperWrite s
  match s.power.deferred with
  | some c => .next (if s.dev = .shutdown then s else inReset c .reset s)
  | none => .next s

/-- POWER_ON: VDD_AUX rises, and the device is held in RESET (R449, R457). -/
def execPowerOn (s : State) : Host.Outcome State Fault Refusal :=
  .next (if s.dev = .powerOff then { inReset 0 .reset s with power := { s.power with aux := true, cause := 0 } } else s)

/-- POWER_LOSS: VDD_AUX falls, from any state (R14, R458); nothing is sensed any more (R447). -/
def execPowerLoss (s : State) : Host.Outcome State Fault Refusal :=
  let s := inReset 0 .powerOff s
  .next ({ s with power := { s.power with aux := false, edges := 0 } }.rset .TAMPER_STATE 0 0)

/-! BOOT (R451 to R453). -/

/-- Every trunk takes a new EPOCH (R251, R459). -/
def newEpochs (s : State) : State :=
  (List.range trunkCount).foldl (fun t k =>
    let d := t.draw
    { d.2 with trunks := mput d.2.trunks k { t.trunk k with epoch := (Config.epoch d.1).toNat } }) s

/-- The straps as sampled (R265, R451). -/
def sampleStraps (straps : Nat) (s : State) : State :=
  let v := straps % 4096
  let src := v % 8
  let s := (s.rset .STRAPS 0 v).rset .LOAD_SRC 0 (if Nat.blt src 4 then src else 0)
  if Nat.blt 4 src then s.raise sevNotice 0x0304 0 [] else s

/-- The substitution map applied (R309, R411, R452); none of a keeper that cannot be read (R397). -/
def bootSpares (s : State) : State :=
  let listed := (s.keeper.sectors.filter (fun p => Nat.ble 40576 p.1 && Nat.blt p.1 40640)).map (·.1)
  (listed.filter (fun n => !s.keeper.failed && s.sectorGood n)).foldl (fun t n =>
    let v := sectorValue ((t.sectorRead n).getD 0)
    (t.rset .SPARE0_FOR (n - 40576) (v % 256)).rset .SPARE1_FOR (n - 40576) (v / 256 % 256)) s

/-- LOAD_ADDR starts from PRIMARY_ADDR, which the keeper holds (R265, R288). -/
def bootAddress (s : State) : State := s.rset .LOAD_ADDR 0 (s.rget .PRIMARY_ADDR)

/-- Tamper edges seen before the keeper was available are counted (R447). -/
def bootEdges (s : State) : State :=
  (List.range s.power.edges).foldl (fun t _ => bumpCounter 3 .TAMPER_COUNT t) { s with power := { s.power with edges := 0 } }

/-- With VAULT_ENABLE = 1 the Vault banks belong to owner 0x84 and the Vault is LOCKED (R127, R452). -/
def bootVault (s : State) : State :=
  if s.rflag .VAULT_ENABLE then
    (vaultBanks.foldl (fun t n => (t.rset .OWNER n 0x84).rset .OWNER_ACTIVE n 0x84) s).rset .VAULT_STATE 0 1
  else s

/-- RESET_RELEASE: POR releases, the straps are sampled, and BOOT reads the keeper, of which the command says whether it can be
read, for how long, and which sectors read uncorrectable (R392, R397), and which frames of the configuration memory are damaged, and invalidates every bank (R451, R452). -/
def execResetRelease (found : ResetFindings) (s : State) : Host.Outcome State Fault Refusal :=
  if s.dev != .reset then .next s
  else
    let s := { s with dev := .boot, fabricOn := true,
                      keeper := { s.keeper with failed := found.keeperFails, failAt := found.failAt, bad := found.bad },
                      scr := { s.scr with damage := found.damaged.foldl (fun m (x : FrameDamage) => mput m x.key (x.bits, x.writes)) s.scr.damage } }
    let s := sampleStraps found.straps (s.rset .RESET_CAUSE 0 s.power.cause)
    let s := newEpochs (startCore (bootLifecycle s))
    let s := bootRepairs (bootSpares (bootRetirement (bootAddress (bootKeeper s))))
    let s := bootVault (bootEdges (bootPseq (refreshTriple s)))
    .next (startTrunk 0 (bootChange s))

/-- BOOT waits for the core (R435, R452): its boot ROM has entered no image and no ROM service yet, or it is held in reset. -/
def State.coreWaits (s : State) : Bool := s.run.held || !(s.run.entered || s.run.romService)

/-- The CAN settings that this start of the device uses (R352). -/
def canForce (s : State) : State :=
  { s with force := [El.CAN_PFX, El.CAN_NODE].foldl (fun f e => mput f (regKey e 0) (s.rget e)) s.force }

/-- BOOT_END: control is ready, and the device enters IDLE, or LOADING under AUTOLOAD (R265, R453). -/
def execBootEnd (s : State) : Host.Outcome State Fault Refusal :=
  if s.dev != .boot || s.coreWaits then .next s
  else
    let c := s.ctl
    let s := { canForce s with ctl := { c with ready := true, i3c := { c.i3c with intEnabled := true, hotJoinEnabled := true }, can := { c.can with traffic := false } } }
    let s := (s.rset .CAN_STATE 0 (s.rget .CAN_ENABLE)).rset .CAN_TEC_REC 0 0
    let auto := bitOf (s.rget .STRAPS) 3 && Nat.blt s.bootSrc 4
    .next (if auto then (startLoad false (s.rget .LOAD_SRC) .idle s).become .loading else s.become .idle)

/-! Thermal shutdown (R468 to R470). -/

/-- Taps emit in the present state, so that they emit markers for 3 crossings more (R208, R469). -/
def State.tapsEmit (s : State) : Bool :=
  match s.dev with
  | .running | .hold => true
  | .armed => Nat.ble 1 s.load.stage
  | .safe => s.tb.st == .aligned || s.tb.st == .holdover
  | .powerOff | .reset | .boot | .idle | .loading | .shutdown => false

/-- SHUTDOWN entered (R469): the fabric, the ring, intake and trunks stop, a load ends ABORTED, the Vault locks, and the service
core is held in reset (R470). -/
def enterShutdown (s : State) : State :=
  let last := if s.tapsEmit && s.counting then some (s.crossing + 3) else none
  let s := lockVault (abortLoad { s with fabricOn := false, safeDue := none })
  let s := endFreeze (cancelStages s)
  let s := (List.range trunkCount).foldl (fun t k => stopTrunk k t) s
  let s := (dropCoreWork s).setRun { CoreRun.reset with running := false, draw := s.run.draw }
  ((s.setHeat { s.heat with stopAt := none, markersTo := last }).rset .FW_VERSION 0 0).become .shutdown

/-- SHUTDOWN_ENTRY: phase 0 of the crossing after the round that triggered the shutdown, or that round's own moment. -/
def execShutdownEntry (s : State) : Host.Outcome State Fault Refusal :=
  match s.heat.stopAt with
  | some x => .next (if !s.counting || Nat.ble x s.crossing then enterShutdown s else s)
  | none => .next s

/-- Elements whose units stay powered from VDD_AUX (R470), and the straps as sampled, whose DEV_ID gives the I3C target and the CAN
node their numbers (R451). -/
def auxElement (k : Nat) : Bool :=
  El.all.any (fun e => e.ctorIdx == k && (e == .STRAPS || [0x00, 0x01, 0x30, 0x38, 0x48, 0x50, 0x58].contains e.info.area))

/-- Every domain outside VDD_AUX is power-gated (R469, R470): what it held is lost. -/
def powerGate (s : State) : State :=
  { State.reset with
    pending := s.pending, fv := s.fv, dev := s.dev, life := s.life, fabricOn := false
    regs := s.regs.filter (fun p => auxElement (keyEl p.1)), force := s.force.filter (fun p => auxElement (keyEl p.1))
    recorder := s.recorder, ctl := s.ctl, keeper := s.keeper, devName := s.devName, heat := s.heat, noted := s.noted, lc := s.lc
    dbg := s.dbg, run := s.run, userRights := s.userRights, power := { s.power with gated := true } }

/-- What completes before the power goes (R469): records and their keeper copies, keeper writes, and a lifecycle change. -/
def finishWork (s : State) : State :=
  let s := s.keeper.jobs.foldl (fun t _ => endKeeperWrite t) s
  let s := match s.lc.change with
    | some c => completeChange c.1 c.2 s
    | none => s
  let s := (List.range (intakeSize + 1)).foldl (fun t _ => writeNext t) s
  s.recorder.copies.foldl (fun t r => copyRecord ((t.recorder.held.find? (fun p => p.seq == r.seq)).getD r) t)
    (s.setRecorder { s.recorder with copies := [] })

/-- SHUTDOWN_POWER_GATE: within 10 ms of the round (R469); SHUTDOWNS counts. -/
def execShutdownPowerGate (s : State) : Host.Outcome State Fault Refusal :=
  .next (if s.dev = .shutdown && !s.power.gated then powerGate (bumpCounter 2 .SHUTDOWNS (finishWork s)) else s)

end Sys2Proof.Machine
end

