-- ==== Sys2Proof/Machine/Windows.lean ====
section
/-! DEFINITION. Time-table windows (R62, R63, R66, R68) and the window selectors (R496). -/

namespace Sys2Proof.Machine

/-- The ports that a target names: a port, or the 16 ports of a group (R61). -/
def ttPorts (e : TtEntry) : List Nat := if ttKind e = 2 then [ttTarget e] else groupPorts (ttTarget e)

/-- A CAL_WINDOW opens on its ports (R89, R94): an alignment window where the time base is ALIGNED and none is open, or
adaptation. -/
def openCal (k : Nat) (e : TtEntry) (s : State) : State :=
  (ttPorts e).foldl
    (fun t p =>
      if ttArg e = 1 then (if t.windowOpen p then t else openAlign p t.crossing none (some k) t)
      else t.setPort p { t.port p with adaptWindows := (t.port p).adaptWindows + 1 })
    s

/-- A CAL_WINDOW closes on its ports: an alignment window that this entry opened is judged, or adaptation ends with values
that are open (R89, R94). -/
def closeCal (k : Nat) (e : TtEntry) (s : State) : State :=
  (ttPorts e).foldl
    (fun t p =>
      if ttArg e = 1 then
        match (t.port p).window with
        | some { entry := some j, .. } => if j = k then endAlign p t else t
        | _ => t
      else
        let t := keepEq p t
        t.setPort p { t.port p with adaptWindows := (t.port p).adaptWindows - 1 })
    s

/-- TEST_PULSE places its command for the present crossing on a port (R62, R98). DESIGN CHOICE (log entry 194): where two entries name
the port in one crossing, the one that starts first is displaced. -/
def placePulse (cmd p : Nat) (s : State) : State :=
  let s := match (s.port p).pulse with
    | some (x, _) => if x = s.crossing then displace p 2 s else s
    | none => s
  s.setPort p { s.port p with pulse := some (s.crossing, cmd) }

/-- TEST_PULSE on its ports (R62). -/
def testPulse (e : TtEntry) (s : State) : State := (ttPorts e).foldl (fun t p => placePulse (ttArg e) p t) s

/-- BANK_SLEEP (R68, R124, R407): skipped with a WARNING record on a bank that may not sleep. -/
def tableSleep (n : Nat) (s : State) : State :=
  if s.rget .POWER_STATE n = 1 then s
  else if s.mayNotSleep n then s.raise sevWarning 0x0208 0x010 []
  else startSleep n s

/-- An entry starts a window, or fires its edge action, in the present crossing (R62, R63). -/
def fireEntry (k : Nat) (s : State) : State :=
  let e := s.ttActive k
  let opened := { s with rb := { s.rb with openWindows := s.rb.openWindows ++ [(k, s.crossing)] } }
  match ttAction e with
  | 1 => (s.ctxTargets e).foldl (fun t d => openCtx k d t) opened
  | 2 => openCal k e opened
  | 3 => testPulse e s
  | 4 => countPauses opened
  | 5 => opened
  | 6 => startWake (ttTarget e) s
  | 7 => tableSleep (ttTarget e) s
  | 8 => opened
  | _ => s

/-- TT_WINDOW_START: an enabled entry of the active table whose window starts in the present slot (R60, R63, R66). -/
def execTtWindowStart (entry : Nat) (s : State) : Host.Outcome State Fault Refusal :=
  let e := s.ttActive entry
  .next (if s.tb.entriesRun && s.tb.st = .aligned && ttEnabled e && ttMatches e s.tb.orbit && ttStartsAt e s.tb.slot
      && !s.rb.openWindows.contains (entry, s.crossing) then fireEntry entry s else s)

/-- A window of an entry closes (R63, R66). -/
def closeEntry (k start : Nat) (s : State) : State :=
  let e := s.ttActive k
  let s := { s with rb := { s.rb with openWindows := s.rb.openWindows.filter (· != (k, start)) } }
  match ttAction e with
  | 1 => (s.ctxTargets e).foldl (fun t d => closeCtx k (ttPhase e) d t) s
  | 2 => closeCal k e s
  | _ => s

/-- TT_WINDOW_END: an open window of the entry whose end has come closes (R63). -/
def execTtWindowEnd (entry : Nat) (s : State) : Host.Outcome State Fault Refusal :=
  match s.rb.openWindows.find? (fun w => w.1 == entry && Nat.ble (w.2 + ttSpan (s.ttActive entry)) s.crossing) with
  | some w => .next (if s.tb.entriesRun then closeEntry entry w.2 s else s)
  | none => .next s

/-- The element of a window selector (R496). -/
def selectorEl : WindowSelector → El
  | .ttWindowIndex => .TT_WINDOW_INDEX
  | .ttWindowSel => .TT_WINDOW_SEL
  | .qwinIndex => .QWIN_INDEX
  | .miBank => .MI_BANK
  | .rtIndex => .RT_INDEX
  | .kpSector => .KP_SECTOR
  | .sensorSel => .SENSOR_SEL
  | .recSel => .REC_SEL
  | .pfSel => .PF_SEL

/-- A window selector stores, and changes no other element (R496). -/
def hSelector (e : WindowSelector) : Handler := Handler.store (selectorEl e) 0

/-- WINDOW_SELECTOR_WRITE. -/
def execWindowSelectorWrite (w : Route) (e : WindowSelector) (v : Nat) (s : State) : Host.Outcome State Fault Refusal :=
  write w (selectorEl e) 0 v (hSelector e) s

end Sys2Proof.Machine
end

