-- ==== Sys2Proof/Machine/Dictionary.lean ====
section
/-! DEFINITION. The dictionary as a whole: the judgement of any element's write (R354), the value any read returns (R355, R358),
and the vendor areas (R379). -/

namespace Sys2Proof.Machine

/-! Writes. -/

/-- The map whose COUNT_CLEAR an element is. -/
def clearElementOf : El → Option ClearElement
  | .CC_02 => some .timeBase
  | .CC_13 => some .port
  | .CC_05 => some .bank
  | .CC_04 => some .district
  | .CC_20 => some .path
  | .CC_19 => some .sideStreet
  | .CC_28G => some .ebGroup
  | .CC_28 => some .eventBuilder
  | .CC_08 => some .queue
  | .CC_18 => some .trunk
  | .CC_07 => some .memScrub
  | .CC_07B => some .memBank
  | .CC_01 => some .cfgScrub
  | .CC_30I => some .susis
  | .CC_30C => some .can
  | .CC_30R => some .rights
  | .CC_40 => some .bist
  | _ => none

/-- CAN_NODE (R363): 0 to 15, or 0xFF. -/
def hCanNode : Handler := { range := fun v _ => Nat.ble v 15 || v == 0xFF, act := fun v s => keepValue .CAN_NODE 0 v s }

/-- The judgement and effect of a write of an element's unit, whoever sends it. -/
def handlerOf (w : Route) (e : El) (u : Nat) : Handler :=
  match clearElementOf e with
  | some c => hClear c u
  | none =>
    match e with
    | .TT_COMMIT => hTtCommit
    | .TT_COPY => hTtCopy
    | .ALIGN_REQ => hAlignReq u
    | .DL_SEND => hDlSend u
    | .VAULT_LOCK => hVaultLock
    | .VAULT_UNLOCK => hVaultUnlock
    | .VAULT_WIPE => hVaultWipe
    | .UP_CLEAR => hUpClear u
    | .BASE_AT => hBaseAt u
    | .BREACH_ACK => hBreachAck
    | .Q_FLUSH => hQFlush
    | .RETRAIN => hRetrain u
    | .TK_RESET => hTkReset u
    | .LOAD_GO => hLoadGo
    | .LOAD_ABORT => hLoadAbort
    | .PRIMARY_ADDR => hKeep .PRIMARY_ADDR 0
    | .GOLDEN_ADDR => hKeep .GOLDEN_ADDR 0
    | .AR_ADVANCE => hArAdvance
    | .KEY_REVOKE => hKeyRevoke
    | .SCRUB_ENABLE => hScrubEnable
    | .LB_LEAK => hLbLeak
    | .LB_THRESHOLD => hLbThreshold
    | .INVALIDATE => hInvalidate
    | .RT_RETIRE => hRtRetire
    | .RT_UNRETIRE => hRtUnretire
    | .FLIP_ARM => hFlipArm
    | .SUBSTITUTE => hSubstitute u
    | .UNSUBSTITUTE => hUnsubstitute u
    | .CS_ENABLE => hCsSetting .enable
    | .FR_FIRST => hCsSetting .firstBank
    | .FR_BANKS => hCsSetting .banks
    | .FR_SLOT_BANKS => hCsSetting .slotBanks
    | .FR_ENABLE => hFrEnable
    | .CS_RESET => hCsReset
    | .HJ_EN => hKeep .HJ_EN 0
    | .CAN_ENABLE => hKeep .CAN_ENABLE 0
    | .CAN_PFX => hKeep .CAN_PFX 0
    | .CAN_NODE => hCanNode
    | .CAN_NOM_RATE => hKeep .CAN_NOM_RATE 0
    | .CAN_DATA_RATE => hKeep .CAN_DATA_RATE 0
    | .RIGHTS_I3C => hKeep .RIGHTS_I3C 0
    | .RIGHTS_CAN => hKeep .RIGHTS_CAN 0
    | .RIGHTS_IVTOR => hKeep .RIGHTS_IVTOR 0
    | .WDT_TIMEOUT => hKeep .WDT_TIMEOUT 0
    | .WDT_ENABLE => hWdtEnable
    | .ALERT_ACK => hAlertAck
    | .EXPERT_LOCK => hExpertLock w
    | .LOCK_BREAK => hLockBreak
    | .DP_BIND => hDpBind u
    | .DP_TARGET => hDpTarget u
    | .SAFE_ENTER => hSafeEnter
    | .SAFE_LEAVE => hSafeLeave
    | .RESET_CMD => hResetCmd
    | .BIST_KIND => hBistSetting .BIST_KIND
    | .BIST_TARGET => hBistSetting .BIST_TARGET
    | .BIST_MODE => hBistSetting .BIST_MODE
    | .BIST_ALGO => hBistSetting .BIST_ALGO
    | .BIST_GO => hBistGo
    | .BIST_ABORT => hBistAbort
    | .REC_CLEAR => hRecClear w
    | .T_NOTICE => hThreshold .T_NOTICE
    | .T_THROTTLE => hThreshold .T_THROTTLE
    | .T_CEILING => hThreshold .T_CEILING
    | .T_SHUTDOWN => hThreshold .T_SHUTDOWN
    | .LC_REQUEST => hLcRequest w
    | .FREEZE_GO => hFreezeGo
    | .FREEZE_RELEASE => hFreezeRelease
    | .FWP_ENABLE => hFwpEnable u
    | .FWP_DISTRICT => hFwpField .FWP_DISTRICT u
    | .FWP_CTX => hFwpField .FWP_CTX u
    | .FWP_FIRST => hFwpField .FWP_FIRST u
    | .FWP_LAST => hFwpField .FWP_LAST u
    | _ => settingHandler w e u

/-- DEV_NAME (R366): ASCII, kept under the first of the persistent values (R392). -/
def hDevName (bytes : Bytes) : Handler :=
  { range := fun _ _ => bytes.all (fun b => Nat.blt b.toNat 128)
    act := fun _ s =>
      match writeValue valuesFirst (eidOf .DEV_NAME 0) bytes.length (leVal bytes) s with
      | .error c => .error c
      | .ok s' => .ok { s' with devName := bytes } }

/-- A TEXT or a BLOB written: the elements that take one, each with its own rule of length. -/
def writeBlob (w : Route) (e : El) (u : Nat) (bytes : Bytes) (s : State) : Nat × State :=
  let fits := if Nat.ble bytes.length e.info.size then some 0 else none
  match e with
  | .DEV_NAME => judged w e u fits (hDevName bytes) s
  | .LC_TOKEN => judged w e u fits (hLcToken bytes) s
  | .KEY_INSTALL => judged w e u (if s.keyLength bytes then some 0 else none) (hKeyInstall bytes) s
  | .DP_DATA =>
    let r := dpWrite w u bytes s
    (r.1.getD 0, r.2)
  | _ => judged w e u fits (Handler.store e u) s

/-! The vendor areas (R365, R379). -/

/-- An EID of the vendor areas. -/
def vendorArea (eid : Nat) : Bool := Nat.ble 0xF0 (eid / 65536 % 256)

/-- A vendor request that R379 performs: from 0x03, in BLANK or RETURNED; any other finds no such area. -/
def vendorOpen (s : State) (w : Route) (eid : Nat) : Bool :=
  vendorArea eid && w == .coreM && (s.life == .blank || s.life == .returned)

/-- A vendor request performed: the entries are not published, so its status and its bytes are free, and what else an entry does is
left out (entry 142). -/
def vendorPerformed (s : State) : Nat × Bytes × State :=
  let d := s.draw
  let a := Config.vendorAnswer d.1
  (a.1.toNat, a.2, d.2)

/-- A dictionary write performed (R354, R357): its status and what it leaves. -/
def dictWrite (w : Route) (eid : Nat) (bytes : Bytes) (s : State) : Nat × State :=
  if vendorOpen s w eid then ((vendorPerformed s).1, (vendorPerformed s).2.2)
  else match elOf eid with
  | none => (1, s)
  | some (e, u) =>
    if e.info.blob then writeBlob w e u bytes s
    else
      let r := judged w e u (if bytes.length = e.info.size then some (leVal bytes) else none) (handlerOf w e u) s
      if e = .LC_REQUEST then (r.1, consumeToken w (leVal bytes) s r.2) else r

/-! Reads. -/

/-- TB_STATE (R42). -/
def tbCode : TbState → Nat
  | .noClock => 0
  | .acquire => 1
  | .locked => 2
  | .aligned => 3
  | .holdover => 4
  | .realign => 5

/-- TB_STATUS (R68). -/
def State.tbStatus (s : State) : Nat :=
  let t := s.tb
  let timing := (s.port (s.rget .TIMING_PORT)).cdr
  flagBit t.srcPresent 0 + flagBit t.pllLocked 1 + flagBit (t.st == .aligned) 2 + flagBit (t.st == .holdover) 3
    + flagBit (s.rget .SYNC_ROLE == 1 && t.st == .aligned) 4 + flagBit t.syncOk 5
    + flagBit (s.rget .FINE_DELAY != s.rget .FINE_DELAY_APPLIED) 6 + flagBit timing 7 + t.slotErr % 65536 * 2 ^ 16

/-- PORT_STATUS (R103), but for PRBS_LOCK. -/
def State.portStatus (s : State) (p : Nat) : Nat :=
  let x := s.port p
  flagBit x.cdr 0 + flagBit x.code 1 + flagBit x.framed 2 + flagBit (s.portState p == 5) 3 + flagBit (s.fget .MASK p == 1) 4
    + flagBit (s.cfgInvalid p) 5 + flagBit x.needsAlign 6 + flagBit (s.timingQualified p) 7 + x.lastStatus * 2 ^ 16

/-- LINE_RATE (R104): Mb/s at MCLK_NOMINAL, of an enabled receiver. -/
def State.lineRate (s : State) (p : Nat) : Nat :=
  if s.rflag .ENABLE p then s.rget .RX_MULT p * s.rget .MCLK_NOMINAL / 1000000 else 0

/-- ROLE (R129). -/
def State.bankRole (s : State) (n : Nat) : Nat := if s.isVaultBank n then 2 else if s.isRingBank n then 1 else 0

/-- RING_OLDEST and RING_NEWEST (R116, R130): the oldest crossing held, and the newest complete one; 0 where there is none. -/
def State.ringOldest (s : State) (q : Nat) : Nat := ((s.oldestHeld q).map s.mtOf).getD 0
def State.ringNewest (s : State) (q : Nat) : Nat := ((s.newestComplete q).map s.mtOf).getD 0

/-- Underpasses of a District's Quarter that are latched off (R144). -/
def State.guardsOff (s : State) (q : Nat) : Nat := (s.guards.filter (fun p => p.1 / 1024 == q && p.2.off)).length

/-- FABRIC_STATUS (R163). -/
def State.fabricStatus (s : State) (d : Nat) : Nat :=
  let x := s.dist d
  let off := s.guardsOff (d / 2)
  flagBit (s.clocked d) 0 + flagBit (x.frozen || (s.dev == .hold && s.lossHeld)) 1 + flagBit x.resetHeld 2 + flagBit x.weHeld 3
    + flagBit (off != 0) 4 + flagBit x.dramSeen 5 + off * 2 ^ 16

/-- F_CLOSE (R137): the lowest among the District's loaded planes; 0 with none. -/
def State.fClose (s : State) (d : Nat) : Nat :=
  let fs := ((List.range 8).filter (fun k => s.loaded (8 * d + k))).map (fun k => (s.plane (8 * d + k)).user.fClose)
  match fs with
  | [] => 0
  | f :: rest => listMin rest f % 65536

/-- PLANES (R183). -/
def State.planesWord (s : State) (d : Nat) : Nat :=
  ((List.range 8).map (fun k =>
    ((s.plane (8 * d + k)).state % 4 + flagBit (s.inService (8 * d + k)) 2 + flagBit ((s.dist d).ctx == k) 3) * 2 ^ (4 * k))).sum

/-- The release stage pending for a District (R179): its own, or the next one of a global load. -/
def State.stageNext (s : State) (d : Nat) : Nat :=
  match (s.dist d).stage with
  | some p => p.1
  | none => if s.load.pending then s.load.stage + 1 else 0

/-- BOLLARD_STATUS (R181, R184). -/
def State.bollardStatus (s : State) (d : Nat) : Nat :=
  let x := s.dist d
  flagBit (!x.released) 0 + flagBit (!x.released) 1 + s.stageNext d * 4 + s.tagHeld d * 2 ^ 16

/-- PATH_STATE (R210). -/
def State.pathState (s : State) (p : Nat) : Nat :=
  if s.dec.breached.contains p then 3
  else if s.dec.taps.any (fun t => t.2.path == p && bitOf t.2.contexts (s.dist (t.1 / 2)).ctx) then 2
  else if (mfind s.dec.paths p).isSome then 1 else 0

/-- TK_STATUS (R254, R259): under lock a signal is present, and in Ethernet mode negotiation is complete. DESIGN CHOICE (log entry 210): both
read 0 on a trunk that is off, waits for its PLL or is stopped, and are free while it trains, SIGNAL under PRBS too. -/
def State.trunkStatus (s : State) (k : Nat) : Nat :=
  let x := s.trunk k
  flagBit x.pll 0 + flagBit x.lock 1 + flagBit x.lock 2 + flagBit (linkState s k == 4) 3 + flagBit s.localReady 4 + flagBit x.remoteReady 5
    + flagBit (x.resend != 0) 6 + flagBit (s.mgmtLane k) 7
    + flagBit (x.lock && s.rget .TK_MODE k != 0) 8

/-- G_QUARTER and G_PORTS of a group (R215). -/
def State.groupQuarter (s : State) (g : Nat) : Nat :=
  match s.groupOf g with
  | [] => 0xFF
  | p :: _ => p / 16
def State.groupPortMask (s : State) (g : Nat) : Nat := ((s.groupOf g).map (fun p => 2 ^ (p % 16))).sum

/-- RT_ENTRY (R311): the page that RT_INDEX pages lie below. -/
def State.retiredEntry (s : State) : Nat :=
  let pages := s.retiredPages
  (pages.find? (fun p => (pages.filter (fun q => Nat.blt q p)).length == s.rget .RT_INDEX)).getD 0xFFFFFFFF

/-- A word of the time-table's window (R60, R69). -/
def State.ttWindowWord (s : State) (k : Nat) : Nat :=
  let t := if s.rflag .TT_WINDOW_SEL then s.rb.active else s.rb.shadow
  (mget t (s.rget .TT_WINDOW_INDEX) 0).toNat / 2 ^ (32 * k) % 2 ^ 32

/-- I3C_STATE (R363). -/
def State.i3cState (s : State) : Nat :=
  if !s.ctl.ready then 0 else if s.ctl.i3c.ddr then 3 else if s.rget .I3C_DA = 0 then 1 else 2

/-- I3C_PID (R341). -/
def State.i3cPid (s : State) : Nat :=
  0x2C5 * 2 ^ 33 + 0x1024 * 2 ^ 16 + s.devId % 16 * 2 ^ 12 + s.rget .REVISION % 2 ^ 12

/-- The sensor window (R375). -/
def State.sensorTemp (s : State) : Nat :=
  let n := s.rget .SENSOR_SEL
  if s.sensorBroken n then s.rget .T_CEILING
  else match mfind s.heat.sensors n with
    | some x => tempBits x.last
    | none => 0
def State.sensorPeak (s : State) : Nat :=
  match mfind s.heat.sensors (s.rget .SENSOR_SEL) with
  | some x => if decide (x.peak = -32768) then 0 else tempBits x.peak
  | none => 0

/-- REC_SEQ_OLDEST (R374); 0 where no record is held. -/
def State.seqOldest (s : State) : Nat :=
  match s.recorder.held with
  | [] => 0
  | r :: _ => r.seq % 2 ^ 32

/-- Elements that move with signals no command of the table carries, so that a read returns a free value of so many bits. -/
def freeRead (s : State) (e : El) (u : Nat) : Option Nat :=
  match e with
  | .CAN_TEC_REC => if s.rget .CAN_STATE = 1 && s.ctl.can.traffic then some 16 else none
  | .EQ_STATE => if s.adapting u then some 29 else none
  | _ => none

/-- Counters that move on by numbers no command of the table carries (R76, R101, R238): between two reads by a free number. -/
def State.freeCount (s : State) (e : El) (u : Nat) : Bool :=
  match e with
  | .CODE_ERRORS => s.codeCounts u
  | .PRBS_ERRORS => s.rget .RX_PRBS u != 0
  | .TK_PRBS_ERRORS => s.rget .TK_PRBS u != 0
  | .FEC_CORRECTED | .FEC_UNCORR => (s.trunk u).lock && s.rget .TK_MODE u != 0
  | _ => false

/-- Bits of a shown value that no command determines (R103, R258, R363, R372), taken from a draw. -/
def freeBitsOf (s : State) (e : El) (u r : Nat) : Option Nat :=
  match e with
  | .PORT_STATUS => if s.rget .RX_PRBS u = 0 then none else some (r % 2 * 2 ^ 8)
  | .TK_STATUS =>
    if linkState s u = 2 then some (r % 2 * 2 + (if s.rget .TK_MODE u = 0 then 0 else r / 2 % 2 * 2 ^ 8))
    else if linkState s u = 5 then some (r % 2 * 2) else none
  | .CORE_STATE => if s.run.running then some (1 + r % 2 * 2) else none
  | .CAN_STATE => if s.rget .CAN_STATE = 1 && s.ctl.can.traffic then some (r % 2) else none
  | _ => none

/-- What a read shows of an element of fixed size, but for free bits: the register, or what stands elsewhere in the state. -/
def State.shown (s : State) (w : Route) (e : El) (u : Nat) : Nat :=
  match e with
  | .TB_STATE => tbCode s.tb.st
  | .MT => s.mt
  | .TB_STATUS => s.tbStatus
  | .TT_WORD0 => s.ttWindowWord 0
  | .TT_WORD1 => s.ttWindowWord 1
  | .TT_WORD2 => s.ttWindowWord 2
  | .TT_WORD3 => s.ttWindowWord 3
  | .PORT_STATE => s.portState u
  | .RT_STATE => s.retirementState
  | .BIST_STATE =>
    if s.bistRunning && s.bist.spare.isSome && s.bist.phase.isNone && !s.bistAllowed (s.rget .BIST_TARGET) then 2 else s.rget e u
  | .PORT_STATUS => s.portStatus u
  | .LINE_RATE => s.lineRate u
  | .ROLE => s.bankRole u
  | .C0_HOLDER => s.c0Holder u
  | .RING_OLDEST => s.ringOldest u
  | .RING_NEWEST => s.ringNewest u
  | .FABRIC_STATUS => s.fabricStatus u
  | .F_CLOSE => s.fClose u
  | .PLANES => s.planesWord u
  | .BOLLARD_STATUS => s.bollardStatus u
  | .PATH_STATE => s.pathState u
  | .BUSY_SRC => s.busySrc
  | .FIO_STATUS => s.fioStatus u
  | .G_QUARTER => s.groupQuarter u
  | .G_PORTS => s.groupPortMask u
  | .INTAKE_LEVEL => s.intakeLevel
  | .Q_CTRL | .Q_BASE | .Q_SIZE | .Q_PRODUCER | .Q_CONSUMER | .Q_HEAD | .Q_TAIL | .Q_LEVEL | .Q_FRAGMENTS | .Q_STALLS
  | .Q_OVERSIZE => s.rget e s.qwin
  | .Q_ENABLED => s.enabledQueues.length
  | .TK_STATUS => s.trunkStatus u
  | .KEY_STATE => s.keyState
  | .TICKET_STATE => s.ticketState (s.rget .TICKET_QUERY)
  | .SCRUB_RATE => Nat.max (256 - s.rget .THROTTLE_F) 32
  | .CE_COUNT | .UE_COUNT | .POISON_READS | .LB_LEVEL | .LB_THRESHOLD | .LB_LEAK | .LB_OVERFLOWS | .CE_LAST | .UE_LAST
  | .INV_STATE => s.rget e (s.rget .MI_BANK)
  | .RT_ENTRY => s.retiredEntry
  | .CS_STATE => s.csState
  | .CS_STATUS => s.csStatus
  | .FR_SLOTS => s.reserveSlots
  | .FR_COVERED => s.reserveCovered
  | .FR_QUERY_STATE => s.reserveState (s.rget .FR_QUERY)
  | .I3C_STATE => s.i3cState
  | .I3C_PID => s.i3cPid
  | .MY_CONTROLLER => controllerOf w
  | .MY_RIGHTS => rightsOf s w
  | .DP_STATUS => s.dpStatus u
  | .DP_LIMIT => dpLimit (s.rget .DP_BIND u)
  | .LIFECYCLE => s.life.code
  | .DEV_STATE => s.dev.code
  | .CORE_STATE => if s.run.halted then 2 else 0
  | .WDT_STAGE => if s.run.halted then 2 else s.run.wdtStage
  | .WDT_REMAINING => ceilDiv s.run.wdtLeft 1000
  | .KP_WEAR => Nat.min (s.wearOf (s.rget .KP_SECTOR)) 0xFFFFFFFF
  | .REC_CAPACITY => 8192
  | .REC_COUNT => s.recorder.held.length
  | .REC_SEQ_NEXT => s.recorder.seqNext % 2 ^ 32
  | .REC_SEQ_OLDEST => s.seqOldest
  | .PF_COUNT => s.pfRecords.length
  | .SENSOR_TEMP => s.sensorTemp
  | .SENSOR_STATE => flagBit (s.sensorBroken (s.rget .SENSOR_SEL)) 0
  | .SENSOR_LAYER => sensorLayer (s.rget .SENSOR_SEL)
  | .SENSOR_PEAK => s.sensorPeak
  | .JTAG_OPEN => flagBit s.jtagOpen 0
  | _ => s.rget e u

/-- The value that a read of an element of fixed size returns. -/
def readValue (w : Route) (e : El) (u : Nat) (s : State) : Nat × State :=
  let r := (Config.freeBits s.fv).toNat
  match freeRead s e u with
  | some n => (r % 2 ^ n, s.draw.2)
  | none =>
    if s.freeCount e u then
      let t := addFree e u s
      (t.rget e u, t)
    else match freeBitsOf s e u r with
      | some b => (s.shown w e u + b, s.draw.2)
      | none => (s.shown w e u, s)

/-- The bytes that a read of a TEXT or a BLOB returns, whole. -/
def readBlob (e : El) (s : State) : Bytes × State :=
  match e with
  | .DEV_NAME => (s.devName, s)
  | .IMAGE_ID => (s.load.imageId, s)
  | .REC_RECORD =>
    (match s.selectedRecord (s.rget .REC_SEL) with
     | some r => r.bytes
     | none => [], s)
  | .PF_RECORD =>
    (match s.pfRecords[s.rget .PF_SEL]? with
     | some p => leBytes 64 p.2.toNat
     | none => [], s)
  | .LC_CHALLENGE => renewChallenge s
  | _ => ([], s)

/-- A read of an existing element that may be read, of a length that it has (R346, R355). -/
def readElement (w : Route) (e : El) (u wanted : Nat) (s : State) : Bytes × State :=
  if e.info.blob then
    let r := readBlob e s
    (r.1.take (if wanted = 0 then e.info.size else wanted), r.2)
  else if e.info.acc = .cmd then (List.replicate e.info.size 0, s)
  else
    let r := readValue w e u s
    (leBytes e.info.size r.1, r.2)

/-- The bytes wanted fit an element: its size, or for a TEXT or BLOB at most its maximum; 0 is the size itself (R346). -/
def wantedOk (e : El) (wanted : Nat) : Bool :=
  wanted == 0 || (if e.info.blob then Nat.ble wanted e.info.size else wanted == e.info.size)

/-- A dictionary read performed (R339, R354, R355): its status, its data and what it leaves. -/
def dictRead (w : Route) (eid wanted : Nat) (s : State) : Nat × Bytes × State :=
  if vendorOpen s w eid then vendorPerformed s
  else match elOf eid with
  | none => (1, [], s)
  | some (e, u) =>
    if e = .DP_DATA then
      dpWasRead (dpRead w u (if wanted = 0 then e.info.size else wanted) s)
    else if e.info.acc = .wo then (3, [], s)
    else if !wantedOk e wanted then (2, [], s)
    else
      let r := readElement w e u wanted s
      (0, r.1, r.2)

/-! Rows. -/

/-- DICT_WRITE (R354): a write of any element. -/
def execDictWrite (w : Route) (eid : Nat) (bytes : Bytes) (s : State) : Host.Outcome State Fault Refusal :=
  if !heard s w then .next s
  else .next (inTurn w (HeldRequest.writes eid bytes) (fun s => ((dictWrite w eid bytes s).1, [], (dictWrite w eid bytes s).2)) s)

/-- VENDOR_REQUEST (R379), a read or a write of an identifier in a vendor area. -/
def execVendorRequest (w : Route) (eid : Nat) (writes : Bool) (bytes : Bytes) (s : State) : Host.Outcome State Fault Refusal :=
  if !heard s w || !vendorArea eid then .next s
  else if writes then execDictWrite w eid bytes s
  else .next (inTurn w (HeldRequest.reads eid 0) (dictRead w eid 0) s)

end Sys2Proof.Machine
end

