-- ==== Sys2Proof/Machine/Susis.lean ====
section
/-! DEFINITION. Susis requests and responses (R346 to R349), their order (R357), and the dictionary windows. -/

namespace Sys2Proof.Machine

/-! Requests (R346). -/

/-- The bytes before DATA, LEN, and the bytes of DATA that a request of an OP carries. -/
def requestHead (opcode : Nat) : Nat := if susisLong opcode then 6 else 5
def requestLen (opcode : Nat) (f : Bytes) : Nat := leVal ((f.drop 4).take (requestHead opcode - 4))
def requestData (opcode len : Nat) : Nat := if susisOp opcode = 2 then len else 0

/-- OP and LEN that no request has: a reserved OP, a LEN above 4,096, or a NOP's LEN other than 0. -/
def requestWrong (opcode len : Nat) : Bool :=
  Nat.blt 2 (susisOp opcode) || Nat.blt susisMost len || (susisOp opcode == 0 && len != 0)

/-- A frame that ends with its request (I3C): MALFORMED where it is too short, its CRC not judged; then BAD_CRC; then MALFORMED
where its fields or its byte count are wrong; 0 otherwise. -/
def wholeFault (f : Bytes) : Nat :=
  let o := leVal (f.take 1)
  let n := requestLen o f
  if Nat.blt f.length (requestHead o + 2) then malformed
  else if crc16 (f.take (f.length - 2)) != leVal (f.drop (f.length - 2)) then badCrc
  else if requestWrong o n || f.length != requestHead o + requestData o n + 2 then malformed
  else 0

/-- A frame in which bytes may follow the request (CAN FD, the windows): the request's own fields place its CRC. -/
def leadFault (long : Bool) (f : Bytes) : Nat :=
  let o := leVal (f.take 1)
  let n := requestLen o f
  let need := requestHead o + requestData o n + 2
  if Nat.blt f.length (requestHead o + 2) || requestWrong o n || (susisLong o && !long) || Nat.blt f.length need then malformed
  else if crc16 (f.take (need - 2)) != leVal ((f.drop (need - 2)).take 2) then badCrc
  else 0

/-- A frame as the request a route holds. -/
def heldOf (w : Route) (id fault : Nat) (f : Bytes) : HeldRequest :=
  let o := leVal (f.take 1)
  let n := requestLen o f
  { route := w, opcode := o, eid := leVal ((f.drop 1).take 3), len := n,
    data := (f.drop (requestHead o)).take (requestData o n), id, fault }

/-- SUSIS_CRC_ERRORS and SUSIS_MALFORMED (R348). -/
def countFault (fault : Nat) (s : State) : State :=
  if fault = badCrc then s.rinc .SUSIS_CRC_ERRORS else if fault = malformed then s.rinc .SUSIS_MALFORMED else s

/-- A request arrives and waits for the dictionary (R357). -/
def arrive (r : HeldRequest) (s : State) : State :=
  let s := countFault r.fault (s.setCtl { s.ctl with waiting := s.ctl.waiting ++ [r] })
  answerFaults s.ctl.waiting.length s

/-! Performance (R357). -/

/-- What the dictionary does with a request: the status, the data and what it leaves. -/
def performRequest (r : HeldRequest) (s : State) : Nat × Bytes × State :=
  if susisOp r.opcode = 0 then (0, [], s)
  else if susisOp r.opcode = 1 then dictRead r.route r.eid r.len s
  else
    let x := dictWrite r.route r.eid r.data s
    (x.1, [], x.2)

/-- Two requests ask the same: OP, and for READ and WRITE what they name. -/
def HeldRequest.asks (a b : HeldRequest) : Bool :=
  a.route == b.route && a.fault == 0 && susisOp a.opcode == susisOp b.opcode
    && (susisOp b.opcode == 0 || (a.eid == b.eid && a.len == b.len && a.data == b.data))

/-- The dictionary performs a request in its turn (R357). -/
def susis (r : HeldRequest) (s : State) : Host.Outcome State Fault Refusal :=
  if r.route = .loader || !heard s r.route then .next s else .next (inTurn r.route (·.asks r) (performRequest r) s)

/-- A request of an OP as a command names it. -/
def asked (w : Route) (op eid len : Nat) (data : Bytes) : HeldRequest :=
  { route := w, opcode := op, eid, len, data, id := 0, fault := 0 }

/-- SUSIS_NOP (R346). -/
def execSusisNop (w : Route) (s : State) : Host.Outcome State Fault Refusal := susis (asked w 0 0 0 []) s

/-- SUSIS_READ (R346). -/
def execSusisRead (w : Route) (eid len : Nat) (s : State) : Host.Outcome State Fault Refusal := susis (asked w 1 eid len []) s

/-- SUSIS_WRITE (R346). -/
def execSusisWrite (w : Route) (eid : Nat) (bytes : Bytes) (s : State) : Host.Outcome State Fault Refusal :=
  susis (asked w 2 eid bytes.length bytes) s

/-! The dictionary windows (R387). -/

/-- A window of the core, and its route. -/
def State.window (s : State) (user : Bool) : DictWindow := if user then s.core.dictU else s.core.dictM
def State.setWindow (s : State) (user : Bool) (x : DictWindow) : State :=
  { s with core := if user then { s.core with dictU := x } else { s.core with dictM := x } }
def windowRoute (user : Bool) : Route := if user then .coreU else .coreM

/-- The request in a window submitted; no effect while one is being performed. -/
def submitWindow (user : Bool) (s : State) : State :=
  let x := s.window user
  if x.status = 1 then s
  else
    let f := x.request ++ List.replicate (requestMost - x.request.length) 0
    arrive (heldOf (windowRoute user) 0 (leadFault true f) f) (s.setWindow user { x with status := 1 })

/-- Bytes written into a window's request area from an offset on; bytes never written are 0. -/
def patchRequest (x : DictWindow) (offset : Nat) (bs : Bytes) : DictWindow :=
  let old := x.request ++ List.replicate (offset + bs.length - x.request.length) 0
  { x with request := old.take offset ++ bs ++ old.drop (offset + bs.length) }

end Sys2Proof.Machine
end

