-- ==== Sys2Proof/Machine/CoreMap.lean ====
section
/-! DEFINITION. The map of the service core (R382): what a read or a write of each region gives, for the debug bus master and for
the core's own accesses (R380 to R383), and the commands of the core that store into its registers. -/

namespace Sys2Proof.Machine

/-! Results of an access to the map (R426). -/

/-- STATUS of a debug transaction. -/
inductive MapStatus
  | ok | running | error | noPeek | denied | dropped
deriving DecidableEq, Repr

/-- The codes of STATUS. -/
def MapStatus.code : MapStatus → Nat
  | .ok => 0
  | .running => 1
  | .error => 2
  | .noPeek => 3
  | .denied => 4
  | .dropped => 5

/-- What an access gives: its status, the data read, and what it leaves. -/
structure MapResult where
  status : MapStatus
  data : Nat
  state : State
deriving DecidableEq, Repr

/-- Results. -/
def readOk (v : Nat) (s : State) : MapResult := { status := .ok, data := v % 2 ^ 32, state := s }
def writeOk (s : State) : MapResult := { status := .ok, data := 0, state := s }
def mapError (s : State) : MapResult := { status := .error, data := 0, state := s }
def orError (r : Option State) (s : State) : MapResult :=
  match r with
  | some t => writeOk t
  | none => mapError s

/-- A word whose value no rule gives. -/
def openWord (s : State) : MapResult := readOk (Config.freeBits s.fv).toNat s.draw.2

/-! SPACE 1: TCM (R429). -/

/-- What a TCM word holds that a halted core's debugger has not written: the boot ROM's images and, in the rest of data TCM, 0,
while the firmware has executed nothing; and what its program has left there after that (R390). -/
def State.tcmLeft (s : State) (a : Nat) : Nat :=
  if s.run.fresh && Nat.ble 0x20000000 a then 0 else (Config.tcmWord s.run.draw a).toNat

/-- A TCM read: while the core runs, what its program has left there. -/
def tcmRead (a : Nat) (s : State) : MapResult :=
  let a := a / 4 * 4
  if !isTcm a then mapError s
  else if s.run.running then readOk (Config.tcmWord s.fv a).toNat s.draw.2
  else readOk ((mfind s.run.tcm a).getD (s.tcmLeft a)) s

/-- A TCM write. -/
def tcmWrite (a v : Nat) (s : State) : MapResult :=
  let a := a / 4 * 4
  if !isTcm a then mapError s
  else if s.run.running then writeOk s
  else writeOk (s.setRun { s.run with tcm := mput s.run.tcm a v })

/-! SPACE 2: the core's map (R382 to R388), through the debug bus master (R427, R430) and by the core itself. -/

/-- A 32-bit word of bytes from an offset on. -/
def wordOf (bs : Bytes) (offset : Nat) : Nat := leVal ((bs.drop offset).take 4)

/-- A half of a 64-bit value: the low word first. -/
def halfOf (v : Nat) (high : Bool) : Nat := if high then v / 2 ^ 32 % 2 ^ 32 else v % 2 ^ 32

/-- A half of a 64-bit value replaced. -/
def putHalf (old v : Nat) (high : Bool) : Nat := if high then old % 2 ^ 32 + v * 2 ^ 32 else old / 2 ^ 32 * 2 ^ 32 + v

/-- The bank that an address of bank space names (R382). -/
def bankAt (a : Nat) : Nat := (a - 0x40000000) / 262144

/-- A word of a bank read at an offset; a refused access, or an error indication, is ERROR. -/
def bankRead (r : Requester) (cls n off : Nat) (s : State) : MapResult :=
  let s := settleHandover n r s
  if !s.mayAccess n r false then mapError (denied n r s)
  else
    let ix := requesterIndex n trunkHome r
    let x := readWord n (off / 8) ix.1 ix.2 (settleBank n r cls s)
    if x.1.2 then mapError x.2 else readOk (halfOf x.1.1.toNat (bitOf off 2)) x.2

/-- A word of a bank written at an offset: half of a 64-bit word (R299, R383). -/
def bankWrite (r : Requester) (cls n off v : Nat) (s : State) : MapResult :=
  let s := settleHandover n r s
  if !s.mayAccess n r true then mapError (denied n r s)
  else
    let high := bitOf off 2
    let ix := requesterIndex n trunkHome r
    let x := plazaWriteWord n (off / 8) ix.1 ix.2 (BitVec.ofNat 64 (if high then v * 2 ^ 32 else v)) (if high then 0xF0 else 0x0F)
      (settleBank n r cls s)
    if x.1 then mapError x.2 else writeOk x.2

/-- The rights that machine firmware grants to user tasks, at offset 0x2008 of the machine window (R387): 3 acts as 2. -/
def grantUser (v : Nat) (s : State) : State := { s with userRights := Nat.min (v % 4) 2 }

/-- A dictionary window read (R387). -/
def windowRead (user : Bool) (off : Nat) (s : State) : MapResult :=
  let x := s.window user
  if Nat.blt off 0x2000 then readOk (wordOf x.request (off / 4 * 4)) s
  else if off / 4 * 4 = 0x2000 then openWord s
  else if off / 4 * 4 = 0x2004 then readOk x.status s
  else if off / 4 * 4 = 0x2008 && !user then readOk s.userRights s
  else if Nat.ble 0x2800 off then readOk (wordOf x.response (off / 4 * 4 - 0x2800)) s
  else mapError s

/-- A dictionary window written (R387). -/
def windowWrite (user : Bool) (off v : Nat) (s : State) : MapResult :=
  let x := s.window user
  if Nat.blt off 0x2000 then
    (if x.status = 1 then mapError s else writeOk (s.setWindow user (patchRequest x (off / 4 * 4) (leBytes 4 v))))
  else if off / 4 * 4 = 0x2000 then writeOk (if v = 1 then submitWindow user s else s)
  else if off / 4 * 4 = 0x2004 then writeOk s
  else if off / 4 * 4 = 0x2008 && !user then writeOk (grantUser v s)
  else if Nat.ble 0x2800 off then writeOk s
  else mapError s

/-- A word of a row. -/
def rowWord (r : BitVec 128) (k : Nat) : Nat := r.toNat / 2 ^ (32 * k) % 2 ^ 32

/-- A word of a row replaced. -/
def putRowWord (r : BitVec 128) (k v : Nat) : BitVec 128 :=
  BitVec.ofNat 128 (r.toNat - rowWord r k * 2 ^ (32 * k) + v * 2 ^ (32 * k))

/-- The row presented, read by a debugger; what an empty queue presents no rule says. -/
def popWord (k : Nat) (s : State) : MapResult :=
  match s.mbox.shown with
  | r :: _ => readOk (rowWord r.1 k) s
  | [] => openWord s

/-- The queue mailbox read (R388, R430). -/
def mailboxRead (off : Nat) (consume : Bool) (s : State) : MapResult :=
  let m := s.mbox
  if off = 0x000 then readOk m.qid s
  else if off = 0x004 then readOk m.marks s
  else if off = 0x008 then readOk (flagBit m.waiting 0 + flagBit m.refused 1) s
  else if Nat.ble 0x010 off && Nat.blt off 0x020 then readOk (rowWord m.row ((off - 0x010) / 4)) s
  else if off = 0x040 then readOk m.popQid s
  else if off = 0x044 then readOk s.popFlags s
  else if Nat.ble 0x050 off && Nat.blt off 0x05C then popWord ((off - 0x050) / 4) s
  else if off = 0x05C then
    (if consume then
      let r := popWord 3 s
      { r with state := advancePops r.state }
    else { status := .noPeek, data := 0, state := s })
  else mapError s

/-- The queue mailbox written (R388): a row write while a fragment waits is a store access fault. -/
def mailboxWrite (off v : Nat) (s : State) : MapResult :=
  let m := s.mbox
  if off = 0x000 then writeOk (s.setMbox { m with qid := v % 2 ^ 16 })
  else if off = 0x004 then writeOk (s.setMbox { m with marks := v % 4 })
  else if off = 0x008 then writeOk s
  else if Nat.ble 0x010 off && Nat.blt off 0x020 then
    (if m.waiting then mapError s
     else
      let s := s.setMbox { m with row := putRowWord m.row ((off - 0x010) / 4) v }
      writeOk (if off = 0x01C then commitRow s else s))
  else if off = 0x040 then writeOk (namePops (v % 2 ^ 16) s)
  else if off = 0x044 || (Nat.ble 0x050 off && Nat.blt off 0x060) then writeOk s
  else mapError s

/-- The core-local block read (R384, R430). -/
def coreLocalRead (off : Nat) (consume : Bool) (s : State) : MapResult :=
  let c := s.core
  if off = 0x000 || off = 0x004 then readOk (halfOf c.mtime (off == 0x004)) s
  else if off = 0x008 || off = 0x00C then readOk (halfOf c.mtimecmp (off == 0x00C)) s
  else if off = 0x010 then readOk (flagBit c.msip 0) s
  else if off = 0x018 then readOk (halfOf s.mt false) (s.setCore { c with snapHigh := halfOf s.mt true })
  else if off = 0x01C then readOk c.snapHigh s
  else if off = 0x020 then readOk c.busClass s
  else if off = 0x024 then readOk c.taskId s
  else if off = 0x030 || off = 0x048 || off = 0x064 || off = 0x06C then openWord s
  else if off = 0x040 then readOk s.irqPending s
  else if off = 0x044 then readOk c.irqEnable s
  else if off = 0x050 then readOk s.memEventWord (if consume then popMemEvent s else s)
  else if off = 0x054 then readOk c.memLost (if consume then takeMemLost s else s)
  else if off = 0x060 then readOk c.kwSector s
  else if off = 0x068 then readOk c.kwStatus s
  else if Nat.ble 0x100 off && Nat.blt off 0x140 then readOk (wordOf c.kwData (off - 0x100)) s
  else mapError s

/-- A word of KW_DATA replaced. -/
def putKwWord (bs : Bytes) (offset v : Nat) : Bytes := bs.take offset ++ leBytes 4 v ++ bs.drop (offset + 4)

/-- The core-local block written (R384). -/
def coreLocalWrite (off v : Nat) (s : State) : MapResult :=
  let c := s.core
  if off = 0x008 || off = 0x00C then
    writeOk (settleTimer (s.setCore { c with mtimecmp := putHalf c.mtimecmp v (off == 0x00C) }))
  else if off = 0x010 then writeOk (writeMsip v s)
  else if off = 0x020 then writeOk (s.setCore { c with busClass := v % 4 })
  else if off = 0x024 then writeOk (s.setCore { c with taskId := v % 256 })
  else if off = 0x030 then writeOk (kickWatchdog v s)
  else if off = 0x044 then writeOk (s.setCore { c with irqEnable := v })
  else if off = 0x048 then writeOk (clearIrq v s)
  else if off = 0x060 then writeOk (s.setCore { c with kwSector := v })
  else if off = 0x064 then writeOk (startKeeperWrite v s)
  else if off = 0x06C then writeOk (commitFirmware v s)
  else if Nat.ble 0x100 off && Nat.blt off 0x140 then writeOk (s.setCore { c with kwData := putKwWord c.kwData (off - 0x100) v })
  else if off = 0x000 || off = 0x004 || off = 0x018 || off = 0x01C || off = 0x040 || off = 0x050 || off = 0x054 || off = 0x068 then
    writeOk s
  else mapError s

/-- A sector of the secret area, which reads as zero (R392). -/
def secretSector (n : Nat) : Bool := Nat.ble 32832 n && Nat.ble n 32895

/-- SPACE 2 read. -/
def mapRead (a : Nat) (consume : Bool) (s : State) : MapResult :=
  match regionOf a with
  | .rom => readOk (Config.romWord (a / 4 * 4)).toNat s
  | .vault => { status := .denied, data := 0, state := s }
  | .bank => bankRead dpMaster debugClass (bankAt a) (a % 262144) s
  | .keeper =>
    let n := (a - 0x80000000) / 64
    if s.keeper.failed then mapError s
    else if secretSector n then readOk 0 s
    else match s.sectorRead n with
      | some v => readOk (wordOf (sectorBytes v) (a % 64 / 4 * 4)) s
      | none => mapError (countReads [n] s)
  | .dictM => windowRead false (a - 0x90000000) s
  | .dictU => windowRead true (a - 0x90010000) s
  | .mailbox => mailboxRead ((a - 0xA0000000) / 4 * 4) consume s
  | .coreLocal => coreLocalRead ((a - 0xB0000000) / 4 * 4) consume s
  | .uart => openWord s
  | .tcm | .none => mapError s

/-- SPACE 2 write. -/
def mapWrite (a v : Nat) (s : State) : MapResult :=
  match regionOf a with
  | .rom | .keeper | .tcm | .none => mapError s
  | .vault => { status := .denied, data := 0, state := s }
  | .bank => bankWrite dpMaster debugClass (bankAt a) (a % 262144) v s
  | .dictM => windowWrite false (a - 0x90000000) v s
  | .dictU => windowWrite true (a - 0x90010000) v s
  | .mailbox => mailboxWrite ((a - 0xA0000000) / 4 * 4) v s
  | .coreLocal => coreLocalWrite ((a - 0xB0000000) / 4 * 4) v s
  | .uart => writeOk s

/-! Accesses of the core itself (R380 to R383). -/

/-- A word at an address of a bank or of the Vault's window as the core reaches it (R126, R383): the bank and the offset in it; none at
a Vault bank's address in bank space while VAULT_ENABLE = 1. -/
def State.coreBank (s : State) (a : Nat) : Option (Nat × Nat) :=
  match regionOf a with
  | .vault => (vaultPlace (a - 0x30000000)).map (fun p => (p.1, 16 * p.2.1 + p.2.2))
  | _ => if s.isVaultBank (bankAt a) then none else some (bankAt a, a % 262144)

/-- A load of the core gives what the map gives; what it cannot give is a load access fault, and the register is not written
(R382, R383). -/
def loaded (a : Nat) (r : MapResult) : State :=
  if r.status = .ok then r.state.setCore { r.state.core with readOut := r.data } else accessFault false a r.state

/-- A store of the core that the map does not take is a store access fault (R382, R383). -/
def stored (a : Nat) (r : MapResult) : State := if r.status = .ok then r.state else accessFault true a r.state

/-- A load of a word by the core. -/
def coreLoadWord (machine : Bool) (a : Nat) (s : State) : State :=
  let r : Requester := .plaza (.core machine)
  if !s.coreMay machine false a then accessFault false a s
  else match regionOf a with
    | .tcm => loaded a (openWord s)
    | .bank | .vault => match s.coreBank a with
      | some p => loaded a (bankRead r s.coreClass p.1 p.2 s)
      | none => accessFault false a s
    | _ => loaded a (mapRead a true s)

/-- A store of a word by the core; what it leaves in a TCM is the firmware's. -/
def coreStoreWord (machine : Bool) (a v : Nat) (s : State) : State :=
  let r : Requester := .plaza (.core machine)
  if !s.coreMay machine true a then accessFault true a s
  else match regionOf a with
    | .tcm => s
    | .bank | .vault => match s.coreBank a with
      | some p => stored a (bankWrite r s.coreClass p.1 p.2 v s)
      | none => accessFault true a s
    | _ => stored a (mapWrite a v s)

/-- An LR.W, an SC.W or an AMO: performed on data TCM alone; on any other address a store/AMO access fault (R380). -/
def coreAtomic (machine write reserves : Bool) (a : Nat) (s : State) : State :=
  if !isDataTcm a || !s.coreMay machine write a then accessFault true a s
  else s.setRun { s.run with reservation := reserves }

/-- One access of the core (R380 to R383); a CSR is written in machine mode alone. PRESUMED (entry 166): an instruction access fault is
mcause 1, and a CSR's write from user mode mcause 2, of the privileged specification that R380 names. A core that a deferred halt has
stopped does no more. -/
def coreStep (x : CoreStep) (s : State) : State :=
  if !s.run.running then s
  else match x.access with
  | .load a => coreLoadWord x.machine a s
  | .store a v => coreStoreWord x.machine a v s
  | .loadReserved a => coreAtomic x.machine false true a s
  | .storeConditional a => coreAtomic x.machine true false a s
  | .amo a => coreAtomic x.machine true s.run.reservation a s
  | .fetch a => if s.coreRuns x.machine a then s else coreTrap 1 a s
  | .writeCsr n v => if x.machine then (putPmpCsr n v s).getD s else coreTrap 2 (Config.freeBits s.fv).toNat s.draw.2

/-- What the core has done since its last command, in order (log entry 217); a core that does not run does nothing. -/
def coreDid (before : List CoreStep) (s : State) : State :=
  if s.run.running then before.foldl (fun t x => coreStep x t) s.ran else s

/-! The commands of the core that store into its registers (R384, R387, R388). -/

/-- WDT_KICK; from user mode a store access fault (R399). -/
def execWdtKick (v : CoreWord) (s : State) : Host.Outcome State Fault Refusal :=
  .next (coreStores v.machine [wordStore 0xB0000030 (kickWatchdog v.value)] (coreDid v.before s))

/-- KW_GO: KW_SECTOR and KW_DATA written, and then KW_GO (R384). -/
def execKwGo (sector : Nat) (data : BitVec 512) (v : CoreWord) (s : State) : Host.Outcome State Fault Refusal :=
  .next (coreStores v.machine
    [wordStore 0xB0000060 (setKwSector sector), { addr := 0xB0000100, size := 64, effect := setKwData data },
     wordStore 0xB0000064 (startKeeperWrite v.value)] (coreDid v.before s))

/-- FW_COMMIT. -/
def execFwCommit (v : CoreWord) (s : State) : Host.Outcome State Fault Refusal :=
  .next (coreStores v.machine [wordStore 0xB000006C (commitFirmware v.value)] (coreDid v.before s))

/-- MSIP_WRITE. -/
def execMsipWrite (v : CoreWord) (s : State) : Host.Outcome State Fault Refusal :=
  .next (coreStores v.machine [wordStore 0xB0000010 (writeMsip v.value)] (coreDid v.before s))

/-- IRQ_CLEAR. -/
def execIrqClear (v : CoreWord) (s : State) : Host.Outcome State Fault Refusal :=
  .next (coreStores v.machine [wordStore 0xB0000048 (clearIrq v.value)] (coreDid v.before s))

/-- MAILBOX_ROW_COMMIT: QID, the marks and the row's words written, the last of them at 0x01C, which commits it; a row write
while a fragment waits raises a store access fault (R388). -/
def execMailboxRowCommit (queue : CoreWord) (row : BitVec 128) (sof eof : Bool) (s : State) :
    Host.Outcome State Fault Refusal :=
  .next (coreStores queue.machine
    [wordStore 0xA0000000 (fun s => s.setMbox { s.mbox with qid := queue.value }),
     wordStore 0xA0000004 (fun s => s.setMbox { s.mbox with marks := flagBit sof 0 + flagBit eof 1 }),
     { addr := 0xA0000010, size := 16, effect := fun k s => if k = 16 then commitRow (setRow row 16 s) else setRow row k s
       faults := fun s => s.mbox.waiting }] (coreDid queue.before s))

/-- MAILBOX_POP_ADVANCE: the queue named at 0x040 where the mailbox does not present a row of it, and a read of 0x05C
(R388). -/
def execMailboxPopAdvance (queue : CoreWord) (s : State) : Host.Outcome State Fault Refusal :=
  let s := coreDid queue.before s
  if s.mbox.popQid = queue.value && s.mbox.shown != [] then .next (coreLoad queue.machine 0xA000005C advancePops s)
  else if s.coreMay queue.machine true 0xA0000040 then
    .next (coreLoad queue.machine 0xA000005C advancePops (namePops queue.value s))
  else .next (accessFault true 0xA0000040 s)

/-- The first address of a dictionary window (R382). -/
def windowBase (user : Bool) : Nat := if user then 0x90010000 else 0x90000000

/-- DQ_GO: firmware has written a request from offset 0, and submits it. -/
def execDqGo (window : CoreWindow) (bytes : Bytes) (s : State) : Host.Outcome State Fault Refusal :=
  let user := window.user
  if !heard s (windowRoute user) || Nat.blt 8192 bytes.length then .next s
  else
    .next (coreStores window.machine
      [{ addr := windowBase user, size := bytes.length
         effect := fun k s => s.setWindow user (patchRequest (s.window user) 0 (bytes.take k))
         faults := fun s => (s.window user).status == 1 },
       wordStore (windowBase user + 0x2000) (submitWindow user)] (coreDid window.before s))

end Sys2Proof.Machine
end

