-- ==== Sys2Proof/Machine/Trunks.lean ====
section
/-! DEFINITION. Packets on the trunks (R247 to R253) and Ethernet mode (R254 to R257): the choice of the next packet, sending and
receiving, and what the received rows go into. -/

namespace Sys2Proof.Machine

/-! The next packet (R247, R248). -/

/-- A row read now would carry an error indication (R234, R291). -/
def State.rowBad (s : State) (r : Nat) : Bool :=
  let bad (w : StoredWord) : Bool := match w.read with
    | .invalid => false
    | .clean _ => false
    | .corrected _ _ => false
    | .poison => true
    | .uncorrectable => true
  bad (s.cell (r / 16384) (2 * (r % 16384))) || bad (s.cell (r / 16384) (2 * (r % 16384) + 1))

/-- The first rows of a list, at most n, ended early at one that carries an error indication (R247). -/
def State.cutRows (s : State) : Nat → List Nat → List Nat
  | 0, _ => []
  | _ + 1, [] => []
  | n + 1, r :: rs => if s.rowBad r then [r] else r :: s.cutRows n rs

/-- The rows of a packet at most (R247). -/
def packetRows : Nat := 64

/-- The rows of a queue's head fragment that its trunk has not sent. -/
def State.unsent (s : State) (q : Nat) : List Nat :=
  let x := s.queue q
  (x.frags.getD x.sentFrags []).drop x.sentRows

/-- A packet that could go out: its queue, or 65,536 for management, its class and its blocks (R247). -/
structure Candidate where
  key : Nat
  cls : Nat
  blocks : Nat
deriving DecidableEq, Repr

/-- The key of management packets among the queues. -/
def mgmtKey : Nat := 65536

/-- The blocks of a packet of n rows (R247). -/
def blocksOf (n : Nat) : Nat := 1 + ceilDiv n 2

/-- Every head packet that a trunk could send, at most n rows each, in ascending queue number, management last (R248). -/
def State.headPackets (s : State) (k n : Nat) : List Candidate :=
  let qs := s.enabledQueues.filter (fun q => s.consumes q 0 k && s.unsent q != [])
  let own := if linkState s k = 4 then
      qs.map (fun q => ({ key := q, cls := s.qClass q, blocks := blocksOf (s.cutRows n (s.unsent q)).length } : Candidate))
    else []
  own ++ (if s.mgmtLane k && s.rget .TK_MODE k == 0 && (s.trunk k).mgmtOut != [] then
    [({ key := mgmtKey, cls := 3, blocks := blocksOf 1 } : Candidate)] else [])

/-- Credit left for a class (R249). -/
def creditLeft (x : Trunk) (c : Nat) : Nat := (ofClass x.cred c + 65536 - ofClass x.used c) % 65536

/-- A packet's blocks fit within the credit of its class (R249). -/
def creditAllows (x : Trunk) (p : Candidate) : Bool := Nat.ble p.blocks (creditLeft x p.cls)

/-- The turns after which a head packet passed over is sent next (R248). -/
def passLimit : Nat := 64

/-- The next of a class's packets: management first within C3, then the queue after the one served last, in rotation. -/
def nextInClass (x : Trunk) (ps : List Candidate) : Option Candidate :=
  match ps.find? (fun p => p.key == mgmtKey) with
  | some p => some p
  | none =>
    match ps with
    | [] => none
    | p :: _ => (ps.find? (fun a => Nat.blt (ofClass x.turn p.cls) a.key)).orElse (fun _ => some p)

/-- The packet that R248 chooses among those whose credit suffices. -/
def chooseAmong (x : Trunk) (ps : List Candidate) : Option Candidate :=
  match ps.find? (fun p => Nat.ble passLimit (mget x.passed p.key 0)) with
  | some p => some p
  | none => [1, 2, 3].findSome? (fun c => nextInClass x (ps.filter (fun p => p.cls == c)))

/-- Turns counted for the head packets passed over in favour of a higher class (R248). -/
def countTurns (all : List Candidate) (p : Candidate) (x : Trunk) : Trunk :=
  let passed := all.foldl (fun m a => if Nat.blt p.cls a.cls then mput m a.key (mget m a.key 0 + 1) else m) x.passed
  let turn := if p.key = mgmtKey then x.turn else (List.range 3).map (fun i => if i + 1 = p.cls then p.key else x.turn.getD i 0)
  { x with passed := mdel passed p.key, turn }

/-! Sending in Omium trunk framing (R247 to R250). -/

/-- Rows read for a packet: the stored bits of one that carries an error indication (R247). -/
def packetData (rows : List Nat) (s : State) : (List (BitVec 128) × Bool) × State :=
  let d := takeRows rows s
  let raw (r : Nat) : BitVec 128 :=
    (s.cell (r / 16384) (2 * (r % 16384) + 1)).data ++ (s.cell (r / 16384) (2 * (r % 16384))).data
  ((List.zipWith (fun a r => if a.2 then raw r else a.1) d.1 rows, d.1.any (·.2)), d.2)

/-- Rows as data blocks, two to a block; the upper half of a last block with one row is 0. -/
def rowBlocks : List (BitVec 128) → List (BitVec 257)
  | [] => []
  | [a] => [dataBlock a 0]
  | a :: b :: l => dataBlock a b :: rowBlocks l

/-- The START block of a packet (R247). -/
def startBlock (p : SentPacket) (err : Bool) (n : Nat) : BitVec 257 :=
  controlBlock (0x55 + p.cls * 2 ^ 8 + flagBit p.sof 10 + flagBit p.eof 11 + flagBit err 12 + flagBit p.mg 13
    + p.seq % 65536 * 2 ^ 16 + p.queue % 65536 * 2 ^ 32 + (n - 1) * 2 ^ 48)

/-- A packet goes out: its rows are read from queue storage, or are those made for it; its blocks use up credit. -/
def sendPacket (k : Nat) (p : SentPacket) (s : State) : State :=
  let d := packetData p.rows s
  let data := if p.rows.isEmpty then p.made else d.1.1
  let s := sendBlocks k (startBlock p d.1.2 data.length :: rowBlocks data) d.2
  let x := s.trunk k
  s.setTrunk k { x with used := addClass x.used p.cls (blocksOf data.length) }

/-- A new packet takes the next SEQ and waits for its acknowledgement (R248). -/
def sendNew (k : Nat) (p : SentPacket) (s : State) : State :=
  let seq := s.rget .TX_SEQ k
  let p := { p with seq }
  let s := sendPacket k p (s.rset .TX_SEQ k ((seq + 1) % 65536))
  s.setTrunk k { s.trunk k with unacked := (s.trunk k).unacked ++ [p] }

/-- A header row of a fragment whose word W0 or W3 cannot be read (R234). -/
def State.headBad (s : State) (r : Nat) (word : Nat) : Bool :=
  match (s.cell (r / 16384) (2 * (r % 16384) + word)).read with
  | .invalid => false
  | .clean _ => false
  | .corrected _ _ => false
  | .poison => true
  | .uncorrectable => true

/-- The rows after the fragment being made are skipped up to the tail (R234), with the ERROR record: whole fragments, and the rows
of one that is being pushed, whose rest is discarded to its end (DEDUCED, entry 162). -/
def skipToTail (q : Nat) (s : State) : State :=
  let x := s.queue q
  let n := (x.frags.drop x.sentFrags).flatten.length + x.part.length
  (s.setQueue q { x with frags := x.frags.take (x.sentFrags + 1), part := [], dropping := x.dropping || x.part != [],
                          waited := x.waited && x.part == [] }).raise
    sevError 0x0802 0 (leBytes 2 q ++ leBytes 4 n)

/-- The next packet of a queue, at most n rows: its rows, or a header made in place of a fragment whose header cannot be read
(R234); whether it begins and ends its fragment; and the queue moved on. -/
def nextPacket (q n : Nat) (s : State) : SentPacket × State :=
  let x := s.queue q
  let rows := s.unsent q
  let sof := x.sentRows == 0
  let base : SentPacket :=
    { seq := 0, cls := s.qClass q, queue := q, mg := false, sof, eof := true, rows := [], made := [], frees := true }
  let w0 := s.headBad (rows.getD 0 0) 0
  let w3 := s.headBad (rows.getD 1 0) 1
  if sof && Nat.ble 2 rows.length && (w0 || w3) then
    let d := deliverRows (rows.take 2) s
    let s := if w0 && w3 then skipToTail q d.2 else d.2
    ({ base with made := d.1.1.map (·.1) }, s.setQueue q { s.queue q with sentFrags := x.sentFrags + 1, sentRows := 0 })
  else
    let cut := s.cutRows n rows
    let eof := cut.length == rows.length
    ({ base with eof, rows := cut },
     s.setQueue q (if eof then { x with sentFrags := x.sentFrags + 1, sentRows := 0 }
       else { x with sentRows := x.sentRows + cut.length }))

/-- The banks of the rows that a packet would read are ready; a RETAINED one starts to wake (R123). -/
def packetReady (q n : Nat) (s : State) : Bool × State := rowsReady (s.qClass q) (s.cutRows n (s.unsent q)) s

/-- A resend: the oldest packet that is still to go out again, once its credit allows (R250). -/
def resendNext (k : Nat) (s : State) : State :=
  let x := s.trunk k
  match x.unacked[x.unacked.length - x.resend]? with
  | none => s.setTrunk k { x with resend := 0 }
  | some p =>
    let n := if p.rows.isEmpty then p.made.length else p.rows.length
    if creditAllows x { key := p.queue, cls := p.cls, blocks := blocksOf n } && (linkState s k == 4 || p.mg) then
      let r := rowsReady p.cls p.rows s
      if r.1 then sendPacket k p (r.2.setTrunk k { x with resend := x.resend - 1 }) else r.2
    else s

/-- The management packet that waits longest (R253). -/
def sendMgmt (k : Nat) (s : State) : State :=
  let x := s.trunk k
  match x.mgmtOut with
  | [] => s
  | row :: rest =>
    sendNew k { seq := 0, cls := 3, queue := 3, mg := true, sof := true, eof := true, rows := [], made := [row], frees := false }
      (s.setTrunk k { x with mgmtOut := rest })

/-- The packets unacknowledged at most (R248). -/
def unackedLimit : Nat := 32768

/-- PACKET_SEND: what is to be resent goes first; otherwise the packet that R248 chooses. -/
def execPacketSend (trunk : Nat) (s : State) : Host.Outcome State Fault Refusal :=
  if !s.linked trunk || s.rget .TK_MODE trunk != 0 then .next s
  else
    let x := s.trunk trunk
    if x.resend != 0 then .next (resendNext trunk s)
    else if Nat.ble unackedLimit x.unacked.length then .next s
    else
      let all := s.headPackets trunk packetRows
      match chooseAmong x (all.filter (creditAllows x)) with
      | none => .next s
      | some p =>
        if p.key = mgmtKey then .next (sendMgmt trunk (s.setTrunk trunk (countTurns all p x)))
        else
          let r := packetReady p.key packetRows s
          if !r.1 then .next r.2
          else
            let n := nextPacket p.key packetRows (r.2.setTrunk trunk (countTurns all p (r.2.trunk trunk)))
            .next (sendNew trunk n.1 n.2)

/-! Receiving (R249, R250, R252, R253). -/

/-- The fields of a START block's header row (R247). -/
def rxClass (h : BitVec 128) : Nat := bitsOf h.toNat 9 8
def rxSof (h : BitVec 128) : Bool := bitOf h.toNat 10
def rxEof (h : BitVec 128) : Bool := bitOf h.toNat 11
def rxErr (h : BitVec 128) : Bool := bitOf h.toNat 12
def rxMg (h : BitVec 128) : Bool := bitOf h.toNat 13
def rxSeq (h : BitVec 128) : Nat := bitsOf h.toNat 31 16
def rxQueue (h : BitVec 128) : Nat := bitsOf h.toNat 47 32
def rxRows (h : BitVec 128) : Nat := bitsOf h.toNat 53 48 + 1

/-- A packet whose blocks all came: its check is good, its rows are as many as NROWS_M1 says, and its class is one of 1 to 3. -/
def wholePacket (p : TrunkPacket) : Bool := p.good && p.rows.length == rxRows p.header && rxClass p.header != 0

/-- Blocks of a class leave the receive buffer (R249). -/
def freeBlocks (k c n : Nat) (s : State) : State :=
  let x := s.trunk k
  s.setTrunk k { x with freed := addClass x.freed c n }

/-- The rows of a packet pushed into a queue as far as it takes them: the rows left. A row that ends a packet with ERR is written
as poison (R252). -/
def pushRows (q : Nat) (err eof : Bool) : List (BitVec 128) → State → List (BitVec 128) × State
  | [], s => ([], s)
  | r :: rs, s =>
    let t := pushRow q r (err && rs.isEmpty) (eof && rs.isEmpty) s
    if t.1 then pushRows q err eof rs t.2 else (r :: rs, t.2)

/-- The first row of a received packet or frame for a queue (R252): rows from SOF to EOF form one fragment, so a SOF gives up the
rows of a fragment that never came to its EOF, and rows with no SOF before them are discarded up to an EOF (DEDUCED, entry 164). -/
def beginRows (q : Nat) (sof : Bool) (s : State) : State :=
  let x := s.queue q
  if sof then
    if x.part = [] && !x.dropping then s
    else (s.rset .Q_TAIL q (x.part.headD (s.rget .Q_TAIL q))).setQueue q { x with part := [], dropping := false, waited := false }
  else if x.part = [] && !x.dropping then s.setQueue q { x with dropping := true }
  else s

/-- A packet whose first rows have been pushed: what is left of it begins no fragment. -/
def packetRest (p : TrunkPacket) (left : List (BitVec 128)) : TrunkPacket :=
  if left.length = p.rows.length then p else { p with header := p.header &&& ~~~(1#128 <<< 10), rows := left }

/-- A packet for a queue that is not the trunk's to fill (R252): counted, with an ERROR record at most once per queue per orbit. -/
def noQueue (k q : Nat) (s : State) : State :=
  let s := s.rinc .RX_NOQUEUE k
  let x := s.trunk k
  if mfind x.warned q == some s.tb.orbit then s
  else (s.setTrunk k { x with warned := mput x.warned q s.tb.orbit }).raise sevError 0x1804 k []

/-- A management packet (R253): a Wyiley stream, taken by a load from trunk 0's lane (R262) and answered by a loader status packet
whether a load takes it or not; any other kind is discarded. -/
def takeMgmt (k : Nat) (p : TrunkPacket) (s : State) : State :=
  if rxQueue p.header = 2 && s.mgmtLane k then
    sendStatusOn k (if k = 0 && s.load.active && s.load.source = 2 then feed (p.rows.flatMap (fun r => leBytes 16 r.toNat)) s else s)
  else s.rinc .RX_DISCARDED k

/-- Packets of the receive buffer go where they belong, in SEQ order, until one waits for a full queue (R250, R252). -/
def pump (k : Nat) : List TrunkPacket → State → State
  | [], s => s.setTrunk k { s.trunk k with received := [] }
  | p :: ps, s =>
    let h := p.header
    let n := blocksOf (rxRows h)
    if rxMg h then pump k ps (freeBlocks k (rxClass h) n (takeMgmt k p s))
    else
      let q := (s.rget .RX_QBASE k + rxQueue h) % 65536
      if s.produces q 3 k then
        let r := pushRows q (rxErr h) (rxEof h) p.rows (beginRows q (rxSof h) s)
        match r.1 with
        | [] => pump k ps (freeBlocks k (rxClass h) n r.2)
        | left => r.2.setTrunk k { r.2.trunk k with received := packetRest p left :: ps }
      else pump k ps (freeBlocks k (rxClass h) n (noQueue k q s))

/-- The receive buffer of a trunk is emptied as far as its queues allow. -/
def drainTrunk (k : Nat) (s : State) : State := pump k (s.trunk k).received s

/-- Every trunk's receive buffer. -/
def drainTrunks (s : State) : State :=
  ((s.trunks.filter (fun p => p.2.received != [])).map (·.1)).foldl (fun t k => drainTrunk k t) s

/-- PACKET_RECEIVED (R250). -/
def execPacketReceived (trunk : Nat) (p : TrunkPacket) (s : State) : Host.Outcome State Fault Refusal :=
  if !s.receives trunk || !s.linked trunk then .next s
  else
    let h := p.header
    let e := s.rget .RX_EXPECT trunk
    let ahead := (rxSeq h + 65536 - e) % 65536
    let dropped := freeBlocks trunk (rxClass h) (blocksOf (rxRows h)) s
    let x := dropped.trunk trunk
    if ahead = 0 then
      if wholePacket p then
        let x := s.trunk trunk
        .next (drainTrunk trunk ((s.rset .RX_EXPECT trunk ((e + 1) % 65536)).setTrunk trunk
          { x with received := x.received ++ [p], nakSent := false, nakDue := false }))
      else .next (dropped.setTrunk trunk { x with nakDue := true, nakSent := true })
    else if ahead < 32768 then
      .next (dropped.setTrunk trunk { x with nakDue := x.nakDue || !x.nakSent, nakSent := true })
    else .next dropped

/-! Ethernet mode (R254 to R257). -/

/-- A field of a frame in network order. -/
def beAt (bs : Bytes) (offset size : Nat) : Nat := beVal ((bs.drop offset).take size)

/-- The 16-bit words of bytes in network order. -/
def words16 : Bytes → List Nat
  | [] => []
  | [a] => [a.toNat * 256]
  | a :: b :: l => (a.toNat * 256 + b.toNat) :: words16 l

/-- A sum folded into 16 bits with end-around carry. -/
def foldCarry (n : Nat) : Nat :=
  let a := n / 65536 + n % 65536
  a / 65536 + a % 65536

/-- The checksum of an IPv4 header (R255). -/
def ipChecksum (bs : Bytes) : Nat := 65535 - foldCarry ((words16 bs).foldl (· + ·) 0)

/-- The Omium header (R255). -/
def omiumHeader (sof eof err : Bool) (queue rows fseq : Nat) : Bytes :=
  leBytes 2 0xA55A ++ leBytes 1 1 ++ leBytes 1 (flagBit sof 0 + flagBit eof 1 + flagBit err 2) ++ leBytes 2 queue ++ leBytes 2 rows
    ++ leBytes 4 fseq ++ leBytes 4 0

/-- The IPv4 and UDP headers of a payload (R255). -/
def udpHeaders (s : State) (k fseq : Nat) (payload : Bytes) : Bytes :=
  let ttl := s.rget .IP_TTL_DSCP k
  let head (sum : Nat) : Bytes :=
    beBytes 1 0x45 ++ beBytes 1 (4 * bitsOf ttl 13 8) ++ beBytes 2 (28 + payload.length) ++ beBytes 2 fseq ++ beBytes 2 0x4000
      ++ beBytes 1 (bitsOf ttl 7 0) ++ beBytes 1 17 ++ beBytes 2 sum ++ beBytes 4 (s.rget .IP_SRC k) ++ beBytes 4 (s.rget .IP_DST k)
  head (ipChecksum (head 0)) ++ beBytes 2 (s.rget .UDP_SPORT k) ++ beBytes 2 (s.rget .UDP_DPORT k) ++ beBytes 2 (8 + payload.length)
    ++ beBytes 2 0

/-- A frame filled up to 60 bytes before its FCS. -/
def padFrame (f : Bytes) (s : State) : Bytes × State :=
  if Nat.ble 60 f.length then (f, s)
  else
    let d := s.draw
    (f ++ (List.range (60 - f.length)).map (Config.padByte d.1), d.2)

/-- A frame with the FCS that the MAC generates (R254). -/
def withFcs (f : Bytes) : Bytes := f ++ leBytes 4 (crc32 f)

/-- The rows of a frame at most (R255). -/
def State.frameRows (s : State) (k : Nat) : Nat :=
  (s.rget .ETH_MTU k - (if s.rget .TK_MODE k = 1 then 16 else 44)) / 16

/-- ETH_FRAME_SEND: rows of one fragment of the queue that R248 chooses (R255); the rows of a fragment are freed when its last
frame has left the pins (R256). -/
def execEthFrameSend (trunk : Nat) (s : State) : Host.Outcome State Fault Refusal :=
  if linkState s trunk != 4 || s.rget .TK_MODE trunk = 0 then .next s
  else
    let n := s.frameRows trunk
    let all := s.headPackets trunk n
    match chooseAmong (s.trunk trunk) all with
    | none => .next s
    | some c =>
      let r := packetReady c.key n s
      if !r.1 then .next r.2
      else
        let a := nextPacket c.key n (r.2.setTrunk trunk (countTurns all c (r.2.trunk trunk)))
        let p := a.1
        let d := packetData p.rows a.2
        let rows := if p.rows.isEmpty then p.made else d.1.1
        let s := d.2
        let x := s.trunk trunk
        let omium := omiumHeader p.sof p.eof d.1.2 p.queue rows.length x.fseq ++ rows.flatMap (fun r => leBytes 16 r.toNat)
        let macs := beBytes 6 (s.rget .ETH_DST trunk) ++ beBytes 6 (s.rget .ETH_SRC trunk)
        let body := if s.rget .TK_MODE trunk = 1 then macs ++ beBytes 2 (s.rget .ETH_TYPE trunk) ++ omium
          else macs ++ beBytes 2 0x0800 ++ udpHeaders s trunk x.fseq omium ++ omium
        let f := padFrame body s
        let s := f.2.setTrunk trunk { x with fseq := (x.fseq + 1) % 2 ^ 32, frame := some (withFcs f.1) }
        .next (if p.eof then freeFragment p.queue s else s)

/-- What a received frame is (R257). -/
inductive EthKind
  | data (omium : Bytes)
  | firmware
  | other
deriving DecidableEq, Repr

/-- An IPv4 packet without options or fragments, for this trunk's address, of a protocol. -/
def ipFor (s : State) (k proto : Nat) (f : Bytes) : Bool :=
  beAt f 12 2 == 0x0800 && beAt f 14 1 == 0x45 && Nat.land (beAt f 20 2) 0x3FFF == 0 && beAt f 23 1 == proto
    && beAt f 30 4 == s.rget .IP_SRC k

/-- A frame judged by its addresses and types (R257). -/
def State.ethKind (s : State) (k : Nat) (f : Bytes) : EthKind :=
  let mine := beAt f 0 6 == s.rget .ETH_SRC k
  if s.rget .TK_MODE k == 1 && mine && beAt f 12 2 == s.rget .ETH_TYPE k && fieldAt f 14 2 == 0xA55A then .data (f.drop 14)
  else if s.rget .TK_MODE k == 2 && ipFor s k 17 f && beAt f 36 2 == s.rget .UDP_DPORT k then
    .data (f.drop 42)
  else if beAt f 12 2 == 0x0806 && beAt f 20 2 == 1 && beAt f 38 4 == s.rget .IP_SRC k then .firmware
  else if ipFor s k 1 f && beAt f 34 1 == 8 then .firmware
  else .other

/-- The answers to ARP and ICMP requests in a second at most (R257). -/
def answerLimit : Nat := 1000

/-- The answer of service firmware to an ARP request for IP_SRC or an ICMP echo request to it, without its FCS (R257): an ARP reply
(RFC 826), or an echo reply (RFC 792) whose IPv4 header is filled as R255 fills one, its identification open. PRESUMED (entry
165). -/
def answerFrame (k : Nat) (f : Bytes) (s : State) : Bytes × State :=
  let me := beBytes 6 (s.rget .ETH_SRC k)
  let ip := beBytes 4 (s.rget .IP_SRC k)
  if beAt f 12 2 == 0x0806 then
    let asker := (f.drop 22).take 10
    padFrame (asker.take 6 ++ me ++ beBytes 2 0x0806 ++ (f.drop 14).take 6 ++ beBytes 2 2 ++ me ++ ip ++ asker) s
  else
    let d := s.draw
    let ttl := s.rget .IP_TTL_DSCP k
    let echo := (f.drop 38).take (beAt f 16 2 - 24)
    let icmp (sum : Nat) : Bytes := beBytes 2 0 ++ beBytes 2 sum ++ echo
    let head (sum : Nat) : Bytes :=
      beBytes 1 0x45 ++ beBytes 1 (4 * bitsOf ttl 13 8) ++ beBytes 2 (24 + echo.length)
        ++ beBytes 2 ((Config.freeBits d.1).toNat % 65536) ++ beBytes 2 0x4000 ++ beBytes 1 (bitsOf ttl 7 0) ++ beBytes 1 1
        ++ beBytes 2 sum ++ ip ++ (f.drop 26).take 4
    padFrame ((f.drop 6).take 6 ++ me ++ beBytes 2 0x0800 ++ head (ipChecksum (head 0)) ++ icmp (ipChecksum (icmp 0))) d.2

/-- A frame passed to service firmware (R257): it is kept as the last one, its interrupt is raised, and it is answered while
ARP_ICMP_EN is 1, up to the limit of a second. -/
def passToFirmware (k : Nat) (f : Bytes) (s : State) : State :=
  let s := latchIrq 7 (s.setTrunk k { s.trunk k with passedOn := some f })
  let x := s.trunk k
  let now := s.us / 1000000
  let n := if x.answers.1 = now then x.answers.2 else 0
  if s.rflag .ARP_ICMP_EN k && Nat.blt n answerLimit then
    let a := answerFrame k f s
    a.2.setTrunk k { x with answers := (now, n + 1), frame := some (withFcs a.1) }
  else s

/-- The rows of a data frame pushed, dropped where the queue is full (R257). -/
def takeData (k : Nat) (o : Bytes) (s : State) : State :=
  let flags := fieldAt o 3 1
  let rows := (chunks 16 (fieldAt o 6 2) (o.drop 16)).map (fun b => BitVec.ofNat 128 (leVal b))
  let q := (s.rget .RX_QBASE k + fieldAt o 4 2) % 65536
  if !s.produces q 3 k then noQueue k q s
  else
    let s := beginRows q (bitOf flags 0) s
    if (s.queue q).dropping || Nat.ble rows.length (s.queueFree q) then (pushRows q (bitOf flags 2) (bitOf flags 1) rows s).2
    else s

/-- ETH_FRAME_RECEIVED: a frame with its FCS (R257). -/
def execEthFrameReceived (trunk : Nat) (bytes : Bytes) (s : State) : Host.Outcome State Fault Refusal :=
  if !(s.trunk trunk).lock || s.rget .TK_MODE trunk = 0 then .next s
  else
    let f := bytes.take (bytes.length - 4)
    let good := Nat.ble 64 bytes.length && leVal (bytes.drop (bytes.length - 4)) == crc32 f
    if !good then .next (s.rinc .RX_DISCARDED trunk)
    else match s.ethKind trunk f with
      | .data o => .next (takeData trunk o s)
      | .firmware =>
        .next (if s.run.running && s.run.entered then passToFirmware trunk f s else s.rinc .RX_DISCARDED trunk)
      | .other => .next (s.rinc .RX_DISCARDED trunk)

end Sys2Proof.Machine
end

