-- ==== Sys2Proof/Machine/Crossing.lean ====
section
/-! DEFINITION. The passage of crossings and orbits (R66): what a crossing's end fixes, the orbit boundary with its swaps, base
changes, releases and stages, the start of a crossing, and the resume from HOLD (R58). -/

namespace Sys2Proof.Machine

/-! Downlinks (R95 to R100). -/

/-- K characters, told from data by bit 8: K28.5, K28.1 and K28.0 (R96). -/
def k285 : Nat := 0x1BC
def k281 : Nat := 0x13C
def k280 : Nat := 0x11C

/-- A downlink sends no frame: it is in electrical idle (R95, R279, R469), or drives boundary-scan values (R102). -/
def State.downlinkIdle (s : State) (p : Nat) : Bool :=
  s.scanDrivesPorts || s.load.stage == 0 || !s.rflag .DL_ENABLE p || !s.counting
    || (s.dev == .shutdown && (match s.heat.markersTo with | some x => Nat.blt x s.crossing | none => true))

/-- The characters of a downlink frame (R96), for the present crossing, from its command and the user bytes. -/
def State.downlinkFrame (s : State) (p cmd : Nat) (user : Bytes) : List Nat :=
  let n := s.rget .TX_MULT p / 10
  let bytes := if s.rflag .DL_FABRIC p then (List.range (n - 5)).map (fun i => user.getD i 0) else List.replicate (n - 5) 0
  let body := leBytes 1 s.tb.slot ++ leBytes 2 cmd ++ bytes
  (if s.tb.slot = 0 then k281 else k285) :: (body.map (·.toNat) ++ [crc8 body])

/-- An idle frame (R96). -/
def State.idleFrame (s : State) (p : Nat) : List Nat := k285 :: List.replicate (s.rget .TX_MULT p / 10 - 1) k280

/-- The sources that want the frame of the present crossing, by priority (R98), each with its command. -/
def State.commandSources (s : State) (p : Nat) (fabric : Option Nat) : List (Nat × Nat) :=
  let x := s.port p
  let one (i : Nat) (o : Option Nat) : List (Nat × Nat) := match o with
    | some c => [(i, c)]
    | none => []
  one 1 (mfind s.dec.downlinks p)
    ++ one 2 (match x.pulse with | some (c, cmd) => if c = s.crossing then some cmd else none | none => none)
    ++ one 3 fabric
    ++ one 4 (if x.sendAt = some s.crossing then some (s.rget .DL_CMD p) else none)

/-- The dictionary's command has left, or found no frame; pulses and sends of the present crossing are over. DESIGN CHOICE (log entry
192): a command for a crossing that is stepped over, or that a new numbering has not reached, stays pending. -/
def endCommands (p : Nat) (s : State) : State :=
  let x := s.port p
  let s := if x.sendAt = some s.crossing && s.rget .DL_SEND_STATUS p = 1 then s.rset .DL_SEND_STATUS p 3 else s
  s.setPort p { s.port p with sendAt := if x.sendAt = some s.crossing then none else x.sendAt, pulse := none }

/-- What user logic gives a port's downlink (R98): a command with a reserved code is dropped, and NOP sent (R97). -/
def fabricCommand (p : Nat) (s : State) : (Option Nat × Bytes) × State :=
  if s.rflag .DL_FABRIC p then
    let d := s.draw
    let f := Config.fabricDownlink d.1 p
    match f.1 with
    | some c => if reservedCommand (c % 65536) then ((some 0, f.2), d.2.rinc .CMD_DROPPED p) else ((some (c % 65536), f.2), d.2)
    | none => (f, d.2)
  else ((none, []), s)

/-- The frame of the present crossing fixed at its phase M - 1 (R99): a PRBS pattern stands in its place as no characters. -/
def composeDownlink (p : Nat) (s : State) : State :=
  let put (o : Option (List Nat)) (s : State) : State := s.setPort p { s.port p with downlink := o }
  if s.downlinkIdle p then endCommands p (put none s)
  else if s.rget .DL_PRBS p != 0 then endCommands p (put (some []) s)
  else
    let f := fabricCommand p s
    let s := f.2
    let all := s.commandSources p f.1.1
    let cmd := ((all.head?).map (·.2)).getD 0
    let s := (all.drop 1).foldl (fun t c => displace p c.1 t) s
    let s := if (all.head?).map (·.1) = some 4 then s.rset .DL_SEND_STATUS p 2 else s
    endCommands p (put (some (s.downlinkFrame p cmd f.1.2)) s)

/-- The ports whose downlinks may send, or hold something to send. -/
def State.sendingPorts (s : State) : List Nat := (s.unitsSet .DL_ENABLE ++ s.ports.map (·.1)).eraseDups

/-- A crossing ends: its downlink frames are fixed, its last fabric cycles run, the accepts offered in it are judged, and its store
writes have been performed (R99, R114, R205). -/
def leaveCrossing (s : State) : State :=
  let s := takeOffers (endCycles (s.sendingPorts.foldl (fun t p => composeDownlink p t) s))
  flushStores { s with dec := { s.dec with downlinks := [] } }

/-- While MT is held, every downlink sends idle frames in place of crossing frames (R57, R96), or its PRBS pattern (R101). -/
def idleDownlinks (s : State) : State :=
  (s.unitsSet .DL_ENABLE).foldl (fun t p =>
    t.setPort p { t.port p with downlink := if t.downlinkIdle p then none
                                            else if t.rget .DL_PRBS p != 0 then some [] else some (t.idleFrame p) }) s

/-! Orbit boundaries (R66). -/

/-- A table swap (R65, R66): the tables change places, and every window of the old one closes. -/
def swapTables (s : State) : State :=
  let d := s.distList
  let s := s.rb.openWindows.foldl (fun t w => if ttAction (t.ttActive w.1) = 1 then t else closeEntry w.1 w.2 t) s
  let s := { s with rb := { s.rb with active := s.rb.shadow, shadow := s.rb.active, pendingAt := none, fromImage := false
                                      openWindows := [], pauseNoted := false } }
  let s := (s.rset .TT_ACTIVE 0 (1 - s.rget .TT_ACTIVE)).rset .TT_COMMIT_STATUS 0 2
  d.foldl (fun t k => dropWindows k t) s

/-- A commit due at the present boundary (R59, R64). -/
def State.swapDue (s : State) : Bool :=
  match s.rb.pendingAt with
  | some n => n == allOnes64 || Nat.ble n s.tb.orbit
  | none => false

/-- The spacing of stages, in crossings (R280). -/
def State.stageSpan (s : State) : Nat := s.rget .RELEASE_SPACING * s.L

/-- The Districts of the device. -/
def everyDistrict (f : Nat → State → State) (s : State) : State := (List.range 128).foldl (fun t d => f d t) s

/-- Release stage 1 of a District (R178, R179): clock enable on, outputs enabled, inputs unmasked. -/
def releaseClock (d : Nat) (s : State) : State := s.setDist d { s.dist d with released := true, stopped := false }

/-- Release stage 2 of a District: write enables released. -/
def releaseWrites (d : Nat) (s : State) : State := s.setDist d { s.dist d with weHeld := false }

/-- A District that is stopped for a rewrite or a repair, or is being released from one, goes through the three stages of its own (R179). -/
def State.ownStages (s : State) (d : Nat) : Bool := (s.dist d).stopped || (s.dist d).stage.isSome

/-- A stage of a global load takes effect on a District. -/
def atGlobalStage (f : Nat → State → State) (d : Nat) (s : State) : State := if s.ownStages d then s else f d s

/-- Release stage 3 of a District: its user resets end, and its flip-flops start from INIT (R134, R179, R281). -/
def releaseResets (d : Nat) (s : State) : State :=
  let s := s.setFlop (liveKey d) (s.currentPlane d).user.init
  s.setDist d { s.dist d with resetHeld := false, written := [], since := s.crossing }

/-- A District takes the base context that a global image gives it (R175, R280). -/
def takeImageBase (d : Nat) (s : State) : State :=
  let x := s.dist d
  let s := match x.baseByImage with
    | some k => s.rset .BASE_CTX d k
    | none => s
  (s.setDist d { x with baseByImage := none, ctx := s.rget .BASE_CTX d, windows := [] }).rset .BASE_NEXT d 0xFF

/-- The effects of the release stages of a global load on the Districts (R179, R280). -/
def stageClocks (s : State) : State := everyDistrict (fun d t => atGlobalStage releaseClock d (takeImageBase d t)) s
def stageWrites (s : State) : State := everyDistrict (atGlobalStage releaseWrites) s
def stageResets (s : State) : State := everyDistrict (atGlobalStage releaseResets) s

/-- Stage 1 of a global load (R59, R280): the image's table becomes active, and the clocks, outputs and inputs are released. -/
def stageOne (s : State) : State :=
  let s := if s.rb.pendingAt = some atStageOne then swapTables s else s
  let s := stageClocks s
  settleLinks (s.setLoad { s.load with stage := 1, spaceFrom := some s.crossing })

/-- The anti-rollback counter takes the version that waits for stage 3 (R274). -/
def raiseDue (s : State) : State :=
  match s.load.advance with
  | some v => raiseVersion v s
  | none => s

/-- Stage 3 of a global load (R274, R280): the resets are released, the anti-rollback counter moves on, and an armed device runs. -/
def stageThree (s : State) : State :=
  let s := raiseDue (stageResets s)
  let s := s.setLoad { s.load with stage := 3, pending := false, spaceFrom := none, advance := none }
  if s.dev = .armed then s.become .running else s

/-- A release stage of a global load (R280). -/
def globalStage : Nat → State → State
  | 1, s => stageOne s
  | 2, s => stageWrites (s.setLoad { s.load with stage := 2, spaceFrom := some s.crossing })
  | _, s => stageThree s

/-- The stages of a global load that fall due at the present boundary, one after another (R280). -/
def globalStages : Nat → State → State
  | 0, s => s
  | n + 1, s =>
    match s.load.spaceFrom with
    | some x =>
      if s.load.pending && Nat.ble (x + s.stageSpan) s.crossing then globalStages n (globalStage (s.load.stage + 1) s) else s
    | none => s

/-- The stages of a rewritten or repaired District that fall due at the present boundary (R179). -/
def districtStages (d : Nat) : Nat → State → State
  | 0, s => s
  | n + 1, s =>
    match (s.dist d).stage with
    | some (k, some x) =>
      if Nat.ble (x + s.stageSpan) s.crossing then
        let next (j : Nat) (t : State) : State := t.setDist d { t.dist d with stage := some (j, some t.crossing) }
        let done (t : State) : State := t.setDist d { t.dist d with stage := none }
        let s := if k = 1 then next 2 (releaseClock d s) else if k = 2 then next 3 (releaseWrites d s)
          else done (releaseResets d s)
        districtStages d n s
      else s
    | _ => s

/-- A freeze whose release was requested ends (R378): the cycles from here on run uninterrupted. -/
def releaseFreeze (s : State) : State :=
  if s.rget .FREEZE_STATE = 3 then
    let ds := s.distList.filter (fun d => (s.dist d).frozen)
    endFreeze (ds.foldl (fun t d => t.setDist d { t.dist d with since := t.crossing }) s)
  else s

/-- A freeze is in force (R378). -/
def State.freezeHeld (s : State) : Bool := s.rget .FREEZE_STATE == 2 || s.rget .FREEZE_STATE == 3

/-- The device stays in HOLD past the present boundary for a freeze whose release nobody has requested (R378). -/
def State.freezeStays (s : State) : Bool := s.dev == .hold && s.rget .FREEZE_STATE == 2

/-- Entries run from the present boundary on (R56, R58): at least 2 crossings after alignment was confirmed; in HOLD, where no
freeze stays in force. -/
def State.entriesReturn (s : State) : Bool :=
  s.tb.st == .aligned && !s.freezeStays &&
    (match s.tb.confirmed with
     | some x => Nat.ble (x + 2) s.crossing
     | none => false)

/-- Where entries run again, the context windows that a loss had left open are over (R56); outside HOLD, the loss with them. -/
def endLoss (s : State) : State :=
  if s.lossHeld then
    let s := { s with rb := { s.rb with openWindows := [] } }
    let s := s.distList.foldl (fun t d => dropWindows d t) s
    if s.dev = .hold then s else { s with lossHeld := false, cut := s.crossing }
  else s

/-- What falls due at an orbit boundary in steps 1.2 and 1.3 of R66, in that order: where entries run, a table swap and base changes;
freeze releases; where entries run, release stages; and then every District passes once to the context that all of it gives it,
but for Districts that a clock or orbit loss holds until the resume (R56). -/
def dueChanges (s : State) : State :=
  let run := s.tb.entriesRun
  let s := if run && s.swapDue then swapTables s else s
  let s := if run && !s.freezeStays then s.distList.foldl (fun t d => changeBase d t) s else s
  let s := releaseFreeze s
  let s := if run then s.distList.foldl (fun t d => districtStages d 3 t) (globalStages 3 s) else s
  if run && !(s.lossHeld && s.dev == .hold) then s.distList.foldl (fun t d => settleAtStart d t) s else s

/-- What an orbit boundary brings beside the steps of R66: deferred settings, the bucket, alignment, guards, the breach latch,
rings that start, and the counts of the orbit anew. -/
def boundaryRest (s : State) : State :=
  let s := clampTokens s.enforce
  let s := (s.ports.map (·.1)).foldl (fun t p =>
    let t := alignAtBoundary p t
    t.setPort p { t.port p with displaced := [] }) s
  let s := clearBreach ((s.guards.map (·.1)).foldl (fun t k => reenable k t) s)
  let s := if s.tb.st = .aligned then s.ringQuarters.foldl (fun t q => startRing q t) s else s
  eachDistrict (fun x => { x with notLoaded := [] }) { s with rb := { s.rb with paused := [] } }

/-- The boundary into the next orbit (R41, R66). -/
def passBoundary (s : State) : State :=
  let s := leaveCrossing s
  let s := { s with tb := { s.tb with orbit := (s.tb.orbit + 1) % 2 ^ 48, turns := s.tb.turns + (s.tb.orbit + 1) / 2 ^ 48, slot := 0,
                                      entered := true } }
  let s := if !s.tb.entriesRun && s.entriesReturn then
      endLoss { s with tb := { s.tb with entriesRun := true, confirmed := none } }
    else s
  boundaryRest (dueChanges s)

/-- ORBIT_BOUNDARY: phase 0 of slot 0 of the next orbit, after the orbit's last slot. -/
def execOrbitBoundary (s : State) : Host.Outcome State Fault Refusal :=
  .next (if s.counting && s.tb.held.isNone && !s.tb.entered && s.tb.slot + 1 = s.L then passBoundary s else s)

/-! Crossings. -/

/-- The next crossing: into the next slot, or across an orbit boundary that has not been performed yet. -/
def advance (s : State) : State :=
  if s.tb.entered then { s with tb := { s.tb with entered := false } }
  else if s.tb.slot + 1 = s.L then
    let s := passBoundary s
    { s with tb := { s.tb with entered := false } }
  else
    let s := leaveCrossing s
    { s with tb := { s.tb with slot := s.tb.slot + 1 } }

/-- Stage spacings that waited for the time base count from the crossing in which it reached ALIGNED (R43, R179, R280). DESIGN CHOICE
(log entry 155): a spacing that has begun is not begun anew by a later loss and alignment. -/
def startSpacing (s : State) : State :=
  if s.tb.st != .aligned then s
  else
    let x := s.tb.confirmed.getD s.crossing
    let s := if s.load.pending && s.load.spaceFrom.isNone then s.setLoad { s.load with spaceFrom := some x } else s
    eachDistrict (fun d => match d.stage with
      | some (k, none) => { d with stage := some (k, some x) }
      | _ => d) s

/-- A crossing's entries are unrecorded: it lies in a clock or orbit loss (R56, R117). -/
def State.isUnrecorded (s : State) (c : Nat) : Bool := Nat.ble s.lossFrom c && (s.lossHeld || Nat.blt c s.cut)

/-- MT values stepped over at the last realignment are no crossings (R57). -/
def State.steppedOver (s : State) (c : Nat) : Bool :=
  match s.tb.stepped with
  | some (first, last) => Nat.ble first c && Nat.ble c last
  | none => false

/-- The ports that present something: enabled ones, ports with state of their own, and those of a recording Quarter. -/
def State.presentingPorts (s : State) : List Nat :=
  let rings := (s.ringQuarters.filter (fun q => s.rget .RING_STATE q == 2)).flatMap (fun q => (List.range 16).map (fun i => 16 * q + i))
  (s.unitsSet .ENABLE ++ s.ports.map (·.1) ++ rings).eraseDups

/-- A port's entry for the crossing that lies ALIGN_LAT back is written to its ring and presented, unless it has been already (R85,
R115, R117, R204). -/
def enterPort (p : Nat) (s : State) : State :=
  let lat := s.rget .ALIGN_LAT p
  let c := s.crossing - lat
  if Nat.blt s.crossing lat || s.steppedOver c || !s.unpresented p c then s
  else
    let e := s.presentOf p c
    let words := if s.isUnrecorded c then s.unrecorded p c else entryWords (s.rget .RING_WORDS (p / 16)) e
    let s := presentPort p c (storeEntry p c words s)
    if p = s.rget .TIMING_PORT then timingAccept e s else s

/-- SAFE entered at the first crossing after SAFE_ENTER (R368). -/
def enterDueSafe (s : State) : State :=
  match s.safeDue with
  | some c => enterSafe c (abortLoad { s with safeDue := none })
  | none => s

/-- What happens in every crossing from its phase 0 on (R66, R85, R115, R207, R219, R243). -/
def crossingActions (s : State) : State :=
  let s := settleSeals s
  let s := sendDueC0 { s with dec := { s.dec with force := s.rflag .BUSY_FORCE } }
  let s := startSpacing (enterDueSafe s)
  let s := if s.dev = .shutdown then s else s.ringQuarters.foldl (fun t q => ringWriter q t.crossing t) s
  let s := if s.dev = .shutdown then s else s.presentingPorts.foldl (fun t p => enterPort p t) s
  drainTrunks (countPauses (handOver s))

/-- CROSSING_START: phase 0 of the next crossing; with MT held it counts the leader's numbering on (R57), and while MT does not
count, only machine-clock edges. -/
def execCrossingStart (s : State) : Host.Outcome State Fault Refusal :=
  let s := agePriors (if s.tb.pllLocked then { s with tb := { s.tb with edges := s.tb.edges + 1 } } else s)
  let s := if s.tb.pllLocked || s.counting then tickSync (slewFineDelay s) else s
  if !s.counting then .next s
  else match s.tb.held with
    | some x =>
      if Nat.blt s.crossing (x + 1) then
        .next (crossingActions (advance { s with tb := { s.tb with held := none } }))
      else .next (idleDownlinks { s with tb := { s.tb with held := some (x + 1) } })
    | none => .next (crossingActions (advance s))

/-! Resume (R58). -/

/-- RESUME: at the resume boundary, with no freeze in force, the device returns from HOLD to RUNNING; after a clock or orbit loss each
District takes the context that the table prescribes for slot 0. -/
def execResume (s : State) : Host.Outcome State Fault Refusal :=
  if s.dev = .hold && s.counting && s.tb.slot = 0 && s.tb.st = .aligned && s.tb.entriesRun && !s.freezeHeld then
    let s := if s.lossHeld then
        { s.distList.foldl (fun t d => settleAtStart d t) s with lossHeld := false, cut := s.crossing }
      else s
    .next (((ariseSuspects (s.become .running)).rset .LAST_RESUME_MT 0 s.mt).raise sevInfo 0x0205 0 (leBytes 8 s.mt))
  else .next s

end Sys2Proof.Machine
end

