-- ==== Sys2Proof/Machine/I3cBus.lean ====
section
/-! DEFINITION. The I3C target (R340 to R344, R348) and the CAN FD port (R352, R353). What the target drives in a transfer
stands in the field out; none there means that it did not acknowledge. -/

namespace Sys2Proof.Machine

/-- What the target drove in the last transfer. -/
def drove (b : Option Bytes) (s : State) : State := s.setI3c { s.ctl.i3c with out := b }

/-- The target listens in SDR: control is ready, and no HDR mode is entered or sat out (R340, R342). -/
def State.i3cListens (s : State) : Bool := s.ctl.ready && !s.ctl.i3c.ddr && !s.ctl.i3c.deaf

/-- The target holds a dynamic address and answers to it in SDR. -/
def State.i3cAddressed (s : State) : Bool := s.i3cListens && s.rget .I3C_DA != 0

/-- A request of the I3C route waits for the dictionary. -/
def State.i3cPending (s : State) : Option HeldRequest := s.ctl.waiting.find? (fun r => r.route == .i3c)

/-! Private transfers (R348). -/

/-- A request delivered: taken while the route holds neither a request nor a response. -/
def i3cDeliver (bytes : Bytes) (s : State) : State :=
  if s.i3cPending.isSome || s.ctl.i3c.response.isSome then drove none s
  else match bytes with
    | [] => drove (some []) s
    | _ :: _ => arrive (heldOf .i3c 0 (wholeFault bytes) bytes) (drove (some []) s)

/-- A response collected: consumed by a read that reaches its last byte; IN_PROGRESS and NO_REQUEST where there is none. The
target ends a read at MRL. -/
def i3cCollect (count : Nat) (s : State) : State :=
  let n := Nat.min count s.ctl.i3c.mrl
  match s.ctl.i3c.response with
  | some r =>
    let s := drove (some (r.take n)) s
    if Nat.ble r.length n then s.setI3c { s.ctl.i3c with response := none } else s
  | none =>
    match s.i3cPending with
    | some p => drove (some ((responseFrame p.opcode 0x82 []).take n)) s
    | none => drove (some ((responseFrame ((Config.freeBits s.fv).toNat % 256) 0x83 []).take n)) s.draw.2

/-- I3C_PRIVATE_WRITE. -/
def execI3cPrivateWrite (bytes : Bytes) (s : State) : Host.Outcome State Fault Refusal :=
  .next (if s.i3cAddressed then i3cDeliver bytes s else drove none s)

/-- I3C_PRIVATE_READ. -/
def execI3cPrivateRead (count : Nat) (s : State) : Host.Outcome State Fault Refusal :=
  .next (if s.i3cAddressed then i3cCollect count s else drove none s)

/-! Addresses (R340 to R343). -/

/-- A value's bytes, most significant first. -/
def msBytes (n v : Nat) : Bytes := (leBytes n v).reverse

/-- A dynamic address that a controller may assign. -/
def addressOk (da : Nat) : Bool := da != 0 && Nat.blt da 128

/-- ENTDAA: a target without an address drives its PID, BCR and DCR, and takes the address (R341, R342). -/
def execEntdaa (da : Nat) (s : State) : Host.Outcome State Fault Refusal :=
  .next (if s.i3cListens && s.rget .I3C_DA = 0 && addressOk da then
      drove (some (msBytes 6 s.i3cPid ++ [0x26, 0x00])) (s.rset .I3C_DA 0 da)
    else drove none s)

/-- SETNEWDA. -/
def execSetnewda (da : Nat) (s : State) : Host.Outcome State Fault Refusal :=
  .next (if s.i3cAddressed && addressOk da then drove (some []) (s.rset .I3C_DA 0 da) else drove none s)

/-- RSTDAA (R343). -/
def execRstdaa (s : State) : Host.Outcome State Fault Refusal :=
  .next (if s.i3cListens then releaseLockOf 1 (drove (some []) (s.rset .I3C_DA 0 0)) else drove none s)

/-- The target interface reset (R343): an uncollected response is discarded, and the address is kept. -/
def resetInterface (s : State) : State :=
  let r := Control.reset.i3c
  s.setI3c { s.ctl.i3c with
    response := none, ddr := false, deaf := false, mwl := r.mwl, mrl := r.mrl, intEnabled := s.ctl.ready, hotJoinEnabled := true }

/-- RSTACT (R343). -/
def execRstact (action : Nat) (s : State) : Host.Outcome State Fault Refusal :=
  .next (if !s.i3cListens then drove none s
    else if action = 0 then drove (some []) (resetInterface s) else drove (some []) s)

/-- TARGET_RESET_PATTERN (R343): a pattern on the bus, not addressed and not acknowledged. -/
def execTargetResetPattern (s : State) : Host.Outcome State Fault Refusal := .next (resetInterface s)

/-! Other CCCs (R340, R344). -/

/-- Interrupts (bit 0) and Hot-Join (bit 3) enabled or disabled. -/
def setEvents (events : Nat) (on : Bool) (s : State) : State :=
  let x := s.ctl.i3c
  s.setI3c { x with
    intEnabled := if bitOf events 0 then on else x.intEnabled
    hotJoinEnabled := if bitOf events 3 then on else x.hotJoinEnabled }

/-- ENEC. -/
def execEnec (events : Nat) (s : State) : Host.Outcome State Fault Refusal :=
  .next (if s.i3cListens then drove (some []) (setEvents events true s) else drove none s)

/-- DISEC. -/
def execDisec (events : Nat) (s : State) : Host.Outcome State Fault Refusal :=
  .next (if s.i3cListens then drove (some []) (setEvents events false s) else drove none s)

/-- ENTAS0 to ENTAS3: accepted with no effect. -/
def execEntas (k : Nat) (s : State) : Host.Outcome State Fault Refusal :=
  .next (drove (if s.i3cListens && Nat.ble k 3 then some [] else none) s)

/-- SETMWL: values below 16 are ignored. -/
def execSetmwl (v : Nat) (s : State) : Host.Outcome State Fault Refusal :=
  .next (if !s.i3cListens then drove none s
    else
      let s := drove (some []) s
      if Nat.ble 16 v && Nat.blt v 65536 then s.setI3c { s.ctl.i3c with mwl := v } else s)

/-- SETMRL: values below 16 are ignored. -/
def execSetmrl (v : Nat) (s : State) : Host.Outcome State Fault Refusal :=
  .next (if !s.i3cListens then drove none s
    else
      let s := drove (some []) s
      if Nat.ble 16 v && Nat.blt v 65536 then s.setI3c { s.ctl.i3c with mrl := v } else s)

/-- ENTHDR0: HDR-DDR mode. -/
def execEnthdr0 (s : State) : Host.Outcome State Fault Refusal :=
  .next (if s.i3cListens then (drove (some []) s).setI3c { s.ctl.i3c with ddr := true, out := some [] } else drove none s)

/-- HDR_EXIT_PATTERN: HDR mode ends. -/
def execHdrExitPattern (s : State) : Host.Outcome State Fault Refusal :=
  .next (s.setI3c { s.ctl.i3c with ddr := false, deaf := false })

/-- The target takes part in HDR-DDR transfers. -/
def State.inDdr (s : State) : Bool := s.ctl.ready && s.ctl.i3c.ddr && s.rget .I3C_DA != 0

/-- HDR_DDR_WRITE: command code 0x20 alone. -/
def execHdrDdrWrite (code : Nat) (bytes : Bytes) (s : State) : Host.Outcome State Fault Refusal :=
  .next (if s.inDdr && code = 0x20 then i3cDeliver bytes s else drove none s)

/-- HDR_DDR_READ: command code 0xA0 alone. -/
def execHdrDdrRead (code count : Nat) (s : State) : Host.Outcome State Fault Refusal :=
  .next (if s.inDdr && code = 0xA0 then i3cCollect count s else drove none s)

/-- A direct CCC that returns bytes. -/
def directGet (b : State → Bytes) (s : State) : State := drove (if s.i3cAddressed then some (b s) else none) s

/-- A direct CCC whose content is open. -/
def openGet (ccc : Nat) (s : State) : State :=
  if s.i3cAddressed then drove (some (Config.i3cReply s.fv ccc)) s.draw.2 else drove none s

/-- GETPID (R341). -/
def execGetpid (s : State) : Host.Outcome State Fault Refusal := .next (directGet (fun s => msBytes 6 s.i3cPid) s)

/-- GETBCR. -/
def execGetbcr (s : State) : Host.Outcome State Fault Refusal := .next (directGet (fun _ => [0x26]) s)

/-- GETDCR. -/
def execGetdcr (s : State) : Host.Outcome State Fault Refusal := .next (directGet (fun _ => [0x00]) s)

/-- GETSTATUS. -/
def execGetstatus (s : State) : Host.Outcome State Fault Refusal := .next (openGet 0x90 s)

/-- GETMWL. -/
def execGetmwl (s : State) : Host.Outcome State Fault Refusal := .next (directGet (fun s => msBytes 2 s.ctl.i3c.mwl) s)

/-- GETMRL, with the IBI payload's 3 bytes. -/
def execGetmrl (s : State) : Host.Outcome State Fault Refusal := .next (directGet (fun s => msBytes 2 s.ctl.i3c.mrl ++ [3]) s)

/-- GETMXDS. -/
def execGetmxds (s : State) : Host.Outcome State Fault Refusal := .next (openGet 0x94 s)

/-- GETCAPS. -/
def execGetcaps (s : State) : Host.Outcome State Fault Refusal := .next (openGet 0x95 s)

/-- UNSUPPORTED_CCC: ENTHDR1 to ENTHDR7 are sat out until the HDR exit pattern; any other is not acknowledged (R340). -/
def execUnsupportedCcc (code : Nat) (s : State) : Host.Outcome State Fault Refusal :=
  .next (if Nat.ble 0x21 code && Nat.ble code 0x27 && s.i3cListens then
      (drove none s).setI3c { s.ctl.i3c with deaf := true, out := none }
    else drove none s)

/-! What the target raises (R342, R344). -/

/-- HOT_JOIN: raised until the target holds an address. -/
def execHotJoin (s : State) : Host.Outcome State Fault Refusal :=
  let x := s.ctl.i3c
  .next (if s.i3cListens && s.rget .I3C_DA = 0 && s.rflag .HJ_EN && x.hotJoinEnabled then
      s.setI3c { x with hotJoins := x.hotJoins + 1 }
    else s)

/-- An interrupt not acknowledged: attempted again up to 8 times, and then dropped for ALERT and STATE_CHANGE only. -/
def ibiFailed (p : PendingIbi) (rest : List PendingIbi) : List PendingIbi :=
  if Nat.ble 8 p.tries && (p.mdb == 1 || p.mdb == 3) then rest else rest ++ [{ p with tries := p.tries + 1 }]

/-- IBI_SEND: a pending interrupt of an enabled kind attempted. -/
def execIbiSend (kind : Nat) (acked : Bool) (s : State) : Host.Outcome State Fault Refusal :=
  let x := s.ctl.i3c
  match x.ibis.find? (fun p => p.mdb == kind) with
  | none => .next s
  | some p =>
    if !s.i3cAddressed || !x.intEnabled || !bitOf (s.rget .IBI_MASK) (kind - 1) then .next s
    else
      let rest := x.ibis.filter (fun q => q.mdb != kind)
      .next (s.setI3c (if acked then { x with ibis := rest, sent := some (p.mdb, p.first, p.second) }
        else { x with ibis := ibiFailed p rest }))

/-! CAN FD (R352, R353). -/

/-- The NODE of the identifiers that the port takes. -/
def State.canNode (s : State) : Nat := if s.fget .CAN_NODE = 0xFF then s.devId else s.fget .CAN_NODE

/-- An identifier names this device's requests: PREFIX, NODE and DIR. -/
def State.canOurs (s : State) (id : Nat) : Bool :=
  Nat.blt id (2 ^ 29) && bitsOf id 28 20 == s.fget .CAN_PFX && bitsOf id 19 16 == s.canNode && !bitOf id 15

/-- The port takes part in the bus: control is ready, and it is neither listen-only nor bus-off. -/
def State.canOn (s : State) : Bool := s.ctl.ready && s.rget .CAN_STATE == 1

/-- Tokens admit 16 requests at once and 2,000 per second (R353). -/
def tokenMost : Nat := 16
def tokenEvery : Nat := 500

/-- The bucket refilled up to now. -/
def refillTokens (s : State) : State :=
  let c := s.ctl.can
  let n := (s.us - c.refilled) / tokenEvery
  s.setCtl { s.ctl with can :=
    { c with tokens := Nat.min tokenMost (c.tokens + n), refilled := c.refilled + n * tokenEvery } }

/-- A request that is not admitted: CAN_RATE_DROPS, and a NOTICE record, at most one per second. -/
def dropCan (s : State) : State := (s.rinc .CAN_RATE_DROPS).raiseLimited 1000000 (0x3003 * 2 ^ 16) sevNotice 0x3003 1 []

/-- Requests of a node that are not answered yet. -/
def State.canHeld (s : State) (n : Nat) : Nat := (s.ctl.waiting.filter (fun r => r.route == .can n)).length

/-- CAN_FRAME: a frame of this device's prefix and node is admitted as a request, or dropped. -/
def execCanFrame (id : Nat) (bytes : Bytes) (s : State) : Host.Outcome State Fault Refusal :=
  let node := bitsOf id 14 8
  let s := if s.canOn then s.setCtl { s.ctl with can := { s.ctl.can with traffic := true } } else s
  if !s.canOn || !s.canOurs id || bytes.isEmpty || bytes.length != canLength bytes.length then .next s
  else
    let s := refillTokens s
    if Nat.ble 4 (s.canHeld node) || s.ctl.can.tokens = 0 then .next (dropCan s)
    else
      let s := s.setCtl { s.ctl with can := { s.ctl.can with tokens := s.ctl.can.tokens - 1 } }
      .next (arrive (heldOf (.can node) id (leadFault false bytes) bytes) s)

/-- CAN_BUS_OFF: the Expert lock leaves a CAN node that holds it (R356). -/
def execCanBusOff (s : State) : Host.Outcome State Fault Refusal :=
  if !s.canOn then .next s
  else
    let s := s.rset .CAN_STATE 0 3
    .next (if Nat.ble 0x80 (s.rget .LOCK_OWNER) then releaseLock s else s)

/-- CAN_BUS_OFF_RECOVERY: counted (R352), and error active, with both error counters at 0. -/
def execCanBusOffRecovery (s : State) : Host.Outcome State Fault Refusal :=
  .next (if s.rget .CAN_STATE = 3 then
      let s := ((s.rinc .CAN_BUS_OFF).rset .CAN_STATE 0 1).rset .CAN_TEC_REC 0 0
      s.setCtl { s.ctl with can := { s.ctl.can with traffic := false } }
    else s)

end Sys2Proof.Machine
end

