-- ==== Sys2Proof/Machine/Debug.lean ====
section
/-! DEFINITION. The JTAG port and its instructions (R423 to R425), the debug access register's transactions (R426 to R431), and
the debugger's rows. -/

namespace Sys2Proof.Machine

/-! Instructions (R423, R424). -/

/-- The TAP has its supply: VDD_AUX is good and the port's domain is not power-gated (R469). -/
def State.tapOn (s : State) : Bool := s.power.aux && !s.power.gated

/-- The instructions that drive the pins. -/
def drivesPins : JtagInstruction → Bool
  | .extest | .extestPulse | .extestTrain | .clamp | .highz => true
  | .idcode | .sample | .dbgAccess | .bypass => false

/-- The instructions that are always available. -/
def alwaysAvailable : JtagInstruction → Bool
  | .idcode | .bypass => true
  | .extest | .extestPulse | .extestTrain | .clamp | .highz | .sample | .dbgAccess => false

/-- The IDCODE (R423). -/
def State.idcodeWord (s : State) : BitVec 32 :=
  BitVec.ofNat 32 (s.rget .REVISION % 16 * 2 ^ 28 + 0x1024 * 2 ^ 12 + 0x2C5 * 2 + 1)

/-- An instruction comes into force, or BYPASS where it is not available. -/
def instruct (i : JtagInstruction) (s : State) : Host.Outcome State Fault Refusal :=
  .next (if !s.tapOn then s
    else
      let i := if s.jtagOpen || alwaysAvailable i then i else .bypass
      { s with
        pinsTaken := drivesPins i
        dbg := { s.dbg with instruction := i, idcode := if i = .idcode then some s.idcodeWord else none } })

/-- EXTEST. -/
def execExtest (s : State) : Host.Outcome State Fault Refusal := instruct .extest s

/-- IDCODE. -/
def execIdcode (s : State) : Host.Outcome State Fault Refusal := instruct .idcode s

/-- SAMPLE/PRELOAD. -/
def execSamplePreload (s : State) : Host.Outcome State Fault Refusal := instruct .sample s

/-- EXTEST_PULSE. -/
def execExtestPulse (s : State) : Host.Outcome State Fault Refusal := instruct .extestPulse s

/-- EXTEST_TRAIN. -/
def execExtestTrain (s : State) : Host.Outcome State Fault Refusal := instruct .extestTrain s

/-- CLAMP. -/
def execClamp (s : State) : Host.Outcome State Fault Refusal := instruct .clamp s

/-- HIGHZ. -/
def execHighz (s : State) : Host.Outcome State Fault Refusal := instruct .highz s

/-- DBG_ACCESS. -/
def execDbgAccess (s : State) : Host.Outcome State Fault Refusal := instruct .dbgAccess s

/-- BYPASS. -/
def execBypass (s : State) : Host.Outcome State Fault Refusal := instruct .bypass s

/-- TAP_LOGIC_RESET: only the TAP, which selects IDCODE (R423). -/
def execTapLogicReset (s : State) : Host.Outcome State Fault Refusal := instruct .idcode s

/-- TRST_N low: the debugger is detached (R440), and the TAP and every debug register are reset (R423). -/
def execTrstN (s : State) : Host.Outcome State Fault Refusal :=
  .next (if s.tapOn then { detach s with dbg := DebugPort.reset, pinsTaken := false } else s)

/-! SPACE 0: the core debug registers (R431, R436, R437). An error is none. -/

/-- DCTRL as it reads. -/
def State.dctrl (s : State) : Nat := flagBit s.dbg.step 2 + flagBit s.dbg.cur 3 + flagBit s.dbg.stepNoIrq 6

/-- DSTATUS. -/
def State.dstatus (s : State) : Nat :=
  let r := s.run
  flagBit r.halted 0 + flagBit r.deferred.isSome 1 + flagBit r.held 2 + r.cause % 8 * 2 ^ 3 + r.trigger % 16 * 2 ^ 6
    + flagBit r.lockBroken 10

/-- The TYPE of a trigger. -/
def triggerType (t : Nat) : Nat := if Nat.blt t 8 then 0 else if Nat.blt t 12 then 1 else 2

/-- TCTRL as it reads. -/
def State.tctrl (s : State) (t : Nat) : Nat := (s.trigger t).ctrl + triggerType t * 2 + flagBit (s.armed t) 10

/-- The bits of TCTRL that are kept: all but TYPE and ARMED. -/
def tctrlKept (v : Nat) : Nat := v % 2 ^ 32 - bitsOf v 2 1 * 2 - bitsOf v 10 10 * 2 ^ 10

/-- What a DPC, general register or CSR of a halted core holds. -/
def State.dpcWord (s : State) : Nat := s.run.dpc.getD (Config.corePc s.run.draw).toNat
def State.gprWord (s : State) : Nat := (mfind s.run.gprs s.dbg.gprSel).getD (Config.coreRegister s.run.draw s.dbg.gprSel).toNat
def State.csrWord (s : State) : Nat :=
  if s.dbg.csrSel = 0x344 then s.mip
  else (s.pmpCsr s.dbg.csrSel).getD ((mfind s.run.csrs s.dbg.csrSel).getD (Config.coreCsr s.run.draw s.dbg.csrSel).toNat)

/-- A trigger's register read: TADDR, TLIMIT, TCTRL, THITS. -/
def triggerRead (t k : Nat) (s : State) : Nat :=
  let x := s.trigger t
  if k = 2 then s.tctrl t else if k = 3 then x.hits else if Nat.ble 12 t then 0 else if k = 0 then x.addr else x.limit

/-- A core debug register read. -/
def coreRead (a : Nat) (s : State) : Option Nat :=
  if a = 0x000 then some s.dctrl
  else if a = 0x004 then some s.dstatus
  else if a = 0x008 then (if s.run.halted then some s.dpcWord else none)
  else if a = 0x010 then some s.dbg.gprSel
  else if a = 0x014 then (if s.run.halted then some s.gprWord else none)
  else if a = 0x018 then some s.dbg.csrSel
  else if a = 0x01C then (if s.run.halted then some s.csrWord else none)
  else if Nat.ble 0x100 a && Nat.blt a (0x100 + 16 * triggerCount) && a % 4 == 0 then
    some (triggerRead ((a - 0x100) / 16) (a % 16 / 4) s)
  else none

/-- A write of DCTRL: settings, then CORE_RESET, HALT_REQ, RESUME and DETACH. -/
def writeDctrl (v : Nat) (locked : Bool) (s : State) : Option State :=
  if bitsOf v 31 7 != 0 then none
  else
    let s := s.setDbg { s.dbg with step := bitOf v 2, cur := bitOf v 3, stepNoIrq := bitOf v 6 }
    let s := if bitOf v 4 then coreReset 3 s else s
    let s := if bitOf v 0 then requestHalt 1 0 locked s else s
    let s := if bitOf v 1 then resumeCore s else s
    some (if bitOf v 5 then detach s else s)

/-- A trigger as a write of TCTRL leaves it may be enabled (R436, R437). -/
def State.mayEnable (s : State) (n : Nat) (t : Trigger) : Bool :=
  (triggerType n != 1 || t.access != 0) && Nat.blt t.link triggerCount
    && chainOk (s.triggerList.map (fun p => if p.1 = n then (n, t) else p)) n

/-- A write of a trigger's register. -/
def triggerWrite (n k v : Nat) (s : State) : Option State :=
  let x := s.trigger n
  if k = 3 then some s
  else if k = 2 then
    let t := { x with ctrl := tctrlKept v, armed := false }
    if x.enabled && t.enabled then none
    else if t.enabled && !s.mayEnable n t then none
    else some (s.setTrigger n t)
  else if Nat.ble 12 n || x.enabled then none
  else some (s.setTrigger n (if k = 0 then { x with addr := v } else { x with limit := v }))

/-- CSR_DATA written: a register of protection by its own rules, mip not at all, any other as it is. -/
def writeCsr (v : Nat) (s : State) : State :=
  if s.dbg.csrSel = 0x344 then s
  else (putPmpCsr s.dbg.csrSel v s).getD (s.setRun { s.run with csrs := mput s.run.csrs s.dbg.csrSel v })

/-- A core debug register written. -/
def coreWrite (a v : Nat) (locked : Bool) (s : State) : Option State :=
  if a = 0x000 then writeDctrl v locked s
  else if a = 0x004 then some s
  else if a = 0x008 then (if s.run.halted then some (s.setRun { s.run with dpc := some v }) else none)
  else if a = 0x010 then (if Nat.ble 1 v && Nat.ble v 31 then some (s.setDbg { s.dbg with gprSel := v }) else none)
  else if a = 0x014 then
    (if s.run.halted then some (s.setRun { s.run with gprs := mput s.run.gprs s.dbg.gprSel v }) else none)
  else if a = 0x018 then (if Nat.blt v 4096 then some (s.setDbg { s.dbg with csrSel := v }) else none)
  else if a = 0x01C then
    (if s.run.halted then some (writeCsr v s) else none)
  else if Nat.ble 0x100 a && Nat.blt a (0x100 + 16 * triggerCount) && a % 4 == 0 then
    triggerWrite ((a - 0x100) / 16) (a % 16 / 4) v s
  else none

/-! SPACE 3: capture cells and banked shadows (R183, R427). -/

/-- SPACE 3 read. -/
def imageRead (a : Nat) (s : State) : MapResult :=
  let d := bitsOf a 23 17
  let key := if bitOf a 16 then shadowKey d (bitsOf a 15 13) else captureKey d
  if bitsOf a 31 24 != 0 then mapError s
  else readOk ((s.flop key).toNat / 2 ^ (8 * (bitsOf a 12 0 / 4 * 4)) % 2 ^ 32) s

/-! Transactions. -/

/-- A read in its space. -/
def debugRead (t : DebugTransaction) (s : State) : MapResult :=
  let a := t.addr % 2 ^ 32
  if t.space = 0 then
    match coreRead a s with
    | some v => readOk v s
    | none => mapError s
  else if t.space = 1 then tcmRead a s
  else if t.space = 2 then mapRead a t.consume s
  else if t.space = 3 then imageRead a s
  else mapError s

/-- A write in its space. -/
def debugWrite (t : DebugTransaction) (s : State) : MapResult :=
  let a := t.addr % 2 ^ 32
  let v := t.data % 2 ^ 32
  if t.space = 0 then orError (coreWrite a v t.locked s) s
  else if t.space = 1 then tcmWrite a v s
  else if t.space = 2 then mapWrite a v s
  else mapError s

/-- Update-DR under DBG_ACCESS starts a transaction (R426): the first one attaches the debugger (R440), and its result is held
for Capture-DR. -/
def transact (f : State → MapResult) (a : Nat) (s : State) : Host.Outcome State Fault Refusal :=
  if !s.tapOn || s.dbg.instruction != .dbgAccess || !s.jtagOpen then .next s
  else
    let r := f (s.rset .DBG_ATTACHED 0 1)
    .next (r.state.setDbg { r.state.dbg with status := r.status.code, addr := a % 2 ^ 32, data := r.data })

/-- DBG_NOP: only captures; what the last transaction gave stands. -/
def execDbgNop (s : State) : Host.Outcome State Fault Refusal :=
  .next (if s.tapOn && s.dbg.instruction = .dbgAccess && s.jtagOpen then s.rset .DBG_ATTACHED 0 1 else s)

/-- A transaction as it was shifted in (R426): one that meets the one before it RUNNING is not performed and captures DROPPED, what
was captured else standing; one with its reserved bit set is answered ERROR. -/
def shiftIn (t : DebugTransaction) (f : State → MapResult) (s : State) : Host.Outcome State Fault Refusal :=
  if t.overlaps then transact (fun s => { status := .dropped, data := s.dbg.data, state := s }) s.dbg.addr s
  else transact (if t.reserved then mapError else f) t.addr s

/-- DBG_READ. -/
def execDbgRead (t : DebugTransaction) (s : State) : Host.Outcome State Fault Refusal := shiftIn t (debugRead t) s

/-- DBG_WRITE. -/
def execDbgWrite (t : DebugTransaction) (s : State) : Host.Outcome State Fault Refusal := shiftIn t (debugWrite t) s

/-- DBG_RESERVED_OP. -/
def execDbgReservedOp (t : DebugTransaction) (s : State) : Host.Outcome State Fault Refusal := shiftIn t mapError s

/-! The debugger's own rows: writes of SPACE 0. -/

/-- DCTRL written with its settings as they stand, and a bit more. -/
def strobeDctrl (bit : Nat) (locked : Bool) (s : State) : Host.Outcome State Fault Refusal :=
  transact (fun s => orError (writeDctrl (s.dctrl + 2 ^ bit) locked s) s) 0 s

/-- HALT_REQ. -/
def execHaltReq (locked : Bool) (s : State) : Host.Outcome State Fault Refusal := strobeDctrl 0 locked s

/-- CORE_RESUME. -/
def execCoreResume (s : State) : Host.Outcome State Fault Refusal := strobeDctrl 1 false s

/-- CUR_WRITE. -/
def execCurWrite (v : Bool) (s : State) : Host.Outcome State Fault Refusal :=
  transact (fun s => writeOk (s.setDbg { s.dbg with cur := v })) 0 s

/-- DBG_CORE_RESET. -/
def execDbgCoreReset (s : State) : Host.Outcome State Fault Refusal := strobeDctrl 4 false s

/-- DETACH. -/
def execDetach (s : State) : Host.Outcome State Fault Refusal := strobeDctrl 5 false s

/-- The offset of a trigger's register. -/
def triggerOffset (n : Nat) (e : TriggerRegister) : Nat :=
  0x100 + 16 * n + (match e with | .taddr => 0 | .tlimit => 4 | .tctrl => 8)

/-- TRIGGER_CONFIG_WRITE. -/
def execTriggerConfigWrite (n : Nat) (e : TriggerRegister) (v : Nat) (s : State) : Host.Outcome State Fault Refusal :=
  transact (fun s => orError (coreWrite (triggerOffset n e) (v % 2 ^ 32) false s) s) (triggerOffset n e) s

end Sys2Proof.Machine
end

