-- ==== Sys2Proof/Machine/Ivtor.lean ====
section
/-! DEFINITION. Ivtor (R361, R362): its command line, its commands, and what a lifecycle withholds. -/

namespace Sys2Proof.Machine

/-! The command line (R361). -/

/-- The value of a digit. -/
def digitOf (c : Byte) : Option Nat :=
  let n := c.toNat
  if 0x30 ≤ n ∧ n ≤ 0x39 then some (n - 0x30)
  else if 0x41 ≤ n ∧ n ≤ 0x46 then some (n - 0x37)
  else if 0x61 ≤ n ∧ n ≤ 0x66 then some (n - 0x57)
  else none

/-- Digits of a base read on from a value. -/
def readDigits (base : Nat) : Bytes → Nat → Option Nat
  | [], n => some n
  | c :: cs, n => match digitOf c with
    | some d => if d < base then readDigits base cs (n * base + d) else none
    | none => none

/-- One or more digits of a base. -/
def digits (base : Nat) (cs : Bytes) : Option Nat := if cs = [] then none else readDigits base cs 0

/-- A number: decimal, or hexadecimal after 0x. -/
def numberOf (cs : Bytes) : Option Nat := if cs.take 2 = [0x30, 0x78] then digits 16 (cs.drop 2) else digits 10 cs

/-- An EID as the manual writes it: 0x, the area in two digits, a point, the entry in three, a point, the element in one. -/
def eidText (cs : Bytes) : Option Nat :=
  if cs.length = 10 ∧ cs.take 2 = [0x30, 0x78] ∧ (cs.drop 4).take 1 = [0x2E] ∧ (cs.drop 8).take 1 = [0x2E] then
    match digits 16 ((cs.drop 2).take 2), digits 16 ((cs.drop 5).take 3), digits 16 (cs.drop 9) with
    | some a, some e, some k => some (a * 65536 + e * 16 + k)
    | _, _, _ => none
  else none

/-- The most characters of a line. -/
def lineMost : Nat := 255

/-- The bytes of a value as WRITE gives them to the dictionary. DESIGN CHOICE (log entry 216): of a TEXT or a BLOB its characters, of
any other type the number in the type's size, and in as many bytes more as it takes; none where it is no number. -/
def valueBytes (eid : Nat) (cs : Bytes) : Option Bytes :=
  match elOf eid with
  | some (e, _) =>
    if e.info.blob then some cs
    else (numberOf cs).map (fun n => leBytes (if n < e.modulus then e.info.size else e.info.size + n.log2 / 8 + 1) n)
  | none => (numberOf cs).map (fun n => leBytes (n.log2 / 8 + 1) n)

/-! Commands (R362). -/

/-- Ivtor answers: firmware runs, or ROM service. -/
def State.ivtorRuns (s : State) : Bool := s.run.running && (s.run.entered || s.run.romService)

/-- A command that a lifecycle withholds (R362). -/
def State.ivtorDenied (s : State) : Bool := s.life == .field || s.life == .returned

/-- A line has come in: UART receive data raises source 6 (R385). Until Ivtor runs the characters are discarded (R455); a core that is
halted or traps since leaves the latch set. -/
def lineIn (s : State) : State :=
  if s.dev = .powerOff || s.dev = .reset || !(s.run.entered || s.run.romService) then s else latchIrq 6 s

/-- A command that Ivtor answers in ROM service as well. -/
def ivtorAlways (f : State → State) (s : State) : Host.Outcome State Fault Refusal :=
  .next (if s.ivtorRuns then f (lineIn s) else lineIn s)

/-- A command that needs the firmware. -/
def ivtorLine (f : State → State) (s : State) : Host.Outcome State Fault Refusal :=
  .next (if s.run.running && s.run.entered then f (lineIn s) else lineIn s)

/-- A command with arguments of so many characters, that come after a name and a space of so many: SYNTAX where the line is longer than a
line may be, or its arguments do not parse. -/
def parsed {α : Type} (name arguments : Nat) (v : Option α) (f : α → State → State) (s : State) : State :=
  match (if Nat.ble (name + arguments) lineMost then v else none) with
  | some v => f v s
  | none => ivtorReply .syntaxError s

/-- A command that FIELD and RETURNED withhold. -/
def ivtorGuarded (f : State → State) (s : State) : Host.Outcome State Fault Refusal :=
  ivtorLine (fun s => if s.ivtorDenied then ivtorReply .denied s else f s) s

/-- A dictionary request of Ivtor: performed where none waits, and otherwise in its turn. -/
def ivtorRequest (r : HeldRequest) (s : State) : State :=
  if !heard s .ivtor then s
  else match s.ctl.waiting with
    | [] => performFront r [] (performRequest r) s
    | _ :: _ => arrive r s

/-- IVTOR_HELP. -/
def execIvtorHelp (s : State) : Host.Outcome State Fault Refusal := ivtorAlways (ivtorReply (.ok Config.ivtorHelp)) s

/-- IVTOR_VER: identity and firmware version. -/
def execIvtorVer (s : State) : Host.Outcome State Fault Refusal :=
  ivtorAlways (fun s => ivtorReply (.ok (Config.ivtorText
    [s.rget .VENDOR, s.rget .PART, s.rget .REVISION, s.rget .SERIAL, s.rget .ROM_VERSION, s.rget .FW_VERSION])) s) s

/-- IVTOR_STATUS: device state, lifecycle, TB_STATE, hottest sensor, LOAD_REASON, BUSY_SRC. -/
def execIvtorStatus (s : State) : Host.Outcome State Fault Refusal :=
  ivtorAlways (fun s => ivtorReply (.ok (Config.ivtorText
    [s.dev.code, s.life.code, tbCode s.tb.st, s.rget .TJ_MAX_SENSOR, s.rget .TJ_MAX, s.rget .LOAD_REASON, s.busySrc])) s) s

/-- The rates of BAUD. -/
def baudOf (rate : Bytes) : Option Nat :=
  (numberOf rate).filter (fun n => n == 115200 || n == 460800 || n == 921600 || n == 3000000)

/-- IVTOR_BAUD: one of four rates, from after the reply on. -/
def execIvtorBaud (rate : Bytes) (s : State) : Host.Outcome State Fault Refusal :=
  ivtorLine (parsed 5 rate.length (baudOf rate) (fun n s =>
    let s := ivtorReply (.ok []) s
    s.setIvtor { s.ctl.ivtor with baud := n })) s

/-- on and off. -/
def switchOf (cs : Bytes) : Option Bool :=
  if cs = [0x6F, 0x6E] then some true else if cs = [0x6F, 0x66, 0x66] then some false else none

/-- IVTOR_ECHO. -/
def execIvtorEcho (on : Bytes) (s : State) : Host.Outcome State Fault Refusal :=
  ivtorLine (parsed 5 on.length (switchOf on) (fun b s =>
    let s := ivtorReply (.ok []) s
    s.setIvtor { s.ctl.ivtor with echo := b })) s

/-- IVTOR_READ. -/
def execIvtorRead (eid : Bytes) (s : State) : Host.Outcome State Fault Refusal :=
  ivtorGuarded (parsed 5 eid.length (eidText eid) (fun eid => ivtorRequest (asked .ivtor 1 eid 0 []))) s

/-- IVTOR_LOG: the last n records, 16 where no number is given. -/
def execIvtorLog (n : Bytes) (s : State) : Host.Outcome State Fault Refusal :=
  ivtorGuarded (parsed 4 n.length (if n = [] then some 16 else numberOf n) (fun n s =>
    ivtorReply (.ok (Config.ivtorLog ((lastOf n s.recorder.held).map Record.bytes))) s)) s

/-- The EID and the bytes that WRITE names. -/
def writeOf (eid value : Bytes) : Option (Nat × Bytes) :=
  (eidText eid).bind (fun eid => (valueBytes eid value).map (fun bs => (eid, bs)))

/-- IVTOR_WRITE. -/
def execIvtorWrite (eid value : Bytes) (s : State) : Host.Outcome State Fault Refusal :=
  ivtorGuarded (parsed 7 (eid.length + value.length) (writeOf eid value) (fun x =>
    ivtorRequest (asked .ivtor 2 x.1 x.2.length x.2))) s

/-- IVTOR_LOCK: EXPERT_LOCK = 1. -/
def execIvtorLock (s : State) : Host.Outcome State Fault Refusal :=
  ivtorGuarded (ivtorRequest (asked .ivtor 2 (eidOf .EXPERT_LOCK 0) 1 [1])) s

/-- IVTOR_UNLOCK: EXPERT_LOCK = 0. -/
def execIvtorUnlock (s : State) : Host.Outcome State Fault Refusal :=
  ivtorGuarded (ivtorRequest (asked .ivtor 2 (eidOf .EXPERT_LOCK 0) 1 [0])) s

end Sys2Proof.Machine
end

