-- ==== Sys2Proof/Machine/Dispatch.lean ====
section
/-! DEFINITION. One arm per command: a direct call of its meaning. -/

namespace Sys2Proof.Machine

def exec (i : Instr) (s : State) : Host.Outcome State Fault Refusal :=
  match i with
  | .clkSrcWrite w v => Sys2Proof.Machine.execClkSrcWrite w v s
  | .timingPortWrite w v => Sys2Proof.Machine.execTimingPortWrite w v s
  | .mclkNominalWrite w v => Sys2Proof.Machine.execMclkNominalWrite w v s
  | .orbitLenWrite w v => Sys2Proof.Machine.execOrbitLenWrite w v s
  | .fabricRatioWrite w v => Sys2Proof.Machine.execFabricRatioWrite w v s
  | .alignSrcWrite w v => Sys2Proof.Machine.execAlignSrcWrite w v s
  | .orbitOffsetWrite w v => Sys2Proof.Machine.execOrbitOffsetWrite w v s
  | .syncRoleWrite w v => Sys2Proof.Machine.execSyncRoleWrite w v s
  | .syncEveryWrite w v => Sys2Proof.Machine.execSyncEveryWrite w v s
  | .syncSamplePhaseWrite w v => Sys2Proof.Machine.execSyncSamplePhaseWrite w v s
  | .fineDelayWrite w v => Sys2Proof.Machine.execFineDelayWrite w v s
  | .sourceAcquired hz => Sys2Proof.Machine.execSourceAcquired hz s
  | .pllLocked => Sys2Proof.Machine.execPllLocked s
  | .orbitMarker src => Sys2Proof.Machine.execOrbitMarker src s
  | .markerMissing => Sys2Proof.Machine.execMarkerMissing s
  | .syncWordSend => Sys2Proof.Machine.execSyncWordSend s
  | .syncWord word => Sys2Proof.Machine.execSyncWord word s
  | .syncMissing => Sys2Proof.Machine.execSyncMissing s
  | .clockLoss cause => Sys2Proof.Machine.execClockLoss cause s
  | .sourceReturn hz => Sys2Proof.Machine.execSourceReturn hz s
  | .resume => Sys2Proof.Machine.execResume s
  | .orbitBoundary => Sys2Proof.Machine.execOrbitBoundary s
  | .crossingStart => Sys2Proof.Machine.execCrossingStart s
  | .ttWordWrite w k v => Sys2Proof.Machine.execTtWordWrite w k v s
  | .windowSelectorWrite w e v => Sys2Proof.Machine.execWindowSelectorWrite w e v s
  | .ttCopy w v => Sys2Proof.Machine.execTtCopy w v s
  | .ttCommit w v => Sys2Proof.Machine.execTtCommit w v s
  | .ttValidationDone => Sys2Proof.Machine.execTtValidationDone s
  | .ttWindowStart entry => Sys2Proof.Machine.execTtWindowStart entry s
  | .ttWindowEnd entry => Sys2Proof.Machine.execTtWindowEnd entry s
  | .countClear w e unit v => Sys2Proof.Machine.execCountClear w e unit v s
  | .portSettingWrite w e port v => Sys2Proof.Machine.execPortSettingWrite w e port v s
  | .alignSettingWrite w e port v => Sys2Proof.Machine.execAlignSettingWrite w e port v s
  | .maskWrite w port v => Sys2Proof.Machine.execMaskWrite w port v s
  | .rxPrbsWrite w port v => Sys2Proof.Machine.execRxPrbsWrite w port v s
  | .dlPrbsWrite w port v => Sys2Proof.Machine.execDlPrbsWrite w port v s
  | .dlCmdWrite w port v => Sys2Proof.Machine.execDlCmdWrite w port v s
  | .cdrLockAcquired port => Sys2Proof.Machine.execCdrLockAcquired port s
  | .cdrLockLost port => Sys2Proof.Machine.execCdrLockLost port s
  | .codeLockAcquired port => Sys2Proof.Machine.execCodeLockAcquired port s
  | .codeLockLost port errors => Sys2Proof.Machine.execCodeLockLost port errors s
  | .frameComplete port f => Sys2Proof.Machine.execFrameComplete port f s
  | .startSymbolTimeout port => Sys2Proof.Machine.execStartSymbolTimeout port s
  | .alignReq w port v => Sys2Proof.Machine.execAlignReq w port v s
  | .alignWindowEnd port => Sys2Proof.Machine.execAlignWindowEnd port s
  | .adaptInitialEnd port => Sys2Proof.Machine.execAdaptInitialEnd port s
  | .dlSend w port v => Sys2Proof.Machine.execDlSend w port v s
  | .bankArbitration bank cycle => Sys2Proof.Machine.execBankArbitration bank cycle s
  | .localRequest district bank word data enables => Sys2Proof.Machine.execLocalRequest district bank word data enables s
  | .storeChannelRequest district word => Sys2Proof.Machine.execStoreChannelRequest district word s
  | .plazaRequest src word data enables => Sys2Proof.Machine.execPlazaRequest src word data enables s
  | .fixedResponse district chan => Sys2Proof.Machine.execFixedResponse district chan s
  | .orderedResponse district chan => Sys2Proof.Machine.execOrderedResponse district chan s
  | .plazaResponse src bank => Sys2Proof.Machine.execPlazaResponse src bank s
  | .ownerWrite w bank v => Sys2Proof.Machine.execOwnerWrite w bank v s
  | .handoverDrainEnd bank => Sys2Proof.Machine.execHandoverDrainEnd bank s
  | .powerWrite w bank v => Sys2Proof.Machine.execPowerWrite w bank v s
  | .bankWakeDone bank => Sys2Proof.Machine.execBankWakeDone bank s
  | .deferredSleep bank => Sys2Proof.Machine.execDeferredSleep bank s
  | .ringEnableWrite w quarter v => Sys2Proof.Machine.execRingEnableWrite w quarter v s
  | .ringGeometryWrite w e quarter v => Sys2Proof.Machine.execRingGeometryWrite w e quarter v s
  | .vaultEnableWrite w v => Sys2Proof.Machine.execVaultEnableWrite w v s
  | .vaultLock w v => Sys2Proof.Machine.execVaultLock w v s
  | .vaultUnlock w v => Sys2Proof.Machine.execVaultUnlock w v s
  | .vaultWipe w v => Sys2Proof.Machine.execVaultWipe w v s
  | .vaultWipeDone => Sys2Proof.Machine.execVaultWipeDone s
  | .underpassContention district underpass => Sys2Proof.Machine.execUnderpassContention district underpass s
  | .upClear w district v => Sys2Proof.Machine.execUpClear w district v s
  | .dramUncorrectable district block row => Sys2Proof.Machine.execDramUncorrectable district block row s
  | .baseNextWrite w district v => Sys2Proof.Machine.execBaseNextWrite w district v s
  | .baseAtWrite w district v => Sys2Proof.Machine.execBaseAtWrite w district v s
  | .lockGroupWrite w district v => Sys2Proof.Machine.execLockGroupWrite w district v s
  | .captureArm w district v => Sys2Proof.Machine.execCaptureArm w district v s
  | .captureDisarm w district v => Sys2Proof.Machine.execCaptureDisarm w district v s
  | .captureCycle district => Sys2Proof.Machine.execCaptureCycle district s
  | .sentinelJudge tap o => Sys2Proof.Machine.execSentinelJudge tap o s
  | .decisionEmit => Sys2Proof.Machine.execDecisionEmit s
  | .breachAck w v => Sys2Proof.Machine.execBreachAck w v s
  | .busyForceWrite w v => Sys2Proof.Machine.execBusyForceWrite w v s
  | .policyWrite w path v => Sys2Proof.Machine.execPolicyWrite w path v s
  | .tapOutWrite w tap v => Sys2Proof.Machine.execTapOutWrite w tap v s
  | .acceptLaneWord pair word => Sys2Proof.Machine.execAcceptLaneWord pair word s
  | .acceptPinSample pair => Sys2Proof.Machine.execAcceptPinSample pair s
  | .ssModeWrite w pair v => Sys2Proof.Machine.execSsModeWrite w pair v s
  | .ssFioCfgWrite w pair v => Sys2Proof.Machine.execSsFioCfgWrite w pair v s
  | .tokenRefill => Sys2Proof.Machine.execTokenRefill s
  | .extractionStart group => Sys2Proof.Machine.execExtractionStart group s
  | .extractionDone group => Sys2Proof.Machine.execExtractionDone group s
  | .fragmentWrite group => Sys2Proof.Machine.execFragmentWrite group s
  | .ebGroupWrite w port v => Sys2Proof.Machine.execEbGroupWrite w port v s
  | .gWindowWrite w e group v => Sys2Proof.Machine.execGWindowWrite w e group v s
  | .eventPresetWrite w v => Sys2Proof.Machine.execEventPresetWrite w v s
  | .qEnable w v => Sys2Proof.Machine.execQEnable w v s
  | .qDisable w v => Sys2Proof.Machine.execQDisable w v s
  | .qFlush w v => Sys2Proof.Machine.execQFlush w v s
  | .qpPush district queue row last => Sys2Proof.Machine.execQpPush district queue row last s
  | .qpPopRequest district queue => Sys2Proof.Machine.execQpPopRequest district queue s
  | .tkEnableWrite w trunk v => Sys2Proof.Machine.execTkEnableWrite w trunk v s
  | .tkRateWrite w trunk v => Sys2Proof.Machine.execTkRateWrite w trunk v s
  | .tkModeWrite w trunk v => Sys2Proof.Machine.execTkModeWrite w trunk v s
  | .tkPrbsWrite w trunk v => Sys2Proof.Machine.execTkPrbsWrite w trunk v s
  | .trunkPllLock trunk => Sys2Proof.Machine.execTrunkPllLock trunk s
  | .codewordLock trunk => Sys2Proof.Machine.execCodewordLock trunk s
  | .codewordLockLost trunk => Sys2Proof.Machine.execCodewordLockLost trunk s
  | .trainingTimeout trunk => Sys2Proof.Machine.execTrainingTimeout trunk s
  | .retrain w trunk v => Sys2Proof.Machine.execRetrain w trunk v s
  | .tkReset w trunk v => Sys2Proof.Machine.execTkReset w trunk v s
  | .idleBlockReceived trunk block => Sys2Proof.Machine.execIdleBlockReceived trunk block s
  | .markReceived trunk mark => Sys2Proof.Machine.execMarkReceived trunk mark s
  | .markSend trunk => Sys2Proof.Machine.execMarkSend trunk s
  | .linkBlockReceived trunk block => Sys2Proof.Machine.execLinkBlockReceived trunk block s
  | .linkBlockSend trunk => Sys2Proof.Machine.execLinkBlockSend trunk s
  | .replayTimeout trunk => Sys2Proof.Machine.execReplayTimeout trunk s
  | .packetSend trunk => Sys2Proof.Machine.execPacketSend trunk s
  | .packetReceived trunk p => Sys2Proof.Machine.execPacketReceived trunk p s
  | .c0BlockReceived trunk block => Sys2Proof.Machine.execC0BlockReceived trunk block s
  | .c0RxPresent trunk => Sys2Proof.Machine.execC0RxPresent trunk s
  | .stopReceived trunk => Sys2Proof.Machine.execStopReceived trunk s
  | .reservedBlockReceived trunk block => Sys2Proof.Machine.execReservedBlockReceived trunk block s
  | .ethFrameSend trunk => Sys2Proof.Machine.execEthFrameSend trunk s
  | .ethFrameReceived trunk bytes => Sys2Proof.Machine.execEthFrameReceived trunk bytes s
  | .loadGo w v => Sys2Proof.Machine.execLoadGo w v s
  | .loadAbort w v => Sys2Proof.Machine.execLoadAbort w v s
  | .loadSrcWrite w v => Sys2Proof.Machine.execLoadSrcWrite w v s
  | .loadStreamData bytes => Sys2Proof.Machine.execLoadStreamData bytes s
  | .loadFrameWrite => Sys2Proof.Machine.execLoadFrameWrite s
  | .loadAccept => Sys2Proof.Machine.execLoadAccept s
  | .loadTimeout => Sys2Proof.Machine.execLoadTimeout s
  | .listenerGoldenWaitEnd => Sys2Proof.Machine.execListenerGoldenWaitEnd s
  | .arAdvance w v => Sys2Proof.Machine.execArAdvance w v s
  | .keyRevoke w v => Sys2Proof.Machine.execKeyRevoke w v s
  | .ipHostWrite w district v => Sys2Proof.Machine.execIpHostWrite w district v s
  | .ipFrameWrite district plane frame data => Sys2Proof.Machine.execIpFrameWrite district plane frame data s
  | .ipFrameRead district plane frame => Sys2Proof.Machine.execIpFrameRead district plane frame s
  | .ipPartial district plane frame mask data => Sys2Proof.Machine.execIpPartial district plane frame mask data s
  | .ipSeal district plane => Sys2Proof.Machine.execIpSeal district plane s
  | .ipStream district data => Sys2Proof.Machine.execIpStream district data s
  | .ipReservedOp district op => Sys2Proof.Machine.execIpReservedOp district op s
  | .ticketQuery w v => Sys2Proof.Machine.execTicketQuery w v s
  | .invalidate w v => Sys2Proof.Machine.execInvalidate w v s
  | .invalidateDone bank => Sys2Proof.Machine.execInvalidateDone bank s
  | .lbLeakTick bank => Sys2Proof.Machine.execLbLeakTick bank s
  | .lbLeakWrite w v => Sys2Proof.Machine.execLbLeakWrite w v s
  | .scrubRowRead quarter => Sys2Proof.Machine.execScrubRowRead quarter s
  | .repairListServe quarter => Sys2Proof.Machine.execRepairListServe quarter s
  | .scrubEnableWrite w v => Sys2Proof.Machine.execScrubEnableWrite w v s
  | .rtRetire w v => Sys2Proof.Machine.execRtRetire w v s
  | .rtUnretire w v => Sys2Proof.Machine.execRtUnretire w v s
  | .substitute w quarter v => Sys2Proof.Machine.execSubstitute w quarter v s
  | .unsubstitute w quarter v => Sys2Proof.Machine.execUnsubstitute w quarter v s
  | .substituteCopyDone quarter => Sys2Proof.Machine.execSubstituteCopyDone quarter s
  | .flipArm w v => Sys2Proof.Machine.execFlipArm w v s
  | .sweepFrameRead quarter vote => Sys2Proof.Machine.execSweepFrameRead quarter vote s
  | .repairStart image => Sys2Proof.Machine.execRepairStart image s
  | .repairFrameWrite vote => Sys2Proof.Machine.execRepairFrameWrite vote s
  | .repairDone => Sys2Proof.Machine.execRepairDone s
  | .contentionFrameRead vote => Sys2Proof.Machine.execContentionFrameRead vote s
  | .csReset w v => Sys2Proof.Machine.execCsReset w v s
  | .csSettingWrite w e v => Sys2Proof.Machine.execCsSettingWrite w e v s
  | .frEnableWrite w v => Sys2Proof.Machine.execFrEnableWrite w v s
  | .reserveFillFrame => Sys2Proof.Machine.execReserveFillFrame s
  | .i3cPrivateWrite bytes => Sys2Proof.Machine.execI3cPrivateWrite bytes s
  | .i3cPrivateRead count => Sys2Proof.Machine.execI3cPrivateRead count s
  | .entdaa da => Sys2Proof.Machine.execEntdaa da s
  | .setnewda da => Sys2Proof.Machine.execSetnewda da s
  | .rstdaa => Sys2Proof.Machine.execRstdaa s
  | .rstact action => Sys2Proof.Machine.execRstact action s
  | .targetResetPattern => Sys2Proof.Machine.execTargetResetPattern s
  | .enec events => Sys2Proof.Machine.execEnec events s
  | .disec events => Sys2Proof.Machine.execDisec events s
  | .entas k => Sys2Proof.Machine.execEntas k s
  | .setmwl v => Sys2Proof.Machine.execSetmwl v s
  | .setmrl v => Sys2Proof.Machine.execSetmrl v s
  | .enthdr0 => Sys2Proof.Machine.execEnthdr0 s
  | .hdrDdrWrite code bytes => Sys2Proof.Machine.execHdrDdrWrite code bytes s
  | .hdrDdrRead code count => Sys2Proof.Machine.execHdrDdrRead code count s
  | .getpid => Sys2Proof.Machine.execGetpid s
  | .getbcr => Sys2Proof.Machine.execGetbcr s
  | .getdcr => Sys2Proof.Machine.execGetdcr s
  | .getstatus => Sys2Proof.Machine.execGetstatus s
  | .getmwl => Sys2Proof.Machine.execGetmwl s
  | .getmrl => Sys2Proof.Machine.execGetmrl s
  | .getmxds => Sys2Proof.Machine.execGetmxds s
  | .getcaps => Sys2Proof.Machine.execGetcaps s
  | .unsupportedCcc code => Sys2Proof.Machine.execUnsupportedCcc code s
  | .hotJoin => Sys2Proof.Machine.execHotJoin s
  | .ibiSend kind acked => Sys2Proof.Machine.execIbiSend kind acked s
  | .canFrame id bytes => Sys2Proof.Machine.execCanFrame id bytes s
  | .canBusOff => Sys2Proof.Machine.execCanBusOff s
  | .susisNop w => Sys2Proof.Machine.execSusisNop w s
  | .susisRead w eid len => Sys2Proof.Machine.execSusisRead w eid len s
  | .susisWrite w eid bytes => Sys2Proof.Machine.execSusisWrite w eid bytes s
  | .dictWrite w eid bytes => Sys2Proof.Machine.execDictWrite w eid bytes s
  | .expertLock w v => Sys2Proof.Machine.execExpertLock w v s
  | .lockTimeout => Sys2Proof.Machine.execLockTimeout s
  | .lockBreak w v => Sys2Proof.Machine.execLockBreak w v s
  | .alertAck w v => Sys2Proof.Machine.execAlertAck w v s
  | .dpBindWrite w n v => Sys2Proof.Machine.execDpBindWrite w n v s
  | .dpDataWrite w n bytes => Sys2Proof.Machine.execDpDataWrite w n bytes s
  | .dpDataRead w n len => Sys2Proof.Machine.execDpDataRead w n len s
  | .ivtorHelp => Sys2Proof.Machine.execIvtorHelp s
  | .ivtorVer => Sys2Proof.Machine.execIvtorVer s
  | .ivtorStatus => Sys2Proof.Machine.execIvtorStatus s
  | .ivtorBaud rate => Sys2Proof.Machine.execIvtorBaud rate s
  | .ivtorEcho on => Sys2Proof.Machine.execIvtorEcho on s
  | .ivtorRead eid => Sys2Proof.Machine.execIvtorRead eid s
  | .ivtorLog n => Sys2Proof.Machine.execIvtorLog n s
  | .ivtorWrite eid value => Sys2Proof.Machine.execIvtorWrite eid value s
  | .ivtorLock => Sys2Proof.Machine.execIvtorLock s
  | .ivtorUnlock => Sys2Proof.Machine.execIvtorUnlock s
  | .safeEnter w v => Sys2Proof.Machine.execSafeEnter w v s
  | .safeLeave w v => Sys2Proof.Machine.execSafeLeave w v s
  | .coreResetCmd w => Sys2Proof.Machine.execCoreResetCmd w s
  | .deviceResetCmd w => Sys2Proof.Machine.execDeviceResetCmd w s
  | .commandReset => Sys2Proof.Machine.execCommandReset s
  | .bistGo w v => Sys2Proof.Machine.execBistGo w v s
  | .bistAbort w v => Sys2Proof.Machine.execBistAbort w v s
  | .bistSliceStart => Sys2Proof.Machine.execBistSliceStart s
  | .bistPhaseDone fails => Sys2Proof.Machine.execBistPhaseDone fails s
  | .bistOfflineDone fails => Sys2Proof.Machine.execBistOfflineDone fails s
  | .thresholdWrite w e v => Sys2Proof.Machine.execThresholdWrite w e v s
  | .lcChallengeRead w => Sys2Proof.Machine.execLcChallengeRead w s
  | .lcTokenWrite w bytes => Sys2Proof.Machine.execLcTokenWrite w bytes s
  | .lcRequest w v => Sys2Proof.Machine.execLcRequest w v s
  | .lifecycleChangeDone => Sys2Proof.Machine.execLifecycleChangeDone s
  | .keyInstall w bytes => Sys2Proof.Machine.execKeyInstall w bytes s
  | .freezeGo w v => Sys2Proof.Machine.execFreezeGo w v s
  | .freezeStart => Sys2Proof.Machine.execFreezeStart s
  | .freezeRelease w v => Sys2Proof.Machine.execFreezeRelease w v s
  | .fwpEnableWrite w n v => Sys2Proof.Machine.execFwpEnableWrite w n v s
  | .fwpFire n locked => Sys2Proof.Machine.execFwpFire n locked s
  | .fwpWindowPassed n => Sys2Proof.Machine.execFwpWindowPassed n s
  | .vendorRequest w eid write bytes => Sys2Proof.Machine.execVendorRequest w eid write bytes s
  | .coreBoot => Sys2Proof.Machine.execCoreBoot s
  | .kwGo sector data v => Sys2Proof.Machine.execKwGo sector data v s
  | .keeperWriteDone => Sys2Proof.Machine.execKeeperWriteDone s
  | .fwCommit v => Sys2Proof.Machine.execFwCommit v s
  | .wdtKick v => Sys2Proof.Machine.execWdtKick v s
  | .wdtEnableWrite w v => Sys2Proof.Machine.execWdtEnableWrite w v s
  | .wdtFirstExpiry => Sys2Proof.Machine.execWdtFirstExpiry s
  | .wdtSecondExpiry => Sys2Proof.Machine.execWdtSecondExpiry s
  | .mtimecmpExpiry => Sys2Proof.Machine.execMtimecmpExpiry s
  | .msipWrite v => Sys2Proof.Machine.execMsipWrite v s
  | .irqClear v => Sys2Proof.Machine.execIrqClear v s
  | .memEventPop => Sys2Proof.Machine.execMemEventPop s
  | .memLostRead => Sys2Proof.Machine.execMemLostRead s
  | .dqGo window bytes => Sys2Proof.Machine.execDqGo window bytes s
  | .mailboxRowCommit queue row sof eof => Sys2Proof.Machine.execMailboxRowCommit queue row sof eof s
  | .mailboxFragmentPush => Sys2Proof.Machine.execMailboxFragmentPush s
  | .mailboxPopAdvance queue => Sys2Proof.Machine.execMailboxPopAdvance queue s
  | .recordWrite => Sys2Proof.Machine.execRecordWrite s
  | .recClear w v => Sys2Proof.Machine.execRecClear w v s
  | .persistCopy => Sys2Proof.Machine.execPersistCopy s
  | .persistRefresh => Sys2Proof.Machine.execPersistRefresh s
  | .extest => Sys2Proof.Machine.execExtest s
  | .idcode => Sys2Proof.Machine.execIdcode s
  | .samplePreload => Sys2Proof.Machine.execSamplePreload s
  | .extestPulse => Sys2Proof.Machine.execExtestPulse s
  | .extestTrain => Sys2Proof.Machine.execExtestTrain s
  | .clamp => Sys2Proof.Machine.execClamp s
  | .highz => Sys2Proof.Machine.execHighz s
  | .dbgAccess => Sys2Proof.Machine.execDbgAccess s
  | .bypass => Sys2Proof.Machine.execBypass s
  | .trstN => Sys2Proof.Machine.execTrstN s
  | .tapLogicReset => Sys2Proof.Machine.execTapLogicReset s
  | .dbgNop => Sys2Proof.Machine.execDbgNop s
  | .dbgRead t => Sys2Proof.Machine.execDbgRead t s
  | .dbgWrite t => Sys2Proof.Machine.execDbgWrite t s
  | .dbgReservedOp t => Sys2Proof.Machine.execDbgReservedOp t s
  | .haltReq locked => Sys2Proof.Machine.execHaltReq locked s
  | .coreResume => Sys2Proof.Machine.execCoreResume s
  | .stepHalt locked => Sys2Proof.Machine.execStepHalt locked s
  | .curWrite v => Sys2Proof.Machine.execCurWrite v s
  | .dbgCoreReset => Sys2Proof.Machine.execDbgCoreReset s
  | .detach => Sys2Proof.Machine.execDetach s
  | .triggerConfigWrite n e v => Sys2Proof.Machine.execTriggerConfigWrite n e v s
  | .codeBreakpointHit n locked => Sys2Proof.Machine.execCodeBreakpointHit n locked s
  | .dataWatchpointHit n store locked => Sys2Proof.Machine.execDataWatchpointHit n store locked s
  | .ebreak locked => Sys2Proof.Machine.execEbreak locked s
  | .deferredHalt => Sys2Proof.Machine.execDeferredHalt s
  | .lockBrokenTimeout => Sys2Proof.Machine.execLockBrokenTimeout s
  | .tamperAssert => Sys2Proof.Machine.execTamperAssert s
  | .lidOpen => Sys2Proof.Machine.execLidOpen s
  | .powerOn => Sys2Proof.Machine.execPowerOn s
  | .powerLoss => Sys2Proof.Machine.execPowerLoss s
  | .supplyReset => Sys2Proof.Machine.execSupplyReset s
  | .rstNAssert => Sys2Proof.Machine.execRstNAssert s
  | .resetRelease found => Sys2Proof.Machine.execResetRelease found s
  | .bootEnd => Sys2Proof.Machine.execBootEnd s
  | .sensorRound readings => Sys2Proof.Machine.execSensorRound readings s
  | .shutdownEntry => Sys2Proof.Machine.execShutdownEntry s
  | .shutdownPowerGate => Sys2Proof.Machine.execShutdownPowerGate s
  | .partnerTrainingRequest trunk => Sys2Proof.Machine.execPartnerTrainingRequest trunk s
  | .hdrExitPattern => Sys2Proof.Machine.execHdrExitPattern s
  | .canBusOffRecovery => Sys2Proof.Machine.execCanBusOffRecovery s
  | .tamperNRelease => Sys2Proof.Machine.execTamperNRelease s
  | .lidClosed => Sys2Proof.Machine.execLidClosed s

end Sys2Proof.Machine
end

