-- ==== Sys2Proof/Machine/Idle.lean ====
section
/-! DEFINITION. What passes with a microsecond in which no command waits. -/

namespace Sys2Proof.Machine

/-- The service oscillator counts: the device is powered and out of RESET. -/
def State.oscillates (s : State) : Bool := s.dev != .powerOff && s.dev != .reset

/-- A microsecond of the watchdog's present stage (R399). A stage whose time has passed ends with it, where neither its expiry's command
nor a kick came before; a kick in the cycle of the expiry so takes precedence. -/
def tickWatchdog (s : State) : State :=
  if s.stageOver 0 then endFirstStage s
  else if s.stageOver 1 then endSecondStage s
  else if s.wdtCounts then s.setRun { s.run with wdtLeft := s.run.wdtLeft - 1 }
  else s

/-- A microsecond of MTIME: 100 counts of 100 MHz (R384). -/
def tickCore (s : State) : State := settleTimer (s.setCore { s.core with mtime := (s.core.mtime + 100) % 2 ^ 64 })

/-- A microsecond passes: UPTIME, MTIME and the watchdog's count move on (R367, R384, R399), and a keeper may
begin to fail (R397). DESIGN CHOICE (entry 1): the table
has no row for a tick of the service oscillator, so it is what a step does on an empty queue. -/
def idle (s : State) : State := if s.oscillates then tickWatchdog (tickCore (keeperClock (s.rinc .UPTIME))) else s

end Sys2Proof.Machine
end

