-- ==== Sys2Proof/Safety.lean ====
section
/-! DEFINITION. The terms in which claims are made: when the dictionary accepts a write, what a write that only stores leaves,
and the forms that every step keeps. -/

namespace Sys2Proof.Safety

open Sys2Proof.Machine

/-- A request of a controller reaches an element's unit and passes orders 1 to 3 of the abort order (R338, R354, R356, R360):
its route is heard, no request waits before it (R357), the unit exists, the element may be written, the rights suffice, and no other controller holds the
Expert lock. -/
def mayAsk (w : Route) (e : El) (u : Nat) (s : State) : Bool :=
  heard s w && s.ctl.waiting.isEmpty && w != .loader && Nat.blt u e.info.cnt && e.info.acc != .ro && Nat.ble e.info.rights (rightsOf s w)
    && !(Nat.ble 2 e.info.rights && e != .LOCK_BREAK && lockedOut s w)

/-- The orders of R354 that every element shares permit a write of a value: the request may be made, the value lies within the
map's bounds, and the device state permits the element's class (R360). -/
def accepts (w : Route) (e : El) (u v : Nat) (s : State) : Bool :=
  mayAsk w e u s && Nat.blt v e.modulus && Nat.ble e.info.lo v && Nat.ble v e.info.hi
    && stateRefusal e.info.cls s.dev == none

/-- The outcome of a request that was performed: the state given, with the answer OK to the sender (R347). -/
def performed (w : Route) (t : State) : Host.Outcome State Fault Refusal := .next (answerTo w 0 [] t)

/-- The outcome of a request that was refused with an abort and had no other effect (R354). -/
def refused (w : Route) (code : Nat) (s : State) : Host.Outcome State Fault Refusal := .next (answerTo w code [] s)

/-- What a write that only stores its value leaves: the register reads the value, every other register is as before, the
sender's answer is OK, and nothing else of the state has changed. -/
def Stored (w : Route) (e : El) (u v : Nat) (s : State) (o : Host.Outcome State Fault Refusal) : Prop :=
  ∃ t : State, o = .next t ∧ t.rget e u = v ∧ (∀ k, k ≠ regKey e u → mfind t.regs k = mfind s.regs k)
    ∧ t.ctl.answer = { controller := controllerOf w, status := 0, data := [] }
    ∧ { t with regs := s.regs, ctl := { t.ctl with answer := s.ctl.answer } } = s

/-- As Stored, for an element whose value comes into force at the next orbit boundary (R358): the value written waits, in
place of any that waited, and the value in force stays. -/
def Deferred (w : Route) (e : El) (u v : Nat) (s : State) (o : Host.Outcome State Fault Refusal) : Prop :=
  ∃ t : State, o = .next t ∧ t.rget e u = v ∧ (∀ k, k ≠ regKey e u → mfind t.regs k = mfind s.regs k)
    ∧ mfind t.deferred (regKey e u) = some v ∧ (∀ k, k ≠ regKey e u → mfind t.deferred k = mfind s.deferred k)
    ∧ t.fget e u = s.fget e u
    ∧ t.ctl.answer = { controller := controllerOf w, status := 0, data := [] }
    ∧ { t with regs := s.regs, deferred := s.deferred, ctl := { t.ctl with answer := s.ctl.answer } } = s

/-- The bank words are in canonical form: keys strictly rising, and no word listed that reads as an unlisted word of its place. -/
def CellsOk (s : State) : Prop :=
  risingFrom 0 s.cells = true ∧ s.cells.all (fun p => p.2 != s.blankWord (p.1 / 32768)) = true

/-- The sender of a command that is a request to the dictionary (R338); every other command is an event. -/
def senderOf : Instr → Option Route
  | .clkSrcWrite w _ => some w
  | .timingPortWrite w _ => some w
  | .mclkNominalWrite w _ => some w
  | .orbitLenWrite w _ => some w
  | .fabricRatioWrite w _ => some w
  | .alignSrcWrite w _ => some w
  | .orbitOffsetWrite w _ => some w
  | .syncRoleWrite w _ => some w
  | .syncEveryWrite w _ => some w
  | .syncSamplePhaseWrite w _ => some w
  | .fineDelayWrite w _ => some w
  | .sourceAcquired _ => none
  | .pllLocked => none
  | .orbitMarker _ => none
  | .markerMissing => none
  | .syncWordSend => none
  | .syncWord _ => none
  | .syncMissing => none
  | .clockLoss _ => none
  | .sourceReturn _ => none
  | .resume => none
  | .orbitBoundary => none
  | .crossingStart => none
  | .ttWordWrite w _ _ => some w
  | .windowSelectorWrite w _ _ => some w
  | .ttCopy w _ => some w
  | .ttCommit w _ => some w
  | .ttValidationDone => none
  | .ttWindowStart _ => none
  | .ttWindowEnd _ => none
  | .countClear w _ _ _ => some w
  | .portSettingWrite w _ _ _ => some w
  | .alignSettingWrite w _ _ _ => some w
  | .maskWrite w _ _ => some w
  | .rxPrbsWrite w _ _ => some w
  | .dlPrbsWrite w _ _ => some w
  | .dlCmdWrite w _ _ => some w
  | .cdrLockAcquired _ => none
  | .cdrLockLost _ => none
  | .codeLockAcquired _ => none
  | .codeLockLost _ _ => none
  | .frameComplete _ _ => none
  | .startSymbolTimeout _ => none
  | .alignReq w _ _ => some w
  | .alignWindowEnd _ => none
  | .adaptInitialEnd _ => none
  | .dlSend w _ _ => some w
  | .bankArbitration _ _ => none
  | .localRequest _ _ _ _ _ => none
  | .storeChannelRequest _ _ => none
  | .plazaRequest _ _ _ _ => none
  | .fixedResponse _ _ => none
  | .orderedResponse _ _ => none
  | .plazaResponse _ _ => none
  | .ownerWrite w _ _ => some w
  | .handoverDrainEnd _ => none
  | .powerWrite w _ _ => some w
  | .bankWakeDone _ => none
  | .deferredSleep _ => none
  | .ringEnableWrite w _ _ => some w
  | .ringGeometryWrite w _ _ _ => some w
  | .vaultEnableWrite w _ => some w
  | .vaultLock w _ => some w
  | .vaultUnlock w _ => some w
  | .vaultWipe w _ => some w
  | .vaultWipeDone => none
  | .underpassContention _ _ => none
  | .upClear w _ _ => some w
  | .dramUncorrectable _ _ _ => none
  | .baseNextWrite w _ _ => some w
  | .baseAtWrite w _ _ => some w
  | .lockGroupWrite w _ _ => some w
  | .captureArm w _ _ => some w
  | .captureDisarm w _ _ => some w
  | .captureCycle _ => none
  | .sentinelJudge _ _ => none
  | .decisionEmit => none
  | .breachAck w _ => some w
  | .busyForceWrite w _ => some w
  | .policyWrite w _ _ => some w
  | .tapOutWrite w _ _ => some w
  | .acceptLaneWord _ _ => none
  | .acceptPinSample _ => none
  | .ssModeWrite w _ _ => some w
  | .ssFioCfgWrite w _ _ => some w
  | .tokenRefill => none
  | .extractionStart _ => none
  | .extractionDone _ => none
  | .fragmentWrite _ => none
  | .ebGroupWrite w _ _ => some w
  | .gWindowWrite w _ _ _ => some w
  | .eventPresetWrite w _ => some w
  | .qEnable w _ => some w
  | .qDisable w _ => some w
  | .qFlush w _ => some w
  | .qpPush _ _ _ _ => none
  | .qpPopRequest _ _ => none
  | .tkEnableWrite w _ _ => some w
  | .tkRateWrite w _ _ => some w
  | .tkModeWrite w _ _ => some w
  | .tkPrbsWrite w _ _ => some w
  | .trunkPllLock _ => none
  | .codewordLock _ => none
  | .codewordLockLost _ => none
  | .trainingTimeout _ => none
  | .retrain w _ _ => some w
  | .tkReset w _ _ => some w
  | .idleBlockReceived _ _ => none
  | .markReceived _ _ => none
  | .markSend _ => none
  | .linkBlockReceived _ _ => none
  | .linkBlockSend _ => none
  | .replayTimeout _ => none
  | .packetSend _ => none
  | .packetReceived _ _ => none
  | .c0BlockReceived _ _ => none
  | .c0RxPresent _ => none
  | .stopReceived _ => none
  | .reservedBlockReceived _ _ => none
  | .ethFrameSend _ => none
  | .ethFrameReceived _ _ => none
  | .loadGo w _ => some w
  | .loadAbort w _ => some w
  | .loadSrcWrite w _ => some w
  | .loadStreamData _ => none
  | .loadFrameWrite => none
  | .loadAccept => none
  | .loadTimeout => none
  | .listenerGoldenWaitEnd => none
  | .arAdvance w _ => some w
  | .keyRevoke w _ => some w
  | .ipHostWrite w _ _ => some w
  | .ipFrameWrite _ _ _ _ => none
  | .ipFrameRead _ _ _ => none
  | .ipPartial _ _ _ _ _ => none
  | .ipSeal _ _ => none
  | .ipStream _ _ => none
  | .ipReservedOp _ _ => none
  | .ticketQuery w _ => some w
  | .invalidate w _ => some w
  | .invalidateDone _ => none
  | .lbLeakTick _ => none
  | .lbLeakWrite w _ => some w
  | .scrubRowRead _ => none
  | .repairListServe _ => none
  | .scrubEnableWrite w _ => some w
  | .rtRetire w _ => some w
  | .rtUnretire w _ => some w
  | .substitute w _ _ => some w
  | .unsubstitute w _ _ => some w
  | .substituteCopyDone _ => none
  | .flipArm w _ => some w
  | .sweepFrameRead _ _ => none
  | .repairStart _ => none
  | .repairFrameWrite _ => none
  | .repairDone => none
  | .contentionFrameRead _ => none
  | .csReset w _ => some w
  | .csSettingWrite w _ _ => some w
  | .frEnableWrite w _ => some w
  | .reserveFillFrame => none
  | .i3cPrivateWrite _ => none
  | .i3cPrivateRead _ => none
  | .entdaa _ => none
  | .setnewda _ => none
  | .rstdaa => none
  | .rstact _ => none
  | .targetResetPattern => none
  | .enec _ => none
  | .disec _ => none
  | .entas _ => none
  | .setmwl _ => none
  | .setmrl _ => none
  | .enthdr0 => none
  | .hdrDdrWrite _ _ => none
  | .hdrDdrRead _ _ => none
  | .getpid => none
  | .getbcr => none
  | .getdcr => none
  | .getstatus => none
  | .getmwl => none
  | .getmrl => none
  | .getmxds => none
  | .getcaps => none
  | .unsupportedCcc _ => none
  | .hotJoin => none
  | .ibiSend _ _ => none
  | .canFrame _ _ => none
  | .canBusOff => none
  | .susisNop w => some w
  | .susisRead w _ _ => some w
  | .susisWrite w _ _ => some w
  | .dictWrite w _ _ => some w
  | .expertLock w _ => some w
  | .lockTimeout => none
  | .lockBreak w _ => some w
  | .alertAck w _ => some w
  | .dpBindWrite w _ _ => some w
  | .dpDataWrite w _ _ => some w
  | .dpDataRead w _ _ => some w
  | .ivtorHelp => none
  | .ivtorVer => none
  | .ivtorStatus => none
  | .ivtorBaud _ => none
  | .ivtorEcho _ => none
  | .ivtorRead _ => none
  | .ivtorLog _ => none
  | .ivtorWrite _ _ => none
  | .ivtorLock => none
  | .ivtorUnlock => none
  | .safeEnter w _ => some w
  | .safeLeave w _ => some w
  | .coreResetCmd w => some w
  | .deviceResetCmd w => some w
  | .commandReset => none
  | .bistGo w _ => some w
  | .bistAbort w _ => some w
  | .bistSliceStart => none
  | .bistPhaseDone _ => none
  | .bistOfflineDone _ => none
  | .thresholdWrite w _ _ => some w
  | .lcChallengeRead w => some w
  | .lcTokenWrite w _ => some w
  | .lcRequest w _ => some w
  | .lifecycleChangeDone => none
  | .keyInstall w _ => some w
  | .freezeGo w _ => some w
  | .freezeStart => none
  | .freezeRelease w _ => some w
  | .fwpEnableWrite w _ _ => some w
  | .fwpFire _ _ => none
  | .fwpWindowPassed _ => none
  | .vendorRequest w _ _ _ => some w
  | .coreBoot => none
  | .kwGo _ _ _ => none
  | .keeperWriteDone => none
  | .fwCommit _ => none
  | .wdtKick _ => none
  | .wdtEnableWrite w _ => some w
  | .wdtFirstExpiry => none
  | .wdtSecondExpiry => none
  | .mtimecmpExpiry => none
  | .msipWrite _ => none
  | .irqClear _ => none
  | .memEventPop => none
  | .memLostRead => none
  | .dqGo _ _ => none
  | .mailboxRowCommit _ _ _ _ => none
  | .mailboxFragmentPush => none
  | .mailboxPopAdvance _ => none
  | .recordWrite => none
  | .recClear w _ => some w
  | .persistCopy => none
  | .persistRefresh => none
  | .extest => none
  | .idcode => none
  | .samplePreload => none
  | .extestPulse => none
  | .extestTrain => none
  | .clamp => none
  | .highz => none
  | .dbgAccess => none
  | .bypass => none
  | .trstN => none
  | .tapLogicReset => none
  | .dbgNop => none
  | .dbgRead _ => none
  | .dbgWrite _ => none
  | .dbgReservedOp _ => none
  | .haltReq _ => none
  | .coreResume => none
  | .stepHalt _ => none
  | .curWrite _ => none
  | .dbgCoreReset => none
  | .detach => none
  | .triggerConfigWrite _ _ _ => none
  | .codeBreakpointHit _ _ => none
  | .dataWatchpointHit _ _ _ => none
  | .ebreak _ => none
  | .deferredHalt => none
  | .lockBrokenTimeout => none
  | .tamperAssert => none
  | .lidOpen => none
  | .powerOn => none
  | .powerLoss => none
  | .supplyReset => none
  | .rstNAssert => none
  | .resetRelease _ => none
  | .bootEnd => none
  | .sensorRound _ => none
  | .shutdownEntry => none
  | .shutdownPowerGate => none
  | .partnerTrainingRequest _ => none
  | .hdrExitPattern => none
  | .canBusOffRecovery => none
  | .tamperNRelease => none
  | .lidClosed => none

/-- A device in SHUTDOWN has nothing under way that would lead out of it (R469, R470): no load, no wait for a golden stream, and
no SAFE_ENTER that waits. -/
def Quiet (s : State) : Prop :=
  s.dev = .shutdown → s.load.active = false ∧ s.load.goldenWait = false ∧ s.safeDue = none

end Sys2Proof.Safety
end

