-- ==== Sys2Proof/Certificates/Slice0/Obligations.lean ====
section
/-! DEFINITION. The statements for the provers. -/

open Sys2Proof Sys2Proof.Machine Sys2Proof.Safety

/-- For every state whose queue of waiting commands begins with a command c, a step is exec of c on the state with the
queue's rest. The queue is the model's own (log entry 2). -/
def Obligations.StepTakesFront : Prop :=
  ∀ (s : State) (c : Instr) (rest : List Instr),
    step { s with pending := c :: rest } = exec c { s with pending := rest }

/-- With no command waiting a step answers a next state; in POWER_OFF and RESET it is the same state, and in every other
device state MTIME has moved on by 100 modulo 2^64; where the watchdog's stage has time left and the keeper does not begin
to fail, UPTIME has moved on by one, or stays at the largest value of its size, every other register is as before, and so
are the bank words, the time base, the recorder, the keeper, the planes and the queue. Where stage 0 of the watchdog has no
time left source 8 of the core's interrupts is latched and stage 1 begins; where stage 1 has none left the core is reset
with CORE_RESET_CAUSE 1; a keeper whose failure is due has failed. That a step on an empty queue stands for a microsecond is
the model's choice, log entry 1, and the moment of a keeper's failure a free value, log entry 182. -/
def Obligations.StepIdles : Prop :=
  ∀ s : State, s.pending = [] →
    ∃ t, step s = .next t ∧
      ((s.dev = .powerOff ∨ s.dev = .reset) → t = s) ∧
      (s.dev ≠ .powerOff → s.dev ≠ .reset →
        t.core.mtime = (s.core.mtime + 100) % 2 ^ 64 ∧
        (s.stageOver 0 = false → s.stageOver 1 = false →
          (∀ x, s.keeper.failAt = some x → s.keeper.failed = true ∨ s.us + 1 < x) →
          t.rget .UPTIME = Nat.min (s.rget .UPTIME + 1) (El.UPTIME.modulus - 1) ∧
          (∀ k, k ≠ regKey .UPTIME 0 → mfind t.regs k = mfind s.regs k) ∧
          t.cells = s.cells ∧ t.tb = s.tb ∧ t.recorder = s.recorder ∧ t.keeper = s.keeper ∧ t.planes = s.planes ∧
          t.pending = [] ∧ t.dev = s.dev) ∧
        (s.stageOver 0 = true → bitOf t.core.irq 8 = true ∧ t.run.wdtStage = 1) ∧
        (s.stageOver 1 = true → t.rget .CORE_RESET_CAUSE = 1) ∧
        (∀ x, s.keeper.failAt = some x → s.keeper.failed = false → x ≤ Nat.min (s.us + 1) (El.UPTIME.modulus - 1) →
          t.keeper.failed = true))

/-- State.reset is BOOT with PREV_STATE 1, TB_STATE NO_CLOCK and MT reading 0, both time-tables without an enabled entry,
every bank owned by the service core and awake, no bank word written, every ring off, every plane EMPTY, every District held
in reset with its write enables held and not clocked, every port idle, no trunk with lock, no load in progress, no record
held, no command waiting, and the machine timer's comparison at all ones. That State.reset stands for this moment is the
model's choice, log entry 4. -/
def Obligations.ResetIsBoot : Prop :=
  State.reset.dev = .boot ∧ State.reset.rget .PREV_STATE = 1 ∧ State.reset.tb.st = .noClock ∧ State.reset.mt = 0 ∧
  State.reset.rb.active = [] ∧ State.reset.rb.shadow = [] ∧
  (∀ n, State.reset.rget .OWNER n = 0x81 ∧ State.reset.rget .POWER_STATE n = 0) ∧
  State.reset.load.active = false ∧ State.reset.cells = [] ∧
  (∀ q, State.reset.rget .RING_STATE q = 0) ∧
  (∀ k, (State.reset.plane k).state = 0) ∧
  (∀ d, (State.reset.dist d).released = false ∧ (State.reset.dist d).weHeld = true ∧ (State.reset.dist d).resetHeld = true) ∧
  (∀ p, State.reset.port p = Port.idle) ∧ (∀ k, (State.reset.trunk k).lock = false) ∧
  State.reset.recorder.held = [] ∧ State.reset.pending = [] ∧ State.reset.core.mtimecmp = 2 ^ 64 - 1

/-- A write of ORBIT_OFFSET, SYNC_EVERY, SYNC_SAMPLE_PHASE or FINE_DELAY that the dictionary accepts stores the value and
changes nothing else where ORBIT_OFFSET lies below L, SYNC_EVERY times L is at least 96, SYNC_SAMPLE_PHASE lies below M, and
the delay of FINE_DELAY steps of 6 ps is shorter than one period of MCLK_NOMINAL; outside these bounds it is refused with
abort 0x04 and changes nothing. A write of SYNC_ROLE stores the role; any role but the leader's stops the SYNC output, and
one that begins or ends following drops a provisional alignment. With L = 1 a device in LOCKED or REALIGN that is not to
follow needs no marker and is in ALIGNED at once. A write of CLK_SRC, TIMING_PORT, MCLK_NOMINAL, ORBIT_LEN, FABRIC_RATIO or
ALIGN_SRC that the dictionary accepts (with a permitted fabric clock for MCLK_NOMINAL and FABRIC_RATIO, phase settings that
fit for FABRIC_RATIO, and SYNC_EVERY times the length at least 96 for ORBIT_LEN) changes nothing but the answer where the
value is the one in force; a changed value is stored, and the time base stands as reset leaves it, in NO_CLOCK. An ORBIT_LEN
that breaks the limit of SYNC_EVERY is refused with 0x04. -/
def Obligations.TimeSettings : Prop :=
  (∀ (w : Route) (v : Nat) (s : State),
    (accepts w .ORBIT_OFFSET 0 v s = true →
      (v < s.L → Stored w .ORBIT_OFFSET 0 v s (exec (.orbitOffsetWrite w v) s)) ∧
      (¬ v < s.L → exec (.orbitOffsetWrite w v) s = refused w 4 s)) ∧
    (accepts w .SYNC_EVERY 0 v s = true →
      (96 ≤ v * s.L → Stored w .SYNC_EVERY 0 v s (exec (.syncEveryWrite w v) s)) ∧
      (¬ 96 ≤ v * s.L → exec (.syncEveryWrite w v) s = refused w 4 s)) ∧
    (accepts w .SYNC_SAMPLE_PHASE 0 v s = true →
      (v < s.M → Stored w .SYNC_SAMPLE_PHASE 0 v s (exec (.syncSamplePhaseWrite w v) s)) ∧
      (¬ v < s.M → exec (.syncSamplePhaseWrite w v) s = refused w 4 s)) ∧
    (accepts w .FINE_DELAY 0 v s = true →
      (v * 6 * s.rget .MCLK_NOMINAL < 10 ^ 12 → Stored w .FINE_DELAY 0 v s (exec (.fineDelayWrite w v) s)) ∧
      (¬ v * 6 * s.rget .MCLK_NOMINAL < 10 ^ 12 → exec (.fineDelayWrite w v) s = refused w 4 s)) ∧
    (accepts w .SYNC_ROLE 0 v s = true →
      (s.L ≠ 1 ∨ v = 2 ∨ (s.tb.st ≠ .locked ∧ s.tb.st ≠ .realign) →
        ∃ t, exec (.syncRoleWrite w v) s = performed w t ∧ t.rget .SYNC_ROLE = v ∧
          t.tb = { s.tb with syncOut := if v = 1 then s.tb.syncOut else none
                             prov := if s.follower = decide (v = 2) then s.tb.prov else none } ∧
          { t with regs := s.regs, tb := s.tb } = s ∧
          (∀ k, k ≠ regKey .SYNC_ROLE 0 → mfind t.regs k = mfind s.regs k)) ∧
      (s.L = 1 → v ≠ 2 → s.tb.st = .locked ∨ s.tb.st = .realign →
        ∃ t, exec (.syncRoleWrite w v) s = performed w t ∧ t.rget .SYNC_ROLE = v ∧ t.tb.st = .aligned))) ∧
  (∀ (w : Route) (v : Nat) (s : State),
    (∀ p ∈ [(Instr.clkSrcWrite w v, El.CLK_SRC, true), (.timingPortWrite w v, .TIMING_PORT, true),
        (.mclkNominalWrite w v, .MCLK_NOMINAL, s.fabricClockOk s.M v), (.orbitLenWrite w v, .ORBIT_LEN, Nat.ble 96 (s.rget .SYNC_EVERY * v)),
        (.fabricRatioWrite w v, .FABRIC_RATIO, s.fabricClockOk v (s.rget .MCLK_NOMINAL) && s.phasesFit v),
        (.alignSrcWrite w v, .ALIGN_SRC, true)],
      accepts w p.2.1 0 v s = true → p.2.2 = true →
        (s.rget p.2.1 = v → exec p.1 s = performed w s) ∧
        (s.rget p.2.1 ≠ v → ∃ t, exec p.1 s = performed w t ∧ t.rget p.2.1 = v ∧ t.tb = TimeBase.reset)) ∧
    (accepts w .ORBIT_LEN 0 v s = true → s.rget .SYNC_EVERY * v < 96 → exec (.orbitLenWrite w v) s = refused w 4 s))

/-- A measured source within 200 ppm takes the time base from NO_CLOCK to ACQUIRE, and shows SRC_PRESENT in HOLDOVER, its
frequency in MCLK_MEASURED; lock of the PLL takes ACQUIRE to LOCKED where a marker is needed; a missing marker in ALIGNED
counts in MARKER_MISSING, and a missing word of a follower in SYNC_MISSING with SYNC_OK cleared, with no other effect; a
clock loss in ALIGNED takes the time base to HOLDOVER, marks the crossings from the present one on as lost, and takes a
device in RUNNING to HOLD. -/
def Obligations.ClockComesAndGoes : Prop :=
  (∀ (hz : Nat) (s : State), s.tb.st = .noClock → s.powered = true → s.sourceUsable = true → s.within200 hz = true →
    ∃ t, exec (.sourceAcquired hz) s = .next t ∧ t.tb = { s.tb with st := .acquire, srcPresent := true } ∧
      t.rget .MCLK_MEASURED = hz ∧ { t with tb := s.tb, regs := s.regs, core := s.core } = s) ∧
  (∀ s : State, s.tb.st = .acquire → s.needsNoMarker = false →
    ∃ t, exec .pllLocked s = .next t ∧ { t with tb := s.tb, core := s.core } = s ∧
      t.tb = { s.tb with st := .locked, pllLocked := true, edges := 0, prov := none }) ∧
  (∀ (hz : Nat) (s : State), s.tb.st = .holdover → s.sourceUsable = true → s.within200 hz = true →
    ∃ t, exec (.sourceReturn hz) s = .next t ∧ t.tb = { s.tb with srcPresent := true } ∧
      t.rget .MCLK_MEASURED = hz ∧ { t with tb := s.tb, regs := s.regs } = s) ∧
  (∀ s : State, s.tb.st = .aligned → s.follower = false → s.L ≠ 1 →
    ∃ t, exec .markerMissing s = .next t ∧ { t with regs := s.regs } = s ∧
      t.rget .MARKER_MISSING = Nat.min (s.rget .MARKER_MISSING + 1) (El.MARKER_MISSING.modulus - 1)) ∧
  (∀ s : State, s.tb.st = .aligned → s.follower = true →
    ∃ t, exec .syncMissing s = .next t ∧ { t with regs := s.regs, tb := s.tb } = s ∧
      t.tb = { s.tb with syncOk := false } ∧
      t.rget .SYNC_MISSING = Nat.min (s.rget .SYNC_MISSING + 1) (El.SYNC_MISSING.modulus - 1)) ∧
  (∀ (c : LossCause) (s : State), s.tb.st = .aligned → (c ≠ .timingPortLock ∨ s.rget .CLK_SRC = 1) →
    ∃ t, exec (.clockLoss c) s = .next t ∧ t.tb.st = .holdover ∧ t.tb.pllLocked = false ∧ t.tb.entriesRun = false ∧
      t.lossHeld = true ∧ t.lossFrom = s.crossing ∧ t.cells = s.cells ∧
      t.dev = if s.dev = .running then .hold else s.dev)

/-- In LOCKED with no provisional alignment, an orbit marker of the selected source (the timing port's where its orbit flag
has gone high, which the marker takes), or a valid SYNC word of the follower's lock group, sets the provisional alignment at
its machine-clock edge, a word's and the pin's the present one and the timing port's that of the start of the frame with the
flag, and changes nothing else; a marker of another source, or of a timing port whose flag has not gone high, has no effect;
a second marker exactly L edges later takes the time base to ALIGNED with the marker's crossing numbered as orbit MT_PRESET,
slot ORBIT_OFFSET. A leader in ALIGNED, 80 crossings before slot 0 of an orbit divisible by SYNC_EVERY, drives that orbit's
SYNC word, of which 80 bits are left to send. The MARKER_SLOT_ERR of the first marker is the model's choice, log entry 145.
While MT counts and is not held, CROSSING_START inside an orbit moves the slot on by one in the same orbit; ORBIT_BOUNDARY
after an orbit's last slot moves on to slot 0 of the next orbit, modulo 2^48; both keep the device state's time base state.
RESUME, at slot 0 of an orbit in HOLD with the time base ALIGNED, entries running and no freeze in force, takes the device
to RUNNING and ends the loss. -/
def Obligations.MarkersAndCrossings : Prop :=
  ((∀ (src : OrbitSource) (s : State), s.markerDue src = false → exec (.orbitMarker src) s = .next s) ∧
  (∀ (src : OrbitSource) (s : State), s.follower = false → s.L ≠ 1 → s.markerDue src = true → s.tb.st = .locked →
    s.tb.prov = none →
      ∃ t, exec (.orbitMarker src) s = .next t ∧ t.tb = { s.tb with prov := some (s.tb.edges - s.markerBack src, 0), slotErr := 0 } ∧
        { t with tb := s.tb, ports := s.ports } = s ∧ (src = .pin → t.ports = s.ports) ∧
        (src = .timingPort → (t.port (s.rget .TIMING_PORT)).orbRise = none)) ∧
  (∀ (src : OrbitSource) (s : State) (e n : Nat), s.follower = false → s.L ≠ 1 → s.markerDue src = true → s.tb.st = .locked →
    s.tb.prov = some (e, n) → s.tb.edges - s.markerBack src = e + s.L →
      ∃ t, exec (.orbitMarker src) s = .next t ∧ t.tb.st = .aligned ∧
        t.crossing = s.rget .MT_PRESET % 2 ^ 48 * s.L + s.rget .ORBIT_OFFSET + s.markerBack src ∧ t.tb.entriesRun = s.tb.entriesRun ∧ { t with tb := s.tb, core := s.core, ports := s.ports } = s) ∧
  (∀ (x : BitVec 80) (s : State), s.follower = true → syncWellFormed x = true → syncGroup x = s.rget .SYNC_LOCK_GROUP →
    s.tb.st = .locked → s.tb.prov = none →
      exec (.syncWord x) s = .next { s with tb := { s.tb with prov := some (s.tb.edges, syncOrbit x) } }) ∧
  (∀ (s : State) (n : Nat), s.rget .SYNC_ROLE = 1 → s.tb.st = .aligned → 0 < s.L → s.crossing + 80 = n * s.L →
    n % 2 ^ 48 % s.rget .SYNC_EVERY = 0 →
      exec .syncWordSend s =
        .next { s with tb := { s.tb with syncOut := some (syncWordOf (s.rget .SYNC_LOCK_GROUP) n), syncLeft := 80 } })) ∧
  ((∀ s : State, s.counting = true → s.tb.held = none → s.tb.entered = false → s.tb.slot + 1 ≠ s.L →
    ∃ t, exec .crossingStart s = .next t ∧ t.tb.slot = s.tb.slot + 1 ∧ t.tb.orbit = s.tb.orbit ∧ t.tb.st = s.tb.st) ∧
  (∀ s : State, s.counting = true → s.tb.held = none → s.tb.entered = false → s.tb.slot + 1 = s.L →
    ∃ t, exec .orbitBoundary s = .next t ∧ t.tb.slot = 0 ∧ t.tb.orbit = (s.tb.orbit + 1) % 2 ^ 48 ∧ t.tb.st = s.tb.st) ∧
  (∀ s : State, s.dev = .hold → s.counting = true → s.tb.slot = 0 → s.tb.st = .aligned → s.tb.entriesRun = true →
    s.freezeHeld = false →
      ∃ t, exec .resume s = .next t ∧ t.dev = .running ∧ t.lossHeld = false ∧ t.tb = s.tb))

/-- While the window shows the shadow table and no commit is pending, an accepted write of a word replaces that word of the
shadow entry shown and no other entry; a copy makes the shadow equal to the active table, where the value written is not 0;
a commit begins validation, with TT_COMMIT_STATUS 1. While a commit is pending all three are refused with 0x06. At the end
of validation a sound table whose orbit has not begun waits for its orbit; a table that fails is refused with status 3 and
its lowest offending entry, a sound one whose orbit has begun with 0xFFFF, and no commit is pending any more. A window
selector stores its value and changes nothing else. -/
def Obligations.TimeTableWrites : Prop :=
  (∀ (w : Route) (k v : Nat) (s : State), accepts w (ttWordEl (k % 4)) 0 v s = true → s.rflag .TT_WINDOW_SEL = false →
    (s.ttPending = true → exec (.ttWordWrite w k v) s = refused w 6 s) ∧
    (s.ttPending = false → ∃ t, exec (.ttWordWrite w k v) s = performed w t ∧
      mget t.rb.shadow (s.rget .TT_WINDOW_INDEX) 0 =
        ttPutWord (mget s.rb.shadow (s.rget .TT_WINDOW_INDEX) 0) (k % 4) v ∧
      (∀ i, i ≠ s.rget .TT_WINDOW_INDEX → mfind t.rb.shadow i = mfind s.rb.shadow i) ∧
      { t with rb := { t.rb with shadow := s.rb.shadow } } = s)) ∧
  (∀ (w : Route) (v : Nat) (s : State), accepts w .TT_COPY 0 v s = true →
    (s.ttPending = true → exec (.ttCopy w v) s = refused w 6 s) ∧
    (s.ttPending = false → v = 0 → exec (.ttCopy w v) s = performed w s) ∧
    (s.ttPending = false → v ≠ 0 → exec (.ttCopy w v) s = performed w { s with rb := { s.rb with shadow := s.rb.active } })) ∧
  (∀ (w : Route) (v : Nat) (s : State), accepts w .TT_COMMIT 0 v s = true →
    (s.ttPending = true → exec (.ttCommit w v) s = refused w 6 s) ∧
    (s.ttPending = false → ∃ t, exec (.ttCommit w v) s = performed w t ∧ t.rget .TT_COMMIT_STATUS = 1 ∧
      t.rb = { s.rb with validating := some v, fromImage := false } ∧ { t with rb := s.rb, regs := s.regs } = s)) ∧
  (∀ (s : State) (n : Nat), s.rb.validating = some n →
    (s.ttValidate s.rb.shadow = none → (n = allOnes64 ∨ s.counting = false ∨ s.tb.orbit < n) →
      exec .ttValidationDone s = .next { s with rb := { s.rb with validating := none, pendingAt := some n } }) ∧
    (s.ttValidate s.rb.shadow = none → n ≠ allOnes64 → s.counting = true → n ≤ s.tb.orbit →
      ∃ t, exec .ttValidationDone s = .next t ∧ t.rget .TT_COMMIT_STATUS = 3 ∧ t.rget .TT_REFUSED_ENTRY = 0xFFFF ∧
        t.ttPending = false ∧ t.rb.shadow = s.rb.shadow ∧ t.rb.active = s.rb.active) ∧
    (∀ i, s.ttValidate s.rb.shadow = some i → ∃ t, exec .ttValidationDone s = .next t ∧
      t.rget .TT_COMMIT_STATUS = 3 ∧ t.rget .TT_REFUSED_ENTRY = i ∧ t.ttPending = false ∧
      t.rb.shadow = s.rb.shadow ∧ t.rb.active = s.rb.active)) ∧
  (∀ (w : Route) (e : WindowSelector) (v : Nat) (s : State), accepts w (selectorEl e) 0 v s = true →
    Stored w (selectorEl e) 0 v s (exec (.windowSelectorWrite w e v) s))

/-- While entries run in ALIGNED, an enabled entry that matches the present orbit and starts in the present slot opens its
window: a SCRUB_PAUSE, BIST_WINDOW or flag window is listed with its first crossing and nothing else changes, but that a
SCRUB_PAUSE is counted for the slot; TEST_PULSE gives each of its ports its command for the present crossing, and where
another entry gave a port one for this crossing before, that one is counted in CMD_DROPPED; BANK_WAKE starts the wake of a
sleeping bank, and BANK_SLEEP puts an awake bank that may sleep to sleep. A window of the first three kinds whose end has
come is taken off the list, and nothing else changes. -/
def Obligations.WindowsOpenAndClose : Prop :=
  ∀ (k : Nat) (s : State), s.tb.entriesRun = true →
    (s.tb.st = .aligned → ttEnabled (s.ttActive k) = true → ttMatches (s.ttActive k) s.tb.orbit = true →
      ttStartsAt (s.ttActive k) s.tb.slot = true → (k, s.crossing) ∉ s.rb.openWindows →
      (ttAction (s.ttActive k) ∈ [5, 8] →
        exec (.ttWindowStart k) s =
          .next { s with rb := { s.rb with openWindows := s.rb.openWindows ++ [(k, s.crossing)] } }) ∧
      (ttAction (s.ttActive k) = 4 → ∃ t, exec (.ttWindowStart k) s = .next t ∧
        t.rb.openWindows = s.rb.openWindows ++ [(k, s.crossing)] ∧ t.rb.active = s.rb.active ∧
        { t with rb := s.rb, recorder := s.recorder, regs := s.regs } = s) ∧
      (ttAction (s.ttActive k) = 3 → ∃ t, exec (.ttWindowStart k) s = .next t ∧
        (∀ p ∈ ttPorts (s.ttActive k), (t.port p).pulse = some (s.crossing, ttArg (s.ttActive k))) ∧
        (∀ p, p ∉ ttPorts (s.ttActive k) → t.port p = s.port p) ∧
        ((∀ p ∈ ttPorts (s.ttActive k), ∀ c, (s.port p).pulse ≠ some (s.crossing, c)) → { t with ports := s.ports } = s) ∧
        (∀ p ∈ ttPorts (s.ttActive k), ∀ c, (s.port p).pulse = some (s.crossing, c) →
          t.rget .CMD_DROPPED p = Nat.min (s.rget .CMD_DROPPED p + 1) (El.CMD_DROPPED.modulus - 1))) ∧
      (ttAction (s.ttActive k) = 6 → s.rget .POWER_STATE (ttTarget (s.ttActive k)) = 1 →
        exec (.ttWindowStart k) s = .next (s.rset .POWER_STATE (ttTarget (s.ttActive k)) 2)) ∧
      (ttAction (s.ttActive k) = 7 → s.rget .POWER_STATE (ttTarget (s.ttActive k)) ≠ 1 →
        s.mayNotSleep (ttTarget (s.ttActive k)) = false →
        exec (.ttWindowStart k) s = .next (startSleep (ttTarget (s.ttActive k)) s))) ∧
    (∀ x, s.rb.openWindows.find? (fun w => w.1 == k && Nat.ble (w.2 + ttSpan (s.ttActive k)) s.crossing) = some (k, x) →
      ttAction (s.ttActive k) ∈ [4, 5, 8] →
      exec (.ttWindowEnd k) s =
        .next { s with rb := { s.rb with openWindows := s.rb.openWindows.filter (· != (k, x)) } })

/-- An accepted write of 1 to a map's COUNT_CLEAR sets to 0 the register of every counter that the map names, for the unit
it addresses or the one its window shows, and leaves every other register, the bank words, the planes, the ports, the queue
of commands and the recorder as they were; a write of 0 has no effect. -/
def Obligations.CountClearClears : Prop :=
  ∀ (w : Route) (e : ClearElement) (u : Nat) (s : State),
    (accepts w (clearEl e) u 0 s = true → exec (.countClear w e u 0) s = performed w s) ∧
    (accepts w (clearEl e) u 1 s = true →
      ∃ t, exec (.countClear w e u 1) s = performed w t ∧
        (∀ c ∈ clearedBy e, t.rget c (s.clearUnit e u) = 0) ∧
        (∀ k, (∀ c ∈ clearedBy e, k ≠ regKey c (s.clearUnit e u)) → mfind t.regs k = mfind s.regs k) ∧
        { t with regs := s.regs, dists := s.dists, mem := s.mem } = s)

/-- An accepted write of a port setting stores the value, leaves every other port's state as it was and no bank word
changed, where its own conditions hold: CODING, RX_MULT, FRAME_WORDS and SCRAMBLE only while ENABLE is 0, TX_MULT only while
DL_ENABLE is 0, FRAME_WORDS from 1 to the frame limit, ALIGN_GUARD and DL_SKEW below M, and RX_MULT within the words of an
enabled ring. The settings that need ENABLE or DL_ENABLE at 0 are refused with 0x06, and change nothing, while it is 1;
FRAME_WORDS, ALIGN_GUARD and DL_SKEW outside their bounds with 0x04; RX_MULT beyond the words of an enabled ring with 0x05.
That FRAME_WORDS beyond the frame limit is refused is the model's reading, log entry 153. Accepted writes of the alignment
settings (TAG_OFFSET below L in TAG_MODE 0), of DL_PRBS and RX_PRBS with 0, and of DL_CMD with a code that is not reserved
store the value and change nothing else; a reserved code is refused with 0x04. MASK comes into force at the next orbit
boundary. PRBS other than 0 needs MASK in force, and is refused with 0x06 without it; a receiver that takes PRBS has lost
code and frame lock. Where RX_PRBS was not 0, the bit errors found so far are added to PRBS_ERRORS, and where it was 0 with
a receive clock held, the code errors to CODE_ERRORS; their number is open. -/
def Obligations.PortSettings : Prop :=
  (∀ (w : Route) (e : PortSetting) (p v : Nat) (s : State), accepts w (portSettingEl e) p v s = true →
    ((e ∈ [PortSetting.coding, .rxMult, .frameWords, .scramble] → s.rflag .ENABLE p = false) →
      (e = .txMult → s.rflag .DL_ENABLE p = false) →
      (e = .frameWords → 1 ≤ v ∧ v ≤ wMax (s.rget .CODING p) (s.rget .RX_MULT p)) →
      (e ∈ [PortSetting.alignGuard, .dlSkew] → v < s.M) → (e = .rxMult → s.ringBreaks p v = false) →
        ∃ t, exec (.portSettingWrite w e p v) s = performed w t ∧ t.rget (portSettingEl e) p = v ∧
          (∀ q, q ≠ p → t.port q = s.port q) ∧ t.cells = s.cells ∧ t.dists = s.dists) ∧
    (e ∈ [PortSetting.coding, .scramble] → s.rflag .ENABLE p = true →
      exec (.portSettingWrite w e p v) s = refused w 6 s) ∧
    (e = .rxMult → s.ringBreaks p v = false → s.rflag .ENABLE p = true →
      exec (.portSettingWrite w e p v) s = refused w 6 s) ∧
    (e = .rxMult → s.ringBreaks p v = true →
      exec (.portSettingWrite w e p v) s = refused w 5 (refusedWith w (eidOf .RX_MULT p) 5 s)) ∧
    (e = .frameWords → 1 ≤ v → v ≤ wMax (s.rget .CODING p) (s.rget .RX_MULT p) → s.rflag .ENABLE p = true →
      exec (.portSettingWrite w e p v) s = refused w 6 s) ∧
    (e = .frameWords → ¬ (1 ≤ v ∧ v ≤ wMax (s.rget .CODING p) (s.rget .RX_MULT p)) →
      exec (.portSettingWrite w e p v) s = refused w 4 s) ∧
    (e ∈ [PortSetting.alignGuard, .dlSkew] → s.M ≤ v → exec (.portSettingWrite w e p v) s = refused w 4 s) ∧
    (e = .txMult → s.rflag .DL_ENABLE p = true → exec (.portSettingWrite w e p v) s = refused w 6 s)) ∧
  (∀ (w : Route) (p v : Nat) (s : State),
    (∀ e, accepts w (alignSettingEl e) p v s = true → (e = .tagOffset → s.rget .TAG_MODE p ≠ 0 ∨ v < s.L) →
      Stored w (alignSettingEl e) p v s (exec (.alignSettingWrite w e p v) s)) ∧
    (accepts w .MASK p v s = true → Deferred w .MASK p v s (exec (.maskWrite w p v) s)) ∧
    (accepts w .DL_PRBS p v s = true →
      ((v = 0 ∨ s.fget .MASK p ≠ 0) → Stored w .DL_PRBS p v s (exec (.dlPrbsWrite w p v) s)) ∧
      (v ≠ 0 → s.fget .MASK p = 0 → exec (.dlPrbsWrite w p v) s = refused w 6 s)) ∧
    (accepts w .RX_PRBS p v s = true →
      (v = 0 → s.rget .RX_PRBS p = 0 → (s.port p).cdr = false → Stored w .RX_PRBS p v s (exec (.rxPrbsWrite w p v) s)) ∧
      ((v = 0 ∨ s.fget .MASK p ≠ 0) → s.rget .RX_PRBS p = 0 → (s.port p).cdr = true →
        ∃ t, exec (.rxPrbsWrite w p v) s = performed w t ∧ t.rget .RX_PRBS p = v ∧
          (∃ n, t.rget .CODE_ERRORS p = Nat.min (s.rget .CODE_ERRORS p + n) (El.CODE_ERRORS.modulus - 1)) ∧
          (v = 0 → { t with regs := s.regs, fv := s.fv } = s)) ∧
      (v = 0 → s.rget .RX_PRBS p ≠ 0 → ∃ t, exec (.rxPrbsWrite w p v) s = performed w t ∧ t.rget .RX_PRBS p = 0 ∧
        (∃ n, t.rget .PRBS_ERRORS p = Nat.min (s.rget .PRBS_ERRORS p + n) (El.PRBS_ERRORS.modulus - 1)) ∧
        { t with regs := s.regs, fv := s.fv } = s) ∧
      (v ≠ 0 → s.fget .MASK p ≠ 0 → ∃ t, exec (.rxPrbsWrite w p v) s = performed w t ∧ t.rget .RX_PRBS p = v ∧
        (t.port p).code = false ∧ (t.port p).framed = false ∧ (t.port p).aligned = false ∧
        (∀ q, q ≠ p → t.port q = s.port q)) ∧
      (v ≠ 0 → s.fget .MASK p = 0 → exec (.rxPrbsWrite w p v) s = refused w 6 s)) ∧
    (accepts w .DL_CMD p v s = true →
      (reservedCommand v = false → Stored w .DL_CMD p v s (exec (.dlCmdWrite w p v) s)) ∧
      (reservedCommand v = true → exec (.dlCmdWrite w p v) s = refused w 4 s)))

/-- For an accepted write of DL_SEND: a value of all ones names the second crossing after the present one; a value less than
2 crossings ahead is refused with 0x04; a write while a send is pending is refused with 0x06; any other value makes the send
pending for the crossing named. -/
def Obligations.DlSendIsJudged : Prop :=
  ∀ (w : Route) (p v : Nat) (s : State), accepts w .DL_SEND p v s = true →
    (s.namedCrossing allOnes64 = s.crossing + 2) ∧
    (s.namedCrossing v < s.crossing + 2 → exec (.dlSend w p v) s = refused w 4 s) ∧
    (s.crossing + 2 ≤ s.namedCrossing v → (s.port p).sendAt ≠ none → exec (.dlSend w p v) s = refused w 6 s) ∧
    (s.crossing + 2 ≤ s.namedCrossing v → (s.port p).sendAt = none →
      ∃ t, exec (.dlSend w p v) s = performed w t ∧ (t.port p).sendAt = some (s.namedCrossing v) ∧
        (∀ q, q ≠ p → t.port q = s.port q) ∧ { t with ports := s.ports, regs := s.regs } = s)

/-- A port that may hold a receive clock and holds none takes it and adapts; the end of the first adaptation ends it; code
lock is taken where a clock is held and no PRBS is received, with the runs of frames starting anew; losing the clock loses
every lock, losing code lock counts its errors and loses frame lock, and the missing start symbol loses frame lock; a port
that was ALIGNED is so no longer, needs alignment, and holds no frame. No other port changes. -/
def Obligations.ReceiverLocks : Prop :=
  ∀ (p : Nat) (s : State),
    (s.mayReceive p = true → (s.port p).cdr = false → p < portCount →
      ∃ t, exec (.cdrLockAcquired p) s = .next t ∧ t.port p = { s.port p with cdr := true, adaptForced := true, noticed := (t.port p).noticed } ∧
        (∀ q, q ≠ p → t.port q = s.port q)) ∧
    ((s.port p).adaptForced = true →
      ∃ t, exec (.adaptInitialEnd p) s = .next t ∧ t.port p = { s.port p with adaptForced := false } ∧
        (∀ q, q ≠ p → t.port q = s.port q)) ∧
    (s.mayReceive p = true → (s.port p).cdr = true → s.rget .RX_PRBS p = 0 →
      exec (.codeLockAcquired p) s =
        .next (s.setPort p { s.port p with code := true, goodRun := 0, badRun := 0 })) ∧
    ((s.port p).cdr = true →
      ∃ t, exec (.cdrLockLost p) s = .next t ∧ (t.port p).cdr = false ∧ (t.port p).code = false ∧
        (t.port p).framed = false ∧ (t.port p).aligned = false ∧ (∀ q, q ≠ p → t.port q = s.port q) ∧
        ((s.port p).aligned = true → (t.port p).needsAlign = true ∧ (t.port p).fifo = [])) ∧
    (∀ n, (s.port p).code = true →
      ∃ t, exec (.codeLockLost p n) s = .next t ∧ (t.port p).code = false ∧ (t.port p).framed = false ∧
        (t.port p).cdr = (s.port p).cdr ∧ (∀ q, q ≠ p → t.port q = s.port q) ∧
        t.rget .CODE_ERRORS p = Nat.min (s.rget .CODE_ERRORS p + n) (El.CODE_ERRORS.modulus - 1)) ∧
    ((s.port p).framed = true →
      ∃ t, exec (.startSymbolTimeout p) s = .next t ∧ (t.port p).framed = false ∧ (t.port p).aligned = false ∧
        (t.port p).code = (s.port p).code ∧ (∀ q, q ≠ p → t.port q = s.port q))

/-- While a port has code lock and no frame lock, a good frame counts towards frame lock, taken with the fourth in a row,
and any other frame starts the run anew; the timing port's frame shows its orbit flag, 0 with a bad CRC, and a flag that
goes high is kept with the machine-clock edge at which its frame started. An accepted ALIGN_REQ outside ALIGNED is refused
with 0x05, and with 0x06 while a window is open on the port or its gang; otherwise a window opens on the port for the
crossings asked. At its end a lone port that counted enough frames, none placed more than one crossing apart and all within
ALIGN_LAT, takes the greatest offset at the next boundary, with result 1. -/
def Obligations.FramesAndAlignment : Prop :=
  (∀ (p : Nat) (f : RxFrame) (s : State), s.portState p = 3 →
    let hp := s.frameWords p f
    let good := frameCrcOk hp.1 hp.2 && !f.cut && bitsOf hp.1.toNat 39 32 == s.rget .FRAME_WORDS p &&
      hp.2.length == s.rget .FRAME_WORDS p
    let timing := p = s.rget .TIMING_PORT
    let flag := frameCrcOk hp.1 hp.2 && bitOf hp.1.toNat 20
    ∃ t, exec (.frameComplete p f) s = .next t ∧ { t with ports := s.ports } = s ∧ (∀ q, q ≠ p → t.port q = s.port q) ∧
      t.port p = { s.port p with
        goodRun := if good then (s.port p).goodRun + 1 else 0
        badRun := if good then 0 else (s.port p).badRun + 1
        framed := (s.port p).framed || (good && decide (4 ≤ (s.port p).goodRun + 1))
        orbFlag := if timing then flag else (s.port p).orbFlag
        orbRise := if timing then (if flag && !(s.port p).orbFlag then some (s.startEdge p f.phase) else none) else (s.port p).orbRise }) ∧
  (∀ (w : Route) (p n : Nat) (s : State), accepts w .ALIGN_REQ p n s = true →
    (s.tb.st ≠ .aligned → exec (.alignReq w p n) s = refused w 5 (refusedWith w (eidOf .ALIGN_REQ p) 5 s)) ∧
    (s.tb.st = .aligned → s.windowOpen p = true → exec (.alignReq w p n) s = refused w 6 s) ∧
    (s.tb.st = .aligned → s.windowOpen p = false → p ∈ s.gangOf p →
      ∃ t, exec (.alignReq w p n) s = performed w t ∧ { t with ports := s.ports } = s ∧
        (t.port p).window =
          some { first := s.crossing + 1, last := some (s.crossing + n), entry := none, count := 0, dMin := 0, dMax := 0 })) ∧
  (∀ (p : Nat) (s : State) (x : AlignWindow) (l : Nat), s.rget .GANG p = 0 → (s.port p).window = some x →
    x.last = some l → l ≤ s.crossing → s.rget .ALIGN_MIN p ≤ x.count → x.dMax ≤ x.dMin + 1 → x.dMin ≤ x.dMax →
    x.dMax < s.rget .ALIGN_LAT p →
      ∃ t, exec (.alignWindowEnd p) s = .next t ∧ (t.port p).window = none ∧ (t.port p).pendingD = some x.dMax ∧
        t.rget .ALIGN_RESULT p = 1 ∧ (∀ q, q ≠ p → t.port q = s.port q))

/-- An accepted BASE_NEXT of a plane that is LOADED or REPAIR in every District of the lock group, or 0xFF, is stored for
each of them while no change is pending; a plane that is not is refused with 0x05, and while a change is pending with 0x06.
BASE_AT, with BASE_NEXT set to such a plane and an orbit that begins at least 2 crossings ahead or all ones, fixes the orbit
of the change for each District of the group. LOCK_GROUP that would break the driver census is refused with 0x06; any other
is stored and changes no other District: a District that joins members takes the first one's base context, BASE_NEXT,
pending change and open windows; leaving every group, or joining an empty one, changes nothing else where no window is open
for the District and it runs its base context. A contention on an Underpass whose guard is at rest latches its drivers off
from the present crossing on, and is counted for both Districts of the Quarter; UP_CLEAR of a guard that is off allows its
re-enable and changes no other guard; a double-bit error in the RAM of a clocked District counts in DRAM_UNCORR and sets
DRAM_UNCORR_SEEN. -/
def Obligations.ContextsAndUpsets : Prop :=
  (∀ (w : Route) (d v : Nat) (s : State),
    (accepts w .BASE_NEXT d v s = true → (v ≤ 7 ∨ v = 0xFF) →
      (v ≠ 0xFF → s.baseLoaded d v = false → exec (.baseNextWrite w d v) s =
        refused w 5 (refusedWith w (eidOf .BASE_NEXT d) 5 s)) ∧
      ((v = 0xFF ∨ s.baseLoaded d v = true) → s.basePending d = true → exec (.baseNextWrite w d v) s = refused w 6 s) ∧
      ((v = 0xFF ∨ s.baseLoaded d v = true) → s.basePending d = false →
        ∃ t, exec (.baseNextWrite w d v) s = performed w t ∧ (∀ m ∈ s.lockstep d, t.rget .BASE_NEXT m = v) ∧
          (∀ k, (∀ m ∈ s.lockstep d, k ≠ regKey .BASE_NEXT m) → mfind t.regs k = mfind s.regs k) ∧
          { t with regs := s.regs } = s)) ∧
    (accepts w .BASE_AT d v s = true → s.rget .BASE_NEXT d ≠ 0xFF →
      (v = allOnes64 ∨ s.counting = false ∨ s.crossing + 2 ≤ s.orbitOf v * s.L) →
      s.baseLoaded d (s.rget .BASE_NEXT d) = true → s.basePending d = false →
        ∃ t, exec (.baseAtWrite w d v) s = performed w t ∧
          (∀ m ∈ s.lockstep d, (t.dist m).baseAt = some (if v = allOnes64 then s.nextOrbit else s.orbitOf v)) ∧
          (∀ m, m ∉ s.lockstep d → t.dist m = s.dist m) ∧ { t with dists := s.dists } = s) ∧
    (accepts w .LOCK_GROUP d v s = true → (v ≤ 63 ∨ v = 0xFF) →
      let other := s.rget .LOCK_GROUP (if d % 2 = 0 then d + 1 else d - 1)
      let fits := if d % 2 = 0 then s.census (d / 2) v other else s.census (d / 2) other v
      (fits = false → exec (.lockGroupWrite w d v) s = refused w 6 s) ∧
      (fits = true → ∃ t, exec (.lockGroupWrite w d v) s = performed w t ∧ t.rget .LOCK_GROUP d = v ∧
        (∀ m, m ≠ d → t.dist m = s.dist m) ∧
        (∀ m l, v ≠ 0xFF → (s.groupMembers v).filter (· != d) = m :: l →
          t.rget .BASE_CTX d = s.rget .BASE_CTX m ∧ t.rget .BASE_NEXT d = s.rget .BASE_NEXT m ∧
          (t.dist d).baseAt = (s.dist m).baseAt ∧ (t.dist d).windows = (s.dist m).windows) ∧
        ((v = 0xFF ∨ (s.groupMembers v).filter (· != d) = []) → (s.dist d).windows = [] →
          s.rget .BASE_CTX d = (s.dist d).ctx →
          t.dist d = s.dist d ∧ (∀ k, k ≠ regKey .LOCK_GROUP d → mfind t.regs k = mfind s.regs k) ∧
          { t with regs := s.regs, dists := s.dists } = s)))) ∧
  ((∀ (d u : Nat) (s : State), (s.guard (d / 2) u).off = false →
    ∃ t, exec (.underpassContention d u) s = .next t ∧ (t.guard (d / 2) u).off = true ∧
      (t.guard (d / 2) u).since = s.crossing ∧ (t.guard (d / 2) u).cleared = false ∧
      t.rget .UP_CONTENTIONS (2 * (d / 2)) =
        Nat.min (s.rget .UP_CONTENTIONS (2 * (d / 2)) + 1) (El.UP_CONTENTIONS.modulus - 1) ∧
      t.rget .UP_CONTENTIONS (2 * (d / 2) + 1) =
        Nat.min (s.rget .UP_CONTENTIONS (2 * (d / 2) + 1) + 1) (El.UP_CONTENTIONS.modulus - 1)) ∧
  (∀ (w : Route) (d v : Nat) (s : State), accepts w .UP_CLEAR d v s = true → (s.guard (d / 2) v).off = true →
    ∃ t, exec (.upClear w d v) s = performed w t ∧ (t.guard (d / 2) v).cleared = true ∧ (t.guard (d / 2) v).off = true ∧
      (∀ k, k ≠ 1024 * (d / 2) + v → mfind t.guards k = mfind s.guards k) ∧ { t with guards := s.guards } = s) ∧
  (∀ (d b r : Nat) (s : State), s.clocked d = true →
    ∃ t, exec (.dramUncorrectable d b r) s = .next t ∧ (t.dist d).dramSeen = true ∧
      (∀ m, m ≠ d → t.dist m = s.dist m) ∧
      t.rget .DRAM_UNCORR d = Nat.min (s.rget .DRAM_UNCORR d + 1) (El.DRAM_UNCORR.modulus - 1)))

/-- An accepted arming write whose PHASE lies below M and, in MODE 0, whose crossing lies at least 2 ahead leaves an unarmed
capture armed; arming an armed one is refused with 0x06; disarming leaves an armed capture MISSED and any other as it was.
In the crossing of CAPTURE_MT, once the fabric has run up to its PHASE, the cycle of an armed MODE 0 capture without a
filter in a clocked District leaves it DONE with the context the District runs and SEQ one higher, the capture cells holding
what the flip-flops present, and no other cell, no bank word and no District changed; in any other crossing it changes
nothing. -/
def Obligations.Captures : Prop :=
  ∀ (d : Nat) (s : State),
    (∀ (w : Route) (v : Nat), accepts w .CAPTURE_CTRL d (v - v % 2 + 1) s = true →
      bitsOf (v - v % 2 + 1) 7 2 < s.M → bitsOf (v - v % 2 + 1) 15 13 = 0 → bitsOf (v - v % 2 + 1) 23 22 = 0 →
      (bitOf (v - v % 2 + 1) 1 = true ∨ s.crossing + 2 ≤ s.crossingOf (s.rget .CAPTURE_MT d)) →
      (captureState (s.rget .CAPTURE_CTRL d) = 1 → exec (.captureArm w d v) s = refused w 6 s) ∧
      (captureState (s.rget .CAPTURE_CTRL d) ≠ 1 →
        ∃ t, exec (.captureArm w d v) s = performed w t ∧ captureState (t.rget .CAPTURE_CTRL d) = 1 ∧
          (∀ k, k ≠ regKey .CAPTURE_CTRL d → mfind t.regs k = mfind s.regs k) ∧ { t with regs := s.regs } = s)) ∧
    (∀ (w : Route) (v : Nat), accepts w .CAPTURE_CTRL d (Nat.lor (v - v % 2) 0x1000) s = true →
      bitsOf (Nat.lor (v - v % 2) 0x1000) 7 2 < s.M → bitsOf (Nat.lor (v - v % 2) 0x1000) 15 13 = 0 →
      bitsOf (Nat.lor (v - v % 2) 0x1000) 23 22 = 0 →
        ∃ t, exec (.captureDisarm w d v) s = performed w t ∧
          captureState (t.rget .CAPTURE_CTRL d) =
            (if captureState (s.rget .CAPTURE_CTRL d) = 1 then 3 else captureState (s.rget .CAPTURE_CTRL d)) ∧
          (∀ k, k ≠ regKey .CAPTURE_CTRL d → mfind t.regs k = mfind s.regs k) ∧ { t with regs := s.regs } = s) ∧
    (captureState (s.rget .CAPTURE_CTRL d) = 1 → bitOf (s.rget .CAPTURE_CTRL d) 1 = false →
      bitOf (s.rget .CAPTURE_CTRL d) 11 = false → s.clocked d = true → (s.dist d).ctx ≤ 7 → s.counting = true →
      (s.crossing ≠ s.crossingOf (s.rget .CAPTURE_MT d) → exec (.captureCycle d) s = .next s) ∧
      (s.crossing = s.crossingOf (s.rget .CAPTURE_MT d) → bitsOf (s.rget .CAPTURE_CTRL d) 7 2 ≤ s.fabric.phase →
        ∃ t, exec (.captureCycle d) s = .next t ∧ captureState (t.rget .CAPTURE_CTRL d) = 2 ∧
          captureCtx (t.rget .CAPTURE_CTRL d) = (s.dist d).ctx ∧
          captureSeq (t.rget .CAPTURE_CTRL d) = (captureSeq (s.rget .CAPTURE_CTRL d) + 1) % 256 ∧
          t.flop (captureKey d) = s.presentFlops d ∧
          (∀ k, k ≠ captureKey d → mfind t.flops k = mfind s.flops k) ∧ t.cells = s.cells ∧ t.dists = s.dists))

/-- A well-formed request of a clocked District on a local channel, of class C1 to C3 while the channel holds fewer than 8
or of class C0 where the schedule permits it, waits at the bank of its own Quarter behind those already there, with its
write data held off while write enables are held; a malformed one is answered with ERRC 3. A Plaza request of class C1 to C3
from the service core, whose class BUS_CLASS gives, the debug bus master, the queue engine or a trunk waits at the bank it
names, but for a request of the service core that its protection refuses, which raises an access fault and does not travel;
a time-addressed request of a present crossing waits at the bank and row where the ring holds it. A class C0 request over
the Plaza is answered ERRC 3 and does not travel; a time-addressed C0 request to a ring that records nothing takes its place
on the fixed bus with TSTATUS 4; a time-addressed request with BACK 0, a reserved bit set or a row beyond the entry is
answered with ERRC 3 and a WARNING, whatever the ring's state. No bank word changes. -/
def Obligations.RequestsReachBanks : Prop :=
  (∀ (d b : Nat) (x : BitVec 32) (data : BitVec 128) (be : BitVec 16) (s : State), s.clocked d = true →
    (bitsOf x.toNat 27 26 ≠ 0 → s.queued (· == .district d (b % 64)) < 8) →
    (bitOf x.toNat 25 = true → bitsOf x.toNat 27 26 ≠ 0 →
      ∃ t, exec (.localRequest d b x data be) s = .next t ∧ t.banks = s.banks ∧ t.cells = s.cells ∧ t.regs = s.regs ∧
        mfind (mget t.lanes (d * 128 + b % 64) Lane.idle).done (mget s.lanes (d * 128 + b % 64) Lane.idle).issued =
          some (errorAnswer 0 3)) ∧
    (bitOf x.toNat 25 = false → bitsOf x.toNat 24 15 = 0 → bitsOf x.toNat 31 28 = 0 →
      (bitsOf x.toNat 27 26 = 0 → s.permitsC0 d (64 * (d / 2) + b % 64) (bitOf x.toNat 14) = true) →
      ∃ t o, exec (.localRequest d b x data be) s = .next t ∧ t.cells = s.cells ∧ t.regs = s.regs ∧
        (t.bank (64 * (d / 2) + b % 64)).waiting = (s.bank (64 * (d / 2) + b % 64)).waiting ++
          [{ src := .district d (b % 64)
             req := { write := bitOf x.toNat 14, cls := bitsOf x.toNat 27 26, row := bitsOf x.toNat 13 0, data := data
                      enables := if (s.dist d).weHeld then 0 else be }
             order := o, tag := 0, losses := 0 }])) ∧
  (∀ (m : Master) (x : BitVec 40) (data : BitVec 128) (be : BitVec 16) (s : State), (∀ d, m ≠ .district d) →
    bitsOf x.toNat 39 35 = 0 →
      (∀ a, s.plazaClass m x.toNat ≠ 0 → s.plazaFault m (bitsOf x.toNat 25 14) x.toNat be = some a →
        exec (.plazaRequest m x data be) s = .next (accessFault (bitOf x.toNat 26) a (notedRan m s))) ∧
      (s.plazaClass m x.toNat ≠ 0 → s.plazaFault m (bitsOf x.toNat 25 14) x.toNat be = none →
        ∃ t o, exec (.plazaRequest m x data be) s = .next t ∧ t.cells = s.cells ∧ t.regs = s.regs ∧
        (t.bank (bitsOf x.toNat 25 14)).waiting = (s.bank (bitsOf x.toNat 25 14)).waiting ++
          [{ src := .plaza m
             req := { write := bitOf x.toNat 26, cls := s.plazaClass m x.toNat, row := bitsOf x.toNat 13 0, data := data
                      enables := be }
             order := o, tag := bitsOf x.toNat 34 29, losses := 0 }]) ∧
      (s.plazaClass m x.toNat = 0 → ∃ t, exec (.plazaRequest m x data be) s = .next t ∧ t.banks = s.banks ∧ t.cells = s.cells ∧
        mfind (mget t.lanes (laneKey (bitsOf x.toNat 25 14) (.plaza m)) Lane.idle).done
          (mget s.lanes (laneKey (bitsOf x.toNat 25 14) (.plaza m)) Lane.idle).issued =
            some (errorAnswer (bitsOf x.toNat 34 29) 3))) ∧
  (∀ (d : Nat) (x : BitVec 32) (s : State), s.clocked d = true → bitsOf x.toNat 27 26 ≠ 0 → bitOf x.toNat 25 = true →
    s.queued (· == .district d storeChannel) < 8 → 2 ≤ s.rget .RING_STATE (d / 2) → bitsOf x.toNat 24 9 ≠ 0 →
    bitsOf x.toNat 31 28 = 0 → bitsOf x.toNat 8 4 < s.entryRowsOf (d / 2) →
    ∀ a j, s.resolve (d / 2) (s.crossing - bitsOf x.toNat 24 9) = .present a j →
      let at_ := s.ringRow (d / 2) a j (bitsOf x.toNat 3 0) (bitsOf x.toNat 8 4)
      ∃ t o, exec (.storeChannelRequest d x) s = .next t ∧ t.cells = s.cells ∧ t.regs = s.regs ∧
        (t.bank at_.1).waiting = (s.bank at_.1).waiting ++
          [{ src := .district d storeChannel
             req := { write := false, cls := bitsOf x.toNat 27 26, row := at_.2, data := 0, enables := 0 }
             order := o, tag := 0, losses := 0 }]) ∧
  (∀ (d : Nat) (x : BitVec 32) (s : State), s.clocked d = true → bitsOf x.toNat 27 26 = 0 → bitOf x.toNat 25 = true →
    s.rget .RING_STATE (d / 2) < 2 → bitsOf x.toNat 24 9 ≠ 0 → bitsOf x.toNat 31 28 = 0 →
    bitsOf x.toNat 8 4 < s.entryRowsOf (d / 2) →
      exec (.storeChannelRequest d x) s = .next (answerFixedNow (laneKey 0 (.district d storeChannel)) (statusAnswer 4) s)) ∧
  (∀ (d : Nat) (x : BitVec 32) (s : State), s.clocked d = true → bitOf x.toNat 25 = true →
    (bitsOf x.toNat 27 26 ≠ 0 → s.queued (· == .district d storeChannel) < 8) →
    (bitsOf x.toNat 24 9 = 0 ∨ bitsOf x.toNat 31 28 ≠ 0 ∨ s.entryRowsOf (d / 2) ≤ bitsOf x.toNat 8 4) →
      exec (.storeChannelRequest d x) s = .next (badRequest d 0xFFFF
        (answerClass (laneKey 0 (.district d storeChannel)) (bitsOf x.toNat 27 26) (errorAnswer 0 3) s)))

/-- A C0 answer that its bank has given leaves the fixed bus's list in its turn and stands on the bus of a clocked District,
and one not yet given is left to come; the next answer in issue order of a District's channel, or of a requester over the
Plaza at one bank, stands on its bus and the next number is due, while an answer whose turn has not come is left where it
is. Nothing else changes. -/
def Obligations.ResponsesInOrder : Prop :=
  (∀ (d c o : Nat) (l : List (Nat × Option Answer)) (s : State),
    (mget s.fixed (d * 128 + c) FixedBus.idle).wait = (o, none) :: l → exec (.fixedResponse d c) s = .next s) ∧
  (∀ (d c o : Nat) (a : Answer) (l : List (Nat × Option Answer)) (s : State),
    (mget s.fixed (d * 128 + c) FixedBus.idle).wait = (o, some a) :: l →
    ∃ t, exec (.fixedResponse d c) s = .next t ∧ { t with fixed := s.fixed } = s ∧
      (mget t.fixed (d * 128 + c) FixedBus.idle).wait = l ∧
      (s.clocked d = true → (mget t.fixed (d * 128 + c) FixedBus.idle).bus = some a) ∧
      (s.clocked d = false →
        (mget t.fixed (d * 128 + c) FixedBus.idle).bus = (mget s.fixed (d * 128 + c) FixedBus.idle).bus)) ∧
  (∀ (i : Instr) (key : Nat) (s : State),
    ((∃ d c, i = .orderedResponse d c ∧ key = d * 128 + c ∧ s.clocked d = true) ∨
      (∃ m n, i = .plazaResponse m n ∧ key = laneKey n (.plaza m) ∧ ∀ d, m = .district d → s.clocked d = true)) →
    let l := mget s.lanes key Lane.idle
    (mfind l.done l.delivered = none → exec i s = .next s) ∧
    (∀ a, mfind l.done l.delivered = some a →
      ∃ t, exec i s = .next t ∧ { t with lanes := s.lanes } = s ∧
        (mget t.lanes key Lane.idle).bus = some a ∧ (mget t.lanes key Lane.idle).delivered = l.delivered + 1 ∧
        (mget t.lanes key Lane.idle).issued = l.issued ∧
        (∀ k, k ≠ key → mfind t.lanes k = mfind s.lanes k)))

/-- In a memory cycle of an awake bank that no store takes, no invalidation and no throttle holds, the one waiting request
of class C1 to C3 leaves the list. If its requester may access the bank, a full write with no flip armed for the bank stores
both words of its row with fresh check bits and changes no other word of the memory; a read of a row of clean words that no
local write has just changed answers both words and changes no word and no register; if it may not, the answer is ERRC 2,
DENIED counts, and no word of the memory changes. -/
def Obligations.BankAccess : Prop :=
  ∀ (n cycle : Nat) (x : Waiting) (s : State), s.rget .POWER_STATE n = 0 → s.rget .INV_STATE n = 0 →
    (s.bank n).stores = [] → (s.bank n).waiting = [x] → x.req.cls ≠ 0 → x.losses < agedLosses →
    s.awaitsHandover n x.src = false → s.rget .THROTTLE_F ≤ cycle % 256 →
      (s.mayAccess n x.src x.req.write = true → x.req.write = true → x.req.enables = 0xFFFF → (∀ y, s.mem.flip = some y → y.1 ≠ n) →
        ∃ t, exec (.bankArbitration n cycle) s = .next t ∧ (t.bank n).waiting = [] ∧
          t.cell n (2 * x.req.row) = StoredWord.fresh (x.req.data.setWidth 64) ∧
          t.cell n (2 * x.req.row + 1) = StoredWord.fresh ((x.req.data >>> 64).setWidth 64) ∧
          (∀ k, (∀ p ∈ s.writePlaces n (2 * x.req.row) (s.moveTarget n), k ≠ cellKey (n / 64) p (2 * x.req.row)) →
            (∀ p ∈ s.writePlaces n (2 * x.req.row + 1) (s.moveTarget n), k ≠ cellKey (n / 64) p (2 * x.req.row + 1)) →
              mfind t.cells k = mfind s.cells k) ∧
          t.regs = s.regs) ∧
      (∀ lo hi, s.mayAccess n x.src x.req.write = true → x.req.write = false → (s.bank n).prior = [] →
        (∀ a ∈ [2 * x.req.row, 2 * x.req.row + 1], (s.cell n a).validDisagrees = false) →
        (s.cell n (2 * x.req.row)).read = .clean lo → (s.cell n (2 * x.req.row + 1)).read = .clean hi →
        ∃ t, exec (.bankArbitration n cycle) s = .next t ∧ (t.bank n).waiting = [] ∧ t.cells = s.cells ∧ t.regs = s.regs ∧
          mfind (mget t.lanes (laneKey n x.src) Lane.idle).done x.order =
            some { tag := x.tag, data := hi ++ lo, errc := 0, tstatus := 0 }) ∧
      (s.mayAccess n x.src x.req.write = false →
        ∃ t, exec (.bankArbitration n cycle) s = .next t ∧ (t.bank n).waiting = [] ∧ t.cells = s.cells ∧
          t.rget .DENIED n = Nat.min (s.rget .DENIED n + 1) (El.DENIED.modulus - 1) ∧
          mfind (mget t.lanes (laneKey n x.src) Lane.idle).done x.order = some (errorAnswer x.tag 2))

/-- An accepted OWNER that nothing refuses is shown at once with HANDOVER 1, and a refused one changes nothing; at the end
of the drain the new owner is active. POWER 1 puts an awake bank to sleep, and is refused with 0x06 on a bank that may not
sleep; POWER 0 starts the wake of a retained bank; at the end of the wake the bank is awake; a held sleep takes place once
the bank is awake, no stalled access waits and no slice is under test. No bank word changes. -/
def Obligations.OwnersAndPower : Prop :=
  ∀ (n : Nat) (s : State),
    (∀ (w : Route) (v : Nat), accepts w .OWNER n v s = true →
      (∀ c, s.ownerRefusal n v = some c → exec (.ownerWrite w n v) s = refused w c s) ∧
      (s.ownerRefusal n v = none → ∃ t, exec (.ownerWrite w n v) s = performed w t ∧ t.rget .OWNER n = v ∧
        t.rget .HANDOVER n = 1 ∧ t.rget .OWNER_ACTIVE n = s.rget .OWNER_ACTIVE n ∧ t.cells = s.cells)) ∧
    (s.rget .HANDOVER n = 1 → ∃ t, exec (.handoverDrainEnd n) s = .next t ∧ t.rget .OWNER_ACTIVE n = s.rget .OWNER n ∧
      t.rget .HANDOVER n = 0 ∧ t.cells = s.cells ∧ t.banks = s.banks) ∧
    (∀ (w : Route) (v : Nat), accepts w .POWER n v s = true →
      (v ≠ 0 → s.mayNotSleep n = true → exec (.powerWrite w n v) s = refused w 6 s) ∧
      (v ≠ 0 → s.mayNotSleep n = false → s.rget .POWER_STATE n = 0 → s.sliceRuns n = false →
        ∃ t, exec (.powerWrite w n v) s = performed w t ∧ t.rget .POWER_STATE n = 1 ∧ t.rget .POWER n = 1 ∧
          { t with regs := s.regs } = s) ∧
      (v = 0 → s.rget .POWER_STATE n = 1 →
        ∃ t, exec (.powerWrite w n v) s = performed w t ∧ t.rget .POWER_STATE n = 2 ∧ t.rget .POWER n = 0 ∧
          { t with regs := s.regs, banks := s.banks } = s)) ∧
    (s.rget .POWER_STATE n = 2 → ∃ t, exec (.bankWakeDone n) s = .next t ∧ t.rget .POWER_STATE n = 0 ∧
      (t.bank n).waiting = (s.bank n).waiting ∧ { t with regs := s.regs, banks := s.banks } = s) ∧
    (s.rget .POWER_STATE n = 0 → (s.bank n).sleepHeld = true → (s.bank n).stalled = 0 → s.sliceRuns n = false →
      ∃ t, exec (.deferredSleep n) s = .next t ∧ t.rget .POWER_STATE n = 1 ∧ (t.bank n).sleepHeld = false ∧
        { t with regs := s.regs, banks := s.banks } = s)

/-- An accepted write of 0 to RING_ENABLE turns the ring off and discards its content; a write of 1 whose geometry is
refused changes nothing, and otherwise the ring waits for its boundary with the geometry of RING_FIRST and RING_BANKS and an
empty content. While the ring is off, a geometry write stores the value and discards the content. No bank word changes. -/
def Obligations.RingsAreSet : Prop :=
  ∀ (w : Route) (q v : Nat) (s : State),
    (accepts w .RING_ENABLE q v s = true →
      (v = 0 → ∃ t, exec (.ringEnableWrite w q v) s = performed w t ∧ t.rget .RING_ENABLE q = 0 ∧ t.rget .RING_STATE q = 0 ∧
        t.ring q = Ring.off ∧ (∀ p, p ≠ q → t.ring p = s.ring p) ∧ { t with regs := s.regs, rings := s.rings } = s) ∧
      (∀ c, v ≠ 0 → s.ringRefusal q (s.rget .RING_FIRST q) (s.rget .RING_BANKS q) = some c →
        exec (.ringEnableWrite w q v) s = refused w c s) ∧
      (v ≠ 0 → s.ringRefusal q (s.rget .RING_FIRST q) (s.rget .RING_BANKS q) = none →
        ∃ t, exec (.ringEnableWrite w q v) s = performed w t ∧ t.rget .RING_ENABLE q = 1 ∧ t.rget .RING_STATE q = 1 ∧
          (t.ring q).first = s.rget .RING_FIRST q ∧ (t.ring q).banks = s.rget .RING_BANKS q ∧ (t.ring q).stripes = [] ∧
          (∀ p, p ≠ q → t.ring p = s.ring p) ∧ t.cells = s.cells)) ∧
    (∀ e, accepts w (ringGeometryEl e) q v s = true → s.rflag .RING_ENABLE q = false →
      ∃ t, exec (.ringGeometryWrite w e q v) s = performed w t ∧ t.rget (ringGeometryEl e) q = v ∧
        (t.ring q).stripes = [] ∧ (∀ p, p ≠ q → t.ring p = s.ring p) ∧
        (∀ k, k ≠ regKey (ringGeometryEl e) q → mfind t.regs k = mfind s.regs k) ∧
        { t with regs := s.regs, rings := s.rings } = s)

/-- While the keeper can be read and the value's sector is not worn, an accepted enable of a disabled Vault whose banks are
free hands them over and leaves the Vault locked, and one of an enabled Vault to 0 leaves it WIPING with cause 5; an enable
while a bank is of a ring, scheduled for C0 or asleep is refused with 0x06. Only the service core in machine mode unlocks
the Vault: any other sender is refused with 0x03, and a wipe in progress or a tamper state refuses with 0x06. An accepted
lock of an unlocked Vault locks it, and changes nothing else. An accepted wipe of an enabled Vault leaves it WIPING with
cause 4; at the end of a wipe every word of its banks holds zero with fresh check bits, the wipe is counted and its cause
shown, and the Vault is locked, or DISABLED where it is not enabled. -/
def Obligations.VaultGuards : Prop :=
  (∀ (w : Route) (v : Nat) (s : State), accepts w .VAULT_ENABLE 0 v s = true → s.keeper.failed = false →
    s.worn (s.sectorFor (valuesFirst + rwkIndex .VAULT_ENABLE 0)) = false →
    (v = 1 → s.rflag .VAULT_ENABLE = false →
      vaultBanks.any (fun n => s.isRingBank n || s.isC0 n || s.rget .POWER_STATE n == 1) = true →
        exec (.vaultEnableWrite w v) s = refused w 6 s) ∧
    (v = 0 → s.rflag .VAULT_ENABLE = true →
      ∃ t, exec (.vaultEnableWrite w v) s = performed w t ∧ t.rget .VAULT_STATE = 3 ∧ t.rget .VAULT_ENABLE = 0 ∧
        t.mem.wipeCause = 5) ∧
    (v = 1 → s.rflag .VAULT_ENABLE = false → s.rget .VAULT_STATE ≠ 3 →
      vaultBanks.any (fun n => s.isRingBank n || s.isC0 n || s.rget .POWER_STATE n == 1) = false →
      ∃ t, exec (.vaultEnableWrite w v) s = performed w t ∧ t.rget .VAULT_STATE = 1 ∧ t.rget .VAULT_ENABLE = 1 ∧
        (∀ n ∈ vaultBanks, t.rget .OWNER n = 0x84 ∧ t.rget .HANDOVER n = 1))) ∧
  (∀ (w : Route) (v : Nat) (s : State), accepts w .VAULT_LOCK 0 v s = true → v = 1 →
    exec (.vaultLock w v) s = performed w (if s.rget .VAULT_STATE = 2 then s.rset .VAULT_STATE 0 1 else s)) ∧
  (∀ (w : Route) (v : Nat) (s : State), accepts w .VAULT_UNLOCK 0 v s = true →
    (w ≠ .coreM → exec (.vaultUnlock w v) s = refused w 3 s) ∧
    (w = .coreM → (s.rget .VAULT_STATE = 3 ∨ s.rget .TAMPER_STATE ≠ 0) → exec (.vaultUnlock w v) s = refused w 6 s) ∧
    (w = .coreM → v = 1 → s.rget .VAULT_STATE = 1 → s.rget .TAMPER_STATE = 0 → s.bistRunning = false →
      exec (.vaultUnlock w v) s = performed w (s.rset .VAULT_STATE 0 2))) ∧
  (∀ (w : Route) (v : Nat) (s : State), accepts w .VAULT_WIPE 0 v s = true →
    (v = 0 → exec (.vaultWipe w v) s = performed w s) ∧
    (v = 1 → s.rflag .VAULT_ENABLE = true →
      ∃ t, exec (.vaultWipe w v) s = performed w t ∧ t.rget .VAULT_STATE = 3 ∧ t.mem.wipeCause = 4)) ∧
  (∀ s : State, s.rget .VAULT_STATE = 3 →
    ∃ t, exec .vaultWipeDone s = .next t ∧ t.rget .VAULT_STATE = (if s.rflag .VAULT_ENABLE then 1 else 0) ∧
      t.rget .LAST_WIPE_CAUSE = s.mem.wipeCause ∧
      t.rget .WIPE_COUNT = Nat.min (s.rget .WIPE_COUNT + 1) (El.WIPE_COUNT.modulus - 1) ∧
      (∀ n ∈ vaultBanks, ∀ a, a < 32768 → t.cell n a = StoredWord.fresh 0))

/-- An accepted INVALIDATE of the bank shown starts unless the bank may not be invalidated, which is refused with 0x06; at
its end every word of the bank is INVALID, and its waiting requests stand as before, unless it ends an off-line test of the
bank, which then goes back to the owner it had before. A leak tick lowers the bucket's level by one, not below 0. LB_LEAK of
the bank shown, and SCRUB_ENABLE, store. A page is retired into a free usable slot, or taken out of its slot, by a change
handed to the keeper. Where the keeper cannot be read both are refused with 0x06. FLIP_ARM arms the mask as FLIP_BANK,
FLIP_DATA and FLIP_CHECK stand unless one is armed already, which is refused with 0x06. -/
def Obligations.MemoryIntegrityWrites : Prop :=
  (∀ (w : Route) (v : Nat) (s : State), accepts w .INVALIDATE 0 v s = true → v ≠ 0 →
    (s.mayNotInvalidate (s.rget .MI_BANK) = true → exec (.invalidate w v) s = refused w 6 s) ∧
    (s.mayNotInvalidate (s.rget .MI_BANK) = false →
      exec (.invalidate w v) s = performed w (s.rset .INV_STATE (s.rget .MI_BANK) 1))) ∧
  (∀ (n : Nat) (s : State), s.rget .INV_STATE n = 1 →
    ∃ t, exec (.invalidateDone n) s = .next t ∧ t.rget .INV_STATE n = 0 ∧
      (∀ a, a < 32768 → t.cell n a = StoredWord.invalid) ∧
      (mfind s.bist.back n = none → (t.bank n).waiting = (s.bank n).waiting ∧
        { t with cells := s.cells, regs := s.regs, banks := s.banks, mem := { t.mem with zeroed := s.mem.zeroed } } = s) ∧
      (∀ o, mfind s.bist.back n = some o → t.rget .OWNER n = o ∧ t.rget .HANDOVER n = 1 ∧ mfind t.bist.back n = none)) ∧
  (∀ (n : Nat) (s : State), s.rget .LB_LEAK n ≠ 0 →
    exec (.lbLeakTick n) s = .next (s.rset .LB_LEVEL n (s.rget .LB_LEVEL n - 1))) ∧
  (∀ (w : Route) (v : Nat) (s : State), accepts w .LB_LEAK 0 v s = true →
    ∃ t, exec (.lbLeakWrite w v) s = performed w t ∧ t.rget .LB_LEAK (s.rget .MI_BANK) = v ∧
      (∀ k, k ≠ regKey .LB_LEAK (s.rget .MI_BANK) → mfind t.regs k = mfind s.regs k) ∧ { t with regs := s.regs } = s) ∧
  (∀ (w : Route) (v : Nat) (s : State), accepts w .SCRUB_ENABLE 0 v s = true →
    Stored w .SCRUB_ENABLE 0 v s (exec (.scrubEnableWrite w v) s)) ∧
  (∀ (w : Route) (v : Nat) (s : State), v ≤ 262143 → s.keeper.failed = true →
    (accepts w .RT_RETIRE 0 v s = true → exec (.rtRetire w v) s = refused w 6 s) ∧
    (accepts w .RT_UNRETIRE 0 v s = true → exec (.rtUnretire w v) s = refused w 6 s)) ∧
  (∀ (w : Route) (v : Nat) (s : State), accepts w .RT_RETIRE 0 v s = true → v ≤ 262143 → s.keeper.failed = false →
    s.tableDue.any (fun p => p.2 == v) = false → s.tableDue.length < retirementSlots →
    ∀ i, (List.range retirementSlots).find? (fun i => (mfind s.tableDue i).isNone && s.slotUsable i) = some i →
      ∃ t, exec (.rtRetire w v) s = performed w t ∧ t.mem.retiring = s.mem.retiring ++ [(i, v)] ∧
        t.keeper.jobs = s.keeper.jobs ++ [.retirement i v] ∧ t.cells = s.cells ∧ t.regs = s.regs) ∧
  (∀ (w : Route) (v : Nat) (s : State), accepts w .RT_UNRETIRE 0 v s = true → v ≤ 262143 → s.keeper.failed = false →
    ∀ p, s.tableDue.find? (fun p => p.2 == v) = some p → s.slotUsable p.1 = true →
      ∃ t, exec (.rtUnretire w v) s = performed w t ∧ t.mem.retiring = s.mem.retiring ++ [(p.1, 0xFFFFFFFF)] ∧
        t.keeper.jobs = s.keeper.jobs ++ [.retirement p.1 0xFFFFFFFF] ∧ t.cells = s.cells ∧ t.regs = s.regs) ∧
  (∀ (w : Route) (v : Nat) (s : State), accepts w .FLIP_ARM 0 v s = true → v ≠ 0 → s.isVaultBank (s.rget .FLIP_BANK) = false →
    (s.rget .FLIP_DATA ≠ 0 ∨ s.rget .FLIP_CHECK ≠ 0) →
      (s.rget .FLIP_STATE = 1 → exec (.flipArm w v) s = refused w 6 s) ∧
      (s.rget .FLIP_STATE ≠ 1 → ∃ t, exec (.flipArm w v) s = performed w t ∧ t.rget .FLIP_STATE = 1 ∧
        t.mem.flip = some (s.rget .FLIP_BANK, BitVec.ofNat 64 (s.rget .FLIP_DATA), BitVec.ofNat 8 (s.rget .FLIP_CHECK)) ∧
        (∀ k, k ≠ regKey .FLIP_STATE 0 → mfind t.regs k = mfind s.regs k) ∧
        { t with regs := s.regs, mem := { t.mem with flip := s.mem.flip } } = s))

/-- Where no entry of the repair list can be served, the memory scrubber's read, at a bank where no request waits, of a row
whose two words are clean, or were never written, changes only the scrubber's place, before its last row; it passes over a
sleeping bank and counts it. The first entry of the repair list that can be served is served, by the scrubber's read ahead
of its pass too: a corrected word is stored anew with fresh check bits, and the entry leaves the list. SUBSTITUTE of an
awake bank, with a spare free and no move running, starts the move; without these it is refused with 0x06; UNSUBSTITUTE
starts the move back. At the end of a move the bank's number addresses its new place, and no move runs in the Quarter. -/
def Obligations.ScrubAndSpares : Prop :=
  (∀ (q : Nat) (s : State),
    let p := mget s.mem.places q 0
    let n := 64 * q + p % 64
    s.scrubbing q = true → s.servable q = none → s.rget .INV_STATE n ≠ 1 → p + 1 ≠ passRows → (s.bank n).waiting = [] →
      (s.isAwake n = true → s.sliceTaken n (p / 64) = false →
        (∀ a ∈ [2 * (p / 64), 2 * (p / 64) + 1], (s.cell n a).validDisagrees = false ∧
          ((s.cell n a).read = .invalid ∨ ∃ d, (s.cell n a).read = .clean d)) →
        ∃ t, exec (.scrubRowRead q) s = .next t ∧ mget t.mem.places q 0 = (p + 1) % passRows ∧ { t with mem := s.mem } = s) ∧
      (s.isAwake n = false → ∃ t, exec (.scrubRowRead q) s = .next t ∧ mget t.mem.places q 0 = (p + 1) % passRows ∧
        t.rget .SCRUB_SKIPPED = Nat.min (s.rget .SCRUB_SKIPPED + 1) (El.SCRUB_SKIPPED.modulus - 1) ∧
        { t with mem := s.mem, regs := s.regs } = s)) ∧
  (∀ (q k : Nat) (s : State), s.scrubbing q = true → s.servable q = some (k, false) →
    (s.bank (64 * q + k / 32768)).waiting = [] →
    ∀ y d, (s.cell (64 * q + k / 32768) (k % 32768)).read = .corrected y d →
    ∀ i ∈ [Instr.repairListServe q, Instr.scrubRowRead q],
      ∃ t, exec i s = .next t ∧ mget t.mem.repairs q [] = (mget s.mem.repairs q []).filter (fun e => e.1 != k) ∧
        t.cell (64 * q + k / 32768) (k % 32768) = StoredWord.fresh d ∧ t.regs = s.regs) ∧
  (∀ (w : Route) (q b : Nat) (s : State), accepts w .SUBSTITUTE q b s = true →
    ((s.freeSpare q = none ∨ s.moveRefused (64 * q + b) = true) → exec (.substitute w q b) s = refused w 6 s) ∧
    (∀ i, s.freeSpare q = some i → s.moveRefused (64 * q + b) = false → s.underTest (64 * q + b) = false →
      ∃ t, exec (.substitute w q b) s = performed w t ∧ t.rget .SUB_STATE q = 1 ∧ t.rget .SUB_COPY_UE q = 0 ∧
        mfind t.mem.moves q = some { bank := b, spare := i, back := false } ∧
        { t with regs := s.regs, mem := s.mem } = s)) ∧
  (∀ (w : Route) (q v : Nat) (s : State), accepts w .UNSUBSTITUTE q v s = true →
    let b := s.rget (if v = 0 then .SPARE0_FOR else .SPARE1_FOR) q
    b ≠ 0xFF → s.moveRefused (64 * q + b) = false →
      ∃ t, exec (.unsubstitute w q v) s = performed w t ∧ t.rget .SUB_STATE q = 1 ∧ t.rget .SUB_COPY_UE q = 0 ∧
        mfind t.mem.moves q = some { bank := b, spare := v, back := true } ∧ { t with regs := s.regs, mem := s.mem } = s) ∧
  (∀ (q : Nat) (m : Move) (s : State), mfind s.mem.moves q = some m → s.bist.phase = none → m.back = false →
    (m.spare = 0 ∨ m.spare = 1) →
      ∃ t, exec (.substituteCopyDone q) s = .next t ∧ mfind t.mem.moves q = none ∧ t.rget .SUB_STATE q = 0 ∧
        t.rget (if m.spare = 0 then .SPARE0_FOR else .SPARE1_FOR) q = m.bank)

/-- In the expected cycle of a loaded tap outside a marker interval, the first in its crossing, a good offer waits in the
tap's hold line for its due crossing; in RUNNING a breach counts for its path, latches BUSY, keeps its code, and puts a
policy decision in the line for that crossing. At the end of a crossing every loaded tap of a loaded path has emitted a
decision for it; in RUNNING and outside a marker interval a lone tap emits what its line holds. -/
def Obligations.SentinelAndEmission : Prop :=
  (∀ (i : Nat) (o : TapOffer) (s : State) (x : LedgerTap) (p : LedgerPath), mfind s.dec.taps i = some x →
    mfind s.dec.paths x.path = some p → s.counting = true → s.clocked (i / 2) = true →
    bitOf x.contexts (s.dist (i / 2)).ctx = true → s.pathMarked p (s.crossing + x.hold) = false → o.busy = false →
      (mfind s.dec.judged i = some s.crossing → exec (.sentinelJudge i o) s = .next s) ∧
      (mfind s.dec.judged i ≠ some s.crossing → breachOf o (decidedTag (s.crossing + x.hold) p.ldec) = none →
        ∃ t, exec (.sentinelJudge i o) s = .next t ∧ { t with dec := s.dec } = s ∧
          mfind (t.line i) (s.crossing + x.hold) =
            some { kind := offeredKind o, atype := o.atype.toNat, user := o.user.toNat } ∧ t.dec.breach = s.dec.breach) ∧
      (∀ c, mfind s.dec.judged i ≠ some s.crossing → breachOf o (decidedTag (s.crossing + x.hold) p.ldec) = some c →
        s.dev = .running →
        ∃ t d, exec (.sentinelJudge i o) s = .next t ∧ t.dec.breach.isSome = true ∧ t.dec.breached.contains x.path = true ∧
          mfind (t.line i) (s.crossing + x.hold) = some d ∧
          d.kind = (if s.fget .POLICY x.path = 1 then .forced else .policyReject) ∧
          t.rget .LAST_BREACH_KIND x.path = c ∧
          t.rget .BREACHES x.path = Nat.min (s.rget .BREACHES x.path + 1) (El.BREACHES.modulus - 1) ∧
          t.cells = s.cells)) ∧
  (∀ s : State, s.counting = true → s.emittedAll s.crossing = false →
    ∃ t, exec .decisionEmit s = .next t ∧
      (∀ y ∈ s.dec.taps, y.2.path < 64 → (mfind s.dec.paths y.2.path).isSome = true →
        ∃ d, mfind t.dec.emitted y.1 = some (s.crossing, d)) ∧
      (∀ i x p d, s.dec.taps = [(i, x)] → x.path < 64 → mfind s.dec.paths x.path = some p → s.dev = .running →
        s.tb.held = none → s.pathMarked p s.crossing = false → mfind (s.line i) s.crossing = some d →
          mfind t.dec.emitted i = some (s.crossing, d)))

/-- An accepted acknowledgement of a latched breach waits for the boundary, and one with no breach has no effect. BUSY_FORCE
stores, and acts at once where MT does not count. POLICY, and TAP_OUT within the tap's outputs, come into force at the next
orbit boundary; a TAP_OUT beyond them is refused with 0x04. SS_MODE stores, with the pair's receiver at rest and its output
gone, unless the pair is bound to a tap and the mode is no decision output, which is refused with 0x06. SS_FIO_CFG stores a
valid setting and refuses any other with 0x04. -/
def Obligations.DecisionSettings : Prop :=
  ∀ (w : Route) (u v : Nat) (s : State),
    (accepts w .BREACH_ACK 0 v s = true → v = 1 →
      (s.dec.breach = none → exec (.breachAck w v) s = performed w s) ∧
      (s.dec.breach ≠ none → exec (.breachAck w v) s = performed w { s with dec := { s.dec with ackPending := true } })) ∧
    (accepts w .BUSY_FORCE 0 v s = true →
      ∃ t, exec (.busyForceWrite w v) s = performed w t ∧ t.rget .BUSY_FORCE = v ∧
        t.dec = { s.dec with force := if s.counting then s.dec.force else v == 1 } ∧
        (∀ k, k ≠ regKey .BUSY_FORCE 0 → mfind t.regs k = mfind s.regs k) ∧ { t with regs := s.regs, dec := s.dec } = s) ∧
    (accepts w .POLICY u v s = true → Deferred w .POLICY u v s (exec (.policyWrite w u v) s)) ∧
    (accepts w .TAP_OUT u v s = true → ∀ x, mfind s.dec.taps u = some x →
      (Nat.lor v x.outputs = x.outputs → Deferred w .TAP_OUT u v s (exec (.tapOutWrite w u v) s)) ∧
      (Nat.lor v x.outputs ≠ x.outputs → exec (.tapOutWrite w u v) s = refused w 4 s)) ∧
    (accepts w .SS_MODE u v s = true →
      (s.rget .SS_TAP u ≠ 0xFFFF → v ≠ 1 → v ≠ 2 → exec (.ssModeWrite w u v) s = refused w 6 s) ∧
      ((s.rget .SS_TAP u = 0xFFFF ∨ v = 1 ∨ v = 2) → ∃ t, exec (.ssModeWrite w u v) s = performed w t ∧
        t.rget .SS_MODE u = v ∧ t.lane u = LaneRx.idle ∧ mfind t.dec.pairs u = none ∧
        (∀ k, k ≠ regKey .SS_MODE u → mfind t.regs k = mfind s.regs k) ∧ { t with regs := s.regs, dec := s.dec } = s)) ∧
    (accepts w .SS_FIO_CFG u v s = true →
      (s.fioCfgOk v = true → Stored w .SS_FIO_CFG u v s (exec (.ssFioCfgWrite w u v) s)) ∧
      (s.fioCfgOk v = false → exec (.ssFioCfgWrite w u v) s = refused w 4 s))

/-- An unlocked lane counts a good word with a valid START, locks with the sixteenth in a row, and starts its run anew with
a word whose START is not valid, with no other effect; a word whose CRC fails counts in ACC_CRC_ERRORS and starts the run
anew. On a locked lane an accept word with a good CRC, and on a pin input a high sample, count in ACC_COUNT, and with the
event builder on in RUNNING and HOLD are offered to its intake; with it off they do nothing else but count a tag that does
not match. A refill adds one token to the bucket, up to ACC_BURST, once ACC_REFILL crossings have passed since the last, and
before that none. -/
def Obligations.AcceptsFromPairs : Prop :=
  (∀ (q x : Nat) (s : State), s.rget .SS_MODE q = 3 → s.counting = true → q < 64 → (s.lane q).locked = false →
    (laneCrcOk (s.rget .SS_MULT q) x = true → exec (.acceptLaneWord q x) s = .next (s.setLane q { s.lane q with
      good := if laneStartOk x then (s.lane q).good + 1 else 0
      locked := laneStartOk x && decide (16 ≤ (s.lane q).good + 1)
      recent := [] })) ∧
    (laneCrcOk (s.rget .SS_MULT q) x = false → ∃ t, exec (.acceptLaneWord q x) s = .next t ∧
      (t.lane q).locked = false ∧ (t.lane q).good = 0 ∧ (∀ p, p ≠ q → t.lane p = s.lane p) ∧
      t.rget .ACC_CRC_ERRORS q = Nat.min (s.rget .ACC_CRC_ERRORS q + 1) (El.ACC_CRC_ERRORS.modulus - 1) ∧
      t.rget .ACC_COUNT q = s.rget .ACC_COUNT q)) ∧
  (∀ (q x : Nat) (s : State), s.rget .SS_MODE q = 3 → s.counting = true → q < 64 → (s.lane q).locked = true →
    laneCrcOk (s.rget .SS_MULT q) x = true → (bitsOf x 3 2 = 1 ∨ bitsOf x 3 2 = 3) → s.rget .ACC_DELAY q ≤ s.crossing →
      ∃ t, exec (.acceptLaneWord q x) s = .next t ∧
        t.rget .ACC_COUNT q = Nat.min (s.rget .ACC_COUNT q + 1) (El.ACC_COUNT.modulus - 1) ∧
        (s.rflag .EB_ENABLE = true → (s.dev = .running ∨ s.dev = .hold) → t.eb.offered = s.eb.offered ++
          [{ crossing := s.crossing - s.rget .ACC_DELAY q, atype := bitsOf x 7 4, forced := bitsOf x 3 2 == 3
             mismatch := bitsOf x 15 8 != (s.crossing - s.rget .ACC_DELAY q) % 256, source := 64 + q }]) ∧
        (s.rflag .EB_ENABLE = false → { t with regs := s.regs, dec := s.dec } = s)) ∧
  (∀ (q : Nat) (s : State), s.rget .SS_MODE q = 4 → s.counting = true → q < 64 → s.rget .ACC_DELAY q ≤ s.crossing →
    ∃ t, exec (.acceptPinSample q) s = .next t ∧
      t.rget .ACC_COUNT q = Nat.min (s.rget .ACC_COUNT q + 1) (El.ACC_COUNT.modulus - 1) ∧
      (s.rflag .EB_ENABLE = true → (s.dev = .running ∨ s.dev = .hold) → t.eb.offered = s.eb.offered ++
        [{ crossing := s.crossing - s.rget .ACC_DELAY q, atype := s.rget .ACC_TYPE q, forced := false, mismatch := false
           source := 64 + q }]) ∧
      (s.rflag .EB_ENABLE = false → { t with regs := s.regs } = s)) ∧
  (∀ s : State, s.eb.refill < s.fget .ACC_REFILL → exec .tokenRefill s = .next s) ∧
  (∀ s : State, s.fget .ACC_REFILL ≤ s.eb.refill → exec .tokenRefill s =
    .next { s with eb := { s.eb with tokens := Nat.min (s.eb.tokens + 1) (s.fget .ACC_BURST), refill := 0 } })

/-- A group's fragment whose window is complete, first of its unit, with nothing held in the unit's buffer, begins to be
read, and its task alone changes; at the end of extraction, with the banks of its rows ready where the ring holds them, it
is built; the merge stage's first fragment, once built, is dropped and counted in NOQUEUE where its queue is not enabled,
and is written behind the queue's whole fragments and counted where its queue takes it and its banks are ready. An accepted
EB_GROUP whose group has ports of no other Quarter, and an accepted G_PRE or G_POST that keeps their sum within 255, come
into force at the next orbit boundary; a group with ports elsewhere is refused with 0x06, and a sum above 255 with 0x04.
EVENT_PRESET sets EVENT_NEXT with itself and no other register. -/
def Obligations.EventBuilding : Prop :=
  ((∀ (g : Nat) (x : EbTask) (s : State), s.eb.tasks.find? (fun t => t.stage == 0 && t.group == g) = some x →
    x.ports ≠ [] → s.unitTask x.quarter = some x → s.counting = true → s.windowIncomplete x = false →
    s.bufferUsed x.quarter = 0 →
      ∃ t f, exec (.extractionStart g) s = .next t ∧ { t with eb := s.eb } = s ∧
        t.eb = { s.eb with tasks := s.eb.tasks.map (fun u => if u.ticket == x.ticket && u.group == x.group then
          { x with stage := 1, entry := s.rget .RING_WORDS x.quarter, flags := f } else u) }) ∧
  (∀ (g : Nat) (x : EbTask) (s : State), s.eb.tasks.find? (fun t => t.stage == 1 && t.group == g) = some x →
    (x.flags = flagNoRing ∨ x.flags = flagExpired ∨ (banksReady (s.spanBanks x) s).1 = true) →
    ∃ t, exec (.extractionDone g) s = .next t ∧ t.eb.tasks.length = s.eb.tasks.length ∧
      (∀ u ∈ t.eb.tasks, u.ticket = x.ticket → u.group = x.group → u.stage = 2) ∧ t.queues = s.queues) ∧
  (∀ (g : Nat) (x : EbTask) (l : List EbTask) (s : State), s.eb.tasks = x :: l → x.stage = 2 → x.group = g →
    (s.qEnabled x.queue = false → ∃ t, exec (.fragmentWrite g) s = .next t ∧ t.eb.tasks = l ∧
      t.rget .NOQUEUE = Nat.min (s.rget .NOQUEUE + 1) (El.NOQUEUE.modulus - 1) ∧ t.queues = s.queues ∧ t.cells = s.cells) ∧
    (s.qEnabled x.queue = true → s.qPkind x.queue = 0 → s.rget .Q_PRODUCER x.queue = 0 →
      ∀ y, s.policyFor (x.cut (s.queueRows x.queue)) = some y → y.queue = x.queue →
        let rows := (s.tailRows x.queue (pairRows (y.header y.mt ++ y.words)).length
          (s.rget .Q_TAIL x.queue)).1
        (rowsReady (s.qClass x.queue) rows s).1 = true →
          ∃ t, exec (.fragmentWrite g) s = .next t ∧ t.eb.tasks = l ∧
            (t.queue x.queue).frags = (s.queue x.queue).frags ++ [rows] ∧
            t.rget .Q_FRAGMENTS x.queue = Nat.min (s.rget .Q_FRAGMENTS x.queue + 1) (El.Q_FRAGMENTS.modulus - 1)))) ∧
  (∀ (w : Route) (u v : Nat) (s : State),
    (accepts w .EB_GROUP u v s = true →
      let split := v != 0xFF && (s.unitsSet .EB_GROUP).any (fun o => s.rget .EB_GROUP o == v && o / 16 != u / 16)
      (split = true → exec (.ebGroupWrite w u v) s = refused w 6 s) ∧
      (split = false → Deferred w .EB_GROUP u v s (exec (.ebGroupWrite w u v) s))) ∧
    (∀ e, accepts w (windowSideEl e) u v s = true →
      let other := s.rget (match e with | .pre => .G_POST | .post => .G_PRE) u
      (v + other ≤ 255 → Deferred w (windowSideEl e) u v s (exec (.gWindowWrite w e u v) s)) ∧
      (¬ v + other ≤ 255 → exec (.gWindowWrite w e u v) s = refused w 4 s)) ∧
    (accepts w .EVENT_PRESET 0 v s = true →
      ∃ t, exec (.eventPresetWrite w v) s = performed w t ∧ t.rget .EVENT_PRESET = v ∧ t.rget .EVENT_NEXT = v ∧
        (∀ k, k ≠ regKey .EVENT_PRESET 0 → k ≠ regKey .EVENT_NEXT 0 → mfind t.regs k = mfind s.regs k) ∧
        { t with regs := s.regs } = s))

/-- An accepted enable of the queue shown, with a setting and a region that nothing refuses, leaves it enabled, empty, with
its tail at its base; an accepted disable needs a queue that holds no row and is not being written and its other settings
unchanged, else 0x06; a flush empties a queue that is not enabled and is refused with 0x06 on one that is. A row that a
clocked District pushes into its own queue with free space and ready banks joins the fragment in the making, at the tail; a
pop of an empty queue answers QP_REMPTY, and of another the oldest fragment, whose rows leave the queue. A second enable
with the settings in force changes nothing, and is refused with 0x06 where the region may not be a queue's any more. -/
def Obligations.QueuesServe : Prop :=
  (∀ (w : Route) (v : Nat) (s : State),
    let q := s.qwin
    (accepts w .Q_CTRL 0 (v - v % 2 + 1) s = true → bitsOf (v - v % 2 + 1) 31 10 = 0 → s.qEnabled q = false →
      s.ctrlRefused q (v - v % 2 + 1) = false →
        (s.regionBusy q = true → exec (.qEnable w v) s = refused w 6 s) ∧
        (s.regionBusy q = false → ∃ t, exec (.qEnable w v) s = performed w t ∧ t.rget .Q_CTRL q = v - v % 2 + 1 ∧
          t.rget .Q_TAIL q = s.rget .Q_BASE q ∧ t.queue q = Queue.empty ∧ t.rget .Q_LEVEL q = 0 ∧ t.cells = s.cells)) ∧
    (accepts w .Q_CTRL 0 (v - v % 2 + 1) s = true → bitsOf (v - v % 2 + 1) 31 10 = 0 → s.qEnabled q = true →
      s.ctrlRefused q (v - v % 2 + 1) = false → (v - v % 2 + 1) / 2 = s.rget .Q_CTRL q / 2 →
        (s.regionBusy q = true → exec (.qEnable w v) s = refused w 6 s) ∧
        (s.regionBusy q = false → exec (.qEnable w v) s = performed w s)) ∧
    (accepts w .Q_CTRL 0 (v - v % 2) s = true → bitsOf (v - v % 2) 31 10 = 0 → s.qEnabled q = true →
      ((v - v % 2) / 2 = s.rget .Q_CTRL q / 2 → (s.queue q).busy = false →
        ∃ t, exec (.qDisable w v) s = performed w t ∧ t.rget .Q_CTRL q = v - v % 2 ∧ t.qEnabled q = false ∧
          t.queue q = Queue.empty ∧ (∀ p, p ≠ q → t.queue p = s.queue p) ∧
          { t with regs := s.regs, queues := s.queues } = s) ∧
      ((v - v % 2) / 2 ≠ s.rget .Q_CTRL q / 2 ∨ (s.queue q).busy = true → exec (.qDisable w v) s = refused w 6 s)) ∧
    (accepts w .Q_FLUSH 0 v s = true →
      (s.qEnabled q = true → exec (.qFlush w v) s = refused w 6 s) ∧
      (s.qEnabled q = false → v = 1 → ∃ t, exec (.qFlush w v) s = performed w t ∧ t.queue q = Queue.empty ∧
        t.rget .Q_LEVEL q = 0 ∧ (∀ p, p ≠ q → t.queue p = s.queue p) ∧ t.cells = s.cells))) ∧
  (∀ (d q : Nat) (row : BitVec 128) (s : State), s.clocked d = true → s.produces q 1 d = true →
    (s.queue q).dropping = false → (s.queue q).part.length < s.queueRows q → s.queueFree q ≠ 0 →
    (rowsReady (s.qClass q) (s.tailRows q 1 (s.rget .Q_TAIL q)).1 s).1 = true →
      ∃ t, exec (.qpPush d q row false) s = .next t ∧
        (t.queue q).part = (s.queue q).part ++ (s.tailRows q 1 (s.rget .Q_TAIL q)).1 ∧
        (t.queue q).frags = (s.queue q).frags ∧ t.rget .Q_TAIL q = (s.tailRows q 1 (s.rget .Q_TAIL q)).2 ∧
        (∀ p, p ≠ q → t.queue p = s.queue p)) ∧
  (∀ (d q : Nat) (s : State), s.clocked d = true → s.consumes q 1 d = true →
    ((s.queue q).frags = [] → exec (.qpPopRequest d q) s =
      .next { s with qports := mput s.qports d [], fabric := { s.fabric with poppedAt := mput s.fabric.poppedAt d s.fabric.cycle } }) ∧
    (∀ r l, (s.queue q).frags = r :: l → (rowsReady (s.qClass q) r s).1 = true →
      (deliverRows r (rowsReady (s.qClass q) r s).2).1.2 = false →
      ∃ t, exec (.qpPopRequest d q) s = .next t ∧ mfind t.qports d = some (deliverRows r (rowsReady (s.qClass q) r s).2).1.1 ∧ (t.queue q).frags = l ∧
        (∀ p, p ≠ q → t.queue p = s.queue p)))

/-- TK_RATE and TK_MODE store only on a trunk that is not enabled, else 0x06, with the Ethernet modes at rate 0 alone.
Enabling a trunk that was never stopped puts it into training once its PLL is locked and waits for the PLL otherwise;
disabling one that boot does not run turns it off. A test pattern is refused with 0x06 while a tap or a queue names the
trunk. RETRAIN of a link that is up loses lock, counts, and marks all that is unacknowledged to be resent; TK_RESET numbers
it from SEQ 0 and expects SEQ 0. -/
def Obligations.TrunkSettings : Prop :=
  ∀ (w : Route) (k v : Nat) (s : State),
    (accepts w .TK_RATE k v s = true → (s.rget .TK_MODE k = 0 ∨ v = 0) →
      (s.rflag .TK_ENABLE k = true → exec (.tkRateWrite w k v) s = refused w 6 s) ∧
      (s.rflag .TK_ENABLE k = false → Stored w .TK_RATE k v s (exec (.tkRateWrite w k v) s))) ∧
    (accepts w .TK_MODE k v s = true → (v = 0 ∨ s.rget .TK_RATE k = 0) →
      ((s.rflag .TK_ENABLE k = true ∨ (v ≠ 0 ∧ s.tapNames k = true)) → exec (.tkModeWrite w k v) s = refused w 6 s) ∧
      (s.rflag .TK_ENABLE k = false → (v = 0 ∨ s.tapNames k = false) →
        Stored w .TK_MODE k v s (exec (.tkModeWrite w k v) s))) ∧
    (accepts w .TK_ENABLE k v s = true → (s.trunk k).stopped = false → s.rget .TK_ENABLE k ≠ v →
      (v = 1 → s.rget .TK_PRBS k = 0 → ∃ t, exec (.tkEnableWrite w k v) s = performed w t ∧ t.rget .TK_ENABLE k = 1 ∧
        t.rget .LINK_STATE k = (if (s.trunk k).pll then 2 else 1) ∧ { t with regs := s.regs } = s) ∧
      (v = 0 → (k ≠ 0 ∨ s.bootSrc ≠ 2) → ∃ t, exec (.tkEnableWrite w k v) s = performed w t ∧ t.rget .TK_ENABLE k = 0 ∧
        t.rget .LINK_STATE k = 0 ∧ (t.trunk k).lock = false ∧ (∀ j, j ≠ k → t.trunk j = s.trunk j) ∧
        { t with regs := s.regs, trunks := s.trunks } = s)) ∧
    (accepts w .TK_PRBS k v s = true →
      (v ≠ 0 → (s.tapNames k = true ∨ s.queueNames k = true) → exec (.tkPrbsWrite w k v) s = refused w 6 s) ∧
      (v ≠ 0 → s.tapNames k = false → s.queueNames k = false → s.rget .TK_PRBS k ≠ v → (s.trunk k).stopped = false →
        s.rflag .TK_ENABLE k = true → ∃ t, exec (.tkPrbsWrite w k v) s = performed w t ∧ t.rget .TK_PRBS k = v ∧
          t.rget .LINK_STATE k = 5 ∧ (t.trunk k).lock = false ∧ { t with regs := s.regs, trunks := s.trunks } = s)) ∧
    (accepts w .RETRAIN k v s = true → v = 1 → (linkState s k = 3 ∨ linkState s k = 4) →
      ∃ t, exec (.retrain w k v) s = performed w t ∧ linkState t k = 2 ∧ (t.trunk k).lock = false ∧
        (t.trunk k).resend = (s.trunk k).unacked.length ∧
        t.rget .RETRAINS k = Nat.min (s.rget .RETRAINS k + 1) (El.RETRAINS.modulus - 1) ∧
        { t with regs := s.regs, trunks := s.trunks } = s) ∧
    (accepts w .TK_RESET k v s = true → v = 1 →
      ∃ t, exec (.tkReset w k v) s = performed w t ∧ t.rget .RX_EXPECT k = 0 ∧
        t.rget .TX_SEQ k = (s.trunk k).unacked.length % 65536 ∧ (t.trunk k).resend = (s.trunk k).unacked.length ∧
        (t.trunk k).unacked = renumber 0 (s.trunk k).unacked ∧
        { t with regs := s.regs, trunks := s.trunks, fv := s.fv } = s)

/-- PLL lock takes a waiting trunk to TRAINING; codeword lock, in Omium trunk framing once 3 MARKs have come in training,
takes it to UP with both READY bits and to UP_NOT_READY without, and before that does nothing; lost lock, the partner's
training and a received STOP take a link that is up back to TRAINING without lock; a timeout leaves it in TRAINING without
lock. IDLE and MARK of the partner's known EPOCH set its READY bit; under lock a MARK's codewords count in FEC_CORRECTED up
to 15 symbol errors and in FEC_UNCORR above, and 8 uncorrectable ones in a row or 2 absent MARKs take the link back to
TRAINING; a MARK received in training counts towards lock where it stands 1,024 codewords after the one before, and else as
the first; a MARK sent carries READY, EPOCH and a count that moves on, and 4 IDLE blocks follow it; a block of a reserved
type counts in RX_DISCARDED and does nothing else. -/
def Obligations.TrunkLinkStates : Prop :=
  ∀ (k : Nat) (s : State),
    (linkState s k = 1 → ∃ t, exec (.trunkPllLock k) s = .next t ∧ linkState t k = 2 ∧
      t.trunk k = { s.trunk k with pll := true } ∧ { t with regs := s.regs, trunks := s.trunks } = s) ∧
    (linkState s k = 2 → s.rget .TK_MODE k = 0 → (s.trunk k).marksIn < lockMarks → exec (.codewordLock k) s = .next s) ∧
    (linkState s k = 2 → (s.rget .TK_MODE k ≠ 0 ∨ lockMarks ≤ (s.trunk k).marksIn) →
      ∃ t, exec (.codewordLock k) s = .next t ∧ (t.trunk k).lock = true ∧
      linkState t k = (if s.bothReady k then 4 else 3) ∧ { t with regs := s.regs, trunks := s.trunks } = s) ∧
    (linkState s k = 2 →
      exec (.trainingTimeout k) s = .next (s.setTrunk k { s.trunk k with lock := false, marksIn := 0 })) ∧
    ((linkState s k = 3 ∨ linkState s k = 4) → (s.trunk k).lock = true →
      ∀ i ∈ [Instr.codewordLockLost k, .partnerTrainingRequest k],
        ∃ t, exec i s = .next t ∧ linkState t k = 2 ∧ (t.trunk k).lock = false ∧
          (t.trunk k).resend = (s.trunk k).unacked.length ∧ { t with regs := s.regs, trunks := s.trunks } = s) ∧
    ((linkState s k = 3 ∨ linkState s k = 4) → s.receives k = true →
      ∃ t, exec (.stopReceived k) s = .next t ∧ linkState t k = 2 ∧ (t.trunk k).lock = false ∧
        { t with regs := s.regs, trunks := s.trunks, recorder := s.recorder } = s) ∧
    (∀ b : BitVec 256, s.receives k = true → (s.trunk k).partner = some (bitsOf b.toNat 31 16) →
      ∃ t, exec (.idleBlockReceived k b) s = .next t ∧ (t.trunk k).remoteReady = bitOf b.toNat 8 ∧
        (t.trunk k).seen = bitsOf b.toNat 31 16 ∧ { t with regs := s.regs, trunks := s.trunks } = s) ∧
    (∀ m : MarkSpan, s.receives k = true → (s.trunk k).partner = some (bitsOf m.block.toNat 31 16) →
      (lostRun (s.trunk k).badWords m.errors).2 = false → absentMarks m.errors < 2 →
      ∃ t, exec (.markReceived k m) s = .next t ∧ (t.trunk k).remoteReady = bitOf m.block.toNat 8 ∧
        (t.trunk k).seen = bitsOf m.block.toNat 31 16 ∧ (t.trunk k).badWords = (lostRun (s.trunk k).badWords m.errors).1 ∧
        t.rget .FEC_CORRECTED k = Nat.min (s.rget .FEC_CORRECTED k + (m.errors.filter (fun e => 1 ≤ e && e ≤ 15)).length)
          (El.FEC_CORRECTED.modulus - 1) ∧
        t.rget .FEC_UNCORR k = Nat.min (s.rget .FEC_UNCORR k + (m.errors.filter (fun e => 16 ≤ e)).length)
          (El.FEC_UNCORR.modulus - 1) ∧ { t with regs := s.regs, trunks := s.trunks } = s) ∧
    (∀ m : MarkSpan, s.receives k = true → (linkState s k = 3 ∨ linkState s k = 4) →
      ((lostRun (s.trunk k).badWords m.errors).2 = true ∨ 2 ≤ absentMarks m.errors) →
      ∃ t, exec (.markReceived k m) s = .next t ∧ linkState t k = 2 ∧ (t.trunk k).lock = false ∧
        { t with regs := s.regs, trunks := s.trunks } = s) ∧
    (∀ m : MarkSpan, s.receives k = false → linkState s k = 2 → s.rget .TK_MODE k = 0 →
      exec (.markReceived k m) s = .next (s.setTrunk k { s.trunk k with
        marksIn := if (s.trunk k).marksIn ≠ 0 ∧ m.errors.length = 1024 then Nat.min ((s.trunk k).marksIn + 1) lockMarks else 1 })) ∧
    ((linkState s k = 2 ∨ linkState s k = 3 ∨ linkState s k = 4) → s.rget .TK_MODE k = 0 →
      exec (.markSend k) s = .next (s.setTrunk k { s.trunk k with
        marks := ((s.trunk k).marks + 1) % 2 ^ 32
        out := controlBlock (0x1E + s.readyEpoch k + (s.trunk k).marks % 2 ^ 32 * 2 ^ 32) ::
          List.replicate idleBlocks (controlBlock (s.readyEpoch k)) })) ∧
    (∀ b : BitVec 256, s.receives k = true → bitsOf b.toNat 7 0 ∉ [0x00, 0x1E, 0x3C, 0x55, 0xA5, 0xF0] →
      exec (.reservedBlockReceived k b) s = .next (s.rinc .RX_DISCARDED k))

/-- A received LINK block of the partner's known EPOCH gives the credits it carries and takes the packets it acknowledges
off the list; one sent carries the last SEQ taken, or the SEQ expected with NAK, and the credits, and a due NAK is due no
more. A timeout with packets unacknowledged marks all of them to be resent and counts, below the sixteenth in a row. The
packet chosen by class, age and credit takes the next SEQ and waits for its acknowledgement. A whole packet with the SEQ
expected is taken and the next is expected; one ahead of it is not, and a NAK is due unless one was sent for the gap. -/
def Obligations.TrunkAcknowledgement : Prop :=
  ∀ (k : Nat) (s : State),
    (∀ b : BitVec 256, s.receives k = true → (s.trunk k).partner = some (bitsOf b.toNat 95 80) → bitOf b.toNat 8 = false →
      ∃ t, exec (.linkBlockReceived k b) s = .next t ∧
        (t.trunk k).cred = [bitsOf b.toNat 47 32, bitsOf b.toNat 63 48, bitsOf b.toNat 79 64] ∧
        (t.trunk k).unacked = (s.trunk k).unacked.drop (ackCount (s.trunk k) (bitsOf b.toNat 31 16)) ∧ t.cells = s.cells) ∧
    (s.linked k = true → s.rget .TK_MODE k = 0 →
      ∃ t b, exec (.linkBlockSend k) s = .next t ∧ t.trunk k = { s.trunk k with nakDue := false, out := [controlBlock b] } ∧
        bitsOf b 7 0 = 0xA5 ∧ bitOf b 8 = (s.trunk k).nakDue ∧
        bitsOf b 31 16 = (if (s.trunk k).nakDue then s.rget .RX_EXPECT k else s.rget .RX_EXPECT k + 65535) % 65536 ∧
        { t with trunks := s.trunks } = s) ∧
    (s.linked k = true → (s.trunk k).unacked ≠ [] → (s.trunk k).timeouts < 15 →
      ∃ t, exec (.replayTimeout k) s = .next t ∧ (t.trunk k).resend = (s.trunk k).unacked.length ∧
        (t.trunk k).timeouts = (s.trunk k).timeouts + 1 ∧
        t.rget .REPLAYS k = Nat.min (s.rget .REPLAYS k + 1) (El.REPLAYS.modulus - 1) ∧
        { t with regs := s.regs, trunks := s.trunks } = s) ∧
    (s.linked k = true → s.rget .TK_MODE k = 0 → (s.trunk k).resend = 0 → (s.trunk k).unacked.length < unackedLimit →
      ∀ p, chooseAmong (s.trunk k) ((s.headPackets k packetRows).filter (creditAllows (s.trunk k))) = some p →
        (p.key = mgmtKey → (s.trunk k).mgmtOut ≠ []) → (p.key ≠ mgmtKey → (packetReady p.key packetRows s).1 = true) →
          ∃ t, exec (.packetSend k) s = .next t ∧ t.rget .TX_SEQ k = (s.rget .TX_SEQ k + 1) % 65536 ∧
            (t.trunk k).unacked.length = (s.trunk k).unacked.length + 1) ∧
    (∀ p : TrunkPacket, s.receives k = true → s.linked k = true → s.rget .RX_EXPECT k < 65536 →
      (rxSeq p.header = s.rget .RX_EXPECT k → wholePacket p = true → rxMg p.header = false → (s.trunk k).received = [] →
        ∃ t, exec (.packetReceived k p) s = .next t ∧ t.rget .RX_EXPECT k = (s.rget .RX_EXPECT k + 1) % 65536 ∧
          (t.trunk k).nakSent = false ∧ (t.trunk k).nakDue = false) ∧
      (∀ n, 0 < n → n < 32768 → rxSeq p.header = (s.rget .RX_EXPECT k + n) % 65536 →
        ∃ t, exec (.packetReceived k p) s = .next t ∧ (t.trunk k).nakSent = true ∧
          (t.trunk k).nakDue = ((s.trunk k).nakDue || !(s.trunk k).nakSent) ∧
          (t.trunk k).received = (s.trunk k).received ∧ { t with trunks := s.trunks } = s))

/-- A C0 block that is in time for the crossing it names is kept with the messages it carries; one that is late counts in
C0_LATE; the messages kept for the crossing C0_RX_DELAY back are presented with status 0. An Ethernet trunk that is UP sends
the fragment rows chosen as a frame of at least 64 bytes with its FCS, and moves FSEQ on. A received frame with a bad FCS,
or of no known kind, counts in RX_DISCARDED and does nothing else; the rows of a data frame that its queue has room for, or
discards to an EOF, are pushed into it as its SOF has them begin, and those of any other are dropped. -/
def Obligations.TrunkC0AndEthernet : Prop :=
  ∀ (k : Nat) (s : State),
    (∀ (b : BitVec 256) (c : Nat), s.receives k = true → s.counting = true → bitsOf b.toNat 31 16 = 0 →
      s.c0Crossing (bitsOf b.toNat 127 112) = some c →
        (s.crossing < c + s.rget .C0_RX_DELAY k → ∃ t, exec (.c0BlockReceived k b) s = .next t ∧
          mfind (t.trunk k).c0In c =
            some ((c0Messages b.toNat).foldl (fun m p => mput m p.1 p.2) (mget (s.trunk k).c0In c [])) ∧
          { t with trunks := s.trunks } = s) ∧
        (c + s.rget .C0_RX_DELAY k ≤ s.crossing → ∃ t, exec (.c0BlockReceived k b) s = .next t ∧
          t.rget .C0_LATE k = Nat.min (s.rget .C0_LATE k + 1) (El.C0_LATE.modulus - 1) ∧
          (t.trunk k).c0In = (s.trunk k).c0In ∧ { t with regs := s.regs, trunks := s.trunks } = s)) ∧
    (∀ m, s.counting = true → s.rget .C0_RX_DELAY k ≤ s.crossing →
      mfind (s.trunk k).c0In (s.crossing - s.rget .C0_RX_DELAY k) = some m →
        ∃ t, exec (.c0RxPresent k) s = .next t ∧
          (t.trunk k).c0Shown = some (s.crossing - s.rget .C0_RX_DELAY k, m, 0) ∧ { t with trunks := s.trunks } = s) ∧
    (∀ c, linkState s k = 4 → s.rget .TK_MODE k ≠ 0 → chooseAmong (s.trunk k) (s.headPackets k (s.frameRows k)) = some c →
      (packetReady c.key (s.frameRows k) s).1 = true →
        ∃ t f, exec (.ethFrameSend k) s = .next t ∧ (t.trunk k).fseq = ((s.trunk k).fseq + 1) % 2 ^ 32 ∧
          (t.trunk k).frame = some (f ++ leBytes 4 (crc32 f)) ∧ 60 ≤ f.length) ∧
    (∀ bytes : Bytes, (s.trunk k).lock = true → s.rget .TK_MODE k ≠ 0 →
      let f := bytes.take (bytes.length - 4)
      let good := Nat.ble 64 bytes.length && leVal (bytes.drop (bytes.length - 4)) == crc32 f
      ((good = false ∨ s.ethKind k f = .other) →
        exec (.ethFrameReceived k bytes) s = .next (s.rinc .RX_DISCARDED k)) ∧
      (∀ o, good = true → s.ethKind k f = .data o →
        let q := (s.rget .RX_QBASE k + fieldAt o 4 2) % 65536
        let rows := (chunks 16 (fieldAt o 6 2) (o.drop 16)).map (fun b => BitVec.ofNat 128 (leVal b))
        let s' := beginRows q (bitOf (fieldAt o 3 1) 0) s
        s.produces q 3 k = true →
          ((s'.queue q).dropping = true ∨ rows.length ≤ s'.queueFree q → exec (.ethFrameReceived k bytes) s =
            .next (pushRows q (bitOf (fieldAt o 3 1) 2) (bitOf (fieldAt o 3 1) 1) rows s').2) ∧
          ((s'.queue q).dropping = false → s'.queueFree q < rows.length → exec (.ethFrameReceived k bytes) s = .next s')))

/-- An accepted LOAD_GO of 1 with no load in progress begins one from LOAD_SRC with nothing taken and LOAD_REASON,
LOAD_DETAIL and LOAD_BYTES at 0, in sync hunt, entering LOADING at once from IDLE or SAFE and leaving the device state
elsewhere; it is refused with 0x06 while a load is in progress or a listener waits for a golden stream. LOAD_ABORT with
neither has no effect; with a load it ends the load, LOAD_STATE 6, with reason 9 shown for a primary load, and a global load
leaves the device in SAFE with cause 3; while a listener waits, it ends the wait in SAFE. LOAD_SRC only stores. No bank word
changes. -/
def Obligations.LoadCommands : Prop :=
  ∀ (w : Route) (v : Nat) (s : State),
    (accepts w .LOAD_GO 0 1 s = true →
      ((s.load.active = true ∨ s.load.goldenWait = true) → exec (.loadGo w 1) s = refused w 6 s) ∧
      (s.load.active = false → s.load.goldenWait = false →
        ∃ t, exec (.loadGo w 1) s = performed w t ∧ t.load.active = true ∧ t.load.golden = false ∧ t.load.stream = [] ∧
          t.load.source = s.rget .LOAD_SRC ∧ t.load.startedIn = s.dev ∧ t.rget .LOAD_STATE = 1 ∧
          t.rget .LOAD_REASON = 0 ∧ t.rget .LOAD_DETAIL = 0 ∧ t.rget .LOAD_BYTES = 0 ∧
          t.dev = (if s.dev = .idle ∨ s.dev = .safe then .loading else s.dev) ∧
          t.planes = s.planes ∧ t.frames = s.frames ∧ t.cells = s.cells ∧ t.dists = s.dists)) ∧
    (accepts w .LOAD_ABORT 0 1 s = true →
      (s.load.active = false → s.load.goldenWait = false → exec (.loadAbort w 1) s = performed w s) ∧
      (s.load.active = false → s.load.goldenWait = true → s.loadsGlobal = true →
        ∃ t, exec (.loadAbort w 1) s = performed w t ∧ t.load.goldenWait = false ∧ t.dev = .safe ∧ t.rget .SAFE_CAUSE = 3 ∧
          t.cells = s.cells) ∧
      (s.load.active = true → ∃ t, exec (.loadAbort w 1) s = performed w t ∧ t.load.active = false ∧
        t.rget .LOAD_STATE = 6 ∧ t.cells = s.cells ∧ (s.load.golden = false → t.rget .LOAD_REASON = 9) ∧
        (s.loadsGlobal = true → t.dev = .safe ∧ t.rget .SAFE_CAUSE = 3) ∧
        (s.loadsGlobal = false → t.dev = s.dev))) ∧
    (accepts w .LOAD_SRC 0 v s = true → Stored w .LOAD_SRC 0 v s (exec (.loadSrcWrite w v) s))

/-- Stream bytes that no load awaits change nothing; the first bytes of a load from a source other than flash are kept and
counted in LOAD_BYTES while they are fewer than 8, and end a partial load with NO_SYNC when its first 8 bytes are not SYNC.
A frame that waits in a load is written with its 256 bytes under fresh check bits and tag, and the next one waits; one whose
tag does not compare, read back after it was written twice, ends a partial load with reason 2. A timeout ends a partial load
with reason 7, and the wait of a listener that judges a stream past its time in SAFE with cause 2; with neither it changes
nothing. No bank word changes. -/
def Obligations.LoadProgress : Prop :=
  ∀ (bs : Bytes) (s : State),
    (s.load.active = false → s.load.goldenWait = false → exec (.loadStreamData bs) s = .next s) ∧
    (s.load.active = true → s.load.goldenWait = false → s.load.synced = false → s.load.headed = false →
      s.load.tabled = false → 2 ≤ s.load.source → s.load.stream = [] →
        (bs.length < 8 → ∃ t, exec (.loadStreamData bs) s = .next t ∧ t.load = { s.load with stream := bs } ∧
          t.rget .LOAD_BYTES = s.load.hunted + bs.length ∧ { t with load := s.load, regs := s.regs } = s) ∧
        (8 ≤ bs.length → bs.take 8 ≠ syncBytes → s.loadsGlobal = false → s.load.golden = false →
          ∃ t, exec (.loadStreamData bs) s = .next t ∧ t.load.active = false ∧ t.rget .LOAD_STATE = 6 ∧
            t.rget .LOAD_REASON = 3 ∧ t.dev = s.dev ∧ t.cells = s.cells)) ∧
    (∀ j, s.load.active = true → s.load.frames = [j] → 0 < j.next → j.next + 1 < 4800 →
      mfind s.scr.damage (frameKey j.plane j.next) = none → exec .loadFrameWrite s = .next
        ((writeFrame j.plane j.next (BitVec.ofNat 2048 (leVal (j.data.take 256))) s).setLoad
          { s.load with frames := [{ j with next := j.next + 1, data := j.data.drop 256 }] })) ∧
    (∀ j, s.load.active = true → s.load.frames = [j] → 0 < j.next → s.loadsGlobal = false → s.load.golden = false →
      (writeVerified j.plane j.next (BitVec.ofNat 2048 (leVal (j.data.take 256))) s).1 = false →
        ∃ t, exec .loadFrameWrite s = .next t ∧ t.load.active = false ∧ t.rget .LOAD_STATE = 6 ∧ t.rget .LOAD_REASON = 2 ∧
          t.dev = s.dev ∧ t.cells = s.cells) ∧
    (s.load.active = false ∨ s.load.frames = [] → exec .loadFrameWrite s = .next s) ∧
    (s.load.active = true → s.loadsGlobal = false → s.load.golden = false →
      ∃ t, exec .loadTimeout s = .next t ∧ t.load.active = false ∧ t.rget .LOAD_STATE = 6 ∧ t.rget .LOAD_REASON = 7 ∧
        t.dev = s.dev ∧ t.cells = s.cells) ∧
    (s.load.active = false → s.load.goldenWait = true → s.load.waitLeft ≠ none →
      ∃ t, exec .loadTimeout s = .next t ∧ t.dev = .safe ∧ t.rget .SAFE_CAUSE = 2 ∧ t.load.goldenWait = false ∧ t.cells = s.cells) ∧
    (s.load.active = false → s.load.goldenWait = false ∨ s.load.waitLeft = none → exec .loadTimeout s = .next s)

/-- With every section read and every frame written, a load that passes its checks ends with LOAD_STATE 5, a global one in
ARMED with IMAGE_AR and the image's identity as its header gives them; a partial load that a check fails ends with
LOAD_STATE 6 and the check's reason and detail, the device state as it was. Before that nothing happens. A listener that
waited for a golden stream in vain enters SAFE with cause 2; where the first byte of a stream has come, the end of the wait
is only noted, with the bytes that came before it. No bank word changes in a failure. An accepted AR_ADVANCE to a value not
above AR_COUNTER is refused with 0x04 and one that the keeper takes leaves AR_COUNTER at the value written. Revoking a slot
that is revoked already succeeds with no effect; revoking the last valid slot, or with a keeper that cannot be read, is
refused with 0x06, and one whose sectors are worn with 0x07; any other slot becomes revoked and every other slot is as
before. -/
def Obligations.LoadEnds : Prop :=
  (∀ (s : State),
    (s.load.active = true → s.load.tabled = true → s.load.table.length ≤ s.load.done → s.load.frames = [] →
      (∀ t led, s.judgeLoad = .ok (t, led) → t.scheduledUnderTest s.loadedNow = false →
        ∃ u, exec .loadAccept s = .next u ∧ u.rget .LOAD_STATE = 5 ∧ u.load.active = false ∧
          (s.load.global = true → u.dev = .armed ∧ u.rget .IMAGE_AR = hdrVersion s.load.stream ∧
            u.load.imageId = hdrId s.load.stream ∧ u.rget .SAFE_CAUSE = 0)) ∧
      (∀ f x, s.judgeLoad = .error (f, x) → s.loadsGlobal = false → s.load.golden = false →
        ∃ u, exec .loadAccept s = .next u ∧ u.rget .LOAD_STATE = 6 ∧ u.load.active = false ∧
          u.rget .LOAD_REASON = f.reason ∧ u.rget .LOAD_DETAIL = f.detail ∧ u.dev = s.dev ∧ u.cells = s.cells)) ∧
    (s.load.active = false ∨ s.load.tabled = false ∨ s.load.done < s.load.table.length →
      exec .loadAccept s = .next s) ∧
    (s.load.goldenWait = true → s.load.waitLeft = none → s.load.stream ≠ [] →
      exec .listenerGoldenWaitEnd s = .next (s.setLoad { s.load with waitLeft := some s.load.stream.length })) ∧
    (s.load.goldenWait = true → s.load.waitLeft = none → s.load.stream = [] → ∃ u, exec .listenerGoldenWaitEnd s = .next u ∧ u.dev = .safe ∧
      u.rget .SAFE_CAUSE = 2 ∧ u.load.goldenWait = false ∧ u.cells = s.cells) ∧
    (s.load.goldenWait = false ∨ s.load.waitLeft ≠ none → exec .listenerGoldenWaitEnd s = .next s)) ∧
  (∀ (w : Route) (v : Nat) (s : State),
    (accepts w .AR_ADVANCE 0 v s = true → s.keeper.dead.contains 0 = false →
      (v ≤ s.rget .AR_COUNTER → exec (.arAdvance w v) s = refused w 4 s) ∧
      (∀ t, s.rget .AR_COUNTER < v → writeCounter 0 2 v s = .ok t →
        exec (.arAdvance w v) s = performed w (t.rset .AR_COUNTER 0 v)) ∧
      (s.rget .AR_COUNTER < v → s.keeper.failed = false → (∀ k, s.worn k = false) →
        ∃ t, exec (.arAdvance w v) s = performed w t ∧ t.rget .AR_COUNTER = v ∧ t.cells = s.cells)) ∧
    (accepts w .KEY_REVOKE 0 v s = true →
      (s.slotRevoked v = true → exec (.keyRevoke w v) s = performed w s) ∧
      (s.slotRevoked v = false → s.keeper.failed = true ∨ s.validSlots = [v] → exec (.keyRevoke w v) s = refused w 6 s) ∧
      (s.slotRevoked v = false → s.keeper.failed = false → s.validSlots ≠ [v] →
        ((∃ k ∈ keySectors v, s.worn k = true) → exec (.keyRevoke w v) s = refused w 7 s) ∧
        ((∀ k ∈ keySectors v, s.worn k = false) →
          ∃ t, exec (.keyRevoke w v) s = performed w t ∧ t.slotRevoked v = true ∧
            (∀ j, j ≠ v → t.slotRevoked j = s.slotRevoked j) ∧ t.keeper.aes = s.keeper.aes ∧ t.cells = s.cells ∧
            t.planes = s.planes ∧ t.dev = s.dev ∧ t.tb = s.tb))))

/-- An Inner Port in a clocked District answers RANGE for a plane of a District that it does not host or a frame above
4,799, and changes nothing else. A frame write that nothing refuses is answered OK and leaves the frame with the data under
fresh check bits and tag; a read of an undamaged frame is answered OK with its data and changes nothing else; a partial
write of one beat merges the masked bits into an undamaged frame. A frame write of other beats than 0 to 15 in order, a read
of more than one, a partial mask over more than one, and the reserved operations are answered MALFORMED. A port of an
unclocked District, or one whose SEAL waits, does nothing. The frame is one whose cells hold what is written (log entry
171). Accepted writes of IP_HOST (a District or 0xFF) and TICKET_QUERY store the value and change nothing else. SEAL of a
plane that passes its checks leaves it LOADED and answers OK; one that fails answers SEAL_FAIL, shows the failure and leaves
every plane as it was; a plane the port does not write answers SEAL_FAIL, and a SEAL of more than one beat MALFORMED. A
stream beat without a load from source 4 is answered NO_STREAM; with one it is answered OK, and its 16 bytes join the
stream, of which nothing more is judged before the header is whole. -/
def Obligations.InnerPorts : Prop :=
  (∀ (d p f : Nat) (b : IpBeats) (data mask : FrameBits) (s : State),
    (s.ipReady d = true → s.ipReaches d p f = false →
      (frameBeats b = true → exec (.ipFrameWrite d p f b) s = .next (ipAnswer d 2 0 0 s)) ∧
      exec (.ipFrameRead d p { number := f, beats := 1 }) s = .next (ipAnswer d 2 0 0 s)) ∧
    (s.ipReady d = true → s.ipRefusal d p f true = none → mfind s.scr.damage (frameKey p f) = none →
      (frameBeats b = true → ∃ t, exec (.ipFrameWrite d p f b) s = .next t ∧ t.frame p f = makeFrame p f (beatsData b) ∧
        (t.plane p).state = (if s.ipWrites p then (s.plane p).state else 1) ∧
        mget t.load.ipOut d { status := 9, ticket := 0, data := 0 } = { status := 0, ticket := 0, data := 0 } ∧
        (∀ k, k ≠ frameKey p f → mfind t.frames k = mfind s.frames k) ∧ t.cells = s.cells) ∧
      (∀ v, oneBeat mask = true → s.portRead p f = .good v →
        ∃ t, exec (.ipPartial d p f mask data) s = .next t ∧ t.frame p f = makeFrame p f (mergeFrame v mask data) ∧
          (∀ k, k ≠ frameKey p f → mfind t.frames k = mfind s.frames k) ∧ t.cells = s.cells)) ∧
    (s.ipReady d = true → ∀ v, s.ipRefusal d p f false = none → s.portRead p f = .good v →
      exec (.ipFrameRead d p { number := f, beats := 1 }) s = .next (ipAnswer d 0 0 v s)) ∧
    (s.ipReady d = true → frameBeats b = false → exec (.ipFrameWrite d p f b) s = .next (ipAnswer d 8 0 0 s)) ∧
    (s.ipReady d = true → ∀ n, n ≠ 1 →
      exec (.ipFrameRead d p { number := f, beats := n }) s = .next (ipAnswer d 8 0 0 s)) ∧
    (s.ipReady d = true → oneBeat mask = false → exec (.ipPartial d p f mask data) s = .next (ipAnswer d 8 0 0 s)) ∧
    (s.ipReady d = true → ∀ op, 5 ≤ op → op ≤ 7 → exec (.ipReservedOp d op) s = .next (ipAnswer d 8 0 0 s)) ∧
    (s.ipReady d = false → exec (.ipFrameWrite d p f b) s = .next s ∧
      (∀ n, exec (.ipFrameRead d p { number := f, beats := n }) s = .next s) ∧ exec (.ipPartial d p f mask data) s = .next s)) ∧
  (∀ (w : Route) (d p v : Nat) (s : State),
    (accepts w .IP_HOST d v s = true → (v ≤ 127 ∨ v = 0xFF) → Stored w .IP_HOST d v s (exec (.ipHostWrite w d v) s)) ∧
    (accepts w .TICKET_QUERY 0 v s = true → Stored w .TICKET_QUERY 0 v s (exec (.ticketQuery w v) s)) ∧
    (s.ipReady d = true → ∀ n, n ≠ 1 → exec (.ipSeal d { number := p, beats := n }) s = .next (ipAnswer d 8 0 0 s)) ∧
    (s.ipReady d = true → s.ipRefusal d p 0 false = none →
      (s.ipWrites p = false → exec (.ipSeal d { number := p, beats := 1 }) s = .next (ipAnswer d 6 0 0 s)) ∧
      (s.ipWrites p = true →
        let x := s.setPlane p { s.plane p with state := 2, user := s.userOf p }
        (∀ f, s.sealFault x p = some f →
          exec (.ipSeal d { number := p, beats := 1 }) s = .next (ipAnswer d 6 0 0 ((s.rset .LOAD_REASON 0 f.1).rset .LOAD_DETAIL 0 f.2))) ∧
        (s.sealFault x p = none → x.scheduledUnderTest [p] = false →
          ∃ t, exec (.ipSeal d { number := p, beats := 1 }) s = .next t ∧ (t.plane p).state = 2 ∧ (t.plane p).user = s.userOf p ∧
            t.frames = s.frames ∧ mget t.load.ipOut d { status := 9, ticket := 0, data := 0 } =
              { status := 0, ticket := 0, data := 0 }))) ∧
    (s.ipReady d = true → ∀ b, (s.load.active = false ∨ s.load.source ≠ 4) →
      exec (.ipStream d b) s = .next (ipAnswer d 7 0 0 s)) ∧
    (s.ipReady d = true → s.load.active = true → s.load.source = 4 → s.load.goldenWait = false → s.load.synced = true →
      s.load.headed = false → s.load.tabled = false → s.load.stream.length + 16 < headerLen → ∀ b : BitVec 128,
        ∃ t, exec (.ipStream d b) s = .next t ∧ t.load.stream = s.load.stream ++ leBytes 16 b.toNat ∧
          t.rget .LOAD_BYTES = s.load.hunted + s.load.stream.length + 16 ∧
          mget t.load.ipOut d { status := 9, ticket := 0, data := 0 } = { status := 0, ticket := 0, data := 0 } ∧
          { t with load := s.load, regs := s.regs } = s))

/-- A frame that the sweep reads CORRECTED, and that is CLEAN as corrected, is rewritten so under agreeing copies outside
check-only mode, with CS_CORRECTED one higher, and one read CLEAN is left; no other frame changes. A handed-over frame read
CLEAN finishes its ticket as repaired and counts in CS_RELOADED. A repair whose frame reads CLEAN writes nothing and
finishes; the write of a repair puts its data with fresh check bits and tag, and is done, and writes nothing in check-only
mode; a repair that is written ends with its ticket at 2 and shown as the last. The frame written is one whose cells hold
what is written (log entry 171). -/
def Obligations.SweepCorrects : Prop :=
  ∀ (q : Nat) (vote : CopyVote) (s : State),
    (s.memoryOn = true → s.scr.begun = true → s.paused q 1 = false → s.sweepDone q = false →
      let set := mget s.scr.sets q []
      let p := set.getD (mget s.scr.reads q 0 % set.length) 0
      let f := mget s.scr.reads q 0 / set.length
      s.loaded p = true →
      (classify p f (s.frame p f) = .clean → ∃ t, exec (.sweepFrameRead q vote) s = .next t ∧ t.frames = s.frames ∧
        t.cells = s.cells ∧ t.planes = s.planes) ∧
      (∀ x, classify p f (s.frame p f) = .corrected x → classify p f x = .clean → vote = .agree → s.scr.checkOnly = false →
        mfind s.scr.damage (frameKey p f) = none →
        ∃ t, exec (.sweepFrameRead q vote) s = .next t ∧ t.frame p f = x ∧
          (∀ k, k ≠ frameKey p f → mfind t.frames k = mfind s.frames k) ∧ t.planes = s.planes ∧ t.cells = s.cells ∧
          t.rget .CS_CORRECTED = Nat.min (s.rget .CS_CORRECTED + 1) 0xFFFFFFFF)) ∧
    (∀ p f n rest, s.scr.handed = (p, f, n) :: rest → (s.plane p).state = 2 ∨ (s.plane p).state = 3 →
      classify p f (s.frame p f) = .clean → s.ticketState n ≠ 0 →
        ∃ t, exec (.contentionFrameRead vote) s = .next t ∧ t.ticketState n = 2 ∧
          t.scr.handed = rest.filter (fun h => h.1 != p || h.2.1 != f) ∧ t.scr.lastTicket = n ∧
          t.rget .CS_RELOADED = Nat.min (s.rget .CS_RELOADED + 1) 0xFFFFFFFF ∧ t.frames = s.frames ∧ t.cells = s.cells) ∧
    (∀ e rest image, s.scr.busy = none → s.scr.queue = e :: rest → classify e.plane e.frame (s.frame e.plane e.frame) = .clean →
      ∃ t b, exec (.repairStart image) s = .next t ∧ t.scr.busy = some b ∧ b.entry = e ∧ b.written = true ∧ b.source = 0 ∧
        t.scr.queue = rest ∧ t.frames = s.frames ∧ t.cells = s.cells) ∧
    (∀ b, s.scr.busy = some b → b.written = false →
      (vote = .agree → s.scr.checkOnly = false → mfind s.scr.damage (frameKey b.entry.plane b.entry.frame) = none →
        ∃ t, exec (.repairFrameWrite vote) s = .next t ∧
        t.frame b.entry.plane b.entry.frame = makeFrame b.entry.plane b.entry.frame b.data ∧
        (∀ k, k ≠ frameKey b.entry.plane b.entry.frame → mfind t.frames k = mfind s.frames k) ∧
        t.scr.busy = some { b with written := true } ∧ t.cells = s.cells) ∧
      (s.scr.checkOnly = true → exec (.repairFrameWrite vote) s = .next (findTriple vote s))) ∧
    (∀ b, s.scr.busy = some b → b.written = true → s.ticketState b.entry.ticket ≠ 0 →
      ∃ t, exec .repairDone s = .next t ∧ t.scr.busy = none ∧ t.scr.lastTicket = b.entry.ticket ∧
        t.ticketState b.entry.ticket = 2 ∧ t.frames = s.frames ∧ t.cells = s.cells)

/-- An accepted CS_RESET leaves check-only mode and begins pass 0 anew, the repair queue as it was. A setting of the
scrubber, FR_BANKS within the banks after FR_FIRST, reads the value written once a sound keeper has taken it; a keeper that
cannot be read refuses it with 0x06. FR_ENABLE of 1 is refused with 0x06 while a bank of the reserve does not suit;
FR_ENABLE of 0 is taken. With no slot to fill, a filling step does nothing; with one, of a loaded plane and the reserve in
force, it takes the next frame: a CLEAN one is recorded at the slot's free tail, which moves on by its record, one that is
not CLEAN only moves the filling on, the last ends it, and a CLEAN frame whose record has no room costs the plane its slot;
no frame of the configuration changes. The settings change no bank word. -/
def Obligations.ScrubSettings : Prop :=
  ∀ (w : Route) (v : Nat) (s : State),
    (accepts w .CS_RESET 0 1 s = true → ∃ t, exec (.csReset w 1) s = performed w t ∧ t.scr.checkOnly = false ∧
      t.scr.pass = 0 ∧ t.scr.reads = [] ∧ t.scr.queue = s.scr.queue ∧ t.scr.extra = s.scr.extra ∧ t.cells = s.cells ∧
      t.frames = s.frames) ∧
    (∀ e, accepts w (scrubSettingEl e) 0 v s = true → (e = .banks → v + s.rget .FR_FIRST ≤ 4096) →
      (s.keeper.failed = true → exec (.csSettingWrite w e v) s = refused w 6 s) ∧
      (s.keeper.failed = false → (∀ k, s.worn k = false) →
        ∃ t, exec (.csSettingWrite w e v) s = performed w t ∧ t.rget (scrubSettingEl e) = v ∧ t.cells = s.cells ∧
          t.frames = s.frames ∧ t.planes = s.planes)) ∧
    (accepts w .FR_ENABLE 0 1 s = true → (∃ i, i < s.rget .FR_BANKS ∧ s.reserveRefuses (s.rget .FR_FIRST + i) = true) →
      exec (.frEnableWrite w 1) s = refused w 6 s) ∧
    (accepts w .FR_ENABLE 0 v s = true → v = 0 ∨ (∀ i, i < s.rget .FR_BANKS → s.reserveRefuses (s.rget .FR_FIRST + i) = false) →
      s.keeper.failed = false → (∀ k, s.worn k = false) →
      ∃ t, exec (.frEnableWrite w v) s = performed w t ∧ t.rget .FR_ENABLE = v ∧ t.cells = s.cells ∧ t.frames = s.frames) ∧
    ((∀ p ∈ s.scr.filling, s.loaded p.1 = false) → exec .reserveFillFrame s = .next s) ∧
    (∀ p f rest, s.scr.filling = (p, f) :: rest → s.loaded p = true → s.votedSetting .FR_ENABLE = 1 → s.memoryOn = true →
      let tail := mget s.scr.tails p directoryLen
      let n := (makeRecord (frameData (s.frame p f))).1.length
      (s.readsBack p f = false ∨ tail + n ≤ s.slotSize →
        ∃ t, exec .reserveFillFrame s = .next t ∧ t.frames = s.frames ∧ t.scr.slots = s.scr.slots ∧
          t.scr.filling = (if 4800 ≤ f + 1 then mdel s.scr.filling p else mput s.scr.filling p (f + 1)) ∧
          t.scr.tails = (if s.readsBack p f then mput s.scr.tails p (tail + n) else s.scr.tails)) ∧
      (s.readsBack p f = true → s.slotSize < tail + n →
        ∃ t, exec .reserveFillFrame s = .next t ∧ t.frames = s.frames ∧ t.scr.slots = mdel s.scr.slots p ∧
          t.scr.filling = mdel s.scr.filling p))

/-- A listening target without an address drives its PID, BCR and DCR and takes the address assigned; one with an address
takes a new one; RSTDAA takes it away, and the Expert lock of controller 1 with it. A target reset discards an uncollected
response, keeps the address and leaves HDR modes. ENEC and DISEC set what they name; ENTAS has no effect; SETMWL and SETMRL
store values from 16 on and ignore smaller ones; ENTHDR0 enters HDR-DDR and the exit pattern ends HDR. A target that does
not listen drives nothing and keeps its state. -/
def Obligations.I3cBusCommands : Prop :=
  ∀ (n : Nat) (s : State),
    let drives (b : Option Bytes) (x : I3cTarget) : State := s.setI3c { x with out := b }
    (s.i3cListens = true →
      (s.rget .I3C_DA = 0 → addressOk n = true →
        exec (.entdaa n) s = .next ((drives (some (msBytes 6 s.i3cPid ++ [0x26, 0x00])) s.ctl.i3c).rset .I3C_DA 0 n)) ∧
      (s.rget .I3C_DA ≠ 0 → addressOk n = true →
        exec (.setnewda n) s = .next ((drives (some []) s.ctl.i3c).rset .I3C_DA 0 n)) ∧
      (∃ t, exec .rstdaa s = .next t ∧ t.rget .I3C_DA = 0 ∧ t.ctl.i3c.out = some [] ∧
        (s.rget .LOCK_OWNER = 1 → t.rget .LOCK_OWNER = 0) ∧ (s.rget .LOCK_OWNER ≠ 1 → t.rget .LOCK_OWNER = s.rget .LOCK_OWNER) ∧
        t.cells = s.cells) ∧
      (∃ t, exec (.rstact 0) s = .next t ∧ t.ctl.i3c.response = none ∧ t.ctl.i3c.ddr = false ∧
        t.rget .I3C_DA = s.rget .I3C_DA ∧ { t with ctl := s.ctl } = s) ∧
      (n ≠ 0 → exec (.rstact n) s = .next (drives (some []) s.ctl.i3c)) ∧
      (∃ t, exec (.enec n) s = .next t ∧ { t with ctl := s.ctl } = s ∧
        t.ctl.i3c.intEnabled = (bitOf n 0 || s.ctl.i3c.intEnabled) ∧
        t.ctl.i3c.hotJoinEnabled = (bitOf n 3 || s.ctl.i3c.hotJoinEnabled)) ∧
      (∃ t, exec (.disec n) s = .next t ∧ { t with ctl := s.ctl } = s ∧
        t.ctl.i3c.intEnabled = (!bitOf n 0 && s.ctl.i3c.intEnabled) ∧
        t.ctl.i3c.hotJoinEnabled = (!bitOf n 3 && s.ctl.i3c.hotJoinEnabled)) ∧
      (n ≤ 3 → exec (.entas n) s = .next (drives (some []) s.ctl.i3c)) ∧
      (16 ≤ n → n < 65536 → exec (.setmwl n) s = .next (drives (some []) { s.ctl.i3c with mwl := n }) ∧
        exec (.setmrl n) s = .next (drives (some []) { s.ctl.i3c with mrl := n })) ∧
      (n < 16 → exec (.setmwl n) s = .next (drives (some []) s.ctl.i3c) ∧
        exec (.setmrl n) s = .next (drives (some []) s.ctl.i3c)) ∧
      exec .enthdr0 s = .next (drives (some []) { s.ctl.i3c with ddr := true })) ∧
    (∃ t, exec .targetResetPattern s = .next t ∧ t.ctl.i3c.response = none ∧ t.ctl.i3c.ddr = false ∧ t.ctl.i3c.deaf = false ∧
      { t with ctl := s.ctl } = s) ∧
    exec .hdrExitPattern s = .next (s.setI3c { s.ctl.i3c with ddr := false, deaf := false }) ∧
    (s.i3cListens = false → ∀ i ∈ [Instr.entdaa n, .setnewda n, .rstdaa, .rstact n, .enec n, .disec n, .entas n, .setmwl n,
      .setmrl n, .enthdr0], exec i s = .next (drives none s.ctl.i3c))

/-- An addressed target that holds neither a request nor a response takes a private write: its request waits behind every
other. A private read drives the response held, up to the read length, and consumes it when its last byte is driven. HDR-DDR
transfers do the same, under command codes 0x20 and 0xA0 alone. GETPID, GETBCR, GETDCR, GETMWL and GETMRL drive their
values, GETSTATUS, GETMXDS and GETCAPS drive a value that the spec leaves open (log entry 8), and none changes anything else
but the count of free values; an unsupported code is not acknowledged, and ENTHDR1 to ENTHDR7 are sat out. A Hot-Join is
counted where one may be raised; an acknowledged interrupt is sent and no longer pending. -/
def Obligations.I3cTransfers : Prop :=
  ∀ (bs : Bytes) (n : Nat) (s : State),
    let drives (b : Option Bytes) (x : I3cTarget) : State := s.setI3c { x with out := b }
    (s.i3cAddressed = true → s.i3cPending = none → s.ctl.i3c.response = none → s.ctl.waiting ≠ [] →
      (∀ r ∈ s.ctl.waiting, r.fault = 0) → bs ≠ [] →
        ∃ t, exec (.i3cPrivateWrite bs) s = .next t ∧ t.ctl.i3c.out = some [] ∧
          t.ctl.waiting = s.ctl.waiting ++ [heldOf .i3c 0 (wholeFault bs) bs] ∧ t.cells = s.cells) ∧
    (s.i3cAddressed = true → ∀ r, s.ctl.i3c.response = some r →
      (r.length ≤ n → n ≤ s.ctl.i3c.mrl →
        exec (.i3cPrivateRead n) s = .next (drives (some r) { s.ctl.i3c with response := none })) ∧
      (n < r.length → n ≤ s.ctl.i3c.mrl → exec (.i3cPrivateRead n) s = .next (drives (some (r.take n)) s.ctl.i3c))) ∧
    (s.inDdr = true → exec (.hdrDdrWrite 0x20 bs) s = .next (i3cDeliver bs s) ∧
      exec (.hdrDdrRead 0xA0 n) s = .next (i3cCollect n s) ∧
      (∀ c, c ≠ 0x20 → exec (.hdrDdrWrite c bs) s = .next (drives none s.ctl.i3c)) ∧
      (∀ c, c ≠ 0xA0 → exec (.hdrDdrRead c n) s = .next (drives none s.ctl.i3c))) ∧
    (s.i3cAddressed = true →
      exec .getpid s = .next (drives (some (msBytes 6 s.i3cPid)) s.ctl.i3c) ∧
      exec .getbcr s = .next (drives (some [0x26]) s.ctl.i3c) ∧ exec .getdcr s = .next (drives (some [0x00]) s.ctl.i3c) ∧
      exec .getmwl s = .next (drives (some (msBytes 2 s.ctl.i3c.mwl)) s.ctl.i3c) ∧
      exec .getmrl s = .next (drives (some (msBytes 2 s.ctl.i3c.mrl ++ [3])) s.ctl.i3c) ∧
      (∀ i ∈ [Instr.getstatus, .getmxds, .getcaps], ∃ t b, exec i s = .next t ∧ t.ctl.i3c.out = some b ∧
        t.fv = s.fv + 1 ∧ { t with ctl := s.ctl, fv := s.fv } = s)) ∧
    ((n < 0x21 ∨ 0x27 < n) → exec (.unsupportedCcc n) s = .next (drives none s.ctl.i3c)) ∧
    (0x21 ≤ n → n ≤ 0x27 → s.i3cListens = true →
      exec (.unsupportedCcc n) s = .next (drives none { s.ctl.i3c with deaf := true })) ∧
    (s.i3cListens = true → s.rget .I3C_DA = 0 → s.rflag .HJ_EN = true → s.ctl.i3c.hotJoinEnabled = true →
      exec .hotJoin s = .next (s.setI3c { s.ctl.i3c with hotJoins := s.ctl.i3c.hotJoins + 1 })) ∧
    (∀ p, s.ctl.i3c.ibis.find? (fun p => p.mdb == n) = some p → s.i3cAddressed = true → s.ctl.i3c.intEnabled = true →
      bitOf (s.rget .IBI_MASK) (n - 1) = true →
        exec (.ibiSend n true) s = .next (s.setI3c { s.ctl.i3c with
          ibis := s.ctl.i3c.ibis.filter (fun q => q.mdb != n), sent := some (p.mdb, p.first, p.second) }))

/-- A frame that comes while the port does not take part in the bus changes nothing; one that does not bear this device's
prefix and node is traffic on the bus alone (from which on the error counters are free, R352); one of this device that finds
a token, with fewer than 4 requests of its node unanswered, takes a token and waits behind every other request. Bus-off
shows CAN_STATE 3 and releases an Expert lock that a CAN node holds and no other; recovery is counted in CAN_BUS_OFF and
shows CAN_STATE 1 with both error counters at 0. An accepted EXPERT_LOCK of 1 gives the lock to its sender and changes
nothing else; the holder's 0 releases it, a 0 of one that does not hold it has no effect. A timeout and an accepted
LOCK_BREAK of 1 release it whoever holds it, LOCK_BREAK also where the lock is another's. An accepted ALERT_ACK of 1 clears
ALERT_PENDING. -/
def Obligations.CanAndLocks : Prop :=
  (∀ (id : Nat) (bs : Bytes) (s : State),
    let onBus (b : Bool) (t : State) : State := t.setCtl { t.ctl with can := { t.ctl.can with traffic := b } }
    (s.canOn = false → exec (.canFrame id bs) s = .next s) ∧
    (s.canOn = true → s.canOurs id = false → exec (.canFrame id bs) s = .next (onBus true s)) ∧
    (s.canOn = true → s.canOurs id = true → bs ≠ [] → bs.length = canLength bs.length →
      s.canHeld (bitsOf id 14 8) < 4 → (refillTokens s).ctl.can.tokens ≠ 0 → s.ctl.waiting ≠ [] →
      (∀ r ∈ s.ctl.waiting, r.fault = 0) →
        ∃ t, exec (.canFrame id bs) s = .next t ∧ t.ctl.can.tokens = (refillTokens s).ctl.can.tokens - 1 ∧
          t.ctl.waiting = s.ctl.waiting ++ [heldOf (.can (bitsOf id 14 8)) id (leadFault false bs) bs] ∧ t.cells = s.cells) ∧
    (s.canOn = true → ∃ t, exec .canBusOff s = .next t ∧ t.rget .CAN_STATE = 3 ∧
      t.rget .CAN_BUS_OFF = s.rget .CAN_BUS_OFF ∧
      t.rget .LOCK_OWNER = (if 0x80 ≤ s.rget .LOCK_OWNER then 0 else s.rget .LOCK_OWNER) ∧ t.cells = s.cells) ∧
    (s.rget .CAN_STATE = 3 → ∃ t, exec .canBusOffRecovery s = .next t ∧ t.rget .CAN_STATE = 1 ∧ t.rget .CAN_TEC_REC = 0 ∧
      t.rget .CAN_BUS_OFF = Nat.min (s.rget .CAN_BUS_OFF + 1) (El.CAN_BUS_OFF.modulus - 1) ∧
      { t with regs := s.regs } = onBus false s)) ∧
  (∀ (w : Route) (s : State),
    (accepts w .EXPERT_LOCK 0 1 s = true → Stored w .LOCK_OWNER 0 (controllerOf w) s (exec (.expertLock w 1) s)) ∧
    (accepts w .EXPERT_LOCK 0 0 s = true →
      (s.rget .LOCK_OWNER = controllerOf w → ∃ t, exec (.expertLock w 0) s = performed w t ∧ t.rget .LOCK_OWNER = 0 ∧
        t.cells = s.cells ∧ t.dists = s.dists) ∧
      (s.rget .LOCK_OWNER ≠ controllerOf w → exec (.expertLock w 0) s = performed w s)) ∧
    (∃ t, exec .lockTimeout s = .next t ∧ t.rget .LOCK_OWNER = 0 ∧ { t with regs := s.regs, recorder := s.recorder } = s) ∧
    (accepts w .LOCK_BREAK 0 1 s = true → ∃ t, exec (.lockBreak w 1) s = performed w t ∧ t.rget .LOCK_OWNER = 0 ∧
      { t with regs := s.regs, recorder := s.recorder } = s) ∧
    (accepts w .ALERT_ACK 0 1 s = true → Stored w .ALERT_PENDING 0 0 s (exec (.alertAck w 1) s)))

/-- Where no request waits, a heard controller's NOP is answered OK and changes nothing; a READ or a WRITE of an identifier
that names no element is answered 0x01 and changes nothing; a READ of an element that may be read is answered OK with its
value; a WRITE of an element of fixed size with as many bytes is judged, and takes effect, as the element's handler says.
DICT_WRITE is judged in the same way. A request while an older one of another route waits is not performed; the oldest that
waits is, and leaves the line. A request to a vendor area is answered 0x01, as if the area did not exist, except from
controller 0x03 in BLANK or RETURNED, where it is performed: it is answered with a status and bytes that are free, the
entries not being published, and the model changes nothing else (log entry 142). -/
def Obligations.SusisRequests : Prop :=
  ∀ (w : Route) (eid : Nat) (bs : Bytes) (s : State), w ≠ .loader → heard s w = true →
    (s.ctl.waiting = [] →
      exec (.susisNop w) s = performed w s ∧
      (vendorOpen s w eid = false →
        (elOf eid = none → (∀ n, exec (.susisRead w eid n) s = refused w 1 s) ∧ exec (.susisWrite w eid bs) s = refused w 1 s) ∧
        (∀ e u, elOf eid = some (e, u) → e ≠ .DP_DATA → e.info.acc ≠ .wo →
          exec (.susisRead w eid 0) s =
            .next (answerTo w 0 (readElement w e u 0 s).1 (readElement w e u 0 s).2)) ∧
        (∀ e u v, elOf eid = some (e, u) → e.info.blob = false → e ≠ .LC_REQUEST → v < e.modulus →
          exec (.susisWrite w eid (leBytes e.info.size v)) s = write w e u v (handlerOf w e u) s))) ∧
    (∀ h rest, s.ctl.waiting = h :: rest → h.route ≠ w →
      exec (.susisNop w) s = .next s ∧ (∀ n, exec (.susisRead w eid n) s = .next s) ∧ exec (.susisWrite w eid bs) s = .next s ∧
      exec (.dictWrite w eid bs) s = .next s ∧ (∀ b, exec (.vendorRequest w eid b bs) s = .next s)) ∧
    (∀ h, s.ctl.waiting = [h] → h.route = w → h.fault = 0 → susisOp h.opcode = 0 →
      ∃ t, exec (.susisNop w) s = .next t ∧ t.ctl.waiting = [] ∧
        t.ctl.answer = { controller := controllerOf w, status := 0, data := [] } ∧ t.regs = s.regs ∧ t.cells = s.cells) ∧
    (s.ctl.waiting = [] → vendorOpen s w eid = false →
      (elOf eid = none → exec (.dictWrite w eid bs) s = refused w 1 s) ∧
      (∀ e u v, elOf eid = some (e, u) → e.info.blob = false → e ≠ .LC_REQUEST → v < e.modulus →
        exec (.dictWrite w eid (leBytes e.info.size v)) s = write w e u v (handlerOf w e u) s)) ∧
    (s.ctl.waiting = [] → vendorArea eid = true → eid < 2 ^ 24 → ∀ b,
      (vendorOpen s w eid = false → exec (.vendorRequest w eid b bs) s = refused w 1 s) ∧
      (vendorOpen s w eid = true → ∃ t, exec (.vendorRequest w eid b bs) s = .next t ∧
        t.ctl.answer.controller = controllerOf w ∧ t.fv = s.fv + 1 ∧
        { t with fv := s.fv, ctl := { t.ctl with answer := s.ctl.answer } } = s))

/-- An accepted binding stores it with DP_ADDR, DATA_ERR and OVERRUN at 0; the loader may be bound by one port alone, and a
second binding is refused with 0x06. Where no request waits, a transfer that the binding, its length, its place or the
device state does not admit is refused in the order of the aborts with no byte moved, and a write so refused clears OVERRUN.
A read of the recorder or of a capture image is answered with its bytes and moves DP_ADDR on by as many; a write of a
District's capture or of the recorder is refused with 0x03. -/
def Obligations.DataPorts : Prop :=
  ∀ (w : Route) (n v : Nat) (bs : Bytes) (s : State),
    (accepts w .DP_BIND n v s = true →
      ((v = 1 ∧ ∃ m, m < 8 ∧ m ≠ n ∧ s.rget .DP_BIND m = 1) → exec (.dpBindWrite w n v) s = refused w 6 s) ∧
      ((v ≠ 1 ∨ ∀ m, m < 8 → m ≠ n → s.rget .DP_BIND m ≠ 1) →
        ∃ t, exec (.dpBindWrite w n v) s = performed w t ∧ t.rget .DP_BIND n = v ∧ t.rget .DP_ADDR n = 0 ∧
          t.rget .DP_STATUS n = 0 ∧ { t with regs := s.regs, ctl := s.ctl } = s)) ∧
    (heard s w = true → s.ctl.waiting = [] →
      (∀ c, s.dpRefusal w n bs.length true = some c →
        (n < 8 → exec (.dpDataWrite w n bs) s =
          .next (answerTo w c [] (refusedWith w (eidOf .DP_DATA n) c (s.rset .DP_STATUS n (s.rget .DP_STATUS n % 4))))) ∧
        (8 ≤ n → exec (.dpDataWrite w n bs) s = .next (answerTo w c [] (refusedWith w (eidOf .DP_DATA n) c s)))) ∧
      (∀ c, s.dpRefusal w n v false = some c →
        exec (.dpDataRead w n v) s = .next (answerTo w c [] (refusedWith w (eidOf .DP_DATA n) c s))) ∧
      (s.dpRefusal w n bs.length true = none → s.rget .DP_BIND n = 5 →
        ∃ t, exec (.dpDataWrite w n bs) s = performed w t ∧ t.rget .DP_ADDR n = s.rget .DP_ADDR n + bs.length) ∧
      (s.dpRefusal w n v false = none → s.rget .DP_BIND n = 3 →
        exec (.dpDataRead w n v) s = .next (answerTo w 0
          (imageBytes (s.flop (captureKey (s.rget .DP_TARGET n))) (s.rget .DP_ADDR n) v)
          (s.rset .DP_ADDR n (s.rget .DP_ADDR n + v)))) ∧
      (s.rget .DP_BIND n ∈ [3, 4, 6] → n < El.DP_DATA.info.cnt → El.DP_DATA.info.rights ≤ rightsOf s w →
        exec (.dpDataWrite w n bs) s = refused w 3 (s.rset .DP_STATUS n (s.rget .DP_STATUS n % 4))))

/-- With firmware running, a line of Ivtor raises source 6 and is answered by one line and the prompt: HELP, VER and STATUS
with their texts and nothing else changed, BAUD with one of its four rates in force, ECHO with the echo set; a rate or a
switch that is none of these, a number or an EID that does not parse, and a line of more than 255 characters are syntax
errors. FIELD and RETURNED deny READ, LOG, WRITE, LOCK and UNLOCK. Elsewhere LOG shows the records asked for, 16 where no
number is given. Where no request waits and the device state hears Ivtor, READ of an element that may be read is answered OK
with its value and leaves what the element's read leaves; WRITE of a value that the dictionary judges well takes the
element's effect and is answered OK; an EID that names no element is answered ERR 0x01; LOCK takes the Expert lock for
controller 2 where it is free and the rights suffice, as UNLOCK gives it up. While a request waits, READ's request waits
behind it. The forms of a number, an EID and a line's end are those of log entry 216. -/
def Obligations.IvtorReplies : Prop :=
  ∀ (arg val : Bytes) (s : State),
    s.run.running = true → s.run.entered = true → s.dev ≠ .powerOff → s.dev ≠ .reset →
    let x := latchIrq 6 s
    let after (r : IvtorReply) : State := latchIrq 6 (x.setIvtor { s.ctl.ivtor with reply := some r, sent := r.line })
    let replies (r : IvtorReply) : Host.Outcome State Fault Refusal := .next (after r)
    let shown (k : Nat) : IvtorReply := .ok (Config.ivtorLog ((lastOf k s.recorder.held).map Record.bytes))
    exec .ivtorHelp s = replies (.ok Config.ivtorHelp) ∧
    (∃ c, exec .ivtorVer s = replies (.ok c)) ∧ (∃ c, exec .ivtorStatus s = replies (.ok c)) ∧
    (∀ n ∈ [115200, 460800, 921600, 3000000], numberOf arg = some n → arg.length ≤ 250 →
      exec (.ivtorBaud arg) s = .next ((after (.ok [])).setIvtor { (after (.ok [])).ctl.ivtor with baud := n })) ∧
    ((∀ n ∈ [115200, 460800, 921600, 3000000], numberOf arg ≠ some n) ∨ 250 < arg.length →
      exec (.ivtorBaud arg) s = replies .syntaxError) ∧
    exec (.ivtorEcho [0x6F, 0x6E]) s = .next ((after (.ok [])).setIvtor { (after (.ok [])).ctl.ivtor with echo := true }) ∧
    exec (.ivtorEcho [0x6F, 0x66, 0x66]) s = .next ((after (.ok [])).setIvtor { (after (.ok [])).ctl.ivtor with echo := false }) ∧
    (arg ≠ [0x6F, 0x6E] → arg ≠ [0x6F, 0x66, 0x66] → exec (.ivtorEcho arg) s = replies .syntaxError) ∧
    (s.life = .field ∨ s.life = .returned →
      ∀ i ∈ [Instr.ivtorRead arg, .ivtorLog arg, .ivtorWrite arg val, .ivtorLock, .ivtorUnlock], exec i s = replies .denied) ∧
    (s.life ≠ .field → s.life ≠ .returned →
      exec (.ivtorLog []) s = replies (shown 16) ∧
      (∀ k, arg ≠ [] → numberOf arg = some k → arg.length ≤ 251 → exec (.ivtorLog arg) s = replies (shown k)) ∧
      (arg ≠ [] → numberOf arg = none → exec (.ivtorLog arg) s = replies .syntaxError) ∧
      (eidText arg = none → exec (.ivtorRead arg) s = replies .syntaxError ∧ exec (.ivtorWrite arg val) s = replies .syntaxError) ∧
      (248 < arg.length + val.length → exec (.ivtorWrite arg val) s = replies .syntaxError) ∧
      (∀ n, eidText arg = some n → s.ctl.waiting ≠ [] → (∀ r ∈ s.ctl.waiting, r.fault = 0) → s.dev ≠ .boot →
        exec (.ivtorRead arg) s =
          .next (x.setCtl { x.ctl with waiting := s.ctl.waiting ++ [asked .ivtor 1 n 0 []] })) ∧
      (s.ctl.waiting = [] → s.dev ≠ .boot →
        (∀ n, eidText arg = some n → elOf n = none →
          (∃ t, exec (.ivtorRead arg) s = .next t ∧ t.ctl.ivtor.reply = some (.err 1) ∧ t.regs = s.regs ∧ t.cells = s.cells) ∧
          (∀ bs, valueBytes n val = some bs → arg.length + val.length ≤ 248 →
            ∃ t, exec (.ivtorWrite arg val) s = .next t ∧ t.ctl.ivtor.reply = some (.err 1) ∧ t.regs = s.regs ∧
              t.cells = s.cells)) ∧
        (∀ n e u, eidText arg = some n → elOf n = some (e, u) → e ≠ .DP_DATA → e.info.acc ≠ .wo →
          let r := readElement .ivtor e u 0 x
          exec (.ivtorRead arg) s =
            .next (ivtorReply (.ok (if r.1 = [] then [] else Config.ivtorValue r.1)) (answerTo .ivtor 0 r.1 r.2))) ∧
        (∀ n e u bs y, eidText arg = some n → elOf n = some (e, u) → e.info.blob = false → e ≠ .LC_REQUEST →
          valueBytes n val = some bs → bs.length = e.info.size → arg.length + val.length ≤ 248 →
          judge .ivtor e u (some (leVal bs)) (handlerOf .ivtor e u) x = .ok y →
            (∃ t, exec (.ivtorWrite arg val) s = .next t ∧ t.regs = y.regs ∧ t.cells = y.cells ∧ t.dists = y.dists ∧
              t.planes = y.planes ∧ t.dev = y.dev ∧ t.tb = y.tb) ∧
            (y.ctl.waiting = [] → exec (.ivtorWrite arg val) s = .next (ivtorReply (.ok []) (answerTo .ivtor 0 [] y))))) ∧
      (accepts .ivtor .EXPERT_LOCK 0 1 s = true →
        ∃ t, exec .ivtorLock s = .next t ∧ t.ctl.ivtor.reply = some (.ok []) ∧ t.rget .LOCK_OWNER = 2 ∧ t.cells = s.cells) ∧
      (accepts .ivtor .EXPERT_LOCK 0 0 s = true →
        ∃ t, exec .ivtorUnlock s = .next t ∧ t.ctl.ivtor.reply = some (.ok []) ∧ t.rget .LOCK_OWNER ≠ 2 ∧ t.cells = s.cells))

/-- A core in its boot ROM enters the active slot's firmware where it passes, with its version shown and the watchdog at
stage 0, and stays in ROM service where neither slot passes; a core that does not run does nothing. A raw keeper write of a
firmware sector that is not worn is under way until it is done, and its sector then holds the data; any other sector, a
sector of a slot from the boot ROM or ROM service (log entry 201), and a keeper that cannot be read, is answered by status
alone. The firmware counter is raised to the running version and never lowered. A kick with its word restarts stage 0; stage
1 follows stage 0 when its time has passed, and its end resets the core with cause 1 and leaves the fabric; with time left
neither stage ends. What the core did before a store happens first (log entry 217). The words that the core stores are ones
that protection lets it store; each of these stores from user mode, or refused by protection, is a store access fault and
nothing else. -/
def Obligations.FirmwareAndWatchdog : Prop :=
  ∀ (w : Route) (v k : Nat) (x : BitVec 512) (m : Bool) (before : List CoreStep) (s : State),
    let u := coreDid before s
    let may (a : Nat) : Bool := u.coreMay m true a
    (s.run.running = true → s.run.entered = false → s.run.romService = false →
      (s.slotPasses s.activeSlot = true →
        ∃ t, exec .coreBoot s = .next t ∧ t.run.entered = true ∧ t.run.wdtRuns = true ∧ t.run.wdtStage = 0 ∧
          t.rget .FW_VERSION = fwField (s.keeperBytes (slotFirst s.activeSlot) 512) 4 4 ∧ t.cells = s.cells ∧
          t.dists = s.dists) ∧
      (s.slotPasses s.activeSlot = false → s.slotPasses (1 - s.activeSlot) = false →
        ∃ t, exec .coreBoot s = .next t ∧ t.run = { s.run with romService := true } ∧ t.cells = s.cells)) ∧
    (s.run.running = false → exec .coreBoot s = .next s) ∧
    (may 0xB0000060 = true → may 0xB0000064 = true → (∀ j, j < 16 → may (0xB0000100 + 4 * j) = true) →
      u.core.kwStatus ≠ 1 → k < 2 ^ 32 →
      (u.keeper.failed = true → ∃ t, exec (.kwGo k x ⟨m, 1, before⟩) s = .next t ∧ t.core.kwStatus = 5 ∧ t.keeper = u.keeper) ∧
      (u.keeper.failed = false → firmwareSector k = false ∨ slotSector k = true ∧ u.run.entered = false →
        ∃ t, exec (.kwGo k x ⟨m, 1, before⟩) s = .next t ∧ t.core.kwStatus = 4 ∧ t.keeper = u.keeper) ∧
      (u.keeper.failed = false → firmwareSector k = true → slotSector k = false ∨ u.run.entered = true → u.worn k = false →
        ∃ t, exec (.kwGo k x ⟨m, 1, before⟩) s = .next t ∧ t.core.kwStatus = 1 ∧ t.keeper.sectors = u.keeper.sectors ∧
          t.keeper.jobs = u.keeper.jobs ++ [.raw k x])) ∧
    (∀ rest, s.keeper.jobs = .raw k x :: rest → s.power.deferred = none →
      ∃ t, exec .keeperWriteDone s = .next t ∧ t.core.kwStatus = 2 ∧ mget t.keeper.sectors k 0 = x ∧
        (∀ j, j ≠ k → mfind t.keeper.sectors j = mfind s.keeper.sectors j) ∧ t.keeper.jobs = rest ∧
        bitOf t.core.irq 12 = true ∧ t.dev = s.dev) ∧
    (may 0xB000006C = true → u.run.fwAr ≤ u.keeper.fwCounter → exec (.fwCommit ⟨m, 1, before⟩) s = .next u) ∧
    (may 0xB000006C = true → u.keeper.fwCounter < u.run.fwAr → u.keeper.dead.contains 1 = false →
      u.keeper.failed = false → (∀ j, u.worn j = false) →
      ∃ t, exec (.fwCommit ⟨m, 1, before⟩) s = .next t ∧ t.keeper.fwCounter = u.run.fwAr ∧ t.cells = u.cells) ∧
    (may 0xB0000030 = true → u.run.wdtRuns = true → exec (.wdtKick ⟨m, 0xC1A5, before⟩) s =
      .next (u.setRun { u.run with wdtStage := 0, wdtLeft := 1000 * u.rget .WDT_TIMEOUT })) ∧
    (may 0xB0000030 = true → v ≠ 0xC1A5 → exec (.wdtKick ⟨m, v, before⟩) s = .next u) ∧
    (may 0xB0000060 = false → exec (.kwGo k x ⟨m, v, before⟩) s = .next (accessFault true 0xB0000060 u)) ∧
    (may 0xB000006C = false → exec (.fwCommit ⟨m, v, before⟩) s = .next (accessFault true 0xB000006C u)) ∧
    (may 0xB0000030 = false → exec (.wdtKick ⟨m, v, before⟩) s = .next (accessFault true 0xB0000030 u)) ∧
    (m = false → may 0xB0000060 = false ∧ may 0xB000006C = false ∧ may 0xB0000030 = false) ∧
    (accepts w .WDT_ENABLE 0 v s = true → s.keeper.failed = false → (∀ j, s.worn j = false) →
      ∃ t, exec (.wdtEnableWrite w v) s = performed w t ∧ t.rget .WDT_ENABLE = v ∧ (v = 1 → t.run.wdtStage = 0) ∧
        t.cells = s.cells) ∧
    (s.wdtCounts = true → s.run.wdtStage = 0 → s.run.wdtLeft = 0 → ∃ t, exec .wdtFirstExpiry s = .next t ∧ t.run.wdtStage = 1 ∧
      bitOf t.core.irq 8 = true ∧ t.regs = s.regs) ∧
    ((s.wdtCounts = false ∨ s.run.wdtLeft ≠ 0) → exec .wdtFirstExpiry s = .next s ∧ exec .wdtSecondExpiry s = .next s) ∧
    (s.wdtCounts = true → s.run.wdtStage = 1 → s.run.wdtLeft = 0 → ∃ t, exec .wdtSecondExpiry s = .next t ∧
      t.rget .CORE_RESET_CAUSE = 1 ∧ t.rget .WDT_RESETS = Nat.min (s.rget .WDT_RESETS + 1) (El.WDT_RESETS.modulus - 1) ∧
      t.run.entered = false ∧ t.dists = s.dists ∧ t.ports = s.ports ∧ t.cells = s.cells)

/-- The timer's expiry raises its interrupt; MSIP takes bit 0; a clear takes away the latched sources it names and no other.
A read of MEM_EVENT takes the oldest memory event, and of MEM_LOST the count, which clears, both judged as loads from
machine mode. A store of MSIP or of a clear from user mode, and each of the four that protection refuses, is an access fault
and nothing else. A request written to an idle window waits behind every other; a store to a busy window is a store access
fault. A row that does not end its fragment joins the staged rows; the row that ends it makes the fragment wait for its
queue, where the core produces for the queue; a row written while a fragment waits is a store access fault. A fragment that
fits in banks that are awake is pushed behind the queue's others, its rows left as they were where a write is dropped; a
presented row is taken; a queue that the core does not consume refuses a pop. The words that the core stores or loads are
ones that protection lets it reach, after what it did before (log entry 217). -/
def Obligations.CoreLocalBlock : Prop :=
  ∀ (n : Nat) (b m : Bool) (bs : Bytes) (row : BitVec 128) (before : List CoreStep) (s : State),
    let u := coreDid before s
    let stores (a : Nat) : Bool := u.coreMay m true a
    let loads (a : Nat) : Bool := u.coreMay m false a
    let reads (a : Nat) : Bool := s.coreMay true false a
    (∃ t, exec .mtimecmpExpiry s = .next t ∧ t.core.timerPending = true ∧ s.core.mtimecmp ≤ t.core.mtime ∧
      { t with core := s.core } = s) ∧
    (stores 0xB0000010 = true → exec (.msipWrite ⟨m, n, before⟩) s = .next (u.setCore { u.core with msip := bitOf n 0 })) ∧
    (stores 0xB0000048 = true → ∃ t, exec (.irqClear ⟨m, n, before⟩) s = .next t ∧ (∀ k, bitOf t.core.irq k = (bitOf u.core.irq k && !bitOf n k)) ∧
      { t with core := u.core } = u) ∧
    (∀ e rest, reads 0xB0000050 = true → s.core.memEvents = e :: rest → exec .memEventPop s =
      .next (s.ran.setCore { s.core with readOut := e.1 + e.2.1 * 2 ^ 12 + e.2.2 * 2 ^ 16, memEvents := rest })) ∧
    (reads 0xB0000054 = true →
      exec .memLostRead s = .next (s.ran.setCore { s.core with readOut := s.core.memLost, memLost := 0 })) ∧
    (stores 0xB0000010 = false → exec (.msipWrite ⟨m, n, before⟩) s = .next (accessFault true 0xB0000010 u)) ∧
    (stores 0xB0000048 = false → exec (.irqClear ⟨m, n, before⟩) s = .next (accessFault true 0xB0000048 u)) ∧
    (reads 0xB0000050 = false → exec .memEventPop s = .next (accessFault false 0xB0000050 s.ran)) ∧
    (reads 0xB0000054 = false → exec .memLostRead s = .next (accessFault false 0xB0000054 s.ran)) ∧
    (m = false → stores 0xB0000010 = false ∧ stores 0xB0000048 = false) ∧
    (heard s (windowRoute b) = true → (u.window b).status ≠ 1 → bs.length ≤ requestMost → u.ctl.waiting ≠ [] →
      (∀ r ∈ u.ctl.waiting, r.fault = 0) → stores (windowBase b + 0x2000) = true →
      (∀ j, 4 * j < bs.length → stores (windowBase b + 4 * j) = true) →
        ∃ t r, exec (.dqGo ⟨m, b, before⟩ bs) s = .next t ∧ t.ctl.waiting = u.ctl.waiting ++ [r] ∧ r.route = windowRoute b ∧
          (t.window b).status = 1 ∧ t.cells = u.cells) ∧
    (heard s (windowRoute b) = true → (u.window b).status = 1 → bs ≠ [] → bs.length ≤ 8192 →
      exec (.dqGo ⟨m, b, before⟩ bs) s = .next (accessFault true (windowBase b) u)) ∧
    (stores 0xA0000000 = true → stores 0xA0000004 = true → (∀ j, j < 4 → stores (0xA0000010 + 4 * j) = true) →
      u.mbox.waiting = false → u.mbox.dropping = false → u.mbox.staged.length < stagingRows →
      (∃ t, exec (.mailboxRowCommit ⟨m, n, before⟩ row false false) s = .next t ∧ t.mbox.staged = u.mbox.staged ++ [row] ∧
        t.mbox.waiting = false ∧ { t with mbox := u.mbox } = u) ∧
      (u.coreProduces n = true → u.mbox.staged.length + 1 ≤ u.queueRows n →
        ∃ t, exec (.mailboxRowCommit ⟨m, n, before⟩ row false true) s = .next t ∧ t.mbox.staged = u.mbox.staged ++ [row] ∧
          t.mbox.waiting = true ∧ t.mbox.pushTo = n ∧ { t with mbox := u.mbox } = u)) ∧
    (stores 0xA0000000 = true → stores 0xA0000004 = true → u.mbox.waiting = true →
      ∃ t, exec (.mailboxRowCommit ⟨m, n, before⟩ row false b) s = .next t ∧ t.run.trap = some (7, 0xA0000010) ∧
        t.mbox.staged = u.mbox.staged ∧ t.mbox.waiting = true ∧ { t with mbox := u.mbox, run := u.run } = u) ∧
    (s.mbox.waiting = false → exec .mailboxFragmentPush s = .next s) ∧
    (s.mbox.waiting = true → s.coreProduces s.mbox.pushTo = true →
      s.mbox.staged.length ≤ s.queueFree s.mbox.pushTo →
      let rows := (s.tailRows s.mbox.pushTo s.mbox.staged.length (s.rget .Q_TAIL s.mbox.pushTo)).1
      (rowsReady (s.qClass s.mbox.pushTo) rows s).1 = true →
        ∃ t, exec .mailboxFragmentPush s = .next t ∧ t.mbox.waiting = false ∧ t.mbox.staged = [] ∧
          (t.queue s.mbox.pushTo).frags = (s.queue s.mbox.pushTo).frags ++ [rows] ∧ t.ports = s.ports ∧ t.dev = s.dev) ∧
    (s.mbox.waiting = true → s.coreProduces s.mbox.pushTo = false →
      ∃ t, exec .mailboxFragmentPush s = .next t ∧ t.mbox.waiting = false ∧ t.mbox.staged = [] ∧ t.mbox.refused = true ∧
        t.cells = s.cells) ∧
    (∀ r q rest, loads 0xA000005C = true → u.coreConsumes n = true → u.mbox.popQid = n → u.mbox.shown = r :: q :: rest →
      ∃ t, exec (.mailboxPopAdvance ⟨m, n, before⟩) s = .next t ∧ t.mbox.taken = some r ∧ t.mbox.shown = q :: rest ∧
        { t with mbox := u.mbox } = u) ∧
    (∀ r, loads 0xA000005C = true → u.coreConsumes n = true → u.mbox.popQid = n → u.mbox.shown = [r] →
      ∃ t, exec (.mailboxPopAdvance ⟨m, n, before⟩) s = .next t ∧ t.mbox.taken = some r ∧ t.ports = u.ports ∧ t.dev = u.dev) ∧
    (stores 0xA0000040 = false → u.mbox.shown = [] →
      exec (.mailboxPopAdvance ⟨m, n, before⟩) s = .next (accessFault true 0xA0000040 u)) ∧
    (stores 0xA0000040 = true → loads 0xA000005C = true → u.coreConsumes n = false → u.mbox.popQid ≠ n →
      ∃ t, exec (.mailboxPopAdvance ⟨m, n, before⟩) s = .next t ∧ t.mbox.refused = true ∧ t.mbox.shown = [] ∧ t.cells = u.cells)

/-- The accesses that a command of the core carries are made in order on a core that runs, and none on one that does not
(log entry 217). A load or a store that protection, the map or its mode refuses is an access fault at its address, mcause 5
or 7, and nothing else: of an address that the map does not list, of a machine-only region from user mode, a store to boot
ROM or to the keeper window, and one in bank space at a bank of the enabled Vault. A load of the keeper window gives the
sector's word, 0 in the secret area, and a load access fault with KP_ERRORS counted of a sector that reads uncorrectable.
LR, SC and AMO are store/AMO access faults off data TCM, and in it LR takes a reservation and SC gives it up. A fetch that
may not be made is an instruction access fault. Machine mode writes the registers of protection, a locked entry as before; a
user task's CSR write is an exception. -/
def Obligations.CoreAccesses : Prop :=
  ∀ (m : Bool) (a v : Nat) (x : CoreStep) (xs : List CoreStep) (s : State),
    let did (y : CoreAccess) : State := coreDid [⟨m, y⟩] s
    (s.run.running = false → coreDid (x :: xs) s = s) ∧
    (s.run.running = true →
      coreDid (x :: xs) s = xs.foldl (fun t y => coreStep y t) (coreDid [x] s) ∧
      (s.coreMay m false a = false → did (.load a) = accessFault false a s.ran) ∧
      (s.coreMay m true a = false → did (.store a v) = accessFault true a s.ran) ∧
      (regionOf a = .none → did (.load a) = accessFault false a s.ran ∧ did (.store a v) = accessFault true a s.ran) ∧
      (m = false → regionOf a ∈ [Region.rom, .keeper, .vault, .coreLocal, .dictM] →
        did (.load a) = accessFault false a s.ran ∧ did (.store a v) = accessFault true a s.ran) ∧
      (regionOf a = .rom ∨ regionOf a = .keeper → did (.store a v) = accessFault true a s.ran) ∧
      (regionOf a = .bank → s.isVaultBank (bankAt a) = true →
        did (.load a) = accessFault false a s.ran ∧ did (.store a v) = accessFault true a s.ran) ∧
      (regionOf a = .keeper → s.coreMay m false a = true → s.keeper.failed = false →
        let n := (a - 0x80000000) / 64
        (secretSector n = true → did (.load a) = s.ran.setCore { s.core with readOut := 0 }) ∧
        (secretSector n = false → s.keeper.bad.contains n = false → did (.load a) =
          s.ran.setCore { s.core with readOut := wordOf (sectorBytes (mget s.keeper.sectors n 0)) (a % 64 / 4 * 4) % 2 ^ 32 }) ∧
        (secretSector n = false → s.keeper.bad.contains n = true →
          did (.load a) = accessFault false a (s.ran.rinc .KP_ERRORS))) ∧
      (isDataTcm a = false → ∀ y ∈ [CoreAccess.loadReserved a, .storeConditional a, .amo a], did y = accessFault true a s.ran) ∧
      (isDataTcm a = true → s.coreMay m false a = true →
        did (.loadReserved a) = s.ran.setRun { s.ran.run with reservation := true }) ∧
      (isDataTcm a = true → s.coreMay m true a = true →
        did (.storeConditional a) = s.ran.setRun { s.ran.run with reservation := false } ∧ did (.amo a) = s.ran) ∧
      (s.coreRuns m a = true → did (.fetch a) = s.ran) ∧ (s.coreRuns m a = false → did (.fetch a) = coreTrap 1 a s.ran) ∧
      (∀ i, i < 16 → m = true → (s.pmpEntry i).locked = false → (s.pmpEntry (i + 1)).locked = false →
        (did (.writeCsr (0x3B0 + i) v)).pmpEntry i = { s.pmpEntry i with addr := v } ∧
        ∀ j, j ≠ i → (did (.writeCsr (0x3B0 + i) v)).pmpEntry j = s.pmpEntry j) ∧
      (∀ i, i < 16 → m = true → (s.pmpEntry i).locked = true → did (.writeCsr (0x3B0 + i) v) = s.ran) ∧
      (m = false → s.run.deferred = none → ∃ z, (did (.writeCsr a v)).run.trap = some (2, z) ∧
        (did (.writeCsr a v)).run.pmp = s.run.pmp ∧ (did (.writeCsr a v)).cells = s.cells))

/-- The writer makes the oldest event of the intake a record with the next SEQ in a free slot, GEN of the slot one higher,
and SEQ moves on; with nothing in the intake it does nothing. An accepted REC_CLEAR leaves one record, of the clear,
REC_LOST 0 and SEQ moved on. A FATAL record that waits for its copy leaves the queue of copies, whatever the keeper does;
with none, and with no record held, nothing changes. The copy of the newest record, where it is behind, is written again
into its own sector a second or more after the last copy was written, and not sooner; source 12 is raised, and nothing else
changes then. No bank word changes. -/
def Obligations.RecordsAreKept : Prop :=
  ∀ (w : Route) (s : State),
    (s.recorder.intake = [] → exec .recordWrite s = .next s) ∧
    (∀ e rest, s.recorder.intake = e :: rest → s.recorder.lost = 0 → s.recorder.held.length < recordSlots →
      ∃ t r, exec .recordWrite s = .next t ∧ t.recorder.held = s.recorder.held ++ [r] ∧ r.ev = e ∧
        r.seq = s.recorder.seqNext ∧ r.slot = s.recorder.held.length ∧
        r.gen = (mget s.recorder.gens s.recorder.held.length 0 + 1) % 65536 ∧
        t.recorder.seqNext = s.recorder.seqNext + 1 ∧ t.recorder.intake = rest ∧ t.cells = s.cells ∧ t.dev = s.dev) ∧
    (accepts w .REC_CLEAR 0 1 s = true → ∃ t r, exec (.recClear w 1) s = performed w t ∧ t.recorder.held = [r] ∧
      r.ev.code = 0x4802 ∧ r.seq = s.recorder.seqNext ∧ t.recorder.seqNext = s.recorder.seqNext + 1 ∧
      t.rget .REC_LOST = 0 ∧ t.cells = s.cells) ∧
    (s.recorder.copies = [] → exec .persistCopy s = .next s) ∧
    (∀ r rest, s.recorder.copies = r :: rest → ∃ t, exec .persistCopy s = .next t ∧ t.recorder.copies = rest ∧
      (s.keeper.failed = true → t.keeper = s.keeper) ∧ t.cells = s.cells ∧ t.dev = s.dev) ∧
    (s.recorder.held = [] → exec .persistRefresh s = .next s) ∧
    (∀ r, s.recorder.held.getLast? = some r →
      (s.copyBehind r = false → exec .persistRefresh s = .next s) ∧
      (s.copyBehind r = true → s.us < s.recorder.refreshed + 1000000 → exec .persistRefresh s = .next s) ∧
      (s.copyBehind r = true → s.recorder.refreshed + 1000000 ≤ s.us → ∀ k, r.pseq ≠ 0 → s.fatalSector r.pseq = some k →
        s.wearOf k + 1 < ratedWrites → ∃ t, exec .persistRefresh s = .next t ∧
          mget t.keeper.sectors k 0 = sectorOf r.bytes ∧ (∀ j, j ≠ k → mfind t.keeper.sectors j = mfind s.keeper.sectors j) ∧
          { t with keeper := s.keeper, core := s.core, recorder := { t.recorder with refreshed := s.recorder.refreshed } } = s ∧
          bitOf t.core.irq 12 = true ∧
          t.recorder.refreshed = s.us))

/-- With JTAG open, an instruction comes into force, and the pins are taken exactly by EXTEST, EXTEST_PULSE, EXTEST_TRAIN,
CLAMP and HIGHZ; with JTAG closed, IDCODE and BYPASS come into force and any other acts as BYPASS. TAP logic reset selects
IDCODE. Nothing but the debug port and the pins changes. TRST_N leaves the debug port as a reset has it, with no debugger
attached. A TAP without supply does nothing. -/
def Obligations.JtagInstructions : Prop :=
  ∀ (s : State),
    let rows : List (Instr × JtagInstruction) := [(.extest, .extest), (.idcode, .idcode), (.samplePreload, .sample),
      (.extestPulse, .extestPulse), (.extestTrain, .extestTrain), (.clamp, .clamp), (.highz, .highz),
      (.dbgAccess, .dbgAccess), (.bypass, .bypass), (.tapLogicReset, .idcode)]
    (∀ c j, (c, j) ∈ rows → s.tapOn = true →
      ∃ t, exec c s = .next t ∧
        t.dbg.instruction = (if s.life = .blank ∨ s.life = .opened ∨ s.life = .returned ∨ j = .idcode then j else .bypass) ∧
        (t.pinsTaken = true ↔ t.dbg.instruction ∈ [JtagInstruction.extest, .extestPulse, .extestTrain, .clamp, .highz]) ∧
        (t.dbg.instruction = .idcode → t.dbg.idcode = some s.idcodeWord) ∧
        { t with dbg := s.dbg, pinsTaken := s.pinsTaken } = s) ∧
    (s.tapOn = true → ∃ t, exec .trstN s = .next t ∧ t.dbg = DebugPort.reset ∧ t.pinsTaken = false ∧
      t.rflag .DBG_ATTACHED = false ∧ t.cells = s.cells ∧ t.dists = s.dists) ∧
    (s.tapOn = false → exec .trstN s = .next s ∧ ∀ c j, (c, j) ∈ rows → exec c s = .next s)

/-- Under DBG_ACCESS with JTAG open, a transaction attaches the debugger and holds its status and data: a read of DCTRL or
of a TCM word of a halted core its value, a reserved operation, or one with its reserved bit set, ERROR, a write of CSR_SEL
the selection; one that meets the one before it RUNNING is not performed and captures DROPPED, the address and the data of
the one before still standing. A halt request halts a running core with cause 1, deferred inside a locked sequence until it
ends or its time runs out; resume runs it again; CUR, a core reset and DETACH act as their bits do; a disabled trigger takes
its address. A single step halts with cause 3, EBREAK of an attached debugger with cause 4, and of no debugger it takes the
breakpoint exception and the core goes on; an armed trigger that halts, met by an instruction or an access, with cause 2,
its hits counted. No bank word, District or port changes. -/
def Obligations.DebuggerTransactions : Prop :=
  ∀ (n : Nat) (r : DebugTransaction) (s : State),
    let same (t : State) : Prop := t.cells = s.cells ∧ t.dists = s.dists ∧ t.ports = s.ports ∧ t.dev = s.dev
    (s.tapOn = true → s.dbg.instruction = .dbgAccess → s.jtagOpen = true →
      exec .dbgNop s = .next (s.rset .DBG_ATTACHED 0 1) ∧
      (r.overlaps = true → ∀ i ∈ [Instr.dbgRead r, .dbgWrite r, .dbgReservedOp r], ∃ t, exec i s = .next t ∧ t.dbg.status = 5 ∧
        t.dbg.data = s.dbg.data ∧ t.dbg.addr = s.dbg.addr % 2 ^ 32 ∧ t.run = s.run ∧ same t) ∧
      (r.overlaps = false → r.reserved = true → ∀ i ∈ [Instr.dbgRead r, .dbgWrite r, .dbgReservedOp r],
        ∃ t, exec i s = .next t ∧ t.dbg.status = 2 ∧ t.dbg.addr = r.addr % 2 ^ 32 ∧ t.run = s.run ∧ same t) ∧
      (r.overlaps = false → r.reserved = false → r.space = 0 → r.addr = 0 → ∃ t, exec (.dbgRead r) s = .next t ∧ t.dbg.status = 0 ∧ t.dbg.data = s.dctrl ∧
        t.rflag .DBG_ATTACHED = true ∧ same t) ∧
      (∀ v, r.overlaps = false → r.reserved = false → r.space = 1 → isTcm (r.addr / 4 * 4) = true → r.addr < 2 ^ 32 → s.run.running = false →
        mfind s.run.tcm (r.addr / 4 * 4) = some v →
          ∃ t, exec (.dbgRead r) s = .next t ∧ t.dbg.status = 0 ∧ t.dbg.data = v % 2 ^ 32 ∧ t.run = s.run ∧ same t) ∧
      (r.overlaps = false → r.reserved = false → r.space = 0 → r.addr = 0x018 → r.data < 4096 → ∃ t, exec (.dbgWrite r) s = .next t ∧ t.dbg.status = 0 ∧
        t.dbg.csrSel = r.data ∧ same t) ∧
      (r.overlaps = false → ∃ t, exec (.dbgReservedOp r) s = .next t ∧ t.dbg.status = 2 ∧ t.rflag .DBG_ATTACHED = true ∧ t.run = s.run ∧ same t) ∧
      (s.run.running = true → ∃ t, exec (.haltReq false) s = .next t ∧ t.run.halted = true ∧ t.run.running = false ∧
        t.run.cause = 1 ∧ same t) ∧
      (s.run.running = true → s.run.deferred = none → ∃ t, exec (.haltReq true) s = .next t ∧
        t.run.deferred = some (1, 0) ∧ t.run.running = true ∧ same t) ∧
      (s.run.halted = true → s.run.held = false → ∃ t, exec .coreResume s = .next t ∧ t.run.running = true ∧
        t.run.halted = false ∧ same t) ∧
      (∀ b, ∃ t, exec (.curWrite b) s = .next t ∧ t.dbg.cur = b ∧ t.run = s.run ∧ same t) ∧
      (∃ t, exec .dbgCoreReset s = .next t ∧ t.rget .CORE_RESET_CAUSE = 3 ∧ t.run.entered = false ∧ same t) ∧
      (∃ t, exec .detach s = .next t ∧ t.rflag .DBG_ATTACHED = false ∧ t.dbg.cur = false ∧ t.run.halted = false ∧ same t) ∧
      (∀ v, n < 8 → v < 2 ^ 32 → (s.trigger n).enabled = false →
        ∃ t, exec (.triggerConfigWrite n .taddr v) s = .next t ∧ t.trigger n = { s.trigger n with addr := v } ∧
          t.dbg.status = 0 ∧ same t)) ∧
    (s.run.running = true →
      (s.run.stepping = true → ∃ t, exec (.stepHalt false) s = .next t ∧ t.run.halted = true ∧ t.run.cause = 3 ∧ same t) ∧
      (s.rflag .DBG_ATTACHED = true → ∃ t, exec (.ebreak false) s = .next t ∧ t.run.halted = true ∧ t.run.cause = 4 ∧ same t) ∧
      (∀ h, s.run.deferred = some h →
        (∃ t, exec .deferredHalt s = .next t ∧ t.run.halted = true ∧ t.run.cause = h.1 ∧ t.run.lockBroken = false ∧ same t) ∧
        (∃ t, exec .lockBrokenTimeout s = .next t ∧ t.run.halted = true ∧ t.run.cause = h.1 ∧ t.run.lockBroken = true ∧
          same t)) ∧
      (s.armed n = true → s.qualified (s.trigger n) = true → (s.trigger n).chains = false → (s.trigger n).halts = true →
        (n < 8 → ∃ t, exec (.codeBreakpointHit n false) s = .next t ∧ t.run.halted = true ∧ t.run.cause = 2 ∧
          t.run.trigger = n ∧ t.run.dpc = some (s.trigger n).addr ∧
          (t.trigger n).hits = Nat.min ((s.trigger n).hits + 1) 0xFFFFFFFF ∧ same t) ∧
        (8 ≤ n → n < 12 → bitOf (s.trigger n).access 1 = true → ∃ t, exec (.dataWatchpointHit n true false) s = .next t ∧
          t.run.halted = true ∧ t.run.cause = 2 ∧ t.run.trigger = n ∧
          (t.trigger n).hits = Nat.min ((s.trigger n).hits + 1) 0xFFFFFFFF ∧ same t))) ∧
    (s.run.running = true → s.rflag .DBG_ATTACHED = false → s.run.deferred = none → ∀ locked,
      ∃ t x, exec (.ebreak locked) s = .next t ∧ t.run = { s.run with trap := some (3, x) } ∧ t.regs = s.regs ∧ same t) ∧
    (s.run.running = false → ∀ locked, exec (.ebreak locked) s = .next s ∧ exec (.deferredHalt) s = .next s ∧
      exec .lockBrokenTimeout s = .next s)

/-- Where no request waits, a read of LC_CHALLENGE answers a new challenge, which is held; an accepted token of at most its
size is held. An accepted LC_REQUEST uses the token up; without a token that passes, where one is needed, it is refused with
0x09 and no change begins; a permitted one is in progress where a sound keeper takes its record. A change in progress that
erases nothing ends in its target. A key is installed in an empty slot outside FIELD and RETURNED, where it is refused with
0x03: its sectors hold it, and a slot whose sectors are worn is refused with 0x07 (their places are log entry 116's). The
first edge of a tamper source is latched and wipes an enabled Vault; further ones change nothing; its return clears it. -/
def Obligations.LifecycleAndKeys : Prop :=
  ∀ (w : Route) (v : Nat) (bs : Bytes) (s : State),
    (heard s w = true → s.ctl.waiting = [] → exec (.lcChallengeRead w) s = .next (answerTo w 0 (leBytes 32 (Config.challenge s.fv).toNat)
      { s with fv := s.fv + 1, lc := { s.lc with challenge := some s.fv } })) ∧
    (accepts w .LC_TOKEN 0 0 s = true → bs.length ≤ El.LC_TOKEN.info.size →
      exec (.lcTokenWrite w bs) s = performed w { s with lc := { s.lc with token := some bs } }) ∧
    (accepts w .LC_REQUEST 0 v s = true → ∀ c, changeOf s.life v = some c → s.keeper.failed = false → s.lc.change = none →
      (c.needsKey = true → ∃ k, k < 4 ∧ s.signingKey k ≠ none) →
      (c.needsToken = true → s.tokenPasses v = false →
        ∃ t, exec (.lcRequest w v) s = .next t ∧ t.ctl.answer.status = 9 ∧ t.lc.change = none ∧ t.lc.token = none ∧
          t.life = s.life ∧ t.cells = s.cells ∧ t.keeper = s.keeper) ∧
      ((c.needsToken = true → s.tokenPasses v = true) → s.keeper.dead = [] → (∀ k, s.worn k = false) →
        ∃ t, exec (.lcRequest w v) s = .next t ∧ t.ctl.answer.status = 0 ∧ t.lc.change = some (v, controllerOf w) ∧
          t.lc.token = none ∧ t.life = s.life)) ∧
    (s.lc.change = none → exec .lifecycleChangeDone s = .next s) ∧
    (∀ c, changeOf s.life v = some c → c.erases = false → s.lc.change = some (v, 1) → s.keeper.failed = false →
      s.keeper.dead = [] → (∀ k, s.worn k = false) →
        ∃ t, exec .lifecycleChangeDone s = .next t ∧ some t.life = lifecycleOf v ∧ t.lc.change = none) ∧
    (accepts w .KEY_INSTALL 0 0 s = true → s.keyLength bs = true →
      ((s.life = .field ∨ s.life = .returned) → exec (.keyInstall w bs) s = refused w 3 s) ∧
      (s.life ≠ .field → s.life ≠ .returned → s.signingSelected = true → pointOf bs ≠ none → s.keeper.failed = false →
        s.keeper.keysLost = false → mfind s.keeper.signing (s.rget .KEY_SEL) = none →
          ((∃ k ∈ keySectors (s.rget .KEY_SEL), s.worn k = true) → exec (.keyInstall w bs) s = refused w 7 s) ∧
          ((∀ k ∈ keySectors (s.rget .KEY_SEL), s.worn k = false) → ∃ t, exec (.keyInstall w bs) s = performed w t ∧
            t.keeper.signing = mput s.keeper.signing (s.rget .KEY_SEL) (.valid bs) ∧ t.keeper.aes = s.keeper.aes ∧
            mget t.keeper.sectors (32832 + 2 * s.rget .KEY_SEL) 0 = sectorOf (1 :: bs) ∧
            mget t.keeper.sectors (32833 + 2 * s.rget .KEY_SEL) 0 = sectorOf (bs.drop 63) ∧
            (∀ k, k ∉ keySectors (s.rget .KEY_SEL) → mfind t.keeper.sectors k = mfind s.keeper.sectors k) ∧
            t.cells = s.cells ∧ t.life = s.life ∧ t.dev = s.dev))) ∧
    (∀ i j b, (i, j, b) ∈ [(Instr.tamperAssert, Instr.tamperNRelease, 0), (.lidOpen, .lidClosed, 1)] →
      (s.power.aux = true → bitOf (s.rget .TAMPER_STATE) b = false → s.dev ≠ .powerOff → s.dev ≠ .reset →
        ∃ t, exec i s = .next t ∧ t.rget .TAMPER_STATE = s.rget .TAMPER_STATE + 2 ^ b ∧ bitOf t.core.irq 9 = true ∧
          (s.rflag .VAULT_ENABLE = true → t.rget .VAULT_STATE = 3)) ∧
      (bitOf (s.rget .TAMPER_STATE) b = true → exec i s = .next s ∧
        exec j s = .next (s.rset .TAMPER_STATE 0 (s.rget .TAMPER_STATE - 2 ^ b))) ∧
      (bitOf (s.rget .TAMPER_STATE) b = false → exec j s = .next s))

/-- An accepted FREEZE_GO with a mask and a crossing at least 2 ahead is pending, FREEZE_STATE 1, and refused with 0x06
while a freeze is pending or in force. At its crossing it stops the Districts that the mask names and no other, and the
device is in HOLD with FREEZE_STATE 2. A release of a freeze in force shows 3, and has no effect otherwise. A watchpoint is
enabled where its window is not empty; it fires where its conditions hold, counted and disabled; a window that has passed
ends its wait. -/
def Obligations.FreezesAndWatchpoints : Prop :=
  ∀ (w : Route) (n v : Nat) (s : State),
    (accepts w .FREEZE_GO 0 v s = true → s.freezeMask ≠ 0 → s.crossing + 2 ≤ s.freezeCrossing v →
      (s.rget .FREEZE_STATE ≠ 0 → exec (.freezeGo w v) s = refused w 6 s) ∧
      (s.rget .FREEZE_STATE = 0 → ∃ t, exec (.freezeGo w v) s = performed w t ∧ t.rget .FREEZE_STATE = 1 ∧
        t.freeze = some { at_ := s.freezeCrossing v, mask := s.freezeMask } ∧
        { t with regs := s.regs, freeze := s.freeze } = s)) ∧
    (∀ f, s.freeze = some f → s.counting = true → f.at_ ≤ s.crossing → s.dev = .running ∨ s.dev = .hold →
      ∃ t, exec .freezeStart s = .next t ∧ t.dev = .hold ∧ t.rget .FREEZE_STATE = 2 ∧ t.freeze = none ∧
        (∀ d, d < 128 → f.mask.getLsbD d = true → (t.dist d).frozen = true) ∧
        (∀ d, f.mask.getLsbD d = false → t.dist d = s.dist d) ∧ t.cells = s.cells) ∧
    (s.freeze = none → exec .freezeStart s = .next s) ∧
    (accepts w .FREEZE_RELEASE 0 1 s = true →
      (s.rget .FREEZE_STATE = 2 → Stored w .FREEZE_STATE 0 3 s (exec (.freezeRelease w 1) s)) ∧
      (s.rget .FREEZE_STATE ≠ 2 → exec (.freezeRelease w 1) s = performed w s)) ∧
    (accepts w .FWP_ENABLE n 1 s = true →
      (s.rget .FWP_FIRST n ≤ s.rget .FWP_LAST n → Stored w .FWP_ENABLE n 1 s (exec (.fwpEnableWrite w n 1) s)) ∧
      (s.rget .FWP_LAST n < s.rget .FWP_FIRST n → exec (.fwpEnableWrite w n 1) s = refused w 4 s)) ∧
    (∀ b, n < 2 → s.watchpointMet n = true → ∃ t, exec (.fwpFire n b) s = .next t ∧ t.rget .FWP_ENABLE n = 0 ∧
      t.rget .FWP_HITS n = Nat.min (s.rget .FWP_HITS n + 1) (El.FWP_HITS.modulus - 1) ∧ t.cells = s.cells ∧
      t.dists = s.dists) ∧
    (∀ b, s.watchpointMet n = false → exec (.fwpFire n b) s = .next s) ∧
    (n < 2 → s.counting = true → s.rget .FWP_LAST n < s.mt →
      ∃ t, exec (.fwpWindowPassed n) s = .next t ∧ t.rflag .FWP_ENABLE n = false ∧ t.cells = s.cells)

/-- An accepted SAFE_ENTER waits for the next crossing while MT counts and otherwise enters SAFE at once with cause 1, the
fabric stopped and no load in progress; in SAFE it has no effect. SAFE_LEAVE leaves IDLE with every plane EMPTY. A core
reset counts, shows its cause, locks an unlocked Vault and leaves fabric, ports and banks as they are. A device reset
follows its command, RST_N or a supply condition: it keeps the keeper, the queue and the tamper sources, empties every bank,
and records its cause; during a keeper write it is deferred. None of these leaves SHUTDOWN. -/
def Obligations.SafetyAndResets : Prop :=
  ∀ (w : Route) (s : State),
    (accepts w .SAFE_ENTER 0 1 s = true →
      (s.dev = .safe → exec (.safeEnter w 1) s = performed w s) ∧
      (s.dev ≠ .safe → s.counting = true → exec (.safeEnter w 1) s = performed w { s with safeDue := some 1 }) ∧
      (s.dev ≠ .safe → s.counting = false → ∃ t, exec (.safeEnter w 1) s = performed w t ∧ t.dev = .safe ∧
        t.rget .SAFE_CAUSE = 1 ∧ t.fabricOn = false ∧ t.load.active = false ∧ t.cells = s.cells)) ∧
    (accepts w .SAFE_LEAVE 0 1 s = true → ∃ t, exec (.safeLeave w 1) s = performed w t ∧ t.dev = .idle ∧
      t.rget .SAFE_CAUSE = 0 ∧ (∀ k, (t.plane k).state = 0) ∧ t.cells = s.cells) ∧
    (accepts w .RESET_CMD 0 1 s = true → ∃ t, exec (.coreResetCmd w) s = performed w t ∧ t.rget .CORE_RESET_CAUSE = 2 ∧
      t.run.entered = false ∧ t.run.running = !s.dbg.cur ∧ t.rget .VAULT_STATE ≠ 2 ∧ t.dev = s.dev ∧ t.cells = s.cells ∧
      t.dists = s.dists ∧ t.ports = s.ports) ∧
    (accepts w .RESET_CMD 0 2 s = true → exec (.deviceResetCmd w) s = performed w { s with resetDue := true }) ∧
    (s.resetDue = false → exec .commandReset s = .next s) ∧
    (∀ i n, (i, n) ∈ [(Instr.supplyReset, 0), (.rstNAssert, 1), (.commandReset, 2)] → (i = .commandReset → s.resetDue = true) →
      (s.dev ≠ .powerOff → s.dev ≠ .reset → s.dev ≠ .shutdown → s.keeper.jobs = [] →
        ∃ t, exec i s = .next t ∧ t.dev = .reset ∧ t.power.cause = n ∧ t.cells = [] ∧ t.planes = [] ∧ t.keeper = s.keeper ∧
          t.pending = s.pending ∧ t.rget .TAMPER_STATE = s.rget .TAMPER_STATE ∧ (n ≠ 0 → t.dbg = s.dbg)) ∧
      (s.dev ≠ .powerOff → s.dev ≠ .reset → s.dev ≠ .shutdown → s.keeper.jobs ≠ [] → s.power.deferred = none →
        ∃ t, exec i s = .next t ∧ t.power.deferred = some n ∧ t.dev = s.dev ∧ t.cells = s.cells ∧ t.planes = s.planes) ∧
      (s.dev = .shutdown → ∃ t, exec i s = .next t ∧ t.dev = .shutdown ∧ { t with resetDue := s.resetDue } = s))

/-- Power rising from POWER_OFF leaves the device in RESET with banks and planes empty and the keeper kept; power falling
leaves POWER_OFF from any state. The release of RESET samples the straps and enters BOOT, with RESET_CAUSE and the keeper as
the release finds it; the end of BOOT enters IDLE, or LOADING under AUTOLOAD from a source that BOOT_SRC names, with control
ready. A thermal stop that is due enters SHUTDOWN with the fabric and the core stopped, no load in progress and the Vault
not unlocked; the power gate then empties banks and planes. An accepted threshold at most its default and at least 25 °C
that keeps the thresholds' order reads its value once a sound keeper has taken it; one that does not is refused with 0x04.
After a round outside SHUTDOWN in which no shutdown was triggered before, TJ_MAX and TJ_MAX_SENSOR show the highest standing
reading, THROTTLE_F is the floor of 256 times the fraction of the way from T_THROTTLE to T_CEILING, clipped, and at
T_SHUTDOWN the thermal state is 3 with the stop due at the next crossing. No bank word changes. -/
def Obligations.PowerAndThermal : Prop :=
  (∀ (n : Nat) (fails : Bool) (later : Option Nat) (bad : List Nat) (damaged : List FrameDamage) (s : State),
    (s.dev = .powerOff → ∃ t, exec .powerOn s = .next t ∧ t.dev = .reset ∧ t.power.aux = true ∧ t.cells = [] ∧
      t.planes = [] ∧ t.keeper.sectors = s.keeper.sectors) ∧
    (s.dev ≠ .powerOff → exec .powerOn s = .next s) ∧
    (∃ t, exec .powerLoss s = .next t ∧ t.dev = .powerOff ∧ t.power.aux = false ∧ t.cells = [] ∧ t.planes = [] ∧
      t.keeper.sectors = s.keeper.sectors ∧ t.rget .TAMPER_STATE = 0 ∧ t.pending = s.pending) ∧
    (s.dev = .reset → ∃ t, exec (.resetRelease ⟨n, fails, later, bad, damaged⟩) s = .next t ∧ t.dev = .boot ∧
      t.fabricOn = true ∧ t.keeper.failed = fails ∧ t.keeper.failAt = later ∧ t.rget .STRAPS = n % 4096 ∧ t.rget .RESET_CAUSE = s.power.cause ∧ t.load = s.load) ∧
    (s.dev ≠ .reset → exec (.resetRelease ⟨n, fails, later, bad, damaged⟩) s = .next s) ∧
    (s.dev = .boot → s.coreWaits = false →
      ∃ t, exec .bootEnd s = .next t ∧ t.ctl.ready = true ∧ t.rget .CAN_STATE = s.rget .CAN_ENABLE ∧ t.cells = s.cells ∧
        (bitOf (s.rget .STRAPS) 3 = true → s.bootSrc < 4 → t.dev = .loading ∧ t.load.active = true) ∧
        (bitOf (s.rget .STRAPS) 3 = false ∨ 4 ≤ s.bootSrc → t.dev = .idle ∧ t.load = s.load)) ∧
    (∀ x, s.heat.stopAt = some x →
      (s.counting = false ∨ x ≤ s.crossing → ∃ t, exec .shutdownEntry s = .next t ∧ t.dev = .shutdown ∧
        t.fabricOn = false ∧ t.run.running = false ∧ t.load.active = false ∧ t.safeDue = none ∧
        t.rget .VAULT_STATE ≠ 2 ∧ t.cells = s.cells) ∧
      (s.counting = true → s.crossing < x → exec .shutdownEntry s = .next s)) ∧
    (s.dev = .shutdown → s.power.gated = false → ∃ t, exec .shutdownPowerGate s = .next t ∧ t.dev = .shutdown ∧
      t.power.gated = true ∧ t.cells = [] ∧ t.planes = [] ∧ t.pending = s.pending)) ∧
  ((∀ (w : Route) (e : Threshold) (v : Nat) (s : State), accepts w (thresholdEl e) 0 v s = true →
    (v ≤ (thresholdEl e).info.dflt → 1600 ≤ v → s.orderKept (thresholdEl e) v = true → s.keeper.failed = false →
      (∀ k, s.worn k = false) → ∃ t, exec (.thresholdWrite w e v) s = performed w t ∧ t.rget (thresholdEl e) = v ∧
        t.cells = s.cells ∧ t.heat = s.heat) ∧
    (s.orderKept (thresholdEl e) v = false → exec (.thresholdWrite w e v) s = refused w 4 s)) ∧
  (∀ (rs : List (Nat × Option Int)) (s : State), s.sensorsOn = true → s.dev ≠ .shutdown → s.rget .THERMAL_STATE ≠ 3 →
    ∃ t, exec (.sensorRound rs) s = .next t ∧ t.cells = s.cells ∧ t.dev = s.dev ∧
      ∀ n x, t.hottest = some (n, x) →
        let a := s.tget .T_THROTTLE
        let b := s.tget .T_CEILING
        t.rget .TJ_MAX = tempBits x ∧ t.rget .TJ_MAX_SENSOR = n ∧
        t.rget .THROTTLE_F = (if x ≤ a then 0 else if b ≤ x then 256 else (256 * (x - a) / (b - a)).toNat) ∧
        (s.tget .T_SHUTDOWN ≤ x → t.rget .THERMAL_STATE = 3 ∧
          t.heat.stopAt = some (if s.counting then s.crossing + 1 else 0))))

/-- An accepted BIST_GO of a permitted test in the field with a free spare begins it, BIST_STATE 1 with the counts of its
algorithm and nothing executed; one that finds its target in use is refused with 0x06, and an off-line test of a Vault bank,
in any device state, with the 0x03 of the handover that it would begin. An abort between slices ends the test with result 3.
A slice begins with its copy phase where nothing holds it up, and is passed over at a bank that is not AWAKE or whose sleep
is held; the phases follow in order, and the cleared slice makes the next one due. The test phase is followed by the
restore, whatever fails. An off-line test begins where nothing refuses it, and one that found no failure ends with result 1
and a loss of its District RAM target's content. With no test running, none of these changes anything. -/
def Obligations.SelfTests : Prop :=
  ∀ (w : Route) (fails : List BistRead) (s : State),
    (accepts w .BIST_GO 0 1 s = true → s.bistSelectable = true →
      (s.testOwner = some 3 → exec (.bistGo w 1) s = refused w 3 s) ∧
      (s.testOwner ≠ some 3 → s.bistRefusal = some 6 → exec (.bistGo w 1) s = refused w 6 s) ∧
      (s.bistRefusal = none → s.rget .BIST_MODE = 0 → s.freeSpare (s.rget .BIST_TARGET / 64) ≠ none →
        ∃ t, exec (.bistGo w 1) s = performed w t ∧ t.rget .BIST_STATE = 1 ∧ t.rget .BIST_EXECUTED = 0 ∧
          t.rget .BIST_PLANNED = marchOps (s.rget .BIST_ALGO) * bistAddresses (s.rget .BIST_KIND) ∧
          t.rget .BIST_RESULT = 0 ∧ t.cells = s.cells ∧ t.dists = s.dists) ∧
      (s.bistRefusal = none → s.rget .BIST_MODE = 1 → ∃ t, exec (.bistGo w 1) s = performed w t ∧
        t.rget .BIST_STATE = 1 ∧ t.rget .BIST_EXECUTED = 0 ∧ t.cells = s.cells)) ∧
    (accepts w .BIST_ABORT 0 1 s = true →
      (s.bistRunning = false → exec (.bistAbort w 1) s = performed w s) ∧
      (s.bistRunning = true → s.rget .BIST_MODE = 0 → s.bist.phase = none → s.bist.moveDue = false → s.bist.beyond = false →
        ∃ t, exec (.bistAbort w 1) s = performed w t ∧ t.rget .BIST_STATE = 3 ∧ t.rget .BIST_RESULT = 3 ∧
          t.cells = s.cells)) ∧
    (s.bistRunning = true → s.bist.spare ≠ none → s.bist.phase = none → s.bistAllowed (s.rget .BIST_TARGET) = true →
      s.rget .THROTTLE_F = 0 → mfind s.mem.moves (s.rget .BIST_TARGET / 64) = none →
      s.rget .INV_STATE (s.rget .BIST_TARGET) ≠ 1 → (s.isAwake (s.rget .BIST_TARGET) = true → (s.bank (s.rget .BIST_TARGET)).sleepHeld = false →
        exec .bistSliceStart s = .next (setPhase (some .copy) s)) ∧
      (s.isAwake (s.rget .BIST_TARGET) = false ∨ (s.bank (s.rget .BIST_TARGET)).sleepHeld = true → s.bist.aborted = false →
        s.bist.slice + 1 ≠ 64 → ∃ t, exec .bistSliceStart s = .next t ∧ t.bist.phase = none ∧ t.bist.slice = s.bist.slice + 1 ∧
          t.bist.spare = s.bist.spare ∧ t.cells = s.cells)) ∧
    (s.bistRunning = false → exec .bistSliceStart s = .next s ∧ exec (.bistOfflineDone fails) s = .next s) ∧
    (s.bist.phase = none → exec (.bistPhaseDone fails) s = .next s) ∧
    (s.bist.phase = some .clear → s.bist.aborted = false → s.bist.slice + 1 ≠ 64 →
      ∃ t, exec (.bistPhaseDone fails) s = .next t ∧ t.bist.phase = none ∧ t.bist.slice = s.bist.slice + 1 ∧
        ((s.bank (s.rget .BIST_TARGET)).waiting = [] → (s.bank (s.rget .BIST_TARGET)).sleepHeld = false → t.regs = s.regs)) ∧
    (s.bist.phase = some .copy → ∃ t, exec (.bistPhaseDone fails) s = .next t ∧ t.bist.phase = some .test) ∧
    (s.bist.phase = some .test → ∃ t, exec (.bistPhaseDone fails) s = .next t ∧ t.bist.phase = some .restore) ∧
    (s.bist.phase = some .restore → ∃ t, exec (.bistPhaseDone fails) s = .next t ∧ t.bist.phase = some .clear) ∧
    (s.bistRunning = true → s.rget .BIST_MODE = 1 → s.rget .BIST_KIND = 1 → s.rget .THROTTLE_F = 0 →
      s.bist.misr = s.bist.refMisr → s.bist.mismatch = false → s.bist.aborted = false → s.rget .BIST_EXECUTED = 0 →
      s.rget .BIST_PLANNED = marchOps (s.rget .BIST_ALGO) * bistAddresses 1 → s.bist.moveDue = false →
      s.bist.beyond = false →
        ∃ t, exec (.bistOfflineDone []) s = .next t ∧ t.rget .BIST_STATE = 3 ∧ t.rget .BIST_RESULT = 1 ∧
          mfind t.dram (s.rget .BIST_TARGET) = none ∧ t.cells = s.cells)

/-- A request of a route that the device state does not hear changes nothing, whatever command carries it. Where no request
waits, a WRITE to an identifier without an element is refused with 0x01; to an element that is read-only, or with rights
below the element's, with 0x03; under another controller's Expert lock, with 0x08; with another length than the element's
size, with 0x02; and with a value outside the map's bounds, with 0x04. A refused request changes nothing but the sender's
answer. -/
def Obligations.RequestsAreJudged : Prop :=
  (∀ (c : Instr) (w : Route) (s : State), senderOf c = some w → heard s w = false → exec c s = .next s) ∧
  (∀ (w : Route) (eid : Nat) (bs : Bytes) (s : State), w ≠ .loader → heard s w = true → s.ctl.waiting = [] → vendorOpen s w eid = false →
    (elOf eid = none → exec (.dictWrite w eid bs) s = refused w 1 s) ∧
    (∀ e u, elOf eid = some (e, u) → e.info.blob = false → e ≠ .LC_REQUEST →
      let locked := Nat.ble 2 e.info.rights && e != .LOCK_BREAK && lockedOut s w
      (e.info.acc = .ro ∨ rightsOf s w < e.info.rights → exec (.dictWrite w eid bs) s = refused w 3 s) ∧
      (e.info.acc ≠ .ro → e.info.rights ≤ rightsOf s w → (∀ v, (handlerOf w e u).allow w v s = true) →
        (locked = true → exec (.dictWrite w eid bs) s = refused w 8 s) ∧
        (locked = false → bs.length ≠ e.info.size → exec (.dictWrite w eid bs) s = refused w 2 s) ∧
        (locked = false → bs.length = e.info.size → leVal bs < e.info.lo ∨ e.info.hi < leVal bs →
          exec (.dictWrite w eid bs) s = refused w 4 s))))

/-- Where no request waits, whatever element a controller writes, and whatever a transfer through a data port asks, where
the answer is abort 0x05, REFUSED_STATE is one higher, saturating; the recorder takes the NOTICE event that names the
identifier, the controller and the device state; the sender's answer is 0x05; and no bank word, plane, District or port
changes, nor the device state. -/
def Obligations.StateRefusalsAreCounted : Prop :=
  ∀ (w : Route) (eid : Nat) (bs : Bytes) (s : State), w ≠ .loader → heard s w = true → s.ctl.waiting = [] → vendorOpen s w eid = false →
    let noted (id : Nat) (t : State) : Prop :=
      t.rget .REFUSED_STATE = Nat.min (s.rget .REFUSED_STATE + 1) (El.REFUSED_STATE.modulus - 1) ∧
      t.recorder = ((s.rinc .REFUSED_STATE).raise sevNotice 0x3001 2
        (leBytes 4 id ++ leBytes 1 (controllerOf w) ++ leBytes 1 s.dev.code)).recorder ∧
      t.ctl.answer = { controller := controllerOf w, status := 5, data := [] } ∧
      t.dev = s.dev ∧ t.cells = s.cells ∧ t.planes = s.planes ∧ t.dists = s.dists ∧ t.ports = s.ports
    ((dictWrite w eid bs s).1 = 5 → ∃ t, exec (.dictWrite w eid bs) s = .next t ∧ noted eid t) ∧
    (∀ e u v h, heard s w = true → judge w e u (fit e v) h s = .error 5 →
      ∃ t, write w e u v h s = .next t ∧ noted (eidOf e u) t) ∧
    (∀ n, s.dpRefusal w n bs.length true = some 5 → ∃ t, exec (.dpDataWrite w n bs) s = .next t ∧ noted (eidOf .DP_DATA n) t) ∧
    (∀ n k, s.dpRefusal w n k false = some 5 → ∃ t, exec (.dpDataRead w n k) s = .next t ∧ noted (eidOf .DP_DATA n) t)

/-- In the reset state no bank word is listed that reads as an unlisted word of its place, keys rise strictly, and nothing
is under way that could lead out of SHUTDOWN. -/
def Obligations.ResetHoldsTheForm : Prop :=
  CellsOk State.reset ∧ Quiet State.reset ∧ State.reset.cells = [] ∧ State.reset.pending = []

/-- Whatever command is performed, and where none waits, a step from a state whose bank words are in canonical form leaves
them so: keys strictly rising, and no word listed that reads as an unlisted word of its place. -/
def Obligations.StepKeepsTheForm : Prop :=
  ∀ (s t : State), CellsOk s → step s = .next t → CellsOk t

/-- Every step keeps the form that a device in SHUTDOWN has nothing under way that would lead out of it; in a state of that
form, a step from SHUTDOWN leaves SHUTDOWN only where the supply falls, and then the device is in POWER_OFF. -/
def Obligations.OnlyPowerLeavesShutdown : Prop :=
  ∀ (s t : State), Quiet s → step s = .next t →
    Quiet t ∧ (s.dev = .shutdown → t.dev = .shutdown ∨ (t.dev = .powerOff ∧ ∃ rest, s.pending = .powerLoss :: rest))
end

