-- ==== Sys2Proof/Laws/Ops.lean ====
section
/-! SUPPORT. What the stores and the register file do, once for all. -/

namespace Sys2Proof.Machine

theorem mfind_mput_same {α : Type} (m : SMap α) (k : Nat) (v : α) : mfind (mput m k v) k = some v := by
  induction m with
  | nil => simp [mput, mfind]
  | cons p m ih =>
    obtain ⟨a, b⟩ := p
    simp only [mput]
    split
    · simp [mfind]
    · split
      · simp [mfind]
      · simp [mfind, *]

theorem mfind_mput_other {α : Type} (m : SMap α) (k j : Nat) (v : α) (h : j ≠ k) : mfind (mput m k v) j = mfind m j := by
  induction m with
  | nil => simp [mput, mfind, Ne.symm h]
  | cons p m ih =>
    obtain ⟨a, b⟩ := p
    simp only [mput]
    split
    · simp [mfind, Ne.symm h]
    · split
      · subst_vars; simp [mfind, Ne.symm h]
      · simp [mfind, ih]

theorem mfind_mdel_same {α : Type} (m : SMap α) (k : Nat) : mfind (mdel m k) k = none := by
  induction m with
  | nil => rfl
  | cons p m ih =>
    obtain ⟨a, b⟩ := p
    unfold mdel at *
    by_cases h : a = k
    · simpa [List.filter, h] using ih
    · have : (a != k) = true := by simpa using h
      simp [List.filter, this, mfind, h, ih]

theorem mfind_mdel_other {α : Type} (m : SMap α) (k j : Nat) (h : j ≠ k) : mfind (mdel m k) j = mfind m j := by
  induction m with
  | nil => rfl
  | cons p m ih =>
    obtain ⟨a, b⟩ := p
    unfold mdel at *
    by_cases hk : a = k
    · subst hk; simpa [List.filter, mfind, Ne.symm h] using ih
    · have : (a != k) = true := by simpa using hk
      simp [List.filter, this, mfind, ih]

/-- A store written at a key reads the value there. -/
@[simp] theorem mget_mset_same {α : Type} [DecidableEq α] (m : SMap α) (k : Nat) (v d : α) : mget (mset m k v d) k d = v := by
  unfold mget mset
  split
  · subst_vars; simp [mfind_mdel_same]
  · simp [mfind_mput_same]

/-- A store written at a key lists every other key as before. -/
theorem mfind_mset_other {α : Type} [DecidableEq α] (m : SMap α) (k j : Nat) (v d : α) (h : j ≠ k) :
    mfind (mset m k v d) j = mfind m j := by
  unfold mset
  split
  · exact mfind_mdel_other m k j h
  · exact mfind_mput_other m k j v h

/-- A store written at a key reads as before at every other key. -/
theorem mget_mset_other {α : Type} [DecidableEq α] (m : SMap α) (k j : Nat) (v d x : α) (h : j ≠ k) :
    mget (mset m k v d) j x = mget m j x := by
  simp [mget, mfind_mset_other m k j v d h]

/-! The canonical form. -/

theorem risingFrom_le {α : Type} {m : SMap α} {a b : Nat} (hab : a ≤ b) (h : risingFrom b m = true) : risingFrom a m = true := by
  cases m with
  | nil => rfl
  | cons p m => simp only [risingFrom, Nat.ble_eq, Bool.and_eq_true] at *; exact ⟨by omega, h.2⟩

theorem risingFrom_filter {α : Type} (f : Nat × α → Bool) {m : SMap α} {b : Nat} (h : risingFrom b m = true) :
    risingFrom b (m.filter f) = true := by
  induction m generalizing b with
  | nil => rfl
  | cons p m ih =>
    simp only [risingFrom, Nat.ble_eq, Bool.and_eq_true] at h
    by_cases hf : f p = true
    · simp only [List.filter, hf, risingFrom, Nat.ble_eq, Bool.and_eq_true]; exact ⟨h.1, ih h.2⟩
    · simp only [List.filter, hf]; exact risingFrom_le (by omega) (ih h.2)

theorem risingFrom_mput {α : Type} {m : SMap α} {b k : Nat} (v : α) (hk : b ≤ k) (h : risingFrom b m = true) :
    risingFrom b (mput m k v) = true := by
  induction m generalizing b with
  | nil => simp [mput, risingFrom, hk]
  | cons p m ih =>
    obtain ⟨a, w⟩ := p
    simp only [risingFrom, Nat.ble_eq, Bool.and_eq_true] at h
    simp only [mput]
    split
    · simp only [risingFrom, Nat.ble_eq, Bool.and_eq_true]; exact ⟨hk, by omega, h.2⟩
    · split
      · subst_vars; simp only [risingFrom, Nat.ble_eq, Bool.and_eq_true]; exact ⟨hk, h.2⟩
      · simp only [risingFrom, Nat.ble_eq, Bool.and_eq_true]; exact ⟨h.1, ih (by omega) h.2⟩

theorem all_mput {α : Type} (f : Nat × α → Bool) {m : SMap α} {k : Nat} {v : α} (hv : f (k, v) = true)
    (h : m.all f = true) : (mput m k v).all f = true := by
  induction m with
  | nil => simp [mput, hv]
  | cons p m ih =>
    obtain ⟨a, w⟩ := p
    simp only [List.all_cons, Bool.and_eq_true] at h
    simp only [mput]
    split
    · simp [hv, h.1]; simpa using h.2
    · split
      · simp [hv]; simpa using h.2
      · simp only [List.all_cons, Bool.and_eq_true]; exact ⟨h.1, ih h.2⟩

theorem all_filter {α : Type} (f g : α → Bool) {m : List α} (h : m.all f = true) : (m.filter g).all f = true := by
  simp only [List.all_eq_true, List.mem_filter] at *; exact fun x hx => h x hx.1

/-- Taking entries out keeps the canonical form. -/
theorem wf_filter {α : Type} [DecidableEq α] {m : SMap α} {d : α} (f : Nat × α → Bool) (h : SMap.wf m d = true) :
    SMap.wf (m.filter f) d = true := by
  simp only [SMap.wf, Bool.and_eq_true] at *
  exact ⟨risingFrom_filter f h.1, all_filter _ _ h.2⟩

/-- Writing a key keeps the canonical form. -/
theorem wf_mset {α : Type} [DecidableEq α] {m : SMap α} {d : α} (k : Nat) (v : α) (h : SMap.wf m d = true) :
    SMap.wf (mset m k v d) d = true := by
  unfold mset
  split
  · exact wf_filter _ h
  · simp only [SMap.wf, Bool.and_eq_true] at *
    exact ⟨risingFrom_mput v (by omega) h.1, all_mput _ (by simpa using ‹_›) h.2⟩

/-! Registers. -/

theorem ctorIdx_lt (e : El) : e.ctorIdx < 1024 := by cases e <;> decide

/-- No two units of elements share a key. -/
theorem regKey_inj {e e' : El} {u u' : Nat} : regKey e u = regKey e' u' ↔ e = e' ∧ u = u' := by
  constructor
  · intro h
    have h1 := ctorIdx_lt e
    have h2 := ctorIdx_lt e'
    unfold regKey at h
    have hc : e.ctorIdx = e'.ctorIdx := by omega
    have hu : u = u' := by omega
    exact ⟨by rw [← El.ofNat_ctorIdx e, ← El.ofNat_ctorIdx e', hc], hu⟩
  · rintro ⟨rfl, rfl⟩
    rfl

/-- What a register reads after a write of one. -/
theorem State.rget_rset (s : State) (e e' : El) (u u' v : Nat) :
    (s.rset e u v).rget e' u' = if e' = e ∧ u' = u then v else s.rget e' u' := by
  by_cases h : e' = e ∧ u' = u
  · obtain ⟨rfl, rfl⟩ := h
    simp [State.rget, State.rset]
  · rw [if_neg h]
    have : regKey e' u' ≠ regKey e u := fun k => h (regKey_inj.mp k)
    simp [State.rget, State.rset, mget_mset_other _ _ _ _ _ _ this]

/-- A register written reads the value. -/
@[simp] theorem State.rget_rset_same (s : State) (e : El) (u v : Nat) : (s.rset e u v).rget e u = v := by
  simp [State.rget, State.rset]

/-- Writing a register leaves every other one as it was. -/
theorem State.rget_rset_other (s : State) (e e' : El) (u u' v : Nat) (h : regKey e' u' ≠ regKey e u) :
    (s.rset e u v).rget e' u' = s.rget e' u' := by
  simp [State.rget, State.rset, mget_mset_other _ _ _ _ _ _ h]

/-- A counter moves on by n and stops at the largest value of its size. -/
theorem State.rget_radd_same (s : State) (e : El) (u n : Nat) :
    (s.radd e u n).rget e u = Nat.min (s.rget e u + n) (e.modulus - 1) := by
  simp [State.radd]

end Sys2Proof.Machine
end

