-- ==== Sys2Proof/Laws/Control.lean ====
section
/-! SUPPORT. What a dictionary write that every shared order permits does, what raising an event leaves, and what a word
write leaves: the lemmas to cite instead of unfolding `request`, `judge`, `State.raise` and `State.setCellAt`. -/

namespace Sys2Proof.Machine

open Sys2Proof.Safety

/-- The judgement of a request that passes the orders every element shares, and its own rule's, is that of its handler. -/
theorem judge_of_accepts {w : Route} {e : El} {u v : Nat} {h : Handler} {s : State} (ha : accepts w e u v s = true)
    (hr : h.allow w v s = true) (hv : h.range v s = true) : judge w e u (fit e v) h s = h.act v s := by
  simp only [accepts, mayAsk, Bool.and_eq_true, bne_iff_ne, ne_eq, Nat.blt_eq, Nat.ble_eq, beq_iff_eq,
    Bool.not_eq_true'] at ha
  obtain ⟨⟨⟨⟨⟨⟨⟨⟨⟨⟨_, _⟩, hw⟩, hu⟩, hro⟩, hri⟩, hl⟩, hm⟩, hlo⟩, hhi⟩, hs⟩ := ha
  have h1 : Nat.ble e.info.cnt u = false := by
    rw [Bool.eq_false_iff, ne_eq, Nat.ble_eq]; omega
  have h2 : Nat.blt (rightsOf s w) e.info.rights = false := by
    rw [Bool.eq_false_iff, ne_eq, Nat.blt_eq]; omega
  have h4 : (Nat.blt v e.info.lo || Nat.blt e.info.hi v) = false := by
    rw [Bool.or_eq_false_iff]
    constructor
    · rw [Bool.eq_false_iff, ne_eq, Nat.blt_eq]; omega
    · rw [Bool.eq_false_iff, ne_eq, Nat.blt_eq]; omega
  have hw' : (w == Route.loader) = false := by simpa using hw
  have hl' : (w != Route.loader && Nat.ble 2 e.info.rights && e != .LOCK_BREAK && lockedOut s w) = false := by
    rw [Bool.and_assoc, Bool.and_assoc, ← Bool.and_assoc (Nat.ble 2 e.info.rights), hl, Bool.and_false]
  have hf : fit e v = some v := by simp [fit, hm]
  unfold judge
  dsimp only
  rw [hf, if_neg (by simp [h1]), if_neg (by simp [hro, h2, hw', hr]), if_neg (by simp [hl'])]
  simp [h4, hv, hw, hs]

theorem heard_of_accepts {w : Route} {e : El} {u v : Nat} {s : State} (ha : accepts w e u v s = true) : heard s w = true := by
  simp only [accepts, mayAsk, Bool.and_eq_true] at ha
  exact ha.1.1.1.1.1.1.1.1.1.1

/-- No request waits before an accepted one. -/
theorem idle_of_accepts {w : Route} {e : El} {u v : Nat} {s : State} (ha : accepts w e u v s = true) : s.ctl.waiting = [] := by
  simp only [accepts, mayAsk, Bool.and_eq_true, List.isEmpty_iff] at ha
  exact ha.1.1.1.1.1.1.1.1.1.2

/-- A request that no other waits before is performed at once (R357). -/
theorem inTurn_of_idle {w : Route} {asks : HeldRequest → Bool} {f : State → Nat × Bytes × State} {s : State}
    (h : s.ctl.waiting = []) : inTurn w asks f s = answerTo w (f s).1 (f s).2.1 (f s).2.2 := by
  unfold inTurn
  rw [h]
  cases w <;> rfl

/-- A write that every shared order and its own rule permit is performed as its handler says. -/
theorem write_performed {w : Route} {e : El} {u v : Nat} {h : Handler} {s t : State} (ha : accepts w e u v s = true)
    (hr : h.allow w v s = true) (hv : h.range v s = true) (hact : h.act v s = .ok t) :
    write w e u v h s = performed w t := by
  simp only [write, request, heard_of_accepts ha, inTurn_of_idle (idle_of_accepts ha), judged, judge_of_accepts ha hr hv, hact,
    performed, if_true]

/-- A write that its own rule refuses with an abort other than 0x05 has no other effect than the answer. -/
theorem write_refused {w : Route} {e : El} {u v c : Nat} {h : Handler} {s : State} (ha : accepts w e u v s = true)
    (hr : h.allow w v s = true) (hv : h.range v s = true) (hact : h.act v s = .error c) (hc : c ≠ 5) :
    write w e u v h s = refused w c s := by
  simp only [write, request, heard_of_accepts ha, inTurn_of_idle (idle_of_accepts ha), judged, judge_of_accepts ha hr hv, hact,
    refused, refusedWith, hc, if_true, if_false]

/-- No accepted write is the loader's. -/
theorem loader_of_accepts {w : Route} {e : El} {u v : Nat} {s : State} (ha : accepts w e u v s = true) : w ≠ .loader := by
  simp only [accepts, mayAsk, Bool.and_eq_true, bne_iff_ne, ne_eq] at ha
  exact ha.1.1.1.1.1.1.1.1.2

/-- An accepted write names a unit that exists. -/
theorem unit_of_accepts {w : Route} {e : El} {u v : Nat} {s : State} (ha : accepts w e u v s = true) : u < e.info.cnt := by
  simp only [accepts, mayAsk, Bool.and_eq_true, bne_iff_ne, ne_eq, Nat.blt_eq] at ha
  exact ha.1.1.1.1.1.1.1.2

/-- What a performed write that only stores leaves is what Stored says. -/
theorem stored_of_performed {w : Route} {e : El} {u v : Nat} {s : State} {o} (hw : w ≠ .loader) (ho : o = performed w (s.rset e u v)) :
    Stored w e u v s o := by
  refine ⟨answerTo w 0 [] (s.rset e u v), ho, ?_, ?_, ?_, ?_⟩
  · cases w <;> simp_all [answerTo, State.rget, State.rset]
  · intro k hk
    cases w <;> simp [answerTo, State.rset, mfind_mset_other _ _ _ _ _ hk]
  · cases w <;> simp_all [answerTo]
  · cases w <;> rfl

/-- An accepted write whose range holds and whose act only stores does what Stored says. -/
theorem write_stores {w : Route} {e : El} {u v : Nat} {h : Handler} {s : State} (ha : accepts w e u v s = true)
    (hr : h.allow w v s = true) (hv : h.range v s = true) (hact : h.act v s = .ok (s.rset e u v)) :
    Stored w e u v s (write w e u v h s) :=
  stored_of_performed (loader_of_accepts ha) (write_performed ha hr hv hact)

/-- A write that only stores leaves what Stored says. -/
theorem write_store {w : Route} {e : El} {u v : Nat} {s : State} (ha : accepts w e u v s = true) :
    Stored w e u v s (write w e u v (Handler.store e u) s) := write_stores ha rfl rfl rfl

/-- The judgement of an accepted write outside its handler's range: abort 0x04 (R354). -/
theorem judge_of_range {w : Route} {e : El} {u v : Nat} {h : Handler} {s : State} (ha : accepts w e u v s = true)
    (hr : h.allow w v s = true) (hv : h.range v s = false) : judge w e u (fit e v) h s = .error 4 := by
  simp only [accepts, mayAsk, Bool.and_eq_true, bne_iff_ne, ne_eq, Nat.blt_eq, Nat.ble_eq, beq_iff_eq,
    Bool.not_eq_true'] at ha
  obtain ⟨⟨⟨⟨⟨⟨⟨⟨⟨⟨_, _⟩, hw⟩, hu⟩, hro⟩, hri⟩, hl⟩, hm⟩, hlo⟩, hhi⟩, hs⟩ := ha
  have h1 : Nat.ble e.info.cnt u = false := by rw [Bool.eq_false_iff, ne_eq, Nat.ble_eq]; omega
  have h2 : Nat.blt (rightsOf s w) e.info.rights = false := by rw [Bool.eq_false_iff, ne_eq, Nat.blt_eq]; omega
  have hw' : (w == Route.loader) = false := by simpa using hw
  have hl' : (w != Route.loader && Nat.ble 2 e.info.rights && e != .LOCK_BREAK && lockedOut s w) = false := by
    rw [Bool.and_assoc, Bool.and_assoc, ← Bool.and_assoc (Nat.ble 2 e.info.rights), hl, Bool.and_false]
  have hf : fit e v = some v := by simp [fit, hm]
  unfold judge
  dsimp only
  rw [hf, if_neg (by simp [h1]), if_neg (by simp [hro, h2, hw', hr]), if_neg (by simp [hl'])]
  simp [hv]

/-- A write outside its handler's range is refused with 0x04. -/
theorem write_outOfRange {w : Route} {e : El} {u v : Nat} {h : Handler} {s : State} (ha : accepts w e u v s = true)
    (hr : h.allow w v s = true) (hv : h.range v s = false) : write w e u v h s = refused w 4 s := by
  simp only [write, request, heard_of_accepts ha, inTurn_of_idle (idle_of_accepts ha), judged, judge_of_range ha hr hv,
    refused, refusedWith, if_true]; rfl

/-- Raising an event changes the recorder, and REC_LOST when the intake drops it; nothing else. -/
theorem raise_frame (s : State) (severity code unit : Nat) (detail : Bytes) :
    ∃ g r, s.raise severity code unit detail = { s with recorder := r, regs := g } := by
  unfold State.raise
  dsimp only
  split
  · exact ⟨s.regs, s.recorder, rfl⟩
  · split
    · exact ⟨_, _, rfl⟩
    · exact ⟨_, _, rfl⟩

/-- An answer changes the last answer alone. -/
theorem answerTo_frame (w : Route) (status : Nat) (data : Bytes) (s : State) :
    ∃ c, answerTo w status data s = { s with ctl := c } := by
  cases w <;> exact ⟨_, rfl⟩

@[simp] theorem raise_pending (s : State) (v c u : Nat) (d : Bytes) : (s.raise v c u d).pending = s.pending := by
  obtain ⟨g, r, h⟩ := raise_frame s v c u d; rw [h]
@[simp] theorem raise_force (s : State) (v c u : Nat) (d : Bytes) : (s.raise v c u d).force = s.force := by
  obtain ⟨g, r, h⟩ := raise_frame s v c u d; rw [h]
@[simp] theorem raise_deferred (s : State) (v c u : Nat) (d : Bytes) : (s.raise v c u d).deferred = s.deferred := by
  obtain ⟨g, r, h⟩ := raise_frame s v c u d; rw [h]
@[simp] theorem raise_fv (s : State) (v c u : Nat) (d : Bytes) : (s.raise v c u d).fv = s.fv := by
  obtain ⟨g, r, h⟩ := raise_frame s v c u d; rw [h]
@[simp] theorem raise_dev (s : State) (v c u : Nat) (d : Bytes) : (s.raise v c u d).dev = s.dev := by
  obtain ⟨g, r, h⟩ := raise_frame s v c u d; rw [h]
@[simp] theorem raise_life (s : State) (v c u : Nat) (d : Bytes) : (s.raise v c u d).life = s.life := by
  obtain ⟨g, r, h⟩ := raise_frame s v c u d; rw [h]
@[simp] theorem raise_userRights (s : State) (v c u : Nat) (d : Bytes) : (s.raise v c u d).userRights = s.userRights := by
  obtain ⟨g, r, h⟩ := raise_frame s v c u d; rw [h]
@[simp] theorem raise_cut (s : State) (v c u : Nat) (d : Bytes) : (s.raise v c u d).cut = s.cut := by
  obtain ⟨g, r, h⟩ := raise_frame s v c u d; rw [h]
@[simp] theorem raise_lossHeld (s : State) (v c u : Nat) (d : Bytes) : (s.raise v c u d).lossHeld = s.lossHeld := by
  obtain ⟨g, r, h⟩ := raise_frame s v c u d; rw [h]
@[simp] theorem raise_lossFrom (s : State) (v c u : Nat) (d : Bytes) : (s.raise v c u d).lossFrom = s.lossFrom := by
  obtain ⟨g, r, h⟩ := raise_frame s v c u d; rw [h]
@[simp] theorem raise_safeDue (s : State) (v c u : Nat) (d : Bytes) : (s.raise v c u d).safeDue = s.safeDue := by
  obtain ⟨g, r, h⟩ := raise_frame s v c u d; rw [h]
@[simp] theorem raise_resetDue (s : State) (v c u : Nat) (d : Bytes) : (s.raise v c u d).resetDue = s.resetDue := by
  obtain ⟨g, r, h⟩ := raise_frame s v c u d; rw [h]
@[simp] theorem raise_fabricOn (s : State) (v c u : Nat) (d : Bytes) : (s.raise v c u d).fabricOn = s.fabricOn := by
  obtain ⟨g, r, h⟩ := raise_frame s v c u d; rw [h]
@[simp] theorem raise_tb (s : State) (v c u : Nat) (d : Bytes) : (s.raise v c u d).tb = s.tb := by
  obtain ⟨g, r, h⟩ := raise_frame s v c u d; rw [h]
@[simp] theorem raise_rb (s : State) (v c u : Nat) (d : Bytes) : (s.raise v c u d).rb = s.rb := by
  obtain ⟨g, r, h⟩ := raise_frame s v c u d; rw [h]
@[simp] theorem raise_ports (s : State) (v c u : Nat) (d : Bytes) : (s.raise v c u d).ports = s.ports := by
  obtain ⟨g, r, h⟩ := raise_frame s v c u d; rw [h]
@[simp] theorem raise_cells (s : State) (v c u : Nat) (d : Bytes) : (s.raise v c u d).cells = s.cells := by
  obtain ⟨g, r, h⟩ := raise_frame s v c u d; rw [h]
@[simp] theorem raise_banks (s : State) (v c u : Nat) (d : Bytes) : (s.raise v c u d).banks = s.banks := by
  obtain ⟨g, r, h⟩ := raise_frame s v c u d; rw [h]
@[simp] theorem raise_lanes (s : State) (v c u : Nat) (d : Bytes) : (s.raise v c u d).lanes = s.lanes := by
  obtain ⟨g, r, h⟩ := raise_frame s v c u d; rw [h]
@[simp] theorem raise_fixed (s : State) (v c u : Nat) (d : Bytes) : (s.raise v c u d).fixed = s.fixed := by
  obtain ⟨g, r, h⟩ := raise_frame s v c u d; rw [h]
@[simp] theorem raise_rings (s : State) (v c u : Nat) (d : Bytes) : (s.raise v c u d).rings = s.rings := by
  obtain ⟨g, r, h⟩ := raise_frame s v c u d; rw [h]
@[simp] theorem raise_mem (s : State) (v c u : Nat) (d : Bytes) : (s.raise v c u d).mem = s.mem := by
  obtain ⟨g, r, h⟩ := raise_frame s v c u d; rw [h]
@[simp] theorem raise_bist (s : State) (v c u : Nat) (d : Bytes) : (s.raise v c u d).bist = s.bist := by
  obtain ⟨g, r, h⟩ := raise_frame s v c u d; rw [h]
@[simp] theorem raise_dec (s : State) (v c u : Nat) (d : Bytes) : (s.raise v c u d).dec = s.dec := by
  obtain ⟨g, r, h⟩ := raise_frame s v c u d; rw [h]
@[simp] theorem raise_eb (s : State) (v c u : Nat) (d : Bytes) : (s.raise v c u d).eb = s.eb := by
  obtain ⟨g, r, h⟩ := raise_frame s v c u d; rw [h]
@[simp] theorem raise_queues (s : State) (v c u : Nat) (d : Bytes) : (s.raise v c u d).queues = s.queues := by
  obtain ⟨g, r, h⟩ := raise_frame s v c u d; rw [h]
@[simp] theorem raise_qports (s : State) (v c u : Nat) (d : Bytes) : (s.raise v c u d).qports = s.qports := by
  obtain ⟨g, r, h⟩ := raise_frame s v c u d; rw [h]
@[simp] theorem raise_trunks (s : State) (v c u : Nat) (d : Bytes) : (s.raise v c u d).trunks = s.trunks := by
  obtain ⟨g, r, h⟩ := raise_frame s v c u d; rw [h]
@[simp] theorem raise_load (s : State) (v c u : Nat) (d : Bytes) : (s.raise v c u d).load = s.load := by
  obtain ⟨g, r, h⟩ := raise_frame s v c u d; rw [h]
@[simp] theorem raise_scr (s : State) (v c u : Nat) (d : Bytes) : (s.raise v c u d).scr = s.scr := by
  obtain ⟨g, r, h⟩ := raise_frame s v c u d; rw [h]
@[simp] theorem raise_dbg (s : State) (v c u : Nat) (d : Bytes) : (s.raise v c u d).dbg = s.dbg := by
  obtain ⟨g, r, h⟩ := raise_frame s v c u d; rw [h]
@[simp] theorem raise_run (s : State) (v c u : Nat) (d : Bytes) : (s.raise v c u d).run = s.run := by
  obtain ⟨g, r, h⟩ := raise_frame s v c u d; rw [h]
@[simp] theorem raise_mbox (s : State) (v c u : Nat) (d : Bytes) : (s.raise v c u d).mbox = s.mbox := by
  obtain ⟨g, r, h⟩ := raise_frame s v c u d; rw [h]
@[simp] theorem raise_lc (s : State) (v c u : Nat) (d : Bytes) : (s.raise v c u d).lc = s.lc := by
  obtain ⟨g, r, h⟩ := raise_frame s v c u d; rw [h]
@[simp] theorem raise_freeze (s : State) (v c u : Nat) (d : Bytes) : (s.raise v c u d).freeze = s.freeze := by
  obtain ⟨g, r, h⟩ := raise_frame s v c u d; rw [h]
@[simp] theorem raise_power (s : State) (v c u : Nat) (d : Bytes) : (s.raise v c u d).power = s.power := by
  obtain ⟨g, r, h⟩ := raise_frame s v c u d; rw [h]
@[simp] theorem raise_heat (s : State) (v c u : Nat) (d : Bytes) : (s.raise v c u d).heat = s.heat := by
  obtain ⟨g, r, h⟩ := raise_frame s v c u d; rw [h]
@[simp] theorem raise_dists (s : State) (v c u : Nat) (d : Bytes) : (s.raise v c u d).dists = s.dists := by
  obtain ⟨g, r, h⟩ := raise_frame s v c u d; rw [h]
@[simp] theorem raise_planes (s : State) (v c u : Nat) (d : Bytes) : (s.raise v c u d).planes = s.planes := by
  obtain ⟨g, r, h⟩ := raise_frame s v c u d; rw [h]
@[simp] theorem raise_frames (s : State) (v c u : Nat) (d : Bytes) : (s.raise v c u d).frames = s.frames := by
  obtain ⟨g, r, h⟩ := raise_frame s v c u d; rw [h]
@[simp] theorem raise_flops (s : State) (v c u : Nat) (d : Bytes) : (s.raise v c u d).flops = s.flops := by
  obtain ⟨g, r, h⟩ := raise_frame s v c u d; rw [h]
@[simp] theorem raise_fabric (s : State) (v c u : Nat) (d : Bytes) : (s.raise v c u d).fabric = s.fabric := by
  obtain ⟨g, r, h⟩ := raise_frame s v c u d; rw [h]
@[simp] theorem raise_guards (s : State) (v c u : Nat) (d : Bytes) : (s.raise v c u d).guards = s.guards := by
  obtain ⟨g, r, h⟩ := raise_frame s v c u d; rw [h]
@[simp] theorem raise_dram (s : State) (v c u : Nat) (d : Bytes) : (s.raise v c u d).dram = s.dram := by
  obtain ⟨g, r, h⟩ := raise_frame s v c u d; rw [h]
@[simp] theorem raise_pinsTaken (s : State) (v c u : Nat) (d : Bytes) : (s.raise v c u d).pinsTaken = s.pinsTaken := by
  obtain ⟨g, r, h⟩ := raise_frame s v c u d; rw [h]
@[simp] theorem raise_noted (s : State) (v c u : Nat) (d : Bytes) : (s.raise v c u d).noted = s.noted := by
  obtain ⟨g, r, h⟩ := raise_frame s v c u d; rw [h]
@[simp] theorem raise_ctl (s : State) (v c u : Nat) (d : Bytes) : (s.raise v c u d).ctl = s.ctl := by
  obtain ⟨g, r, h⟩ := raise_frame s v c u d; rw [h]
@[simp] theorem raise_core (s : State) (v c u : Nat) (d : Bytes) : (s.raise v c u d).core = s.core := by
  obtain ⟨g, r, h⟩ := raise_frame s v c u d; rw [h]
@[simp] theorem raise_keeper (s : State) (v c u : Nat) (d : Bytes) : (s.raise v c u d).keeper = s.keeper := by
  obtain ⟨g, r, h⟩ := raise_frame s v c u d; rw [h]
@[simp] theorem raise_devName (s : State) (v c u : Nat) (d : Bytes) : (s.raise v c u d).devName = s.devName := by
  obtain ⟨g, r, h⟩ := raise_frame s v c u d; rw [h]

@[simp] theorem answerTo_pending (w : Route) (c : Nat) (d : Bytes) (s : State) : (answerTo w c d s).pending = s.pending := by
  cases w <;> rfl
@[simp] theorem answerTo_regs (w : Route) (c : Nat) (d : Bytes) (s : State) : (answerTo w c d s).regs = s.regs := by
  cases w <;> rfl
@[simp] theorem answerTo_force (w : Route) (c : Nat) (d : Bytes) (s : State) : (answerTo w c d s).force = s.force := by
  cases w <;> rfl
@[simp] theorem answerTo_deferred (w : Route) (c : Nat) (d : Bytes) (s : State) : (answerTo w c d s).deferred = s.deferred := by
  cases w <;> rfl
@[simp] theorem answerTo_fv (w : Route) (c : Nat) (d : Bytes) (s : State) : (answerTo w c d s).fv = s.fv := by
  cases w <;> rfl
@[simp] theorem answerTo_dev (w : Route) (c : Nat) (d : Bytes) (s : State) : (answerTo w c d s).dev = s.dev := by
  cases w <;> rfl
@[simp] theorem answerTo_life (w : Route) (c : Nat) (d : Bytes) (s : State) : (answerTo w c d s).life = s.life := by
  cases w <;> rfl
@[simp] theorem answerTo_userRights (w : Route) (c : Nat) (d : Bytes) (s : State) : (answerTo w c d s).userRights = s.userRights := by
  cases w <;> rfl
@[simp] theorem answerTo_cut (w : Route) (c : Nat) (d : Bytes) (s : State) : (answerTo w c d s).cut = s.cut := by
  cases w <;> rfl
@[simp] theorem answerTo_lossHeld (w : Route) (c : Nat) (d : Bytes) (s : State) : (answerTo w c d s).lossHeld = s.lossHeld := by
  cases w <;> rfl
@[simp] theorem answerTo_lossFrom (w : Route) (c : Nat) (d : Bytes) (s : State) : (answerTo w c d s).lossFrom = s.lossFrom := by
  cases w <;> rfl
@[simp] theorem answerTo_safeDue (w : Route) (c : Nat) (d : Bytes) (s : State) : (answerTo w c d s).safeDue = s.safeDue := by
  cases w <;> rfl
@[simp] theorem answerTo_resetDue (w : Route) (c : Nat) (d : Bytes) (s : State) : (answerTo w c d s).resetDue = s.resetDue := by
  cases w <;> rfl
@[simp] theorem answerTo_fabricOn (w : Route) (c : Nat) (d : Bytes) (s : State) : (answerTo w c d s).fabricOn = s.fabricOn := by
  cases w <;> rfl
@[simp] theorem answerTo_tb (w : Route) (c : Nat) (d : Bytes) (s : State) : (answerTo w c d s).tb = s.tb := by
  cases w <;> rfl
@[simp] theorem answerTo_rb (w : Route) (c : Nat) (d : Bytes) (s : State) : (answerTo w c d s).rb = s.rb := by
  cases w <;> rfl
@[simp] theorem answerTo_ports (w : Route) (c : Nat) (d : Bytes) (s : State) : (answerTo w c d s).ports = s.ports := by
  cases w <;> rfl
@[simp] theorem answerTo_cells (w : Route) (c : Nat) (d : Bytes) (s : State) : (answerTo w c d s).cells = s.cells := by
  cases w <;> rfl
@[simp] theorem answerTo_banks (w : Route) (c : Nat) (d : Bytes) (s : State) : (answerTo w c d s).banks = s.banks := by
  cases w <;> rfl
@[simp] theorem answerTo_lanes (w : Route) (c : Nat) (d : Bytes) (s : State) : (answerTo w c d s).lanes = s.lanes := by
  cases w <;> rfl
@[simp] theorem answerTo_fixed (w : Route) (c : Nat) (d : Bytes) (s : State) : (answerTo w c d s).fixed = s.fixed := by
  cases w <;> rfl
@[simp] theorem answerTo_rings (w : Route) (c : Nat) (d : Bytes) (s : State) : (answerTo w c d s).rings = s.rings := by
  cases w <;> rfl
@[simp] theorem answerTo_mem (w : Route) (c : Nat) (d : Bytes) (s : State) : (answerTo w c d s).mem = s.mem := by
  cases w <;> rfl
@[simp] theorem answerTo_bist (w : Route) (c : Nat) (d : Bytes) (s : State) : (answerTo w c d s).bist = s.bist := by
  cases w <;> rfl
@[simp] theorem answerTo_dec (w : Route) (c : Nat) (d : Bytes) (s : State) : (answerTo w c d s).dec = s.dec := by
  cases w <;> rfl
@[simp] theorem answerTo_eb (w : Route) (c : Nat) (d : Bytes) (s : State) : (answerTo w c d s).eb = s.eb := by
  cases w <;> rfl
@[simp] theorem answerTo_queues (w : Route) (c : Nat) (d : Bytes) (s : State) : (answerTo w c d s).queues = s.queues := by
  cases w <;> rfl
@[simp] theorem answerTo_qports (w : Route) (c : Nat) (d : Bytes) (s : State) : (answerTo w c d s).qports = s.qports := by
  cases w <;> rfl
@[simp] theorem answerTo_trunks (w : Route) (c : Nat) (d : Bytes) (s : State) : (answerTo w c d s).trunks = s.trunks := by
  cases w <;> rfl
@[simp] theorem answerTo_load (w : Route) (c : Nat) (d : Bytes) (s : State) : (answerTo w c d s).load = s.load := by
  cases w <;> rfl
@[simp] theorem answerTo_scr (w : Route) (c : Nat) (d : Bytes) (s : State) : (answerTo w c d s).scr = s.scr := by
  cases w <;> rfl
@[simp] theorem answerTo_dbg (w : Route) (c : Nat) (d : Bytes) (s : State) : (answerTo w c d s).dbg = s.dbg := by
  cases w <;> rfl
@[simp] theorem answerTo_run (w : Route) (c : Nat) (d : Bytes) (s : State) : (answerTo w c d s).run = s.run := by
  cases w <;> rfl
@[simp] theorem answerTo_mbox (w : Route) (c : Nat) (d : Bytes) (s : State) : (answerTo w c d s).mbox = s.mbox := by
  cases w <;> rfl
@[simp] theorem answerTo_lc (w : Route) (c : Nat) (d : Bytes) (s : State) : (answerTo w c d s).lc = s.lc := by
  cases w <;> rfl
@[simp] theorem answerTo_freeze (w : Route) (c : Nat) (d : Bytes) (s : State) : (answerTo w c d s).freeze = s.freeze := by
  cases w <;> rfl
@[simp] theorem answerTo_power (w : Route) (c : Nat) (d : Bytes) (s : State) : (answerTo w c d s).power = s.power := by
  cases w <;> rfl
@[simp] theorem answerTo_heat (w : Route) (c : Nat) (d : Bytes) (s : State) : (answerTo w c d s).heat = s.heat := by
  cases w <;> rfl
@[simp] theorem answerTo_dists (w : Route) (c : Nat) (d : Bytes) (s : State) : (answerTo w c d s).dists = s.dists := by
  cases w <;> rfl
@[simp] theorem answerTo_planes (w : Route) (c : Nat) (d : Bytes) (s : State) : (answerTo w c d s).planes = s.planes := by
  cases w <;> rfl
@[simp] theorem answerTo_frames (w : Route) (c : Nat) (d : Bytes) (s : State) : (answerTo w c d s).frames = s.frames := by
  cases w <;> rfl
@[simp] theorem answerTo_flops (w : Route) (c : Nat) (d : Bytes) (s : State) : (answerTo w c d s).flops = s.flops := by
  cases w <;> rfl
@[simp] theorem answerTo_fabric (w : Route) (c : Nat) (d : Bytes) (s : State) : (answerTo w c d s).fabric = s.fabric := by
  cases w <;> rfl
@[simp] theorem answerTo_guards (w : Route) (c : Nat) (d : Bytes) (s : State) : (answerTo w c d s).guards = s.guards := by
  cases w <;> rfl
@[simp] theorem answerTo_dram (w : Route) (c : Nat) (d : Bytes) (s : State) : (answerTo w c d s).dram = s.dram := by
  cases w <;> rfl
@[simp] theorem answerTo_recorder (w : Route) (c : Nat) (d : Bytes) (s : State) : (answerTo w c d s).recorder = s.recorder := by
  cases w <;> rfl
@[simp] theorem answerTo_pinsTaken (w : Route) (c : Nat) (d : Bytes) (s : State) : (answerTo w c d s).pinsTaken = s.pinsTaken := by
  cases w <;> rfl
@[simp] theorem answerTo_noted (w : Route) (c : Nat) (d : Bytes) (s : State) : (answerTo w c d s).noted = s.noted := by
  cases w <;> rfl
@[simp] theorem answerTo_core (w : Route) (c : Nat) (d : Bytes) (s : State) : (answerTo w c d s).core = s.core := by
  cases w <;> rfl
@[simp] theorem answerTo_keeper (w : Route) (c : Nat) (d : Bytes) (s : State) : (answerTo w c d s).keeper = s.keeper := by
  cases w <;> rfl
@[simp] theorem answerTo_devName (w : Route) (c : Nat) (d : Bytes) (s : State) : (answerTo w c d s).devName = s.devName := by
  cases w <;> rfl
@[simp] theorem answerTo_rget (w : Route) (c : Nat) (d : Bytes) (s : State) (e : El) (u : Nat) :
    (answerTo w c d s).rget e u = s.rget e u := by
  simp [State.rget]

/-- Writing a word of a bank keeps the canonical form of the words. -/
theorem cellsOk_setCellAt {s : State} (q place addr : Nat) (x : StoredWord) (h : CellsOk s) :
    CellsOk (s.setCellAt q place addr x) := by
  obtain ⟨hr, ha⟩ := h
  unfold CellsOk State.setCellAt mset
  split
  · exact ⟨risingFrom_filter _ hr, all_filter _ _ ha⟩
  · exact ⟨risingFrom_mput _ (by omega) hr, all_mput (fun p => p.2 != s.blankWord (p.1 / 32768)) (by simpa using ‹_›) ha⟩

/-! Stores and loads of the core (R381). -/

/-- Where a store of one word faults: at its address, where protection refuses it. -/
theorem firstFault_wordStore (m : Bool) (a : Nat) (f : State → State) (s : State) :
    s.firstFault m (wordStore a f) = if s.coreMay m true a then none else some a := by
  cases h : s.coreMay m true a <;> simp [State.firstFault, wordStore, ceilDiv, List.range, List.range.loop, h]

/-- A word that the core stores first: its effect and then the rest where protection lets the store pass, else a store access
fault alone. -/
theorem coreStores_word (m : Bool) (a : Nat) (f : State → State) (rest : List CoreStore) (s : State) :
    coreStores m (wordStore a f :: rest) s = if s.coreMay m true a then coreStores m rest (f s) else accessFault true a s := by
  rw [coreStores, firstFault_wordStore]
  cases s.coreMay m true a <;> simp [wordStore]

@[simp] theorem coreStores_nil (m : Bool) (s : State) : coreStores m [] s = s := rfl

/-- A load that protection lets pass has its effect; any other is a load access fault. -/
theorem coreLoad_eq (m : Bool) (a : Nat) (f : State → State) (s : State) :
    coreLoad m a f s = if s.coreMay m false a then f s else accessFault false a s := rfl

/-- User mode reaches nothing in a machine-only region. -/
theorem coreMay_user (store : Bool) (a : Nat) (s : State) (h : (regionOf a).machineOnly = true) :
    s.coreMay false store a = false := by
  simp [State.coreMay, h]

end Sys2Proof.Machine
end

