-- ==== Sys2Proof/Laws/Frames.lean ====
section
/-! SUPPORT. A frame stored with fresh check bits and tag reads CLEAN, and reads its data. -/

namespace Sys2Proof.Machine

theorem checkFold_lt (w : Nat) (cs : List Nat) (d acc : Nat) (h : ∀ c ∈ cs, c < 2 ^ w) (ha : acc < 2 ^ w) :
    checkFold cs d acc < 2 ^ w := by
  induction cs generalizing d acc with
  | nil => exact ha
  | cons c cs ih =>
    refine ih _ _ (fun x hx => h x (List.mem_cons_of_mem _ hx)) ?_
    split
    · exact Nat.xor_lt_two_pow ha (h c List.mem_cons_self)
    · exact ha

theorem frameParity_lt (body : Nat) : frameParity body < 2 ^ 12 := by
  refine checkFold_lt 12 framePositions body 0 (fun c hc => ?_) (by decide)
  simp only [framePositions, List.mem_filter, List.mem_range] at hc
  omega

/-- The parity of a value put together from two parts is that of the parts. -/
theorem oddBits_add (a b x y : Nat) (hx : x < 2 ^ a) : oddBits (a + b) (x + y * 2 ^ a) = (oddBits a x != oddBits b y) := by
  induction a generalizing x with
  | zero =>
    have : x = 0 := by simpa using hx
    subst this
    simp [oddBits]
  | succ a ih =>
    have h2 : x / 2 < 2 ^ a := by rw [Nat.pow_succ] at hx; omega
    have e0 : y * 2 ^ (a + 1) = 2 * (y * 2 ^ a) := by rw [Nat.pow_succ, ← Nat.mul_assoc, Nat.mul_comm]
    have e1 : (x + y * 2 ^ (a + 1)) / 2 = x / 2 + y * 2 ^ a := by omega
    have e2 : (x + y * 2 ^ (a + 1)) % 2 = x % 2 := by omega
    rw [Nat.succ_add]
    simp only [oddBits, e1, e2, ih _ h2]
    cases decide (x % 2 = 1) <;> cases oddBits a (x / 2) <;> cases oddBits b y <;> rfl

theorem reflectStep_lt (poly n r : Nat) (hp : poly < 2 ^ 32) (hr : r < 2 ^ 32) : reflectStep poly n r < 2 ^ 32 := by
  induction n generalizing r with
  | zero => exact hr
  | succ n ih =>
    refine ih _ ?_
    split
    · exact Nat.xor_lt_two_pow (by omega) hp
    · omega

theorem crcReflected_lt (poly : Nat) (bs : Bytes) (hp : poly < 2 ^ 32) : crcReflected poly bs < 2 ^ 32 := by
  refine Nat.xor_lt_two_pow ?_ (by decide)
  have : ∀ (l : Bytes) (r : Nat), r < 2 ^ 32 → l.foldl (fun r b => reflectStep poly 8 (Nat.xor r b.toNat)) r < 2 ^ 32 := by
    intro l
    induction l with
    | nil => exact fun r hr => hr
    | cons b l ih =>
      intro r hr
      exact ih _ (reflectStep_lt _ _ _ hp (Nat.xor_lt_two_pow hr (by have := b.isLt; omega)))
  exact this bs _ (by decide)

theorem frameTag_lt (plane frame : Nat) (data : BitVec 2048) : frameTag plane frame data < 2 ^ 32 :=
  crcReflected_lt _ _ (by decide)

/-- The stored bits as a number: DATA, TAG, P[11:0] and P[12]. -/
theorem makeFrame_toNat (plane frame : Nat) (data : BitVec 2048) :
    ∃ top, top < 2 ∧ oddBits 1 top = (oddBits 2080 (data.toNat + frameTag plane frame data * 2 ^ 2048) !=
        oddBits 12 (frameParity (data.toNat + frameTag plane frame data * 2 ^ 2048))) ∧
      (makeFrame plane frame data).toNat = (data.toNat + frameTag plane frame data * 2 ^ 2048)
        + (frameParity (data.toNat + frameTag plane frame data * 2 ^ 2048) + top * 2 ^ 12) * 2 ^ 2080 := by
  have hd := data.isLt
  have ht := frameTag_lt plane frame data
  generalize hb : data.toNat + frameTag plane frame data * 2 ^ 2048 = body
  have hp := frameParity_lt body
  have hbody : body < 2 ^ 2080 := by
    have : (2 : Nat) ^ 2080 = 2 ^ 32 * 2 ^ 2048 := by rw [← Nat.pow_add]
    have := Nat.mul_le_mul_right (2 ^ 2048) (Nat.le_sub_one_of_lt ht)
    omega
  refine ⟨if oddBits 2080 body != oddBits 12 (frameParity body) then 1 else 0, by split <;> decide, ?_, ?_⟩
  · generalize (oddBits 2080 body != oddBits 12 (frameParity body)) = z
    cases z <;> rfl
  · unfold makeFrame
    dsimp only
    rw [hb]
    generalize ht : (if (oddBits 2080 body != oddBits 12 (frameParity body)) = true then 1 else 0) = top
    have htop : top < 2 := by subst ht; split <;> decide
    have e : body + frameParity body * 2 ^ 2080 + top * 2 ^ 2092 = body + (frameParity body + top * 2 ^ 12) * 2 ^ 2080 := by
      have : (2 : Nat) ^ 2092 = 2 ^ 12 * 2 ^ 2080 := by rw [← Nat.pow_add]
      rw [this, Nat.add_mul, Nat.mul_assoc, Nat.add_assoc]
    rw [e, BitVec.toNat_ofNat, Nat.mod_eq_of_lt]
    have h13 : frameParity body + top * 2 ^ 12 ≤ 2 ^ 13 - 1 := by omega
    have := Nat.mul_le_mul_right (2 ^ 2080) h13
    have e2 : (2 : Nat) ^ 2093 = 2 ^ 13 * 2 ^ 2080 := by rw [← Nat.pow_add]
    rw [e2]
    omega

theorem frameData_makeFrame (plane frame : Nat) (data : BitVec 2048) : frameData (makeFrame plane frame data) = data := by
  obtain ⟨top, -, -, h⟩ := makeFrame_toNat plane frame data
  apply BitVec.eq_of_toNat_eq
  have hd := data.isLt
  unfold frameData
  rw [BitVec.toNat_setWidth, h]
  have e : (2 : Nat) ^ 2080 = 2 ^ 32 * 2 ^ 2048 := by rw [← Nat.pow_add]
  rw [e, ← Nat.mul_assoc, Nat.add_assoc, ← Nat.add_mul, Nat.add_mul_mod_self_right, Nat.mod_eq_of_lt hd]

/-- The tag made for a frame verifies. -/
theorem tagVerifies_makeFrame (plane frame : Nat) (data : BitVec 2048) : tagVerifies plane frame (makeFrame plane frame data) = true := by
  obtain ⟨top, -, -, h⟩ := makeFrame_toNat plane frame data
  have ht := frameTag_lt plane frame data
  have hd := data.isLt
  unfold tagVerifies
  rw [frameData_makeFrame, h, beq_iff_eq]
  unfold bitsOf
  have e : (2 : Nat) ^ 2080 = 2 ^ 32 * 2 ^ 2048 := by rw [← Nat.pow_add]
  rw [e, ← Nat.mul_assoc, Nat.add_assoc, ← Nat.add_mul, Nat.add_mul_div_right _ _ (by exact Nat.two_pow_pos 2048),
    Nat.div_eq_of_lt hd, Nat.zero_add, show 2079 + 1 - 2048 = 32 from rfl, Nat.add_mul_mod_self_right,
    Nat.mod_eq_of_lt ht]

/-- What a read of stored bits sees: the body, its check bits, and the parity of all. -/
theorem stored_parts (v body p top : Nat) (hb : body < 2 ^ 2080) (hp : p < 2 ^ 12)
    (h : v = body + (p + top * 2 ^ 12) * 2 ^ 2080) :
    v % 2 ^ 2080 = body ∧ bitsOf v 2091 2080 = p ∧
      oddBits 2093 v = (oddBits 2080 body != (oddBits 12 p != oddBits 1 top)) := by
  refine ⟨?_, ?_, ?_⟩
  · rw [h, Nat.add_mul_mod_self_right, Nat.mod_eq_of_lt hb]
  · unfold bitsOf
    rw [h, Nat.add_mul_div_right _ _ (Nat.two_pow_pos 2080), Nat.div_eq_of_lt hb, Nat.zero_add,
      show 2091 + 1 - 2080 = 12 from rfl, Nat.add_mul_mod_self_right, Nat.mod_eq_of_lt hp]
  · rw [h, show 2093 = 2080 + 13 from rfl, oddBits_add 2080 13 _ _ hb, show 13 = 12 + 1 from rfl, oddBits_add 12 1 _ _ hp]

/-- DATA and TAG of a frame fit their bits. -/
theorem frameBody_lt (plane frame : Nat) (data : BitVec 2048) :
    data.toNat + frameTag plane frame data * 2 ^ 2048 < 2 ^ 2080 := by
  have ht := frameTag_lt plane frame data
  have hd := data.isLt
  have : (2 : Nat) ^ 2080 = 2 ^ 32 * 2 ^ 2048 := by rw [← Nat.pow_add]
  have := Nat.mul_le_mul_right (2 ^ 2048) (Nat.le_sub_one_of_lt ht)
  omega

/-- A frame stored with its check bits and tag made reads CLEAN. -/
theorem classify_makeFrame (plane frame : Nat) (data : BitVec 2048) : classify plane frame (makeFrame plane frame data) = .clean := by
  obtain ⟨top, -, hodd, h⟩ := makeFrame_toNat plane frame data
  obtain ⟨h1, h2, h3⟩ := stored_parts _ _ _ top (frameBody_lt plane frame data) (frameParity_lt _) h
  rw [hodd] at h3
  have h4 : oddBits 2093 (makeFrame plane frame data).toNat = false := by
    rw [h3]
    generalize oddBits 2080 _ = a
    generalize oddBits 12 _ = b
    cases a <;> cases b <;> rfl
  unfold classify
  dsimp only
  rw [h1, h2, h4]
  simp [tagVerifies_makeFrame]

theorem xor_one_flip (top : Nat) (h : top < 2) : top ^^^ 1 = 1 - top := by
  match top, h with
  | 0, _ | 1, _ => rfl

theorem oddBits_flip (top : Nat) (h : top < 2) : oddBits 1 (1 - top) = !oddBits 1 top := by
  match top, h with
  | 0, _ | 1, _ => rfl

/-- A frame whose overall parity bit alone is wrong reads CORRECTED. -/
theorem classify_topWrong (plane frame : Nat) (data : BitVec 2048) :
    classify plane frame (makeFrame plane frame data ^^^ (1#2093 <<< 2092)) = .corrected (makeFrame plane frame data) := by
  obtain ⟨top, htop, hodd, h⟩ := makeFrame_toNat plane frame data
  have hb := frameBody_lt plane frame data
  generalize hbody : data.toNat + frameTag plane frame data * 2 ^ 2048 = body at h hodd hb
  have hp := frameParity_lt body
  have hone : (1#2093 <<< 2092).toNat = 2 ^ 2092 := by decide +kernel
  have e2092 : (2 : Nat) ^ 2092 = 2 ^ 12 * 2 ^ 2080 := by rw [← Nat.pow_add]
  have hlo : body + frameParity body * 2 ^ 2080 < 2 ^ 2092 := by
    have := Nat.mul_le_mul_right (2 ^ 2080) (Nat.le_sub_one_of_lt hp)
    omega
  have h' : (makeFrame plane frame data).toNat = (body + frameParity body * 2 ^ 2080) + top * 2 ^ 2092 := by
    rw [h, e2092, Nat.add_mul, Nat.mul_assoc, Nat.add_assoc]
  have hx : (makeFrame plane frame data ^^^ (1#2093 <<< 2092)).toNat = body + (frameParity body + (1 - top) * 2 ^ 12) * 2 ^ 2080 := by
    have q1 : (makeFrame plane frame data ^^^ (1#2093 <<< 2092)).toNat % 2 ^ 2092 = body + frameParity body * 2 ^ 2080 := by
      rw [BitVec.toNat_xor, hone, Nat.xor_mod_two_pow, Nat.mod_self, Nat.xor_zero, h', Nat.add_mul_mod_self_right,
        Nat.mod_eq_of_lt hlo]
    have q2 : (makeFrame plane frame data ^^^ (1#2093 <<< 2092)).toNat / 2 ^ 2092 = 1 - top := by
      rw [BitVec.toNat_xor, hone, Nat.xor_div_two_pow, Nat.div_self (Nat.two_pow_pos 2092), h',
        Nat.add_mul_div_right _ _ (Nat.two_pow_pos 2092), Nat.div_eq_of_lt hlo, Nat.zero_add]
      exact xor_one_flip top htop
    have := Nat.mod_add_div (makeFrame plane frame data ^^^ (1#2093 <<< 2092)).toNat (2 ^ 2092)
    rw [q1, q2] at this
    rw [← this, e2092, Nat.add_mul, Nat.mul_comm (2 ^ 12 * 2 ^ 2080), Nat.mul_assoc, Nat.add_assoc]
  obtain ⟨h1, h2, h3⟩ := stored_parts _ _ _ (1 - top) hb hp hx
  have h4 : oddBits 2093 (makeFrame plane frame data ^^^ (1#2093 <<< 2092)).toNat = true := by
    rw [h3, oddBits_flip top htop, hodd]
    cases oddBits 2080 body <;> cases oddBits 12 (frameParity body) <;> rfl
  have hf : (makeFrame plane frame data ^^^ (1#2093 <<< 2092)) ^^^ (1#2093 <<< 2092) = makeFrame plane frame data := by
    rw [BitVec.xor_assoc, BitVec.xor_self, BitVec.xor_zero]
  unfold classify
  dsimp only
  rw [h1, h2, h4]
  have z : (frameParity body).xor (frameParity body) = 0 := Nat.xor_self _
  rw [z]
  simp only [namedBit, if_true, hf, tagVerifies_makeFrame]
  rfl

/-- A frame whose cells are sound, once written, holds its data under fresh check bits and tag. -/
@[simp] theorem writeFrame_frame {plane frame : Nat} (data : BitVec 2048) {s : State}
    (h : mfind s.scr.damage (frameKey plane frame) = none) :
    (writeFrame plane frame data s).frame plane frame = makeFrame plane frame data := by
  simp [writeFrame, setFrameCells, h, State.setFrame, State.frame, mget_mset_same]

/-- A frame just written to sound cells reads back CLEAN. -/
@[simp] theorem readsBack_writeFrame {plane frame : Nat} (data : BitVec 2048) {s : State}
    (h : mfind s.scr.damage (frameKey plane frame) = none) :
    (writeFrame plane frame data s).readsBack plane frame = true := by
  simp [State.readsBack, writeFrame_frame data h, classify_makeFrame]

/-- A frame just written to sound cells verifies. -/
@[simp] theorem verifies_writeFrame {plane frame : Nat} (data : BitVec 2048) {s : State}
    (h : mfind s.scr.damage (frameKey plane frame) = none) :
    (writeFrame plane frame data s).verifies plane frame = true := by
  simp [State.verifies, writeFrame_frame data h, classify_makeFrame]

/-- What two attempts at a frame do: a first write that stands is the only one. -/
theorem writeTwice_eq (stands : State → Bool) (plane frame : Nat) (data : BitVec 2048) (s : State) :
    writeTwice stands plane frame data s =
      if stands (writeFrame plane frame data s) then (true, writeFrame plane frame data s)
      else (stands (writeFrame plane frame data (writeFrame plane frame data s)),
        writeFrame plane frame data (writeFrame plane frame data s)) := rfl

/-- On sound cells the first write of a repair is the only one. -/
@[simp] theorem writeChecked_eq {plane frame : Nat} (data : BitVec 2048) {s : State}
    (h : mfind s.scr.damage (frameKey plane frame) = none) :
    writeChecked plane frame data s = (true, writeFrame plane frame data s) := by
  simp [writeChecked, writeTwice_eq, readsBack_writeFrame data h]

/-- On sound cells the first write of a load or a port is the only one. -/
@[simp] theorem writeVerified_eq {plane frame : Nat} (data : BitVec 2048) {s : State}
    (h : mfind s.scr.damage (frameKey plane frame) = none) :
    writeVerified plane frame data s = (true, writeFrame plane frame data s) := by
  simp [writeVerified, writeTwice_eq, verifies_writeFrame data h]

end Sys2Proof.Machine
end

