-- ==== Sys2Proof/Laws/State.lean ====
section
/-! SUPPORT. What each update of State leaves: one lemma per field per update, so that no proof unfolds a record update. -/

namespace Sys2Proof.Machine.State

variable (s : State)

section
variable (e : El) (u v : Nat)

@[simp] theorem rset_pending : (s.rset e u v).pending = s.pending := rfl
@[simp] theorem rset_force : (s.rset e u v).force = s.force := rfl
@[simp] theorem rset_deferred : (s.rset e u v).deferred = s.deferred := rfl
@[simp] theorem rset_fv : (s.rset e u v).fv = s.fv := rfl
@[simp] theorem rset_dev : (s.rset e u v).dev = s.dev := rfl
@[simp] theorem rset_life : (s.rset e u v).life = s.life := rfl
@[simp] theorem rset_userRights : (s.rset e u v).userRights = s.userRights := rfl
@[simp] theorem rset_cut : (s.rset e u v).cut = s.cut := rfl
@[simp] theorem rset_lossHeld : (s.rset e u v).lossHeld = s.lossHeld := rfl
@[simp] theorem rset_lossFrom : (s.rset e u v).lossFrom = s.lossFrom := rfl
@[simp] theorem rset_safeDue : (s.rset e u v).safeDue = s.safeDue := rfl
@[simp] theorem rset_resetDue : (s.rset e u v).resetDue = s.resetDue := rfl
@[simp] theorem rset_fabricOn : (s.rset e u v).fabricOn = s.fabricOn := rfl
@[simp] theorem rset_tb : (s.rset e u v).tb = s.tb := rfl
@[simp] theorem rset_rb : (s.rset e u v).rb = s.rb := rfl
@[simp] theorem rset_ports : (s.rset e u v).ports = s.ports := rfl
@[simp] theorem rset_cells : (s.rset e u v).cells = s.cells := rfl
@[simp] theorem rset_banks : (s.rset e u v).banks = s.banks := rfl
@[simp] theorem rset_lanes : (s.rset e u v).lanes = s.lanes := rfl
@[simp] theorem rset_fixed : (s.rset e u v).fixed = s.fixed := rfl
@[simp] theorem rset_rings : (s.rset e u v).rings = s.rings := rfl
@[simp] theorem rset_mem : (s.rset e u v).mem = s.mem := rfl
@[simp] theorem rset_bist : (s.rset e u v).bist = s.bist := rfl
@[simp] theorem rset_dec : (s.rset e u v).dec = s.dec := rfl
@[simp] theorem rset_eb : (s.rset e u v).eb = s.eb := rfl
@[simp] theorem rset_queues : (s.rset e u v).queues = s.queues := rfl
@[simp] theorem rset_qports : (s.rset e u v).qports = s.qports := rfl
@[simp] theorem rset_trunks : (s.rset e u v).trunks = s.trunks := rfl
@[simp] theorem rset_load : (s.rset e u v).load = s.load := rfl
@[simp] theorem rset_scr : (s.rset e u v).scr = s.scr := rfl
@[simp] theorem rset_dbg : (s.rset e u v).dbg = s.dbg := rfl
@[simp] theorem rset_run : (s.rset e u v).run = s.run := rfl
@[simp] theorem rset_mbox : (s.rset e u v).mbox = s.mbox := rfl
@[simp] theorem rset_lc : (s.rset e u v).lc = s.lc := rfl
@[simp] theorem rset_freeze : (s.rset e u v).freeze = s.freeze := rfl
@[simp] theorem rset_power : (s.rset e u v).power = s.power := rfl
@[simp] theorem rset_heat : (s.rset e u v).heat = s.heat := rfl
@[simp] theorem rset_dists : (s.rset e u v).dists = s.dists := rfl
@[simp] theorem rset_planes : (s.rset e u v).planes = s.planes := rfl
@[simp] theorem rset_frames : (s.rset e u v).frames = s.frames := rfl
@[simp] theorem rset_flops : (s.rset e u v).flops = s.flops := rfl
@[simp] theorem rset_fabric : (s.rset e u v).fabric = s.fabric := rfl
@[simp] theorem rset_guards : (s.rset e u v).guards = s.guards := rfl
@[simp] theorem rset_dram : (s.rset e u v).dram = s.dram := rfl
@[simp] theorem rset_recorder : (s.rset e u v).recorder = s.recorder := rfl
@[simp] theorem rset_pinsTaken : (s.rset e u v).pinsTaken = s.pinsTaken := rfl
@[simp] theorem rset_noted : (s.rset e u v).noted = s.noted := rfl
@[simp] theorem rset_ctl : (s.rset e u v).ctl = s.ctl := rfl
@[simp] theorem rset_core : (s.rset e u v).core = s.core := rfl
@[simp] theorem rset_keeper : (s.rset e u v).keeper = s.keeper := rfl
@[simp] theorem rset_devName : (s.rset e u v).devName = s.devName := rfl
end

section
variable (e : El) (u n : Nat)

@[simp] theorem radd_pending : (s.radd e u n).pending = s.pending := rfl
@[simp] theorem radd_force : (s.radd e u n).force = s.force := rfl
@[simp] theorem radd_deferred : (s.radd e u n).deferred = s.deferred := rfl
@[simp] theorem radd_fv : (s.radd e u n).fv = s.fv := rfl
@[simp] theorem radd_dev : (s.radd e u n).dev = s.dev := rfl
@[simp] theorem radd_life : (s.radd e u n).life = s.life := rfl
@[simp] theorem radd_userRights : (s.radd e u n).userRights = s.userRights := rfl
@[simp] theorem radd_cut : (s.radd e u n).cut = s.cut := rfl
@[simp] theorem radd_lossHeld : (s.radd e u n).lossHeld = s.lossHeld := rfl
@[simp] theorem radd_lossFrom : (s.radd e u n).lossFrom = s.lossFrom := rfl
@[simp] theorem radd_safeDue : (s.radd e u n).safeDue = s.safeDue := rfl
@[simp] theorem radd_resetDue : (s.radd e u n).resetDue = s.resetDue := rfl
@[simp] theorem radd_fabricOn : (s.radd e u n).fabricOn = s.fabricOn := rfl
@[simp] theorem radd_tb : (s.radd e u n).tb = s.tb := rfl
@[simp] theorem radd_rb : (s.radd e u n).rb = s.rb := rfl
@[simp] theorem radd_ports : (s.radd e u n).ports = s.ports := rfl
@[simp] theorem radd_cells : (s.radd e u n).cells = s.cells := rfl
@[simp] theorem radd_banks : (s.radd e u n).banks = s.banks := rfl
@[simp] theorem radd_lanes : (s.radd e u n).lanes = s.lanes := rfl
@[simp] theorem radd_fixed : (s.radd e u n).fixed = s.fixed := rfl
@[simp] theorem radd_rings : (s.radd e u n).rings = s.rings := rfl
@[simp] theorem radd_mem : (s.radd e u n).mem = s.mem := rfl
@[simp] theorem radd_bist : (s.radd e u n).bist = s.bist := rfl
@[simp] theorem radd_dec : (s.radd e u n).dec = s.dec := rfl
@[simp] theorem radd_eb : (s.radd e u n).eb = s.eb := rfl
@[simp] theorem radd_queues : (s.radd e u n).queues = s.queues := rfl
@[simp] theorem radd_qports : (s.radd e u n).qports = s.qports := rfl
@[simp] theorem radd_trunks : (s.radd e u n).trunks = s.trunks := rfl
@[simp] theorem radd_load : (s.radd e u n).load = s.load := rfl
@[simp] theorem radd_scr : (s.radd e u n).scr = s.scr := rfl
@[simp] theorem radd_dbg : (s.radd e u n).dbg = s.dbg := rfl
@[simp] theorem radd_run : (s.radd e u n).run = s.run := rfl
@[simp] theorem radd_mbox : (s.radd e u n).mbox = s.mbox := rfl
@[simp] theorem radd_lc : (s.radd e u n).lc = s.lc := rfl
@[simp] theorem radd_freeze : (s.radd e u n).freeze = s.freeze := rfl
@[simp] theorem radd_power : (s.radd e u n).power = s.power := rfl
@[simp] theorem radd_heat : (s.radd e u n).heat = s.heat := rfl
@[simp] theorem radd_dists : (s.radd e u n).dists = s.dists := rfl
@[simp] theorem radd_planes : (s.radd e u n).planes = s.planes := rfl
@[simp] theorem radd_frames : (s.radd e u n).frames = s.frames := rfl
@[simp] theorem radd_flops : (s.radd e u n).flops = s.flops := rfl
@[simp] theorem radd_fabric : (s.radd e u n).fabric = s.fabric := rfl
@[simp] theorem radd_guards : (s.radd e u n).guards = s.guards := rfl
@[simp] theorem radd_dram : (s.radd e u n).dram = s.dram := rfl
@[simp] theorem radd_recorder : (s.radd e u n).recorder = s.recorder := rfl
@[simp] theorem radd_pinsTaken : (s.radd e u n).pinsTaken = s.pinsTaken := rfl
@[simp] theorem radd_noted : (s.radd e u n).noted = s.noted := rfl
@[simp] theorem radd_ctl : (s.radd e u n).ctl = s.ctl := rfl
@[simp] theorem radd_core : (s.radd e u n).core = s.core := rfl
@[simp] theorem radd_keeper : (s.radd e u n).keeper = s.keeper := rfl
@[simp] theorem radd_devName : (s.radd e u n).devName = s.devName := rfl
end

section
variable (e : El) (u : Nat)

@[simp] theorem rinc_pending : (s.rinc e u).pending = s.pending := rfl
@[simp] theorem rinc_force : (s.rinc e u).force = s.force := rfl
@[simp] theorem rinc_deferred : (s.rinc e u).deferred = s.deferred := rfl
@[simp] theorem rinc_fv : (s.rinc e u).fv = s.fv := rfl
@[simp] theorem rinc_dev : (s.rinc e u).dev = s.dev := rfl
@[simp] theorem rinc_life : (s.rinc e u).life = s.life := rfl
@[simp] theorem rinc_userRights : (s.rinc e u).userRights = s.userRights := rfl
@[simp] theorem rinc_cut : (s.rinc e u).cut = s.cut := rfl
@[simp] theorem rinc_lossHeld : (s.rinc e u).lossHeld = s.lossHeld := rfl
@[simp] theorem rinc_lossFrom : (s.rinc e u).lossFrom = s.lossFrom := rfl
@[simp] theorem rinc_safeDue : (s.rinc e u).safeDue = s.safeDue := rfl
@[simp] theorem rinc_resetDue : (s.rinc e u).resetDue = s.resetDue := rfl
@[simp] theorem rinc_fabricOn : (s.rinc e u).fabricOn = s.fabricOn := rfl
@[simp] theorem rinc_tb : (s.rinc e u).tb = s.tb := rfl
@[simp] theorem rinc_rb : (s.rinc e u).rb = s.rb := rfl
@[simp] theorem rinc_ports : (s.rinc e u).ports = s.ports := rfl
@[simp] theorem rinc_cells : (s.rinc e u).cells = s.cells := rfl
@[simp] theorem rinc_banks : (s.rinc e u).banks = s.banks := rfl
@[simp] theorem rinc_lanes : (s.rinc e u).lanes = s.lanes := rfl
@[simp] theorem rinc_fixed : (s.rinc e u).fixed = s.fixed := rfl
@[simp] theorem rinc_rings : (s.rinc e u).rings = s.rings := rfl
@[simp] theorem rinc_mem : (s.rinc e u).mem = s.mem := rfl
@[simp] theorem rinc_bist : (s.rinc e u).bist = s.bist := rfl
@[simp] theorem rinc_dec : (s.rinc e u).dec = s.dec := rfl
@[simp] theorem rinc_eb : (s.rinc e u).eb = s.eb := rfl
@[simp] theorem rinc_queues : (s.rinc e u).queues = s.queues := rfl
@[simp] theorem rinc_qports : (s.rinc e u).qports = s.qports := rfl
@[simp] theorem rinc_trunks : (s.rinc e u).trunks = s.trunks := rfl
@[simp] theorem rinc_load : (s.rinc e u).load = s.load := rfl
@[simp] theorem rinc_scr : (s.rinc e u).scr = s.scr := rfl
@[simp] theorem rinc_dbg : (s.rinc e u).dbg = s.dbg := rfl
@[simp] theorem rinc_run : (s.rinc e u).run = s.run := rfl
@[simp] theorem rinc_mbox : (s.rinc e u).mbox = s.mbox := rfl
@[simp] theorem rinc_lc : (s.rinc e u).lc = s.lc := rfl
@[simp] theorem rinc_freeze : (s.rinc e u).freeze = s.freeze := rfl
@[simp] theorem rinc_power : (s.rinc e u).power = s.power := rfl
@[simp] theorem rinc_heat : (s.rinc e u).heat = s.heat := rfl
@[simp] theorem rinc_dists : (s.rinc e u).dists = s.dists := rfl
@[simp] theorem rinc_planes : (s.rinc e u).planes = s.planes := rfl
@[simp] theorem rinc_frames : (s.rinc e u).frames = s.frames := rfl
@[simp] theorem rinc_flops : (s.rinc e u).flops = s.flops := rfl
@[simp] theorem rinc_fabric : (s.rinc e u).fabric = s.fabric := rfl
@[simp] theorem rinc_guards : (s.rinc e u).guards = s.guards := rfl
@[simp] theorem rinc_dram : (s.rinc e u).dram = s.dram := rfl
@[simp] theorem rinc_recorder : (s.rinc e u).recorder = s.recorder := rfl
@[simp] theorem rinc_pinsTaken : (s.rinc e u).pinsTaken = s.pinsTaken := rfl
@[simp] theorem rinc_noted : (s.rinc e u).noted = s.noted := rfl
@[simp] theorem rinc_ctl : (s.rinc e u).ctl = s.ctl := rfl
@[simp] theorem rinc_core : (s.rinc e u).core = s.core := rfl
@[simp] theorem rinc_keeper : (s.rinc e u).keeper = s.keeper := rfl
@[simp] theorem rinc_devName : (s.rinc e u).devName = s.devName := rfl
end

section
variable (e : El) (u v : Nat)

@[simp] theorem rdefer_pending : (s.rdefer e u v).pending = s.pending := rfl
@[simp] theorem rdefer_force : (s.rdefer e u v).force = s.force := rfl
@[simp] theorem rdefer_fv : (s.rdefer e u v).fv = s.fv := rfl
@[simp] theorem rdefer_dev : (s.rdefer e u v).dev = s.dev := rfl
@[simp] theorem rdefer_life : (s.rdefer e u v).life = s.life := rfl
@[simp] theorem rdefer_userRights : (s.rdefer e u v).userRights = s.userRights := rfl
@[simp] theorem rdefer_cut : (s.rdefer e u v).cut = s.cut := rfl
@[simp] theorem rdefer_lossHeld : (s.rdefer e u v).lossHeld = s.lossHeld := rfl
@[simp] theorem rdefer_lossFrom : (s.rdefer e u v).lossFrom = s.lossFrom := rfl
@[simp] theorem rdefer_safeDue : (s.rdefer e u v).safeDue = s.safeDue := rfl
@[simp] theorem rdefer_resetDue : (s.rdefer e u v).resetDue = s.resetDue := rfl
@[simp] theorem rdefer_fabricOn : (s.rdefer e u v).fabricOn = s.fabricOn := rfl
@[simp] theorem rdefer_tb : (s.rdefer e u v).tb = s.tb := rfl
@[simp] theorem rdefer_rb : (s.rdefer e u v).rb = s.rb := rfl
@[simp] theorem rdefer_ports : (s.rdefer e u v).ports = s.ports := rfl
@[simp] theorem rdefer_cells : (s.rdefer e u v).cells = s.cells := rfl
@[simp] theorem rdefer_banks : (s.rdefer e u v).banks = s.banks := rfl
@[simp] theorem rdefer_lanes : (s.rdefer e u v).lanes = s.lanes := rfl
@[simp] theorem rdefer_fixed : (s.rdefer e u v).fixed = s.fixed := rfl
@[simp] theorem rdefer_rings : (s.rdefer e u v).rings = s.rings := rfl
@[simp] theorem rdefer_mem : (s.rdefer e u v).mem = s.mem := rfl
@[simp] theorem rdefer_bist : (s.rdefer e u v).bist = s.bist := rfl
@[simp] theorem rdefer_dec : (s.rdefer e u v).dec = s.dec := rfl
@[simp] theorem rdefer_eb : (s.rdefer e u v).eb = s.eb := rfl
@[simp] theorem rdefer_queues : (s.rdefer e u v).queues = s.queues := rfl
@[simp] theorem rdefer_qports : (s.rdefer e u v).qports = s.qports := rfl
@[simp] theorem rdefer_trunks : (s.rdefer e u v).trunks = s.trunks := rfl
@[simp] theorem rdefer_load : (s.rdefer e u v).load = s.load := rfl
@[simp] theorem rdefer_scr : (s.rdefer e u v).scr = s.scr := rfl
@[simp] theorem rdefer_dbg : (s.rdefer e u v).dbg = s.dbg := rfl
@[simp] theorem rdefer_run : (s.rdefer e u v).run = s.run := rfl
@[simp] theorem rdefer_mbox : (s.rdefer e u v).mbox = s.mbox := rfl
@[simp] theorem rdefer_lc : (s.rdefer e u v).lc = s.lc := rfl
@[simp] theorem rdefer_freeze : (s.rdefer e u v).freeze = s.freeze := rfl
@[simp] theorem rdefer_power : (s.rdefer e u v).power = s.power := rfl
@[simp] theorem rdefer_heat : (s.rdefer e u v).heat = s.heat := rfl
@[simp] theorem rdefer_dists : (s.rdefer e u v).dists = s.dists := rfl
@[simp] theorem rdefer_planes : (s.rdefer e u v).planes = s.planes := rfl
@[simp] theorem rdefer_frames : (s.rdefer e u v).frames = s.frames := rfl
@[simp] theorem rdefer_flops : (s.rdefer e u v).flops = s.flops := rfl
@[simp] theorem rdefer_fabric : (s.rdefer e u v).fabric = s.fabric := rfl
@[simp] theorem rdefer_guards : (s.rdefer e u v).guards = s.guards := rfl
@[simp] theorem rdefer_dram : (s.rdefer e u v).dram = s.dram := rfl
@[simp] theorem rdefer_recorder : (s.rdefer e u v).recorder = s.recorder := rfl
@[simp] theorem rdefer_pinsTaken : (s.rdefer e u v).pinsTaken = s.pinsTaken := rfl
@[simp] theorem rdefer_noted : (s.rdefer e u v).noted = s.noted := rfl
@[simp] theorem rdefer_ctl : (s.rdefer e u v).ctl = s.ctl := rfl
@[simp] theorem rdefer_core : (s.rdefer e u v).core = s.core := rfl
@[simp] theorem rdefer_keeper : (s.rdefer e u v).keeper = s.keeper := rfl
@[simp] theorem rdefer_devName : (s.rdefer e u v).devName = s.devName := rfl
end

section

@[simp] theorem enforce_pending : (s.enforce).pending = s.pending := rfl
@[simp] theorem enforce_regs : (s.enforce).regs = s.regs := rfl
@[simp] theorem enforce_fv : (s.enforce).fv = s.fv := rfl
@[simp] theorem enforce_dev : (s.enforce).dev = s.dev := rfl
@[simp] theorem enforce_life : (s.enforce).life = s.life := rfl
@[simp] theorem enforce_userRights : (s.enforce).userRights = s.userRights := rfl
@[simp] theorem enforce_cut : (s.enforce).cut = s.cut := rfl
@[simp] theorem enforce_lossHeld : (s.enforce).lossHeld = s.lossHeld := rfl
@[simp] theorem enforce_lossFrom : (s.enforce).lossFrom = s.lossFrom := rfl
@[simp] theorem enforce_safeDue : (s.enforce).safeDue = s.safeDue := rfl
@[simp] theorem enforce_resetDue : (s.enforce).resetDue = s.resetDue := rfl
@[simp] theorem enforce_fabricOn : (s.enforce).fabricOn = s.fabricOn := rfl
@[simp] theorem enforce_tb : (s.enforce).tb = s.tb := rfl
@[simp] theorem enforce_rb : (s.enforce).rb = s.rb := rfl
@[simp] theorem enforce_ports : (s.enforce).ports = s.ports := rfl
@[simp] theorem enforce_cells : (s.enforce).cells = s.cells := rfl
@[simp] theorem enforce_banks : (s.enforce).banks = s.banks := rfl
@[simp] theorem enforce_lanes : (s.enforce).lanes = s.lanes := rfl
@[simp] theorem enforce_fixed : (s.enforce).fixed = s.fixed := rfl
@[simp] theorem enforce_rings : (s.enforce).rings = s.rings := rfl
@[simp] theorem enforce_mem : (s.enforce).mem = s.mem := rfl
@[simp] theorem enforce_bist : (s.enforce).bist = s.bist := rfl
@[simp] theorem enforce_dec : (s.enforce).dec = s.dec := rfl
@[simp] theorem enforce_eb : (s.enforce).eb = s.eb := rfl
@[simp] theorem enforce_queues : (s.enforce).queues = s.queues := rfl
@[simp] theorem enforce_qports : (s.enforce).qports = s.qports := rfl
@[simp] theorem enforce_trunks : (s.enforce).trunks = s.trunks := rfl
@[simp] theorem enforce_load : (s.enforce).load = s.load := rfl
@[simp] theorem enforce_scr : (s.enforce).scr = s.scr := rfl
@[simp] theorem enforce_dbg : (s.enforce).dbg = s.dbg := rfl
@[simp] theorem enforce_run : (s.enforce).run = s.run := rfl
@[simp] theorem enforce_mbox : (s.enforce).mbox = s.mbox := rfl
@[simp] theorem enforce_lc : (s.enforce).lc = s.lc := rfl
@[simp] theorem enforce_freeze : (s.enforce).freeze = s.freeze := rfl
@[simp] theorem enforce_power : (s.enforce).power = s.power := rfl
@[simp] theorem enforce_heat : (s.enforce).heat = s.heat := rfl
@[simp] theorem enforce_dists : (s.enforce).dists = s.dists := rfl
@[simp] theorem enforce_planes : (s.enforce).planes = s.planes := rfl
@[simp] theorem enforce_frames : (s.enforce).frames = s.frames := rfl
@[simp] theorem enforce_flops : (s.enforce).flops = s.flops := rfl
@[simp] theorem enforce_fabric : (s.enforce).fabric = s.fabric := rfl
@[simp] theorem enforce_guards : (s.enforce).guards = s.guards := rfl
@[simp] theorem enforce_dram : (s.enforce).dram = s.dram := rfl
@[simp] theorem enforce_recorder : (s.enforce).recorder = s.recorder := rfl
@[simp] theorem enforce_pinsTaken : (s.enforce).pinsTaken = s.pinsTaken := rfl
@[simp] theorem enforce_noted : (s.enforce).noted = s.noted := rfl
@[simp] theorem enforce_ctl : (s.enforce).ctl = s.ctl := rfl
@[simp] theorem enforce_core : (s.enforce).core = s.core := rfl
@[simp] theorem enforce_keeper : (s.enforce).keeper = s.keeper := rfl
@[simp] theorem enforce_devName : (s.enforce).devName = s.devName := rfl
end

section
variable (k : Nat)

@[simp] theorem latchIrq_pending : (latchIrq k s).pending = s.pending := rfl
@[simp] theorem latchIrq_regs : (latchIrq k s).regs = s.regs := rfl
@[simp] theorem latchIrq_force : (latchIrq k s).force = s.force := rfl
@[simp] theorem latchIrq_deferred : (latchIrq k s).deferred = s.deferred := rfl
@[simp] theorem latchIrq_fv : (latchIrq k s).fv = s.fv := rfl
@[simp] theorem latchIrq_dev : (latchIrq k s).dev = s.dev := rfl
@[simp] theorem latchIrq_life : (latchIrq k s).life = s.life := rfl
@[simp] theorem latchIrq_userRights : (latchIrq k s).userRights = s.userRights := rfl
@[simp] theorem latchIrq_cut : (latchIrq k s).cut = s.cut := rfl
@[simp] theorem latchIrq_lossHeld : (latchIrq k s).lossHeld = s.lossHeld := rfl
@[simp] theorem latchIrq_lossFrom : (latchIrq k s).lossFrom = s.lossFrom := rfl
@[simp] theorem latchIrq_safeDue : (latchIrq k s).safeDue = s.safeDue := rfl
@[simp] theorem latchIrq_resetDue : (latchIrq k s).resetDue = s.resetDue := rfl
@[simp] theorem latchIrq_fabricOn : (latchIrq k s).fabricOn = s.fabricOn := rfl
@[simp] theorem latchIrq_tb : (latchIrq k s).tb = s.tb := rfl
@[simp] theorem latchIrq_rb : (latchIrq k s).rb = s.rb := rfl
@[simp] theorem latchIrq_ports : (latchIrq k s).ports = s.ports := rfl
@[simp] theorem latchIrq_cells : (latchIrq k s).cells = s.cells := rfl
@[simp] theorem latchIrq_banks : (latchIrq k s).banks = s.banks := rfl
@[simp] theorem latchIrq_lanes : (latchIrq k s).lanes = s.lanes := rfl
@[simp] theorem latchIrq_fixed : (latchIrq k s).fixed = s.fixed := rfl
@[simp] theorem latchIrq_rings : (latchIrq k s).rings = s.rings := rfl
@[simp] theorem latchIrq_mem : (latchIrq k s).mem = s.mem := rfl
@[simp] theorem latchIrq_bist : (latchIrq k s).bist = s.bist := rfl
@[simp] theorem latchIrq_dec : (latchIrq k s).dec = s.dec := rfl
@[simp] theorem latchIrq_eb : (latchIrq k s).eb = s.eb := rfl
@[simp] theorem latchIrq_queues : (latchIrq k s).queues = s.queues := rfl
@[simp] theorem latchIrq_qports : (latchIrq k s).qports = s.qports := rfl
@[simp] theorem latchIrq_trunks : (latchIrq k s).trunks = s.trunks := rfl
@[simp] theorem latchIrq_load : (latchIrq k s).load = s.load := rfl
@[simp] theorem latchIrq_scr : (latchIrq k s).scr = s.scr := rfl
@[simp] theorem latchIrq_dbg : (latchIrq k s).dbg = s.dbg := rfl
@[simp] theorem latchIrq_run : (latchIrq k s).run = s.run := rfl
@[simp] theorem latchIrq_mbox : (latchIrq k s).mbox = s.mbox := rfl
@[simp] theorem latchIrq_lc : (latchIrq k s).lc = s.lc := rfl
@[simp] theorem latchIrq_freeze : (latchIrq k s).freeze = s.freeze := rfl
@[simp] theorem latchIrq_power : (latchIrq k s).power = s.power := rfl
@[simp] theorem latchIrq_heat : (latchIrq k s).heat = s.heat := rfl
@[simp] theorem latchIrq_dists : (latchIrq k s).dists = s.dists := rfl
@[simp] theorem latchIrq_planes : (latchIrq k s).planes = s.planes := rfl
@[simp] theorem latchIrq_frames : (latchIrq k s).frames = s.frames := rfl
@[simp] theorem latchIrq_flops : (latchIrq k s).flops = s.flops := rfl
@[simp] theorem latchIrq_fabric : (latchIrq k s).fabric = s.fabric := rfl
@[simp] theorem latchIrq_guards : (latchIrq k s).guards = s.guards := rfl
@[simp] theorem latchIrq_dram : (latchIrq k s).dram = s.dram := rfl
@[simp] theorem latchIrq_recorder : (latchIrq k s).recorder = s.recorder := rfl
@[simp] theorem latchIrq_pinsTaken : (latchIrq k s).pinsTaken = s.pinsTaken := rfl
@[simp] theorem latchIrq_noted : (latchIrq k s).noted = s.noted := rfl
@[simp] theorem latchIrq_ctl : (latchIrq k s).ctl = s.ctl := rfl
@[simp] theorem latchIrq_keeper : (latchIrq k s).keeper = s.keeper := rfl
@[simp] theorem latchIrq_devName : (latchIrq k s).devName = s.devName := rfl
end

section
variable (m a b : Nat)

@[simp] theorem pendIbi_pending : (pendIbi m a b s).pending = s.pending := rfl
@[simp] theorem pendIbi_regs : (pendIbi m a b s).regs = s.regs := rfl
@[simp] theorem pendIbi_force : (pendIbi m a b s).force = s.force := rfl
@[simp] theorem pendIbi_deferred : (pendIbi m a b s).deferred = s.deferred := rfl
@[simp] theorem pendIbi_fv : (pendIbi m a b s).fv = s.fv := rfl
@[simp] theorem pendIbi_dev : (pendIbi m a b s).dev = s.dev := rfl
@[simp] theorem pendIbi_life : (pendIbi m a b s).life = s.life := rfl
@[simp] theorem pendIbi_userRights : (pendIbi m a b s).userRights = s.userRights := rfl
@[simp] theorem pendIbi_cut : (pendIbi m a b s).cut = s.cut := rfl
@[simp] theorem pendIbi_lossHeld : (pendIbi m a b s).lossHeld = s.lossHeld := rfl
@[simp] theorem pendIbi_lossFrom : (pendIbi m a b s).lossFrom = s.lossFrom := rfl
@[simp] theorem pendIbi_safeDue : (pendIbi m a b s).safeDue = s.safeDue := rfl
@[simp] theorem pendIbi_resetDue : (pendIbi m a b s).resetDue = s.resetDue := rfl
@[simp] theorem pendIbi_fabricOn : (pendIbi m a b s).fabricOn = s.fabricOn := rfl
@[simp] theorem pendIbi_tb : (pendIbi m a b s).tb = s.tb := rfl
@[simp] theorem pendIbi_rb : (pendIbi m a b s).rb = s.rb := rfl
@[simp] theorem pendIbi_ports : (pendIbi m a b s).ports = s.ports := rfl
@[simp] theorem pendIbi_cells : (pendIbi m a b s).cells = s.cells := rfl
@[simp] theorem pendIbi_banks : (pendIbi m a b s).banks = s.banks := rfl
@[simp] theorem pendIbi_lanes : (pendIbi m a b s).lanes = s.lanes := rfl
@[simp] theorem pendIbi_fixed : (pendIbi m a b s).fixed = s.fixed := rfl
@[simp] theorem pendIbi_rings : (pendIbi m a b s).rings = s.rings := rfl
@[simp] theorem pendIbi_mem : (pendIbi m a b s).mem = s.mem := rfl
@[simp] theorem pendIbi_bist : (pendIbi m a b s).bist = s.bist := rfl
@[simp] theorem pendIbi_dec : (pendIbi m a b s).dec = s.dec := rfl
@[simp] theorem pendIbi_eb : (pendIbi m a b s).eb = s.eb := rfl
@[simp] theorem pendIbi_queues : (pendIbi m a b s).queues = s.queues := rfl
@[simp] theorem pendIbi_qports : (pendIbi m a b s).qports = s.qports := rfl
@[simp] theorem pendIbi_trunks : (pendIbi m a b s).trunks = s.trunks := rfl
@[simp] theorem pendIbi_load : (pendIbi m a b s).load = s.load := rfl
@[simp] theorem pendIbi_scr : (pendIbi m a b s).scr = s.scr := rfl
@[simp] theorem pendIbi_dbg : (pendIbi m a b s).dbg = s.dbg := rfl
@[simp] theorem pendIbi_run : (pendIbi m a b s).run = s.run := rfl
@[simp] theorem pendIbi_mbox : (pendIbi m a b s).mbox = s.mbox := rfl
@[simp] theorem pendIbi_lc : (pendIbi m a b s).lc = s.lc := rfl
@[simp] theorem pendIbi_freeze : (pendIbi m a b s).freeze = s.freeze := rfl
@[simp] theorem pendIbi_power : (pendIbi m a b s).power = s.power := rfl
@[simp] theorem pendIbi_heat : (pendIbi m a b s).heat = s.heat := rfl
@[simp] theorem pendIbi_dists : (pendIbi m a b s).dists = s.dists := rfl
@[simp] theorem pendIbi_planes : (pendIbi m a b s).planes = s.planes := rfl
@[simp] theorem pendIbi_frames : (pendIbi m a b s).frames = s.frames := rfl
@[simp] theorem pendIbi_flops : (pendIbi m a b s).flops = s.flops := rfl
@[simp] theorem pendIbi_fabric : (pendIbi m a b s).fabric = s.fabric := rfl
@[simp] theorem pendIbi_guards : (pendIbi m a b s).guards = s.guards := rfl
@[simp] theorem pendIbi_dram : (pendIbi m a b s).dram = s.dram := rfl
@[simp] theorem pendIbi_recorder : (pendIbi m a b s).recorder = s.recorder := rfl
@[simp] theorem pendIbi_pinsTaken : (pendIbi m a b s).pinsTaken = s.pinsTaken := rfl
@[simp] theorem pendIbi_noted : (pendIbi m a b s).noted = s.noted := rfl
@[simp] theorem pendIbi_core : (pendIbi m a b s).core = s.core := rfl
@[simp] theorem pendIbi_keeper : (pendIbi m a b s).keeper = s.keeper := rfl
@[simp] theorem pendIbi_devName : (pendIbi m a b s).devName = s.devName := rfl
end

section
variable (p : Nat) (x : Port)

@[simp] theorem setPort_pending : (s.setPort p x).pending = s.pending := rfl
@[simp] theorem setPort_regs : (s.setPort p x).regs = s.regs := rfl
@[simp] theorem setPort_force : (s.setPort p x).force = s.force := rfl
@[simp] theorem setPort_deferred : (s.setPort p x).deferred = s.deferred := rfl
@[simp] theorem setPort_fv : (s.setPort p x).fv = s.fv := rfl
@[simp] theorem setPort_dev : (s.setPort p x).dev = s.dev := rfl
@[simp] theorem setPort_life : (s.setPort p x).life = s.life := rfl
@[simp] theorem setPort_userRights : (s.setPort p x).userRights = s.userRights := rfl
@[simp] theorem setPort_cut : (s.setPort p x).cut = s.cut := rfl
@[simp] theorem setPort_lossHeld : (s.setPort p x).lossHeld = s.lossHeld := rfl
@[simp] theorem setPort_lossFrom : (s.setPort p x).lossFrom = s.lossFrom := rfl
@[simp] theorem setPort_safeDue : (s.setPort p x).safeDue = s.safeDue := rfl
@[simp] theorem setPort_resetDue : (s.setPort p x).resetDue = s.resetDue := rfl
@[simp] theorem setPort_fabricOn : (s.setPort p x).fabricOn = s.fabricOn := rfl
@[simp] theorem setPort_tb : (s.setPort p x).tb = s.tb := rfl
@[simp] theorem setPort_rb : (s.setPort p x).rb = s.rb := rfl
@[simp] theorem setPort_cells : (s.setPort p x).cells = s.cells := rfl
@[simp] theorem setPort_banks : (s.setPort p x).banks = s.banks := rfl
@[simp] theorem setPort_lanes : (s.setPort p x).lanes = s.lanes := rfl
@[simp] theorem setPort_fixed : (s.setPort p x).fixed = s.fixed := rfl
@[simp] theorem setPort_rings : (s.setPort p x).rings = s.rings := rfl
@[simp] theorem setPort_mem : (s.setPort p x).mem = s.mem := rfl
@[simp] theorem setPort_bist : (s.setPort p x).bist = s.bist := rfl
@[simp] theorem setPort_dec : (s.setPort p x).dec = s.dec := rfl
@[simp] theorem setPort_eb : (s.setPort p x).eb = s.eb := rfl
@[simp] theorem setPort_queues : (s.setPort p x).queues = s.queues := rfl
@[simp] theorem setPort_qports : (s.setPort p x).qports = s.qports := rfl
@[simp] theorem setPort_trunks : (s.setPort p x).trunks = s.trunks := rfl
@[simp] theorem setPort_load : (s.setPort p x).load = s.load := rfl
@[simp] theorem setPort_scr : (s.setPort p x).scr = s.scr := rfl
@[simp] theorem setPort_dbg : (s.setPort p x).dbg = s.dbg := rfl
@[simp] theorem setPort_run : (s.setPort p x).run = s.run := rfl
@[simp] theorem setPort_mbox : (s.setPort p x).mbox = s.mbox := rfl
@[simp] theorem setPort_lc : (s.setPort p x).lc = s.lc := rfl
@[simp] theorem setPort_freeze : (s.setPort p x).freeze = s.freeze := rfl
@[simp] theorem setPort_power : (s.setPort p x).power = s.power := rfl
@[simp] theorem setPort_heat : (s.setPort p x).heat = s.heat := rfl
@[simp] theorem setPort_dists : (s.setPort p x).dists = s.dists := rfl
@[simp] theorem setPort_planes : (s.setPort p x).planes = s.planes := rfl
@[simp] theorem setPort_frames : (s.setPort p x).frames = s.frames := rfl
@[simp] theorem setPort_flops : (s.setPort p x).flops = s.flops := rfl
@[simp] theorem setPort_fabric : (s.setPort p x).fabric = s.fabric := rfl
@[simp] theorem setPort_guards : (s.setPort p x).guards = s.guards := rfl
@[simp] theorem setPort_dram : (s.setPort p x).dram = s.dram := rfl
@[simp] theorem setPort_recorder : (s.setPort p x).recorder = s.recorder := rfl
@[simp] theorem setPort_pinsTaken : (s.setPort p x).pinsTaken = s.pinsTaken := rfl
@[simp] theorem setPort_noted : (s.setPort p x).noted = s.noted := rfl
@[simp] theorem setPort_ctl : (s.setPort p x).ctl = s.ctl := rfl
@[simp] theorem setPort_core : (s.setPort p x).core = s.core := rfl
@[simp] theorem setPort_keeper : (s.setPort p x).keeper = s.keeper := rfl
@[simp] theorem setPort_devName : (s.setPort p x).devName = s.devName := rfl
end

section
variable (d : Nat) (x : District)

@[simp] theorem setDist_pending : (s.setDist d x).pending = s.pending := rfl
@[simp] theorem setDist_regs : (s.setDist d x).regs = s.regs := rfl
@[simp] theorem setDist_force : (s.setDist d x).force = s.force := rfl
@[simp] theorem setDist_deferred : (s.setDist d x).deferred = s.deferred := rfl
@[simp] theorem setDist_fv : (s.setDist d x).fv = s.fv := rfl
@[simp] theorem setDist_dev : (s.setDist d x).dev = s.dev := rfl
@[simp] theorem setDist_life : (s.setDist d x).life = s.life := rfl
@[simp] theorem setDist_userRights : (s.setDist d x).userRights = s.userRights := rfl
@[simp] theorem setDist_cut : (s.setDist d x).cut = s.cut := rfl
@[simp] theorem setDist_lossHeld : (s.setDist d x).lossHeld = s.lossHeld := rfl
@[simp] theorem setDist_lossFrom : (s.setDist d x).lossFrom = s.lossFrom := rfl
@[simp] theorem setDist_safeDue : (s.setDist d x).safeDue = s.safeDue := rfl
@[simp] theorem setDist_resetDue : (s.setDist d x).resetDue = s.resetDue := rfl
@[simp] theorem setDist_fabricOn : (s.setDist d x).fabricOn = s.fabricOn := rfl
@[simp] theorem setDist_tb : (s.setDist d x).tb = s.tb := rfl
@[simp] theorem setDist_rb : (s.setDist d x).rb = s.rb := rfl
@[simp] theorem setDist_ports : (s.setDist d x).ports = s.ports := rfl
@[simp] theorem setDist_cells : (s.setDist d x).cells = s.cells := rfl
@[simp] theorem setDist_banks : (s.setDist d x).banks = s.banks := rfl
@[simp] theorem setDist_lanes : (s.setDist d x).lanes = s.lanes := rfl
@[simp] theorem setDist_fixed : (s.setDist d x).fixed = s.fixed := rfl
@[simp] theorem setDist_rings : (s.setDist d x).rings = s.rings := rfl
@[simp] theorem setDist_mem : (s.setDist d x).mem = s.mem := rfl
@[simp] theorem setDist_bist : (s.setDist d x).bist = s.bist := rfl
@[simp] theorem setDist_dec : (s.setDist d x).dec = s.dec := rfl
@[simp] theorem setDist_eb : (s.setDist d x).eb = s.eb := rfl
@[simp] theorem setDist_queues : (s.setDist d x).queues = s.queues := rfl
@[simp] theorem setDist_qports : (s.setDist d x).qports = s.qports := rfl
@[simp] theorem setDist_trunks : (s.setDist d x).trunks = s.trunks := rfl
@[simp] theorem setDist_load : (s.setDist d x).load = s.load := rfl
@[simp] theorem setDist_scr : (s.setDist d x).scr = s.scr := rfl
@[simp] theorem setDist_dbg : (s.setDist d x).dbg = s.dbg := rfl
@[simp] theorem setDist_run : (s.setDist d x).run = s.run := rfl
@[simp] theorem setDist_mbox : (s.setDist d x).mbox = s.mbox := rfl
@[simp] theorem setDist_lc : (s.setDist d x).lc = s.lc := rfl
@[simp] theorem setDist_freeze : (s.setDist d x).freeze = s.freeze := rfl
@[simp] theorem setDist_power : (s.setDist d x).power = s.power := rfl
@[simp] theorem setDist_heat : (s.setDist d x).heat = s.heat := rfl
@[simp] theorem setDist_planes : (s.setDist d x).planes = s.planes := rfl
@[simp] theorem setDist_frames : (s.setDist d x).frames = s.frames := rfl
@[simp] theorem setDist_flops : (s.setDist d x).flops = s.flops := rfl
@[simp] theorem setDist_fabric : (s.setDist d x).fabric = s.fabric := rfl
@[simp] theorem setDist_guards : (s.setDist d x).guards = s.guards := rfl
@[simp] theorem setDist_dram : (s.setDist d x).dram = s.dram := rfl
@[simp] theorem setDist_recorder : (s.setDist d x).recorder = s.recorder := rfl
@[simp] theorem setDist_pinsTaken : (s.setDist d x).pinsTaken = s.pinsTaken := rfl
@[simp] theorem setDist_noted : (s.setDist d x).noted = s.noted := rfl
@[simp] theorem setDist_ctl : (s.setDist d x).ctl = s.ctl := rfl
@[simp] theorem setDist_core : (s.setDist d x).core = s.core := rfl
@[simp] theorem setDist_keeper : (s.setDist d x).keeper = s.keeper := rfl
@[simp] theorem setDist_devName : (s.setDist d x).devName = s.devName := rfl
end

section
variable (k : Nat) (x : Plane)

@[simp] theorem setPlane_pending : (s.setPlane k x).pending = s.pending := rfl
@[simp] theorem setPlane_regs : (s.setPlane k x).regs = s.regs := rfl
@[simp] theorem setPlane_force : (s.setPlane k x).force = s.force := rfl
@[simp] theorem setPlane_deferred : (s.setPlane k x).deferred = s.deferred := rfl
@[simp] theorem setPlane_fv : (s.setPlane k x).fv = s.fv := rfl
@[simp] theorem setPlane_dev : (s.setPlane k x).dev = s.dev := rfl
@[simp] theorem setPlane_life : (s.setPlane k x).life = s.life := rfl
@[simp] theorem setPlane_userRights : (s.setPlane k x).userRights = s.userRights := rfl
@[simp] theorem setPlane_cut : (s.setPlane k x).cut = s.cut := rfl
@[simp] theorem setPlane_lossHeld : (s.setPlane k x).lossHeld = s.lossHeld := rfl
@[simp] theorem setPlane_lossFrom : (s.setPlane k x).lossFrom = s.lossFrom := rfl
@[simp] theorem setPlane_safeDue : (s.setPlane k x).safeDue = s.safeDue := rfl
@[simp] theorem setPlane_resetDue : (s.setPlane k x).resetDue = s.resetDue := rfl
@[simp] theorem setPlane_fabricOn : (s.setPlane k x).fabricOn = s.fabricOn := rfl
@[simp] theorem setPlane_tb : (s.setPlane k x).tb = s.tb := rfl
@[simp] theorem setPlane_rb : (s.setPlane k x).rb = s.rb := rfl
@[simp] theorem setPlane_ports : (s.setPlane k x).ports = s.ports := rfl
@[simp] theorem setPlane_cells : (s.setPlane k x).cells = s.cells := rfl
@[simp] theorem setPlane_banks : (s.setPlane k x).banks = s.banks := rfl
@[simp] theorem setPlane_lanes : (s.setPlane k x).lanes = s.lanes := rfl
@[simp] theorem setPlane_fixed : (s.setPlane k x).fixed = s.fixed := rfl
@[simp] theorem setPlane_rings : (s.setPlane k x).rings = s.rings := rfl
@[simp] theorem setPlane_mem : (s.setPlane k x).mem = s.mem := rfl
@[simp] theorem setPlane_bist : (s.setPlane k x).bist = s.bist := rfl
@[simp] theorem setPlane_dec : (s.setPlane k x).dec = s.dec := rfl
@[simp] theorem setPlane_eb : (s.setPlane k x).eb = s.eb := rfl
@[simp] theorem setPlane_queues : (s.setPlane k x).queues = s.queues := rfl
@[simp] theorem setPlane_qports : (s.setPlane k x).qports = s.qports := rfl
@[simp] theorem setPlane_trunks : (s.setPlane k x).trunks = s.trunks := rfl
@[simp] theorem setPlane_load : (s.setPlane k x).load = s.load := rfl
@[simp] theorem setPlane_scr : (s.setPlane k x).scr = s.scr := rfl
@[simp] theorem setPlane_dbg : (s.setPlane k x).dbg = s.dbg := rfl
@[simp] theorem setPlane_run : (s.setPlane k x).run = s.run := rfl
@[simp] theorem setPlane_mbox : (s.setPlane k x).mbox = s.mbox := rfl
@[simp] theorem setPlane_lc : (s.setPlane k x).lc = s.lc := rfl
@[simp] theorem setPlane_freeze : (s.setPlane k x).freeze = s.freeze := rfl
@[simp] theorem setPlane_power : (s.setPlane k x).power = s.power := rfl
@[simp] theorem setPlane_heat : (s.setPlane k x).heat = s.heat := rfl
@[simp] theorem setPlane_dists : (s.setPlane k x).dists = s.dists := rfl
@[simp] theorem setPlane_frames : (s.setPlane k x).frames = s.frames := rfl
@[simp] theorem setPlane_flops : (s.setPlane k x).flops = s.flops := rfl
@[simp] theorem setPlane_fabric : (s.setPlane k x).fabric = s.fabric := rfl
@[simp] theorem setPlane_guards : (s.setPlane k x).guards = s.guards := rfl
@[simp] theorem setPlane_dram : (s.setPlane k x).dram = s.dram := rfl
@[simp] theorem setPlane_recorder : (s.setPlane k x).recorder = s.recorder := rfl
@[simp] theorem setPlane_pinsTaken : (s.setPlane k x).pinsTaken = s.pinsTaken := rfl
@[simp] theorem setPlane_noted : (s.setPlane k x).noted = s.noted := rfl
@[simp] theorem setPlane_ctl : (s.setPlane k x).ctl = s.ctl := rfl
@[simp] theorem setPlane_core : (s.setPlane k x).core = s.core := rfl
@[simp] theorem setPlane_keeper : (s.setPlane k x).keeper = s.keeper := rfl
@[simp] theorem setPlane_devName : (s.setPlane k x).devName = s.devName := rfl
end

section
variable (q : Nat) (x : Ring)

@[simp] theorem setRing_pending : (s.setRing q x).pending = s.pending := rfl
@[simp] theorem setRing_regs : (s.setRing q x).regs = s.regs := rfl
@[simp] theorem setRing_force : (s.setRing q x).force = s.force := rfl
@[simp] theorem setRing_deferred : (s.setRing q x).deferred = s.deferred := rfl
@[simp] theorem setRing_fv : (s.setRing q x).fv = s.fv := rfl
@[simp] theorem setRing_dev : (s.setRing q x).dev = s.dev := rfl
@[simp] theorem setRing_life : (s.setRing q x).life = s.life := rfl
@[simp] theorem setRing_userRights : (s.setRing q x).userRights = s.userRights := rfl
@[simp] theorem setRing_cut : (s.setRing q x).cut = s.cut := rfl
@[simp] theorem setRing_lossHeld : (s.setRing q x).lossHeld = s.lossHeld := rfl
@[simp] theorem setRing_lossFrom : (s.setRing q x).lossFrom = s.lossFrom := rfl
@[simp] theorem setRing_safeDue : (s.setRing q x).safeDue = s.safeDue := rfl
@[simp] theorem setRing_resetDue : (s.setRing q x).resetDue = s.resetDue := rfl
@[simp] theorem setRing_fabricOn : (s.setRing q x).fabricOn = s.fabricOn := rfl
@[simp] theorem setRing_tb : (s.setRing q x).tb = s.tb := rfl
@[simp] theorem setRing_rb : (s.setRing q x).rb = s.rb := rfl
@[simp] theorem setRing_ports : (s.setRing q x).ports = s.ports := rfl
@[simp] theorem setRing_cells : (s.setRing q x).cells = s.cells := rfl
@[simp] theorem setRing_banks : (s.setRing q x).banks = s.banks := rfl
@[simp] theorem setRing_lanes : (s.setRing q x).lanes = s.lanes := rfl
@[simp] theorem setRing_fixed : (s.setRing q x).fixed = s.fixed := rfl
@[simp] theorem setRing_mem : (s.setRing q x).mem = s.mem := rfl
@[simp] theorem setRing_bist : (s.setRing q x).bist = s.bist := rfl
@[simp] theorem setRing_dec : (s.setRing q x).dec = s.dec := rfl
@[simp] theorem setRing_eb : (s.setRing q x).eb = s.eb := rfl
@[simp] theorem setRing_queues : (s.setRing q x).queues = s.queues := rfl
@[simp] theorem setRing_qports : (s.setRing q x).qports = s.qports := rfl
@[simp] theorem setRing_trunks : (s.setRing q x).trunks = s.trunks := rfl
@[simp] theorem setRing_load : (s.setRing q x).load = s.load := rfl
@[simp] theorem setRing_scr : (s.setRing q x).scr = s.scr := rfl
@[simp] theorem setRing_dbg : (s.setRing q x).dbg = s.dbg := rfl
@[simp] theorem setRing_run : (s.setRing q x).run = s.run := rfl
@[simp] theorem setRing_mbox : (s.setRing q x).mbox = s.mbox := rfl
@[simp] theorem setRing_lc : (s.setRing q x).lc = s.lc := rfl
@[simp] theorem setRing_freeze : (s.setRing q x).freeze = s.freeze := rfl
@[simp] theorem setRing_power : (s.setRing q x).power = s.power := rfl
@[simp] theorem setRing_heat : (s.setRing q x).heat = s.heat := rfl
@[simp] theorem setRing_dists : (s.setRing q x).dists = s.dists := rfl
@[simp] theorem setRing_planes : (s.setRing q x).planes = s.planes := rfl
@[simp] theorem setRing_frames : (s.setRing q x).frames = s.frames := rfl
@[simp] theorem setRing_flops : (s.setRing q x).flops = s.flops := rfl
@[simp] theorem setRing_fabric : (s.setRing q x).fabric = s.fabric := rfl
@[simp] theorem setRing_guards : (s.setRing q x).guards = s.guards := rfl
@[simp] theorem setRing_dram : (s.setRing q x).dram = s.dram := rfl
@[simp] theorem setRing_recorder : (s.setRing q x).recorder = s.recorder := rfl
@[simp] theorem setRing_pinsTaken : (s.setRing q x).pinsTaken = s.pinsTaken := rfl
@[simp] theorem setRing_noted : (s.setRing q x).noted = s.noted := rfl
@[simp] theorem setRing_ctl : (s.setRing q x).ctl = s.ctl := rfl
@[simp] theorem setRing_core : (s.setRing q x).core = s.core := rfl
@[simp] theorem setRing_keeper : (s.setRing q x).keeper = s.keeper := rfl
@[simp] theorem setRing_devName : (s.setRing q x).devName = s.devName := rfl
end

section
variable (n : Nat) (x : BankPort)

@[simp] theorem setBank_pending : (s.setBank n x).pending = s.pending := rfl
@[simp] theorem setBank_regs : (s.setBank n x).regs = s.regs := rfl
@[simp] theorem setBank_force : (s.setBank n x).force = s.force := rfl
@[simp] theorem setBank_deferred : (s.setBank n x).deferred = s.deferred := rfl
@[simp] theorem setBank_fv : (s.setBank n x).fv = s.fv := rfl
@[simp] theorem setBank_dev : (s.setBank n x).dev = s.dev := rfl
@[simp] theorem setBank_life : (s.setBank n x).life = s.life := rfl
@[simp] theorem setBank_userRights : (s.setBank n x).userRights = s.userRights := rfl
@[simp] theorem setBank_cut : (s.setBank n x).cut = s.cut := rfl
@[simp] theorem setBank_lossHeld : (s.setBank n x).lossHeld = s.lossHeld := rfl
@[simp] theorem setBank_lossFrom : (s.setBank n x).lossFrom = s.lossFrom := rfl
@[simp] theorem setBank_safeDue : (s.setBank n x).safeDue = s.safeDue := rfl
@[simp] theorem setBank_resetDue : (s.setBank n x).resetDue = s.resetDue := rfl
@[simp] theorem setBank_fabricOn : (s.setBank n x).fabricOn = s.fabricOn := rfl
@[simp] theorem setBank_tb : (s.setBank n x).tb = s.tb := rfl
@[simp] theorem setBank_rb : (s.setBank n x).rb = s.rb := rfl
@[simp] theorem setBank_ports : (s.setBank n x).ports = s.ports := rfl
@[simp] theorem setBank_cells : (s.setBank n x).cells = s.cells := rfl
@[simp] theorem setBank_lanes : (s.setBank n x).lanes = s.lanes := rfl
@[simp] theorem setBank_fixed : (s.setBank n x).fixed = s.fixed := rfl
@[simp] theorem setBank_rings : (s.setBank n x).rings = s.rings := rfl
@[simp] theorem setBank_mem : (s.setBank n x).mem = s.mem := rfl
@[simp] theorem setBank_bist : (s.setBank n x).bist = s.bist := rfl
@[simp] theorem setBank_dec : (s.setBank n x).dec = s.dec := rfl
@[simp] theorem setBank_eb : (s.setBank n x).eb = s.eb := rfl
@[simp] theorem setBank_queues : (s.setBank n x).queues = s.queues := rfl
@[simp] theorem setBank_qports : (s.setBank n x).qports = s.qports := rfl
@[simp] theorem setBank_trunks : (s.setBank n x).trunks = s.trunks := rfl
@[simp] theorem setBank_load : (s.setBank n x).load = s.load := rfl
@[simp] theorem setBank_scr : (s.setBank n x).scr = s.scr := rfl
@[simp] theorem setBank_dbg : (s.setBank n x).dbg = s.dbg := rfl
@[simp] theorem setBank_run : (s.setBank n x).run = s.run := rfl
@[simp] theorem setBank_mbox : (s.setBank n x).mbox = s.mbox := rfl
@[simp] theorem setBank_lc : (s.setBank n x).lc = s.lc := rfl
@[simp] theorem setBank_freeze : (s.setBank n x).freeze = s.freeze := rfl
@[simp] theorem setBank_power : (s.setBank n x).power = s.power := rfl
@[simp] theorem setBank_heat : (s.setBank n x).heat = s.heat := rfl
@[simp] theorem setBank_dists : (s.setBank n x).dists = s.dists := rfl
@[simp] theorem setBank_planes : (s.setBank n x).planes = s.planes := rfl
@[simp] theorem setBank_frames : (s.setBank n x).frames = s.frames := rfl
@[simp] theorem setBank_flops : (s.setBank n x).flops = s.flops := rfl
@[simp] theorem setBank_fabric : (s.setBank n x).fabric = s.fabric := rfl
@[simp] theorem setBank_guards : (s.setBank n x).guards = s.guards := rfl
@[simp] theorem setBank_dram : (s.setBank n x).dram = s.dram := rfl
@[simp] theorem setBank_recorder : (s.setBank n x).recorder = s.recorder := rfl
@[simp] theorem setBank_pinsTaken : (s.setBank n x).pinsTaken = s.pinsTaken := rfl
@[simp] theorem setBank_noted : (s.setBank n x).noted = s.noted := rfl
@[simp] theorem setBank_ctl : (s.setBank n x).ctl = s.ctl := rfl
@[simp] theorem setBank_core : (s.setBank n x).core = s.core := rfl
@[simp] theorem setBank_keeper : (s.setBank n x).keeper = s.keeper := rfl
@[simp] theorem setBank_devName : (s.setBank n x).devName = s.devName := rfl
end

section
variable (q p a : Nat) (w : StoredWord)

@[simp] theorem setCellAt_pending : (s.setCellAt q p a w).pending = s.pending := rfl
@[simp] theorem setCellAt_regs : (s.setCellAt q p a w).regs = s.regs := rfl
@[simp] theorem setCellAt_force : (s.setCellAt q p a w).force = s.force := rfl
@[simp] theorem setCellAt_deferred : (s.setCellAt q p a w).deferred = s.deferred := rfl
@[simp] theorem setCellAt_fv : (s.setCellAt q p a w).fv = s.fv := rfl
@[simp] theorem setCellAt_dev : (s.setCellAt q p a w).dev = s.dev := rfl
@[simp] theorem setCellAt_life : (s.setCellAt q p a w).life = s.life := rfl
@[simp] theorem setCellAt_userRights : (s.setCellAt q p a w).userRights = s.userRights := rfl
@[simp] theorem setCellAt_cut : (s.setCellAt q p a w).cut = s.cut := rfl
@[simp] theorem setCellAt_lossHeld : (s.setCellAt q p a w).lossHeld = s.lossHeld := rfl
@[simp] theorem setCellAt_lossFrom : (s.setCellAt q p a w).lossFrom = s.lossFrom := rfl
@[simp] theorem setCellAt_safeDue : (s.setCellAt q p a w).safeDue = s.safeDue := rfl
@[simp] theorem setCellAt_resetDue : (s.setCellAt q p a w).resetDue = s.resetDue := rfl
@[simp] theorem setCellAt_fabricOn : (s.setCellAt q p a w).fabricOn = s.fabricOn := rfl
@[simp] theorem setCellAt_tb : (s.setCellAt q p a w).tb = s.tb := rfl
@[simp] theorem setCellAt_rb : (s.setCellAt q p a w).rb = s.rb := rfl
@[simp] theorem setCellAt_ports : (s.setCellAt q p a w).ports = s.ports := rfl
@[simp] theorem setCellAt_banks : (s.setCellAt q p a w).banks = s.banks := rfl
@[simp] theorem setCellAt_lanes : (s.setCellAt q p a w).lanes = s.lanes := rfl
@[simp] theorem setCellAt_fixed : (s.setCellAt q p a w).fixed = s.fixed := rfl
@[simp] theorem setCellAt_rings : (s.setCellAt q p a w).rings = s.rings := rfl
@[simp] theorem setCellAt_mem : (s.setCellAt q p a w).mem = s.mem := rfl
@[simp] theorem setCellAt_bist : (s.setCellAt q p a w).bist = s.bist := rfl
@[simp] theorem setCellAt_dec : (s.setCellAt q p a w).dec = s.dec := rfl
@[simp] theorem setCellAt_eb : (s.setCellAt q p a w).eb = s.eb := rfl
@[simp] theorem setCellAt_queues : (s.setCellAt q p a w).queues = s.queues := rfl
@[simp] theorem setCellAt_qports : (s.setCellAt q p a w).qports = s.qports := rfl
@[simp] theorem setCellAt_trunks : (s.setCellAt q p a w).trunks = s.trunks := rfl
@[simp] theorem setCellAt_load : (s.setCellAt q p a w).load = s.load := rfl
@[simp] theorem setCellAt_scr : (s.setCellAt q p a w).scr = s.scr := rfl
@[simp] theorem setCellAt_dbg : (s.setCellAt q p a w).dbg = s.dbg := rfl
@[simp] theorem setCellAt_run : (s.setCellAt q p a w).run = s.run := rfl
@[simp] theorem setCellAt_mbox : (s.setCellAt q p a w).mbox = s.mbox := rfl
@[simp] theorem setCellAt_lc : (s.setCellAt q p a w).lc = s.lc := rfl
@[simp] theorem setCellAt_freeze : (s.setCellAt q p a w).freeze = s.freeze := rfl
@[simp] theorem setCellAt_power : (s.setCellAt q p a w).power = s.power := rfl
@[simp] theorem setCellAt_heat : (s.setCellAt q p a w).heat = s.heat := rfl
@[simp] theorem setCellAt_dists : (s.setCellAt q p a w).dists = s.dists := rfl
@[simp] theorem setCellAt_planes : (s.setCellAt q p a w).planes = s.planes := rfl
@[simp] theorem setCellAt_frames : (s.setCellAt q p a w).frames = s.frames := rfl
@[simp] theorem setCellAt_flops : (s.setCellAt q p a w).flops = s.flops := rfl
@[simp] theorem setCellAt_fabric : (s.setCellAt q p a w).fabric = s.fabric := rfl
@[simp] theorem setCellAt_guards : (s.setCellAt q p a w).guards = s.guards := rfl
@[simp] theorem setCellAt_dram : (s.setCellAt q p a w).dram = s.dram := rfl
@[simp] theorem setCellAt_recorder : (s.setCellAt q p a w).recorder = s.recorder := rfl
@[simp] theorem setCellAt_pinsTaken : (s.setCellAt q p a w).pinsTaken = s.pinsTaken := rfl
@[simp] theorem setCellAt_noted : (s.setCellAt q p a w).noted = s.noted := rfl
@[simp] theorem setCellAt_ctl : (s.setCellAt q p a w).ctl = s.ctl := rfl
@[simp] theorem setCellAt_core : (s.setCellAt q p a w).core = s.core := rfl
@[simp] theorem setCellAt_keeper : (s.setCellAt q p a w).keeper = s.keeper := rfl
@[simp] theorem setCellAt_devName : (s.setCellAt q p a w).devName = s.devName := rfl
end

section
variable (k : Nat) (v : BitVec 65536)

@[simp] theorem setFlop_pending : (s.setFlop k v).pending = s.pending := rfl
@[simp] theorem setFlop_regs : (s.setFlop k v).regs = s.regs := rfl
@[simp] theorem setFlop_force : (s.setFlop k v).force = s.force := rfl
@[simp] theorem setFlop_deferred : (s.setFlop k v).deferred = s.deferred := rfl
@[simp] theorem setFlop_fv : (s.setFlop k v).fv = s.fv := rfl
@[simp] theorem setFlop_dev : (s.setFlop k v).dev = s.dev := rfl
@[simp] theorem setFlop_life : (s.setFlop k v).life = s.life := rfl
@[simp] theorem setFlop_userRights : (s.setFlop k v).userRights = s.userRights := rfl
@[simp] theorem setFlop_cut : (s.setFlop k v).cut = s.cut := rfl
@[simp] theorem setFlop_lossHeld : (s.setFlop k v).lossHeld = s.lossHeld := rfl
@[simp] theorem setFlop_lossFrom : (s.setFlop k v).lossFrom = s.lossFrom := rfl
@[simp] theorem setFlop_safeDue : (s.setFlop k v).safeDue = s.safeDue := rfl
@[simp] theorem setFlop_resetDue : (s.setFlop k v).resetDue = s.resetDue := rfl
@[simp] theorem setFlop_fabricOn : (s.setFlop k v).fabricOn = s.fabricOn := rfl
@[simp] theorem setFlop_tb : (s.setFlop k v).tb = s.tb := rfl
@[simp] theorem setFlop_rb : (s.setFlop k v).rb = s.rb := rfl
@[simp] theorem setFlop_ports : (s.setFlop k v).ports = s.ports := rfl
@[simp] theorem setFlop_cells : (s.setFlop k v).cells = s.cells := rfl
@[simp] theorem setFlop_banks : (s.setFlop k v).banks = s.banks := rfl
@[simp] theorem setFlop_lanes : (s.setFlop k v).lanes = s.lanes := rfl
@[simp] theorem setFlop_fixed : (s.setFlop k v).fixed = s.fixed := rfl
@[simp] theorem setFlop_rings : (s.setFlop k v).rings = s.rings := rfl
@[simp] theorem setFlop_mem : (s.setFlop k v).mem = s.mem := rfl
@[simp] theorem setFlop_bist : (s.setFlop k v).bist = s.bist := rfl
@[simp] theorem setFlop_dec : (s.setFlop k v).dec = s.dec := rfl
@[simp] theorem setFlop_eb : (s.setFlop k v).eb = s.eb := rfl
@[simp] theorem setFlop_queues : (s.setFlop k v).queues = s.queues := rfl
@[simp] theorem setFlop_qports : (s.setFlop k v).qports = s.qports := rfl
@[simp] theorem setFlop_trunks : (s.setFlop k v).trunks = s.trunks := rfl
@[simp] theorem setFlop_load : (s.setFlop k v).load = s.load := rfl
@[simp] theorem setFlop_scr : (s.setFlop k v).scr = s.scr := rfl
@[simp] theorem setFlop_dbg : (s.setFlop k v).dbg = s.dbg := rfl
@[simp] theorem setFlop_run : (s.setFlop k v).run = s.run := rfl
@[simp] theorem setFlop_mbox : (s.setFlop k v).mbox = s.mbox := rfl
@[simp] theorem setFlop_lc : (s.setFlop k v).lc = s.lc := rfl
@[simp] theorem setFlop_freeze : (s.setFlop k v).freeze = s.freeze := rfl
@[simp] theorem setFlop_power : (s.setFlop k v).power = s.power := rfl
@[simp] theorem setFlop_heat : (s.setFlop k v).heat = s.heat := rfl
@[simp] theorem setFlop_dists : (s.setFlop k v).dists = s.dists := rfl
@[simp] theorem setFlop_planes : (s.setFlop k v).planes = s.planes := rfl
@[simp] theorem setFlop_frames : (s.setFlop k v).frames = s.frames := rfl
@[simp] theorem setFlop_fabric : (s.setFlop k v).fabric = s.fabric := rfl
@[simp] theorem setFlop_guards : (s.setFlop k v).guards = s.guards := rfl
@[simp] theorem setFlop_dram : (s.setFlop k v).dram = s.dram := rfl
@[simp] theorem setFlop_recorder : (s.setFlop k v).recorder = s.recorder := rfl
@[simp] theorem setFlop_pinsTaken : (s.setFlop k v).pinsTaken = s.pinsTaken := rfl
@[simp] theorem setFlop_noted : (s.setFlop k v).noted = s.noted := rfl
@[simp] theorem setFlop_ctl : (s.setFlop k v).ctl = s.ctl := rfl
@[simp] theorem setFlop_core : (s.setFlop k v).core = s.core := rfl
@[simp] theorem setFlop_keeper : (s.setFlop k v).keeper = s.keeper := rfl
@[simp] theorem setFlop_devName : (s.setFlop k v).devName = s.devName := rfl
end

section
variable (k f : Nat) (v : BitVec 2093)

@[simp] theorem setFrame_pending : (s.setFrame k f v).pending = s.pending := rfl
@[simp] theorem setFrame_regs : (s.setFrame k f v).regs = s.regs := rfl
@[simp] theorem setFrame_force : (s.setFrame k f v).force = s.force := rfl
@[simp] theorem setFrame_deferred : (s.setFrame k f v).deferred = s.deferred := rfl
@[simp] theorem setFrame_fv : (s.setFrame k f v).fv = s.fv := rfl
@[simp] theorem setFrame_dev : (s.setFrame k f v).dev = s.dev := rfl
@[simp] theorem setFrame_life : (s.setFrame k f v).life = s.life := rfl
@[simp] theorem setFrame_userRights : (s.setFrame k f v).userRights = s.userRights := rfl
@[simp] theorem setFrame_cut : (s.setFrame k f v).cut = s.cut := rfl
@[simp] theorem setFrame_lossHeld : (s.setFrame k f v).lossHeld = s.lossHeld := rfl
@[simp] theorem setFrame_lossFrom : (s.setFrame k f v).lossFrom = s.lossFrom := rfl
@[simp] theorem setFrame_safeDue : (s.setFrame k f v).safeDue = s.safeDue := rfl
@[simp] theorem setFrame_resetDue : (s.setFrame k f v).resetDue = s.resetDue := rfl
@[simp] theorem setFrame_fabricOn : (s.setFrame k f v).fabricOn = s.fabricOn := rfl
@[simp] theorem setFrame_tb : (s.setFrame k f v).tb = s.tb := rfl
@[simp] theorem setFrame_rb : (s.setFrame k f v).rb = s.rb := rfl
@[simp] theorem setFrame_ports : (s.setFrame k f v).ports = s.ports := rfl
@[simp] theorem setFrame_cells : (s.setFrame k f v).cells = s.cells := rfl
@[simp] theorem setFrame_banks : (s.setFrame k f v).banks = s.banks := rfl
@[simp] theorem setFrame_lanes : (s.setFrame k f v).lanes = s.lanes := rfl
@[simp] theorem setFrame_fixed : (s.setFrame k f v).fixed = s.fixed := rfl
@[simp] theorem setFrame_rings : (s.setFrame k f v).rings = s.rings := rfl
@[simp] theorem setFrame_mem : (s.setFrame k f v).mem = s.mem := rfl
@[simp] theorem setFrame_bist : (s.setFrame k f v).bist = s.bist := rfl
@[simp] theorem setFrame_dec : (s.setFrame k f v).dec = s.dec := rfl
@[simp] theorem setFrame_eb : (s.setFrame k f v).eb = s.eb := rfl
@[simp] theorem setFrame_queues : (s.setFrame k f v).queues = s.queues := rfl
@[simp] theorem setFrame_qports : (s.setFrame k f v).qports = s.qports := rfl
@[simp] theorem setFrame_trunks : (s.setFrame k f v).trunks = s.trunks := rfl
@[simp] theorem setFrame_load : (s.setFrame k f v).load = s.load := rfl
@[simp] theorem setFrame_scr : (s.setFrame k f v).scr = s.scr := rfl
@[simp] theorem setFrame_dbg : (s.setFrame k f v).dbg = s.dbg := rfl
@[simp] theorem setFrame_run : (s.setFrame k f v).run = s.run := rfl
@[simp] theorem setFrame_mbox : (s.setFrame k f v).mbox = s.mbox := rfl
@[simp] theorem setFrame_lc : (s.setFrame k f v).lc = s.lc := rfl
@[simp] theorem setFrame_freeze : (s.setFrame k f v).freeze = s.freeze := rfl
@[simp] theorem setFrame_power : (s.setFrame k f v).power = s.power := rfl
@[simp] theorem setFrame_heat : (s.setFrame k f v).heat = s.heat := rfl
@[simp] theorem setFrame_dists : (s.setFrame k f v).dists = s.dists := rfl
@[simp] theorem setFrame_planes : (s.setFrame k f v).planes = s.planes := rfl
@[simp] theorem setFrame_flops : (s.setFrame k f v).flops = s.flops := rfl
@[simp] theorem setFrame_fabric : (s.setFrame k f v).fabric = s.fabric := rfl
@[simp] theorem setFrame_guards : (s.setFrame k f v).guards = s.guards := rfl
@[simp] theorem setFrame_dram : (s.setFrame k f v).dram = s.dram := rfl
@[simp] theorem setFrame_recorder : (s.setFrame k f v).recorder = s.recorder := rfl
@[simp] theorem setFrame_pinsTaken : (s.setFrame k f v).pinsTaken = s.pinsTaken := rfl
@[simp] theorem setFrame_noted : (s.setFrame k f v).noted = s.noted := rfl
@[simp] theorem setFrame_ctl : (s.setFrame k f v).ctl = s.ctl := rfl
@[simp] theorem setFrame_core : (s.setFrame k f v).core = s.core := rfl
@[simp] theorem setFrame_keeper : (s.setFrame k f v).keeper = s.keeper := rfl
@[simp] theorem setFrame_devName : (s.setFrame k f v).devName = s.devName := rfl
end

section
variable (x : CfgScrub)

@[simp] theorem setScr_pending : (s.setScr x).pending = s.pending := rfl
@[simp] theorem setScr_regs : (s.setScr x).regs = s.regs := rfl
@[simp] theorem setScr_force : (s.setScr x).force = s.force := rfl
@[simp] theorem setScr_deferred : (s.setScr x).deferred = s.deferred := rfl
@[simp] theorem setScr_fv : (s.setScr x).fv = s.fv := rfl
@[simp] theorem setScr_dev : (s.setScr x).dev = s.dev := rfl
@[simp] theorem setScr_life : (s.setScr x).life = s.life := rfl
@[simp] theorem setScr_userRights : (s.setScr x).userRights = s.userRights := rfl
@[simp] theorem setScr_cut : (s.setScr x).cut = s.cut := rfl
@[simp] theorem setScr_lossHeld : (s.setScr x).lossHeld = s.lossHeld := rfl
@[simp] theorem setScr_lossFrom : (s.setScr x).lossFrom = s.lossFrom := rfl
@[simp] theorem setScr_safeDue : (s.setScr x).safeDue = s.safeDue := rfl
@[simp] theorem setScr_resetDue : (s.setScr x).resetDue = s.resetDue := rfl
@[simp] theorem setScr_fabricOn : (s.setScr x).fabricOn = s.fabricOn := rfl
@[simp] theorem setScr_tb : (s.setScr x).tb = s.tb := rfl
@[simp] theorem setScr_rb : (s.setScr x).rb = s.rb := rfl
@[simp] theorem setScr_ports : (s.setScr x).ports = s.ports := rfl
@[simp] theorem setScr_cells : (s.setScr x).cells = s.cells := rfl
@[simp] theorem setScr_banks : (s.setScr x).banks = s.banks := rfl
@[simp] theorem setScr_lanes : (s.setScr x).lanes = s.lanes := rfl
@[simp] theorem setScr_fixed : (s.setScr x).fixed = s.fixed := rfl
@[simp] theorem setScr_rings : (s.setScr x).rings = s.rings := rfl
@[simp] theorem setScr_mem : (s.setScr x).mem = s.mem := rfl
@[simp] theorem setScr_bist : (s.setScr x).bist = s.bist := rfl
@[simp] theorem setScr_dec : (s.setScr x).dec = s.dec := rfl
@[simp] theorem setScr_eb : (s.setScr x).eb = s.eb := rfl
@[simp] theorem setScr_queues : (s.setScr x).queues = s.queues := rfl
@[simp] theorem setScr_qports : (s.setScr x).qports = s.qports := rfl
@[simp] theorem setScr_trunks : (s.setScr x).trunks = s.trunks := rfl
@[simp] theorem setScr_load : (s.setScr x).load = s.load := rfl
@[simp] theorem setScr_dbg : (s.setScr x).dbg = s.dbg := rfl
@[simp] theorem setScr_run : (s.setScr x).run = s.run := rfl
@[simp] theorem setScr_mbox : (s.setScr x).mbox = s.mbox := rfl
@[simp] theorem setScr_lc : (s.setScr x).lc = s.lc := rfl
@[simp] theorem setScr_freeze : (s.setScr x).freeze = s.freeze := rfl
@[simp] theorem setScr_power : (s.setScr x).power = s.power := rfl
@[simp] theorem setScr_heat : (s.setScr x).heat = s.heat := rfl
@[simp] theorem setScr_dists : (s.setScr x).dists = s.dists := rfl
@[simp] theorem setScr_planes : (s.setScr x).planes = s.planes := rfl
@[simp] theorem setScr_frames : (s.setScr x).frames = s.frames := rfl
@[simp] theorem setScr_flops : (s.setScr x).flops = s.flops := rfl
@[simp] theorem setScr_fabric : (s.setScr x).fabric = s.fabric := rfl
@[simp] theorem setScr_guards : (s.setScr x).guards = s.guards := rfl
@[simp] theorem setScr_dram : (s.setScr x).dram = s.dram := rfl
@[simp] theorem setScr_recorder : (s.setScr x).recorder = s.recorder := rfl
@[simp] theorem setScr_pinsTaken : (s.setScr x).pinsTaken = s.pinsTaken := rfl
@[simp] theorem setScr_noted : (s.setScr x).noted = s.noted := rfl
@[simp] theorem setScr_ctl : (s.setScr x).ctl = s.ctl := rfl
@[simp] theorem setScr_core : (s.setScr x).core = s.core := rfl
@[simp] theorem setScr_keeper : (s.setScr x).keeper = s.keeper := rfl
@[simp] theorem setScr_devName : (s.setScr x).devName = s.devName := rfl
@[simp] theorem setScr_scr : (s.setScr x).scr = x := rfl
end

section
variable (x : Loader)

@[simp] theorem setLoad_pending : (s.setLoad x).pending = s.pending := rfl
@[simp] theorem setLoad_regs : (s.setLoad x).regs = s.regs := rfl
@[simp] theorem setLoad_force : (s.setLoad x).force = s.force := rfl
@[simp] theorem setLoad_deferred : (s.setLoad x).deferred = s.deferred := rfl
@[simp] theorem setLoad_fv : (s.setLoad x).fv = s.fv := rfl
@[simp] theorem setLoad_dev : (s.setLoad x).dev = s.dev := rfl
@[simp] theorem setLoad_life : (s.setLoad x).life = s.life := rfl
@[simp] theorem setLoad_userRights : (s.setLoad x).userRights = s.userRights := rfl
@[simp] theorem setLoad_cut : (s.setLoad x).cut = s.cut := rfl
@[simp] theorem setLoad_lossHeld : (s.setLoad x).lossHeld = s.lossHeld := rfl
@[simp] theorem setLoad_lossFrom : (s.setLoad x).lossFrom = s.lossFrom := rfl
@[simp] theorem setLoad_safeDue : (s.setLoad x).safeDue = s.safeDue := rfl
@[simp] theorem setLoad_resetDue : (s.setLoad x).resetDue = s.resetDue := rfl
@[simp] theorem setLoad_fabricOn : (s.setLoad x).fabricOn = s.fabricOn := rfl
@[simp] theorem setLoad_tb : (s.setLoad x).tb = s.tb := rfl
@[simp] theorem setLoad_rb : (s.setLoad x).rb = s.rb := rfl
@[simp] theorem setLoad_ports : (s.setLoad x).ports = s.ports := rfl
@[simp] theorem setLoad_cells : (s.setLoad x).cells = s.cells := rfl
@[simp] theorem setLoad_banks : (s.setLoad x).banks = s.banks := rfl
@[simp] theorem setLoad_lanes : (s.setLoad x).lanes = s.lanes := rfl
@[simp] theorem setLoad_fixed : (s.setLoad x).fixed = s.fixed := rfl
@[simp] theorem setLoad_rings : (s.setLoad x).rings = s.rings := rfl
@[simp] theorem setLoad_mem : (s.setLoad x).mem = s.mem := rfl
@[simp] theorem setLoad_bist : (s.setLoad x).bist = s.bist := rfl
@[simp] theorem setLoad_dec : (s.setLoad x).dec = s.dec := rfl
@[simp] theorem setLoad_eb : (s.setLoad x).eb = s.eb := rfl
@[simp] theorem setLoad_queues : (s.setLoad x).queues = s.queues := rfl
@[simp] theorem setLoad_qports : (s.setLoad x).qports = s.qports := rfl
@[simp] theorem setLoad_trunks : (s.setLoad x).trunks = s.trunks := rfl
@[simp] theorem setLoad_scr : (s.setLoad x).scr = s.scr := rfl
@[simp] theorem setLoad_dbg : (s.setLoad x).dbg = s.dbg := rfl
@[simp] theorem setLoad_run : (s.setLoad x).run = s.run := rfl
@[simp] theorem setLoad_mbox : (s.setLoad x).mbox = s.mbox := rfl
@[simp] theorem setLoad_lc : (s.setLoad x).lc = s.lc := rfl
@[simp] theorem setLoad_freeze : (s.setLoad x).freeze = s.freeze := rfl
@[simp] theorem setLoad_power : (s.setLoad x).power = s.power := rfl
@[simp] theorem setLoad_heat : (s.setLoad x).heat = s.heat := rfl
@[simp] theorem setLoad_dists : (s.setLoad x).dists = s.dists := rfl
@[simp] theorem setLoad_planes : (s.setLoad x).planes = s.planes := rfl
@[simp] theorem setLoad_frames : (s.setLoad x).frames = s.frames := rfl
@[simp] theorem setLoad_flops : (s.setLoad x).flops = s.flops := rfl
@[simp] theorem setLoad_fabric : (s.setLoad x).fabric = s.fabric := rfl
@[simp] theorem setLoad_guards : (s.setLoad x).guards = s.guards := rfl
@[simp] theorem setLoad_dram : (s.setLoad x).dram = s.dram := rfl
@[simp] theorem setLoad_recorder : (s.setLoad x).recorder = s.recorder := rfl
@[simp] theorem setLoad_pinsTaken : (s.setLoad x).pinsTaken = s.pinsTaken := rfl
@[simp] theorem setLoad_noted : (s.setLoad x).noted = s.noted := rfl
@[simp] theorem setLoad_ctl : (s.setLoad x).ctl = s.ctl := rfl
@[simp] theorem setLoad_core : (s.setLoad x).core = s.core := rfl
@[simp] theorem setLoad_keeper : (s.setLoad x).keeper = s.keeper := rfl
@[simp] theorem setLoad_devName : (s.setLoad x).devName = s.devName := rfl
@[simp] theorem setLoad_load : (s.setLoad x).load = x := rfl
end

section
variable (k : Nat) (x : Trunk)

@[simp] theorem setTrunk_pending : (s.setTrunk k x).pending = s.pending := rfl
@[simp] theorem setTrunk_regs : (s.setTrunk k x).regs = s.regs := rfl
@[simp] theorem setTrunk_force : (s.setTrunk k x).force = s.force := rfl
@[simp] theorem setTrunk_deferred : (s.setTrunk k x).deferred = s.deferred := rfl
@[simp] theorem setTrunk_fv : (s.setTrunk k x).fv = s.fv := rfl
@[simp] theorem setTrunk_dev : (s.setTrunk k x).dev = s.dev := rfl
@[simp] theorem setTrunk_life : (s.setTrunk k x).life = s.life := rfl
@[simp] theorem setTrunk_userRights : (s.setTrunk k x).userRights = s.userRights := rfl
@[simp] theorem setTrunk_cut : (s.setTrunk k x).cut = s.cut := rfl
@[simp] theorem setTrunk_lossHeld : (s.setTrunk k x).lossHeld = s.lossHeld := rfl
@[simp] theorem setTrunk_lossFrom : (s.setTrunk k x).lossFrom = s.lossFrom := rfl
@[simp] theorem setTrunk_safeDue : (s.setTrunk k x).safeDue = s.safeDue := rfl
@[simp] theorem setTrunk_resetDue : (s.setTrunk k x).resetDue = s.resetDue := rfl
@[simp] theorem setTrunk_fabricOn : (s.setTrunk k x).fabricOn = s.fabricOn := rfl
@[simp] theorem setTrunk_tb : (s.setTrunk k x).tb = s.tb := rfl
@[simp] theorem setTrunk_rb : (s.setTrunk k x).rb = s.rb := rfl
@[simp] theorem setTrunk_ports : (s.setTrunk k x).ports = s.ports := rfl
@[simp] theorem setTrunk_cells : (s.setTrunk k x).cells = s.cells := rfl
@[simp] theorem setTrunk_banks : (s.setTrunk k x).banks = s.banks := rfl
@[simp] theorem setTrunk_lanes : (s.setTrunk k x).lanes = s.lanes := rfl
@[simp] theorem setTrunk_fixed : (s.setTrunk k x).fixed = s.fixed := rfl
@[simp] theorem setTrunk_rings : (s.setTrunk k x).rings = s.rings := rfl
@[simp] theorem setTrunk_mem : (s.setTrunk k x).mem = s.mem := rfl
@[simp] theorem setTrunk_bist : (s.setTrunk k x).bist = s.bist := rfl
@[simp] theorem setTrunk_dec : (s.setTrunk k x).dec = s.dec := rfl
@[simp] theorem setTrunk_eb : (s.setTrunk k x).eb = s.eb := rfl
@[simp] theorem setTrunk_queues : (s.setTrunk k x).queues = s.queues := rfl
@[simp] theorem setTrunk_qports : (s.setTrunk k x).qports = s.qports := rfl
@[simp] theorem setTrunk_load : (s.setTrunk k x).load = s.load := rfl
@[simp] theorem setTrunk_scr : (s.setTrunk k x).scr = s.scr := rfl
@[simp] theorem setTrunk_dbg : (s.setTrunk k x).dbg = s.dbg := rfl
@[simp] theorem setTrunk_run : (s.setTrunk k x).run = s.run := rfl
@[simp] theorem setTrunk_mbox : (s.setTrunk k x).mbox = s.mbox := rfl
@[simp] theorem setTrunk_lc : (s.setTrunk k x).lc = s.lc := rfl
@[simp] theorem setTrunk_freeze : (s.setTrunk k x).freeze = s.freeze := rfl
@[simp] theorem setTrunk_power : (s.setTrunk k x).power = s.power := rfl
@[simp] theorem setTrunk_heat : (s.setTrunk k x).heat = s.heat := rfl
@[simp] theorem setTrunk_dists : (s.setTrunk k x).dists = s.dists := rfl
@[simp] theorem setTrunk_planes : (s.setTrunk k x).planes = s.planes := rfl
@[simp] theorem setTrunk_frames : (s.setTrunk k x).frames = s.frames := rfl
@[simp] theorem setTrunk_flops : (s.setTrunk k x).flops = s.flops := rfl
@[simp] theorem setTrunk_fabric : (s.setTrunk k x).fabric = s.fabric := rfl
@[simp] theorem setTrunk_guards : (s.setTrunk k x).guards = s.guards := rfl
@[simp] theorem setTrunk_dram : (s.setTrunk k x).dram = s.dram := rfl
@[simp] theorem setTrunk_recorder : (s.setTrunk k x).recorder = s.recorder := rfl
@[simp] theorem setTrunk_pinsTaken : (s.setTrunk k x).pinsTaken = s.pinsTaken := rfl
@[simp] theorem setTrunk_noted : (s.setTrunk k x).noted = s.noted := rfl
@[simp] theorem setTrunk_ctl : (s.setTrunk k x).ctl = s.ctl := rfl
@[simp] theorem setTrunk_core : (s.setTrunk k x).core = s.core := rfl
@[simp] theorem setTrunk_keeper : (s.setTrunk k x).keeper = s.keeper := rfl
@[simp] theorem setTrunk_devName : (s.setTrunk k x).devName = s.devName := rfl
end

section
variable (x : Recorder)

@[simp] theorem setRecorder_pending : (s.setRecorder x).pending = s.pending := rfl
@[simp] theorem setRecorder_regs : (s.setRecorder x).regs = s.regs := rfl
@[simp] theorem setRecorder_force : (s.setRecorder x).force = s.force := rfl
@[simp] theorem setRecorder_deferred : (s.setRecorder x).deferred = s.deferred := rfl
@[simp] theorem setRecorder_fv : (s.setRecorder x).fv = s.fv := rfl
@[simp] theorem setRecorder_dev : (s.setRecorder x).dev = s.dev := rfl
@[simp] theorem setRecorder_life : (s.setRecorder x).life = s.life := rfl
@[simp] theorem setRecorder_userRights : (s.setRecorder x).userRights = s.userRights := rfl
@[simp] theorem setRecorder_cut : (s.setRecorder x).cut = s.cut := rfl
@[simp] theorem setRecorder_lossHeld : (s.setRecorder x).lossHeld = s.lossHeld := rfl
@[simp] theorem setRecorder_lossFrom : (s.setRecorder x).lossFrom = s.lossFrom := rfl
@[simp] theorem setRecorder_safeDue : (s.setRecorder x).safeDue = s.safeDue := rfl
@[simp] theorem setRecorder_resetDue : (s.setRecorder x).resetDue = s.resetDue := rfl
@[simp] theorem setRecorder_fabricOn : (s.setRecorder x).fabricOn = s.fabricOn := rfl
@[simp] theorem setRecorder_tb : (s.setRecorder x).tb = s.tb := rfl
@[simp] theorem setRecorder_rb : (s.setRecorder x).rb = s.rb := rfl
@[simp] theorem setRecorder_ports : (s.setRecorder x).ports = s.ports := rfl
@[simp] theorem setRecorder_cells : (s.setRecorder x).cells = s.cells := rfl
@[simp] theorem setRecorder_banks : (s.setRecorder x).banks = s.banks := rfl
@[simp] theorem setRecorder_lanes : (s.setRecorder x).lanes = s.lanes := rfl
@[simp] theorem setRecorder_fixed : (s.setRecorder x).fixed = s.fixed := rfl
@[simp] theorem setRecorder_rings : (s.setRecorder x).rings = s.rings := rfl
@[simp] theorem setRecorder_mem : (s.setRecorder x).mem = s.mem := rfl
@[simp] theorem setRecorder_bist : (s.setRecorder x).bist = s.bist := rfl
@[simp] theorem setRecorder_dec : (s.setRecorder x).dec = s.dec := rfl
@[simp] theorem setRecorder_eb : (s.setRecorder x).eb = s.eb := rfl
@[simp] theorem setRecorder_queues : (s.setRecorder x).queues = s.queues := rfl
@[simp] theorem setRecorder_qports : (s.setRecorder x).qports = s.qports := rfl
@[simp] theorem setRecorder_trunks : (s.setRecorder x).trunks = s.trunks := rfl
@[simp] theorem setRecorder_load : (s.setRecorder x).load = s.load := rfl
@[simp] theorem setRecorder_scr : (s.setRecorder x).scr = s.scr := rfl
@[simp] theorem setRecorder_dbg : (s.setRecorder x).dbg = s.dbg := rfl
@[simp] theorem setRecorder_run : (s.setRecorder x).run = s.run := rfl
@[simp] theorem setRecorder_mbox : (s.setRecorder x).mbox = s.mbox := rfl
@[simp] theorem setRecorder_lc : (s.setRecorder x).lc = s.lc := rfl
@[simp] theorem setRecorder_freeze : (s.setRecorder x).freeze = s.freeze := rfl
@[simp] theorem setRecorder_power : (s.setRecorder x).power = s.power := rfl
@[simp] theorem setRecorder_heat : (s.setRecorder x).heat = s.heat := rfl
@[simp] theorem setRecorder_dists : (s.setRecorder x).dists = s.dists := rfl
@[simp] theorem setRecorder_planes : (s.setRecorder x).planes = s.planes := rfl
@[simp] theorem setRecorder_frames : (s.setRecorder x).frames = s.frames := rfl
@[simp] theorem setRecorder_flops : (s.setRecorder x).flops = s.flops := rfl
@[simp] theorem setRecorder_fabric : (s.setRecorder x).fabric = s.fabric := rfl
@[simp] theorem setRecorder_guards : (s.setRecorder x).guards = s.guards := rfl
@[simp] theorem setRecorder_dram : (s.setRecorder x).dram = s.dram := rfl
@[simp] theorem setRecorder_pinsTaken : (s.setRecorder x).pinsTaken = s.pinsTaken := rfl
@[simp] theorem setRecorder_noted : (s.setRecorder x).noted = s.noted := rfl
@[simp] theorem setRecorder_ctl : (s.setRecorder x).ctl = s.ctl := rfl
@[simp] theorem setRecorder_core : (s.setRecorder x).core = s.core := rfl
@[simp] theorem setRecorder_keeper : (s.setRecorder x).keeper = s.keeper := rfl
@[simp] theorem setRecorder_devName : (s.setRecorder x).devName = s.devName := rfl
@[simp] theorem setRecorder_recorder : (s.setRecorder x).recorder = x := rfl
end

section
variable (x : Keeper)

@[simp] theorem setKeeper_pending : (s.setKeeper x).pending = s.pending := rfl
@[simp] theorem setKeeper_regs : (s.setKeeper x).regs = s.regs := rfl
@[simp] theorem setKeeper_force : (s.setKeeper x).force = s.force := rfl
@[simp] theorem setKeeper_deferred : (s.setKeeper x).deferred = s.deferred := rfl
@[simp] theorem setKeeper_fv : (s.setKeeper x).fv = s.fv := rfl
@[simp] theorem setKeeper_dev : (s.setKeeper x).dev = s.dev := rfl
@[simp] theorem setKeeper_life : (s.setKeeper x).life = s.life := rfl
@[simp] theorem setKeeper_userRights : (s.setKeeper x).userRights = s.userRights := rfl
@[simp] theorem setKeeper_cut : (s.setKeeper x).cut = s.cut := rfl
@[simp] theorem setKeeper_lossHeld : (s.setKeeper x).lossHeld = s.lossHeld := rfl
@[simp] theorem setKeeper_lossFrom : (s.setKeeper x).lossFrom = s.lossFrom := rfl
@[simp] theorem setKeeper_safeDue : (s.setKeeper x).safeDue = s.safeDue := rfl
@[simp] theorem setKeeper_resetDue : (s.setKeeper x).resetDue = s.resetDue := rfl
@[simp] theorem setKeeper_fabricOn : (s.setKeeper x).fabricOn = s.fabricOn := rfl
@[simp] theorem setKeeper_tb : (s.setKeeper x).tb = s.tb := rfl
@[simp] theorem setKeeper_rb : (s.setKeeper x).rb = s.rb := rfl
@[simp] theorem setKeeper_ports : (s.setKeeper x).ports = s.ports := rfl
@[simp] theorem setKeeper_cells : (s.setKeeper x).cells = s.cells := rfl
@[simp] theorem setKeeper_banks : (s.setKeeper x).banks = s.banks := rfl
@[simp] theorem setKeeper_lanes : (s.setKeeper x).lanes = s.lanes := rfl
@[simp] theorem setKeeper_fixed : (s.setKeeper x).fixed = s.fixed := rfl
@[simp] theorem setKeeper_rings : (s.setKeeper x).rings = s.rings := rfl
@[simp] theorem setKeeper_mem : (s.setKeeper x).mem = s.mem := rfl
@[simp] theorem setKeeper_bist : (s.setKeeper x).bist = s.bist := rfl
@[simp] theorem setKeeper_dec : (s.setKeeper x).dec = s.dec := rfl
@[simp] theorem setKeeper_eb : (s.setKeeper x).eb = s.eb := rfl
@[simp] theorem setKeeper_queues : (s.setKeeper x).queues = s.queues := rfl
@[simp] theorem setKeeper_qports : (s.setKeeper x).qports = s.qports := rfl
@[simp] theorem setKeeper_trunks : (s.setKeeper x).trunks = s.trunks := rfl
@[simp] theorem setKeeper_load : (s.setKeeper x).load = s.load := rfl
@[simp] theorem setKeeper_scr : (s.setKeeper x).scr = s.scr := rfl
@[simp] theorem setKeeper_dbg : (s.setKeeper x).dbg = s.dbg := rfl
@[simp] theorem setKeeper_run : (s.setKeeper x).run = s.run := rfl
@[simp] theorem setKeeper_mbox : (s.setKeeper x).mbox = s.mbox := rfl
@[simp] theorem setKeeper_lc : (s.setKeeper x).lc = s.lc := rfl
@[simp] theorem setKeeper_freeze : (s.setKeeper x).freeze = s.freeze := rfl
@[simp] theorem setKeeper_power : (s.setKeeper x).power = s.power := rfl
@[simp] theorem setKeeper_heat : (s.setKeeper x).heat = s.heat := rfl
@[simp] theorem setKeeper_dists : (s.setKeeper x).dists = s.dists := rfl
@[simp] theorem setKeeper_planes : (s.setKeeper x).planes = s.planes := rfl
@[simp] theorem setKeeper_frames : (s.setKeeper x).frames = s.frames := rfl
@[simp] theorem setKeeper_flops : (s.setKeeper x).flops = s.flops := rfl
@[simp] theorem setKeeper_fabric : (s.setKeeper x).fabric = s.fabric := rfl
@[simp] theorem setKeeper_guards : (s.setKeeper x).guards = s.guards := rfl
@[simp] theorem setKeeper_dram : (s.setKeeper x).dram = s.dram := rfl
@[simp] theorem setKeeper_recorder : (s.setKeeper x).recorder = s.recorder := rfl
@[simp] theorem setKeeper_pinsTaken : (s.setKeeper x).pinsTaken = s.pinsTaken := rfl
@[simp] theorem setKeeper_noted : (s.setKeeper x).noted = s.noted := rfl
@[simp] theorem setKeeper_ctl : (s.setKeeper x).ctl = s.ctl := rfl
@[simp] theorem setKeeper_core : (s.setKeeper x).core = s.core := rfl
@[simp] theorem setKeeper_devName : (s.setKeeper x).devName = s.devName := rfl
@[simp] theorem setKeeper_keeper : (s.setKeeper x).keeper = x := rfl
end

section
variable (x : ServiceCore)

@[simp] theorem setCore_pending : (s.setCore x).pending = s.pending := rfl
@[simp] theorem setCore_regs : (s.setCore x).regs = s.regs := rfl
@[simp] theorem setCore_force : (s.setCore x).force = s.force := rfl
@[simp] theorem setCore_deferred : (s.setCore x).deferred = s.deferred := rfl
@[simp] theorem setCore_fv : (s.setCore x).fv = s.fv := rfl
@[simp] theorem setCore_dev : (s.setCore x).dev = s.dev := rfl
@[simp] theorem setCore_life : (s.setCore x).life = s.life := rfl
@[simp] theorem setCore_userRights : (s.setCore x).userRights = s.userRights := rfl
@[simp] theorem setCore_cut : (s.setCore x).cut = s.cut := rfl
@[simp] theorem setCore_lossHeld : (s.setCore x).lossHeld = s.lossHeld := rfl
@[simp] theorem setCore_lossFrom : (s.setCore x).lossFrom = s.lossFrom := rfl
@[simp] theorem setCore_safeDue : (s.setCore x).safeDue = s.safeDue := rfl
@[simp] theorem setCore_resetDue : (s.setCore x).resetDue = s.resetDue := rfl
@[simp] theorem setCore_fabricOn : (s.setCore x).fabricOn = s.fabricOn := rfl
@[simp] theorem setCore_tb : (s.setCore x).tb = s.tb := rfl
@[simp] theorem setCore_rb : (s.setCore x).rb = s.rb := rfl
@[simp] theorem setCore_ports : (s.setCore x).ports = s.ports := rfl
@[simp] theorem setCore_cells : (s.setCore x).cells = s.cells := rfl
@[simp] theorem setCore_banks : (s.setCore x).banks = s.banks := rfl
@[simp] theorem setCore_lanes : (s.setCore x).lanes = s.lanes := rfl
@[simp] theorem setCore_fixed : (s.setCore x).fixed = s.fixed := rfl
@[simp] theorem setCore_rings : (s.setCore x).rings = s.rings := rfl
@[simp] theorem setCore_mem : (s.setCore x).mem = s.mem := rfl
@[simp] theorem setCore_bist : (s.setCore x).bist = s.bist := rfl
@[simp] theorem setCore_dec : (s.setCore x).dec = s.dec := rfl
@[simp] theorem setCore_eb : (s.setCore x).eb = s.eb := rfl
@[simp] theorem setCore_queues : (s.setCore x).queues = s.queues := rfl
@[simp] theorem setCore_qports : (s.setCore x).qports = s.qports := rfl
@[simp] theorem setCore_trunks : (s.setCore x).trunks = s.trunks := rfl
@[simp] theorem setCore_load : (s.setCore x).load = s.load := rfl
@[simp] theorem setCore_scr : (s.setCore x).scr = s.scr := rfl
@[simp] theorem setCore_dbg : (s.setCore x).dbg = s.dbg := rfl
@[simp] theorem setCore_run : (s.setCore x).run = s.run := rfl
@[simp] theorem setCore_mbox : (s.setCore x).mbox = s.mbox := rfl
@[simp] theorem setCore_lc : (s.setCore x).lc = s.lc := rfl
@[simp] theorem setCore_freeze : (s.setCore x).freeze = s.freeze := rfl
@[simp] theorem setCore_power : (s.setCore x).power = s.power := rfl
@[simp] theorem setCore_heat : (s.setCore x).heat = s.heat := rfl
@[simp] theorem setCore_dists : (s.setCore x).dists = s.dists := rfl
@[simp] theorem setCore_planes : (s.setCore x).planes = s.planes := rfl
@[simp] theorem setCore_frames : (s.setCore x).frames = s.frames := rfl
@[simp] theorem setCore_flops : (s.setCore x).flops = s.flops := rfl
@[simp] theorem setCore_fabric : (s.setCore x).fabric = s.fabric := rfl
@[simp] theorem setCore_guards : (s.setCore x).guards = s.guards := rfl
@[simp] theorem setCore_dram : (s.setCore x).dram = s.dram := rfl
@[simp] theorem setCore_recorder : (s.setCore x).recorder = s.recorder := rfl
@[simp] theorem setCore_pinsTaken : (s.setCore x).pinsTaken = s.pinsTaken := rfl
@[simp] theorem setCore_noted : (s.setCore x).noted = s.noted := rfl
@[simp] theorem setCore_ctl : (s.setCore x).ctl = s.ctl := rfl
@[simp] theorem setCore_keeper : (s.setCore x).keeper = s.keeper := rfl
@[simp] theorem setCore_devName : (s.setCore x).devName = s.devName := rfl
@[simp] theorem setCore_core : (s.setCore x).core = x := rfl
end

section
variable (x : CoreRun)

@[simp] theorem setRun_pending : (s.setRun x).pending = s.pending := rfl
@[simp] theorem setRun_regs : (s.setRun x).regs = s.regs := rfl
@[simp] theorem setRun_force : (s.setRun x).force = s.force := rfl
@[simp] theorem setRun_deferred : (s.setRun x).deferred = s.deferred := rfl
@[simp] theorem setRun_fv : (s.setRun x).fv = s.fv := rfl
@[simp] theorem setRun_dev : (s.setRun x).dev = s.dev := rfl
@[simp] theorem setRun_life : (s.setRun x).life = s.life := rfl
@[simp] theorem setRun_userRights : (s.setRun x).userRights = s.userRights := rfl
@[simp] theorem setRun_cut : (s.setRun x).cut = s.cut := rfl
@[simp] theorem setRun_lossHeld : (s.setRun x).lossHeld = s.lossHeld := rfl
@[simp] theorem setRun_lossFrom : (s.setRun x).lossFrom = s.lossFrom := rfl
@[simp] theorem setRun_safeDue : (s.setRun x).safeDue = s.safeDue := rfl
@[simp] theorem setRun_resetDue : (s.setRun x).resetDue = s.resetDue := rfl
@[simp] theorem setRun_fabricOn : (s.setRun x).fabricOn = s.fabricOn := rfl
@[simp] theorem setRun_tb : (s.setRun x).tb = s.tb := rfl
@[simp] theorem setRun_rb : (s.setRun x).rb = s.rb := rfl
@[simp] theorem setRun_ports : (s.setRun x).ports = s.ports := rfl
@[simp] theorem setRun_cells : (s.setRun x).cells = s.cells := rfl
@[simp] theorem setRun_banks : (s.setRun x).banks = s.banks := rfl
@[simp] theorem setRun_lanes : (s.setRun x).lanes = s.lanes := rfl
@[simp] theorem setRun_fixed : (s.setRun x).fixed = s.fixed := rfl
@[simp] theorem setRun_rings : (s.setRun x).rings = s.rings := rfl
@[simp] theorem setRun_mem : (s.setRun x).mem = s.mem := rfl
@[simp] theorem setRun_bist : (s.setRun x).bist = s.bist := rfl
@[simp] theorem setRun_dec : (s.setRun x).dec = s.dec := rfl
@[simp] theorem setRun_eb : (s.setRun x).eb = s.eb := rfl
@[simp] theorem setRun_queues : (s.setRun x).queues = s.queues := rfl
@[simp] theorem setRun_qports : (s.setRun x).qports = s.qports := rfl
@[simp] theorem setRun_trunks : (s.setRun x).trunks = s.trunks := rfl
@[simp] theorem setRun_load : (s.setRun x).load = s.load := rfl
@[simp] theorem setRun_scr : (s.setRun x).scr = s.scr := rfl
@[simp] theorem setRun_dbg : (s.setRun x).dbg = s.dbg := rfl
@[simp] theorem setRun_mbox : (s.setRun x).mbox = s.mbox := rfl
@[simp] theorem setRun_lc : (s.setRun x).lc = s.lc := rfl
@[simp] theorem setRun_freeze : (s.setRun x).freeze = s.freeze := rfl
@[simp] theorem setRun_power : (s.setRun x).power = s.power := rfl
@[simp] theorem setRun_heat : (s.setRun x).heat = s.heat := rfl
@[simp] theorem setRun_dists : (s.setRun x).dists = s.dists := rfl
@[simp] theorem setRun_planes : (s.setRun x).planes = s.planes := rfl
@[simp] theorem setRun_frames : (s.setRun x).frames = s.frames := rfl
@[simp] theorem setRun_flops : (s.setRun x).flops = s.flops := rfl
@[simp] theorem setRun_fabric : (s.setRun x).fabric = s.fabric := rfl
@[simp] theorem setRun_guards : (s.setRun x).guards = s.guards := rfl
@[simp] theorem setRun_dram : (s.setRun x).dram = s.dram := rfl
@[simp] theorem setRun_recorder : (s.setRun x).recorder = s.recorder := rfl
@[simp] theorem setRun_pinsTaken : (s.setRun x).pinsTaken = s.pinsTaken := rfl
@[simp] theorem setRun_noted : (s.setRun x).noted = s.noted := rfl
@[simp] theorem setRun_ctl : (s.setRun x).ctl = s.ctl := rfl
@[simp] theorem setRun_core : (s.setRun x).core = s.core := rfl
@[simp] theorem setRun_keeper : (s.setRun x).keeper = s.keeper := rfl
@[simp] theorem setRun_devName : (s.setRun x).devName = s.devName := rfl
@[simp] theorem setRun_run : (s.setRun x).run = x := rfl
end

section
variable (x : Mailbox)

@[simp] theorem setMbox_pending : (s.setMbox x).pending = s.pending := rfl
@[simp] theorem setMbox_regs : (s.setMbox x).regs = s.regs := rfl
@[simp] theorem setMbox_force : (s.setMbox x).force = s.force := rfl
@[simp] theorem setMbox_deferred : (s.setMbox x).deferred = s.deferred := rfl
@[simp] theorem setMbox_fv : (s.setMbox x).fv = s.fv := rfl
@[simp] theorem setMbox_dev : (s.setMbox x).dev = s.dev := rfl
@[simp] theorem setMbox_life : (s.setMbox x).life = s.life := rfl
@[simp] theorem setMbox_userRights : (s.setMbox x).userRights = s.userRights := rfl
@[simp] theorem setMbox_cut : (s.setMbox x).cut = s.cut := rfl
@[simp] theorem setMbox_lossHeld : (s.setMbox x).lossHeld = s.lossHeld := rfl
@[simp] theorem setMbox_lossFrom : (s.setMbox x).lossFrom = s.lossFrom := rfl
@[simp] theorem setMbox_safeDue : (s.setMbox x).safeDue = s.safeDue := rfl
@[simp] theorem setMbox_resetDue : (s.setMbox x).resetDue = s.resetDue := rfl
@[simp] theorem setMbox_fabricOn : (s.setMbox x).fabricOn = s.fabricOn := rfl
@[simp] theorem setMbox_tb : (s.setMbox x).tb = s.tb := rfl
@[simp] theorem setMbox_rb : (s.setMbox x).rb = s.rb := rfl
@[simp] theorem setMbox_ports : (s.setMbox x).ports = s.ports := rfl
@[simp] theorem setMbox_cells : (s.setMbox x).cells = s.cells := rfl
@[simp] theorem setMbox_banks : (s.setMbox x).banks = s.banks := rfl
@[simp] theorem setMbox_lanes : (s.setMbox x).lanes = s.lanes := rfl
@[simp] theorem setMbox_fixed : (s.setMbox x).fixed = s.fixed := rfl
@[simp] theorem setMbox_rings : (s.setMbox x).rings = s.rings := rfl
@[simp] theorem setMbox_mem : (s.setMbox x).mem = s.mem := rfl
@[simp] theorem setMbox_bist : (s.setMbox x).bist = s.bist := rfl
@[simp] theorem setMbox_dec : (s.setMbox x).dec = s.dec := rfl
@[simp] theorem setMbox_eb : (s.setMbox x).eb = s.eb := rfl
@[simp] theorem setMbox_queues : (s.setMbox x).queues = s.queues := rfl
@[simp] theorem setMbox_qports : (s.setMbox x).qports = s.qports := rfl
@[simp] theorem setMbox_trunks : (s.setMbox x).trunks = s.trunks := rfl
@[simp] theorem setMbox_load : (s.setMbox x).load = s.load := rfl
@[simp] theorem setMbox_scr : (s.setMbox x).scr = s.scr := rfl
@[simp] theorem setMbox_dbg : (s.setMbox x).dbg = s.dbg := rfl
@[simp] theorem setMbox_run : (s.setMbox x).run = s.run := rfl
@[simp] theorem setMbox_lc : (s.setMbox x).lc = s.lc := rfl
@[simp] theorem setMbox_freeze : (s.setMbox x).freeze = s.freeze := rfl
@[simp] theorem setMbox_power : (s.setMbox x).power = s.power := rfl
@[simp] theorem setMbox_heat : (s.setMbox x).heat = s.heat := rfl
@[simp] theorem setMbox_dists : (s.setMbox x).dists = s.dists := rfl
@[simp] theorem setMbox_planes : (s.setMbox x).planes = s.planes := rfl
@[simp] theorem setMbox_frames : (s.setMbox x).frames = s.frames := rfl
@[simp] theorem setMbox_flops : (s.setMbox x).flops = s.flops := rfl
@[simp] theorem setMbox_fabric : (s.setMbox x).fabric = s.fabric := rfl
@[simp] theorem setMbox_guards : (s.setMbox x).guards = s.guards := rfl
@[simp] theorem setMbox_dram : (s.setMbox x).dram = s.dram := rfl
@[simp] theorem setMbox_recorder : (s.setMbox x).recorder = s.recorder := rfl
@[simp] theorem setMbox_pinsTaken : (s.setMbox x).pinsTaken = s.pinsTaken := rfl
@[simp] theorem setMbox_noted : (s.setMbox x).noted = s.noted := rfl
@[simp] theorem setMbox_ctl : (s.setMbox x).ctl = s.ctl := rfl
@[simp] theorem setMbox_core : (s.setMbox x).core = s.core := rfl
@[simp] theorem setMbox_keeper : (s.setMbox x).keeper = s.keeper := rfl
@[simp] theorem setMbox_devName : (s.setMbox x).devName = s.devName := rfl
@[simp] theorem setMbox_mbox : (s.setMbox x).mbox = x := rfl
end

section
variable (x : DebugPort)

@[simp] theorem setDbg_pending : (s.setDbg x).pending = s.pending := rfl
@[simp] theorem setDbg_regs : (s.setDbg x).regs = s.regs := rfl
@[simp] theorem setDbg_force : (s.setDbg x).force = s.force := rfl
@[simp] theorem setDbg_deferred : (s.setDbg x).deferred = s.deferred := rfl
@[simp] theorem setDbg_fv : (s.setDbg x).fv = s.fv := rfl
@[simp] theorem setDbg_dev : (s.setDbg x).dev = s.dev := rfl
@[simp] theorem setDbg_life : (s.setDbg x).life = s.life := rfl
@[simp] theorem setDbg_userRights : (s.setDbg x).userRights = s.userRights := rfl
@[simp] theorem setDbg_cut : (s.setDbg x).cut = s.cut := rfl
@[simp] theorem setDbg_lossHeld : (s.setDbg x).lossHeld = s.lossHeld := rfl
@[simp] theorem setDbg_lossFrom : (s.setDbg x).lossFrom = s.lossFrom := rfl
@[simp] theorem setDbg_safeDue : (s.setDbg x).safeDue = s.safeDue := rfl
@[simp] theorem setDbg_resetDue : (s.setDbg x).resetDue = s.resetDue := rfl
@[simp] theorem setDbg_fabricOn : (s.setDbg x).fabricOn = s.fabricOn := rfl
@[simp] theorem setDbg_tb : (s.setDbg x).tb = s.tb := rfl
@[simp] theorem setDbg_rb : (s.setDbg x).rb = s.rb := rfl
@[simp] theorem setDbg_ports : (s.setDbg x).ports = s.ports := rfl
@[simp] theorem setDbg_cells : (s.setDbg x).cells = s.cells := rfl
@[simp] theorem setDbg_banks : (s.setDbg x).banks = s.banks := rfl
@[simp] theorem setDbg_lanes : (s.setDbg x).lanes = s.lanes := rfl
@[simp] theorem setDbg_fixed : (s.setDbg x).fixed = s.fixed := rfl
@[simp] theorem setDbg_rings : (s.setDbg x).rings = s.rings := rfl
@[simp] theorem setDbg_mem : (s.setDbg x).mem = s.mem := rfl
@[simp] theorem setDbg_bist : (s.setDbg x).bist = s.bist := rfl
@[simp] theorem setDbg_dec : (s.setDbg x).dec = s.dec := rfl
@[simp] theorem setDbg_eb : (s.setDbg x).eb = s.eb := rfl
@[simp] theorem setDbg_queues : (s.setDbg x).queues = s.queues := rfl
@[simp] theorem setDbg_qports : (s.setDbg x).qports = s.qports := rfl
@[simp] theorem setDbg_trunks : (s.setDbg x).trunks = s.trunks := rfl
@[simp] theorem setDbg_load : (s.setDbg x).load = s.load := rfl
@[simp] theorem setDbg_scr : (s.setDbg x).scr = s.scr := rfl
@[simp] theorem setDbg_run : (s.setDbg x).run = s.run := rfl
@[simp] theorem setDbg_mbox : (s.setDbg x).mbox = s.mbox := rfl
@[simp] theorem setDbg_lc : (s.setDbg x).lc = s.lc := rfl
@[simp] theorem setDbg_freeze : (s.setDbg x).freeze = s.freeze := rfl
@[simp] theorem setDbg_power : (s.setDbg x).power = s.power := rfl
@[simp] theorem setDbg_heat : (s.setDbg x).heat = s.heat := rfl
@[simp] theorem setDbg_dists : (s.setDbg x).dists = s.dists := rfl
@[simp] theorem setDbg_planes : (s.setDbg x).planes = s.planes := rfl
@[simp] theorem setDbg_frames : (s.setDbg x).frames = s.frames := rfl
@[simp] theorem setDbg_flops : (s.setDbg x).flops = s.flops := rfl
@[simp] theorem setDbg_fabric : (s.setDbg x).fabric = s.fabric := rfl
@[simp] theorem setDbg_guards : (s.setDbg x).guards = s.guards := rfl
@[simp] theorem setDbg_dram : (s.setDbg x).dram = s.dram := rfl
@[simp] theorem setDbg_recorder : (s.setDbg x).recorder = s.recorder := rfl
@[simp] theorem setDbg_pinsTaken : (s.setDbg x).pinsTaken = s.pinsTaken := rfl
@[simp] theorem setDbg_noted : (s.setDbg x).noted = s.noted := rfl
@[simp] theorem setDbg_ctl : (s.setDbg x).ctl = s.ctl := rfl
@[simp] theorem setDbg_core : (s.setDbg x).core = s.core := rfl
@[simp] theorem setDbg_keeper : (s.setDbg x).keeper = s.keeper := rfl
@[simp] theorem setDbg_devName : (s.setDbg x).devName = s.devName := rfl
@[simp] theorem setDbg_dbg : (s.setDbg x).dbg = x := rfl
end

section
variable (x : Thermal)

@[simp] theorem setHeat_pending : (s.setHeat x).pending = s.pending := rfl
@[simp] theorem setHeat_regs : (s.setHeat x).regs = s.regs := rfl
@[simp] theorem setHeat_force : (s.setHeat x).force = s.force := rfl
@[simp] theorem setHeat_deferred : (s.setHeat x).deferred = s.deferred := rfl
@[simp] theorem setHeat_fv : (s.setHeat x).fv = s.fv := rfl
@[simp] theorem setHeat_dev : (s.setHeat x).dev = s.dev := rfl
@[simp] theorem setHeat_life : (s.setHeat x).life = s.life := rfl
@[simp] theorem setHeat_userRights : (s.setHeat x).userRights = s.userRights := rfl
@[simp] theorem setHeat_cut : (s.setHeat x).cut = s.cut := rfl
@[simp] theorem setHeat_lossHeld : (s.setHeat x).lossHeld = s.lossHeld := rfl
@[simp] theorem setHeat_lossFrom : (s.setHeat x).lossFrom = s.lossFrom := rfl
@[simp] theorem setHeat_safeDue : (s.setHeat x).safeDue = s.safeDue := rfl
@[simp] theorem setHeat_resetDue : (s.setHeat x).resetDue = s.resetDue := rfl
@[simp] theorem setHeat_fabricOn : (s.setHeat x).fabricOn = s.fabricOn := rfl
@[simp] theorem setHeat_tb : (s.setHeat x).tb = s.tb := rfl
@[simp] theorem setHeat_rb : (s.setHeat x).rb = s.rb := rfl
@[simp] theorem setHeat_ports : (s.setHeat x).ports = s.ports := rfl
@[simp] theorem setHeat_cells : (s.setHeat x).cells = s.cells := rfl
@[simp] theorem setHeat_banks : (s.setHeat x).banks = s.banks := rfl
@[simp] theorem setHeat_lanes : (s.setHeat x).lanes = s.lanes := rfl
@[simp] theorem setHeat_fixed : (s.setHeat x).fixed = s.fixed := rfl
@[simp] theorem setHeat_rings : (s.setHeat x).rings = s.rings := rfl
@[simp] theorem setHeat_mem : (s.setHeat x).mem = s.mem := rfl
@[simp] theorem setHeat_bist : (s.setHeat x).bist = s.bist := rfl
@[simp] theorem setHeat_dec : (s.setHeat x).dec = s.dec := rfl
@[simp] theorem setHeat_eb : (s.setHeat x).eb = s.eb := rfl
@[simp] theorem setHeat_queues : (s.setHeat x).queues = s.queues := rfl
@[simp] theorem setHeat_qports : (s.setHeat x).qports = s.qports := rfl
@[simp] theorem setHeat_trunks : (s.setHeat x).trunks = s.trunks := rfl
@[simp] theorem setHeat_load : (s.setHeat x).load = s.load := rfl
@[simp] theorem setHeat_scr : (s.setHeat x).scr = s.scr := rfl
@[simp] theorem setHeat_dbg : (s.setHeat x).dbg = s.dbg := rfl
@[simp] theorem setHeat_run : (s.setHeat x).run = s.run := rfl
@[simp] theorem setHeat_mbox : (s.setHeat x).mbox = s.mbox := rfl
@[simp] theorem setHeat_lc : (s.setHeat x).lc = s.lc := rfl
@[simp] theorem setHeat_freeze : (s.setHeat x).freeze = s.freeze := rfl
@[simp] theorem setHeat_power : (s.setHeat x).power = s.power := rfl
@[simp] theorem setHeat_dists : (s.setHeat x).dists = s.dists := rfl
@[simp] theorem setHeat_planes : (s.setHeat x).planes = s.planes := rfl
@[simp] theorem setHeat_frames : (s.setHeat x).frames = s.frames := rfl
@[simp] theorem setHeat_flops : (s.setHeat x).flops = s.flops := rfl
@[simp] theorem setHeat_fabric : (s.setHeat x).fabric = s.fabric := rfl
@[simp] theorem setHeat_guards : (s.setHeat x).guards = s.guards := rfl
@[simp] theorem setHeat_dram : (s.setHeat x).dram = s.dram := rfl
@[simp] theorem setHeat_recorder : (s.setHeat x).recorder = s.recorder := rfl
@[simp] theorem setHeat_pinsTaken : (s.setHeat x).pinsTaken = s.pinsTaken := rfl
@[simp] theorem setHeat_noted : (s.setHeat x).noted = s.noted := rfl
@[simp] theorem setHeat_ctl : (s.setHeat x).ctl = s.ctl := rfl
@[simp] theorem setHeat_core : (s.setHeat x).core = s.core := rfl
@[simp] theorem setHeat_keeper : (s.setHeat x).keeper = s.keeper := rfl
@[simp] theorem setHeat_devName : (s.setHeat x).devName = s.devName := rfl
@[simp] theorem setHeat_heat : (s.setHeat x).heat = x := rfl
end

section
variable (x : Control)

@[simp] theorem setCtl_pending : (s.setCtl x).pending = s.pending := rfl
@[simp] theorem setCtl_regs : (s.setCtl x).regs = s.regs := rfl
@[simp] theorem setCtl_force : (s.setCtl x).force = s.force := rfl
@[simp] theorem setCtl_deferred : (s.setCtl x).deferred = s.deferred := rfl
@[simp] theorem setCtl_fv : (s.setCtl x).fv = s.fv := rfl
@[simp] theorem setCtl_dev : (s.setCtl x).dev = s.dev := rfl
@[simp] theorem setCtl_life : (s.setCtl x).life = s.life := rfl
@[simp] theorem setCtl_userRights : (s.setCtl x).userRights = s.userRights := rfl
@[simp] theorem setCtl_cut : (s.setCtl x).cut = s.cut := rfl
@[simp] theorem setCtl_lossHeld : (s.setCtl x).lossHeld = s.lossHeld := rfl
@[simp] theorem setCtl_lossFrom : (s.setCtl x).lossFrom = s.lossFrom := rfl
@[simp] theorem setCtl_safeDue : (s.setCtl x).safeDue = s.safeDue := rfl
@[simp] theorem setCtl_resetDue : (s.setCtl x).resetDue = s.resetDue := rfl
@[simp] theorem setCtl_fabricOn : (s.setCtl x).fabricOn = s.fabricOn := rfl
@[simp] theorem setCtl_tb : (s.setCtl x).tb = s.tb := rfl
@[simp] theorem setCtl_rb : (s.setCtl x).rb = s.rb := rfl
@[simp] theorem setCtl_ports : (s.setCtl x).ports = s.ports := rfl
@[simp] theorem setCtl_cells : (s.setCtl x).cells = s.cells := rfl
@[simp] theorem setCtl_banks : (s.setCtl x).banks = s.banks := rfl
@[simp] theorem setCtl_lanes : (s.setCtl x).lanes = s.lanes := rfl
@[simp] theorem setCtl_fixed : (s.setCtl x).fixed = s.fixed := rfl
@[simp] theorem setCtl_rings : (s.setCtl x).rings = s.rings := rfl
@[simp] theorem setCtl_mem : (s.setCtl x).mem = s.mem := rfl
@[simp] theorem setCtl_bist : (s.setCtl x).bist = s.bist := rfl
@[simp] theorem setCtl_dec : (s.setCtl x).dec = s.dec := rfl
@[simp] theorem setCtl_eb : (s.setCtl x).eb = s.eb := rfl
@[simp] theorem setCtl_queues : (s.setCtl x).queues = s.queues := rfl
@[simp] theorem setCtl_qports : (s.setCtl x).qports = s.qports := rfl
@[simp] theorem setCtl_trunks : (s.setCtl x).trunks = s.trunks := rfl
@[simp] theorem setCtl_load : (s.setCtl x).load = s.load := rfl
@[simp] theorem setCtl_scr : (s.setCtl x).scr = s.scr := rfl
@[simp] theorem setCtl_dbg : (s.setCtl x).dbg = s.dbg := rfl
@[simp] theorem setCtl_run : (s.setCtl x).run = s.run := rfl
@[simp] theorem setCtl_mbox : (s.setCtl x).mbox = s.mbox := rfl
@[simp] theorem setCtl_lc : (s.setCtl x).lc = s.lc := rfl
@[simp] theorem setCtl_freeze : (s.setCtl x).freeze = s.freeze := rfl
@[simp] theorem setCtl_power : (s.setCtl x).power = s.power := rfl
@[simp] theorem setCtl_heat : (s.setCtl x).heat = s.heat := rfl
@[simp] theorem setCtl_dists : (s.setCtl x).dists = s.dists := rfl
@[simp] theorem setCtl_planes : (s.setCtl x).planes = s.planes := rfl
@[simp] theorem setCtl_frames : (s.setCtl x).frames = s.frames := rfl
@[simp] theorem setCtl_flops : (s.setCtl x).flops = s.flops := rfl
@[simp] theorem setCtl_fabric : (s.setCtl x).fabric = s.fabric := rfl
@[simp] theorem setCtl_guards : (s.setCtl x).guards = s.guards := rfl
@[simp] theorem setCtl_dram : (s.setCtl x).dram = s.dram := rfl
@[simp] theorem setCtl_recorder : (s.setCtl x).recorder = s.recorder := rfl
@[simp] theorem setCtl_pinsTaken : (s.setCtl x).pinsTaken = s.pinsTaken := rfl
@[simp] theorem setCtl_noted : (s.setCtl x).noted = s.noted := rfl
@[simp] theorem setCtl_core : (s.setCtl x).core = s.core := rfl
@[simp] theorem setCtl_keeper : (s.setCtl x).keeper = s.keeper := rfl
@[simp] theorem setCtl_devName : (s.setCtl x).devName = s.devName := rfl
@[simp] theorem setCtl_ctl : (s.setCtl x).ctl = x := rfl
end

end Sys2Proof.Machine.State
end

