-- ==== Sys2Proof/Machine/Pins.lean ====
section
/-! DEFINITION. The state of the device's output pins and terminated inputs, read from the state of the units that drive them (R10,
R279, R424, R451, R454, R481). No row sets a pin: what a pin shows follows from the rest of the state. -/

namespace Sys2Proof.Machine

/-- The pin classes of R454: front-end pairs by port, trunk pairs by trunk, side-street pairs, and the device-wide signals. -/
inductive Pin
  | feRx (p : Nat)
  | feTx (p : Nat)
  | tkTx (k : Nat)
  | sideStreet (q : Nat)
  | busyN | alertN | i3c | canTx | uartTx | sync | cfg | tdo
deriving DecidableEq, Repr

/-- What a pin does: an input with or without its termination, high impedance with a weak pull where one is given, the pull of its
strap pin, released by an open-drain driver, electrical idle, a level, the CAN recessive level, what its unit drives, or what
the boundary scan drives. -/
inductive PinState
  | input (terminated : Bool)
  | highZ (pullUp : Option Bool)
  | strapPull
  | released
  | idle
  | level (high : Bool)
  | recessive
  | driven
  | scan
deriving DecidableEq, Repr

/-- POR has not been released yet. -/
def State.beforePor (s : State) : Bool := s.dev == .powerOff || s.dev == .reset

/-- The strap bit that pulls a side-street pair (R279, R451). -/
def State.pullUp (s : State) (q : Nat) : Bool := bitOf (s.rget .STRAPS) (8 + q / 16)

/-- The lane of a pair in SS_MODE 5 is an input (R370, R481). -/
def State.laneInput (s : State) (q : Nat) : Bool :=
  bitOf (s.rget .SS_FIO_CFG q) 0 && bitsOf (s.rget .SS_FIO_CFG q) 2 1 == 0

/-- Side-street outputs have been released: stage 1 of the load in force, and no stop of a thermal shutdown (R279, R469). -/
def State.sideReleased (s : State) : Bool :=
  Nat.ble 1 s.load.stage
    && (s.dev != .shutdown || (match s.heat.markersTo with | some x => s.counting && Nat.ble s.crossing x | none => false))

/-- A side-street pair after POR (R198, R199, R202, R203, R279, R370, R481). -/
def State.sidePin (s : State) (q : Nat) : PinState :=
  let off := PinState.highZ (some (s.pullUp q))
  match s.rget .SS_MODE q with
  | 1 | 2 => if s.sideReleased then .driven else off
  | 3 => .input true
  | 4 => .input false
  | 5 =>
    if (s.fioPins q).1.isSome || (s.fioPins q).2.isSome then .driven
    else if s.fioOn q && s.laneInput q then .input true else off
  | _ => off

/-- An output that the boundary scan takes over (R424): every one but BUSY_N, which is released instead. -/
def Pin.scanned : Pin → Bool
  | .feTx _ | .tkTx _ | .sideStreet _ | .alertN | .i3c | .canTx | .uartTx | .sync | .cfg => true
  | .feRx _ | .busyN | .tdo => false

/-- A pin as its unit leaves it, once POR has been released (R454). -/
def State.unitPin (s : State) : Pin → PinState
  | .feRx _ => .input true
  | .feTx p => if (s.port p).downlink.isSome then .driven else .idle
  | .tkTx k => if linkState s k ≤ 1 || (linkState s k == 6 && (s.trunk k).out.isEmpty) then .idle else .driven
  | .sideStreet q => s.sidePin q
  | .busyN => if s.busyHigh then .level true else .released
  | .alertN => if s.ctl.ready && s.alertLow then .level false else .released
  | .i3c => if s.ctl.ready then .driven else .released
  | .canTx => if s.canOn then .driven else .recessive
  | .uartTx => if s.ivtorRuns then .driven else .level true
  | .sync =>
    if s.rget .SYNC_ROLE = 1 then (if s.tb.st = .aligned then .driven else .level false)
    else .input (s.rget .SYNC_ROLE == 2)
  | .cfg => if s.load.flash.isSome then .driven else .input false
  | .tdo => .driven

/-- The state of a pin (R454): before POR every output is held; then the boundary scan's where it has the pins, and otherwise its
unit's. -/
def State.pin (s : State) (p : Pin) : PinState :=
  if s.beforePor then
    match p with
    | .feRx _ => .input true
    | .feTx _ | .tkTx _ => .idle
    | .sideStreet _ => .strapPull
    | .busyN | .alertN | .i3c => .released
    | .canTx => .recessive
    | .uartTx | .tdo | .cfg => .highZ none
    | .sync => .input false
  else if s.pinsTaken && p.scanned then .scan
  else s.unitPin p

end Sys2Proof.Machine
end

