-- ==== Sys2Proof/WellFormed.lean ====
section
/-! DEFINITION. Well-formed commands: every operand names a unit that the device has, and bytes fit the route that carries
them. -/

namespace Sys2Proof.WellFormed

/-- The units of the device (R21 to R30, R59, R134, R138, R187, R226, R346), the frames that an Inner Port's 13-bit field names (R282), and the channels of a District, its store channel
among them (R158, R163). -/
def portCount : Nat := 1024
def bankTotal : Nat := 4096
def districtCount : Nat := 128
def quarterCount : Nat := 64
def trunkTotal : Nat := 32
def tapCount : Nat := 256
def planeCount : Nat := 1024
def frameNumbers : Nat := 8192
def entryCount : Nat := 4096
def underpassCount : Nat := 1024
def queueCount : Nat := 65536
def groupCount : Nat := 255
def chanCount : Nat := 65
def eidLimit : Nat := 16777216

/-- A sender that exists: CAN nodes are 0 to 127 (R338). -/
def routeOk : Route → Bool
  | .can n => Nat.blt n 128
  | .i3c | .ivtor | .coreM | .coreU | .loader => true

/-- A Plaza requester that exists (R28). -/
def masterOk : Master → Bool
  | .trunk n => Nat.blt n trunkTotal
  | .district d => Nat.blt d districtCount
  | .core _ | .debug | .queues => true

/-- A debug transaction's fields fit their bits (R426). -/
def transactionOk (t : DebugTransaction) : Bool :=
  Nat.blt t.space 16 && Nat.blt t.addr 4294967296 && Nat.blt t.data 4294967296

/-- Bytes that one transfer may carry: at most a Susis request of 4,104 bytes, or an Ethernet frame's 9,018 (R254, R351). -/
def bytesOk (bs : Bytes) : Bool := Nat.ble bs.length 9018

/-- An access of the core: addresses and words of 32 bits, CSR numbers of 12 (R380). -/
def coreStepOk (x : CoreStep) : Bool :=
  match x.access with
  | .load a | .loadReserved a | .storeConditional a | .amo a | .fetch a => Nat.blt a 4294967296
  | .store a v => Nat.blt a 4294967296 && Nat.blt v 4294967296
  | .writeCsr n v => Nat.blt n 4096 && Nat.blt v 4294967296

/-- A word that the core stores, after accesses that exist (R380). -/
def coreWordOk (v : CoreWord) : Bool := Nat.blt v.value 4294967296 && v.before.all coreStepOk

end Sys2Proof.WellFormed

namespace Sys2Proof

open WellFormed

/-- The check of a command's operands. -/
def Instr.wellFormed : Instr → Bool
  | .clkSrcWrite w _ => routeOk w
  | .timingPortWrite w _ => routeOk w
  | .mclkNominalWrite w _ => routeOk w
  | .orbitLenWrite w _ => routeOk w
  | .fabricRatioWrite w _ => routeOk w
  | .alignSrcWrite w _ => routeOk w
  | .orbitOffsetWrite w _ => routeOk w
  | .syncRoleWrite w _ => routeOk w
  | .syncEveryWrite w _ => routeOk w
  | .syncSamplePhaseWrite w _ => routeOk w
  | .fineDelayWrite w _ => routeOk w
  | .sourceAcquired _ => true
  | .pllLocked => true
  | .orbitMarker _ => true
  | .markerMissing => true
  | .syncWordSend => true
  | .syncWord _ => true
  | .syncMissing => true
  | .clockLoss _ => true
  | .sourceReturn _ => true
  | .resume => true
  | .orbitBoundary => true
  | .crossingStart => true
  | .ttWordWrite w _ _ => routeOk w
  | .windowSelectorWrite w _ _ => routeOk w
  | .ttCopy w _ => routeOk w
  | .ttCommit w _ => routeOk w
  | .ttValidationDone => true
  | .ttWindowStart entry => Nat.blt entry entryCount
  | .ttWindowEnd entry => Nat.blt entry entryCount
  | .countClear w _ _ _ => routeOk w
  | .portSettingWrite w _ port _ => routeOk w && Nat.blt port portCount
  | .alignSettingWrite w _ port _ => routeOk w && Nat.blt port portCount
  | .maskWrite w port _ => routeOk w && Nat.blt port portCount
  | .rxPrbsWrite w port _ => routeOk w && Nat.blt port portCount
  | .dlPrbsWrite w port _ => routeOk w && Nat.blt port portCount
  | .dlCmdWrite w port _ => routeOk w && Nat.blt port portCount
  | .cdrLockAcquired port => Nat.blt port portCount
  | .cdrLockLost port => Nat.blt port portCount
  | .codeLockAcquired port => Nat.blt port portCount
  | .codeLockLost port _ => Nat.blt port portCount
  | .frameComplete port _ => Nat.blt port portCount
  | .startSymbolTimeout port => Nat.blt port portCount
  | .alignReq w port _ => routeOk w && Nat.blt port portCount
  | .alignWindowEnd port => Nat.blt port portCount
  | .adaptInitialEnd port => Nat.blt port portCount
  | .dlSend w port _ => routeOk w && Nat.blt port portCount
  | .bankArbitration bank _ => Nat.blt bank bankTotal
  | .localRequest district bank _ _ _ => Nat.blt district districtCount && Nat.blt bank bankTotal
  | .storeChannelRequest district _ => Nat.blt district districtCount
  | .plazaRequest src _ _ _ => masterOk src
  | .fixedResponse district chan => Nat.blt district districtCount && Nat.blt chan chanCount
  | .orderedResponse district chan => Nat.blt district districtCount && Nat.blt chan chanCount
  | .plazaResponse src bank => masterOk src && Nat.blt bank bankTotal
  | .ownerWrite w bank _ => routeOk w && Nat.blt bank bankTotal
  | .handoverDrainEnd bank => Nat.blt bank bankTotal
  | .powerWrite w bank _ => routeOk w && Nat.blt bank bankTotal
  | .bankWakeDone bank => Nat.blt bank bankTotal
  | .deferredSleep bank => Nat.blt bank bankTotal
  | .ringEnableWrite w quarter _ => routeOk w && Nat.blt quarter quarterCount
  | .ringGeometryWrite w _ quarter _ => routeOk w && Nat.blt quarter quarterCount
  | .vaultEnableWrite w _ => routeOk w
  | .vaultLock w _ => routeOk w
  | .vaultUnlock w _ => routeOk w
  | .vaultWipe w _ => routeOk w
  | .vaultWipeDone => true
  | .underpassContention district underpass => Nat.blt district districtCount && Nat.blt underpass underpassCount
  | .upClear w district _ => routeOk w && Nat.blt district districtCount
  | .dramUncorrectable district _ _ => Nat.blt district districtCount
  | .baseNextWrite w district _ => routeOk w && Nat.blt district districtCount
  | .baseAtWrite w district _ => routeOk w && Nat.blt district districtCount
  | .lockGroupWrite w district _ => routeOk w && Nat.blt district districtCount
  | .captureArm w district _ => routeOk w && Nat.blt district districtCount
  | .captureDisarm w district _ => routeOk w && Nat.blt district districtCount
  | .captureCycle district => Nat.blt district districtCount
  | .sentinelJudge tap _ => Nat.blt tap tapCount
  | .decisionEmit => true
  | .breachAck w _ => routeOk w
  | .busyForceWrite w _ => routeOk w
  | .policyWrite w path _ => routeOk w && Nat.blt path quarterCount
  | .tapOutWrite w tap _ => routeOk w && Nat.blt tap tapCount
  | .acceptLaneWord pair _ => Nat.blt pair quarterCount
  | .acceptPinSample pair => Nat.blt pair quarterCount
  | .ssModeWrite w pair _ => routeOk w && Nat.blt pair quarterCount
  | .ssFioCfgWrite w pair _ => routeOk w && Nat.blt pair quarterCount
  | .tokenRefill => true
  | .extractionStart group => Nat.blt group groupCount
  | .extractionDone group => Nat.blt group groupCount
  | .fragmentWrite group => Nat.blt group groupCount
  | .ebGroupWrite w port _ => routeOk w && Nat.blt port portCount
  | .gWindowWrite w _ group _ => routeOk w && Nat.blt group groupCount
  | .eventPresetWrite w _ => routeOk w
  | .qEnable w _ => routeOk w
  | .qDisable w _ => routeOk w
  | .qFlush w _ => routeOk w
  | .qpPush district queue _ _ => Nat.blt district districtCount && Nat.blt queue queueCount
  | .qpPopRequest district queue => Nat.blt district districtCount && Nat.blt queue queueCount
  | .tkEnableWrite w trunk _ => routeOk w && Nat.blt trunk trunkTotal
  | .tkRateWrite w trunk _ => routeOk w && Nat.blt trunk trunkTotal
  | .tkModeWrite w trunk _ => routeOk w && Nat.blt trunk trunkTotal
  | .tkPrbsWrite w trunk _ => routeOk w && Nat.blt trunk trunkTotal
  | .trunkPllLock trunk => Nat.blt trunk trunkTotal
  | .codewordLock trunk => Nat.blt trunk trunkTotal
  | .codewordLockLost trunk => Nat.blt trunk trunkTotal
  | .trainingTimeout trunk => Nat.blt trunk trunkTotal
  | .retrain w trunk _ => routeOk w && Nat.blt trunk trunkTotal
  | .tkReset w trunk _ => routeOk w && Nat.blt trunk trunkTotal
  | .idleBlockReceived trunk _ => Nat.blt trunk trunkTotal
  | .markReceived trunk _ => Nat.blt trunk trunkTotal
  | .markSend trunk => Nat.blt trunk trunkTotal
  | .linkBlockReceived trunk _ => Nat.blt trunk trunkTotal
  | .linkBlockSend trunk => Nat.blt trunk trunkTotal
  | .replayTimeout trunk => Nat.blt trunk trunkTotal
  | .packetSend trunk => Nat.blt trunk trunkTotal
  | .packetReceived trunk _ => Nat.blt trunk trunkTotal
  | .c0BlockReceived trunk _ => Nat.blt trunk trunkTotal
  | .c0RxPresent trunk => Nat.blt trunk trunkTotal
  | .stopReceived trunk => Nat.blt trunk trunkTotal
  | .reservedBlockReceived trunk _ => Nat.blt trunk trunkTotal
  | .ethFrameSend trunk => Nat.blt trunk trunkTotal
  | .ethFrameReceived trunk bytes => Nat.blt trunk trunkTotal && bytesOk bytes
  | .loadGo w _ => routeOk w
  | .loadAbort w _ => routeOk w
  | .loadSrcWrite w _ => routeOk w
  | .loadStreamData bytes => bytesOk bytes
  | .loadFrameWrite => true
  | .loadAccept => true
  | .loadTimeout => true
  | .listenerGoldenWaitEnd => true
  | .arAdvance w _ => routeOk w
  | .keyRevoke w _ => routeOk w
  | .ipHostWrite w district _ => routeOk w && Nat.blt district districtCount
  | .ipFrameWrite district plane frame _ => Nat.blt district districtCount && Nat.blt plane planeCount && Nat.blt frame frameNumbers
  | .ipFrameRead district plane frame => Nat.blt district districtCount && Nat.blt plane planeCount && Nat.blt frame.number frameNumbers
  | .ipPartial district plane frame _ _ => Nat.blt district districtCount && Nat.blt plane planeCount && Nat.blt frame frameNumbers
  | .ipSeal district plane => Nat.blt district districtCount && Nat.blt plane.number planeCount
  | .ipStream district _ => Nat.blt district districtCount
  | .ipReservedOp district _ => Nat.blt district districtCount
  | .ticketQuery w _ => routeOk w
  | .invalidate w _ => routeOk w
  | .invalidateDone bank => Nat.blt bank bankTotal
  | .lbLeakTick bank => Nat.blt bank bankTotal
  | .lbLeakWrite w _ => routeOk w
  | .scrubRowRead quarter => Nat.blt quarter quarterCount
  | .repairListServe quarter => Nat.blt quarter quarterCount
  | .scrubEnableWrite w _ => routeOk w
  | .rtRetire w _ => routeOk w
  | .rtUnretire w _ => routeOk w
  | .substitute w quarter _ => routeOk w && Nat.blt quarter quarterCount
  | .unsubstitute w quarter _ => routeOk w && Nat.blt quarter quarterCount
  | .substituteCopyDone quarter => Nat.blt quarter quarterCount
  | .flipArm w _ => routeOk w
  | .sweepFrameRead quarter _ => Nat.blt quarter quarterCount
  | .repairStart _ => true
  | .repairFrameWrite _ => true
  | .repairDone => true
  | .contentionFrameRead _ => true
  | .csReset w _ => routeOk w
  | .csSettingWrite w _ _ => routeOk w
  | .frEnableWrite w _ => routeOk w
  | .reserveFillFrame => true
  | .i3cPrivateWrite bytes => bytesOk bytes
  | .i3cPrivateRead _ => true
  | .entdaa da => Nat.blt da 128
  | .setnewda da => Nat.blt da 128
  | .rstdaa => true
  | .rstact _ => true
  | .targetResetPattern => true
  | .enec _ => true
  | .disec _ => true
  | .entas _ => true
  | .setmwl _ => true
  | .setmrl _ => true
  | .enthdr0 => true
  | .hdrDdrWrite _ bytes => bytesOk bytes
  | .hdrDdrRead _ _ => true
  | .getpid => true
  | .getbcr => true
  | .getdcr => true
  | .getstatus => true
  | .getmwl => true
  | .getmrl => true
  | .getmxds => true
  | .getcaps => true
  | .unsupportedCcc _ => true
  | .hotJoin => true
  | .ibiSend _ _ => true
  | .canFrame _ bytes => bytesOk bytes
  | .canBusOff => true
  | .susisNop w => routeOk w
  | .susisRead w eid _ => routeOk w && Nat.blt eid eidLimit
  | .susisWrite w eid bytes => routeOk w && Nat.blt eid eidLimit && bytesOk bytes
  | .dictWrite w eid bytes => routeOk w && Nat.blt eid eidLimit && bytesOk bytes
  | .expertLock w _ => routeOk w
  | .lockTimeout => true
  | .lockBreak w _ => routeOk w
  | .alertAck w _ => routeOk w
  | .dpBindWrite w n _ => routeOk w && Nat.blt n 8
  | .dpDataWrite w n bytes => routeOk w && Nat.blt n 8 && bytesOk bytes
  | .dpDataRead w n _ => routeOk w && Nat.blt n 8
  | .ivtorHelp => true
  | .ivtorVer => true
  | .ivtorStatus => true
  | .ivtorBaud rate => bytesOk rate
  | .ivtorEcho on => bytesOk on
  | .ivtorRead eid => bytesOk eid
  | .ivtorLog n => bytesOk n
  | .ivtorWrite eid value => bytesOk eid && bytesOk value
  | .ivtorLock => true
  | .ivtorUnlock => true
  | .safeEnter w _ => routeOk w
  | .safeLeave w _ => routeOk w
  | .coreResetCmd w => routeOk w
  | .deviceResetCmd w => routeOk w
  | .commandReset => true
  | .bistGo w _ => routeOk w
  | .bistAbort w _ => routeOk w
  | .bistSliceStart => true
  | .bistPhaseDone _ => true
  | .bistOfflineDone _ => true
  | .thresholdWrite w _ _ => routeOk w
  | .lcChallengeRead w => routeOk w
  | .lcTokenWrite w bytes => routeOk w && bytesOk bytes
  | .lcRequest w _ => routeOk w
  | .lifecycleChangeDone => true
  | .keyInstall w bytes => routeOk w && bytesOk bytes
  | .freezeGo w _ => routeOk w
  | .freezeStart => true
  | .freezeRelease w _ => routeOk w
  | .fwpEnableWrite w n _ => routeOk w && Nat.blt n 2
  | .fwpFire n _ => Nat.blt n 2
  | .fwpWindowPassed n => Nat.blt n 2
  | .vendorRequest w eid _ bytes => routeOk w && Nat.blt eid eidLimit && bytesOk bytes
  | .coreBoot => true
  | .kwGo _ _ v => coreWordOk v
  | .keeperWriteDone => true
  | .fwCommit v => coreWordOk v
  | .wdtKick v => coreWordOk v
  | .wdtEnableWrite w _ => routeOk w
  | .wdtFirstExpiry => true
  | .wdtSecondExpiry => true
  | .mtimecmpExpiry => true
  | .msipWrite v => coreWordOk v
  | .irqClear v => coreWordOk v
  | .memEventPop => true
  | .memLostRead => true
  | .dqGo window bytes => bytesOk bytes && window.before.all coreStepOk
  | .mailboxRowCommit queue _ _ _ => Nat.blt queue.value queueCount && queue.before.all coreStepOk
  | .mailboxFragmentPush => true
  | .mailboxPopAdvance queue => Nat.blt queue.value queueCount && queue.before.all coreStepOk
  | .recordWrite => true
  | .recClear w _ => routeOk w
  | .persistCopy => true
  | .persistRefresh => true
  | .extest => true
  | .idcode => true
  | .samplePreload => true
  | .extestPulse => true
  | .extestTrain => true
  | .clamp => true
  | .highz => true
  | .dbgAccess => true
  | .bypass => true
  | .trstN => true
  | .tapLogicReset => true
  | .dbgNop => true
  | .dbgRead t => transactionOk t
  | .dbgWrite t => transactionOk t
  | .dbgReservedOp t => transactionOk t
  | .haltReq _ => true
  | .coreResume => true
  | .stepHalt _ => true
  | .curWrite _ => true
  | .dbgCoreReset => true
  | .detach => true
  | .triggerConfigWrite n _ _ => Nat.blt n 14
  | .codeBreakpointHit n _ => Nat.blt n 8
  | .dataWatchpointHit n _ _ => Nat.blt n 12
  | .ebreak _ => true
  | .deferredHalt => true
  | .lockBrokenTimeout => true
  | .tamperAssert => true
  | .lidOpen => true
  | .powerOn => true
  | .powerLoss => true
  | .supplyReset => true
  | .rstNAssert => true
  | .resetRelease _ => true
  | .bootEnd => true
  | .sensorRound _ => true
  | .shutdownEntry => true
  | .shutdownPowerGate => true
  | .partnerTrainingRequest trunk => Nat.blt trunk trunkTotal
  | .hdrExitPattern => true
  | .canBusOffRecovery => true
  | .tamperNRelease => true
  | .lidClosed => true

end Sys2Proof
end

