-- ==== Sys2Proof/Tests/Slice0.lean ====
section
/-! SUPPORT. Tests: what WellFormed refuses, the manual's worked examples, and for each obligation with hypotheses states that
meet them, witness_<obligation>_<clause>. -/

open Sys2Proof Sys2Proof.Machine Sys2Proof.Safety

namespace Sys2Proof.Tests

-- One proof after the other: many at once ask for more memory than the check gives.
set_option Elab.async false

/-! WellFormed: for each check a command that it refuses, and beside it the last one that it takes. -/

theorem test_wf_route : (Instr.clkSrcWrite (.can 128) 0).wellFormed = false ∧ (Instr.clkSrcWrite (.can 127) 0).wellFormed = true := by decide
theorem test_wf_port : (Instr.maskWrite .i3c 1024 0).wellFormed = false ∧ (Instr.maskWrite .i3c 1023 0).wellFormed = true := by decide
theorem test_wf_bank : (Instr.bankWakeDone 4096).wellFormed = false ∧ (Instr.bankWakeDone 4095).wellFormed = true := by decide
theorem test_wf_district : (Instr.captureCycle 128).wellFormed = false ∧ (Instr.captureCycle 127).wellFormed = true := by decide
theorem test_wf_quarter : (Instr.scrubRowRead 64).wellFormed = false ∧ (Instr.scrubRowRead 63).wellFormed = true := by decide
theorem test_wf_trunk : (Instr.codewordLock 32).wellFormed = false ∧ (Instr.codewordLock 31).wellFormed = true := by decide
theorem test_wf_tap : (Instr.tapOutWrite .i3c 256 0).wellFormed = false ∧ (Instr.tapOutWrite .i3c 255 0).wellFormed = true := by decide
theorem test_wf_plane :
    (Instr.ipSeal 0 { number := 1024, beats := 1 }).wellFormed = false ∧ (Instr.ipSeal 0 { number := 1023, beats := 1 }).wellFormed = true := by decide
theorem test_wf_frame :
    (Instr.ipFrameRead 0 0 { number := 8192, beats := 1 }).wellFormed = false ∧
      (Instr.ipFrameRead 0 0 { number := 8191, beats := 1 }).wellFormed = true := by decide
theorem test_wf_entry : (Instr.ttWindowStart 4096).wellFormed = false ∧ (Instr.ttWindowStart 4095).wellFormed = true := by decide
theorem test_wf_underpass :
    (Instr.underpassContention 0 1024).wellFormed = false ∧ (Instr.underpassContention 0 1023).wellFormed = true := by decide
theorem test_wf_queue : (Instr.qpPopRequest 0 65536).wellFormed = false ∧ (Instr.qpPopRequest 0 65535).wellFormed = true := by decide
theorem test_wf_group : (Instr.fragmentWrite 255).wellFormed = false ∧ (Instr.fragmentWrite 254).wellFormed = true := by decide
theorem test_wf_chan : (Instr.fixedResponse 0 65).wellFormed = false ∧ (Instr.fixedResponse 0 64).wellFormed = true := by decide
theorem test_wf_eid : (Instr.dictWrite .i3c 0x1000000 []).wellFormed = false ∧ (Instr.dictWrite .i3c 0xFFFFFF []).wellFormed = true := by decide
theorem test_wf_master :
    (Instr.plazaResponse (.trunk 32) 0).wellFormed = false ∧ (Instr.plazaResponse (.district 128) 0).wellFormed = false ∧
      (Instr.plazaResponse .debug 0).wellFormed = true := by decide
theorem test_wf_address : (Instr.entdaa 128).wellFormed = false ∧ (Instr.entdaa 127).wellFormed = true := by decide
theorem test_wf_data_port : (Instr.dpDataRead .i3c 8 1).wellFormed = false ∧ (Instr.dpDataRead .i3c 7 1).wellFormed = true := by decide
theorem test_wf_watchpoint : (Instr.fwpWindowPassed 2).wellFormed = false ∧ (Instr.fwpWindowPassed 1).wellFormed = true := by decide
theorem test_wf_trigger :
    (Instr.triggerConfigWrite 14 .tctrl 0).wellFormed = false ∧ (Instr.codeBreakpointHit 8 false).wellFormed = false ∧
      (Instr.dataWatchpointHit 12 false false).wellFormed = false := by decide +kernel
theorem test_wf_transaction :
    (Instr.dbgRead { space := 16, addr := 0, data := 0, consume := false, locked := false }).wellFormed = false ∧
      (Instr.dbgWrite { space := 0, addr := 2 ^ 32, data := 0, consume := false, locked := false }).wellFormed = false := by decide +kernel
theorem test_wf_bytes :
    (Instr.ethFrameReceived 0 (List.replicate 9019 0)).wellFormed = false ∧ (Instr.ethFrameReceived 0 []).wellFormed = true := by
  decide +kernel
theorem test_wf_core :
    (Instr.wdtKick ⟨true, 2 ^ 32, []⟩).wellFormed = false ∧ (Instr.wdtKick ⟨true, 0, [⟨false, .load (2 ^ 32)⟩]⟩).wellFormed = false ∧
      (Instr.fwCommit ⟨true, 0, [⟨true, .writeCsr 4096 0⟩]⟩).wellFormed = false ∧
      (Instr.mailboxPopAdvance ⟨true, 65536, []⟩).wellFormed = false ∧
      (Instr.wdtKick ⟨true, 0, [⟨true, .store (2 ^ 32 - 1) (2 ^ 32 - 1)⟩, ⟨false, .writeCsr 4095 0⟩]⟩).wellFormed = true := by
  decide +kernel

/-! Small states. -/

/-- The device in IDLE as BOOT leaves it. -/
def idle : State := { State.reset with dev := .idle, ctl := { Control.reset with ready := true } }

/-- As idle, with the time base ALIGNED in orbit 7, slot 3. -/
def al : State :=
  { idle with tb := { TimeBase.reset with st := .aligned, orbit := 7, slot := 3, srcPresent := true, pllLocked := true,
                                          entriesRun := true } }

/-- As al, in RUNNING. -/
def run : State := { al with dev := .running }

/-- An enabled time-table entry at slot 3 of every orbit: its action, argument, kind of target and target. -/
def entry (action arg kind target : Nat) : BitVec 128 :=
  BitVec.ofNat 128 (3 + 3 * 2 ^ 16 + 2 ^ 63 + action * 2 ^ 64 + arg * 2 ^ 72 + kind * 2 ^ 88 + target * 2 ^ 96)

/-- As al, with one entry in the active table. -/
def withEntry (e : BitVec 128) : State := { al with rb := { Roundabout.reset with active := [(0, e)] } }

/-- As al, with port 0 enabled and holding its clock and code lock. -/
def listening : State :=
  (al.rset .ENABLE 0 1).setPort 0 { Port.idle with cdr := true, code := true }

/-- As run, with District 0 released in context 0 of a loaded plane. -/
def running0 : State :=
  (run.setDist 0 { District.held with released := true, weHeld := false, resetHeld := false }).setPlane 0
    { Plane.empty with state := 2 }

/-- As running0, with Quarter 0 recording: stripe 0 holds the crossings 14000 to 14199. -/
def recording : State :=
  let a := ((running0.rset .RING_ENABLE 0 1).rset .RING_STATE 0 2).rset .RING_WORDS 0 4
  a.setRing 0 { Ring.off with first := 0, banks := 48, stripes := [(0, { base := 14000, fill := 200 })], cur := some 0 }

/-- A full write of District 0 that waits at bank 5. -/
def fullWrite : Waiting :=
  { src := .district 0 5, req := { write := true, cls := 1, row := 9, data := 0x11112222333344445555666677778888, enables := 0xFFFF },
    order := 0, tag := 0, losses := 0 }

/-- As running0, with District 0 the owner of bank 5 and fullWrite waiting there. -/
def asking : State := (running0.rset .OWNER_ACTIVE 5 0).setBank 5 { BankPort.idle with waiting := [fullWrite] }

/-- A path of the ledger that District 0 carries in context 0. -/
def path0 : LedgerPath := { ldec := 100, entry := 10, ports := [], anchors := [], planes := [0], underpasses := [] }

/-- As running0, with tap 0 on path0. -/
def deciding : State :=
  { running0 with dec := { DecisionPath.reset with
      paths := [(0, path0)]
      taps := [(0, { path := 0, contexts := 255, phase := 3, hold := 2, outputs := 3, dlMask := 0, regs := 0, trunks := 0 })] } }

/-- What tap 0 offers with the tag expected in al's crossing. -/
def offer (kind : Nat) (busy : Bool) : TapOffer :=
  { strobe := true, kind := BitVec.ofNat 2 kind, tag := BitVec.ofNat 12 (decidedTag (14339 + 2) 100), atype := 3, user := 7, busy,
    stray := false }

/-- As al, with queue 9 enabled for its given producer and consumer kinds, at row 640 of bank 10, 16 rows. -/
def queueing (ctrl : Nat) : State :=
  ((run.rset .Q_CTRL 9 ctrl).rset .Q_BASE 9 163840).rset .Q_TAIL 9 163840

/-- A fragment of District 0's queue port that waits in queue 9, of one row. -/
def oneRow : State :=
  let a := queueing (1 + 1 * 2 + 1 * 2 ^ 6 + 1 * 2 ^ 8)
  let b := (a.setQueue 9 { Queue.empty with frags := [[163840]] }).setCell 10 0 (StoredWord.fresh 5)
  ((b.setCell 10 1 (StoredWord.fresh 6)).setDist 0 { District.held with released := true }).setPlane 0
    { Plane.empty with state := 2 }

/-- A fragment of group 1 that waits for its extraction. -/
def task (stage : Nat) : EbTask :=
  { ticket := 0, event := 4, mt := 7 * 65536, accept := { crossing := 14000, atype := 1, forced := false, mismatch := false, source := 0 }, refused := 0,
    group := 1, queue := 9, pre := 0, post := 0, ports := [3], last := true, stage, flags := 0, entry := 4,
    body := [], waited := false }

/-- As run, with trunk 15 UP, its partner of EPOCH 5 ready. -/
def linkUp : State :=
  (run.rset .LINK_STATE 15 4).setTrunk 15 { Trunk.idle with pll := true, lock := true, partner := some 5, remoteReady := true }

/-- A packet that awaits its acknowledgement. -/
def sent1 : SentPacket := { seq := 0, cls := 1, queue := 9, mg := false, sof := true, eof := true, rows := [], made := [], frees := true }

/-- A partial load in RUNNING, in sync hunt from the first trunk source. -/
def hunting : State :=
  { run with load := { Loader.reset with active := true, source := 2, startedIn := .running } }

/-- A decision ledger of nothing, for M 16 and L 2,048. -/
def emptyLedger : Bytes := leBytes 4 ledgerMagic ++ leBytes 2 1 ++ leBytes 10 0 ++ [16, 1] ++ leBytes 2 2047 ++ leBytes 12 0

/-- A partial load of no plane, read whole: a ledger of nothing. -/
def readWhole : State :=
  { run with load := { Loader.reset with
      active := true, source := 2, startedIn := .running, synced := true, headed := true, tabled := true, done := 1
      table := [{ typ := 3, comp := 0, mask := 0, target := 0, offset := 0, stored := 32, raw := 32, digest := [], entry := [] }]
      raws := [(0, emptyLedger)] } }

/-- As running0, its Inner Port hosting the frames of District 1, whose plane 8 is empty. -/
def hosting : State := (running0.rset .IP_HOST 1 0).rset .IP_RAW_ALLOWED 0 1

/-- As running0, with the sweep of Quarter 0 begun on plane 0, at its first frame. -/
def sweeping (f : BitVec 2093) : State :=
  { running0.setFrame 0 0 f with scr := { CfgScrub.reset with begun := true, sets := [(0, [0])] } }

/-- An Ethernet frame of one row for queue 9 less RX_QBASE, from a partner of address 0. -/
def dataFrame : Bytes :=
  List.replicate 12 0 ++ [0x88, 0xB5, 0x5A, 0xA5, 1, 3, 0, 0, 1, 0] ++ List.replicate 8 0 ++ List.replicate 16 0x11
    ++ List.replicate 20 0

/-- As run, with queue 9 fed by trunk 15, in Ethernet framing with lock, from a partner of address 0. -/
def ethQueue : State :=
  ((((queueing (1 + 2 + 3 * 2 ^ 6)).rset .Q_PRODUCER 9 15).rset .RX_QBASE 15 9).rset .TK_MODE 15 1).setTrunk 15
    { Trunk.idle with lock := true }

/-- As al, addressed on the I3C bus. -/
def onBus : State := (al.rset .I3C_DA 0 9).rset .HJ_EN 0 1

/-- A request of the core's machine mode that waits. -/
def waiter : HeldRequest := { route := .coreM, opcode := 0, eid := 0, len := 0, data := [], id := 0, fault := 0 }

/-- TCTRL of an enabled trigger that halts, on writes. -/
def trigCtrl : Nat := 1 + 2 ^ 4 + 2 ^ 31

/-- The state that a command leaves. -/
def after (i : Instr) (s : State) : State :=
  match exec i s with
  | .next t => t
  | .fault _ => s
  | .refused _ => s

/-- A public key on the curve: its base point, uncompressed. -/
def generatorKey : Bytes := 4 :: (beBytes 48 curveG.1 ++ beBytes 48 curveG.2)

/-- The beats of a frame whose first holds n and the others 0. -/
def beatsOf (n : BitVec 128) : IpBeats := { beats := (List.range 16).map (fun i => (i, if i = 0 then n else 0)) }

/-- 0x48.000.4, REC_SEL, as a line of Ivtor names it. -/
def recSelText : Bytes := [0x30, 0x78, 0x34, 0x38, 0x2E, 0x30, 0x30, 0x30, 0x2E, 0x34]

/-- 0xEF.000.0, which no element has. -/
def noneText : Bytes := [0x30, 0x78, 0x45, 0x46, 0x2E, 0x30, 0x30, 0x30, 0x2E, 0x30]

/-- As run, with the firmware answering Ivtor in an open lifecycle. -/
def monitored : State := { run with run := { CoreRun.reset with entered := true } }

/-! The manual's worked examples. -/

/-- A request and a response of the control plane's example end in their CRC (the example after R356). -/
theorem test_susis_crc :
    withCrc [0x22, 0x03, 0x00, 0x20, 0x01, 0x01] = [0x22, 0x03, 0x00, 0x20, 0x01, 0x01, 0x5C, 0xFB] ∧
      responseFrame 0x22 0 [] = [0x22, 0x00, 0x00, 0x00, 0xE6, 0x5E] := by decide +kernel

/-- POLICY of path 0 has the identifier of that example. -/
theorem test_policy_eid : elOf 0x200003 = some (.POLICY, 0) ∧ eidOf .POLICY 0 = 0x200003 := by decide +kernel

/-- Its private write, and the request performed: answered OK, POLICY reads 1, and what is in force waits for the orbit boundary. -/
theorem test_policy_over_i3c :
    let t := after (.susisWrite .i3c 0x200003 [1])
      (after (.i3cPrivateWrite [0x22, 0x03, 0x00, 0x20, 0x01, 0x01, 0x5C, 0xFB]) { onBus with dev := .running })
    t.rget .POLICY 0 = 1 ∧ t.fget .POLICY 0 = 0 ∧ t.ctl.i3c.response = some [0x22, 0x00, 0x00, 0x00, 0xE6, 0x5E] := by
  decide +kernel

/-- One wrong byte: POLICY stands, and the answer says that the CRC is wrong. -/
theorem test_bad_crc :
    let t := after (.i3cPrivateWrite [0x22, 0x03, 0x00, 0x20, 0x01, 0x01, 0x5C, 0xFA]) { onBus with dev := .running }
    t.rget .POLICY 0 = 0 ∧ t.ctl.i3c.response = some (responseFrame 0x22 badCrc []) := by
  decide +kernel

/-- The decision of the worked budget: its DTAG, command, downlink CRC-8 and C0 message (the examples after R209 and R259). -/
theorem test_decision_tag : decidedTag (7001 * 2560 + 1160) 160 = 0xDE8 := by decide +kernel
theorem test_decision_command :
    downlinkCommand { kind := .accept, atype := 1, user := 0 } 0xDE8 = some 0xD011 ∧
      c0Message 1160 0 { kind := .accept, atype := 1, user := 0 } 0xDE8 = 0x0488000000005DE8#64 := by decide +kernel
theorem test_downlink_crc : crc8 [0x88, 0x11, 0xD0, 0x00, 0x00, 0x00] = 0x3E := by decide +kernel

/-- Check 5 of the collector's tap passes with R 110, and fails with a register more. -/
theorem test_collector_timing :
    let l : Ledger := { paths := [(0, { ldec := 160, entry := 12, ports := [], anchors := [], planes := [], underpasses := [] })], taps := [] }
    let tap (r : Nat) : LedgerTap := { path := 0, contexts := 1, phase := 10, hold := 143, outputs := 13, dlMask := 0xFFFF, regs := r, trunks := 0 }
    tapTimingBad 20 l (tap 110) = false ∧ tapTimingBad 20 l (tap 111) = true := by decide +kernel

/-- The entry of port 85 in record 500 of stripe 6 (the example after R120). -/
theorem test_ring_place :
    let s := (State.reset.rset .RING_WORDS 5 4).setRing 5 { Ring.off with first := 0, banks := 64 }
    s.ringRow 5 6 500 5 0 = (330, 1786) ∧ s.ringRow 5 6 500 5 1 = (331, 1786) ∧ recordRows 4 = 32 ∧ stripeRecords 64 4 = 512 := by
  decide +kernel

/-- The header of the fragment of event 0x0001_2345 (the example after R225). -/
theorem test_fragment_header :
    let t : EbTask := { ticket := 0, event := 0x12345, mt := 0x1B5903E8, accept := { crossing := 7001 * 2560 + 1000, atype := 1, forced := false, mismatch := false, source := 0 }
                        refused := 0, group := 5, queue := 0x501, pre := 2, post := 1, ports := List.range 16, last := false
                        stage := 1, flags := 0, entry := 4, body := [(List.replicate 256 0, 0)], waited := false }
    (t.header 0x1B5903E8).take 3 = [0x01000000000511F5, 0x0501000000012345, 0x000000001B5903E8] ∧
      ((t.header 0x1B5903E8).getD 3 0).toNat % 2 ^ 48 = 0x010004100102 ∧ t.rows = 130 := by decide +kernel

/-- The words of the worked schedule of Quarter 21 (the example after R70). -/
def gapEntry : Nat → TtEntry
  | 0 => 0x0000002B_00000201_80001003_09FF0960#128
  | 1 => 0x00000015_03000503_80001003_096A096A#128
  | 2 => 0x00000578_04000006_80001003_09100910#128
  | 3 => 0x00000578_04000007_80002003_00000000#128
  | _ => 0x00000015_05000104_80000000_09FF0960#128

theorem test_gap_context :
    ttAction (gapEntry 0) = 1 ∧ ttArg (gapEntry 0) = 2 ∧ ttTarget (gapEntry 0) = 43 ∧ ttFirst (gapEntry 0) = 2400 ∧
      ttLast (gapEntry 0) = 2559 ∧ ttModulus (gapEntry 0) = 4 ∧ ttResidue (gapEntry 0) = 1 ∧ ttEnabled (gapEntry 0) = true := by
  decide +kernel
theorem test_gap_bank : ttAction (gapEntry 2) = 6 ∧ ttTarget (gapEntry 2) = 1400 ∧ ttResidue (gapEntry 3) = 2 := by decide +kernel

/-- A commit of that schedule validates with the example machine's L and M; beside a window of another context over it, it does not. -/
theorem test_gap_validates :
    ((State.reset.rset .ORBIT_LEN 0 2560).rset .FABRIC_RATIO 0 20).ttValidate ((List.range 5).map (fun k => (k, gapEntry k))) = none ∧
    ((State.reset.rset .ORBIT_LEN 0 2560).rset .FABRIC_RATIO 0 20).ttValidate [(0, gapEntry 0), (1, gapEntry 0 + 0x100#128 * (1#128 <<< 64))] = some 1 := by
  decide +kernel

/-- The poison pattern: check bits of zero data are zero, and its syndrome is 0x7F (R290). -/
theorem test_poison : checkOf 0 = 0 ∧ StoredWord.poison.read = .poison ∧ (StoredWord.fresh 5).read = .clean 5 := by decide +kernel
theorem test_one_bit : { StoredWord.fresh 5 with data := 4 }.read = .corrected (checkOf 1).toNat 5 ∧
    { StoredWord.fresh 0 with check := 0x3C }.read = .uncorrectable := by decide +kernel

/-- The bank 1,401 test of the self-test example has 163,840 operations. -/
theorem test_march_operations : marchOps 0 * 16384 = 163840 := by decide

/-- The packets of the trunk example take 68 blocks, and its blocks carry their flags (R247). -/
theorem test_start_block :
    startBlock { seq := 0x1F40, cls := 1, queue := 0x501, mg := false, sof := true, eof := false, rows := [], made := [], frees := true } false 64
      = BitVec.ofNat 257 (1 + 2 * 0x003F05011F400555) := by decide +kernel

/-- IDCODE of a device of silicon revision 1 (the example after R449). -/
theorem test_idcode : (idle.rset .REVISION 0 1).idcodeWord = 0x1102458B#32 := by decide +kernel

/-- Published check values of the codes that the manual names: CRC-32C, CRC-32, CRC-16 and SHA-384. -/
theorem test_crc32c : crc32c [0x31, 0x32, 0x33, 0x34, 0x35, 0x36, 0x37, 0x38, 0x39] = 0xE3069283 := by decide +kernel
theorem test_crc32 : crc32 [0x31, 0x32, 0x33, 0x34, 0x35, 0x36, 0x37, 0x38, 0x39] = 0xCBF43926 := by decide +kernel

/-- The table's words spell no command. -/
theorem test_no_table_word : decodeTableWord 8 0 = none ∧ decodeTableWord 0 0 = none := by decide

/-! States that meet the hypotheses of each obligation, clause by clause. -/

/-! StepIdles. -/

theorem witness_StepIdles_boot : ∃ s : State,
      s.pending = [] ∧ s.dev ≠ .powerOff ∧ s.dev ≠ .reset :=
  ⟨State.reset, by decide +kernel⟩

theorem witness_StepIdles_stage : ∃ s : State,
      s.pending = [] ∧ s.dev ≠ .powerOff ∧ s.dev ≠ .reset ∧ s.stageOver 0 = true :=
  ⟨{ State.reset with run := { State.reset.run with running := true, wdtRuns := true, wdtLeft := 0 } }, by decide +kernel⟩

theorem witness_StepIdles_second : ∃ s : State,
      s.pending = [] ∧ s.dev ≠ .powerOff ∧ s.dev ≠ .reset ∧ s.stageOver 1 = true :=
  ⟨{ State.reset with run := { State.reset.run with running := true, wdtRuns := true, wdtStage := 1, wdtLeft := 0 } }, by decide +kernel⟩

theorem witness_StepIdles_keeper : ∃ s : State,
      s.pending = [] ∧ s.dev ≠ .powerOff ∧ s.dev ≠ .reset ∧ s.keeper.failed = false ∧ s.keeper.failAt = some 1 :=
  ⟨{ State.reset with keeper := { State.reset.keeper with failAt := some 1 } }, by decide +kernel⟩

theorem witness_StepIdles_keeperLater : ∃ s : State,
      s.pending = [] ∧ s.dev ≠ .powerOff ∧ s.dev ≠ .reset ∧ s.stageOver 0 = false ∧ s.stageOver 1 = false ∧ s.us + 1 < 2 ∧ s.keeper.failAt = some 2 :=
  ⟨{ State.reset with keeper := { State.reset.keeper with failAt := some 2 } }, by decide +kernel⟩

theorem witness_StepIdles_off : ∃ s : State,
      s.pending = [] ∧ s.dev = .powerOff :=
  ⟨{ State.reset with dev := .powerOff }, by decide +kernel⟩

/-! TimeSettings. -/

theorem witness_TimeSettings_offset : ∃ s : State,
      accepts .coreM .ORBIT_OFFSET 0 2047 s = true ∧
      2047 < s.L :=
  ⟨idle, by decide +kernel⟩

theorem witness_TimeSettings_offsetBeyond : ∃ s : State,
      accepts .coreM .ORBIT_OFFSET 0 2048 s = true ∧
      ¬ 2048 < s.L :=
  ⟨idle, by decide +kernel⟩

theorem witness_TimeSettings_every : ∃ s : State,
      accepts .coreM .SYNC_EVERY 0 1 s = true ∧
      96 ≤ 1 * s.L :=
  ⟨idle.rset .ORBIT_LEN 0 96, by decide +kernel⟩

theorem witness_TimeSettings_everyShort : ∃ s : State,
      accepts .coreM .SYNC_EVERY 0 1 s = true ∧
      ¬ 96 ≤ 1 * s.L :=
  ⟨idle.rset .ORBIT_LEN 0 95, by decide +kernel⟩

theorem witness_TimeSettings_phase : ∃ s : State,
      accepts .coreM .SYNC_SAMPLE_PHASE 0 15 s = true ∧
      15 < s.M :=
  ⟨idle, by decide +kernel⟩

theorem witness_TimeSettings_phaseBeyond : ∃ s : State,
      accepts .coreM .SYNC_SAMPLE_PHASE 0 16 s = true ∧
      ¬ 16 < s.M :=
  ⟨idle, by decide +kernel⟩

theorem witness_TimeSettings_fine : ∃ s : State,
      accepts .coreM .FINE_DELAY 0 4166 s = true ∧
      4166 * 6 * s.rget .MCLK_NOMINAL < 10 ^ 12 :=
  ⟨idle, by decide +kernel⟩

theorem witness_TimeSettings_fineBeyond : ∃ s : State,
      accepts .coreM .FINE_DELAY 0 4167 s = true ∧
      ¬ 4167 * 6 * s.rget .MCLK_NOMINAL < 10 ^ 12 :=
  ⟨idle, by decide +kernel⟩

theorem witness_TimeSettings_role : ∃ s : State,
      accepts .coreM .SYNC_ROLE 0 1 s = true ∧
      accepts .coreM .SYNC_ROLE 0 2 s = true :=
  ⟨idle, by decide +kernel⟩

theorem witness_TimeSettings_roleLeft : ∃ s : State,
      accepts .coreM .SYNC_ROLE 0 2 s = true ∧ s.rget .SYNC_ROLE = 1 :=
  ⟨(al.rset .SYNC_ROLE 0 1), by decide +kernel⟩

theorem witness_TimeSettings_roleDrops : ∃ s : State,
      accepts .coreM .SYNC_ROLE 0 1 s = true ∧ s.L ≠ 1 :=
  ⟨({ al with tb := { al.tb with st := .locked, prov := some (9, 5) } }).rset .SYNC_ROLE 0 2, by decide +kernel⟩

theorem witness_TimeSettings_roleAlone : ∃ s : State,
      accepts .coreM .SYNC_ROLE 0 0 s = true ∧ s.L = 1 ∧ s.tb.st = .realign :=
  ⟨(({ al with tb := { al.tb with st := .realign } }).rset .SYNC_ROLE 0 2).rset .ORBIT_LEN 0 1, by decide +kernel⟩

theorem witness_TimeSettings_source : ∃ s : State,
      accepts .coreM .CLK_SRC 0 0 s = true ∧
      s.rget .CLK_SRC = 0 ∧
      accepts .coreM .CLK_SRC 0 1 s = true ∧
      s.rget .CLK_SRC ≠ 1 :=
  ⟨idle, by decide +kernel⟩

theorem witness_TimeSettings_port : ∃ s : State,
      accepts .coreM .TIMING_PORT 0 127 s = true ∧
      s.rget .TIMING_PORT ≠ 127 :=
  ⟨idle, by decide +kernel⟩

theorem witness_TimeSettings_nominal : ∃ s : State,
      accepts .coreM .MCLK_NOMINAL 0 39000000 s = true ∧
      s.fabricClockOk s.M 39000000 = true ∧
      s.rget .MCLK_NOMINAL ≠ 39000000 :=
  ⟨idle, by decide +kernel⟩

theorem witness_TimeSettings_lengthShort : ∃ s : State,
      accepts .coreM .ORBIT_LEN 0 1 s = true ∧
      s.rget .SYNC_EVERY * 1 < 96 :=
  ⟨idle.rset .SYNC_EVERY 0 95, by decide +kernel⟩

theorem witness_TimeSettings_length : ∃ s : State,
      accepts .coreM .ORBIT_LEN 0 1 s = true ∧
      Nat.ble 96 (s.rget .SYNC_EVERY * 1) = true ∧
      s.rget .ORBIT_LEN ≠ 1 :=
  ⟨idle.rset .SYNC_EVERY 0 96, by decide +kernel⟩

theorem witness_TimeSettings_ratio : ∃ s : State,
      accepts .coreM .FABRIC_RATIO 0 12 s = true ∧
      (s.fabricClockOk 12 (s.rget .MCLK_NOMINAL) && s.phasesFit 12) = true ∧
      s.rget .FABRIC_RATIO ≠ 12 :=
  ⟨idle, by decide +kernel⟩

theorem witness_TimeSettings_alignSrc : ∃ s : State,
      accepts .coreM .ALIGN_SRC 0 1 s = true ∧
      s.rget .ALIGN_SRC ≠ 1 :=
  ⟨idle, by decide +kernel⟩

/-! ClockComesAndGoes. -/

theorem witness_ClockComesAndGoes_acquired : ∃ s : State,
      s.tb.st = .noClock ∧ s.powered = true ∧ s.sourceUsable = true ∧
      s.within200 40008000 = true :=
  ⟨idle, by decide +kernel⟩

theorem witness_ClockComesAndGoes_pll : ∃ s : State,
      s.tb.st = .acquire ∧ s.needsNoMarker = false :=
  ⟨{ idle with tb := { idle.tb with st := .acquire } }, by decide +kernel⟩

theorem witness_ClockComesAndGoes_back : ∃ s : State,
      s.tb.st = .holdover ∧ s.sourceUsable = true ∧ s.within200 39992000 = true :=
  ⟨{ idle with tb := { idle.tb with st := .holdover } }, by decide +kernel⟩

theorem witness_ClockComesAndGoes_marker : ∃ s : State,
      s.tb.st = .aligned ∧ s.follower = false ∧ s.L ≠ 1 :=
  ⟨al, by decide +kernel⟩

theorem witness_ClockComesAndGoes_word : ∃ s : State,
      s.tb.st = .aligned ∧ s.follower = true :=
  ⟨al.rset .SYNC_ROLE 0 2, by decide +kernel⟩

theorem witness_ClockComesAndGoes_loss : ∃ s : State,
      s.tb.st = .aligned ∧ s.rget .CLK_SRC = 1 :=
  ⟨run.rset .CLK_SRC 0 1, by decide +kernel⟩

/-! MarkersAndCrossings. -/

theorem witness_MarkersAndCrossings_first : ∃ s : State,
      s.follower = false ∧ s.L ≠ 1 ∧ s.markerDue .pin = true ∧ s.markerDue .timingPort = false ∧ s.tb.st = .locked ∧ s.tb.prov = none :=
  ⟨{ idle with tb := { idle.tb with st := .locked, edges := 9 } }, by decide +kernel⟩

theorem witness_MarkersAndCrossings_port : ∃ s : State,
      s.follower = false ∧ s.L ≠ 1 ∧ s.markerDue .timingPort = true ∧ s.tb.st = .locked ∧ s.tb.prov = none :=
  ⟨(({ idle with tb := { idle.tb with st := .locked, edges := 9 } }).rset .ALIGN_SRC 0 1).setPort 0 { Port.idle with orbRise := some 7 }, by decide +kernel⟩

theorem witness_MarkersAndCrossings_second : ∃ s : State,
      s.follower = false ∧ s.L ≠ 1 ∧ s.markerDue .pin = true ∧ s.tb.st = .locked ∧
      s.tb.prov = some (9, 0) ∧ s.tb.edges = 9 + s.L ∧ s.rget .ORBIT_OFFSET < s.L :=
  ⟨{ idle with tb := { idle.tb with st := .locked, edges := 2057, prov := some (9, 0) } }, by decide +kernel⟩

theorem witness_MarkersAndCrossings_portSecond : ∃ s : State,
      s.follower = false ∧ s.L ≠ 1 ∧ s.markerDue .timingPort = true ∧ s.tb.st = .locked ∧
      s.tb.prov = some (9, 0) ∧ s.tb.edges - s.markerBack .timingPort = 9 + s.L :=
  ⟨(({ idle with tb := { idle.tb with st := .locked, edges := 2059, prov := some (9, 0) } }).rset .ALIGN_SRC 0 1).setPort 0 { Port.idle with orbRise := some 2057 }, by decide +kernel⟩

theorem witness_MarkersAndCrossings_word : ∃ s : State,
      s.follower = true ∧ syncWellFormed (syncWordOf 0 5) = true ∧ syncGroup (syncWordOf 0 5) = s.rget .SYNC_LOCK_GROUP ∧
      s.tb.st = .locked ∧ s.tb.prov = none :=
  ⟨({ idle with tb := { idle.tb with st := .locked } }).rset .SYNC_ROLE 0 2, by decide +kernel⟩

theorem witness_MarkersAndCrossings_send : ∃ s : State,
      s.rget .SYNC_ROLE = 1 ∧ s.tb.st = .aligned ∧ 0 < s.L ∧ s.crossing + 80 = 8 * s.L ∧ 8 % 2 ^ 48 % s.rget .SYNC_EVERY = 0 :=
  ⟨({ al with tb := { al.tb with orbit := 7, slot := 1968 } }).rset .SYNC_ROLE 0 1, by decide +kernel⟩

theorem witness_MarkersAndCrossings_slot : ∃ s : State,
      s.counting = true ∧ s.tb.held = none ∧ s.tb.entered = false ∧ s.tb.slot + 1 ≠ s.L :=
  ⟨al, by decide +kernel⟩

theorem witness_MarkersAndCrossings_orbit : ∃ s : State,
      s.counting = true ∧ s.tb.held = none ∧ s.tb.entered = false ∧ s.tb.slot + 1 = s.L :=
  ⟨{ al with tb := { al.tb with slot := 2047, orbit := 2 ^ 48 - 1 } }, by decide +kernel⟩

theorem witness_MarkersAndCrossings_resume : ∃ s : State,
      s.dev = .hold ∧ s.counting = true ∧ s.tb.slot = 0 ∧ s.tb.st = .aligned ∧ s.tb.entriesRun = true ∧ s.freezeHeld = false :=
  ⟨{ al with dev := .hold, lossHeld := true, tb := { al.tb with slot := 0 } }, by decide +kernel⟩

/-! TimeTableWrites. -/

theorem witness_TimeTableWrites_word : ∃ s : State,
      accepts .coreM (ttWordEl (1 % 4)) 0 0x80000000 s = true ∧ s.rflag .TT_WINDOW_SEL = false ∧ s.ttPending = false :=
  ⟨idle, by decide +kernel⟩

theorem witness_TimeTableWrites_pending : ∃ s : State,
      accepts .coreM (ttWordEl (0 % 4)) 0 1 s = true ∧ s.rflag .TT_WINDOW_SEL = false ∧ s.ttPending = true ∧
      accepts .coreM .TT_COPY 0 1 s = true ∧ accepts .coreM .TT_COMMIT 0 9 s = true :=
  ⟨{ idle with rb := { idle.rb with validating := some 5 } }, by decide +kernel⟩

theorem witness_TimeTableWrites_copyCommit : ∃ s : State,
      accepts .coreM .TT_COPY 0 1 s = true ∧ accepts .coreM .TT_COMMIT 0 9 s = true ∧ s.ttPending = false ∧ accepts .coreM .TT_COPY 0 0 s = true :=
  ⟨idle, by decide +kernel⟩

theorem witness_TimeTableWrites_sound : ∃ s : State,
      s.rb.validating = some 8 ∧ s.ttValidate s.rb.shadow = none ∧ s.tb.orbit < 8 :=
  ⟨{ al with rb := { al.rb with validating := some 8 } }, by decide +kernel⟩

theorem witness_TimeTableWrites_begun : ∃ s : State,
      s.rb.validating = some 7 ∧ s.ttValidate s.rb.shadow = none ∧ 7 ≠ allOnes64 ∧ s.counting = true ∧ 7 ≤ s.tb.orbit :=
  ⟨{ al with rb := { al.rb with validating := some 7 } }, by decide +kernel⟩

theorem witness_TimeTableWrites_offending : ∃ s : State,
      s.rb.validating = some 8 ∧ s.ttValidate s.rb.shadow = some 3 :=
  ⟨{ al with rb := { al.rb with validating := some 8, shadow := [(3, BitVec.ofNat 128 (2 ^ 63 + 0xFF * 2 ^ 64))] } }, by decide +kernel⟩

theorem witness_TimeTableWrites_selector : ∃ s : State,
      accepts .coreM (selectorEl .ttWindowIndex) 0 4095 s = true ∧
      accepts .coreM (selectorEl .recSel) 0 4095 s = true :=
  ⟨idle, by decide +kernel⟩

/-! StepTakesFront. -/

theorem witness_StepTakesFront_front : ∃ s : State,
      s.pending = .orbitBoundary :: [.pllLocked] :=
  ⟨{ idle with pending := [.orbitBoundary, .pllLocked] }, by decide +kernel⟩

/-! WindowsOpenAndClose. -/

theorem witness_WindowsOpenAndClose_pause : ∃ s : State,
      s.tb.entriesRun = true ∧ s.tb.st = .aligned ∧ ttEnabled (s.ttActive 0) = true ∧ ttMatches (s.ttActive 0) s.tb.orbit = true ∧
      ttStartsAt (s.ttActive 0) s.tb.slot = true ∧ (0, s.crossing) ∉ s.rb.openWindows ∧ ttAction (s.ttActive 0) = 4 :=
  ⟨withEntry (entry 4 0 0 0), by decide +kernel⟩

theorem witness_WindowsOpenAndClose_flag : ∃ s : State,
      s.tb.entriesRun = true ∧ s.tb.st = .aligned ∧ ttEnabled (s.ttActive 0) = true ∧ ttMatches (s.ttActive 0) s.tb.orbit = true ∧
      ttStartsAt (s.ttActive 0) s.tb.slot = true ∧ (0, s.crossing) ∉ s.rb.openWindows ∧ ttAction (s.ttActive 0) ∈ [5, 8] :=
  ⟨withEntry (entry 8 0 0 0), by decide +kernel⟩

theorem witness_WindowsOpenAndClose_pulse : ∃ s : State,
      s.tb.entriesRun = true ∧ s.tb.st = .aligned ∧ ttEnabled (s.ttActive 0) = true ∧ ttMatches (s.ttActive 0) s.tb.orbit = true ∧
      ttStartsAt (s.ttActive 0) s.tb.slot = true ∧ (0, s.crossing) ∉ s.rb.openWindows ∧ ttAction (s.ttActive 0) = 3 :=
  ⟨withEntry (entry 3 9 2 5), by decide +kernel⟩

theorem witness_WindowsOpenAndClose_displaced : ∃ s : State,
      s.tb.entriesRun = true ∧ s.tb.st = .aligned ∧ ttEnabled (s.ttActive 0) = true ∧ ttMatches (s.ttActive 0) s.tb.orbit = true ∧
      ttStartsAt (s.ttActive 0) s.tb.slot = true ∧ (0, s.crossing) ∉ s.rb.openWindows ∧ ttAction (s.ttActive 0) = 3 ∧ (s.port 5).pulse = some (s.crossing, 4) :=
  ⟨(withEntry (entry 3 9 2 5)).setPort 5 { Port.idle with pulse := some (14339, 4) }, by decide +kernel⟩

theorem witness_WindowsOpenAndClose_wake : ∃ s : State,
      s.tb.entriesRun = true ∧ s.tb.st = .aligned ∧ ttEnabled (s.ttActive 0) = true ∧ ttMatches (s.ttActive 0) s.tb.orbit = true ∧
      ttStartsAt (s.ttActive 0) s.tb.slot = true ∧ (0, s.crossing) ∉ s.rb.openWindows ∧ ttAction (s.ttActive 0) = 6 ∧
      s.rget .POWER_STATE (ttTarget (s.ttActive 0)) = 1 :=
  ⟨(withEntry (entry 6 0 1 70)).rset .POWER_STATE 70 1, by decide +kernel⟩

theorem witness_WindowsOpenAndClose_sleep : ∃ s : State,
      s.tb.entriesRun = true ∧ s.tb.st = .aligned ∧ ttEnabled (s.ttActive 0) = true ∧ ttMatches (s.ttActive 0) s.tb.orbit = true ∧
      ttStartsAt (s.ttActive 0) s.tb.slot = true ∧ (0, s.crossing) ∉ s.rb.openWindows ∧ ttAction (s.ttActive 0) = 7 ∧
      s.rget .POWER_STATE (ttTarget (s.ttActive 0)) ≠ 1 ∧ s.mayNotSleep (ttTarget (s.ttActive 0)) = false :=
  ⟨withEntry (entry 7 0 1 70), by decide +kernel⟩

theorem witness_WindowsOpenAndClose_end : ∃ s : State,
      s.tb.entriesRun = true ∧ s.rb.openWindows.find? (fun w => w.1 == 0 && Nat.ble (w.2 + ttSpan (s.ttActive 0)) s.crossing) = some (0, 14338) ∧
      ttAction (s.ttActive 0) ∈ [4, 5, 8] :=
  ⟨let a := withEntry (entry 4 0 0 0); { a with rb := { a.rb with openWindows := [(0, 14338)] } }, by decide +kernel⟩

/-! CountClearClears. -/

theorem witness_CountClearClears_none : ∃ s : State,
      accepts .coreM (clearEl .timeBase) 0 0 s = true ∧ accepts .coreM (clearEl .port) 1023 1 s = true ∧
      accepts .coreM (clearEl .queue) 0 1 s = true ∧ accepts .coreM (clearEl .trunk) 15 1 s = true ∧ accepts .coreM (clearEl .bist) 0 1 s = true :=
  ⟨al, by decide +kernel⟩

theorem witness_CountClearClears_port : ∃ s : State,
      accepts .coreM (clearEl .port) 1023 1 s = true :=
  ⟨(al.rset .CODE_ERRORS 1023 5).rset .CODE_ERRORS 1022 4, by decide +kernel⟩

/-! PortSettings. -/

theorem witness_PortSettings_enable : ∃ s : State,
      accepts .coreM (portSettingEl .enable) 1023 1 s = true :=
  ⟨al, by decide +kernel⟩

theorem witness_PortSettings_words : ∃ s : State,
      accepts .coreM (portSettingEl .frameWords) 5 3 s = true ∧ s.rflag .ENABLE 5 = false ∧
      1 ≤ 2 ∧ 2 ≤ wMax (s.rget .CODING 5) (s.rget .RX_MULT 5) ∧ accepts .coreM (portSettingEl .frameWords) 5 2 s = true :=
  ⟨al, by decide +kernel⟩

theorem witness_PortSettings_mult : ∃ s : State,
      accepts .coreM (portSettingEl .rxMult) 5 128 s = true ∧ s.rflag .ENABLE 5 = false ∧ s.ringBreaks 5 128 = false ∧
      accepts .coreM (portSettingEl .txMult) 5 80 s = true ∧ s.rflag .DL_ENABLE 5 = false :=
  ⟨al, by decide +kernel⟩

theorem witness_PortSettings_guard : ∃ s : State,
      accepts .coreM (portSettingEl .alignGuard) 5 15 s = true ∧ 15 < s.M ∧
      accepts .coreM (portSettingEl .dlSkew) 5 15 s = true ∧ s.M ≤ 16 ∧ accepts .coreM (portSettingEl .dlSkew) 5 16 s = true ∧
      accepts .coreM (portSettingEl .frameWords) 5 100 s = true ∧ ¬ (1 ≤ 100 ∧ 100 ≤ wMax (s.rget .CODING 5) (s.rget .RX_MULT 5)) :=
  ⟨al, by decide +kernel⟩

theorem witness_PortSettings_ring : ∃ s : State,
      accepts .coreM (portSettingEl .rxMult) 5 128 s = true ∧ s.ringBreaks 5 128 = true :=
  ⟨(al.rset .RING_ENABLE 0 1).rset .RING_WORDS 0 1, by decide +kernel⟩

theorem witness_PortSettings_enabled : ∃ s : State,
      accepts .coreM (portSettingEl .coding) 0 1 s = true ∧ accepts .coreM (portSettingEl .scramble) 0 1 s = true ∧ s.rflag .ENABLE 0 = true ∧
      accepts .coreM (portSettingEl .txMult) 0 80 s = true ∧ s.rflag .DL_ENABLE 0 = true ∧ accepts .coreM (portSettingEl .rxMult) 0 128 s = true ∧ s.ringBreaks 0 128 = false ∧
      accepts .coreM (portSettingEl .frameWords) 0 1 s = true ∧ 1 ≤ wMax (s.rget .CODING 0) (s.rget .RX_MULT 0) :=
  ⟨(listening.rset .DL_ENABLE 0 1), by decide +kernel⟩

theorem witness_PortSettings_alignment : ∃ s : State,
      accepts .coreM (alignSettingEl .tagOffset) 3 2047 s = true ∧ 2047 < s.L ∧ accepts .coreM (alignSettingEl .gang) 3 1 s = true :=
  ⟨al, by decide +kernel⟩

theorem witness_PortSettings_tagMode : ∃ s : State,
      accepts .coreM (alignSettingEl .tagOffset) 3 4095 s = true ∧ s.rget .TAG_MODE 3 ≠ 0 :=
  ⟨al.rset .TAG_MODE 3 1, by decide +kernel⟩

theorem witness_PortSettings_mask : ∃ s : State,
      accepts .coreM .MASK 3 1 s = true ∧ accepts .coreM .DL_PRBS 3 0 s = true ∧ accepts .coreM .RX_PRBS 3 0 s = true ∧
      accepts .coreM .DL_PRBS 3 1 s = true ∧ accepts .coreM .RX_PRBS 3 1 s = true ∧ s.fget .MASK 3 = 0 ∧ s.rget .RX_PRBS 3 = 0 ∧ (s.port 3).cdr = false :=
  ⟨al, by decide +kernel⟩

theorem witness_PortSettings_prbs : ∃ s : State,
      accepts .coreM .DL_PRBS 0 1 s = true ∧ accepts .coreM .RX_PRBS 0 1 s = true ∧ s.fget .MASK 0 ≠ 0 :=
  ⟨{ listening with force := [(regKey .MASK 0, 1)] }, by decide +kernel⟩

theorem witness_PortSettings_prbsHeld : ∃ s : State,
      accepts .coreM .RX_PRBS 0 0 s = true ∧ accepts .coreM .RX_PRBS 0 2 s = true ∧ s.fget .MASK 0 ≠ 0 ∧ s.rget .RX_PRBS 0 = 0 ∧ (s.port 0).cdr = true :=
  ⟨{ listening with force := [(regKey .MASK 0, 1)] }, by decide +kernel⟩

theorem witness_PortSettings_prbsOff : ∃ s : State,
      accepts .coreM .RX_PRBS 0 0 s = true ∧ s.rget .RX_PRBS 0 ≠ 0 :=
  ⟨listening.rset .RX_PRBS 0 1, by decide +kernel⟩

theorem witness_PortSettings_command : ∃ s : State,
      accepts .coreM .DL_CMD 3 0 s = true ∧ reservedCommand 0 = false ∧ accepts .coreM .DL_CMD 3 15 s = true ∧ reservedCommand 15 = true :=
  ⟨al, by decide +kernel⟩

/-! DlSendIsJudged. -/

theorem witness_DlSendIsJudged_all : ∃ s : State,
      accepts .coreM .DL_SEND 1023 (7 * 65536 + 5) s = true ∧ s.crossing + 2 ≤ s.namedCrossing (7 * 65536 + 5) ∧ (s.port 1023).sendAt = none ∧
      accepts .coreM .DL_SEND 1023 (7 * 65536 + 4) s = true ∧ s.namedCrossing (7 * 65536 + 4) < s.crossing + 2 :=
  ⟨al, by decide +kernel⟩

theorem witness_DlSendIsJudged_pending : ∃ s : State,
      accepts .coreM .DL_SEND 1023 (7 * 65536 + 5) s = true ∧ s.crossing + 2 ≤ s.namedCrossing (7 * 65536 + 5) ∧ (s.port 1023).sendAt ≠ none :=
  ⟨al.setPort 1023 { Port.idle with sendAt := some 14341 }, by decide +kernel⟩

/-! ReceiverLocks. -/

theorem witness_ReceiverLocks_clock : ∃ s : State,
      s.mayReceive 1023 = true ∧ (s.port 1023).cdr = false ∧ 1023 < portCount :=
  ⟨al.rset .ENABLE 1023 1, by decide +kernel⟩

theorem witness_ReceiverLocks_adapt : ∃ s : State,
      (s.port 0).adaptForced = true :=
  ⟨al.setPort 0 { Port.idle with adaptForced := true }, by decide +kernel⟩

theorem witness_ReceiverLocks_code : ∃ s : State,
      s.mayReceive 0 = true ∧ (s.port 0).cdr = true ∧ s.rget .RX_PRBS 0 = 0 :=
  ⟨(al.rset .ENABLE 0 1).setPort 0 { Port.idle with cdr := true }, by decide +kernel⟩

theorem witness_ReceiverLocks_lost : ∃ s : State,
      (s.port 0).cdr = true ∧ (s.port 0).code = true ∧ (s.port 0).framed = true ∧ (s.port 0).aligned = true :=
  ⟨listening.setPort 0 { Port.idle with cdr := true, code := true, framed := true, aligned := true, fifo := [(14341, { header := 0, payload := [], crcOk := true, lenOk := true })] }, by decide +kernel⟩

/-! FramesAndAlignment. -/

theorem witness_FramesAndAlignment_frame : ∃ s : State,
      s.portState 0 = 3 :=
  ⟨listening, by decide +kernel⟩

theorem witness_FramesAndAlignment_timing : ∃ s : State,
      s.portState 0 = 3 ∧ 0 = s.rget .TIMING_PORT :=
  ⟨listening.rset .CODING 0 0, by decide +kernel⟩

theorem witness_FramesAndAlignment_early : ∃ s : State,
      accepts .coreM .ALIGN_REQ 0 64 s = true ∧ s.tb.st ≠ .aligned :=
  ⟨idle, by decide +kernel⟩

theorem witness_FramesAndAlignment_open : ∃ s : State,
      accepts .coreM .ALIGN_REQ 0 64 s = true ∧ s.tb.st = .aligned ∧ s.windowOpen 0 = false ∧ 0 ∈ s.gangOf 0 :=
  ⟨listening, by decide +kernel⟩

theorem witness_FramesAndAlignment_end : ∃ s : State,
      accepts .coreM .ALIGN_REQ 0 64 s = true ∧ s.tb.st = .aligned ∧ s.windowOpen 0 = true ∧
      s.rget .GANG 0 = 0 ∧ (s.port 0).window = some { first := 14300, last := some 14339, entry := none, count := 64, dMin := 4, dMax := 5 } ∧ 14339 ≤ s.crossing ∧ s.rget .ALIGN_MIN 0 ≤ 64 ∧ 5 < s.rget .ALIGN_LAT 0 :=
  ⟨listening.setPort 0 { Port.idle with window := some { first := 14300, last := some 14339, entry := none, count := 64, dMin := 4, dMax := 5 } }, by decide +kernel⟩

/-! ContextsAndUpsets. -/

theorem witness_ContextsAndUpsets_baseNext : ∃ s : State,
      accepts .coreM .BASE_NEXT 0 0 s = true ∧ s.baseLoaded 0 0 = true ∧ s.basePending 0 = false ∧ accepts .coreM .BASE_NEXT 0 7 s = true ∧ s.baseLoaded 0 7 = false ∧
      accepts .coreM .BASE_NEXT 0 0xFF s = true :=
  ⟨running0, by decide +kernel⟩

theorem witness_ContextsAndUpsets_basePending : ∃ s : State,
      accepts .coreM .BASE_NEXT 0 0 s = true ∧ s.baseLoaded 0 0 = true ∧ s.basePending 0 = true :=
  ⟨running0.setDist 0 { running0.dist 0 with baseAt := some 9 }, by decide +kernel⟩

theorem witness_ContextsAndUpsets_baseAt : ∃ s : State,
      accepts .coreM .BASE_AT 0 8 s = true ∧ s.rget .BASE_NEXT 0 ≠ 0xFF ∧ s.crossing + 2 ≤ s.orbitOf 8 * s.L ∧
      s.baseLoaded 0 (s.rget .BASE_NEXT 0) = true ∧ s.basePending 0 = false ∧ accepts .coreM .BASE_AT 0 allOnes64 s = true :=
  ⟨running0.rset .BASE_NEXT 0 0, by decide +kernel⟩

theorem witness_ContextsAndUpsets_group : ∃ s : State,
      accepts .coreM .LOCK_GROUP 0 63 s = true ∧ s.census (0 / 2) 63 (s.rget .LOCK_GROUP 1) = true ∧ (s.groupMembers 63).filter (· != 0) = [] ∧ (s.dist 0).windows = [] ∧ s.rget .BASE_CTX 0 = (s.dist 0).ctx ∧
      accepts .coreM .LOCK_GROUP 1 0xFF s = true ∧ s.census (1 / 2) (s.rget .LOCK_GROUP 0) 0xFF = true :=
  ⟨al, by decide +kernel⟩

theorem witness_ContextsAndUpsets_join : ∃ s : State,
      accepts .coreM .LOCK_GROUP 0 63 s = true ∧ s.census (0 / 2) 63 (s.rget .LOCK_GROUP 1) = true ∧ (s.groupMembers 63).filter (· != 0) = [4] :=
  ⟨((al.rset .LOCK_GROUP 4 63).rset .BASE_NEXT 4 2).setDist 4 { District.held with baseAt := some 9, windows := [0] }, by decide +kernel⟩

theorem witness_ContextsAndUpsets_census : ∃ s : State,
      accepts .coreM .LOCK_GROUP 0 0 s = true ∧ s.census (0 / 2) 0 (s.rget .LOCK_GROUP 1) = false :=
  ⟨((al.setPlane 0 { Plane.empty with state := 2, user := { Plane.empty.user with upEnds := 1 } }).setPlane 9 { Plane.empty with state := 2, user := { Plane.empty.user with upEnds := 1 } }), by decide +kernel⟩

theorem witness_ContextsAndUpsets_contention : ∃ s : State,
      (s.guard (0 / 2) 1023).off = false ∧ s.clocked 0 = true :=
  ⟨running0, by decide +kernel⟩

theorem witness_ContextsAndUpsets_clear : ∃ s : State,
      accepts .coreM .UP_CLEAR 0 1023 s = true ∧ (s.guard (0 / 2) 1023).off = true :=
  ⟨{ al with guards := [(1023, { off := true, keptOff := false, cleared := false, frames := [], enabledAt := none, since := 5 })] }, by decide +kernel⟩

/-! Captures. -/

theorem witness_Captures_arm : ∃ s : State,
      accepts .coreM .CAPTURE_CTRL 127 (60 - 60 % 2 + 1) s = true ∧ bitsOf (60 - 60 % 2 + 1) 7 2 < s.M ∧ bitsOf (60 - 60 % 2 + 1) 15 13 = 0 ∧
      s.crossing + 2 ≤ s.crossingOf (s.rget .CAPTURE_MT 127) ∧ captureState (s.rget .CAPTURE_CTRL 127) ≠ 1 :=
  ⟨al.rset .CAPTURE_MT 127 (7 * 65536 + 5), by decide +kernel⟩

theorem witness_Captures_armed : ∃ s : State,
      accepts .coreM .CAPTURE_CTRL 127 (60 - 60 % 2 + 1) s = true ∧ bitsOf (60 - 60 % 2 + 1) 7 2 < s.M ∧ bitsOf (60 - 60 % 2 + 1) 15 13 = 0 ∧
      s.crossing + 2 ≤ s.crossingOf (s.rget .CAPTURE_MT 127) ∧ captureState (s.rget .CAPTURE_CTRL 127) = 1 ∧ bitsOf (60 - 60 % 2 + 1) 23 22 = 0 :=
  ⟨(al.rset .CAPTURE_MT 127 (7 * 65536 + 5)).rset .CAPTURE_CTRL 127 (1 + 2 ^ 16), by decide +kernel⟩

theorem witness_Captures_elsewhere : ∃ s : State,
      captureState (s.rget .CAPTURE_CTRL 0) = 1 ∧ bitOf (s.rget .CAPTURE_CTRL 0) 1 = false ∧ bitOf (s.rget .CAPTURE_CTRL 0) 11 = false ∧
      s.clocked 0 = true ∧ (s.dist 0).ctx ≤ 7 ∧ s.counting = true ∧ s.crossing ≠ s.crossingOf (s.rget .CAPTURE_MT 0) :=
  ⟨running0.rset .CAPTURE_CTRL 0 (1 + 2 ^ 16), by decide +kernel⟩

theorem witness_Captures_disarm : ∃ s : State,
      accepts .coreM .CAPTURE_CTRL 0 (Nat.lor (0 - 0 % 2) 0x1000) s = true ∧ bitsOf (Nat.lor (0 - 0 % 2) 0x1000) 7 2 < s.M ∧ bitsOf (Nat.lor (0 - 0 % 2) 0x1000) 15 13 = 0 ∧
      captureState (s.rget .CAPTURE_CTRL 0) = 1 ∧ bitOf (s.rget .CAPTURE_CTRL 0) 1 = false ∧ bitOf (s.rget .CAPTURE_CTRL 0) 11 = false ∧
      bitsOf (Nat.lor (0 - 0 % 2) 0x1000) 23 22 = 0 :=
  ⟨running0.rset .CAPTURE_CTRL 0 (1 + 2 ^ 16), by decide +kernel⟩

theorem witness_Captures_cycle : ∃ s : State,
      captureState (s.rget .CAPTURE_CTRL 0) = 1 ∧ bitOf (s.rget .CAPTURE_CTRL 0) 1 = false ∧ bitOf (s.rget .CAPTURE_CTRL 0) 11 = false ∧
      s.clocked 0 = true ∧ (s.dist 0).ctx ≤ 7 ∧ s.counting = true ∧ s.crossing = s.crossingOf (s.rget .CAPTURE_MT 0) ∧ bitsOf (s.rget .CAPTURE_CTRL 0) 7 2 ≤ s.fabric.phase :=
  ⟨(running0.rset .CAPTURE_CTRL 0 (1 + 2 ^ 16)).rset .CAPTURE_MT 0 running0.mt, by decide +kernel⟩

/-! RequestsReachBanks. -/

theorem witness_RequestsReachBanks_local : ∃ s : State,
      s.clocked 0 = true ∧ bitOf (0x04004001 : BitVec 32).toNat 25 = false ∧ bitsOf (0x04004001 : BitVec 32).toNat 24 15 = 0 ∧
      bitsOf (0x04004001 : BitVec 32).toNat 31 28 = 0 ∧ bitsOf (0x04004001 : BitVec 32).toNat 27 26 ≠ 0 ∧ s.queued (· == .district 0 (63 % 64)) < 8 :=
  ⟨running0, by decide +kernel⟩

theorem witness_RequestsReachBanks_malformed : ∃ s : State,
      s.clocked 0 = true ∧ bitOf (0x06004001 : BitVec 32).toNat 25 = true ∧ bitsOf (0x06004001 : BitVec 32).toNat 27 26 ≠ 0 ∧ s.queued (· == .district 0 (63 % 64)) < 8 :=
  ⟨running0, by decide +kernel⟩

theorem witness_RequestsReachBanks_localC0 : ∃ s : State,
      s.clocked 0 = true ∧ bitOf (0x00000001 : BitVec 32).toNat 25 = false ∧ bitsOf (0x00000001 : BitVec 32).toNat 24 15 = 0 ∧ bitsOf (0x00000001 : BitVec 32).toNat 31 28 = 0 ∧
      bitsOf (0x00000001 : BitVec 32).toNat 27 26 = 0 ∧ s.permitsC0 0 (64 * (0 / 2) + 63 % 64) (bitOf (0x00000001 : BitVec 32).toNat 14) = true :=
  ⟨running0.setPlane 0 { Plane.empty with state := 2, c0Banks := 2 ^ 63 }, by decide +kernel⟩

theorem witness_RequestsReachBanks_fault : ∃ s : State,
      bitsOf (0x2CBFFC001 : BitVec 40).toNat 39 35 = 0 ∧ s.plazaClass (.core false) (0x2CBFFC001 : BitVec 40).toNat ≠ 0 ∧ s.plazaFault (.core false) (bitsOf (0x2CBFFC001 : BitVec 40).toNat 25 14) (0x2CBFFC001 : BitVec 40).toNat 0xFFFF = some (0x40000000 + 262144 * 767 * 0 + 262144 * (bitsOf (0x2CBFFC001 : BitVec 40).toNat 25 14) + 16) :=
  ⟨run, by decide +kernel⟩

theorem witness_RequestsReachBanks_plaza : ∃ s : State,
      bitsOf (0x2C3FFC001 : BitVec 40).toNat 39 35 = 0 ∧ s.plazaClass .queues (0x2C3FFC001 : BitVec 40).toNat = 0 ∧
      bitsOf (0x2CBFFC001 : BitVec 40).toNat 39 35 = 0 ∧ s.plazaClass .queues (0x2CBFFC001 : BitVec 40).toNat ≠ 0 ∧
      s.plazaFault .queues (bitsOf (0x2CBFFC001 : BitVec 40).toNat 25 14) (0x2CBFFC001 : BitVec 40).toNat 0xFFFF = none :=
  ⟨run, by decide +kernel⟩

theorem witness_RequestsReachBanks_present : ∃ s : State,
      s.clocked 0 = true ∧ bitsOf (0x06012E10 : BitVec 32).toNat 27 26 ≠ 0 ∧ bitOf (0x06012E10 : BitVec 32).toNat 25 = true ∧
      s.queued (· == .district 0 storeChannel) < 8 ∧ 2 ≤ s.rget .RING_STATE (0 / 2) ∧ bitsOf (0x06012E10 : BitVec 32).toNat 24 9 ≠ 0 ∧
      bitsOf (0x06012E10 : BitVec 32).toNat 31 28 = 0 ∧ bitsOf (0x06012E10 : BitVec 32).toNat 8 4 < s.entryRowsOf (0 / 2) ∧
      s.resolve (0 / 2) (s.crossing - bitsOf (0x06012E10 : BitVec 32).toNat 24 9) = .present 0 188 :=
  ⟨recording, by decide +kernel⟩

theorem witness_RequestsReachBanks_bad : ∃ s : State,
      s.clocked 0 = true ∧ bitOf (0x02000010 : BitVec 32).toNat 25 = true ∧ bitsOf (0x02000010 : BitVec 32).toNat 24 9 = 0 ∧ bitsOf (0x06000010 : BitVec 32).toNat 27 26 ≠ 0 ∧ s.queued (· == .district 0 storeChannel) < 8 :=
  ⟨running0, by decide +kernel⟩

theorem witness_RequestsReachBanks_off : ∃ s : State,
      s.clocked 0 = true ∧ bitsOf (0x02012E10 : BitVec 32).toNat 27 26 = 0 ∧ bitOf (0x02012E10 : BitVec 32).toNat 25 = true ∧ s.rget .RING_STATE (0 / 2) < 2 :=
  ⟨running0, by decide +kernel⟩

/-! ResponsesInOrder. -/

theorem witness_ResponsesInOrder_fixed : ∃ s : State,
      (mget s.fixed (0 * 128 + 5) FixedBus.idle).wait = (0, some (statusAnswer 4)) :: [] ∧ s.clocked 0 = true ∧ (mget s.fixed (0 * 128 + 6) FixedBus.idle).wait = (0, none) :: [] ∧
      (mget s.fixed (2 * 128 + 5) FixedBus.idle).wait = (0, some (statusAnswer 4)) :: [] ∧ s.clocked 2 = false :=
  ⟨{ running0 with fixed := [(5, { FixedBus.idle with issued := 1, wait := [(0, some (statusAnswer 4))], bus := none }), (6, { FixedBus.idle with issued := 1, wait := [(0, none)], bus := none }), (261, { FixedBus.idle with issued := 1, wait := [(0, some (statusAnswer 4))], bus := none })] }, by decide +kernel⟩

theorem witness_ResponsesInOrder_ordered : ∃ s : State,
      s.clocked 0 = true ∧ mfind (mget s.lanes (0 * 128 + 5) Lane.idle).done (mget s.lanes (0 * 128 + 5) Lane.idle).delivered = some (statusAnswer 0) ∧
      mfind (mget s.lanes (0 * 128 + 6) Lane.idle).done (mget s.lanes (0 * 128 + 6) Lane.idle).delivered = none :=
  ⟨{ running0 with lanes := [(5, { Lane.idle with issued := 2, delivered := 1, done := [(1, statusAnswer 0)], bus := none }), (6, { Lane.idle with issued := 2, delivered := 0, done := [(1, statusAnswer 0)], bus := none })] }, by decide +kernel⟩

theorem witness_ResponsesInOrder_plaza : ∃ s : State,
      mfind (mget s.lanes (laneKey 9 (.plaza .debug)) Lane.idle).done (mget s.lanes (laneKey 9 (.plaza .debug)) Lane.idle).delivered = some (statusAnswer 0) :=
  ⟨{ run with lanes := [(laneKey 9 (.plaza .debug), { Lane.idle with issued := 1, delivered := 0, done := [(0, statusAnswer 0)], bus := none })] }, by decide +kernel⟩

/-! BankAccess. -/

theorem witness_BankAccess_write : ∃ s : State,
      s.rget .POWER_STATE 5 = 0 ∧ s.rget .INV_STATE 5 = 0 ∧ (s.bank 5).stores = [] ∧ (s.bank 5).waiting = [fullWrite] ∧
      fullWrite.req.cls ≠ 0 ∧ fullWrite.losses < agedLosses ∧ s.awaitsHandover 5 fullWrite.src = false ∧ s.rget .THROTTLE_F ≤ 0 % 256 ∧
      s.mayAccess 5 fullWrite.src fullWrite.req.write = true ∧ fullWrite.req.write = true ∧ fullWrite.req.enables = 0xFFFF ∧ s.mem.flip = none :=
  ⟨asking, by decide +kernel⟩

theorem witness_BankAccess_read : ∃ s : State,
      s.rget .POWER_STATE 5 = 0 ∧ s.rget .INV_STATE 5 = 0 ∧ (s.bank 5).stores = [] ∧ (s.bank 5).waiting.map (fun x => (x.src, x.req.row, x.req.write, x.losses)) = [(fullWrite.src, 9, false, 0)] ∧
      s.awaitsHandover 5 fullWrite.src = false ∧ s.rget .THROTTLE_F ≤ 0 % 256 ∧ s.mayAccess 5 fullWrite.src false = true ∧ (s.bank 5).prior = [] ∧
      (s.cell 5 18).validDisagrees = false ∧ (s.cell 5 19).validDisagrees = false ∧ (s.cell 5 18).read = .clean 5 ∧ (s.cell 5 19).read = .clean 6 :=
  ⟨((asking.setBank 5 { BankPort.idle with waiting := [{ fullWrite with req := { fullWrite.req with write := false } }] }).setCell 5 18 (StoredWord.fresh 5)).setCell 5 19 (StoredWord.fresh 6), by decide +kernel⟩

theorem witness_BankAccess_denied : ∃ s : State,
      s.rget .POWER_STATE 5 = 0 ∧ s.rget .INV_STATE 5 = 0 ∧ (s.bank 5).stores = [] ∧ (s.bank 5).waiting = [fullWrite] ∧
      fullWrite.req.cls ≠ 0 ∧ fullWrite.losses < agedLosses ∧ s.awaitsHandover 5 fullWrite.src = false ∧ s.rget .THROTTLE_F ≤ 255 % 256 ∧
      s.mayAccess 5 fullWrite.src fullWrite.req.write = false :=
  ⟨asking.rset .OWNER_ACTIVE 5 1, by decide +kernel⟩

/-! OwnersAndPower. -/

theorem witness_OwnersAndPower_owner : ∃ s : State,
      accepts .coreM .OWNER 4095 0 s = true ∧ s.ownerRefusal 4095 0 = none ∧ accepts .coreM .OWNER 5 0x84 s = true ∧ s.ownerRefusal 5 0x84 = some 4 :=
  ⟨al, by decide +kernel⟩

theorem witness_OwnersAndPower_drain : ∃ s : State,
      s.rget .HANDOVER 5 = 1 :=
  ⟨(al.rset .OWNER 5 7).rset .HANDOVER 5 1, by decide +kernel⟩

theorem witness_OwnersAndPower_sleep : ∃ s : State,
      accepts .coreM .POWER 5 1 s = true ∧ s.mayNotSleep 5 = false ∧ s.rget .POWER_STATE 5 = 0 ∧ s.sliceRuns 5 = false :=
  ⟨al, by decide +kernel⟩

theorem witness_OwnersAndPower_maynot : ∃ s : State,
      accepts .coreM .POWER 47 1 s = true ∧ s.mayNotSleep 47 = true :=
  ⟨recording, by decide +kernel⟩

theorem witness_OwnersAndPower_wake : ∃ s : State,
      accepts .coreM .POWER 5 0 s = true ∧ s.rget .POWER_STATE 5 = 1 :=
  ⟨(al.rset .POWER 5 1).rset .POWER_STATE 5 1, by decide +kernel⟩

theorem witness_OwnersAndPower_woken : ∃ s : State,
      s.rget .POWER_STATE 5 = 2 :=
  ⟨al.rset .POWER_STATE 5 2, by decide +kernel⟩

theorem witness_OwnersAndPower_held : ∃ s : State,
      s.rget .POWER_STATE 5 = 0 ∧ (s.bank 5).sleepHeld = true ∧ (s.bank 5).stalled = 0 ∧ s.sliceRuns 5 = false :=
  ⟨al.setBank 5 { BankPort.idle with sleepHeld := true }, by decide +kernel⟩

/-! RingsAreSet. -/

theorem witness_RingsAreSet_off : ∃ s : State,
      accepts .coreM .RING_ENABLE 0 0 s = true :=
  ⟨{ recording with dev := .idle }, by decide +kernel⟩

theorem witness_RingsAreSet_refused : ∃ s : State,
      accepts .coreM .RING_ENABLE 63 1 s = true ∧ s.ringRefusal 63 (s.rget .RING_FIRST 63) (s.rget .RING_BANKS 63) = some 4 :=
  ⟨al.rset .RING_FIRST 63 1, by decide +kernel⟩

theorem witness_RingsAreSet_on : ∃ s : State,
      accepts .coreM .RING_ENABLE 63 1 s = true ∧ s.ringRefusal 63 (s.rget .RING_FIRST 63) (s.rget .RING_BANKS 63) = none :=
  ⟨al, by decide +kernel⟩

theorem witness_RingsAreSet_geometry : ∃ s : State,
      accepts .coreM (ringGeometryEl .first) 63 5 s = true ∧ accepts .coreM (ringGeometryEl .banks) 63 20 s = true ∧ s.rflag .RING_ENABLE 63 = false :=
  ⟨al, by decide +kernel⟩

/-! VaultGuards. -/

theorem witness_VaultGuards_enable : ∃ s : State,
      accepts .coreM .VAULT_ENABLE 0 1 s = true ∧ s.rflag .VAULT_ENABLE = false ∧
      s.keeper.failed = false ∧ s.worn (s.sectorFor (valuesFirst + rwkIndex .VAULT_ENABLE 0)) = false ∧ s.rget .VAULT_STATE ≠ 3 ∧
      vaultBanks.any (fun n => s.isRingBank n || s.isC0 n || s.rget .POWER_STATE n == 1) = false :=
  ⟨idle, by decide +kernel⟩

theorem witness_VaultGuards_taken : ∃ s : State,
      accepts .coreM .VAULT_ENABLE 0 1 s = true ∧ s.rflag .VAULT_ENABLE = false ∧ s.keeper.failed = false ∧ s.worn (s.sectorFor (valuesFirst + rwkIndex .VAULT_ENABLE 0)) = false ∧
      vaultBanks.any (fun n => s.isRingBank n || s.isC0 n || s.rget .POWER_STATE n == 1) = true :=
  ⟨idle.rset .POWER_STATE 63 1, by decide +kernel⟩

theorem witness_VaultGuards_disable : ∃ s : State,
      accepts .coreM .VAULT_ENABLE 0 0 s = true ∧ s.rflag .VAULT_ENABLE = true ∧ s.keeper.failed = false ∧ s.worn (s.sectorFor (valuesFirst + rwkIndex .VAULT_ENABLE 0)) = false ∧
      accepts .coreM .VAULT_WIPE 0 0 s = true :=
  ⟨(idle.rset .VAULT_ENABLE 0 1).rset .VAULT_STATE 0 1, by decide +kernel⟩

theorem witness_VaultGuards_lock : ∃ s : State,
      accepts .coreM .VAULT_LOCK 0 1 s = true ∧ accepts .coreM .VAULT_UNLOCK 0 1 s = true ∧
      accepts .i3c .VAULT_UNLOCK 0 1 s = true :=
  ⟨al.rset .RIGHTS_I3C 0 3, by decide +kernel⟩

theorem witness_VaultGuards_lockOpen : ∃ s : State,
      accepts .coreM .VAULT_LOCK 0 1 s = true ∧ s.rget .VAULT_STATE = 2 :=
  ⟨(al.rset .VAULT_ENABLE 0 1).rset .VAULT_STATE 0 2, by decide +kernel⟩

theorem witness_VaultGuards_unlock : ∃ s : State,
      accepts .coreM .VAULT_UNLOCK 0 1 s = true ∧ s.rget .VAULT_STATE = 1 ∧ s.rget .TAMPER_STATE = 0 ∧ s.bistRunning = false :=
  ⟨(al.rset .VAULT_ENABLE 0 1).rset .VAULT_STATE 0 1, by decide +kernel⟩

theorem witness_VaultGuards_tamper : ∃ s : State,
      accepts .coreM .VAULT_UNLOCK 0 1 s = true ∧ s.rget .TAMPER_STATE ≠ 0 ∧
      accepts .coreM .VAULT_WIPE 0 1 s = true ∧ s.rflag .VAULT_ENABLE = true :=
  ⟨((al.rset .VAULT_ENABLE 0 1).rset .VAULT_STATE 0 1).rset .TAMPER_STATE 0 1, by decide +kernel⟩

theorem witness_VaultGuards_wiped : ∃ s : State,
      s.rget .VAULT_STATE = 3 ∧ s.rflag .VAULT_ENABLE = true :=
  ⟨{ ((al.rset .VAULT_ENABLE 0 1).rset .VAULT_STATE 0 3) with cells := [(cellKey 0 48 7, StoredWord.fresh 1)], mem := { MemoryEngines.reset with wipeCause := 4 } }, by decide +kernel⟩

theorem witness_VaultGuards_disabled : ∃ s : State,
      s.rget .VAULT_STATE = 3 ∧ s.rflag .VAULT_ENABLE = false :=
  ⟨{ (al.rset .VAULT_STATE 0 3) with cells := [(cellKey 0 48 7, StoredWord.fresh 1)], mem := { MemoryEngines.reset with wipeCause := 5 } }, by decide +kernel⟩

/-! MemoryIntegrityWrites. -/

theorem witness_MemoryIntegrityWrites_start : ∃ s : State,
      accepts .coreM .INVALIDATE 0 1 s = true ∧ s.mayNotInvalidate (s.rget .MI_BANK) = false :=
  ⟨al, by decide +kernel⟩

theorem witness_MemoryIntegrityWrites_refused : ∃ s : State,
      accepts .coreM .INVALIDATE 0 1 s = true ∧ s.mayNotInvalidate (s.rget .MI_BANK) = true :=
  ⟨recording.rset .MI_BANK 0 47, by decide +kernel⟩

theorem witness_MemoryIntegrityWrites_done : ∃ s : State,
      s.rget .INV_STATE 4095 = 1 ∧ mfind s.bist.back 4095 = none :=
  ⟨{ (al.rset .INV_STATE 4095 1) with cells := [(cellKey 63 63 32767, StoredWord.fresh 1)] }, by decide +kernel⟩

theorem witness_MemoryIntegrityWrites_doneZeroed : ∃ s : State,
      s.rget .INV_STATE 4095 = 1 ∧ s.cell 4095 7 = StoredWord.fresh 0 :=
  ⟨{ (al.rset .INV_STATE 4095 1) with mem := { MemoryEngines.reset with zeroed := [66 * 63 + 63] } }, by decide +kernel⟩

theorem witness_MemoryIntegrityWrites_doneTested : ∃ s : State,
      s.rget .INV_STATE 4095 = 1 ∧ mfind s.bist.back 4095 = some 0x81 :=
  ⟨{ (al.rset .INV_STATE 4095 1) with bist := { SelfTest.reset with back := [(4095, 0x81)] } }, by decide +kernel⟩

theorem witness_MemoryIntegrityWrites_keeperLost : ∃ s : State,
      accepts .coreM .RT_RETIRE 0 5 s = true ∧ accepts .coreM .RT_UNRETIRE 0 5 s = true ∧ s.keeper.failed = true :=
  ⟨{ al with keeper := { al.keeper with failed := true } }, by decide +kernel⟩

theorem witness_MemoryIntegrityWrites_leak : ∃ s : State,
      s.rget .LB_LEAK 5 ≠ 0 ∧ accepts .coreM .LB_LEAK 0 255 s = true ∧ accepts .coreM .SCRUB_ENABLE 0 0 s = true :=
  ⟨al.rset .LB_LEVEL 5 3, by decide +kernel⟩

theorem witness_MemoryIntegrityWrites_retire : ∃ s : State,
      accepts .coreM .RT_RETIRE 0 262143 s = true ∧ s.keeper.failed = false ∧ s.tableDue.any (fun p => p.2 == 262143) = false ∧ s.tableDue.length < retirementSlots ∧
      (List.range retirementSlots).find? (fun i => (mfind s.tableDue i).isNone && s.slotUsable i) = some 0 :=
  ⟨al, by decide +kernel⟩

theorem witness_MemoryIntegrityWrites_unretire : ∃ s : State,
      accepts .coreM .RT_UNRETIRE 0 262143 s = true ∧ s.keeper.failed = false ∧ s.tableDue.find? (fun p => p.2 == 262143) = some (0, 262143) ∧
      s.slotUsable 0 = true :=
  ⟨{ al with mem := { MemoryEngines.reset with retired := [(0, 262143)] } }, by decide +kernel⟩

theorem witness_MemoryIntegrityWrites_flip : ∃ s : State,
      accepts .coreM .FLIP_ARM 0 1 s = true ∧ s.isVaultBank (s.rget .FLIP_BANK) = false ∧ s.rget .FLIP_DATA ≠ 0 ∧ s.rget .FLIP_STATE ≠ 1 :=
  ⟨idle.rset .FLIP_DATA 0 1, by decide +kernel⟩

theorem witness_MemoryIntegrityWrites_flipArmed : ∃ s : State,
      accepts .coreM .FLIP_ARM 0 1 s = true ∧ s.isVaultBank (s.rget .FLIP_BANK) = false ∧ s.rget .FLIP_CHECK ≠ 0 ∧ s.rget .FLIP_STATE = 1 :=
  ⟨(idle.rset .FLIP_CHECK 0 128).rset .FLIP_STATE 0 1, by decide +kernel⟩

/-! ScrubAndSpares. -/

theorem witness_ScrubAndSpares_scrub : ∃ s : State,
      s.scrubbing 63 = true ∧ s.servable 63 = none ∧ s.rget .INV_STATE (64 * 63 + mget s.mem.places 63 0 % 64) ≠ 1 ∧ mget s.mem.places 63 0 + 1 ≠ passRows ∧ (s.bank (64 * 63 + mget s.mem.places 63 0 % 64)).waiting = [] ∧
      s.isAwake (64 * 63 + mget s.mem.places 63 0 % 64) = true ∧ s.sliceTaken (64 * 63 + mget s.mem.places 63 0 % 64) (mget s.mem.places 63 0 / 64) = false ∧
      (s.cell 4094 32766).validDisagrees = false ∧ (s.cell 4094 32766).read = .invalid ∧ (s.cell 4094 32767).validDisagrees = false ∧ (s.cell 4094 32767).read = .invalid ∧ 2 * (mget s.mem.places 63 0 / 64) = 32766 ∧ 64 * 63 + mget s.mem.places 63 0 % 64 = 4094 :=
  ⟨{ al with mem := { MemoryEngines.reset with places := [(63, 1048574)] } }, by decide +kernel⟩

theorem witness_ScrubAndSpares_clean : ∃ s : State,
      s.scrubbing 0 = true ∧ s.servable 0 = none ∧ s.rget .INV_STATE (64 * 0 + mget s.mem.places 0 0 % 64) ≠ 1 ∧ s.isAwake 0 = true ∧ s.sliceTaken 0 0 = false ∧ (s.bank 0).waiting = [] ∧
      (s.cell 0 0).read = .clean 5 ∧ (s.cell 0 1).read = .clean 6 ∧ (s.cell 0 0).validDisagrees = false ∧ (s.cell 0 1).validDisagrees = false :=
  ⟨(al.setCell 0 0 (StoredWord.fresh 5)).setCell 0 1 (StoredWord.fresh 6), by decide +kernel⟩

theorem witness_ScrubAndSpares_asleep : ∃ s : State,
      s.scrubbing 0 = true ∧ s.servable 0 = none ∧ s.rget .INV_STATE 0 ≠ 1 ∧ s.isAwake 0 = false ∧ (s.bank 0).waiting = [] :=
  ⟨al.rset .POWER_STATE 0 1, by decide +kernel⟩

theorem witness_ScrubAndSpares_repair : ∃ s : State,
      s.scrubbing 0 = true ∧ s.servable 0 = some (5 * 32768 + 7, false) ∧ (s.bank 5).waiting = [] ∧
      (match (s.cell 5 7).read with | .corrected _ d => d == 5 | _ => false) = true :=
  ⟨(({ al with mem := { MemoryEngines.reset with repairs := [(0, [(5 * 32768 + 7, false)])] } }).setCell 5 7 { StoredWord.fresh 5 with data := 4 }), by decide +kernel⟩

theorem witness_ScrubAndSpares_substitute : ∃ s : State,
      accepts .coreM .SUBSTITUTE 63 63 s = true ∧ s.freeSpare 63 = some 0 ∧ s.moveRefused (64 * 63 + 63) = false ∧ s.underTest (64 * 63 + 63) = false :=
  ⟨al, by decide +kernel⟩

theorem witness_ScrubAndSpares_refused : ∃ s : State,
      accepts .coreM .SUBSTITUTE 0 5 s = true ∧ s.moveRefused (64 * 0 + 5) = true :=
  ⟨al.rset .POWER_STATE 5 1, by decide +kernel⟩

theorem witness_ScrubAndSpares_back : ∃ s : State,
      accepts .coreM .UNSUBSTITUTE 0 1 s = true ∧ s.rget .SPARE1_FOR 0 ≠ 0xFF ∧ s.moveRefused (64 * 0 + s.rget .SPARE1_FOR 0) = false :=
  ⟨al.rset .SPARE1_FOR 0 5, by decide +kernel⟩

theorem witness_ScrubAndSpares_moved : ∃ s : State,
      mfind s.mem.moves 0 = some { bank := 5, spare := 1, back := false } ∧ s.bist.phase = none :=
  ⟨{ (al.rset .SUB_STATE 0 1) with mem := { MemoryEngines.reset with moves := [(0, { bank := 5, spare := 1, back := false })] } }, by decide +kernel⟩

/-! SentinelAndEmission. -/

theorem witness_SentinelAndEmission_good : ∃ s : State,
      mfind s.dec.taps 0 = some { path := 0, contexts := 255, phase := 3, hold := 2, outputs := 3, dlMask := 0, regs := 0, trunks := 0 } ∧
      mfind s.dec.paths 0 = some path0 ∧ s.counting = true ∧ s.clocked (0 / 2) = true ∧ bitOf 255 (s.dist (0 / 2)).ctx = true ∧
      mfind s.dec.judged 0 ≠ some s.crossing ∧ s.pathMarked path0 (s.crossing + 2) = false ∧ (offer 1 false).busy = false ∧ breachOf (offer 1 false) (decidedTag (s.crossing + 2) path0.ldec) = none :=
  ⟨deciding, by decide +kernel⟩

theorem witness_SentinelAndEmission_breach : ∃ s : State,
      mfind s.dec.paths 0 = some path0 ∧ s.counting = true ∧ s.clocked (0 / 2) = true ∧ s.pathMarked path0 (s.crossing + 2) = false ∧ s.dev = .running ∧
      breachOf (offer 3 false) (decidedTag (s.crossing + 2) path0.ldec) = some 3 ∧ (offer 3 false).busy = false ∧ mfind s.dec.judged 0 ≠ some s.crossing :=
  ⟨deciding, by decide +kernel⟩

theorem witness_SentinelAndEmission_judged : ∃ s : State,
      mfind s.dec.paths 0 = some path0 ∧ s.counting = true ∧ s.clocked (0 / 2) = true ∧ s.pathMarked path0 (s.crossing + 2) = false ∧ (offer 3 false).busy = false ∧
      bitOf 255 (s.dist (0 / 2)).ctx = true ∧ mfind s.dec.judged 0 = some s.crossing :=
  ⟨{ deciding with dec := { deciding.dec with judged := [(0, 14339)] } }, by decide +kernel⟩

theorem witness_SentinelAndEmission_emit : ∃ s : State,
      s.counting = true ∧ s.emittedAll s.crossing = false ∧ s.dev = .running ∧ s.tb.held = none ∧ s.pathMarked path0 s.crossing = false ∧
      s.dec.taps.length = 1 ∧ s.dec.suspects = [] ∧ mfind s.dec.paths 0 = some path0 ∧ mfind (s.line 0) s.crossing = some { kind := .accept, atype := 3, user := 7 } :=
  ⟨{ deciding with dec := { deciding.dec with lines := [(0, [(14339, { kind := .accept, atype := 3, user := 7 })])] } }, by decide +kernel⟩

/-! DecisionSettings. -/

theorem witness_DecisionSettings_ack : ∃ s : State,
      accepts .coreM .BREACH_ACK 0 1 s = true ∧ s.dec.breach ≠ none :=
  ⟨{ run with dec := { DecisionPath.reset with breach := some 5 } }, by decide +kernel⟩

theorem witness_DecisionSettings_noBreach : ∃ s : State,
      accepts .coreM .BREACH_ACK 0 1 s = true ∧ s.dec.breach = none ∧ accepts .coreM .BUSY_FORCE 0 1 s = true ∧ accepts .coreM .POLICY 63 1 s = true :=
  ⟨run, by decide +kernel⟩

theorem witness_DecisionSettings_tapOut : ∃ s : State,
      accepts .coreM .TAP_OUT 0 3 s = true ∧ (mfind s.dec.taps 0).map (fun x => (Nat.lor 3 x.outputs, x.outputs)) = some (3, 3) ∧
      accepts .coreM .TAP_OUT 0 4 s = true ∧ (mfind s.dec.taps 0).map (fun x => (Nat.lor 4 x.outputs, x.outputs)) = some (7, 3) :=
  ⟨{ deciding with dev := .idle }, by decide +kernel⟩

theorem witness_DecisionSettings_mode : ∃ s : State,
      accepts .coreM .SS_MODE 63 3 s = true ∧ s.rget .SS_TAP 63 = 0xFFFF :=
  ⟨idle, by decide +kernel⟩

theorem witness_DecisionSettings_bound : ∃ s : State,
      accepts .coreM .SS_MODE 63 3 s = true ∧ s.rget .SS_TAP 63 ≠ 0xFFFF ∧ accepts .coreM .SS_MODE 63 2 s = true :=
  ⟨idle.rset .SS_TAP 63 5, by decide +kernel⟩

theorem witness_DecisionSettings_fio : ∃ s : State,
      accepts .coreM .SS_FIO_CFG 0 256 s = true ∧ s.fioCfgOk 256 = true ∧ accepts .coreM .SS_FIO_CFG 0 0 s = true ∧ s.fioCfgOk 0 = false :=
  ⟨idle, by decide +kernel⟩

/-! AcceptsFromPairs. -/

theorem witness_AcceptsFromPairs_unlocked : ∃ s : State,
      s.rget .SS_MODE 63 = 3 ∧ s.counting = true ∧ 63 < 64 ∧ (s.lane 63).locked = false ∧ laneCrcOk (s.rget .SS_MULT 63) (sideCrc 48 1 * 65536 + 1) = true ∧
      laneCrcOk (s.rget .SS_MULT 63) (sideCrc 48 1 * 65536 + 65536 + 1) = false :=
  ⟨(run.rset .SS_MODE 63 3).setLane 63 { LaneRx.idle with good := 15 }, by decide +kernel⟩

theorem witness_AcceptsFromPairs_offered : ∃ s : State,
      s.rget .SS_MODE 63 = 3 ∧ s.counting = true ∧ (s.lane 63).locked = true ∧ s.rget .ACC_DELAY 63 ≤ s.crossing ∧ s.rflag .EB_ENABLE = true ∧ s.dev = .running ∧
      laneCrcOk (s.rget .SS_MULT 63) (sideCrc (s.rget .SS_MULT 63) 5 * 65536 + 5) = true ∧ bitsOf (sideCrc (s.rget .SS_MULT 63) 5 * 65536 + 5) 3 2 = 1 :=
  ⟨((run.rset .SS_MODE 63 3).rset .EB_ENABLE 0 1).setLane 63 { LaneRx.idle with locked := true }, by decide +kernel⟩

theorem witness_AcceptsFromPairs_pinOffered : ∃ s : State,
      s.rget .SS_MODE 0 = 4 ∧ s.counting = true ∧ s.rget .ACC_DELAY 0 ≤ s.crossing ∧ s.rflag .EB_ENABLE = true ∧ s.dev = .running :=
  ⟨(run.rset .SS_MODE 0 4).rset .EB_ENABLE 0 1, by decide +kernel⟩

theorem witness_AcceptsFromPairs_locked : ∃ s : State,
      s.rget .SS_MODE 63 = 3 ∧ s.counting = true ∧ (s.lane 63).locked = true ∧ s.rget .ACC_DELAY 63 ≤ s.crossing ∧
      laneCrcOk (s.rget .SS_MULT 63) (sideCrc (s.rget .SS_MULT 63) 5 * 65536 + 5) = true ∧ bitsOf (sideCrc (s.rget .SS_MULT 63) 5 * 65536 + 5) 3 2 = 1 ∧ s.rflag .EB_ENABLE = false :=
  ⟨(run.rset .SS_MODE 63 3).setLane 63 { LaneRx.idle with locked := true }, by decide +kernel⟩

theorem witness_AcceptsFromPairs_pin : ∃ s : State,
      s.rget .SS_MODE 0 = 4 ∧ s.counting = true ∧ s.rget .ACC_DELAY 0 ≤ s.crossing ∧ s.rflag .EB_ENABLE = false :=
  ⟨run.rset .SS_MODE 0 4, by decide +kernel⟩

theorem witness_AcceptsFromPairs_refill : ∃ s : State,
      s.fget .ACC_REFILL ≤ s.eb.refill :=
  ⟨{ run with eb := { EventBuilder.reset with tokens := 0, refill := run.fget .ACC_REFILL } }, by decide +kernel⟩

theorem witness_AcceptsFromPairs_early : ∃ s : State,
      s.eb.refill < s.fget .ACC_REFILL :=
  ⟨{ run.rset .ACC_REFILL 0 5 with eb := { EventBuilder.reset with tokens := 0, refill := 0 }, force := [(regKey .ACC_REFILL 0, 5)] }, by decide +kernel⟩

/-! EventBuilding. -/

theorem witness_EventBuilding_start : ∃ s : State,
      s.eb.tasks.find? (fun t => t.stage == 0 && t.group == 1) = some (task 0) ∧ (task 0).ports ≠ [] ∧ s.unitTask (task 0).quarter = some (task 0) ∧
      s.counting = true ∧ s.windowIncomplete (task 0) = false ∧ s.bufferUsed (task 0).quarter = 0 :=
  ⟨{ run with eb := { EventBuilder.reset with tasks := [task 0] } }, by decide +kernel⟩

theorem witness_EventBuilding_done : ∃ s : State,
      s.eb.tasks.find? (fun t => t.stage == 1 && t.group == 1) = some (task 1) ∧ (banksReady (s.spanBanks (task 1)) s).1 = true :=
  ⟨{ run with eb := { EventBuilder.reset with tasks := [task 1] } }, by decide +kernel⟩

theorem witness_EventBuilding_noqueue : ∃ s : State,
      s.eb.tasks = [task 2] ∧ (task 2).stage = 2 ∧ (task 2).group = 1 ∧ s.qEnabled (task 2).queue = false :=
  ⟨{ run with eb := { EventBuilder.reset with tasks := [task 2] } }, by decide +kernel⟩

theorem witness_EventBuilding_written : ∃ s : State,
      s.eb.tasks = [task 2] ∧ s.qEnabled (task 2).queue = true ∧ s.qPkind (task 2).queue = 0 ∧ s.rget .Q_PRODUCER (task 2).queue = 0 ∧
      s.policyFor ((task 2).cut (s.queueRows 9)) = some (task 2) ∧
      (rowsReady (s.qClass 9) (s.tailRows 9 (pairRows ((task 2).header (task 2).mt ++ (task 2).words)).length (s.rget .Q_TAIL 9)).1 s).1 = true :=
  ⟨{ queueing 3 with eb := { EventBuilder.reset with tasks := [task 2] } }, by decide +kernel⟩

theorem witness_EventBuilding_group : ∃ s : State,
      accepts .coreM .EB_GROUP 1023 5 s = true ∧ (s.unitsSet .EB_GROUP).any (fun o => s.rget .EB_GROUP o == 5 && o / 16 != 1023 / 16) = false ∧
      accepts .coreM (windowSideEl .pre) 254 200 s = true ∧ 200 + s.rget .G_POST 254 ≤ 255 ∧ accepts .coreM .EVENT_PRESET 0 7 s = true :=
  ⟨idle, by decide +kernel⟩

theorem witness_EventBuilding_elsewhere : ∃ s : State,
      accepts .coreM .EB_GROUP 16 5 s = true ∧ (s.unitsSet .EB_GROUP).any (fun o => s.rget .EB_GROUP o == 5 && o / 16 != 16 / 16) = true ∧
      accepts .coreM (windowSideEl .post) 3 56 s = true ∧ ¬ 56 + s.rget .G_PRE 3 ≤ 255 :=
  ⟨(idle.rset .EB_GROUP 0 5).rset .G_PRE 3 200, by decide +kernel⟩

/-! QueuesServe. -/

theorem witness_QueuesServe_enable : ∃ s : State,
      accepts .coreM .Q_CTRL 0 (322 - 322 % 2 + 1) s = true ∧ bitsOf (322 - 322 % 2 + 1) 31 10 = 0 ∧ s.qEnabled s.qwin = false ∧
      s.ctrlRefused s.qwin (322 - 322 % 2 + 1) = false ∧ s.regionBusy s.qwin = false :=
  ⟨((idle.rset .QWIN_INDEX 0 9).rset .Q_BASE 9 163840).rset .OWNER_ACTIVE 10 0x80, by decide +kernel⟩

theorem witness_QueuesServe_busy : ∃ s : State,
      accepts .coreM .Q_CTRL 0 (322 - 322 % 2 + 1) s = true ∧ s.qEnabled s.qwin = false ∧ s.ctrlRefused s.qwin (322 - 322 % 2 + 1) = false ∧ s.regionBusy s.qwin = true :=
  ⟨(idle.rset .QWIN_INDEX 0 9).rset .Q_BASE 9 163840, by decide +kernel⟩

theorem witness_QueuesServe_again : ∃ s : State,
      accepts .coreM .Q_CTRL 0 (322 - 322 % 2 + 1) s = true ∧ bitsOf (322 - 322 % 2 + 1) 31 10 = 0 ∧ s.qEnabled s.qwin = true ∧
      s.ctrlRefused s.qwin (322 - 322 % 2 + 1) = false ∧ (322 - 322 % 2 + 1) / 2 = s.rget .Q_CTRL s.qwin / 2 ∧ s.regionBusy s.qwin = false :=
  ⟨({ queueing 323 with dev := .idle }).rset .QWIN_INDEX 0 9 |>.rset .OWNER_ACTIVE 10 0x80, by decide +kernel⟩

theorem witness_QueuesServe_againBusy : ∃ s : State,
      accepts .coreM .Q_CTRL 0 (322 - 322 % 2 + 1) s = true ∧ bitsOf (322 - 322 % 2 + 1) 31 10 = 0 ∧ s.qEnabled s.qwin = true ∧
      s.ctrlRefused s.qwin (322 - 322 % 2 + 1) = false ∧ (322 - 322 % 2 + 1) / 2 = s.rget .Q_CTRL s.qwin / 2 ∧ s.regionBusy s.qwin = true :=
  ⟨({ queueing 323 with dev := .idle }).rset .QWIN_INDEX 0 9, by decide +kernel⟩

theorem witness_QueuesServe_disable : ∃ s : State,
      accepts .coreM .Q_CTRL 0 (322 - 322 % 2) s = true ∧ s.qEnabled s.qwin = true ∧ (322 - 322 % 2) / 2 = s.rget .Q_CTRL s.qwin / 2 ∧
      (s.queue s.qwin).busy = false ∧ bitsOf (322 - 322 % 2) 31 10 = 0 ∧ bitsOf (320 - 320 % 2) 31 10 = 0 ∧ accepts .coreM .Q_CTRL 0 (320 - 320 % 2) s = true ∧ (320 - 320 % 2) / 2 ≠ s.rget .Q_CTRL s.qwin / 2 ∧
      accepts .coreM .Q_FLUSH 0 1 s = true :=
  ⟨({ queueing 323 with dev := .idle }).rset .QWIN_INDEX 0 9, by decide +kernel⟩

theorem witness_QueuesServe_disableBusy : ∃ s : State,
      accepts .coreM .Q_CTRL 0 (322 - 322 % 2) s = true ∧ bitsOf (322 - 322 % 2) 31 10 = 0 ∧ s.qEnabled s.qwin = true ∧ (s.queue s.qwin).busy = true :=
  ⟨(({ queueing 323 with dev := .idle }).rset .QWIN_INDEX 0 9).setQueue 9 { Queue.empty with frags := [[163840]] }, by decide +kernel⟩

theorem witness_QueuesServe_flush : ∃ s : State,
      accepts .coreM .Q_FLUSH 0 1 s = true ∧ s.qEnabled s.qwin = false :=
  ⟨(({ queueing 322 with dev := .idle }).rset .QWIN_INDEX 0 9).setQueue 9 { Queue.empty with frags := [[163840]] }, by decide +kernel⟩

theorem witness_QueuesServe_push : ∃ s : State,
      s.clocked 0 = true ∧ s.produces 9 1 0 = true ∧ (s.queue 9).dropping = false ∧ (s.queue 9).part.length < s.queueRows 9 ∧ s.queueFree 9 ≠ 0 ∧
      (rowsReady (s.qClass 9) (s.tailRows 9 1 (s.rget .Q_TAIL 9)).1 s).1 = true :=
  ⟨let a := ((queueing (1 + 2 + 64)).rset .Q_PRODUCER 9 0); (a.setDist 0 { District.held with released := true }).setPlane 0 { Plane.empty with state := 2 }, by decide +kernel⟩

theorem witness_QueuesServe_pop : ∃ s : State,
      s.clocked 0 = true ∧ s.consumes 9 1 0 = true ∧ (s.queue 9).frags = [163840] :: [] ∧ (rowsReady (s.qClass 9) [163840] s).1 = true ∧
      (deliverRows [163840] (rowsReady (s.qClass 9) [163840] s).2).1.2 = false :=
  ⟨oneRow, by decide +kernel⟩

theorem witness_QueuesServe_empty : ∃ s : State,
      s.clocked 0 = true ∧ s.consumes 9 1 0 = true ∧ (s.queue 9).frags = [] :=
  ⟨oneRow.setQueue 9 Queue.empty, by decide +kernel⟩

/-! TrunkSettings. -/

theorem witness_TrunkSettings_off : ∃ s : State,
      accepts .coreM .TK_RATE 15 1 s = true ∧ s.rget .TK_MODE 15 = 0 ∧ s.rflag .TK_ENABLE 15 = false ∧ accepts .coreM .TK_MODE 15 1 s = true ∧
      s.rget .TK_RATE 15 = 0 ∧ s.tapNames 15 = false ∧ accepts .coreM .TK_ENABLE 15 1 s = true ∧ (s.trunk 15).stopped = false ∧ s.rget .TK_ENABLE 15 ≠ 1 ∧ s.rget .TK_PRBS 15 = 0 :=
  ⟨idle, by decide +kernel⟩

theorem witness_TrunkSettings_on : ∃ s : State,
      accepts .coreM .TK_ENABLE 15 0 s = true ∧ s.rget .TK_ENABLE 15 ≠ 0 ∧ (s.trunk 15).stopped = false ∧ 15 ≠ 0 ∧ accepts .coreM .TK_PRBS 15 3 s = true ∧
      s.tapNames 15 = false ∧ s.queueNames 15 = false ∧ s.rget .TK_PRBS 15 ≠ 3 ∧ s.rflag .TK_ENABLE 15 = true ∧ accepts .coreM .RETRAIN 15 1 s = true ∧ linkState s 15 = 4 ∧
      accepts .coreM .TK_RESET 15 1 s = true :=
  ⟨(linkUp.rset .TK_ENABLE 15 1).setTrunk 15 { Trunk.idle with lock := true, unacked := [sent1] }, by decide +kernel⟩

theorem witness_TrunkSettings_enabled : ∃ s : State,
      accepts .coreM .TK_RATE 15 1 s = true ∧ s.rget .TK_MODE 15 = 0 ∧ s.rflag .TK_ENABLE 15 = true ∧ accepts .coreM .TK_MODE 15 1 s = true ∧ s.rget .TK_RATE 15 = 0 :=
  ⟨idle.rset .TK_ENABLE 15 1, by decide +kernel⟩

theorem witness_TrunkSettings_named : ∃ s : State,
      accepts .coreM .TK_PRBS 15 3 s = true ∧ s.tapNames 15 = true ∧ accepts .coreM .TK_MODE 15 2 s = true ∧ s.rget .TK_RATE 15 = 0 :=
  ⟨let a := deciding; { a with dev := .idle, dec := { a.dec with taps := a.dec.taps.map (fun p => (p.1, { p.2 with outputs := 4, trunks := 2 ^ 15 })) } }, by decide +kernel⟩

/-! TrunkLinkStates. -/

theorem witness_TrunkLinkStates_pll : ∃ s : State,
      linkState s 15 = 1 :=
  ⟨run.rset .LINK_STATE 15 1, by decide +kernel⟩

theorem witness_TrunkLinkStates_early : ∃ s : State,
      linkState s 15 = 2 ∧ s.rget .TK_MODE 15 = 0 ∧ (s.trunk 15).marksIn < lockMarks ∧ s.receives 15 = false :=
  ⟨(run.rset .LINK_STATE 15 2).setTrunk 15 { Trunk.idle with marksIn := 2 }, by decide +kernel⟩

theorem witness_TrunkLinkStates_training : ∃ s : State,
      linkState s 15 = 2 ∧ s.rget .TK_MODE 15 = 0 ∧ lockMarks ≤ (s.trunk 15).marksIn :=
  ⟨(run.rset .LINK_STATE 15 2).setTrunk 15 { Trunk.idle with marksIn := 3 }, by decide +kernel⟩

theorem witness_TrunkLinkStates_up : ∃ s : State,
      linkState s 15 = 4 ∧ (s.trunk 15).lock = true ∧ s.receives 15 = true ∧ (s.trunk 15).partner = some (bitsOf (0x00050100 : BitVec 256).toNat 31 16) ∧
      (lostRun (s.trunk 15).badWords [0, 15, 16]).2 = false ∧ absentMarks [0, 15, 16] < 2 ∧
      (lostRun (s.trunk 15).badWords [16, 16, 16, 16, 16, 16, 16, 16]).2 = true ∧ 2 ≤ absentMarks (List.replicate 2049 0) ∧
      bitsOf (0x11 : BitVec 256).toNat 7 0 ∉ [0x00, 0x1E, 0x3C, 0x55, 0xA5, 0xF0] :=
  ⟨linkUp, by decide +kernel⟩

/-! TrunkAcknowledgement. -/

theorem witness_TrunkAcknowledgement_link : ∃ s : State,
      s.receives 15 = true ∧ (s.trunk 15).partner = some (bitsOf (0x500030002000100000000 : BitVec 256).toNat 95 80) ∧ bitOf (0x500030002000100000000 : BitVec 256).toNat 8 = false ∧
      s.linked 15 = true ∧ s.rget .TK_MODE 15 = 0 ∧ (s.trunk 15).unacked ≠ [] ∧ (s.trunk 15).timeouts < 15 :=
  ⟨linkUp.setTrunk 15 { linkUp.trunk 15 with unacked := [sent1], timeouts := 14 }, by decide +kernel⟩

theorem witness_TrunkAcknowledgement_send : ∃ s : State,
      s.linked 15 = true ∧ s.rget .TK_MODE 15 = 0 ∧ (s.trunk 15).resend = 0 ∧ (s.trunk 15).unacked.length < unackedLimit ∧
      (chooseAmong (s.trunk 15) ((s.headPackets 15 packetRows).filter (creditAllows (s.trunk 15)))).map (fun p => p.key) = some 9 ∧
      (packetReady 9 packetRows s).1 = true :=
  ⟨((queueing 3).rset .Q_CONSUMER 9 15 |>.rset .LINK_STATE 15 4 |>.setQueue 9 { Queue.empty with frags := [[163840]] }).setTrunk 15 { Trunk.idle with lock := true, partner := some 5, cred := [2, 0, 0] }, by decide +kernel⟩

theorem witness_TrunkAcknowledgement_receive : ∃ s : State,
      s.receives 15 = true ∧ s.linked 15 = true ∧ s.rget .RX_EXPECT 15 < 65536 ∧ rxSeq (0x100 : BitVec 128) = s.rget .RX_EXPECT 15 ∧
      wholePacket { header := 0x100, rows := [7], good := true } = true ∧ rxMg (0x100 : BitVec 128) = false ∧ (s.trunk 15).received = [] ∧
      rxSeq (0x7FFF0100 : BitVec 128) = (s.rget .RX_EXPECT 15 + 32767) % 65536 :=
  ⟨linkUp, by decide +kernel⟩

/-! TrunkC0AndEthernet. -/

theorem witness_TrunkC0AndEthernet_block : ∃ s : State,
      s.receives 15 = true ∧ s.counting = true ∧ bitsOf (3 * 2 ^ 112 + 0x100 : BitVec 256).toNat 31 16 = 0 ∧
      s.c0Crossing (bitsOf (3 * 2 ^ 112 + 0x100 : BitVec 256).toNat 127 112) = some 14339 ∧ s.crossing < 14339 + s.rget .C0_RX_DELAY 15 ∧
      s.c0Crossing (bitsOf (2 * 2 ^ 112 + 0x100 : BitVec 256).toNat 127 112) = some 14338 ∧ 14338 + s.rget .C0_RX_DELAY 15 ≤ s.crossing ∧ bitsOf (2 * 2 ^ 112 + 0x100 : BitVec 256).toNat 31 16 = 0 :=
  ⟨linkUp.rset .C0_RX_DELAY 15 1, by decide +kernel⟩

theorem witness_TrunkC0AndEthernet_present : ∃ s : State,
      s.counting = true ∧ s.rget .C0_RX_DELAY 15 ≤ s.crossing ∧ mfind (s.trunk 15).c0In (s.crossing - s.rget .C0_RX_DELAY 15) = some [(0, 9)] :=
  ⟨(linkUp.rset .C0_RX_DELAY 15 1).setTrunk 15 { linkUp.trunk 15 with c0In := [(14338, [(0, 9)])] }, by decide +kernel⟩

theorem witness_TrunkC0AndEthernet_frame : ∃ s : State,
      linkState s 15 = 4 ∧ s.rget .TK_MODE 15 ≠ 0 ∧ (chooseAmong (s.trunk 15) (s.headPackets 15 (s.frameRows 15))).map (fun p => p.key) = some 9 ∧
      (packetReady 9 (s.frameRows 15) s).1 = true :=
  ⟨(((queueing 3).rset .Q_CONSUMER 9 15).rset .LINK_STATE 15 4 |>.rset .TK_MODE 15 1 |>.setQueue 9 { Queue.empty with frags := [[163840]] }).setTrunk 15 { Trunk.idle with lock := true }, by decide +kernel⟩

theorem witness_TrunkC0AndEthernet_bad : ∃ s : State,
      (s.trunk 15).lock = true ∧ s.rget .TK_MODE 15 ≠ 0 ∧ (Nat.ble 64 ([0, 0] : Bytes).length && leVal (([0, 0] : Bytes).drop (([0, 0] : Bytes).length - 4)) == crc32 (([0, 0] : Bytes).take (([0, 0] : Bytes).length - 4))) = false :=
  ⟨linkUp.rset .TK_MODE 15 1, by decide +kernel⟩

theorem witness_TrunkC0AndEthernet_data : ∃ s : State,
      (s.trunk 15).lock = true ∧ s.rget .TK_MODE 15 ≠ 0 ∧ s.ethKind 15 dataFrame = .data (dataFrame.drop 14) ∧ 64 ≤ (dataFrame ++ leBytes 4 (crc32 dataFrame)).length ∧
      leVal ((dataFrame ++ leBytes 4 (crc32 dataFrame)).drop ((dataFrame ++ leBytes 4 (crc32 dataFrame)).length - 4)) = crc32 dataFrame ∧ s.produces 9 3 15 = true ∧
      (s.rget .RX_QBASE 15 + fieldAt (dataFrame.drop 14) 4 2) % 65536 = 9 ∧ fieldAt (dataFrame.drop 14) 6 2 ≤ (beginRows 9 (bitOf (fieldAt (dataFrame.drop 14) 3 1) 0) s).queueFree 9 :=
  ⟨ethQueue, by decide +kernel⟩

theorem witness_TrunkC0AndEthernet_full : ∃ s : State,
      (s.trunk 15).lock = true ∧ s.rget .TK_MODE 15 ≠ 0 ∧ s.ethKind 15 dataFrame = .data (dataFrame.drop 14) ∧ 64 ≤ (dataFrame ++ leBytes 4 (crc32 dataFrame)).length ∧
      leVal ((dataFrame ++ leBytes 4 (crc32 dataFrame)).drop ((dataFrame ++ leBytes 4 (crc32 dataFrame)).length - 4)) = crc32 dataFrame ∧ s.produces 9 3 15 = true ∧
      (s.rget .RX_QBASE 15 + fieldAt (dataFrame.drop 14) 4 2) % 65536 = 9 ∧ ((beginRows 9 (bitOf (fieldAt (dataFrame.drop 14) 3 1) 0) s).queue 9).dropping = false ∧ (beginRows 9 (bitOf (fieldAt (dataFrame.drop 14) 3 1) 0) s).queueFree 9 < fieldAt (dataFrame.drop 14) 6 2 :=
  ⟨ethQueue.setQueue 9 { Queue.empty with frags := [(List.range 16).map (fun i => 163840 + i)] }, by decide +kernel⟩

/-! LoadCommands. -/

theorem witness_LoadCommands_go : ∃ s : State,
      accepts .coreM .LOAD_GO 0 1 s = true ∧ s.load.active = false ∧ accepts .coreM .LOAD_ABORT 0 1 s = true ∧ accepts .coreM .LOAD_SRC 0 3 s = true :=
  ⟨run, by decide +kernel⟩

theorem witness_LoadCommands_idle : ∃ s : State,
      accepts .coreM .LOAD_GO 0 1 s = true ∧ s.load.active = false :=
  ⟨idle, by decide +kernel⟩

theorem witness_LoadCommands_again : ∃ s : State,
      accepts .coreM .LOAD_GO 0 1 s = true ∧ s.load.active = true ∧ accepts .coreM .LOAD_ABORT 0 1 s = true ∧ s.load.golden = false ∧ s.loadsGlobal = false :=
  ⟨hunting, by decide +kernel⟩

theorem witness_LoadCommands_global : ∃ s : State,
      accepts .coreM .LOAD_ABORT 0 1 s = true ∧ s.load.active = true ∧ s.loadsGlobal = true :=
  ⟨{ hunting with dev := .loading, load := { hunting.load with startedIn := .idle } }, by decide +kernel⟩

theorem witness_LoadCommands_waiting : ∃ s : State,
      accepts .coreM .LOAD_ABORT 0 1 s = true ∧ s.load.goldenWait = true ∧ s.load.active = false ∧ s.loadsGlobal = true :=
  ⟨{ run with dev := .loading, load := { Loader.reset with goldenWait := true, startedIn := .idle } }, by decide +kernel⟩

/-! LoadProgress. -/

theorem witness_LoadProgress_none : ∃ s : State,
      s.load.active = false ∧ s.load.goldenWait = false ∧ s.load.frames = [] :=
  ⟨run, by decide +kernel⟩

theorem witness_LoadProgress_hunt : ∃ s : State,
      s.load.active = true ∧ s.load.goldenWait = false ∧ s.load.synced = false ∧ s.load.headed = false ∧ s.load.tabled = false ∧ 2 ≤ s.load.source ∧
      s.load.stream = [] ∧ ([0xC3, 0x5A] : Bytes).length < 8 ∧ 8 ≤ (List.replicate 8 0 : Bytes).length ∧ (List.replicate 8 0 : Bytes).take 8 ≠ syncBytes ∧ s.loadsGlobal = false ∧ s.load.golden = false :=
  ⟨hunting, by decide +kernel⟩

theorem witness_LoadProgress_frame : ∃ s : State,
      s.load.frames = [{ plane := 0, sect := 0, next := 4798, data := List.replicate 512 1, fault := none }] ∧ 0 < 4798 ∧ 4798 + 1 < 4800 ∧ mfind s.scr.damage (frameKey 0 4798) = none :=
  ⟨{ hunting with load := { hunting.load with frames := [{ plane := 0, sect := 0, next := 4798, data := List.replicate 512 1, fault := none }] } }, by decide +kernel⟩

set_option maxRecDepth 4000 in
theorem witness_LoadProgress_damaged : ∃ s : State,
      s.load.active = true ∧ s.load.frames = [{ plane := 0, sect := 0, next := 4798, data := List.replicate 512 1, fault := none }] ∧ 0 < 4798 ∧ s.loadsGlobal = false ∧ s.load.golden = false ∧
      (writeVerified 0 4798 (BitVec.ofNat 2048 (leVal ((List.replicate 512 1 : Bytes).take 256))) s).1 = false :=
  ⟨{ hunting with scr := { CfgScrub.reset with damage := [(4798, (3, 2))] }, load := { hunting.load with frames := [{ plane := 0, sect := 0, next := 4798, data := List.replicate 512 1, fault := none }] } }, by decide +kernel⟩

/-! LoadEnds. -/

theorem witness_LoadEnds_accept : ∃ s : State,
      s.load.active = true ∧ s.load.tabled = true ∧ s.load.table.length ≤ s.load.done ∧ s.load.frames = [] ∧
      (match s.judgeLoad with | .ok r => !r.1.scheduledUnderTest s.loadedNow | .error _ => false) = true :=
  ⟨readWhole, by decide +kernel⟩

theorem witness_LoadEnds_fail : ∃ s : State,
      s.load.active = true ∧ s.load.tabled = true ∧ s.load.table.length ≤ s.load.done ∧ s.load.frames = [] ∧ s.loadsGlobal = false ∧ s.load.golden = false ∧
      (match s.judgeLoad with | .ok _ => 0 | .error r => r.1.reason) = 6 :=
  ⟨{ readWhole with load := { readWhole.load with table := [{ typ := 4, comp := 0, mask := 0, target := 0, offset := 0, stored := 8, raw := 8, digest := [], entry := [] }], done := 1, raws := [(0, List.replicate 8 0xFF)] } }, by decide +kernel⟩

theorem witness_LoadEnds_golden : ∃ s : State,
      s.load.goldenWait = true ∧ s.load.active = false ∧ s.load.waitLeft = none ∧ s.load.stream = [] :=
  ⟨{ run with dev := .boot, load := { Loader.reset with goldenWait := true } }, by decide +kernel⟩

theorem witness_LoadEnds_waitOver : ∃ s : State,
      s.load.goldenWait = true ∧ s.load.waitLeft = none ∧ s.load.stream ≠ [] :=
  ⟨{ run with dev := .boot, load := { Loader.reset with goldenWait := true, stream := syncBytes } }, by decide +kernel⟩

theorem witness_LoadEnds_overdue : ∃ s : State,
      s.load.goldenWait = true ∧ s.load.waitLeft ≠ none ∧ s.load.active = false :=
  ⟨{ run with dev := .boot, load := { Loader.reset with goldenWait := true, stream := syncBytes, waitLeft := some 8 } }, by decide +kernel⟩

theorem witness_LoadEnds_none : ∃ s : State,
      s.load.goldenWait = false ∧ accepts .coreM .AR_ADVANCE 0 0 s = true ∧ s.keeper.dead.contains 0 = false ∧ 0 ≤ s.rget .AR_COUNTER ∧
      accepts .coreM .AR_ADVANCE 0 65535 s = true ∧ s.rget .AR_COUNTER < 65535 ∧ s.keeper.failed = false ∧ (writeCounter 0 2 65535 s).toOption.isSome = true ∧ s.keeper.wear = [] :=
  ⟨run, by decide +kernel⟩

theorem witness_LoadEnds_revoke : ∃ s : State,
      accepts .coreM .KEY_REVOKE 0 2 s = true ∧ s.slotRevoked 2 = true ∧ accepts .coreM .KEY_REVOKE 0 1 s = true ∧ s.slotRevoked 1 = false ∧
      s.keeper.failed = false ∧ s.validSlots ≠ [1] ∧ s.keeper.wear = [] ∧ accepts .coreM .KEY_REVOKE 0 3 s = true ∧ s.slotRevoked 3 = false :=
  ⟨{ idle with keeper := { Keeper.blank with signing := [(0, .valid []), (1, .valid []), (2, .revoked)] } }, by decide +kernel⟩

theorem witness_LoadEnds_wornSlot : ∃ s : State,
      accepts .coreM .KEY_REVOKE 0 1 s = true ∧ s.slotRevoked 1 = false ∧ s.keeper.failed = false ∧ s.validSlots ≠ [1] ∧ (keySectors 1).any (fun k => s.worn k) = true :=
  ⟨{ idle with keeper := { Keeper.blank with signing := [(0, .valid []), (1, .valid [])], wear := [(32835, 1000000000)] } }, by decide +kernel⟩

theorem witness_LoadEnds_lastSlot : ∃ s : State,
      accepts .coreM .KEY_REVOKE 0 1 s = true ∧ s.slotRevoked 1 = false ∧ s.validSlots = [1] :=
  ⟨{ idle with keeper := { Keeper.blank with signing := [(1, .valid [])] } }, by decide +kernel⟩

theorem witness_LoadEnds_acceptGlobal : ∃ s : State,
      s.load.active = true ∧ s.load.tabled = true ∧ s.load.table.length ≤ s.load.done ∧ s.load.frames = [] ∧ s.load.global = true ∧
      (match s.judgeLoad with | .ok r => !r.1.scheduledUnderTest s.loadedNow | .error _ => false) = true :=
  ⟨{ readWhole with dev := .loading, load := { readWhole.load with startedIn := .idle, global := true, stream := List.replicate 80 3 } }, by decide +kernel⟩

/-! InnerPorts. -/

theorem witness_InnerPorts_frame : ∃ s : State,
      s.ipReady 0 = true ∧ s.ipReaches 0 0 0 = false ∧ s.ipReaches 0 8 4800 = false ∧ s.ipRefusal 0 15 4799 true = none ∧ s.ipRefusal 0 15 4799 false = none ∧ s.ipReady 1 = false ∧
      frameBeats (beatsOf 5) = true ∧ frameBeats { beats := (beatsOf 5).beats.take 15 } = false ∧ mfind s.scr.damage (frameKey 15 4799) = none ∧
      oneBeat (BitVec.ofNat 2048 (2 ^ 128)) = true ∧ oneBeat (BitVec.ofNat 2048 (2 ^ 128 + 1)) = false :=
  ⟨hosting, by decide +kernel⟩

theorem witness_InnerPorts_settings : ∃ s : State,
      accepts .coreM .IP_HOST 127 0xFF s = true ∧ accepts .coreM .IP_HOST 127 127 s = true ∧ accepts .coreM .TICKET_QUERY 0 5 s = true :=
  ⟨idle, by decide +kernel⟩

theorem witness_InnerPorts_stream : ∃ s : State,
      s.ipReady 0 = true ∧ s.load.active = true ∧ s.load.source = 4 ∧ s.load.goldenWait = false ∧ s.load.synced = true ∧ s.load.headed = false ∧ s.load.tabled = false ∧ s.load.stream.length + 16 < headerLen :=
  ⟨{ hosting with load := { hosting.load with active := true, source := 4, synced := true, stream := [1, 2] } }, by decide +kernel⟩

theorem witness_InnerPorts_sealUnwritten : ∃ s : State,
      s.ipReady 0 = true ∧ s.ipRefusal 0 15 0 false = none ∧ s.ipWrites 15 = false ∧ s.load.active = false :=
  ⟨hosting, by decide +kernel⟩

/-! SweepCorrects. -/

theorem witness_SweepCorrects_split : ∃ s : State,
      s.memoryOn = true ∧ s.scr.begun = true ∧ s.paused 0 1 = false ∧ s.sweepDone 0 = false ∧ s.loaded 0 = true ∧ mget s.scr.sets 0 [] = [0] :=
  ⟨{ (sweeping 0) with scr := { (sweeping 0).scr with begun := true } }, by decide +kernel⟩

theorem witness_SweepCorrects_write : ∃ s : State,
      s.scr.busy = some { entry := { ticket := 3, plane := 5, frame := 4799, rank := 2 }, source := 0, data := 7, inService := false, written := false } ∧ s.scr.checkOnly = false ∧ mfind s.scr.damage (frameKey 5 4799) = none :=
  ⟨{ run with scr := { CfgScrub.reset with busy := some { entry := { ticket := 3, plane := 5, frame := 4799, rank := 2 }, source := 0, data := 7, inService := false, written := false } } }, by decide +kernel⟩

theorem witness_SweepCorrects_checkOnly : ∃ s : State,
      s.scr.busy = some { entry := { ticket := 3, plane := 5, frame := 4799, rank := 2 }, source := 0, data := 7, inService := false, written := false } ∧ s.scr.checkOnly = true :=
  ⟨{ run with scr := { CfgScrub.reset with checkOnly := true, busy := some { entry := { ticket := 3, plane := 5, frame := 4799, rank := 2 }, source := 0, data := 7, inService := false, written := false } } }, by decide +kernel⟩

theorem witness_SweepCorrects_done : ∃ s : State,
      s.scr.busy = some { entry := { ticket := 3, plane := 5, frame := 4799, rank := 2 }, source := 0, data := 7, inService := false, written := true } ∧ s.ticketState 3 ≠ 0 :=
  ⟨{ run with load := { Loader.reset with tickets := [(3, 1)] }, scr := { CfgScrub.reset with busy := some { entry := { ticket := 3, plane := 5, frame := 4799, rank := 2 }, source := 0, data := 7, inService := false, written := true } } }, by decide +kernel⟩

/-! ScrubSettings. -/

theorem witness_ScrubSettings_reset : ∃ s : State,
      accepts .coreM .CS_RESET 0 1 s = true ∧ accepts .coreM (scrubSettingEl .enable) 0 0 s = true ∧ s.keeper.failed = false ∧ s.keeper.wear = [] ∧
      accepts .coreM (scrubSettingEl .firstBank) 0 100 s = true ∧ accepts .coreM (scrubSettingEl .slotBanks) 0 5 s = true :=
  ⟨idle, by decide +kernel⟩

theorem witness_ScrubSettings_banks : ∃ s : State,
      accepts .coreM (scrubSettingEl .banks) 0 160 s = true ∧ 160 + s.rget .FR_FIRST ≤ 4096 ∧ s.keeper.failed = false ∧ s.keeper.wear = [] :=
  ⟨idle.rset .FR_FIRST 0 3936, by decide +kernel⟩

theorem witness_ScrubSettings_unreadable : ∃ s : State,
      accepts .coreM (scrubSettingEl .enable) 0 0 s = true ∧ s.keeper.failed = true :=
  ⟨{ idle with keeper := { Keeper.blank with failed := true } }, by decide +kernel⟩

theorem witness_ScrubSettings_reserve : ∃ s : State,
      accepts .coreM .FR_ENABLE 0 1 s = true ∧ 0 < s.rget .FR_BANKS ∧ s.reserveRefuses (s.rget .FR_FIRST + 0) = false ∧ s.rget .FR_BANKS = 1 ∧ s.keeper.failed = false ∧ accepts .coreM .FR_ENABLE 0 0 s = true :=
  ⟨idle.rset .FR_BANKS 0 1, by decide +kernel⟩

theorem witness_ScrubSettings_reserveRefused : ∃ s : State,
      accepts .coreM .FR_ENABLE 0 1 s = true ∧ 0 < s.rget .FR_BANKS ∧ s.reserveRefuses (s.rget .FR_FIRST + 0) = true :=
  ⟨(idle.rset .FR_BANKS 0 1).rset .OWNER_ACTIVE 0 5, by decide +kernel⟩

/-! I3cBusCommands. -/

theorem witness_I3cBusCommands_unaddressed : ∃ s : State,
      s.i3cListens = true ∧ s.rget .I3C_DA = 0 ∧ addressOk 127 = true ∧ 127 ≠ 0 ∧ 16 ≤ 16 ∧ 15 < 16 ∧ 3 ≤ 3 :=
  ⟨al, by decide +kernel⟩

theorem witness_I3cBusCommands_addressed : ∃ s : State,
      s.i3cListens = true ∧ s.rget .I3C_DA ≠ 0 ∧ addressOk 1 = true ∧ s.rget .LOCK_OWNER = 1 :=
  ⟨onBus.rset .LOCK_OWNER 0 1, by decide +kernel⟩

theorem witness_I3cBusCommands_deaf : ∃ s : State,
      s.i3cListens = false :=
  ⟨{ onBus with ctl := { onBus.ctl with i3c := { onBus.ctl.i3c with deaf := true } } }, by decide +kernel⟩

/-! I3cTransfers. -/

theorem witness_I3cTransfers_write : ∃ s : State,
      s.i3cAddressed = true ∧ s.i3cPending = none ∧ s.ctl.i3c.response = none ∧ s.ctl.waiting ≠ [] ∧ ∀ r ∈ s.ctl.waiting, r.fault = 0 :=
  ⟨{ onBus with ctl := { onBus.ctl with waiting := [waiter] } }, by decide +kernel⟩

theorem witness_I3cTransfers_read : ∃ s : State,
      s.i3cAddressed = true ∧ s.ctl.i3c.response = some [1, 2, 3] ∧ ([1, 2, 3] : Bytes).length ≤ 3 ∧ 3 ≤ s.ctl.i3c.mrl ∧ 2 < ([1, 2, 3] : Bytes).length :=
  ⟨{ onBus with ctl := { onBus.ctl with i3c := { onBus.ctl.i3c with response := some [1, 2, 3] } } }, by decide +kernel⟩

theorem witness_I3cTransfers_ddr : ∃ s : State,
      s.inDdr = true ∧ 0x21 ≠ 0x20 ∧ 0x20 ≠ 0xA0 ∧ s.i3cListens = false :=
  ⟨{ onBus with ctl := { onBus.ctl with i3c := { onBus.ctl.i3c with ddr := true } } }, by decide +kernel⟩

theorem witness_I3cTransfers_codes : ∃ s : State,
      0x20 < 0x21 ∧ 0x27 ≤ 0x27 ∧ s.i3cListens = true ∧ s.rget .I3C_DA = 0 ∧ s.rflag .HJ_EN = true ∧ s.ctl.i3c.hotJoinEnabled = true :=
  ⟨al.rset .HJ_EN 0 1, by decide +kernel⟩

theorem witness_I3cTransfers_ibi : ∃ s : State,
      s.ctl.i3c.ibis.find? (fun p => p.mdb == 3) = some { mdb := 3, first := 6, second := 3, tries := 0 } ∧ s.i3cAddressed = true ∧ s.ctl.i3c.intEnabled = true ∧
      bitOf (s.rget .IBI_MASK) (3 - 1) = true :=
  ⟨{ onBus with ctl := { onBus.ctl with i3c := { onBus.ctl.i3c with intEnabled := true, ibis := [{ mdb := 3, first := 6, second := 3, tries := 0 }] } } }, by decide +kernel⟩

/-! CanAndLocks. -/

theorem witness_CanAndLocks_other : ∃ s : State,
      s.canOn = false :=
  ⟨{ run with ctl := { run.ctl with waiting := [waiter] } }, by decide +kernel⟩

theorem witness_CanAndLocks_ours : ∃ s : State,
      s.canOn = true ∧ s.canOurs (s.fget .CAN_PFX * 2 ^ 20 + s.canNode * 2 ^ 16 + 127 * 2 ^ 8) = true ∧ (List.replicate 8 0 : Bytes).length = canLength (List.replicate 8 0 : Bytes).length ∧
      s.canHeld 127 < 4 ∧ (refillTokens s).ctl.can.tokens ≠ 0 ∧ s.ctl.waiting ≠ [] ∧ (∀ r ∈ s.ctl.waiting, r.fault = 0) ∧ s.canOurs (2 ^ 29) = false :=
  ⟨let a := run.rset .CAN_STATE 0 1; { a with ctl := { a.ctl with waiting := [waiter] } }, by decide +kernel⟩

theorem witness_CanAndLocks_off : ∃ s : State,
      s.rget .CAN_STATE = 3 ∧ accepts .coreM .EXPERT_LOCK 0 1 s = true ∧ accepts .coreM .EXPERT_LOCK 0 0 s = true ∧ s.rget .LOCK_OWNER ≠ controllerOf .coreM :=
  ⟨run.rset .CAN_STATE 0 3, by decide +kernel⟩

theorem witness_CanAndLocks_held : ∃ s : State,
      accepts .coreM .EXPERT_LOCK 0 0 s = true ∧ s.rget .LOCK_OWNER = controllerOf .coreM ∧ accepts .coreM .LOCK_BREAK 0 1 s = true ∧ accepts .coreM .ALERT_ACK 0 1 s = true :=
  ⟨run.rset .LOCK_OWNER 0 3, by decide +kernel⟩

/-! SusisRequests. -/

theorem witness_SusisRequests_plain : ∃ s : State,
      heard s .i3c = true ∧ s.ctl.waiting = [] ∧ vendorOpen s .i3c 0xEF0000 = false ∧ elOf 0xEF0000 = none ∧ elOf (eidOf .REC_SEL 0) = some (.REC_SEL, 0) ∧
      El.REC_SEL.info.blob = false ∧ El.REC_SEL.info.acc ≠ .wo ∧ 4095 < El.REC_SEL.modulus ∧ vendorArea 0xF00000 = true ∧ vendorOpen s .i3c 0xF00000 = false ∧ vendorOpen s .coreM 0xFFFFFF = true :=
  ⟨run, by decide +kernel⟩

theorem witness_SusisRequests_behind : ∃ s : State,
      heard s .i3c = true ∧ s.ctl.waiting = waiter :: [] ∧ waiter.route ≠ .i3c :=
  ⟨{ run with ctl := { run.ctl with waiting := [waiter] } }, by decide +kernel⟩

theorem witness_SusisRequests_itsOwn : ∃ s : State,
      heard s .i3c = true ∧ s.ctl.waiting = [{ waiter with route := .i3c }] ∧ waiter.fault = 0 ∧ susisOp waiter.opcode = 0 :=
  ⟨{ run with ctl := { run.ctl with waiting := [{ waiter with route := .i3c }] } }, by decide +kernel⟩

/-! DataPorts. -/

theorem witness_DataPorts_bind : ∃ s : State,
      accepts .coreM .DP_BIND 0 1 s = true ∧ 7 < 8 ∧ 7 ≠ 0 ∧ s.rget .DP_BIND 7 = 1 ∧ accepts .coreM .DP_BIND 0 2 s = true :=
  ⟨idle.rset .DP_BIND 7 1, by decide +kernel⟩

theorem witness_DataPorts_move : ∃ s : State,
      heard s .coreM = true ∧ s.ctl.waiting = [] ∧ s.dpRefusal .coreM 7 ([1, 2] : Bytes).length true = none ∧ s.rget .DP_BIND 7 = 5 ∧ s.dpRefusal .coreM 6 8 false = none ∧ s.rget .DP_BIND 6 = 3 ∧
      s.dpRefusal .coreM 8 0 true = some 1 ∧ s.dpRefusal .coreM 5 1 false = some 6 ∧ s.rget .DP_BIND 6 ∈ [3, 4, 6] ∧ 6 < El.DP_DATA.info.cnt ∧ El.DP_DATA.info.rights ≤ rightsOf s .coreM :=
  ⟨((idle.rset .DP_BIND 7 5).rset .DP_BIND 6 3).rset .OWNER_ACTIVE 0 (ownerOf dpMaster), by decide +kernel⟩

/-! IvtorReplies. -/

theorem witness_IvtorReplies_open : ∃ s : State,
      s.run.running = true ∧ s.run.entered = true ∧ s.dev ≠ .powerOff ∧ s.dev ≠ .reset ∧ s.life ≠ .field ∧ s.life ≠ .returned ∧ s.ctl.waiting = [] ∧ s.dev ≠ .boot ∧
      numberOf [0x39, 0x32, 0x31, 0x36, 0x30, 0x30] = some 921600 ∧ numberOf [0x39, 0x36, 0x30, 0x30] = some 9600 ∧ 250 < (List.replicate 251 0x30 : Bytes).length ∧
      eidText noneText = some 0xEF0000 ∧ elOf 0xEF0000 = none ∧ valueBytes 0xEF0000 [0x31] = some [1] ∧ noneText.length + 1 ≤ 248 ∧ 248 < noneText.length + (List.replicate 239 0x30 : Bytes).length ∧
      eidText [0x30, 0x78, 0x45, 0x46] = none ∧ numberOf [0x33] = some 3 ∧ numberOf [0x2D] = none ∧
      eidText recSelText = some (eidOf .REC_SEL 0) ∧ elOf (eidOf .REC_SEL 0) = some (.REC_SEL, 0) ∧ El.REC_SEL.info.acc ≠ .wo ∧ El.REC_SEL.info.blob = false ∧ valueBytes (eidOf .REC_SEL 0) [0x30, 0x78, 0x46, 0x46, 0x46] = some [0xFF, 0xF, 0, 0] ∧ El.REC_SEL.info.size = 4 ∧
      (match judge .ivtor .REC_SEL 0 (some 4095) (handlerOf .ivtor .REC_SEL 0) (latchIrq 6 s) with | .ok y => y.ctl.waiting == [] && y.rget .REC_SEL == 4095 | .error _ => false) = true :=
  ⟨monitored, by decide +kernel⟩

theorem witness_IvtorReplies_behind : ∃ s : State,
      s.run.running = true ∧ s.run.entered = true ∧ s.life ≠ .field ∧ s.life ≠ .returned ∧ s.ctl.waiting ≠ [] ∧ (∀ r ∈ s.ctl.waiting, r.fault = 0) ∧ s.dev ≠ .boot ∧ eidText recSelText = some (eidOf .REC_SEL 0) :=
  ⟨{ monitored with ctl := { monitored.ctl with waiting := [waiter] } }, by decide +kernel⟩

theorem witness_IvtorReplies_lock : ∃ s : State,
      s.run.running = true ∧ s.run.entered = true ∧ s.ctl.waiting = [] ∧ accepts .ivtor .EXPERT_LOCK 0 1 s = true ∧ accepts .ivtor .EXPERT_LOCK 0 0 s = true :=
  ⟨monitored.rset .RIGHTS_IVTOR 0 2, by decide +kernel⟩

theorem witness_IvtorReplies_closed : ∃ s : State,
      s.run.running = true ∧ s.run.entered = true ∧ s.life = .field :=
  ⟨{ monitored with life := .field }, by decide +kernel⟩

/-! FirmwareAndWatchdog. -/

theorem witness_FirmwareAndWatchdog_idleCore : ∃ s : State,
      s.run.running = false :=
  ⟨{ run with run := { CoreRun.reset with running := false } }, by decide +kernel⟩

theorem witness_FirmwareAndWatchdog_unreadable : ∃ s : State,
      s.core.kwStatus ≠ 1 ∧ 64 < 2 ^ 32 ∧ s.keeper.failed = true ∧
      s.coreMay true true 0xB0000060 = true ∧ s.coreMay true true 0xB0000064 = true ∧ (List.range 16).all (fun j => s.coreMay true true (0xB0000100 + 4 * j)) = true :=
  ⟨{ run with keeper := { Keeper.blank with failed := true } }, by decide +kernel⟩

theorem witness_FirmwareAndWatchdog_write : ∃ s : State,
      s.core.kwStatus ≠ 1 ∧ 524287 < 2 ^ 32 ∧ s.keeper.failed = false ∧ firmwareSector 524287 = true ∧ s.worn 524287 = false ∧ firmwareSector 32832 = false ∧
      s.run.fwAr ≤ s.keeper.fwCounter ∧ 0 ≠ 0xC1A5 ∧
      s.coreMay true true 0xB0000060 = true ∧ s.coreMay true true 0xB0000064 = true ∧ (List.range 16).all (fun j => s.coreMay true true (0xB0000100 + 4 * j)) = true ∧
      s.coreMay true true 0xB000006C = true ∧ s.coreMay true true 0xB0000030 = true ∧ s.coreMay false true 0xB0000060 = false ∧ s.coreMay false true 0xB000006C = false ∧ s.coreMay false true 0xB0000030 = false :=
  ⟨run, by decide +kernel⟩

theorem witness_FirmwareAndWatchdog_done : ∃ s : State,
      s.keeper.jobs = .raw 524287 5 :: [] ∧ s.power.deferred = none :=
  ⟨{ run with keeper := { Keeper.blank with jobs := [.raw 524287 5] } }, by decide +kernel⟩

theorem witness_FirmwareAndWatchdog_commit : ∃ s : State,
      s.keeper.fwCounter < s.run.fwAr ∧ s.keeper.dead.contains 1 = false ∧ s.keeper.failed = false ∧ s.keeper.wear = [] ∧ s.run.wdtRuns = true ∧
      accepts .coreM .WDT_ENABLE 0 1 s = true ∧
      s.coreMay true true 0xB000006C = true ∧ s.coreMay true true 0xB0000030 = true :=
  ⟨{ run with run := { CoreRun.reset with entered := true, fwAr := 4, wdtRuns := true } }, by decide +kernel⟩

theorem witness_FirmwareAndWatchdog_first : ∃ s : State,
      s.wdtCounts = true ∧ s.run.wdtStage = 0 ∧ s.run.wdtLeft = 0 :=
  ⟨({ run with run := { CoreRun.reset with entered := true, wdtRuns := true, wdtLeft := 0 } }).rset .WDT_ENABLE 0 1, by decide +kernel⟩

theorem witness_FirmwareAndWatchdog_second : ∃ s : State,
      s.wdtCounts = true ∧ s.run.wdtStage = 1 ∧ s.run.wdtLeft = 0 :=
  ⟨({ run with run := { CoreRun.reset with entered := true, wdtRuns := true, wdtStage := 1, wdtLeft := 0 } }).rset .WDT_ENABLE 0 1, by decide +kernel⟩

theorem witness_FirmwareAndWatchdog_early : ∃ s : State,
      s.run.wdtLeft ≠ 0 :=
  ⟨({ run with run := { CoreRun.reset with entered := true, wdtRuns := true, wdtLeft := 1 } }).rset .WDT_ENABLE 0 1, by decide +kernel⟩

theorem witness_FirmwareAndWatchdog_slotClosed : ∃ s : State,
      s.coreMay true true 0xB0000060 = true ∧ s.coreMay true true 0xB0000064 = true ∧ (List.range 16).all (fun j => s.coreMay true true (0xB0000100 + 4 * j)) = true ∧
      s.core.kwStatus ≠ 1 ∧ s.keeper.failed = false ∧ slotSector 64 = true ∧ s.run.entered = false :=
  ⟨{ run with run := { CoreRun.reset with romService := true } }, by decide +kernel⟩

theorem witness_FirmwareAndWatchdog_after : ∃ s : State,
      (coreDid [⟨true, .writeCsr 0x3A0 0x9F⟩] s).coreMay true true 0xB0000030 = true ∧ 5 ≠ 0xC1A5 :=
  ⟨run, by decide +kernel⟩

/-! CoreLocalBlock. -/

theorem witness_CoreLocalBlock_events : ∃ s : State,
      s.core.memEvents = (5, 1, 0x81) :: [] ∧ s.mbox.waiting = false ∧ s.mbox.dropping = false ∧ s.mbox.staged.length < stagingRows ∧ s.coreConsumes 9 = false ∧ s.mbox.popQid ≠ 9 ∧
      s.coreMay true false 0xB0000050 = true ∧ s.coreMay true false 0xB0000054 = true ∧ s.coreMay true true 0xB0000010 = true ∧ s.coreMay true true 0xB0000048 = true ∧
      s.coreMay false true 0xB0000010 = false ∧ s.coreMay false true 0xB0000048 = false ∧
      s.coreMay true true 0xA0000000 = true ∧ s.coreMay true true 0xA0000004 = true ∧ (List.range 4).all (fun j => s.coreMay true true (0xA0000010 + 4 * j)) = true ∧ s.coreMay true true 0xA0000040 = true ∧ s.coreMay true false 0xA000005C = true :=
  ⟨{ run with core := { ServiceCore.reset with memEvents := [(5, 1, 0x81)] } }, by decide +kernel⟩

theorem witness_CoreLocalBlock_locked : ∃ s : State,
      s.coreMay true false 0xB0000050 = false ∧ s.coreMay true false 0xB0000054 = false :=
  ⟨{ run with run := { run.run with pmp := [(0, { cfg := 0x98, addr := 0xFFFFFFFF })] } }, by decide +kernel⟩

theorem witness_CoreLocalBlock_window : ∃ s : State,
      heard s (windowRoute true) = true ∧ (s.window true).status ≠ 1 ∧ ([0] : Bytes).length ≤ requestMost ∧ s.ctl.waiting ≠ [] ∧ ∀ r ∈ s.ctl.waiting, r.fault = 0 ∧
      s.coreMay true true (windowBase true + 0x2000) = true ∧ s.coreMay true true (windowBase true) = true :=
  ⟨{ run with ctl := { run.ctl with waiting := [waiter] } }, by decide +kernel⟩

theorem witness_CoreLocalBlock_busy : ∃ s : State,
      heard s (windowRoute false) = true ∧ (s.window false).status = 1 :=
  ⟨{ run with core := { ServiceCore.reset with dictM := { request := [], response := [], status := 1 } } }, by decide +kernel⟩

theorem witness_CoreLocalBlock_row : ∃ s : State,
      s.mbox.waiting = false ∧ s.mbox.dropping = false ∧ s.mbox.staged.length < stagingRows ∧ s.coreProduces 9 = true ∧ s.mbox.staged.length + 1 ≤ s.queueRows 9 :=
  ⟨queueing (1 + 2 + 2 * 2 ^ 6), by decide +kernel⟩

theorem witness_CoreLocalBlock_waits : ∃ s : State,
      s.coreMay true true 0xA0000000 = true ∧ s.coreMay true true 0xA0000004 = true ∧ s.mbox.waiting = true :=
  ⟨{ run with mbox := { Mailbox.reset with waiting := true, pushTo := 9, staged := [5] } }, by decide +kernel⟩

theorem witness_CoreLocalBlock_push : ∃ s : State,
      s.mbox.waiting = true ∧ s.coreProduces s.mbox.pushTo = true ∧ s.mbox.staged.length ≤ s.queueFree s.mbox.pushTo ∧ (rowsReady (s.qClass s.mbox.pushTo) (s.tailRows s.mbox.pushTo s.mbox.staged.length (s.rget .Q_TAIL s.mbox.pushTo)).1 s).1 = true :=
  ⟨{ queueing (1 + 2 + 2 * 2 ^ 6) with mbox := { Mailbox.reset with waiting := true, pushTo := 9, staged := [5, 6] } }, by decide +kernel⟩

theorem witness_CoreLocalBlock_pop : ∃ s : State,
      s.coreMay true false 0xA000005C = true ∧ s.coreConsumes 9 = true ∧ s.mbox.popQid = 9 :=
  ⟨{ queueing (1 + 2 * 2 ^ 8) with mbox := { Mailbox.reset with popQid := 9, shown := [(5, false), (6, true)] } }, by decide +kernel⟩

theorem witness_CoreLocalBlock_popLast : ∃ s : State,
      s.coreMay true false 0xA000005C = true ∧ s.coreConsumes 9 = true ∧ s.mbox.popQid = 9 :=
  ⟨{ queueing (1 + 2 * 2 ^ 8) with mbox := { Mailbox.reset with popQid := 9, shown := [(6, true)] } }, by decide +kernel⟩

theorem witness_CoreLocalBlock_popUser : ∃ s : State,
      s.coreMay false true 0xA0000040 = false ∧ s.mbox.shown = [] :=
  ⟨run, by decide +kernel⟩

theorem witness_CoreLocalBlock_refused : ∃ s : State,
      s.mbox.waiting = true ∧ s.coreProduces s.mbox.pushTo = false :=
  ⟨{ run with mbox := { Mailbox.reset with waiting := true, pushTo := 9, staged := [5] } }, by decide +kernel⟩

/-! CoreAccesses. -/

theorem witness_CoreAccesses_stopped : ∃ s : State,
      s.run.running = false ∧ coreDid [⟨true, .load 0⟩] s = s :=
  ⟨{ run with run := { CoreRun.reset with running := false } }, by decide +kernel⟩

theorem witness_CoreAccesses_map : ∃ s : State,
      s.run.running = true ∧ s.coreMay false false 0xB0000020 = false ∧ s.coreMay false true 0xB0000020 = false ∧ regionOf 0xF0000000 = .none ∧
      ([0x00000000, 0x80000000, 0x30000000, 0xB0000000, 0x90000000].map regionOf) = [Region.rom, .keeper, .vault, .coreLocal, .dictM] ∧
      regionOf 0x40000000 = .bank ∧ s.isVaultBank (bankAt 0x40000000) = false ∧
      coreDid [⟨false, .load 0xB0000020⟩] s = accessFault false 0xB0000020 s.ran ∧ coreDid [⟨true, .store 0xF0000000 1⟩] s = accessFault true 0xF0000000 s.ran ∧
      coreDid [⟨true, .store 0 1⟩] s = accessFault true 0 s.ran ∧ coreDid [⟨true, .store 0xB0000020 2⟩, ⟨true, .load 0xB0000020⟩] s = s.ran.setCore { s.core with busClass := 2, readOut := 2 } :=
  ⟨asking.rset .OWNER_ACTIVE 5 0x81, by decide +kernel⟩

theorem witness_CoreAccesses_bank : ∃ s : State,
      s.run.running = true ∧ regionOf 0x40140048 = .bank ∧ bankAt 0x40140048 = 5 ∧ (s.coreMay true true 0x40140048 && s.coreMay true false 0x40140048) = true ∧
      ((coreDid [⟨true, .store 0x40140048 7⟩] s).cell 5 9).data = 7 ∧ (coreDid [⟨true, .store 0x40140048 7⟩, ⟨true, .store 0x4014004C 1⟩, ⟨true, .load 0x40140048⟩] s).core.readOut = 7 :=
  ⟨running0.rset .OWNER_ACTIVE 5 0x81, by decide +kernel⟩

theorem witness_CoreAccesses_vault : ∃ s : State,
      s.run.running = true ∧ regionOf (0x40000000 + 48 * 262144) = .bank ∧ s.isVaultBank (bankAt (0x40000000 + 48 * 262144)) = true ∧
      coreDid [⟨true, .load (0x40000000 + 48 * 262144)⟩] s = accessFault false (0x40000000 + 48 * 262144) s.ran :=
  ⟨run.rset .VAULT_STATE 0 1, by decide +kernel⟩

theorem witness_CoreAccesses_keeper : ∃ s : State,
      s.run.running = true ∧ regionOf (0x80000000 + 64 * 5) = .keeper ∧ s.keeper.failed = false ∧ (s.coreMay true false (0x80000000 + 64 * 5) && s.coreMay true false (0x80000000 + 64 * 6) && s.coreMay true false (0x80000000 + 64 * 32840)) = true ∧
      secretSector 5 = false ∧ secretSector 6 = false ∧ secretSector 32840 = true ∧ s.keeper.bad.contains 6 = true ∧ s.keeper.bad.contains 5 = false ∧
      coreDid [⟨true, .load (0x80000000 + 64 * 5)⟩] s = s.ran.setCore { s.core with readOut := 0x12345678 } ∧ coreDid [⟨true, .load (0x80000000 + 64 * 6)⟩] s = accessFault false (0x80000000 + 64 * 6) (s.ran.rinc .KP_ERRORS) :=
  ⟨{ run with keeper := { Keeper.blank with sectors := [(5, 0x12345678)], bad := [6] } }, by decide +kernel⟩

theorem witness_CoreAccesses_atomic : ∃ s : State,
      s.run.running = true ∧ isDataTcm 0xB0000020 = false ∧ isDataTcm 0x20000000 = true ∧ s.coreMay true false 0x20000000 = true ∧ s.coreMay true true 0x20000000 = true ∧ s.coreMay false false 0x20000000 = false ∧
      (coreDid [⟨true, .loadReserved 0x20000000⟩] s).run.reservation = true ∧ coreDid [⟨true, .amo 0xB0000020⟩] s = accessFault true 0xB0000020 s.ran :=
  ⟨run, by decide +kernel⟩

theorem witness_CoreAccesses_protect : ∃ s : State,
      s.run.running = true ∧ s.coreRuns true 0 = true ∧ s.coreRuns false 0 = false ∧ (s.pmpEntry 15).locked = false ∧ (s.pmpEntry 16).locked = false ∧ s.run.deferred = none ∧
      ((coreDid [⟨true, .writeCsr 0x3BF 99⟩] s).pmpEntry 15).addr = 99 ∧ ((coreDid [⟨false, .writeCsr 0x3BF 99⟩] s).run.trap.map (·.1)) = some 2 ∧ coreDid [⟨false, .fetch 0⟩] s = coreTrap 1 0 s.ran :=
  ⟨run, by decide +kernel⟩

theorem witness_CoreAccesses_locked : ∃ s : State,
      s.run.running = true ∧ (s.pmpEntry 3).locked = true ∧ coreDid [⟨true, .writeCsr 0x3B3 1⟩] s = s.ran :=
  ⟨{ run with run := { run.run with pmp := [(3, { cfg := 0x98, addr := 0xFFFFFFFF })] } }, by decide +kernel⟩

/-! RecordsAreKept. -/

theorem witness_RecordsAreKept_none : ∃ s : State,
      s.recorder.intake = [] ∧ accepts .coreM .REC_CLEAR 0 1 s = true ∧ s.recorder.copies = [] ∧ s.recorder.held = [] :=
  ⟨run, by decide +kernel⟩

theorem witness_RecordsAreKept_write : ∃ s : State,
      s.recorder.intake.length = 1 ∧ s.recorder.lost = 0 ∧ s.recorder.held.length < recordSlots :=
  ⟨run.raise sevFatal 0x0101 0 [], by decide +kernel⟩

theorem witness_RecordsAreKept_copy : ∃ s : State,
      s.recorder.copies.length = 1 ∧ (s.recorder.held.getLast?.map (fun r => s.copyBehind r)) = some false :=
  ⟨after .recordWrite (run.raise sevFatal 0x0101 0 []), by decide +kernel⟩

theorem witness_RecordsAreKept_behind : ∃ s : State,
      (s.recorder.held.getLast?.map (fun r => s.copyBehind r)) = some true ∧ s.recorder.refreshed + 1000000 ≤ s.us ∧ (s.recorder.held.getLast?.map (fun r => (r.pseq != 0, s.fatalSector r.pseq))) = some (true, some 40640) ∧ s.wearOf 40640 + 1 < ratedWrites :=
  ⟨let a := after .persistCopy (after .recordWrite (run.raise sevFatal 0x0101 0 [])); ({ a with recorder := { a.recorder with held := a.recorder.held.map (fun (r : Record) => { r with ev := { r.ev with repeats := 3 } }) } }).rset .UPTIME 0 1000000, by decide +kernel⟩

theorem witness_RecordsAreKept_soon : ∃ s : State,
      (s.recorder.held.getLast?.map (fun r => s.copyBehind r)) = some true ∧ s.us < s.recorder.refreshed + 1000000 :=
  ⟨let a := after .persistCopy (after .recordWrite (run.raise sevFatal 0x0101 0 [])); ({ a with recorder := { a.recorder with held := a.recorder.held.map (fun (r : Record) => { r with ev := { r.ev with repeats := 3 } }) } }), by decide +kernel⟩

/-! JtagInstructions. -/

theorem witness_JtagInstructions_open : ∃ s : State,
      s.tapOn = true ∧ s.life = .blank :=
  ⟨run, by decide +kernel⟩

theorem witness_JtagInstructions_closed : ∃ s : State,
      s.tapOn = true ∧ s.life = .field :=
  ⟨{ run with life := .field }, by decide +kernel⟩

theorem witness_JtagInstructions_off : ∃ s : State,
      s.tapOn = false :=
  ⟨{ run with power := { Power.reset with aux := false } }, by decide +kernel⟩

/-! DebuggerTransactions. -/

theorem witness_DebuggerTransactions_access : ∃ s : State,
      s.tapOn = true ∧ s.dbg.instruction = .dbgAccess ∧ s.jtagOpen = true ∧ s.run.running = true ∧ s.run.deferred = none ∧ (s.trigger 7).enabled = false ∧ 7 < 8 :=
  ⟨{ run with run := { CoreRun.reset with entered := true }, dbg := { DebugPort.reset with instruction := .dbgAccess } }, by decide +kernel⟩

theorem witness_DebuggerTransactions_halted : ∃ s : State,
      s.tapOn = true ∧ s.dbg.instruction = .dbgAccess ∧ s.jtagOpen = true ∧ s.run.running = false ∧ s.run.halted = true ∧ s.run.held = false ∧
      isTcm (0x10000000 / 4 * 4) = true ∧ 0x10000000 < 2 ^ 32 ∧ mfind s.run.tcm (0x10000000 / 4 * 4) = some 7 :=
  ⟨{ run with run := { CoreRun.reset with entered := true, running := false, halted := true, tcm := [(0x10000000, 7)] }, dbg := { DebugPort.reset with instruction := .dbgAccess } }, by decide +kernel⟩

theorem witness_DebuggerTransactions_step : ∃ s : State,
      s.run.running = true ∧ s.run.stepping = true ∧ s.rflag .DBG_ATTACHED = true ∧ s.run.deferred = some (1, 0) :=
  ⟨({ run with run := { CoreRun.reset with entered := true, stepping := true, deferred := some (1, 0) } }).rset .DBG_ATTACHED 0 1, by decide +kernel⟩

theorem witness_DebuggerTransactions_trigger : ∃ s : State,
      s.run.running = true ∧ s.armed 7 = true ∧ s.qualified (s.trigger 7) = true ∧ (s.trigger 7).chains = false ∧ (s.trigger 7).halts = true ∧
      s.armed 11 = true ∧ s.qualified (s.trigger 11) = true ∧ (s.trigger 11).chains = false ∧ (s.trigger 11).halts = true ∧ bitOf (s.trigger 11).access 1 = true ∧ 8 ≤ 11 ∧ 11 < 12 :=
  ⟨{ run with run := { CoreRun.reset with entered := true }, dbg := { DebugPort.reset with triggers := [(7, { addr := 0x100, limit := 0, ctrl := 1 + 2 ^ 31, hits := 0, armed := true }), (11, { addr := 0x100, limit := 0, ctrl := trigCtrl, hits := 0, armed := true })] } }, by decide +kernel⟩

theorem witness_DebuggerTransactions_detached : ∃ s : State,
      s.rflag .DBG_ATTACHED = false ∧ s.run.running = true ∧ s.run.deferred = none :=
  ⟨run, by decide +kernel⟩

theorem witness_DebuggerTransactions_stopped : ∃ s : State,
      s.run.running = false :=
  ⟨{ run with run := { CoreRun.reset with running := false } }, by decide +kernel⟩

/-! LifecycleAndKeys. -/

theorem witness_LifecycleAndKeys_challenge : ∃ s : State,
      heard s .i3c = true ∧ s.ctl.waiting = [] ∧ accepts .coreM .LC_TOKEN 0 0 s = true ∧ ([1, 2] : Bytes).length ≤ El.LC_TOKEN.info.size ∧ s.lc.change = none :=
  ⟨run, by decide +kernel⟩

theorem witness_LifecycleAndKeys_denied : ∃ s : State,
      accepts .coreM .LC_REQUEST 0 3 s = true ∧ (changeOf s.life 3).map (fun c => (c.needsKey, c.needsToken)) = some (false, true) ∧ s.keeper.failed = false ∧ s.lc.change = none ∧ s.tokenPasses 3 = false :=
  ⟨{ idle with life := .provisioned }, by decide +kernel⟩

theorem witness_LifecycleAndKeys_begins : ∃ s : State,
      accepts .coreM .LC_REQUEST 0 1 s = true ∧ (changeOf s.life 1).map (fun c => (c.needsKey, c.needsToken)) = some (true, false) ∧ s.keeper.failed = false ∧ s.lc.change = none ∧
      (3 < 4 ∧ s.signingKey 3 ≠ none) ∧ s.keeper.dead = [] ∧ s.keeper.wear = [] :=
  ⟨{ idle with keeper := { Keeper.blank with signing := [(3, .valid [])] } }, by decide +kernel⟩

theorem witness_LifecycleAndKeys_ends : ∃ s : State,
      (changeOf s.life 2).map (fun c => c.erases) = some false ∧ s.lc.change = some (2, 1) ∧ s.keeper.failed = false ∧ s.keeper.dead = [] ∧ s.keeper.wear = [] :=
  ⟨{ idle with life := .provisioned, lc := { LifecycleControl.reset with change := some (2, 1) } }, by decide +kernel⟩

theorem witness_LifecycleAndKeys_fieldKey : ∃ s : State,
      accepts .coreM .KEY_INSTALL 0 0 s = true ∧ s.keyLength (List.replicate 97 0) = true ∧ s.life = .field :=
  ⟨{ idle with life := .field }, by decide +kernel⟩

theorem witness_LifecycleAndKeys_install : ∃ s : State,
      accepts .coreM .KEY_INSTALL 0 0 s = true ∧ s.keyLength generatorKey = true ∧ s.life ≠ .field ∧ s.life ≠ .returned ∧ s.signingSelected = true ∧ pointOf generatorKey ≠ none ∧
      s.keeper.failed = false ∧ s.keeper.keysLost = false ∧ mfind s.keeper.signing (s.rget .KEY_SEL) = none ∧ s.keeper.wear = [] :=
  ⟨idle, by decide +kernel⟩

theorem witness_LifecycleAndKeys_wornSlot : ∃ s : State,
      accepts .coreM .KEY_INSTALL 0 0 s = true ∧ s.keyLength generatorKey = true ∧ s.life ≠ .field ∧ s.life ≠ .returned ∧ s.signingSelected = true ∧ pointOf generatorKey ≠ none ∧
      s.keeper.failed = false ∧ s.keeper.keysLost = false ∧ mfind s.keeper.signing (s.rget .KEY_SEL) = none ∧ (keySectors (s.rget .KEY_SEL)).any (fun k => s.worn k) = true :=
  ⟨{ idle with keeper := { Keeper.blank with wear := [(32833, 1000000000)] } }, by decide +kernel⟩

theorem witness_LifecycleAndKeys_tamper : ∃ s : State,
      s.power.aux = true ∧ bitOf (s.rget .TAMPER_STATE) 0 = false ∧ bitOf (s.rget .TAMPER_STATE) 1 = false ∧ s.dev ≠ .powerOff ∧ s.dev ≠ .reset ∧ s.rflag .VAULT_ENABLE = true :=
  ⟨al.rset .VAULT_ENABLE 0 1, by decide +kernel⟩

theorem witness_LifecycleAndKeys_latched : ∃ s : State,
      bitOf (s.rget .TAMPER_STATE) 0 = true ∧ bitOf (s.rget .TAMPER_STATE) 1 = true :=
  ⟨al.rset .TAMPER_STATE 0 3, by decide +kernel⟩

/-! FreezesAndWatchpoints. -/

theorem witness_FreezesAndWatchpoints_go : ∃ s : State,
      accepts .coreM .FREEZE_GO 0 allOnes64 s = true ∧ s.freezeMask ≠ 0 ∧ s.crossing + 2 ≤ s.freezeCrossing allOnes64 ∧ s.rget .FREEZE_STATE = 0 ∧ s.freeze = none ∧
      accepts .coreM .FREEZE_GO 0 (7 * 65536 + 5) s = true ∧ s.crossing + 2 ≤ s.freezeCrossing (7 * 65536 + 5) :=
  ⟨run.rset .FREEZE_MASK_HI 0 (2 ^ 63), by decide +kernel⟩

theorem witness_FreezesAndWatchpoints_noFreeze : ∃ s : State,
      accepts .coreM .FREEZE_RELEASE 0 1 s = true ∧ s.rget .FREEZE_STATE ≠ 2 :=
  ⟨{ run with dev := .hold }, by decide +kernel⟩

theorem witness_FreezesAndWatchpoints_again : ∃ s : State,
      accepts .coreM .FREEZE_GO 0 allOnes64 s = true ∧ s.freezeMask ≠ 0 ∧ s.rget .FREEZE_STATE ≠ 0 ∧
      s.freeze = some { at_ := 14339, mask := BitVec.ofNat 128 (2 ^ 127) } ∧ s.counting = true ∧ 14339 ≤ s.crossing ∧ s.dev = .running :=
  ⟨{ ((run.rset .FREEZE_MASK_HI 0 (2 ^ 63)).rset .FREEZE_STATE 0 1) with freeze := some { at_ := 14339, mask := BitVec.ofNat 128 (2 ^ 127) } }, by decide +kernel⟩

theorem witness_FreezesAndWatchpoints_release : ∃ s : State,
      accepts .coreM .FREEZE_RELEASE 0 1 s = true ∧ s.rget .FREEZE_STATE = 2 :=
  ⟨({ run with dev := .hold }).rset .FREEZE_STATE 0 2, by decide +kernel⟩

theorem witness_FreezesAndWatchpoints_enable : ∃ s : State,
      accepts .coreM .FWP_ENABLE 1 1 s = true ∧ s.rget .FWP_FIRST 1 ≤ s.rget .FWP_LAST 1 ∧ 1 < 2 ∧ s.counting = true ∧ s.rget .FWP_LAST 1 < s.mt ∧ s.watchpointMet 0 = false :=
  ⟨(run.rset .FWP_FIRST 1 5).rset .FWP_LAST 1 5, by decide +kernel⟩

theorem witness_FreezesAndWatchpoints_window : ∃ s : State,
      accepts .coreM .FWP_ENABLE 1 1 s = true ∧ s.rget .FWP_LAST 1 < s.rget .FWP_FIRST 1 :=
  ⟨(run.rset .FWP_FIRST 1 6).rset .FWP_LAST 1 5, by decide +kernel⟩

theorem witness_FreezesAndWatchpoints_fire : ∃ s : State,
      1 < 2 ∧ s.watchpointMet 1 = true :=
  ⟨((running0.rset .FWP_ENABLE 1 1).rset .FWP_LAST 1 allOnes64).rset .FWP_CTX 1 0xFF, by decide +kernel⟩

/-! SafetyAndResets. -/

theorem witness_SafetyAndResets_enter : ∃ s : State,
      accepts .coreM .SAFE_ENTER 0 1 s = true ∧ s.dev ≠ .safe ∧ s.counting = true ∧ accepts .coreM .RESET_CMD 0 1 s = true ∧ accepts .coreM .RESET_CMD 0 2 s = true ∧ s.resetDue = false ∧
      s.dev ≠ .powerOff ∧ s.dev ≠ .reset ∧ s.dev ≠ .shutdown ∧ s.keeper.jobs = [] :=
  ⟨run, by decide +kernel⟩

theorem witness_SafetyAndResets_unclocked : ∃ s : State,
      accepts .coreM .SAFE_ENTER 0 1 s = true ∧ s.dev ≠ .safe ∧ s.counting = false :=
  ⟨idle, by decide +kernel⟩

theorem witness_SafetyAndResets_leave : ∃ s : State,
      accepts .coreM .SAFE_ENTER 0 1 s = true ∧ s.dev = .safe ∧ accepts .coreM .SAFE_LEAVE 0 1 s = true :=
  ⟨{ running0 with dev := .safe }, by decide +kernel⟩

theorem witness_SafetyAndResets_deferred : ∃ s : State,
      s.resetDue = true ∧ s.dev ≠ .powerOff ∧ s.dev ≠ .reset ∧ s.dev ≠ .shutdown ∧ s.keeper.jobs ≠ [] ∧ s.power.deferred = none :=
  ⟨{ run with resetDue := true, keeper := { Keeper.blank with jobs := [.raw 5 5] } }, by decide +kernel⟩

theorem witness_SafetyAndResets_shutdown : ∃ s : State,
      s.dev = .shutdown ∧ s.resetDue = true ∧ s.load.active = false ∧ s.load.goldenWait = false ∧ s.safeDue = none :=
  ⟨{ run with dev := .shutdown, resetDue := true }, by decide +kernel⟩

/-! PowerAndBoot. -/

theorem witness_PowerAndBoot_on : ∃ s : State,
      s.dev = .powerOff ∧ s.dev ≠ .reset :=
  ⟨{ State.reset with dev := .powerOff }, by decide +kernel⟩

theorem witness_PowerAndBoot_release : ∃ s : State,
      s.dev = .reset ∧ s.dev ≠ .powerOff :=
  ⟨{ State.reset with dev := .reset }, by decide +kernel⟩

theorem witness_PowerAndBoot_boot : ∃ s : State,
      s.dev = .boot ∧ s.coreWaits = false ∧ bitOf (s.rget .STRAPS) 3 = false :=
  ⟨{ State.reset with run := { CoreRun.reset with entered := true } }, by decide +kernel⟩

theorem witness_PowerAndBoot_autoload : ∃ s : State,
      s.dev = .boot ∧ s.coreWaits = false ∧ bitOf (s.rget .STRAPS) 3 = true ∧ s.bootSrc < 4 :=
  ⟨{ State.reset.rset .STRAPS 0 11 with run := { CoreRun.reset with romService := true } }, by decide +kernel⟩

theorem witness_PowerAndBoot_stop : ∃ s : State,
      s.heat.stopAt = some 14339 ∧ 14339 ≤ s.crossing ∧ s.counting = true :=
  ⟨{ run with heat := { Thermal.reset with stopAt := some 14339 } }, by decide +kernel⟩

theorem witness_PowerAndBoot_notYet : ∃ s : State,
      s.heat.stopAt = some 14340 ∧ s.counting = true ∧ s.crossing < 14340 :=
  ⟨{ run with heat := { Thermal.reset with stopAt := some 14340 } }, by decide +kernel⟩

theorem witness_PowerAndBoot_gate : ∃ s : State,
      s.dev = .shutdown ∧ s.power.gated = false :=
  ⟨{ run with dev := .shutdown }, by decide +kernel⟩

/-! ThermalRounds. -/

theorem witness_ThermalRounds_threshold : ∃ s : State,
      accepts .coreM (thresholdEl .notice) 0 1600 s = true ∧ 1600 ≤ (thresholdEl .notice).info.dflt ∧ 1600 ≤ 1600 ∧ s.orderKept (thresholdEl .notice) 1600 = true ∧ s.keeper.failed = false ∧ s.keeper.wear = [] ∧
      accepts .coreM (thresholdEl .notice) 0 6080 s = true ∧ s.orderKept (thresholdEl .notice) 6080 = false ∧
      s.sensorsOn = true ∧ s.dev ≠ .shutdown ∧ s.rget .THERMAL_STATE ≠ 3 :=
  ⟨idle, by decide +kernel⟩

/-! SelfTests. -/

theorem witness_SelfTests_go : ∃ s : State,
      accepts .coreM .BIST_GO 0 1 s = true ∧ s.bistSelectable = true ∧ s.bistRefusal = none ∧ s.rget .BIST_MODE = 0 ∧ s.freeSpare (s.rget .BIST_TARGET / 64) ≠ none ∧
      accepts .coreM .BIST_ABORT 0 1 s = true ∧ s.bistRunning = false ∧ s.bist.phase = none :=
  ⟨idle, by decide +kernel⟩

theorem witness_SelfTests_district : ∃ s : State,
      accepts .coreM .BIST_GO 0 1 s = true ∧ s.bistSelectable = true ∧ s.bistRefusal = none ∧ s.rget .BIST_MODE = 1 :=
  ⟨(idle.rset .BIST_MODE 0 1).rset .BIST_KIND 0 1, by decide +kernel⟩

theorem witness_SelfTests_running : ∃ s : State,
      accepts .coreM .BIST_GO 0 1 s = true ∧ s.bistSelectable = true ∧ s.testOwner ≠ some 3 ∧ s.bistRefusal = some 6 ∧ accepts .coreM .BIST_ABORT 0 1 s = true ∧ s.bistRunning = true ∧ s.rget .BIST_MODE = 0 ∧
      s.bist.phase = none ∧ s.bist.moveDue = false ∧ s.bist.beyond = false ∧ s.bist.spare ≠ none ∧ s.bistAllowed (s.rget .BIST_TARGET) = true ∧ s.rget .THROTTLE_F = 0 ∧
      mfind s.mem.moves (s.rget .BIST_TARGET / 64) = none ∧ s.rget .INV_STATE (s.rget .BIST_TARGET) ≠ 1 ∧ s.isAwake (s.rget .BIST_TARGET) = true ∧ (s.bank (s.rget .BIST_TARGET)).sleepHeld = false :=
  ⟨{ (idle.rset .BIST_STATE 0 1) with bist := { SelfTest.reset with spare := some 0 } }, by decide +kernel⟩

theorem witness_SelfTests_sleeps : ∃ s : State,
      s.bistRunning = true ∧ s.bist.phase = none ∧ s.bist.spare ≠ none ∧ s.bistAllowed (s.rget .BIST_TARGET) = true ∧ s.rget .THROTTLE_F = 0 ∧ s.bist.aborted = false ∧ s.bist.slice + 1 ≠ 64 ∧
      mfind s.mem.moves (s.rget .BIST_TARGET / 64) = none ∧ s.rget .INV_STATE (s.rget .BIST_TARGET) ≠ 1 ∧ (s.bank (s.rget .BIST_TARGET)).sleepHeld = true :=
  ⟨({ (idle.rset .BIST_STATE 0 1) with bist := { SelfTest.reset with spare := some 0 } }).setBank 0 { BankPort.idle with sleepHeld := true }, by decide +kernel⟩

theorem witness_SelfTests_vault : ∃ s : State,
      accepts .coreM .BIST_GO 0 1 s = true ∧ s.bistSelectable = true ∧ s.testOwner = some 3 :=
  ⟨(((idle.rset .BIST_MODE 0 1).rset .VAULT_ENABLE 0 1).rset .BIST_TARGET 0 48).rset .OWNER_ACTIVE 48 0x84, by decide +kernel⟩

theorem witness_SelfTests_clear : ∃ s : State,
      s.bist.phase = some .clear ∧ s.bist.aborted = false ∧ s.bist.slice + 1 ≠ 64 ∧ (s.bank (s.rget .BIST_TARGET)).waiting = [] :=
  ⟨{ (idle.rset .BIST_STATE 0 1) with bist := { SelfTest.reset with spare := some 0, phase := some .clear, slice := 62 } }, by decide +kernel⟩

theorem witness_SelfTests_copy : ∃ s : State,
      s.bist.phase = some .copy :=
  ⟨{ (idle.rset .BIST_STATE 0 1) with bist := { SelfTest.reset with spare := some 0, phase := some .copy } }, by decide +kernel⟩

theorem witness_SelfTests_test : ∃ s : State,
      s.bist.phase = some .test :=
  ⟨{ (idle.rset .BIST_STATE 0 1) with bist := { SelfTest.reset with spare := some 0, phase := some .test } }, by decide +kernel⟩

theorem witness_SelfTests_restore : ∃ s : State,
      s.bist.phase = some .restore :=
  ⟨{ (idle.rset .BIST_STATE 0 1) with bist := { SelfTest.reset with spare := some 0, phase := some .restore } }, by decide +kernel⟩

theorem witness_SelfTests_offline : ∃ s : State,
      s.bistRunning = true ∧ s.rget .BIST_MODE = 1 ∧ s.rget .BIST_KIND = 1 ∧ s.rget .THROTTLE_F = 0 ∧ s.bist.misr = s.bist.refMisr ∧ s.bist.mismatch = false ∧ s.bist.aborted = false ∧
      s.rget .BIST_EXECUTED = 0 ∧ s.rget .BIST_PLANNED = marchOps (s.rget .BIST_ALGO) * bistAddresses 1 ∧ s.bist.moveDue = false ∧ s.bist.beyond = false :=
  ⟨let a := ((idle.rset .BIST_STATE 0 1).rset .BIST_MODE 0 1).rset .BIST_KIND 0 1; a.rset .BIST_PLANNED 0 (marchOps (a.rget .BIST_ALGO) * bistAddresses 1), by decide +kernel⟩

/-! RequestsAreJudged. -/

theorem witness_RequestsAreJudged_unheard : ∃ s : State,
      senderOf (.maskWrite .i3c 3 1) = some .i3c ∧ heard s .i3c = false :=
  ⟨State.reset, by decide +kernel⟩

theorem witness_RequestsAreJudged_judged : ∃ s : State,
      heard s .coreM = true ∧ s.ctl.waiting = [] ∧ vendorOpen s .coreM (eidOf .ORBIT_LEN 0) = false ∧ elOf 0xEF0000 = none ∧ elOf (eidOf .MT 0) = some (.MT, 0) ∧ El.MT.info.acc = .ro ∧ El.MT.info.blob = false ∧
      elOf (eidOf .ORBIT_LEN 0) = some (.ORBIT_LEN, 0) ∧ El.ORBIT_LEN.info.acc ≠ .ro ∧ El.ORBIT_LEN.info.rights ≤ rightsOf s .coreM ∧ (Nat.ble 2 El.ORBIT_LEN.info.rights && El.ORBIT_LEN != .LOCK_BREAK && lockedOut s .coreM) = true :=
  ⟨(idle.rset .LOCK_OWNER 0 4), by decide +kernel⟩

theorem witness_RequestsAreJudged_length : ∃ s : State,
      heard s .coreM = true ∧ (Nat.ble 2 El.ORBIT_LEN.info.rights && El.ORBIT_LEN != .LOCK_BREAK && lockedOut s .coreM) = false ∧ ([1] : Bytes).length ≠ El.ORBIT_LEN.info.size ∧
      (leBytes 4 0).length = El.ORBIT_LEN.info.size ∧ leVal (leBytes 4 0) < El.ORBIT_LEN.info.lo ∧ leVal (leBytes 4 65537) > El.ORBIT_LEN.info.hi :=
  ⟨idle, by decide +kernel⟩

theorem witness_RequestsAreJudged_rights : ∃ s : State,
      heard s .i3c = true ∧ elOf (eidOf .RIGHTS_I3C 0) = some (.RIGHTS_I3C, 0) ∧ rightsOf s .i3c < El.RIGHTS_I3C.info.rights :=
  ⟨{ idle with life := .field }, by decide +kernel⟩

/-! StateRefusalsAreCounted. -/

theorem witness_StateRefusalsAreCounted_write : ∃ s : State,
      heard s .coreM = true ∧ s.ctl.waiting = [] ∧ vendorOpen s .coreM (eidOf .ORBIT_LEN 0) = false ∧ (dictWrite .coreM (eidOf .ORBIT_LEN 0) (leBytes 4 3000) s).1 = 5 ∧
      (match judge .coreM .ORBIT_LEN 0 (fit .ORBIT_LEN 3000) hOrbitLen s with | .error c => c | .ok _ => 0) = 5 :=
  ⟨run, by decide +kernel⟩

theorem witness_StateRefusalsAreCounted_port : ∃ s : State,
      heard s .coreM = true ∧ s.ctl.waiting = [] ∧ s.dpRefusal .coreM 7 1 false = some 5 :=
  ⟨({ run with dev := .shutdown }).rset .DP_BIND 7 5, by decide +kernel⟩

/-! StepKeepsTheForm. -/

theorem witness_StepKeepsTheForm_all : ∃ s : State,
      SMap.wf s.cells StoredWord.invalid = true ∧ s.cells ≠ [] :=
  ⟨run.setCell 4095 32767 (StoredWord.fresh 5), by decide +kernel⟩

/-! OnlyPowerLeavesShutdown. -/

theorem witness_OnlyPowerLeavesShutdown_all : ∃ s : State,
      s.dev = .shutdown ∧ s.load.active = false ∧ s.load.goldenWait = false ∧ s.safeDue = none :=
  ⟨{ run with dev := .shutdown, pending := [.powerLoss] }, by decide +kernel⟩

/-! Witnesses that rest on the frame code's laws, and on constants that nothing evaluates. -/

theorem mfind_range (p n f : Nat) (g : Nat → BitVec 2093) (h : f < n) :
    mfind ((List.range n).map (fun f => (frameKey p f, g f))) (frameKey p f) = some (g f) := by
  suffices ∀ (l : List Nat), f ∈ l → mfind (l.map (fun f => (frameKey p f, g f))) (frameKey p f) = some (g f) from
    this _ (List.mem_range.mpr h)
  intro l hl
  induction l with
  | nil => cases hl
  | cons a l ih =>
    by_cases e : a = f
    · subst e; simp [mfind]
    · have : frameKey p a ≠ frameKey p f := by unfold frameKey; omega
      simp only [List.map_cons, mfind, this, if_false]
      exact ih (by simpa [Ne.symm e] using hl)

/-- Frame f of a plane alone, of data 9. -/
def oneFrame (p f : Nat) (s : State) : State := { s with frames := [(frameKey p f, makeFrame p f 9)] }

theorem oneFrame_frame (p f : Nat) (s : State) : (oneFrame p f s).frame p f = makeFrame p f 9 := by
  simp [oneFrame, State.frame, mget, mfind]

theorem oneFrame_portRead (p f : Nat) (s : State) (h : (s.plane p).state ≠ 0) : (oneFrame p f s).portRead p f = .good 9 := by
  have e : ((oneFrame p f s).plane p).state ≠ 0 := h
  simp only [State.portRead, oneFrame_frame, classify_makeFrame, frameData_makeFrame, e, if_false]

/-- As hosting, plane 15 in LOADING by an Inner Port. -/
def hosting15 : State :=
  { hosting.setPlane 15 { Plane.empty with state := 1 } with load := { hosting.load with ipPlanes := [(15, [])] } }

theorem witness_InnerPorts_partial : ∃ s : State,
    s.ipReady 0 = true ∧ s.ipRefusal 0 15 0 true = none ∧ mfind s.scr.damage (frameKey 15 0) = none ∧ oneBeat 1 = true ∧ s.portRead 15 0 = .good 9 := by
  refine ⟨oneFrame 15 0 hosting15, by decide +kernel, by decide +kernel, by decide +kernel, by decide +kernel, oneFrame_portRead 15 0 hosting15 (by decide)⟩

theorem witness_InnerPorts_read : ∃ s : State,
    s.ipReady 0 = true ∧ s.ipRefusal 0 15 4799 false = none ∧ s.portRead 15 4799 = .good 9 := by
  refine ⟨oneFrame 15 4799 hosting15, by decide +kernel, by decide +kernel, oneFrame_portRead 15 4799 hosting15 (by decide)⟩

/-- Every frame of a plane, of data 0. -/
def freshFrames (p : Nat) : SMap (BitVec 2093) := (List.range 4800).map (fun f => (frameKey p f, makeFrame p f 0))

/-- As run, with District 2 released in a loaded plane, its Inner Port hosting the frames of District 1. -/
def hosting2 : State :=
  let a := (run.setDist 2 { District.held with released := true, weHeld := false, resetHeld := false }).setPlane 16
    { Plane.empty with state := 2 }
  (a.rset .IP_HOST 1 2).rset .IP_RAW_ALLOWED 0 1

/-- As hosting2, plane 15 in LOADING with every frame written, its schedule that of every bank. -/
def sealing : State :=
  { hosting2.setPlane 15 { Plane.empty with state := 1, c0Banks := BitVec.allOnes 64, c0Write := BitVec.allOnes 64 } with
    frames := freshFrames 15
    load := { hosting2.load with ipPlanes := [(15, [])] } }

/-- The state that SEAL would leave. -/
def sealed (s : State) : State := s.setPlane 15 { s.plane 15 with state := 2, user := s.userOf 15 }

theorem tagsVerify_fresh (p : Nat) (s : State)
    (h : s.frames = freshFrames p) : s.tagsVerify p = true := by
  simp only [State.tagsVerify, List.all_eq_true, List.mem_range]
  intro f hf
  have : s.frame p f = makeFrame p f 0 := by
    rw [State.frame, h, freshFrames, mget, mfind_range p 4800 f (fun f => makeFrame p f 0) hf]
    rfl
  simp only [State.verifies, this, classify_makeFrame]

theorem tagsVerify_multi (p : Nat) (v : BitVec 2093) (s : State) (h : s.frames = [(frameKey p 0, v)])
    (c : classify p 0 v = .multi) : s.tagsVerify p = false := by
  rw [Bool.eq_false_iff]
  intro t
  have := List.all_eq_true.mp t 0 (by simp)
  have e : s.frame p 0 = v := by simp [State.frame, h, mget, mfind]
  simp only [State.verifies, e, c] at this
  cases this

/-- A stored frame of zeros with two wrong check bits. -/
def twoWrong : BitVec 2093 := 3#2093 <<< 2080

theorem oddBits_zero (n : Nat) : oddBits n 0 = false := by
  induction n with
  | zero => rfl
  | succ n ih => simp [oddBits, ih]

theorem twoWrong_multi : classify 15 0 twoWrong = .multi := by
  have t : twoWrong.toNat = 0 + 3 * 2 ^ 2080 := by decide +kernel
  have h1 : frameParity (twoWrong.toNat % 2 ^ 2080) = 0 := by
    have : twoWrong.toNat % 2 ^ 2080 = 0 := by decide +kernel
    rw [this]
    decide +kernel
  have h2 : bitsOf twoWrong.toNat 2091 2080 = 3 := by decide +kernel
  have h3 : oddBits 2093 twoWrong.toNat = false := by
    rw [t, show 2093 = 2080 + 13 from rfl, oddBits_add 2080 13 0 3 (Nat.two_pow_pos 2080), oddBits_zero]
    decide
  unfold classify
  dsimp only
  rw [h1, h2, h3]
  decide

/-- As sealing, with one frame of two wrong bits. -/
def sealingBad : State := { sealing with frames := [(frameKey 15 0, twoWrong)] }

theorem sealingBad_tags : sealingBad.tagsVerify 15 = false := tagsVerify_multi 15 twoWrong sealingBad rfl twoWrong_multi

theorem sealFault_tags (p : Nat) (s t : State) (h : s.tagsVerify p = false) : s.sealFault t p = some (2, 0) := by
  simp [State.sealFault, h]

theorem witness_InnerPorts_sealFails : ∃ s : State,
    s.ipReady 2 = true ∧ s.ipRefusal 2 15 0 false = none ∧ s.ipWrites 15 = true ∧ s.sealFault (sealed s) 15 = some (2, 0) :=
  ⟨sealingBad, by decide +kernel, by decide +kernel, by decide +kernel, sealFault_tags 15 _ _ sealingBad_tags⟩

/-- sealing with plane 15 LOADED, whatever its frames set. -/
def sealedAs (u : PlaneUser) : State := sealing.setPlane 15 { sealing.plane 15 with state := 2, user := u }

theorem sealedAs_census (u : PlaneUser) : (sealedAs u).censusFails [15 / 16] = none := by
  have h : ∀ k, k < 8 → (sealedAs u).drives k = 0 := by
    intro k hk
    match k, hk with
    | 0, _ | 1, _ | 2, _ | 3, _ | 4, _ | 5, _ | 6, _ | 7, _ => rfl
  have c : ∀ a b, (sealedAs u).census 0 a b = true := by
    intro a b
    unfold State.census
    simp only [Nat.mul_zero, Nat.zero_add]
    split
    · exact List.all_eq_true.mpr (fun k hk => by simp [h k (List.mem_range.mp hk)])
    · exact List.all_eq_true.mpr (fun k hk => List.all_eq_true.mpr (fun j _ => by simp [h k (List.mem_range.mp hk)]))
  simp [State.censusFails, c]

theorem sealedAs_schedule (u : PlaneUser) : scheduleBad (sealedAs u) 15 = false := by
  have p1 : protectedMask (sealedAs u) 0 = 0 := rfl
  have p2 : ringMask (sealedAs u) 0 = 0 := rfl
  have p3 : ((sealedAs u).plane 15).c0Banks = BitVec.allOnes 64 := rfl
  have p4 : ((sealedAs u).plane 15).c0Write = BitVec.allOnes 64 := rfl
  simp [scheduleBad, p1, p2, p3, p4]

theorem sealedAs_clash (u : PlaneUser) : ∀ a ∈ (sealedAs u).loadedPlanes, quarterClash (sealedAs u) (a / 16) = none := by
  have l : (sealedAs u).loadedPlanes = [15, 16] := rfl
  rw [l]
  intro a h
  have q0 : quarterClash (sealedAs u) 0 = none := rfl
  have q1 : quarterClash (sealedAs u) 1 = none := rfl
  simp only [List.mem_cons, List.not_mem_nil, or_false] at h
  rcases h with rfl | rfl
  · exact q0
  · exact q1

theorem sealedAs_ledger (u : PlaneUser) : ledgerChecks (sealedAs u) [] [15] [] { paths := [], taps := [] } = none := by
  have c8 : ledgerCheck8 (sealedAs u) [] [15] = none := by
    have q : quarterSchedule (sealedAs u) 0 = none := by
      have l : ((List.range 8).map (fun k => 8 * (2 * 0) + k)).filter (sealedAs u).loaded = [] := rfl
      have r : ((List.range 8).map (fun k => 8 * (2 * 0 + 1) + k)).filter (sealedAs u).loaded = [15] := rfl
      unfold quarterSchedule
      simp only [l, r]
      have c : quarterClash (sealedAs u) 0 = none := rfl
      simp [sealedAs_schedule, c]
    have e : (([15] : List Nat).map (· / 16)).eraseDups = [0] := by decide
    unfold ledgerCheck8
    rw [e]
    simp [q, firstBad, schedRecords, recordsAt, nSched, fieldAt, chunks, leVal]
    exact sealedAs_clash u
  have j : tapsJudged [15] { paths := [], taps := [] } = [] := rfl
  have c3 : ledgerCheck3 [] [] [] = none := by decide
  have c4 : ledgerCheck4 (sealedAs u) [] { paths := [], taps := [] } [] = none := by
    simp [ledgerCheck4, firstBad, portRecords, recordsAt, nPorts, fieldAt, chunks, leVal]
  simp [ledgerChecks, j, c3, c4, c8, firstTap]

theorem sealing_frames : sealing.frames = freshFrames 15 := by
  unfold sealing
  simp only []

theorem sealing_passes : sealing.sealFault (sealed sealing) 15 = none := by
  have e : sealed sealing = sealedAs (sealing.userOf 15) := rfl
  have p : sealing.dec.paths = [] := rfl
  have q : sealing.dec.taps = [] := rfl
  have k : sealing.closeKept 15 = true := by
    have : sealing.plane 15 = { Plane.empty with state := 1, c0Banks := BitVec.allOnes 64, c0Write := BitVec.allOnes 64 } := rfl
    simp [State.closeKept, this]
  rw [e]
  unfold State.sealFault
  rw [tagsVerify_fresh 15 sealing sealing_frames, sealedAs_census, p, q, k]
  simp [traced, sealedAs_ledger]

theorem witness_InnerPorts_seal : ∃ s : State,
    s.ipReady 2 = true ∧ s.ipRefusal 2 15 0 false = none ∧ s.ipWrites 15 = true ∧ s.sealFault (sealed s) 15 = none ∧
      (sealed s).scheduledUnderTest [15] = false :=
  ⟨sealing, by decide +kernel, by decide +kernel, by decide +kernel, sealing_passes, rfl⟩

/-- As sweeping, with frame f of the plane stored so. -/
def stored (p f : Nat) (v : BitVec 2093) (s : State) : State := { s with frames := [(frameKey p f, v)] }

theorem stored_frame (p f : Nat) (v : BitVec 2093) (s : State) : (stored p f v s).frame p f = v := by
  simp [stored, State.frame, mget, mfind]

theorem stored_clean (p f : Nat) (s : State) : classify p f ((stored p f (makeFrame p f 9) s).frame p f) = .clean := by
  rw [stored_frame, classify_makeFrame]

theorem stored_corrected (p f : Nat) (s : State) :
    classify p f ((stored p f (makeFrame p f 9 ^^^ (1#2093 <<< 2092)) s).frame p f) = .corrected (makeFrame p f 9) := by
  rw [stored_frame, classify_topWrong]

theorem witness_SweepCorrects_clean : ∃ s : State,
    s.memoryOn = true ∧ s.scr.begun = true ∧ s.paused 0 1 = false ∧ s.sweepDone 0 = false ∧ s.loaded 0 = true ∧
      mget s.scr.sets 0 [] = [0] ∧ mget s.scr.reads 0 0 = 0 ∧ classify 0 0 (s.frame 0 0) = .clean :=
  ⟨stored 0 0 (makeFrame 0 0 9) (sweeping 0), by decide +kernel, by decide +kernel, by decide +kernel, by decide +kernel,
    by decide +kernel, by decide +kernel, by decide +kernel, stored_clean 0 0 _⟩

theorem witness_SweepCorrects_corrected : ∃ s : State,
    s.memoryOn = true ∧ s.scr.begun = true ∧ s.paused 0 1 = false ∧ s.sweepDone 0 = false ∧ s.loaded 0 = true ∧
      mget s.scr.sets 0 [] = [0] ∧ mget s.scr.reads 0 0 = 0 ∧ s.scr.checkOnly = false ∧ mfind s.scr.damage (frameKey 0 0) = none ∧
      classify 0 0 (s.frame 0 0) = .corrected (makeFrame 0 0 9) ∧ classify 0 0 (makeFrame 0 0 9) = .clean :=
  ⟨stored 0 0 (makeFrame 0 0 9 ^^^ (1#2093 <<< 2092)) (sweeping 0), by decide +kernel, by decide +kernel, by decide +kernel,
    by decide +kernel, by decide +kernel, by decide +kernel, by decide +kernel, by decide +kernel, by decide +kernel, stored_corrected 0 0 _, classify_makeFrame 0 0 9⟩

theorem witness_SweepCorrects_contention : ∃ s : State,
    s.scr.handed = [(0, 4799, 3)] ∧ (s.plane 0).state = 2 ∧ classify 0 4799 (s.frame 0 4799) = .clean ∧ s.ticketState 3 ≠ 0 :=
  ⟨stored 0 4799 (makeFrame 0 4799 9) { running0 with
      load := { Loader.reset with tickets := [(3, 1)] }, scr := { CfgScrub.reset with handed := [(0, 4799, 3)] } },
    by decide +kernel, by decide +kernel, stored_clean 0 4799 _, by decide +kernel⟩

theorem witness_SweepCorrects_repairClean : ∃ s : State,
    s.scr.busy = none ∧ s.scr.queue = [{ ticket := 3, plane := 0, frame := 0, rank := 2 }] ∧ classify 0 0 (s.frame 0 0) = .clean :=
  ⟨stored 0 0 (makeFrame 0 0 9) { running0 with
      scr := { CfgScrub.reset with queue := [{ ticket := 3, plane := 0, frame := 0, rank := 2 }] } },
    by decide +kernel, by decide +kernel, stored_clean 0 0 _⟩

/-- As running0, the frame reserve on and plane 0's fill at frame 5, the next free byte of its slot given. -/
def filling (tail : Nat) : State :=
  setCopies .FR_ENABLE 1 { running0 with scr := { CfgScrub.reset with slots := [(0, 0)], filling := [(0, 5)], tails := [(0, tail)] } }

theorem stored_readsBack (p f : Nat) (s : State) : (stored p f (makeFrame p f 9) s).readsBack p f = true := by
  simp only [State.readsBack, stored_clean]
  rfl

theorem stored_record (p f : Nat) (s : State) :
    (makeRecord (frameData ((stored p f (makeFrame p f 9) s).frame p f))).1.length = (makeRecord 9).1.length := by
  rw [stored_frame, frameData_makeFrame]

theorem leBytes_size (k n : Nat) : (leBytes k n).length = k := by
  induction k generalizing n with
  | zero => rfl
  | succ k ih => simp [leBytes, ih]

/-- A record takes at most a frame's 256 bytes and its 4 check bytes, whatever the compression. -/
theorem makeRecord_size (d : BitVec 2048) : (makeRecord d).1.length ≤ 260 := by
  unfold makeRecord
  dsimp only
  split
  · next h =>
    simp only [Bool.and_eq_true] at h
    have := Nat.le_of_ble_eq_true h.1
    simp only [List.length_append, leBytes_size]
    omega
  · simp [leBytes_size]

theorem witness_ScrubSettings_fill : ∃ s : State,
    s.scr.filling = [(0, 5)] ∧ s.loaded 0 = true ∧ s.votedSetting .FR_ENABLE = 1 ∧ s.memoryOn = true ∧ s.readsBack 0 5 = true ∧
      mget s.scr.tails 0 directoryLen + (makeRecord (frameData (s.frame 0 5))).1.length ≤ s.slotSize := by
  refine ⟨stored 0 5 (makeFrame 0 5 9) (filling 40000), by decide +kernel, by decide +kernel, by decide +kernel, by decide +kernel,
    stored_readsBack 0 5 _, ?_⟩
  rw [stored_record]
  have a : mget (stored 0 5 (makeFrame 0 5 9) (filling 40000)).scr.tails 0 directoryLen = 40000 := by decide +kernel
  have b : (stored 0 5 (makeFrame 0 5 9) (filling 40000)).slotSize = 1310720 := by decide +kernel
  have := makeRecord_size 9
  omega

theorem witness_ScrubSettings_fillFull : ∃ s : State,
    s.scr.filling = [(0, 5)] ∧ s.loaded 0 = true ∧ s.votedSetting .FR_ENABLE = 1 ∧ s.memoryOn = true ∧ s.readsBack 0 5 = true ∧
      s.slotSize < mget s.scr.tails 0 directoryLen + (makeRecord (frameData (s.frame 0 5))).1.length := by
  refine ⟨stored 0 5 (makeFrame 0 5 9) (filling (2 ^ 40)), by decide +kernel, by decide +kernel, by decide +kernel, by decide +kernel,
    stored_readsBack 0 5 _, ?_⟩
  have a : mget (stored 0 5 (makeFrame 0 5 9) (filling (2 ^ 40))).scr.tails 0 directoryLen = 2 ^ 40 := by decide +kernel
  have b : (stored 0 5 (makeFrame 0 5 9) (filling (2 ^ 40))).slotSize = 1310720 := by decide +kernel
  omega

theorem witness_FirmwareAndWatchdog_romService : ∃ s : State,
    s.run.running = true ∧ s.run.entered = false ∧ s.run.romService = false ∧ s.slotPasses s.activeSlot = false ∧
      s.slotPasses (1 - s.activeSlot) = false := by
  have a : ∀ i, i < 2 → State.slotPasses run i = false := by decide +kernel
  have b : run.activeSlot < 2 := by unfold State.activeSlot; split <;> decide
  exact ⟨run, by decide +kernel, by decide +kernel, by decide +kernel, a _ b, a _ (by omega)⟩

/-- The first sector of a firmware of no bytes: its magic number and the beginning of the digest of nothing. -/
def firstSector : BitVec 512 :=
  0xdae1f663bfc70c4c4307be1411b7fd216ae3b1b17e32d94c3896ac51a760b038000000000000000000000000000000000000000000000000000000005746574b#512

theorem firstSector_bytes : sectorBytes firstSector =
    [75, 87, 70, 87, 0, 0, 0, 0, 0, 0, 0, 0, 0, 0, 0, 0, 0, 0, 0, 0, 0, 0, 0, 0, 0, 0, 0, 0, 0, 0, 0, 0, 56, 176, 96,
    167, 81, 172, 150, 56, 76, 217, 50, 126, 177, 177, 227, 106, 33, 253, 183, 17, 20, 190, 7, 67, 76, 12, 199, 191,
    99, 246, 225, 218] := by decide +kernel

theorem noSector_bytes : sectorBytes 0 = List.replicate 64 0 := by decide +kernel

/-- As run, with one firmware of no bytes in both slots: b and c hold the digest's end and the signature. -/
def programmed (b c : BitVec 512) : State :=
  { run with keeper := { Keeper.blank with
      sectors := [(64, firstSector), (65, b), (66, c), (16448, firstSector), (16449, b), (16450, c)] } }

/-- The header's bytes. -/
def programmedHeader (b c : BitVec 512) : Bytes :=
  ([sectorBytes firstSector, sectorBytes b, sectorBytes c] ++ List.replicate 5 (sectorBytes 0)).flatten.take 512

theorem programmed_header (b c : BitVec 512) (i : Nat) (h : i < 2) :
    (programmed b c).keeperBytes (slotFirst i) 512 = programmedHeader b c := by
  have : ceilDiv 512 64 = 8 := by decide
  match i, h with
  | 0, _ | 1, _ => simp [State.keeperBytes, slotFirst, programmed, programmedHeader, this, List.range, List.range.loop, mget, mfind]

set_option maxRecDepth 10000 in
theorem programmed_fields (b c : BitVec 512) :
    fwMagicOk (programmedHeader b c) = true ∧ fwReservedOk (programmedHeader b c) = true ∧
      fwLengthsOk (programmedHeader b c) = true ∧ fwField (programmedHeader b c) 8 2 = 0 ∧
      fwILen (programmedHeader b c) + fwDLen (programmedHeader b c) + fwUILen (programmedHeader b c)
        + fwUDLen (programmedHeader b c) = 0 := by
  unfold programmedHeader
  rw [firstSector_bytes, noSector_bytes]
  refine ⟨rfl, rfl, rfl, rfl, rfl⟩

/-- Where the firmware key signed a header, a core boots from either slot that holds it. -/
theorem witness_FirmwareAndWatchdog_enters (b c : BitVec 512)
    (d : (sha384 [] == ((programmedHeader b c).drop 32).take 48) = true)
    (g : signatureOk Config.firmwareKey ((programmedHeader b c).take 80) (((programmedHeader b c).drop 80).take 96) = true) :
    ∃ s : State, s.run.running = true ∧ s.run.entered = false ∧ s.run.romService = false ∧ s.slotPasses s.activeSlot = true := by
  obtain ⟨m, r, l, n, y⟩ := programmed_fields b c
  have k : (programmed b c).keeper.failed = false := rfl
  have z : (programmed b c).keeper.fwCounter = 0 := rfl
  have a (i : Nat) (h : i < 2) : (programmed b c).slotPasses i = true := by
    have w : (programmed b c).keeperBytes (slotFirst i + 8) 0 = [] := by simp [State.keeperBytes]
    have q : (fwSectors i (programmedHeader b c)).all (fun n => !(programmed b c).keeper.bad.contains n) = true := by
      simp [programmed, Keeper.blank]
    simp only [State.slotPasses, programmed_header b c i h, q, m, r, l, n, k, z, State.fwBody, y, w, d, g]
    rfl
  have p : (programmed b c).activeSlot < 2 := by unfold State.activeSlot; split <;> decide
  exact ⟨programmed b c, rfl, rfl, rfl, a _ p⟩

end Sys2Proof.Tests
end

section
/-! The mode of a device: what decides whether it can leave SHUTDOWN, and that no function of the model but those of the next part
changes it. One rule per function, in the order of the definitions. -/

namespace Sys2Proof.Machine

/-- What decides whether a device can leave SHUTDOWN (R14): its state, the load in progress, the wait for a golden stream, and a
SAFE_ENTER that waits. -/
structure Mode where
  dev : DevState
  loading : Bool
  awaiting : Bool
  safeDue : Option Nat

def State.mode (s : State) : Mode :=
  { dev := s.dev, loading := s.load.active, awaiting := s.load.goldenWait, safeDue := s.safeDue }

/-- An outcome whose next state, where there is one, has the mode of `s`. -/
def Kept (s : State) (o : Host.Outcome State Fault Refusal) : Prop := ∀ t, o = .next t → t.mode = s.mode

/-- A handler's result whose state, where there is one, has the mode of `s`. -/
def KeptOk (s : State) (r : Except Nat State) : Prop := ∀ t, r = .ok t → t.mode = s.mode

/-- A handler whose act leaves the mode. -/
def Handler.KeepsMode (h : Handler) : Prop := ∀ v s, KeptOk s (h.act v s)

/-! What a function of the state makes of the mode is said by `simp`, from the lemmas about the functions it calls. -/

@[simp] theorem mode_mk (s : State) {pending regs force deferred fv life userRights cut lossHeld lossFrom resetDue fabricOn tb rb ports
    cells banks lanes fixed rings mem bist dec eb queues qports trunks load scr dbg run mbox lc freeze power heat dists planes frames
    flops fabric guards dram recorder pinsTaken noted ctl core keeper devName} (ha : load.active = s.load.active)
    (hg : load.goldenWait = s.load.goldenWait) :
    State.mode
      { pending, regs, force, deferred, fv, dev := s.dev, life, userRights, cut, lossHeld, lossFrom, safeDue := s.safeDue, resetDue,
        fabricOn, tb, rb, ports, cells, banks, lanes, fixed, rings, mem, bist, dec, eb, queues, qports, trunks, load, scr, dbg, run,
        mbox, lc, freeze, power, heat, dists, planes, frames, flops, fabric, guards, dram, recorder, pinsTaken, noted, ctl, core,
        keeper, devName } = s.mode := by
  simp only [State.mode, ha, hg]

@[simp] theorem mode_ite (c : Prop) [Decidable c] (s t : State) : (if c then s else t).mode = if c then s.mode else t.mode :=
  apply_ite ..

@[simp] theorem snd_mode_ite {α : Type} (c : Prop) [Decidable c] (a b : α × State) :
    (if c then a else b).2.mode = if c then a.2.mode else b.2.mode :=
  apply_ite (fun r : α × State => r.2.mode) ..

@[simp] theorem snd_snd_mode_ite {α β : Type} (c : Prop) [Decidable c] (a b : α × β × State) :
    (if c then a else b).2.2.mode = if c then a.2.2.mode else b.2.2.mode :=
  apply_ite (fun r : α × β × State => r.2.2.mode) ..

@[simp] theorem state_mode_ite (c : Prop) [Decidable c] (a b : MapResult) :
    (if c then a else b).state.mode = if c then a.state.mode else b.state.mode :=
  apply_ite (fun r : MapResult => r.state.mode) ..

@[simp] theorem foldl_mode {α : Type} {f : State → α → State} {l : List α} {s : State} (h : ∀ t a, (f t a).mode = t.mode) :
    (l.foldl f s).mode = s.mode := by
  induction l generalizing s with
  | nil => rfl
  | cons a l ih => exact ih.trans (h s a)

@[simp] theorem kept_next (s t : State) : Kept s (.next t) ↔ t.mode = s.mode := by simp [Kept]

@[simp] theorem kept_ite (c : Prop) [Decidable c] (s : State) (a b : Host.Outcome State Fault Refusal) :
    Kept s (if c then a else b) ↔ (c → Kept s a) ∧ (¬c → Kept s b) := by
  split <;> simp [*]

@[simp] theorem keptOk_ok (s t : State) : KeptOk s (.ok t) ↔ t.mode = s.mode := by simp [KeptOk]

@[simp] theorem keptOk_error (s : State) (c : Nat) : KeptOk s (.error c) := by simp [KeptOk]

@[simp] theorem keptOk_ite (c : Prop) [Decidable c] (s : State) (a b : Except Nat State) :
    KeptOk s (if c then a else b) ↔ (c → KeptOk s a) ∧ (¬c → KeptOk s b) := by
  split <;> simp [*]

@[simp] theorem Handler.mk_keepsMode (allow : Route → Nat → State → Bool) (range : Nat → State → Bool)
    (act : Nat → State → Except Nat State) : Handler.KeepsMode { allow, range, act } ↔ ∀ v s, KeptOk s (act v s) := Iff.rfl

@[simp] theorem Handler.doing_keepsMode (f : Nat → State → Except Nat State) :
    (Handler.doing f).KeepsMode ↔ ∀ v s, KeptOk s (f v s) := Iff.rfl

/-! Writes of the state's parts. -/

@[simp] theorem State.rset_mode (s : State) (e : El) (u v : Nat) : (s.rset e u v).mode = s.mode := by simp [State.rset]

@[simp] theorem State.raise_mode (s : State) (e u v : Nat) (b) : (s.raise e u v b).mode = s.mode := by
  obtain ⟨g, r, h⟩ := raise_frame s e u v b
  simp [h]

@[simp] theorem answerTo_mode (w : Route) (c : Nat) (d : Bytes) (s : State) : (answerTo w c d s).mode = s.mode := by
  cases w <;> rfl

@[simp] theorem State.setLoad_mode (s : State) (l : Loader) (ha : l.active = s.load.active) (hg : l.goldenWait = s.load.goldenWait) :
    (s.setLoad l).mode = s.mode := by
  simp [mode, setLoad, ha, hg]

/-! ### Machine/Ops -/

@[simp] theorem State.radd_mode (s : State) (e : El) (u n : Nat) : (s.radd e u n).mode = s.mode := by simp [State.radd]

@[simp] theorem State.rinc_mode (s : State) (e : El) (u : Nat) : (s.rinc e u).mode = s.mode := by simp [State.rinc]

@[simp] theorem State.rclear_mode (s : State) (u : Nat) (es : List El) : (s.rclear u es).mode = s.mode := by simp [State.rclear]

@[simp] theorem State.rdefer_mode (s : State) (e : El) (u v : Nat) : (s.rdefer e u v).mode = s.mode := by simp [State.rdefer]

@[simp] theorem State.enforce_mode (s : State) : s.enforce.mode = s.mode := by simp [State.enforce]

@[simp] theorem State.draw_mode (s : State) : s.draw.2.mode = s.mode := by simp [State.draw]

@[simp] theorem latchIrq_mode (k : Nat) (s : State) : (latchIrq k s).mode = s.mode := by simp [latchIrq]

@[simp] theorem State.raiseLimited_mode (s : State) (period key severity code unit : Nat) (detail : Bytes) :
    (s.raiseLimited period key severity code unit detail).mode = s.mode := by
  unfold State.raiseLimited
  split <;> simp

/-! ### Machine/Traps -/

@[simp] theorem State.setRun_mode (s : State) (r : CoreRun) : (s.setRun r).mode = s.mode := by simp [State.setRun]

@[simp] theorem takeHalt_mode (cause trigger : Nat) (broken : Bool) (s : State) :
    (takeHalt cause trigger broken s).mode = s.mode := by
  simp [takeHalt]

@[simp] theorem takeDeferred_mode (broken : Bool) (s : State) : (takeDeferred broken s).mode = s.mode := by
  unfold takeDeferred
  split <;> simp

@[simp] theorem coreTrap_mode (cause value : Nat) (s : State) : (coreTrap cause value s).mode = s.mode := by simp [coreTrap]

@[simp] theorem accessFault_mode (store : Bool) (a : Nat) (s : State) : (accessFault store a s).mode = s.mode := by
  simp [accessFault]

/-! ### Machine/Responses -/

@[simp] theorem pendIbi_mode (mdb first second : Nat) (s : State) : (pendIbi mdb first second s).mode = s.mode := by
  simp [pendIbi]

@[simp] theorem State.setCtl_mode (s : State) (c : Control) : (s.setCtl c).mode = s.mode := by simp [State.setCtl]

@[simp] theorem State.setI3c_mode (s : State) (x : I3cTarget) : (s.setI3c x).mode = s.mode := by simp [State.setI3c]

@[simp] theorem State.setIvtor_mode (s : State) (x : Ivtor) : (s.setIvtor x).mode = s.mode := by simp [State.setIvtor]

@[simp] theorem ivtorReply_mode (r : IvtorReply) (s : State) : (ivtorReply r s).mode = s.mode := by simp [ivtorReply]

@[simp] theorem respond_mode (r : HeldRequest) (status : Nat) (data : Bytes) (s : State) :
    (respond r status data s).mode = s.mode := by
  unfold respond
  split <;> simp

@[simp] theorem answerFaults_mode (n : Nat) (s : State) : (answerFaults n s).mode = s.mode := by
  fun_induction answerFaults <;> simp [*]

/-! ### Machine/Control -/

@[simp] theorem Handler.store_keepsMode (e : El) (u : Nat) : (Handler.store e u).KeepsMode := by
  simp [Handler.KeepsMode, Handler.store]

/-- A write that is performed: its handler acted, and the device's state did not refuse the element, unless a load set it. -/
theorem judge_ok {w : Route} {e : El} {u : Nat} {v : Option Nat} {h : Handler} {s t : State} (hj : judge w e u v h s = .ok t) :
    ∃ n, h.act n s = .ok t ∧ (settable e = false → stateRefusal e.info.cls s.dev = none) := by
  unfold judge at hj
  extract_lets i at hj
  split at hj
  · cases hj
  split at hj
  · cases hj
  next hd =>
  split at hj
  · cases hj
  split at hj
  · cases hj
  next n =>
  split at hj
  · cases hj
  split at hj
  · cases hj
  next hr =>
  refine ⟨n, hj, fun hs => ?_⟩
  split at hr
  · simp_all
  · exact hr

theorem judge_mode {w : Route} {e : El} {u : Nat} {v : Option Nat} {h : Handler} {s t : State} (hh : h.KeepsMode)
    (hj : judge w e u v h s = .ok t) : t.mode = s.mode := by
  obtain ⟨n, ha, -⟩ := judge_ok hj
  exact hh n s t ha

@[simp] theorem refusedWith_mode (w : Route) (eid code : Nat) (s : State) : (refusedWith w eid code s).mode = s.mode := by
  simp [refusedWith]

theorem performFront_mode {f : State → Nat × Bytes × State} (r : HeldRequest) (rest : List HeldRequest) (s : State)
    (hf : ∀ t, (f t).2.2.mode = t.mode) : (performFront r rest f s).mode = s.mode := by
  simp [performFront, hf]

theorem inTurn_mode {f : State → Nat × Bytes × State} (w : Route) (asks : HeldRequest → Bool) (s : State)
    (hf : ∀ t, (f t).2.2.mode = t.mode) : (inTurn w asks f s).mode = s.mode := by
  unfold inTurn
  split
  · simp [hf]
  · simp [performFront_mode, hf]

@[simp] theorem judged_mode {h : Handler} (w : Route) (e : El) (u : Nat) (v : Option Nat) (s : State) (hh : h.KeepsMode) :
    (judged w e u v h s).2.mode = s.mode := by
  unfold judged
  split
  · next hj => exact judge_mode hh hj
  · simp

@[simp] theorem request_mode {h : Handler} (w : Route) (e : El) (u : Nat) (v : Option Nat) (s : State) (hh : h.KeepsMode) :
    (request w e u v h s).mode = s.mode := by
  unfold request
  split
  · exact inTurn_mode _ _ _ fun t => judged_mode w e u v t hh
  · rfl

@[simp] theorem write_kept {h : Handler} (w : Route) (e : El) (u v : Nat) (s : State) (hh : h.KeepsMode) :
    Kept s (write w e u v h s) := by
  simp [write, hh]

@[simp] theorem releaseLock_mode (s : State) : (releaseLock s).mode = s.mode := by simp [releaseLock]

@[simp] theorem releaseLockOf_mode (c : Nat) (s : State) : (releaseLockOf c s).mode = s.mode := by simp [releaseLockOf]

/-! ### Machine/Words -/

@[simp] theorem State.setCellAt_mode (s : State) (q place addr : Nat) (w : StoredWord) :
    (s.setCellAt q place addr w).mode = s.mode := by
  simp [State.setCellAt]

@[simp] theorem dropCells_mode (q place first count : Nat) (s : State) : (dropCells q place first count s).mode = s.mode := by
  simp [dropCells]

@[simp] theorem blankPlace_mode (q place : Nat) (zero : Bool) (s : State) : (blankPlace q place zero s).mode = s.mode := by
  simp [blankPlace]

@[simp] theorem State.setCell_mode (s : State) (n addr : Nat) (w : StoredWord) : (s.setCell n addr w).mode = s.mode := by
  simp [State.setCell]

@[simp] theorem ownerInterrupt_mode (n cause : Nat) (s : State) : (ownerInterrupt n cause s).mode = s.mode := by
  simp [ownerInterrupt]

@[simp] theorem correctable_mode (n addr syndrome : Nat) (s : State) : (correctable n addr syndrome s).mode = s.mode := by
  simp [correctable]

@[simp] theorem setRepairs_mode (q : Nat) (l : List (Nat × Bool)) (s : State) : (setRepairs q l s).mode = s.mode := by
  simp [setRepairs]

@[simp] theorem listRepair_mode (n addr : Nat) (ue : Bool) (s : State) : (listRepair n addr ue s).mode = s.mode := by
  simp [listRepair]

@[simp] theorem uncorrectable_mode (n addr index router : Nat) (s : State) :
    (uncorrectable n addr index router s).mode = s.mode := by
  simp [uncorrectable]

@[simp] theorem readStored_mode (w : StoredWord) (n addr index router : Nat) (s : State) :
    (readStored w n addr index router s).2.mode = s.mode := by
  unfold readStored
  dsimp only
  split <;> simp

@[simp] theorem readRowAs_mode (w0 w1 : StoredWord) (n row index router : Nat) (s : State) :
    (readRowAs w0 w1 n row index router s).2.mode = s.mode := by
  simp [readRowAs]

@[simp] theorem flipWord_mode (n addr : Nat) (w : StoredWord) (s : State) : (flipWord n addr w s).mode = s.mode := by
  unfold flipWord
  split <;> simp

@[simp] theorem writeWord_mode (n addr index router : Nat) (d : BitVec 64) (be : Nat) (s : State) :
    (writeWord n addr index router d be s).2.mode = s.mode := by
  simp only [writeWord]
  split
  · simp
  · split
    · simp
    · split <;> simp

@[simp] theorem poisonRow_mode (n row : Nat) (s : State) : (poisonRow n row s).mode = s.mode := by simp [poisonRow]

@[simp] theorem writeRow_mode (n row index router : Nat) (d : BitVec 128) (be : Nat) (s : State) :
    (writeRow n row index router d be s).2.mode = s.mode := by
  simp [writeRow]

/-! ### Machine/BankRules -/

@[simp] theorem State.setDist_mode (s : State) (d : Nat) (x : District) : (s.setDist d x).mode = s.mode := by
  simp [State.setDist]

@[simp] theorem State.setPlane_mode (s : State) (k : Nat) (x : Plane) : (s.setPlane k x).mode = s.mode := by
  simp [State.setPlane]

@[simp] theorem State.setRing_mode (s : State) (q : Nat) (r : Ring) : (s.setRing q r).mode = s.mode := by simp [State.setRing]

@[simp] theorem State.setBank_mode (s : State) (n : Nat) (b : BankPort) : (s.setBank n b).mode = s.mode := by
  simp [State.setBank]

@[simp] theorem foundWords_mode (n row : Nat) (cycle : Option Nat) (s : State) :
    (foundWords n row cycle s).2.mode = s.mode := by
  unfold foundWords
  induction (s.bank n).prior with
  | nil => rfl
  | cons p l ih =>
    rw [List.foldr_cons]
    split
    · exact ih
    · split
      · exact ih
      · exact ih
      · simpa using ih

@[simp] theorem keepPrior_mode (n row : Nat) (cycle : Option Nat) (s : State) : (keepPrior n row cycle s).mode = s.mode := by
  simp [keepPrior]

@[simp] theorem overlayPrior_mode (n row : Nat) (d : BitVec 128) (be : Nat) (s : State) :
    (overlayPrior n row d be s).mode = s.mode := by
  simp [overlayPrior]

@[simp] theorem poisonPrior_mode (n row : Nat) (s : State) : (poisonPrior n row s).mode = s.mode := by simp [poisonPrior]

@[simp] theorem agePriors_mode (s : State) : (agePriors s).mode = s.mode := by simp [agePriors]

@[simp] theorem readWord_mode (n addr index router : Nat) (s : State) : (readWord n addr index router s).2.mode = s.mode := by
  simp [readWord]

@[simp] theorem readRow_mode (n row index router : Nat) (s : State) : (readRow n row index router s).2.mode = s.mode := by
  simp [readRow]

@[simp] theorem plazaWriteRow_mode (n row index router : Nat) (d : BitVec 128) (be : Nat) (s : State) :
    (plazaWriteRow n row index router d be s).2.mode = s.mode := by
  simp [plazaWriteRow]

@[simp] theorem plazaWriteWord_mode (n addr index router : Nat) (d : BitVec 64) (be : Nat) (s : State) :
    (plazaWriteWord n addr index router d be s).2.mode = s.mode := by
  simp [plazaWriteWord]

@[simp] theorem faultOfCore_mode (n : Nat) (w : Waiting) (a : Answer) (s : State) : (faultOfCore n w a s).mode = s.mode := by
  unfold faultOfCore
  split <;> simp

@[simp] theorem answerLane_mode (key order : Nat) (a : Answer) (s : State) : (answerLane key order a s).mode = s.mode := by
  simp [answerLane]

@[simp] theorem issue_mode (key : Nat) (s : State) : (issue key s).2.mode = s.mode := by simp [issue]

@[simp] theorem deliver_mode (key : Nat) (s : State) : (deliver key s).mode = s.mode := by
  unfold deliver
  dsimp only
  split <;> simp

@[simp] theorem issueFixed_mode (key : Nat) (s : State) : (issueFixed key s).2.mode = s.mode := by simp [issueFixed]

@[simp] theorem answerFixed_mode (key order : Nat) (a : Answer) (s : State) : (answerFixed key order a s).mode = s.mode := by
  simp [answerFixed]

@[simp] theorem answerFixedNow_mode (key : Nat) (a : Answer) (s : State) : (answerFixedNow key a s).mode = s.mode := by
  simp [answerFixedNow]

@[simp] theorem denied_mode (n : Nat) (r : Requester) (s : State) : (denied n r s).mode = s.mode := by simp [denied]

@[simp] theorem answerRequest_mode (n : Nat) (w : Waiting) (a : Answer) (s : State) :
    (answerRequest n w a s).mode = s.mode := by
  simp [answerRequest]

@[simp] theorem startHandover_mode (n v : Nat) (s : State) : (startHandover n v s).mode = s.mode := by simp [startHandover]

/-! ### Machine/Vault -/

@[simp] theorem blankBank_mode (n : Nat) (zero : Bool) (s : State) : (blankBank n zero s).mode = s.mode := by
  simp only [blankBank]
  split
  · split <;> simp
  · split <;> simp

@[simp] theorem clearBank_mode (n : Nat) (s : State) : (clearBank n s).mode = s.mode := by simp [clearBank]

@[simp] theorem endInvalidation_mode (n : Nat) (s : State) : (endInvalidation n s).mode = s.mode := by
  simp only [endInvalidation]
  split
  · split <;> simp
  · simp

/-! ### Machine/Pmp -/

@[simp] theorem State.setPmp_mode (s : State) (i : Nat) (e : PmpEntry) : (s.setPmp i e).mode = s.mode := by simp [State.setPmp]

@[simp] theorem putPmpCfg_mode (i v : Nat) (s : State) : (putPmpCfg i v s).mode = s.mode := by simp [putPmpCfg]

@[simp] theorem putPmpAddr_mode (i v : Nat) (s : State) : (putPmpAddr i v s).mode = s.mode := by simp [putPmpAddr]

theorem putPmpCsr_mode {n v : Nat} {s t : State} (h : putPmpCsr n v s = some t) : t.mode = s.mode := by
  unfold putPmpCsr at h
  (repeat' split at h) <;> simp at h <;> simp [← h]

@[simp] theorem State.ran_mode (s : State) : s.ran.mode = s.mode := by simp [State.ran]

theorem coreStores_mode {machine : Bool} {l : List CoreStore} {s : State} (h : ∀ x ∈ l, ∀ k t, (x.effect k t).mode = t.mode) :
    (coreStores machine l s).mode = s.mode := by
  induction l generalizing s with
  | nil => rfl
  | cons x l ih =>
    have hx := h x (by simp)
    have hl := ih (s := x.effect x.size s) fun y hy => h y (by simp [hy])
    unfold coreStores
    split
    · simp [hx]
    · simp [hl, hx]

theorem wordStore_mode {a : Nat} {f : State → State} (hf : ∀ t, (f t).mode = t.mode) (k : Nat) (t : State) :
    ((wordStore a f).effect k t).mode = t.mode := by
  simp [wordStore, hf]

@[simp] theorem coreLoad_mode {f : State → State} (machine : Bool) (a : Nat) (s : State) (hf : (f s).mode = s.mode) :
    (coreLoad machine a f s).mode = s.mode := by
  simp [coreLoad, hf]

/-! ### Machine/Ports -/

@[simp] theorem State.setPort_mode (s : State) (p : Nat) (x : Port) : (s.setPort p x).mode = s.mode := by simp [State.setPort]

@[simp] theorem eachPort_mode (f : Port → Port) (s : State) : (eachPort f s).mode = s.mode := by simp [eachPort]

@[simp] theorem leaveAligned_mode (p level : Nat) (s : State) : (leaveAligned p level s).mode = s.mode := by simp [leaveAligned]

@[simp] theorem loseFramed_mode (p level : Nat) (s : State) : (loseFramed p level s).mode = s.mode := by simp [loseFramed]

@[simp] theorem loseCode_mode (p level : Nat) (s : State) : (loseCode p level s).mode = s.mode := by simp [loseCode]

@[simp] theorem keepEq_mode (p : Nat) (s : State) : (keepEq p s).mode = s.mode := by simp [keepEq]

@[simp] theorem addFree_mode (e : El) (u : Nat) (s : State) : (addFree e u s).mode = s.mode := by simp [addFree]

@[simp] theorem loseCdr_mode (p level : Nat) (s : State) : (loseCdr p level s).mode = s.mode := by simp [loseCdr]

@[simp] theorem settlePort_mode (p : Nat) (s : State) : (settlePort p s).mode = s.mode := by simp [settlePort]

@[simp] theorem settlePorts_mode (s : State) : (settlePorts s).mode = s.mode := by simp [settlePorts]

@[simp] theorem abortWindow_mode (p : Nat) (s : State) : (abortWindow p s).mode = s.mode := by
  unfold abortWindow
  split <;> simp

@[simp] theorem abortWindows_mode (s : State) : (abortWindows s).mode = s.mode := by simp [abortWindows]

@[simp] theorem unqualified_mode (s : State) : (unqualified s).mode = s.mode := by simp [unqualified]

@[simp] theorem judgeTiming_mode (s : State) : (judgeTiming s).mode = s.mode := by simp [judgeTiming]

@[simp] theorem countInWindow_mode (p k tag : Nat) (s : State) : (countInWindow p k tag s).mode = s.mode := by
  unfold countInWindow
  split <;> simp

@[simp] theorem storeFrame_mode (p k c : Nat) (fr : StoredFrame) (s : State) : (storeFrame p k c fr s).mode = s.mode := by
  unfold storeFrame
  split
  · simp
  · split <;> simp

@[simp] theorem placeFrame_mode (p k : Nat) (fr : StoredFrame) (s : State) : (placeFrame p k fr s).mode = s.mode := by
  simp only [placeFrame]
  split
  · split <;> simp
  · simp

@[simp] theorem countReplaced_mode (p k : Nat) (fr : StoredFrame) (s : State) : (countReplaced p k fr s).mode = s.mode := by
  simp [countReplaced]

@[simp] theorem countRuns_mode (p : Nat) (good : Bool) (s : State) : (countRuns p good s).mode = s.mode := by simp [countRuns]

@[simp] theorem noteOrbit_mode (p phase : Nat) (flag : Bool) (s : State) : (noteOrbit p phase flag s).mode = s.mode := by
  simp [noteOrbit]

@[simp] theorem displace_mode (p source : Nat) (s : State) : (displace p source s).mode = s.mode := by simp [displace]

@[simp] theorem presentPort_mode (p c : Nat) (s : State) : (presentPort p c s).mode = s.mode := by
  unfold presentPort
  dsimp only
  split <;> simp

@[simp] theorem openAlign_mode (p first : Nat) (last entry : Option Nat) (s : State) :
    (openAlign p first last entry s).mode = s.mode := by
  simp [openAlign]

@[simp] theorem hAlignReq_keepsMode (p : Nat) : (hAlignReq p).KeepsMode := by simp [hAlignReq]

@[simp] theorem closeAlign_mode (d result q : Nat) (s : State) : (closeAlign d result q s).mode = s.mode := by
  unfold closeAlign
  split <;> simp

@[simp] theorem endAlign_mode (p : Nat) (s : State) : (endAlign p s).mode = s.mode := by simp [endAlign]

@[simp] theorem execAlignWindowEnd_kept (port : Nat) (s : State) : Kept s (execAlignWindowEnd port s) := by
  unfold execAlignWindowEnd
  split <;> simp

@[simp] theorem alignAtBoundary_mode (p : Nat) (s : State) : (alignAtBoundary p s).mode = s.mode := by
  unfold alignAtBoundary
  dsimp only
  split <;> simp

@[simp] theorem deskewFlush_mode (s : State) : (deskewFlush s).mode = s.mode := by simp [deskewFlush]

@[simp] theorem storeSetting_mode (e : El) (p v : Nat) (s : State) : (storeSetting e p v s).mode = s.mode := by
  simp [storeSetting]

@[simp] theorem disablePort_mode (p : Nat) (s : State) : (disablePort p s).mode = s.mode := by simp [disablePort]

@[simp] theorem silence_mode (p : Nat) (s : State) : (silence p s).mode = s.mode := by simp [silence]

@[simp] theorem hPortSetting_keepsMode (e : PortSetting) (p : Nat) : (hPortSetting e p).KeepsMode := by
  unfold hPortSetting
  split <;> simp

@[simp] theorem hAlignSetting_keepsMode (e : AlignSetting) (p : Nat) : (hAlignSetting e p).KeepsMode := by
  simp [Handler.KeepsMode, hAlignSetting]

@[simp] theorem hMask_keepsMode (p : Nat) : (hMask p).KeepsMode := by simp [hMask]

@[simp] theorem hRxPrbs_keepsMode (p : Nat) : (hRxPrbs p).KeepsMode := by simp [hRxPrbs]

@[simp] theorem hDlPrbs_keepsMode (p : Nat) : (hDlPrbs p).KeepsMode := by simp [hDlPrbs]

@[simp] theorem hDlCmd_keepsMode (p : Nat) : (hDlCmd p).KeepsMode := by
  simp [Handler.KeepsMode, hDlCmd]

@[simp] theorem hDlSend_keepsMode (p : Nat) : (hDlSend p).KeepsMode := by simp [hDlSend]

/-! ### Machine/Rings -/

@[simp] theorem setDepth_mode (q : Nat) (s : State) : (setDepth q s).mode = s.mode := by simp [setDepth]

@[simp] theorem skipStripe_mode (q t : Nat) (s : State) : (skipStripe q t s).mode = s.mode := by simp [skipStripe]

@[simp] theorem seekStripe_mode (q fuel stripe : Nat) (s : State) : (seekStripe q fuel stripe s).2.mode = s.mode := by
  fun_induction seekStripe <;> simp [*]

@[simp] theorem openStripe_mode (q t c : Nat) (s : State) : (openStripe q t c s).mode = s.mode := by simp [openStripe]

@[simp] theorem starve_mode (q c : Nat) (s : State) : (starve q c s).mode = s.mode := by simp [starve]

@[simp] theorem allocate_mode (q c : Nat) (s : State) : (allocate q c s).mode = s.mode := by
  unfold allocate
  dsimp only
  (repeat' split) <;> simp

@[simp] theorem judgeStarved_mode (q c : Nat) (s : State) : (judgeStarved q c s).mode = s.mode := by
  unfold judgeStarved
  dsimp only
  split
  · simp
  · split <;> simp

@[simp] theorem ringWriter_mode (q t : Nat) (s : State) : (ringWriter q t s).mode = s.mode := by simp [ringWriter]

@[simp] theorem storeRows_mode (q stripe rec_ i w : Nat) (rows : List (BitVec 128)) (s : State) :
    (storeRows q stripe rec_ i w rows s).mode = s.mode := by
  fun_induction storeRows <;> simp [*]

@[simp] theorem storeEntry_mode (p c : Nat) (words : List (BitVec 64)) (s : State) :
    (storeEntry p c words s).mode = s.mode := by
  simp only [storeEntry]
  split
  · split <;> simp
  · simp

@[simp] theorem retireStore_mode (n : Nat) (s : State) : (retireStore n s).mode = s.mode := by
  unfold retireStore
  dsimp only
  split <;> simp

@[simp] theorem retireStores_mode (n fuel : Nat) (s : State) : (retireStores n fuel s).mode = s.mode := by
  fun_induction retireStores <;> simp [*]

@[simp] theorem flushStores_mode (s : State) : (flushStores s).mode = s.mode := by simp [flushStores]

@[simp] theorem discardRing_mode (q : Nat) (s : State) : (discardRing q s).mode = s.mode := by simp [discardRing]

@[simp] theorem enableRing_mode (q first n : Nat) (s : State) : (enableRing q first n s).mode = s.mode := by simp [enableRing]

@[simp] theorem disableRing_mode (q : Nat) (s : State) : (disableRing q s).mode = s.mode := by simp [disableRing]

@[simp] theorem hRingEnable_keepsMode (q : Nat) : (hRingEnable q).KeepsMode := by
  intro v s
  simp only [hRingEnable, Handler.doing]
  (repeat' split) <;> simp

@[simp] theorem hRingGeometry_keepsMode (e : RingGeometry) (q : Nat) : (hRingGeometry e q).KeepsMode := by
  intro v s
  simp only [hRingGeometry, Handler.doing]
  (repeat' split) <;> simp

@[simp] theorem startRing_mode (q : Nat) (s : State) : (startRing q s).mode = s.mode := by simp [startRing]

@[simp] theorem resetRing_mode (q : Nat) (s : State) : (resetRing q s).mode = s.mode := by simp [resetRing]

@[simp] theorem stepRing_mode (first last q : Nat) (s : State) : (stepRing first last q s).mode = s.mode := by simp [stepRing]

/-! ### Machine/Banks -/

@[simp] theorem answerClass_mode (key cls : Nat) (a : Answer) (s : State) : (answerClass key cls a s).mode = s.mode := by
  simp [answerClass]

@[simp] theorem enqueue_mode (n : Nat) (r : Requester) (q : MemRequest) (tag : Nat) (s : State) :
    (enqueue n r q tag s).mode = s.mode := by
  simp [enqueue]

@[simp] theorem badRequest_mode (d n : Nat) (s : State) : (badRequest d n s).mode = s.mode := by simp [badRequest]

@[simp] theorem execStoreChannelRequest_kept (district : Nat) (word : BitVec 32) (s : State) :
    Kept s (execStoreChannelRequest district word s) := by
  unfold execStoreChannelRequest
  dsimp only
  (repeat' split) <;> simp

@[simp] theorem notedRan_mode (src : Master) (s : State) : (notedRan src s).mode = s.mode := by
  unfold notedRan
  split <;> simp

@[simp] theorem execPlazaRequest_kept (src : Master) (word : BitVec 40) (data : BitVec 128) (enables : BitVec 16) (s : State) :
    Kept s (execPlazaRequest src word data enables s) := by
  unfold execPlazaRequest
  dsimp only
  (repeat' split) <;> simp

@[simp] theorem perform_mode (n : Nat) (cycle : Option Nat) (w : Waiting) (s : State) :
    (perform n cycle w s).mode = s.mode := by
  simp [perform]

@[simp] theorem grant_mode (n : Nat) (cycle : Option Nat) (w : Waiting) (cs : List Waiting) (s : State) :
    (grant n cycle w cs s).mode = s.mode := by
  simp [grant]

@[simp] theorem engineCycles_mode (n k : Nat) (me : Waiting) (s : State) : (engineCycles n k me s).mode = s.mode := by
  induction k generalizing me s with
  | zero => rfl
  | succ k ih =>
    unfold engineCycles
    extract_lets b cs t
    split
    · split
      · simp [t]
      · simp [ih]
    · rfl

@[simp] theorem engineTurn_mode (n : Nat) (r : Requester) (cls : Nat) (s : State) : (engineTurn n r cls s).mode = s.mode := by
  simp [engineTurn]

@[simp] theorem engineTurns_mode (r : Requester) (cls : Nat) (banks : List Nat) (s : State) :
    (engineTurns r cls banks s).mode = s.mode := by
  simp [engineTurns]

@[simp] theorem wakeOnAccess_mode (n : Nat) (s : State) : (wakeOnAccess n s).mode = s.mode := by simp [wakeOnAccess]

@[simp] theorem execBankArbitration_kept (bank cycle : Nat) (s : State) : Kept s (execBankArbitration bank cycle s) := by
  unfold execBankArbitration
  dsimp only
  split
  · simp
  · split <;> simp

@[simp] theorem execFixedResponse_kept (district chan : Nat) (s : State) : Kept s (execFixedResponse district chan s) := by
  unfold execFixedResponse
  dsimp only
  split <;> simp

@[simp] theorem hOwner_keepsMode (n : Nat) : (hOwner n).KeepsMode := by
  intro v s
  simp only [hOwner]
  split <;> simp

@[simp] theorem endHandover_mode (n : Nat) (s : State) : (endHandover n s).mode = s.mode := by simp [endHandover]

@[simp] theorem startWake_mode (n : Nat) (s : State) : (startWake n s).mode = s.mode := by simp [startWake]

@[simp] theorem startSleep_mode (n : Nat) (s : State) : (startSleep n s).mode = s.mode := by
  unfold startSleep
  split <;> simp

@[simp] theorem hPower_keepsMode (n : Nat) : (hPower n).KeepsMode := by simp [hPower]

@[simp] theorem endWake_mode (n : Nat) (s : State) : (endWake n s).mode = s.mode := by simp [endWake]

@[simp] theorem wakeForAccess_mode (n : Nat) (s : State) : (wakeForAccess n s).mode = s.mode := by simp [wakeForAccess]

@[simp] theorem banksReady_mode (banks : List Nat) (s : State) : (banksReady banks s).2.mode = s.mode := by simp [banksReady]

@[simp] theorem fallAsleep_mode (n : Nat) (s : State) : (fallAsleep n s).mode = s.mode := by simp [fallAsleep]

@[simp] theorem settleHandover_mode (n : Nat) (r : Requester) (s : State) : (settleHandover n r s).mode = s.mode := by
  simp [settleHandover]

@[simp] theorem settleBank_mode (n : Nat) (r : Requester) (cls : Nat) (s : State) : (settleBank n r cls s).mode = s.mode := by
  simp [settleBank]

@[simp] theorem hReadShare_keepsMode (n : Nat) : (hReadShare n).KeepsMode := by simp [hReadShare]

/-! ### Machine/Keeper -/

@[simp] theorem State.setKeeper_mode (s : State) (k : Keeper) : (s.setKeeper k).mode = s.mode := by simp [State.setKeeper]

@[simp] theorem State.keeperState_mode (s : State) (v : Nat) : (s.keeperState v).mode = s.mode := by simp [State.keeperState]

@[simp] theorem countReads_mode (ns : List Nat) (s : State) : (countReads ns s).mode = s.mode := by simp [countReads]

@[simp] theorem writeSector_mode (sector : Nat) (data : BitVec 512) (s : State) :
    (writeSector sector data s).mode = s.mode := by
  simp [writeSector]

@[simp] theorem relocate_mode (home id len value gen : Nat) (s : State) : (relocate home id len value gen s).mode = s.mode := by
  unfold relocate
  split <;> simp

theorem writeValue_mode {home id len value : Nat} {s t : State} (h : writeValue home id len value s = .ok t) :
    t.mode = s.mode := by
  unfold writeValue at h
  extract_lets sec gen u at h
  split at h
  · cases h
  split at h
  · cases h
  cases h
  simp [u]

theorem keepValue_mode {e : El} {u v : Nat} {s t : State} (h : keepValue e u v s = .ok t) : t.mode = s.mode := by
  unfold keepValue at h
  split at h
  · cases h
  · next hw =>
    cases h
    simp [writeValue_mode hw]

@[simp] theorem hKeep_keepsMode (e : El) (u : Nat) : (hKeep e u).KeepsMode := fun _ _ _ h => keepValue_mode h

theorem writeCounter_mode {k len v : Nat} {s t : State} (h : writeCounter k len v s = .ok t) : t.mode = s.mode := by
  unfold writeCounter at h
  extract_lets a ga gb home sec gen u at h
  split at h
  · cases h
  split at h
  · cases h
  split at h
  · cases h
  cases h
  simp [u]

@[simp] theorem bumpCounter_mode (k : Nat) (e : El) (s : State) : (bumpCounter k e s).mode = s.mode := by
  unfold bumpCounter
  extract_lets v
  split
  · next h => simp [writeCounter_mode h]
  · simp

@[simp] theorem bootValue_mode (e : El) (u : Nat) (s : State) : (bootValue e u s).mode = s.mode := by simp [bootValue]

@[simp] theorem bootName_mode (s : State) : (bootName s).mode = s.mode := by simp [bootName]

@[simp] theorem bootCounter_mode (k : Nat) (s : State) : (bootCounter k s).mode = s.mode := by
  unfold bootCounter
  split <;> simp

@[simp] theorem bootPool_mode (s : State) : (bootPool s).mode = s.mode := by simp [bootPool]

@[simp] theorem bootKeeper_mode (s : State) : (bootKeeper s).mode = s.mode := by simp [bootKeeper]

@[simp] theorem loseKeeper_mode (s : State) : (loseKeeper s).mode = s.mode := by simp [loseKeeper]

@[simp] theorem keeperClock_mode (s : State) : (keeperClock s).mode = s.mode := by
  unfold keeperClock
  split <;> simp

theorem keepKey_mode {k : Nat} {bytes : Bytes} {s t : State} (h : keepKey k bytes s = .ok t) : t.mode = s.mode := by
  simp only [keepKey] at h
  split at h <;> cases h
  simp

/-- A key kept, and the keeper changed after it. -/
theorem keepKey_map_mode {k : Nat} {bytes : Bytes} {g : State → State} {s t : State} (hg : ∀ u, (g u).mode = u.mode)
    (h : (keepKey k bytes s).map g = .ok t) : t.mode = s.mode := by
  cases hk : keepKey k bytes s with
  | error c => rw [hk] at h; cases h
  | ok u =>
    rw [hk] at h
    cases h
    rw [hg, keepKey_mode hk]

@[simp] theorem State.setKwStatus_mode (s : State) (v : Nat) : (s.setKwStatus v).mode = s.mode := by simp [State.setKwStatus]

@[simp] theorem startKeeperWrite_mode (v : Nat) (s : State) : (startKeeperWrite v s).mode = s.mode := by simp [startKeeperWrite]

@[simp] theorem setKwSector_mode (n : Nat) (s : State) : (setKwSector n s).mode = s.mode := by simp [setKwSector]

@[simp] theorem setKwData_mode (data : BitVec 512) (k : Nat) (s : State) : (setKwData data k s).mode = s.mode := by
  simp [setKwData]

@[simp] theorem commitSlot_mode (slot page : Nat) (s : State) : (commitSlot slot page s).mode = s.mode := by simp [commitSlot]

@[simp] theorem endKeeperWrite_mode (s : State) : (endKeeperWrite s).mode = s.mode := by
  unfold endKeeperWrite
  split
  · simp
  · split <;> simp

/-! ### Machine/TimeTable -/

@[simp] theorem hTtWord_keepsMode (k : Nat) : (hTtWord k).KeepsMode := by simp [hTtWord]

@[simp] theorem hTtCopy_keepsMode : hTtCopy.KeepsMode := by simp [hTtCopy]

@[simp] theorem hTtCommit_keepsMode : hTtCommit.KeepsMode := by simp [hTtCommit]

@[simp] theorem ttRefuse_mode (entry : Nat) (s : State) : (ttRefuse entry s).mode = s.mode := by simp [ttRefuse]

@[simp] theorem execTtValidationDone_kept (s : State) : Kept s (execTtValidationDone s) := by
  unfold execTtValidationDone
  split
  · simp
  · split <;> simp

@[simp] theorem countPause_mode (q which : Nat) (s : State) : (countPause q which s).mode = s.mode := by simp [countPause]

@[simp] theorem countPauses_mode (s : State) : (countPauses s).mode = s.mode := by simp [countPauses]

/-! ### Machine/Integrity -/

@[simp] theorem hInvalidate_keepsMode : hInvalidate.KeepsMode := by simp [hInvalidate]

@[simp] theorem hLbLeak_keepsMode : hLbLeak.KeepsMode := by simp [hLbLeak]

@[simp] theorem hLbThreshold_keepsMode : hLbThreshold.KeepsMode := by simp [hLbThreshold]

@[simp] theorem scrubWord_mode (n addr : Nat) (ce ue : Bool) (s : State) : (scrubWord n addr ce ue s).mode = s.mode := by
  unfold scrubWord
  dsimp only
  split <;> simp

@[simp] theorem endPass_mode (q : Nat) (s : State) : (endPass q s).mode = s.mode := by simp [endPass]

@[simp] theorem nextRow_mode (q : Nat) (s : State) : (nextRow q s).mode = s.mode := by simp [nextRow]

@[simp] theorem serveRepair_mode (quarter : Nat) (e : Nat × Bool) (s : State) : (serveRepair quarter e s).mode = s.mode := by
  simp [serveRepair]

@[simp] theorem scrubRow_mode (quarter : Nat) (s : State) : (scrubRow quarter s).mode = s.mode := by simp [scrubRow]

@[simp] theorem execScrubRowRead_kept (quarter : Nat) (s : State) : Kept s (execScrubRowRead quarter s) := by
  unfold execScrubRowRead
  split
  · simp
  · split <;> simp

@[simp] theorem execRepairListServe_kept (quarter : Nat) (s : State) : Kept s (execRepairListServe quarter s) := by
  unfold execRepairListServe
  split <;> simp

@[simp] theorem hScrubEnable_keepsMode : hScrubEnable.KeepsMode := by simp [hScrubEnable]

@[simp] theorem changeSlot_mode (slot page : Nat) (s : State) : (changeSlot slot page s).mode = s.mode := by simp [changeSlot]

@[simp] theorem hRtRetire_keepsMode : hRtRetire.KeepsMode := by
  intro v s
  simp only [hRtRetire]
  (repeat' split) <;> simp

@[simp] theorem hRtUnretire_keepsMode : hRtUnretire.KeepsMode := by
  intro v s
  simp only [hRtUnretire]
  (repeat' split) <;> simp

@[simp] theorem bootRetirement_mode (s : State) : (bootRetirement s).mode = s.mode := by simp [bootRetirement]

@[simp] theorem startMove_mode (q b spare : Nat) (back : Bool) (s : State) : (startMove q b spare back s).mode = s.mode := by
  simp [startMove]

theorem State.substitute_mode {s t : State} {q b : Nat} (h : s.substitute q b = some t) : t.mode = s.mode := by
  simp only [State.substitute] at h
  split at h
  · split at h
    · cases h
    · injection h with h
      simp [← h]
  · cases h

@[simp] theorem copyEvents_mode (n addr index : Nat) (w : StoredWord) (s : State) :
    (copyEvents n addr index w s).mode = s.mode := by
  unfold copyEvents
  dsimp only
  split <;> simp

theorem copyWord_mode (n dst index : Nat) (t : State × Nat) (p : Nat × StoredWord) :
    (copyWord n dst index t p).1.mode = t.1.mode := by
  simp [copyWord]

theorem foldl_copyWord_mode (n dst index : Nat) (l : List (Nat × StoredWord)) (t : State × Nat) :
    (l.foldl (copyWord n dst index) t).1.mode = t.1.mode := by
  induction l generalizing t with
  | nil => rfl
  | cons p l ih => rw [List.foldl_cons, ih, copyWord_mode]

@[simp] theorem copyWords_mode (n src dst first count index : Nat) (s : State) :
    (copyWords n src dst first count index s).1.mode = s.mode := by
  unfold copyWords
  rw [foldl_copyWord_mode]
  simp

@[simp] theorem dropRetired_mode (n : Nat) (s : State) : (dropRetired n s).mode = s.mode := by simp [dropRetired]

@[simp] theorem keepSpares_mode (q : Nat) (s : State) : (keepSpares q s).mode = s.mode := by simp [keepSpares]

@[simp] theorem execSubstituteCopyDone_kept (quarter : Nat) (s : State) : Kept s (execSubstituteCopyDone quarter s) := by
  unfold execSubstituteCopyDone
  split
  · simp
  · extract_lets n src c a b t u v w
    have ht : t.mode = s.mode := by simp [t, c, a, b]
    have hu : u.mode = t.mode := by
      simp only [u]
      split
      · exact State.rset_mode ..
      · split
        · exact State.rset_mode ..
        · rfl
    have hv : v.mode = s.mode := by simp [v, hu, ht]
    split <;> simp [w, hv]

@[simp] theorem hUnsubstitute_keepsMode (q : Nat) : (hUnsubstitute q).KeepsMode := by simp [hUnsubstitute]

@[simp] theorem hFlipArm_keepsMode : hFlipArm.KeepsMode := by simp [hFlipArm]

/-! ### Machine/Bist -/

@[simp] theorem closeTest_mode (s : State) : (closeTest s).mode = s.mode := by simp [closeTest]

@[simp] theorem beyondRecord_mode (s : State) : (beyondRecord s).mode = s.mode := by simp [beyondRecord]

@[simp] theorem endTest_mode (s : State) : (endTest s).mode = s.mode := by
  unfold endTest
  extract_lets n b kind u v y w x
  have hw : w.mode = s.mode := by simp [w, y, v, u]
  have hx : x.mode = s.mode := by
    unfold x
    split
    · split
      · next h => simp [State.substitute_mode h, hw]
      · simp [hw]
    · exact hw
  simp [hx]

@[simp] theorem keepRepair_mode (id : Nat) (rows cols : List Nat) (s : State) : (keepRepair id rows cols s).mode = s.mode := by
  unfold keepRepair
  split <;> simp

@[simp] theorem spareRecord_mode (target address spare : Nat) (s : State) :
    (spareRecord target address spare s).mode = s.mode := by
  simp [spareRecord]

@[simp] theorem allocateSpares_mode (fails : List (Nat × Nat)) (s : State) : (allocateSpares fails s).mode = s.mode := by
  simp [allocateSpares]

@[simp] theorem bootRepairs_mode (s : State) : (bootRepairs s).mode = s.mode := by simp [bootRepairs]

@[simp] theorem seedTest_mode (s : State) : (seedTest s).mode = s.mode := by simp [seedTest]

@[simp] theorem beginTest_mode (s : State) : (beginTest s).mode = s.mode := by
  simp only [beginTest]
  split
  · split <;> simp
  · simp

@[simp] theorem hBistGo_keepsMode : hBistGo.KeepsMode := by
  intro v s
  simp only [hBistGo]
  (repeat' split) <;> simp

@[simp] theorem hBistSetting_keepsMode (e : El) : (hBistSetting e).KeepsMode := by simp [hBistSetting]

@[simp] theorem clockReads_mode (ops : List MarchOp) (fails : List BistRead) (s : State) :
    (clockReads ops fails s).mode = s.mode := by
  unfold clockReads
  split <;> simp

@[simp] theorem completeTest_mode (s : State) : (completeTest s).mode = s.mode := by simp [completeTest]

@[simp] theorem showSignature_mode (s : State) : (showSignature s).mode = s.mode := by simp [showSignature]

@[simp] theorem setPhase_mode (p : Option SlicePhase) (s : State) : (setPhase p s).mode = s.mode := by simp [setPhase]

@[simp] theorem copySlice_mode (toShadow : Bool) (s : State) : (copySlice toShadow s).mode = s.mode := by simp [copySlice]

@[simp] theorem clearSlice_mode (place : Nat) (s : State) : (clearSlice place s).mode = s.mode := by simp [clearSlice]

@[simp] theorem nextSlice_mode (s : State) : (nextSlice s).mode = s.mode := by simp [nextSlice]

@[simp] theorem bistTurn_mode (s : State) : (bistTurn s).mode = s.mode := by simp [bistTurn]

@[simp] theorem execBistPhaseDone_kept (fails : List BistRead) (s : State) : Kept s (execBistPhaseDone fails s) := by
  unfold execBistPhaseDone
  extract_lets t ops u v w
  have ht : t.mode = s.mode := by simp [t]
  have hv : v.mode = s.mode := by simp [v, u, ht]
  split <;> simp [ht, w, hv]

@[simp] theorem resetDescriptors_mode (s : State) : (resetDescriptors s).mode = s.mode := by simp [resetDescriptors]

@[simp] theorem returnBank_mode (n : Nat) (s : State) : (returnBank n s).mode = s.mode := by simp [returnBank]

@[simp] theorem endOffline_mode (s : State) : (endOffline s).mode = s.mode := by
  unfold endOffline
  extract_lets n u v
  have hv : v.mode = s.mode := by
    unfold v
    split <;> simp [u]
  simp [hv]

@[simp] theorem cutShort_mode (s : State) : (cutShort s).2.mode = s.mode := by simp [cutShort]

@[simp] theorem abortTest_mode (s : State) : (abortTest s).mode = s.mode := by
  simp only [abortTest]
  split
  · simp
  · split
    · simp
    · split <;> simp

@[simp] theorem hBistAbort_keepsMode : hBistAbort.KeepsMode := by simp [hBistAbort]

@[simp] theorem stopTest_mode (s : State) : (stopTest s).mode = s.mode := by
  unfold stopTest
  extract_lets n b u v w
  have hv : v.mode = s.mode := by simp [v, u, b]
  have hw : w.mode = s.mode := by
    unfold w
    split <;> simp [hv]
  split
  · simp [hw]
  · rfl

/-! ### Machine/Fabric -/

@[simp] theorem State.setFlop_mode (s : State) (key : Nat) (v : BitVec 65536) : (s.setFlop key v).mode = s.mode := by
  simp [State.setFlop]

/-! ### Machine/FabricCycle -/

@[simp] theorem dropAlerts_mode (s : State) : (dropAlerts s).mode = s.mode := by simp [dropAlerts]

@[simp] theorem fabricCycle_mode (s : State) : (fabricCycle s).mode = s.mode := by simp [fabricCycle]

@[simp] theorem fabricCycles_mode (n : Nat) (s : State) : (fabricCycles n s).mode = s.mode := by
  fun_induction fabricCycles <;> simp [*]

@[simp] theorem reportRam_mode (d : Nat) (f : Nat × List (Nat × Nat)) (s : State) : (reportRam d f s).mode = s.mode := by
  simp [reportRam]

@[simp] theorem reportFound_mode (s : State) : (reportFound s).mode = s.mode := by simp [reportFound]

@[simp] theorem runTo_mode (phase : Nat) (s : State) : (runTo phase s).mode = s.mode := by simp [runTo]

@[simp] theorem strikeRam_mode (draw : Nat) (s : State) : (strikeRam draw s).mode = s.mode := by
  unfold strikeRam
  split <;> simp

@[simp] theorem endCycles_mode (s : State) : (endCycles s).mode = s.mode := by simp [endCycles]

/-! ### Machine/Contexts -/

@[simp] theorem switchFlops_mode (d j k : Nat) (s : State) : (switchFlops d j k s).mode = s.mode := by simp [switchFlops]

@[simp] theorem initShadow_mode (plane : Nat) (s : State) : (initShadow plane s).mode = s.mode := by simp [initShadow]

@[simp] theorem noteWritten_mode (plane : Nat) (s : State) : (noteWritten plane s).mode = s.mode := by simp [noteWritten]

@[simp] theorem noteSwitch_mode (d j k phase : Nat) (p : Nat × LedgerPath) (s : State) :
    (noteSwitch d j k phase p s).mode = s.mode := by
  simp [noteSwitch]

@[simp] theorem switchTo_mode (d k phase : Nat) (s : State) : (switchTo d k phase s).mode = s.mode := by simp [switchTo]

@[simp] theorem settleContext_mode (d phase : Nat) (s : State) : (settleContext d phase s).mode = s.mode := by
  simp [settleContext]

@[simp] theorem openCtx_mode (entry d : Nat) (s : State) : (openCtx entry d s).mode = s.mode := by simp [openCtx]

@[simp] theorem closeCtx_mode (entry phase d : Nat) (s : State) : (closeCtx entry phase d s).mode = s.mode := by simp [closeCtx]

@[simp] theorem dropWindows_mode (d : Nat) (s : State) : (dropWindows d s).mode = s.mode := by simp [dropWindows]

@[simp] theorem settleAtStart_mode (d : Nat) (s : State) : (settleAtStart d s).mode = s.mode := by simp [settleAtStart]

@[simp] theorem hBaseNext_keepsMode (w : Route) (d : Nat) : (hBaseNext w d).KeepsMode := by simp [hBaseNext]

@[simp] theorem hBaseAt_keepsMode (d : Nat) : (hBaseAt d).KeepsMode := by simp [hBaseAt]

@[simp] theorem changeBase_mode (d : Nat) (s : State) : (changeBase d s).mode = s.mode := by
  unfold changeBase
  split <;> simp

@[simp] theorem leaveGroup_mode (d : Nat) (s : State) : (leaveGroup d s).mode = s.mode := by simp [leaveGroup]

@[simp] theorem joinGroup_mode (d m : Nat) (s : State) : (joinGroup d m s).mode = s.mode := by simp [joinGroup]

@[simp] theorem hLockGroup_keepsMode (d : Nat) : (hLockGroup d).KeepsMode := by
  intro v s
  simp only [hLockGroup]
  (repeat' split) <;> simp

@[simp] theorem captureMissed_mode (d : Nat) (s : State) : (captureMissed d s).mode = s.mode := by simp [captureMissed]

@[simp] theorem captureNow_mode (d : Nat) (s : State) : (captureNow d s).mode = s.mode := by simp [captureNow]

@[simp] theorem hCapture_keepsMode (d : Nat) : (hCapture d).KeepsMode := by simp [hCapture]

@[simp] theorem State.setGuard_mode (s : State) (q u : Nat) (g : Guard) : (s.setGuard q u g).mode = s.mode := by
  simp [State.setGuard]

@[simp] theorem hUpClear_keepsMode (d : Nat) : (hUpClear d).KeepsMode := by simp [hUpClear]

@[simp] theorem reenable_mode (key : Nat) (s : State) : (reenable key s).mode = s.mode := by simp [reenable]

@[simp] theorem frameVerified_mode (plane frame : Nat) (s : State) : (frameVerified plane frame s).mode = s.mode := by
  simp [frameVerified]

@[simp] theorem guardsReloaded_mode (plane : Nat) (active : Bool) (s : State) :
    (guardsReloaded plane active s).mode = s.mode := by
  simp [guardsReloaded]

/-! ### Machine/Frames -/

@[simp] theorem State.setFrame_mode (s : State) (plane frame : Nat) (v : BitVec 2093) :
    (s.setFrame plane frame v).mode = s.mode := by
  simp [State.setFrame]

@[simp] theorem setFrameCells_mode (plane frame : Nat) (v : BitVec 2093) (s : State) :
    (setFrameCells plane frame v s).mode = s.mode := by
  unfold setFrameCells
  dsimp only
  split <;> simp

@[simp] theorem writeFrame_mode (plane frame : Nat) (data : BitVec 2048) (s : State) :
    (writeFrame plane frame data s).mode = s.mode := by
  simp [writeFrame]

@[simp] theorem writeTwice_mode (stands : State → Bool) (plane frame : Nat) (data : BitVec 2048) (s : State) :
    (writeTwice stands plane frame data s).2.mode = s.mode := by
  simp [writeTwice]

@[simp] theorem writeChecked_mode (plane frame : Nat) (data : BitVec 2048) (s : State) :
    (writeChecked plane frame data s).2.mode = s.mode := by
  simp [writeChecked]

@[simp] theorem writeVerified_mode (plane frame : Nat) (data : BitVec 2048) (s : State) :
    (writeVerified plane frame data s).2.mode = s.mode := by
  simp [writeVerified]

@[simp] theorem newTicket_mode (s : State) : (newTicket s).2.mode = s.mode := by simp [newTicket]

@[simp] theorem setTicket_mode (t v : Nat) (s : State) : (setTicket t v s).mode = s.mode := by
  simp [setTicket, State.mode]

@[simp] theorem setTickets_mode (ts : List Nat) (v : Nat) (s : State) : (setTickets ts v s).mode = s.mode := by
  simp [setTickets]

@[simp] theorem State.setScr_mode (s : State) (c : CfgScrub) : (s.setScr c).mode = s.mode := by simp [State.setScr]

@[simp] theorem markRepair_mode (plane : Nat) (s : State) : (markRepair plane s).mode = s.mode := by simp [markRepair]

@[simp] theorem enqueueRepair_mode (plane frame rank : Nat) (s : State) :
    (enqueueRepair plane frame rank s).2.mode = s.mode := by
  unfold enqueueRepair
  split <;> simp

@[simp] theorem promoteRepairs_mode (s : State) : (promoteRepairs s).mode = s.mode := by simp [promoteRepairs]

@[simp] theorem dropQueued_mode (plane : Nat) (s : State) : (dropQueued plane s).2.mode = s.mode := by simp [dropQueued]

@[simp] theorem supersede_mode (plane : Nat) (s : State) : (supersede plane s).mode = s.mode := by simp [supersede]

@[simp] theorem settleSuperseded_mode (plane v : Nat) (s : State) : (settleSuperseded plane v s).mode = s.mode := by
  simp [settleSuperseded]

@[simp] theorem voidPlane_mode (plane : Nat) (s : State) : (voidPlane plane s).mode = s.mode := by simp [voidPlane]

@[simp] theorem emptyPlane_mode (plane : Nat) (s : State) : (emptyPlane plane s).mode = s.mode := by simp [emptyPlane]

@[simp] theorem keepStopped_mode (plane : Nat) (s : State) : (keepStopped plane s).mode = s.mode := by simp [keepStopped]

@[simp] theorem holdDistrict_mode (d : Nat) (s : State) : (holdDistrict d s).mode = s.mode := by simp [holdDistrict]

@[simp] theorem stopDistrict_mode (d : Nat) (s : State) : (stopDistrict d s).mode = s.mode := by simp [stopDistrict]

@[simp] theorem releaseFrom_mode (d : Nat) (s : State) : (releaseFrom d s).mode = s.mode := by simp [releaseFrom]

/-! ### Machine/CfgScrub -/

@[simp] theorem raiseRank_mode (plane frame : Nat) (s : State) : (raiseRank plane frame s).mode = s.mode := by simp [raiseRank]

@[simp] theorem handOverFrame_mode (f : Nat × Nat) (s : State) : (handOverFrame f s).mode = s.mode := by
  unfold handOverFrame
  split
  · simp
  · split <;> simp

@[simp] theorem setCopy_mode (e : El) (c v : Nat) (s : State) : (setCopy e c v s).mode = s.mode := by simp [setCopy]

@[simp] theorem setCopies_mode (e : El) (v : Nat) (s : State) : (setCopies e v s).mode = s.mode := by simp [setCopies]

@[simp] theorem refreshTriple_mode (s : State) : (refreshTriple s).mode = s.mode := by simp [refreshTriple]

@[simp] theorem startPass_mode (s : State) : (startPass s).mode = s.mode := by simp [startPass]

@[simp] theorem finishPass_mode (s : State) : (finishPass s).mode = s.mode := by simp [finishPass]

@[simp] theorem selfUpset_mode (copy : Nat) (s : State) : (selfUpset copy s).mode = s.mode := by simp [selfUpset]

@[simp] theorem correctTriple_mode (e : El) (s : State) : (correctTriple e s).mode = s.mode := by
  unfold correctTriple
  dsimp only
  split <;> simp

@[simp] theorem findTriple_mode (vote : CopyVote) (s : State) : (findTriple vote s).mode = s.mode := by
  unfold findTriple
  (repeat' split) <;> simp

@[simp] theorem enterCheckOnly_mode (s : State) : (enterCheckOnly s).mode = s.mode := by simp [enterCheckOnly]

@[simp] theorem votedWrite_mode {act : State → State} (vote : CopyVote) (s : State) (ha : ∀ t, (act t).mode = t.mode) :
    (votedWrite vote act s).2.mode = s.mode := by
  unfold votedWrite
  split
  · rfl
  · split <;> simp [ha]

@[simp] theorem correctFrame_mode (plane frame : Nat) (fixed : BitVec 2093) (s : State) :
    (correctFrame plane frame fixed s).2.mode = s.mode := by
  simp [correctFrame]

@[simp] theorem correctOrRepair_mode (plane frame : Nat) (fixed : BitVec 2093) (s : State) :
    (correctOrRepair plane frame fixed s).mode = s.mode := by
  simp [correctOrRepair]

@[simp] theorem sweepFrame_mode (plane frame : Nat) (vote : CopyVote) (s : State) :
    (sweepFrame plane frame vote s).mode = s.mode := by
  unfold sweepFrame
  split <;> simp

@[simp] theorem reserveTurn_mode (place : Nat) (s : State) : (reserveTurn place s).mode = s.mode := by simp [reserveTurn]

@[simp] theorem readBytes_mode (fuel place n : Nat) (s : State) : (readBytes fuel place n s).2.mode = s.mode := by
  induction fuel generalizing place n s with
  | zero => rfl
  | succ fuel ih => simp [readBytes, ih]

@[simp] theorem writeBytes_mode (fuel place : Nat) (bs : Bytes) (s : State) : (writeBytes fuel place bs s).mode = s.mode := by
  induction fuel generalizing place bs s with
  | zero => rfl
  | succ fuel ih =>
    unfold writeBytes
    split
    · rfl
    · simp [ih]

@[simp] theorem directoryEntry_mode (slot frame : Nat) (s : State) : (directoryEntry slot frame s).2.mode = s.mode := by
  simp [directoryEntry]

@[simp] theorem readReserve_mode (plane frame : Nat) (s : State) : (readReserve plane frame s).2.mode = s.mode := by
  unfold readReserve
  split
  · rfl
  · extract_lets e r
    have he : e.2.mode = s.mode := by simp [e]
    have hr : r.2.mode = s.mode := by simp [r, he]
    split
    · exact he
    · split
      · exact he
      · split
        · exact hr
        · split <;> exact hr

@[simp] theorem copyToReserve_mode (plane slot frame : Nat) (s : State) :
    (copyToReserve plane slot frame s).2.mode = s.mode := by
  simp [copyToReserve]

@[simp] theorem reserveFrame_mode (plane slot frame : Nat) (s : State) : (reserveFrame plane slot frame s).2.mode = s.mode := by
  simp [reserveFrame]

@[simp] theorem dropSlot_mode (plane : Nat) (s : State) : (dropSlot plane s).mode = s.mode := by simp [dropSlot]

@[simp] theorem refill_mode (plane : Nat) (s : State) : (refill plane s).mode = s.mode := by simp [refill]

@[simp] theorem takeSlot_mode (plane : Nat) (s : State) : (takeSlot plane s).mode = s.mode := by
  unfold takeSlot
  split
  · simp
  · split
    · simp
    · split <;> simp

@[simp] theorem execReserveFillFrame_kept (s : State) : Kept s (execReserveFillFrame s) := by
  unfold execReserveFillFrame
  split
  · simp
  · split
    · simp
    · extract_lets slot r c
      split <;> simp [r]

@[simp] theorem settleRepairs_mode (plane : Nat) (s : State) : (settleRepairs plane s).mode = s.mode := by simp [settleRepairs]

@[simp] theorem failRepair_mode (e : RepairEntry) (inService : Bool) (s : State) :
    (failRepair e inService s).mode = s.mode := by
  simp [failRepair]

@[simp] theorem beginRepair_mode (e : RepairEntry) (source : Nat) (data : BitVec 2048) (inService : Bool) (s : State) :
    (beginRepair e source data inService s).mode = s.mode := by
  simp [beginRepair]

@[simp] theorem repairFromImage_mode (e : RepairEntry) (image : Bytes) (inService : Bool) (s : State) :
    (repairFromImage e image inService s).mode = s.mode := by
  unfold repairFromImage
  split
  · simp
  · split
    · simp
    · split <;> simp

@[simp] theorem execRepairStart_kept (image : Bytes) (s : State) : Kept s (execRepairStart image s) := by
  unfold execRepairStart
  split
  · extract_lets inService b t r
    have ht : t.mode = s.mode := by simp [t, b]
    have hr : r.2.mode = s.mode := by simp [r, ht]
    split
    · simp [ht]
    · split <;> simp [ht]
    · split
      · simp [ht]
      · split <;> simp [hr]
  · simp

@[simp] theorem writeRepair_mode (b : Repairing) (s : State) : (writeRepair b s).mode = s.mode := by simp [writeRepair]

@[simp] theorem execRepairFrameWrite_kept (vote : CopyVote) (s : State) : Kept s (execRepairFrameWrite vote s) := by
  unfold execRepairFrameWrite
  extract_lets t
  have ht : t.mode = s.mode := by simp [t]
  split <;> simp [ht]

@[simp] theorem finishRepair_mode (plane frame ticket source : Nat) (s : State) :
    (finishRepair plane frame ticket source s).mode = s.mode := by
  simp [finishRepair]

@[simp] theorem execRepairDone_kept (s : State) : Kept s (execRepairDone s) := by
  unfold execRepairDone
  split
  · simp
  · split <;> simp

@[simp] theorem queueHanded_mode (plane frame ticket : Nat) (s : State) : (queueHanded plane frame ticket s).mode = s.mode := by
  simp [queueHanded]

@[simp] theorem execContentionFrameRead_kept (vote : CopyVote) (s : State) : Kept s (execContentionFrameRead vote s) := by
  unfold execContentionFrameRead
  extract_lets t
  have ht : t.mode = s.mode := by simp [t]
  split
  · simp [ht]
  · extract_lets gone
    have hg : gone.mode = s.mode := by simp [gone, ht]
    split
    · simp [hg]
    · split
      · simp [hg]
      · split <;> simp [ht]

@[simp] theorem hCsReset_keepsMode : hCsReset.KeepsMode := by simp [hCsReset]

@[simp] theorem hCsSetting_keepsMode (e : ScrubSetting) : (hCsSetting e).KeepsMode := by
  intro v s t h
  simp only [hCsSetting] at h
  split at h
  · cases h
  · next hk =>
    cases h
    simp [keepValue_mode hk]

@[simp] theorem hFrEnable_keepsMode : hFrEnable.KeepsMode := by
  intro v s t h
  simp only [hFrEnable, Handler.doing] at h
  split at h
  · cases h
  · split at h
    · cases h
    · next hk =>
      cases h
      simp [keepValue_mode hk]

/-! ### Machine/Queues -/

@[simp] theorem State.setQueue_mode (s : State) (q : Nat) (x : Queue) : (s.setQueue q x).mode = s.mode := by
  simp [State.setQueue]

@[simp] theorem rowsReady_mode (cls : Nat) (rows : List Nat) (s : State) : (rowsReady cls rows s).2.mode = s.mode := by
  simp [rowsReady]

@[simp] theorem putRow_mode (r : Nat) (d : BitVec 128) (poison : Bool) (s : State) : (putRow r d poison s).mode = s.mode := by
  simp [putRow]

@[simp] theorem takeRow_mode (r : Nat) (s : State) : (takeRow r s).2.mode = s.mode := by simp [takeRow]

@[simp] theorem writeRows_mode (rows : List (Nat × BitVec 128 × Bool)) (s : State) : (writeRows rows s).mode = s.mode := by
  fun_induction writeRows <;> simp [*]

@[simp] theorem refusedQueue_mode (s : State) : (refusedQueue s).mode = s.mode := by simp [refusedQueue]

@[simp] theorem pushRow_mode (q : Nat) (d : BitVec 128) (poison last : Bool) (s : State) :
    (pushRow q d poison last s).2.mode = s.mode := by
  simp [pushRow]

@[simp] theorem madeField_mode (w : BitVec 64 × Bool) (s : State) : (madeField w s).2.mode = s.mode := by simp [madeField]

@[simp] theorem madeHeader_mode (a b : (BitVec 64 × Bool) × BitVec 64 × Bool) (resync : Bool) (s : State) :
    (madeHeader a b resync s).2.mode = s.mode := by
  simp [madeHeader]

@[simp] theorem takeRows_mode (rows : List Nat) (s : State) : (takeRows rows s).2.mode = s.mode := by
  induction rows generalizing s with
  | nil => rfl
  | cons r rs ih => simp [takeRows, ih]

@[simp] theorem deliverRows_mode (rows : List Nat) (s : State) : (deliverRows rows s).2.mode = s.mode := by
  unfold deliverRows
  split <;> simp

@[simp] theorem resyncQueue_mode (q : Nat) (s : State) : (resyncQueue q s).mode = s.mode := by simp [resyncQueue]

@[simp] theorem popFragment_mode (q : Nat) (s : State) : (popFragment q s).2.mode = s.mode := by
  unfold popFragment
  dsimp only
  split <;> simp

@[simp] theorem execQpPopRequest_kept (district queue : Nat) (s : State) : Kept s (execQpPopRequest district queue s) := by
  simp only [execQpPopRequest]
  split
  · simp
  · split
    · simp
    · split <;> simp

@[simp] theorem hQCtrl_keepsMode : hQCtrl.KeepsMode := by simp [hQCtrl]

@[simp] theorem hQField_keepsMode (e : El) : (hQField e).KeepsMode := by simp [hQField]

@[simp] theorem hQFlush_keepsMode : hQFlush.KeepsMode := by simp [hQFlush]

/-! ### Machine/Counts -/

@[simp] theorem restartPasses_mode (s : State) : (restartPasses s).mode = s.mode := by simp [restartPasses]

@[simp] theorem clearCounts_mode (e : ClearElement) (u : Nat) (s : State) : (clearCounts e u s).mode = s.mode := by
  unfold clearCounts
  split <;> simp

@[simp] theorem hClear_keepsMode (e : ClearElement) (u : Nat) : (hClear e u).KeepsMode := by simp [hClear]

/-! ### Machine/EventBuilder -/

@[simp] theorem showLevel_mode (s : State) : (showLevel s).mode = s.mode := by simp [showLevel]

@[simp] theorem warnOnce_mode (key code : Nat) (detail : Bytes) (s : State) : (warnOnce key code detail s).mode = s.mode := by
  simp [warnOnce]

@[simp] theorem refuseAccept_mode (reason : Nat) (s : State) : (refuseAccept reason s).mode = s.mode := by simp [refuseAccept]

@[simp] theorem takeAccept_mode (a : Accept) (s : State) : (takeAccept a s).mode = s.mode := by simp [takeAccept]

@[simp] theorem offerAccept_mode (a : Accept) (s : State) : (offerAccept a s).mode = s.mode := by simp [offerAccept]

@[simp] theorem judgeAccept_mode (a : Accept) (s : State) : (judgeAccept a s).mode = s.mode := by
  unfold judgeAccept
  split <;> simp

@[simp] theorem takeOffers_mode (s : State) : (takeOffers s).mode = s.mode := by simp [takeOffers]

@[simp] theorem handOver_mode (s : State) : (handOver s).mode = s.mode := by simp [handOver]

@[simp] theorem setTask_mode (t : EbTask) (s : State) : (setTask t s).mode = s.mode := by simp [setTask]

@[simp] theorem execExtractionStart_kept (group : Nat) (s : State) : Kept s (execExtractionStart group s) := by
  simp only [execExtractionStart]
  split
  · simp
  · split
    · simp
    · split <;> simp

@[simp] theorem extractWord_mode (n addr : Nat) (s : State) : (extractWord n addr s).2.mode = s.mode := by simp [extractWord]

@[simp] theorem extractRows_mode (cls : Nat) (l : List (Nat × Nat)) (s : State) : (extractRows cls l s).2.mode = s.mode := by
  induction l generalizing s with
  | nil => rfl
  | cons p l ih => simp [extractRows, ih]

theorem foldl_snd_mode {α β : Type} {f : β × State → α → β × State} (h : ∀ r a, (f r a).2.mode = r.2.mode)
    (l : List α) (r : β × State) : (l.foldl f r).2.mode = r.2.mode := by
  induction l generalizing r with
  | nil => rfl
  | cons a l ih => rw [List.foldl_cons, ih, h]

@[simp] theorem extractPresent_mode (t : EbTask) (stripe record : Nat) (s : State) :
    (extractPresent t stripe record s).2.mode = s.mode :=
  foldl_snd_mode (fun r p => by simp) ..

@[simp] theorem extractCrossing_mode (t : EbTask) (c : Nat) (s : State) : (extractCrossing t c s).2.mode = s.mode := by
  unfold extractCrossing
  split <;> simp

@[simp] theorem extractAll_mode (t : EbTask) (cs : List Nat) (s : State) : (extractAll t cs s).2.mode = s.mode := by
  induction cs generalizing s with
  | nil => rfl
  | cons c cs ih => simp [extractAll, ih]

@[simp] theorem execExtractionDone_kept (group : Nat) (s : State) : Kept s (execExtractionDone group s) := by
  unfold execExtractionDone
  split
  · simp
  · split
    · simp
    · extract_lets ready m t
      have hr : ready.2.mode = s.mode := by simp [ready]
      have hm : m.2.mode = s.mode := by simp [m, hr]
      split
      · simpa using hr
      · split <;> simp [t, hm]

@[simp] theorem dropTask_mode (s : State) : (dropTask s).mode = s.mode := by simp [dropTask]

@[simp] theorem writeFragment_mode (t : EbTask) (s : State) : (writeFragment t s).mode = s.mode := by simp [writeFragment]

@[simp] theorem execFragmentWrite_kept (group : Nat) (s : State) : Kept s (execFragmentWrite group s) := by
  unfold execFragmentWrite
  (repeat' split) <;> simp

@[simp] theorem hEbGroup_keepsMode (p : Nat) : (hEbGroup p).KeepsMode := by simp [hEbGroup]

@[simp] theorem hGWindow_keepsMode (e : WindowSide) (g : Nat) : (hGWindow e g).KeepsMode := by
  simp [Handler.KeepsMode, hGWindow]

@[simp] theorem hEventPreset_keepsMode : hEventPreset.KeepsMode := by simp [hEventPreset]

@[simp] theorem hEbDeferred_keepsMode (e : El) (u : Nat) : (hEbDeferred e u).KeepsMode := by simp [hEbDeferred]

@[simp] theorem clampTokens_mode (s : State) : (clampTokens s).mode = s.mode := by simp [clampTokens]

/-! ### Machine/TrunkLink -/

@[simp] theorem State.setTrunk_mode (s : State) (k : Nat) (x : Trunk) : (s.setTrunk k x).mode = s.mode := by
  simp [State.setTrunk]

@[simp] theorem enterUp_mode (k : Nat) (s : State) : (enterUp k s).mode = s.mode := by simp [enterUp]

@[simp] theorem settleLink_mode (k : Nat) (s : State) : (settleLink k s).mode = s.mode := by simp [settleLink]

@[simp] theorem settleLinks_mode (s : State) : (settleLinks s).mode = s.mode := by simp [settleLinks]

@[simp] theorem toTraining_mode (k : Nat) (s : State) : (toTraining k s).mode = s.mode := by simp [toTraining]

@[simp] theorem startTrunk_mode (k : Nat) (s : State) : (startTrunk k s).mode = s.mode := by simp [startTrunk]

@[simp] theorem hTkEnable_keepsMode (k : Nat) : (hTkEnable k).KeepsMode := by simp [hTkEnable]

@[simp] theorem hTkRate_keepsMode (k : Nat) : (hTkRate k).KeepsMode := by simp [hTkRate]

@[simp] theorem hTkMode_keepsMode (k : Nat) : (hTkMode k).KeepsMode := by simp [hTkMode]

@[simp] theorem hTkPrbs_keepsMode (k : Nat) : (hTkPrbs k).KeepsMode := by simp [hTkPrbs]

@[simp] theorem hRetrain_keepsMode (k : Nat) : (hRetrain k).KeepsMode := by simp [hRetrain]

@[simp] theorem restartSeq_mode (k : Nat) (s : State) : (restartSeq k s).mode = s.mode := by simp [restartSeq]

@[simp] theorem hTkReset_keepsMode (k : Nat) : (hTkReset k).KeepsMode := by simp [hTkReset]

@[simp] theorem noteEpoch_mode (k e : Nat) (s : State) : (noteEpoch k e s).mode = s.mode := by
  unfold noteEpoch
  dsimp only
  split <;> simp

@[simp] theorem sendBlocks_mode (k : Nat) (bs : List (BitVec 257)) (s : State) : (sendBlocks k bs s).mode = s.mode := by
  simp [sendBlocks]

@[simp] theorem takeReady_mode (k : Nat) (b : BitVec 256) (s : State) : (takeReady k b s).mode = s.mode := by simp [takeReady]

@[simp] theorem countWords_mode (k : Nat) (es : List Nat) (s : State) : (countWords k es s).mode = s.mode := by
  simp [countWords]

@[simp] theorem stopTrunk_mode (k : Nat) (s : State) : (stopTrunk k s).mode = s.mode := by simp [stopTrunk]

@[simp] theorem freeFragment_mode (q : Nat) (s : State) : (freeFragment q s).mode = s.mode := by simp [freeFragment]

@[simp] theorem acknowledge_mode (k n : Nat) (s : State) : (acknowledge k n s).mode = s.mode := by
  unfold acknowledge
  dsimp only
  split <;> simp

@[simp] theorem fixC0_mode (k t : Nat) (ms : List (BitVec 64)) (s : State) : (fixC0 k t ms s).mode = s.mode := by simp [fixC0]

@[simp] theorem sendC0_mode (k t : Nat) (ms : List (BitVec 64)) (s : State) : (sendC0 k t ms s).mode = s.mode := by
  unfold sendC0
  dsimp only
  (repeat' split) <;> simp

@[simp] theorem sendDueC0_mode (s : State) : (sendDueC0 s).mode = s.mode := by
  unfold sendDueC0
  refine foldl_mode fun t p => ?_
  split
  · extract_lets x u
    have hu : u.mode = t.mode := by simp [u]
    split <;> simp [hu]
  · rfl

@[simp] theorem execC0BlockReceived_kept (trunk : Nat) (block : BitVec 256) (s : State) :
    Kept s (execC0BlockReceived trunk block s) := by
  simp only [execC0BlockReceived]
  split
  · simp
  · split
    · simp
    · split
      · rw [kept_next, State.rinc_mode, State.setTrunk_mode]
      · rw [kept_next, State.setTrunk_mode, State.setTrunk_mode]

/-! ### Machine/Decision -/

@[simp] theorem holdDecision_mode (i t : Nat) (d : Decision) (s : State) : (holdDecision i t d s).mode = s.mode := by
  simp [holdDecision]

@[simp] theorem breach_mode (i p t code shown : Nat) (s : State) : (breach i p t code shown s).mode = s.mode := by simp [breach]

@[simp] theorem suspect_mode (i t code : Nat) (s : State) : (suspect i t code s).mode = s.mode := by simp [suspect]

@[simp] theorem judgeOffer_mode (i : Nat) (tap : LedgerTap) (path : LedgerPath) (o : TapOffer) (s : State) :
    (judgeOffer i tap path o s).mode = s.mode := by
  unfold judgeOffer
  dsimp only
  split
  · simp
  · split <;> simp

@[simp] theorem ariseSuspects_mode (s : State) : (ariseSuspects s).mode = s.mode := by
  unfold ariseSuspects
  refine foldl_mode fun t a => ?_
  (repeat' split) <;> simp

@[simp] theorem execSentinelJudge_kept (tap : Nat) (o : TapOffer) (s : State) : Kept s (execSentinelJudge tap o s) := by
  unfold execSentinelJudge
  split
  · simp
  · split <;> simp

@[simp] theorem freeMarker_mode (s : State) : (freeMarker s).2.mode = s.mode := by simp [freeMarker]

@[simp] theorem lineDecision_mode (i t : Nat) (p : LedgerPath) (s : State) : (lineDecision i t p s).2.mode = s.mode := by
  unfold lineDecision
  split
  · simp
  · split <;> simp

@[simp] theorem emission_mode (i t : Nat) (p : LedgerPath) (s : State) : (emission i t p s).2.mode = s.mode := by
  unfold emission
  (repeat' split) <;> simp

@[simp] theorem countDecision_mode (p : Nat) (d : Decision) (s : State) : (countDecision p d s).mode = s.mode := by
  unfold countDecision
  split <;> simp

@[simp] theorem putDownlinks_mode (q mask cmd : Nat) (s : State) : (putDownlinks q mask cmd s).mode = s.mode := by
  simp [putDownlinks]

@[simp] theorem handOut_mode (i t : Nat) (tap : LedgerTap) (p : LedgerPath) (d : Decision) (s : State) :
    (handOut i t tap p d s).mode = s.mode := by
  unfold handOut
  dsimp only
  (repeat' split) <;> simp

@[simp] theorem emitTap_mode (t i : Nat) (tap : LedgerTap) (s : State) : (emitTap t i tap s).mode = s.mode := by
  unfold emitTap
  split <;> simp

@[simp] theorem fixMessages_mode (t : Nat) (s : State) : (fixMessages t s).mode = s.mode := by simp [fixMessages]

@[simp] theorem hBreachAck_keepsMode : hBreachAck.KeepsMode := by simp [hBreachAck]

@[simp] theorem clearBreach_mode (s : State) : (clearBreach s).mode = s.mode := by simp [clearBreach]

@[simp] theorem hBusyForce_keepsMode : hBusyForce.KeepsMode := by simp [hBusyForce]

@[simp] theorem hPolicy_keepsMode (p : Nat) : (hPolicy p).KeepsMode := by simp [hPolicy]

@[simp] theorem hTapOut_keepsMode (i : Nat) : (hTapOut i).KeepsMode := by
  simp [Handler.KeepsMode, hTapOut]

@[simp] theorem State.setLane_mode (s : State) (q : Nat) (x : LaneRx) : (s.setLane q x).mode = s.mode := by simp [State.setLane]

@[simp] theorem badLaneWord_mode (q : Nat) (s : State) : (badLaneWord q s).mode = s.mode := by simp [badLaneWord]

@[simp] theorem pairAccept_mode (q atype : Nat) (forced mismatch : Bool) (s : State) :
    (pairAccept q atype forced mismatch s).mode = s.mode := by
  simp [pairAccept]

@[simp] theorem timingAccept_mode (e : Presented) (s : State) : (timingAccept e s).mode = s.mode := by simp [timingAccept]

@[simp] theorem hSsMode_keepsMode (q : Nat) : (hSsMode q).KeepsMode := by simp [hSsMode]

@[simp] theorem hSsFioCfg_keepsMode (q : Nat) : (hSsFioCfg q).KeepsMode := by
  simp [Handler.KeepsMode, hSsFioCfg]

/-! ### Machine/Spares -/

@[simp] theorem hSubstitute_keepsMode (q : Nat) : (hSubstitute q).KeepsMode := by
  intro v s t h
  simp only [hSubstitute, Handler.doing] at h
  split at h
  · cases h
  · next hs => split at h <;> cases h <;> simp [State.substitute_mode hs]

@[simp] theorem startWipe_mode (cause : Nat) (s : State) : (startWipe cause s).mode = s.mode := by simp [startWipe]

theorem startHandovers_mode (l : List Nat) (v : Nat) (s : State) :
    (l.foldl (fun t n => startHandover n v t) s).mode = s.mode :=
  foldl_mode fun _ _ => by simp

@[simp] theorem hVaultEnable_keepsMode : hVaultEnable.KeepsMode := by
  intro v s t h
  simp only [hVaultEnable, Handler.doing] at h
  split at h
  · split at h
    · exact keepValue_mode h
    · split at h
      · cases h
      · split at h
        · cases h
        · next hk =>
          split at h
          · cases h
            exact keepValue_mode hk
          · injection h with h
            rw [← h, State.rset_mode, startHandovers_mode, keepValue_mode hk]
  · split at h
    · split at h
      · cases h
      · next hk =>
        injection h with h
        rw [← h, startWipe_mode, keepValue_mode hk]
    · exact keepValue_mode h

@[simp] theorem hVaultLock_keepsMode : hVaultLock.KeepsMode := by simp [hVaultLock]

@[simp] theorem hVaultUnlock_keepsMode : hVaultUnlock.KeepsMode := by simp [hVaultUnlock]

@[simp] theorem hVaultWipe_keepsMode : hVaultWipe.KeepsMode := by simp [hVaultWipe]

@[simp] theorem finishWipe_mode (s : State) : (finishWipe s).mode = s.mode := by simp [finishWipe]

/-! ### Machine/TimeBase -/

@[simp] theorem closeWindows_mode (s : State) : (closeWindows s).mode = s.mode := by simp [closeWindows]

@[simp] theorem endNumbering_mode (s : State) : (endNumbering s).mode = s.mode := by simp [endNumbering]

@[simp] theorem toNoClock_mode (s : State) : (toNoClock s).mode = s.mode := by simp [toNoClock]

@[simp] theorem storeTimeSetting_mode (e : El) (v : Nat) (s : State) : (storeTimeSetting e v s).mode = s.mode := by
  simp [storeTimeSetting]

@[simp] theorem hClkSrc_keepsMode : hClkSrc.KeepsMode := by simp [hClkSrc]

@[simp] theorem hTimingPort_keepsMode : hTimingPort.KeepsMode := by simp [hTimingPort]

@[simp] theorem hMclkNominal_keepsMode : hMclkNominal.KeepsMode := by
  simp [Handler.KeepsMode, hMclkNominal]

@[simp] theorem hOrbitLen_keepsMode : hOrbitLen.KeepsMode := by
  simp [Handler.KeepsMode, hOrbitLen]

@[simp] theorem hFabricRatio_keepsMode : hFabricRatio.KeepsMode := by
  simp [Handler.KeepsMode, hFabricRatio]

@[simp] theorem hAlignSrc_keepsMode : hAlignSrc.KeepsMode := by simp [hAlignSrc]

@[simp] theorem hOrbitOffset_keepsMode : hOrbitOffset.KeepsMode := by
  simp [Handler.KeepsMode, hOrbitOffset]

@[simp] theorem hSyncEvery_keepsMode : hSyncEvery.KeepsMode := by
  simp [Handler.KeepsMode, hSyncEvery]

@[simp] theorem hSyncSamplePhase_keepsMode : hSyncSamplePhase.KeepsMode := by
  simp [Handler.KeepsMode, hSyncSamplePhase]

@[simp] theorem hFineDelay_keepsMode : hFineDelay.KeepsMode := by
  simp [Handler.KeepsMode, hFineDelay]

@[simp] theorem slewFineDelay_mode (s : State) : (slewFineDelay s).mode = s.mode := by simp [slewFineDelay]

@[simp] theorem amendLoss_mode (cause : Nat) (s : State) : (amendLoss cause s).mode = s.mode := by simp [amendLoss]

@[simp] theorem recordLoss_mode (cause : Nat) (s : State) : (recordLoss cause s).mode = s.mode := by
  unfold recordLoss
  split <;> simp

@[simp] theorem toTb_mode (st : TbState) (s : State) : (toTb st s).mode = s.mode := by simp [toTb]

@[simp] theorem dropSource_mode (cause : LossCause) (s : State) : (dropSource cause s).mode = s.mode := by simp [dropSource]

@[simp] theorem lossAgain_mode (cause : Nat) (s : State) : (lossAgain cause s).mode = s.mode := by
  unfold lossAgain
  split <;> simp

@[simp] theorem stepOver_mode (first last : Nat) (s : State) : (stepOver first last s).mode = s.mode := by simp [stepOver]

@[simp] theorem align_mode (x : Nat) (s : State) : (align x s).mode = s.mode := by simp [align]

@[simp] theorem alignHeld_mode (x : Nat) (s : State) : (alignHeld x s).mode = s.mode := by simp [alignHeld]

@[simp] theorem alignAtOnce_mode (s : State) : (alignAtOnce s).mode = s.mode := by
  unfold alignAtOnce
  split
  · simp
  · split <;> simp

@[simp] theorem execPllLocked_kept (s : State) : Kept s (execPllLocked s) := by
  unfold execPllLocked
  split <;> simp

@[simp] theorem hSyncRole_keepsMode : hSyncRole.KeepsMode := by
  intro v s
  simp only [hSyncRole, Handler.doing]
  (repeat' split) <;> simp

@[simp] theorem provisionalMarker_mode (back : Nat) (s : State) : (provisionalMarker back s).mode = s.mode := by
  unfold provisionalMarker
  split <;> simp

@[simp] theorem takeMarker_mode (src : OrbitSource) (s : State) : (takeMarker src s).mode = s.mode := by simp [takeMarker]

@[simp] theorem provisionalWord_mode (n : Nat) (s : State) : (provisionalWord n s).mode = s.mode := by
  unfold provisionalWord
  split <;> simp

@[simp] theorem tickSync_mode (s : State) : (tickSync s).mode = s.mode := by simp [tickSync]

/-! ### Machine/Settings -/

@[simp] theorem hPhase_keepsMode (e : El) (u : Nat) : (hPhase e u).KeepsMode := by
  simp [Handler.KeepsMode, hPhase]

@[simp] theorem hSsMult_keepsMode (q : Nat) : (hSsMult q).KeepsMode := by
  simp [Handler.KeepsMode, hSsMult]

@[simp] theorem hEthernet_keepsMode (e : El) (k : Nat) : (hEthernet e k).KeepsMode := by simp [hEthernet]

@[simp] theorem hIpHost_keepsMode (d : Nat) : (hIpHost d).KeepsMode := by
  simp [Handler.KeepsMode, hIpHost]

@[simp] theorem settingHandler_keepsMode (w : Route) (e : El) (u : Nat) : (settingHandler w e u).KeepsMode := by
  unfold settingHandler
  split <;> simp

theorem applySetting_mode {global : Bool} {r : Bytes} {s t : State} (h : applySetting global r s = some t) :
    t.mode = s.mode := by
  simp only [applySetting] at h
  split at h
  · cases h
  · split at h
    · split at h
      · next hj =>
        cases h
        exact judge_mode (settingHandler_keepsMode _ _ _) hj
      · cases h
    · cases h

theorem applySettings_mode {global : Bool} {n : Nat} {l : List Bytes} {s t : State} (h : applySettings global n l s = .ok t) :
    t.mode = s.mode := by
  induction l generalizing n s with
  | nil => cases h; rfl
  | cons r rs ih =>
    simp only [applySettings] at h
    split at h
    · cases h
    · next hr => rw [ih h, applySetting_mode hr]

/-! ### Machine/Ledger -/

@[simp] theorem showLedger_mode (f : Option LedgerFault) (s : State) : (showLedger f s).mode = s.mode := by
  unfold showLedger
  split <;> simp

@[simp] theorem showTap_mode (i : Nat) (x : LedgerTap) (fresh : Bool) (s : State) : (showTap i x fresh s).mode = s.mode := by
  simp [showTap]

@[simp] theorem hideTap_mode (i : Nat) (s : State) : (hideTap i s).mode = s.mode := by
  unfold hideTap
  dsimp only
  split <;> simp

@[simp] theorem putLedger_mode (l : Ledger) (fresh : Nat → Bool) (s : State) : (putLedger l fresh s).mode = s.mode := by
  simp [putLedger]

/-! ### Machine/Stops -/

@[simp] theorem eachDistrict_mode (f : District → District) (s : State) : (eachDistrict f s).mode = s.mode := by
  simp [eachDistrict]

@[simp] theorem endFreeze_mode (s : State) : (endFreeze s).mode = s.mode := by simp [endFreeze]

@[simp] theorem cancelStages_mode (s : State) : (cancelStages s).mode = s.mode := by
  unfold cancelStages
  dsimp only
  split <;> simp

@[simp] theorem dropLedger_mode (s : State) : (dropLedger s).mode = s.mode := by simp [dropLedger]

@[simp] theorem clearConfiguration_mode (s : State) : (clearConfiguration s).mode = s.mode := by simp [clearConfiguration]

@[simp] theorem failWaiting_mode (s : State) : (failWaiting s).mode = s.mode := by simp [failWaiting]

@[simp] theorem sendStatusOn_mode (k : Nat) (s : State) : (sendStatusOn k s).mode = s.mode := by simp [sendStatusOn]

@[simp] theorem sendLoaderStatus_mode (s : State) : (sendLoaderStatus s).mode = s.mode := by simp [sendLoaderStatus]

@[simp] theorem loadPhase_mode (v : Nat) (s : State) : (loadPhase v s).mode = s.mode := by simp [loadPhase]

@[simp] theorem dropWritten_mode (s : State) : (dropWritten s).mode = s.mode := by simp [dropWritten]

@[simp] theorem showFault_mode (f : LoadFault) (s : State) : (showFault f s).mode = s.mode := by simp [showFault]

@[simp] theorem recordFault_mode (f : LoadFault) (s : State) : (recordFault f s).mode = s.mode := by simp [recordFault]

/-! ### Machine/Loader -/

@[simp] theorem takeBytes_mode (bs : Bytes) (s : State) : (takeBytes bs s).mode = s.mode := by simp [takeBytes]

@[simp] theorem beginPlane_mode (plane : Nat) (s : State) : (beginPlane plane s).mode = s.mode := by
  unfold beginPlane
  extract_lets serves t p u l
  have hu : u.mode = s.mode := by simp [u, t]
  split <;> simp [hu, l]

@[simp] theorem payOwed_mode (s : State) : (payOwed s).mode = s.mode := by simp [payOwed]

@[simp] theorem withPlanes_mode (b : Bytes) (s : State) : (withPlanes b s).mode = s.mode := by simp [withPlanes]

theorem State.judgeLoad_mode {s t : State} {l : Ledger} (h : s.judgeLoad = .ok (t, l)) : t.mode = s.mode := by
  simp only [State.judgeLoad] at h
  split at h
  · cases h
  split at h
  · cases h
  next hs =>
  split at h
  · cases h
  split at h
  · cases h
  split at h
  · cases h
  cases h
  rw [applySettings_mode hs, withPlanes_mode]

@[simp] theorem settlePlane_mode (s0 : State) (plane : Nat) (s : State) : (settlePlane s0 plane s).mode = s.mode := by
  simp [settlePlane]

@[simp] theorem applyDram_mode (s0 s : State) : (applyDram s0 s).mode = s.mode := by
  unfold applyDram
  refine foldl_mode fun t a => ?_
  split <;> simp

@[simp] theorem putTable_mode (b : Bytes) (due : Nat) (s : State) : (putTable b due s).mode = s.mode := by simp [putTable]

@[simp] theorem raiseVersion_mode (v : Nat) (s : State) : (raiseVersion v s).mode = s.mode := by
  unfold raiseVersion
  split
  · split
    · next h => simp [writeCounter_mode h]
    · rfl
  · rfl

theorem takeSlots_mode (l : List Nat) (s : State) : (l.foldl (fun t k => takeSlot k t) s).mode = s.mode :=
  foldl_mode fun _ _ => by simp

@[simp] theorem acceptPartial_mode (s0 s : State) : (acceptPartial s0 s).mode = s.mode := by
  unfold acceptPartial
  extract_lets hd t u
  have hu : u.mode = s.mode := by
    simp only [u, mode_ite, raiseVersion_mode, ite_self]
    exact takeSlots_mode ..
  rw [foldl_mode, hu]
  intro t d
  split <;> simp

@[simp] theorem hArAdvance_keepsMode : hArAdvance.KeepsMode := by
  intro v s t h
  simp only [hArAdvance] at h
  split at h
  · cases h
  · next hw =>
    cases h
    simp [writeCounter_mode hw]

@[simp] theorem hKeyRevoke_keepsMode : hKeyRevoke.KeepsMode := by
  intro v s t h
  simp only [hKeyRevoke, Handler.doing] at h
  split at h
  · cases h; rfl
  split at h
  · cases h
  · exact keepKey_map_mode (by simp) h

/-! ### Machine/InnerPort -/

@[simp] theorem ipAnswer_mode (d status ticket : Nat) (data : BitVec 2048) (s : State) :
    (ipAnswer d status ticket data s).mode = s.mode := by
  simp [ipAnswer]

@[simp] theorem ipBegin_mode (plane : Nat) (s : State) : (ipBegin plane s).mode = s.mode := by
  unfold ipBegin
  extract_lets t p u l
  have hu : u.mode = s.mode := by simp [u, t]
  split <;> simp [hu, l]

@[simp] theorem ipWriteFrame_mode (plane frame : Nat) (data : BitVec 2048) (s : State) :
    (ipWriteFrame plane frame data s).2.mode = s.mode := by simp [ipWriteFrame]

theorem ipDamaged_mode (d plane frame : Nat) (v : BitVec 2048) (s : State) : (ipDamaged d plane frame v s s).mode = s.mode := by
  simp [ipDamaged]

@[simp] theorem ipStore_mode (d plane frame : Nat) (data : BitVec 2048) (s : State) :
    (ipStore d plane frame data s).mode = s.mode := by
  simp [ipStore, ipDamaged_mode]

@[simp] theorem execIpFrameWrite_kept (district plane frame : Nat) (data : IpBeats) (s : State) :
    Kept s (execIpFrameWrite district plane frame data s) := by
  unfold execIpFrameWrite
  split
  · simp
  · split
    · simp
    · split <;> simp

@[simp] theorem execIpFrameRead_kept (district plane : Nat) (frame : IpRequest) (s : State) :
    Kept s (execIpFrameRead district plane frame s) := by
  unfold execIpFrameRead
  split
  · simp
  · split
    · simp
    · split
      · simp
      · split
        · simp
        · split <;> simp
        · simp [ipDamaged_mode]

@[simp] theorem execIpPartial_kept (district plane frame : Nat) (mask data : FrameBits) (s : State) :
    Kept s (execIpPartial district plane frame mask data s) := by
  unfold execIpPartial
  split
  · simp
  · split
    · simp
    · split
      · simp
      · split <;> simp [ipDamaged_mode]

@[simp] theorem sealReserve_mode (plane : Nat) (frames : List Nat) (s : State) :
    (sealReserve plane frames s).mode = s.mode := by
  unfold sealReserve
  split
  · simp
  · split <;> simp

@[simp] theorem sealPlane_mode (plane : Nat) (t : State) : (sealPlane plane t).mode = t.mode := by simp [sealPlane]

/-- Induction on a structural recursion, for a function whose own equations exceed the elaborator's depth. -/
theorem brecOn_induction {α : Type} {P : α → Prop} {F : (n : Nat) → Nat.below (motive := fun _ => α) n → α}
    (zero : ∀ b, P (F 0 b)) (succ : ∀ n b, P b.1 → P (F (n + 1) b)) (n : Nat) : P (Nat.brecOn n F) := by
  induction n with
  | zero => exact zero _
  | succ n ih => exact succ n _ ih

@[simp] theorem sealNow_mode (fuel d plane : Nat) (s : State) : (sealNow fuel d plane s).mode = s.mode := by
  delta sealNow
  refine brecOn_induction (P := fun f : Nat → Nat → State → State => ∀ d plane s, (f d plane s).mode = s.mode)
    ?_ ?_ fuel d plane s
  · intro _ d plane s
    rfl
  · intro n again ih d plane s
    delta sealNow._f
    dsimp only
    split
    · simp
    · split
      · simp
      · split
        · split <;> simp [ih]
        · simp

@[simp] theorem execIpSeal_kept (district : Nat) (plane : IpRequest) (s : State) : Kept s (execIpSeal district plane s) := by
  unfold execIpSeal
  split
  · simp
  · split
    · simp
    · split <;> simp

@[simp] theorem settleSeals_mode (s : State) : (settleSeals s).mode = s.mode := by simp [settleSeals]

/-! ### Machine/Recorder -/

@[simp] theorem State.setRecorder_mode (s : State) (r : Recorder) : (s.setRecorder r).mode = s.mode := by
  simp [State.setRecorder]

@[simp] theorem raiseAlert_mode (severity area : Nat) (s : State) : (raiseAlert severity area s).mode = s.mode := by
  simp [raiseAlert]

@[simp] theorem queueCopy_mode (r : Record) (s : State) : (queueCopy r s).mode = s.mode := by simp [queueCopy]

@[simp] theorem rewriteRecord_mode (seq : Nat) (f : Record → Record) (s : State) : (rewriteRecord seq f s).mode = s.mode := by
  unfold rewriteRecord
  dsimp only
  split <;> simp

@[simp] theorem copyRecord_mode (r : Record) (s : State) : (copyRecord r s).mode = s.mode := by
  simp only [copyRecord]
  split
  · split <;> simp
  · split <;> simp

@[simp] theorem execPersistCopy_kept (s : State) : Kept s (execPersistCopy s) := by
  unfold execPersistCopy
  dsimp only
  split
  · simp
  · split <;> simp

@[simp] theorem execPersistRefresh_kept (s : State) : Kept s (execPersistRefresh s) := by
  unfold execPersistRefresh
  split <;> simp

@[simp] theorem bootPseq_mode (s : State) : (bootPseq s).mode = s.mode := by simp [bootPseq]

@[simp] theorem writeRecord_mode (e : Event) (s : State) : (writeRecord e s).mode = s.mode := by
  unfold writeRecord
  dsimp only
  (repeat' split) <;> simp

@[simp] theorem writeNext_mode (s : State) : (writeNext s).mode = s.mode := by
  unfold writeNext
  split <;> simp

@[simp] theorem hRecClear_keepsMode (w : Route) : (hRecClear w).KeepsMode := by simp [hRecClear]

/-! ### Machine/DataPorts -/

@[simp] theorem setDpError_mode (n : Nat) (overrun : Bool) (s : State) : (setDpError n overrun s).mode = s.mode := by
  simp [setDpError]

@[simp] theorem setDataErr_mode (n : Nat) (s : State) : (setDataErr n s).mode = s.mode := by simp [setDataErr]

@[simp] theorem hDpBind_keepsMode (n : Nat) : (hDpBind n).KeepsMode := by simp [hDpBind]

@[simp] theorem hDpTarget_keepsMode (n : Nat) : (hDpTarget n).KeepsMode := by
  simp [Handler.KeepsMode, hDpTarget]

@[simp] theorem dpDamaged_mode (plane frame : Nat) (s : State) : (dpDamaged plane frame s).2.mode = s.mode := by
  simp [dpDamaged]

@[simp] theorem dpPutFrame_mode (plane frame : Nat) (data : BitVec 2048) (s : State) :
    (dpPutFrame plane frame data s).2.mode = s.mode := by simp [dpPutFrame]

@[simp] theorem dpWriteFrame_mode (plane frame offset : Nat) (bs : Bytes) (s : State) :
    (dpWriteFrame plane frame offset bs s).2.mode = s.mode := by
  unfold dpWriteFrame
  split
  · rfl
  · split
    · simp
    · split <;> simp

@[simp] theorem dpWritePlane_mode (plane fuel addr : Nat) (bs : Bytes) (s : State) :
    (dpWritePlane plane fuel addr bs s).2.2.mode = s.mode := by
  induction fuel generalizing addr bs s with
  | zero => rfl
  | succ fuel ih =>
    unfold dpWritePlane
    split
    · rfl
    · extract_lets part r
      have hr : r.2.mode = s.mode := by simp [r]
      split
      · exact hr
      · rw [ih, hr]

/-- What a data port reads of one frame. -/
theorem dpReadFrame_mode (plane frame : Nat) (s : State) :
    (match s.portRead plane frame with
      | .good v => ((.ok v, s) : Except Nat (BitVec 2048) × State)
      | .fixed v => if s.repairRefused plane frame then (.error 6, s) else (.ok v, (enqueueRepair plane frame 1 s).2)
      | .damaged _ => (.error (dpDamaged plane frame s).1, (dpDamaged plane frame s).2)).2.mode = s.mode := by
  split <;> simp

@[simp] theorem dpReadFrames_mode (plane k frame : Nat) (s : State) : (dpReadFrames plane k frame s).2.mode = s.mode := by
  induction k generalizing frame s with
  | zero => rfl
  | succ k ih =>
    unfold dpReadFrames
    split
    · rfl
    extract_lets damaged one r
    have ho : one.2.mode = s.mode := dpReadFrame_mode plane frame s
    have hr : r.2.mode = s.mode := by rw [ih, ho]
    split
    · exact ho
    · split <;> exact hr

@[simp] theorem dpReadWords_mode (port bank k addr : Nat) (s : State) : (dpReadWords port bank k addr s).2.mode = s.mode := by
  induction k generalizing addr s with
  | zero => rfl
  | succ k ih => simp [dpReadWords, ih]

@[simp] theorem dpWriteWords_mode (bank fuel addr : Nat) (bs : Bytes) (s : State) :
    (dpWriteWords bank fuel addr bs s).mode = s.mode := by
  induction fuel generalizing addr bs s with
  | zero => rfl
  | succ fuel ih =>
    unfold dpWriteWords
    split
    · rfl
    · simp [ih]

@[simp] theorem dpFetch_mode (n len : Nat) (s : State) : (dpFetch n len s).2.mode = s.mode := by
  unfold dpFetch
  extract_lets addr target frames r t words q slots bs
  have ht : t.mode = s.mode := by simp [t]
  split
  · exact dpReadFrames_mode ..
  · rfl
  · rfl
  · simp [q, ht]
  · rfl
  · rfl

@[simp] theorem dpRead_mode (w : Route) (n len : Nat) (s : State) : (dpRead w n len s).2.mode = s.mode := by
  unfold dpRead
  split
  · simp
  · extract_lets r
    have hr : r.2.mode = s.mode := by simp [r]
    split <;> simp [hr]

@[simp] theorem dpWasRead_mode (r : Except Nat Bytes × State) : (dpWasRead r).2.2.mode = r.2.mode := by
  unfold dpWasRead
  split <;> rfl

@[simp] theorem execDpDataRead_kept (w : Route) (n len : Nat) (s : State) : Kept s (execDpDataRead w n len s) := by
  unfold execDpDataRead
  split
  · simpa using inTurn_mode _ _ _ fun t => by simp
  · simp

/-! ### Machine/Locks -/

@[simp] theorem hExpertLock_keepsMode (w : Route) : (hExpertLock w).KeepsMode := by simp [hExpertLock]

@[simp] theorem hLockBreak_keepsMode : hLockBreak.KeepsMode := by simp [hLockBreak]

@[simp] theorem hAlertAck_keepsMode : hAlertAck.KeepsMode := by simp [hAlertAck]

/-! ### Machine/CoreUnit -/

@[simp] theorem State.setCore_mode (s : State) (c : ServiceCore) : (s.setCore c).mode = s.mode := by simp [State.setCore]

@[simp] theorem startStage_mode (k : Nat) (s : State) : (startStage k s).mode = s.mode := by simp [startStage]

@[simp] theorem kickWatchdog_mode (v : Nat) (s : State) : (kickWatchdog v s).mode = s.mode := by simp [kickWatchdog]

@[simp] theorem hWdtEnable_keepsMode : hWdtEnable.KeepsMode := by
  intro v s t h
  simp only [hWdtEnable, Handler.doing] at h
  split at h
  · cases h
  · next hk =>
    cases h
    simp [keepValue_mode hk]

@[simp] theorem endFirstStage_mode (s : State) : (endFirstStage s).mode = s.mode := by simp [endFirstStage]

@[simp] theorem lockVault_mode (s : State) : (lockVault s).mode = s.mode := by simp [lockVault]

@[simp] theorem startCore_mode (s : State) : (startCore s).mode = s.mode := by simp [startCore]

@[simp] theorem dropStaged_mode (s : State) : (dropStaged s).mode = s.mode := by simp [dropStaged]

@[simp] theorem dropCoreWork_mode (s : State) : (dropCoreWork s).mode = s.mode := by simp [dropCoreWork]

@[simp] theorem coreReset_mode (cause : Nat) (s : State) : (coreReset cause s).mode = s.mode := by simp [coreReset]

@[simp] theorem endSecondStage_mode (s : State) : (endSecondStage s).mode = s.mode := by simp [endSecondStage]

@[simp] theorem runSlot_mode (i : Nat) (s : State) : (runSlot i s).mode = s.mode := by simp [runSlot]

@[simp] theorem commitFirmware_mode (v : Nat) (s : State) : (commitFirmware v s).mode = s.mode := by
  unfold commitFirmware
  split
  · rfl
  · split
    · next h => simp [writeCounter_mode h]
    · rfl

@[simp] theorem settleTimer_mode (s : State) : (settleTimer s).mode = s.mode := by simp [settleTimer]

@[simp] theorem writeMsip_mode (v : Nat) (s : State) : (writeMsip v s).mode = s.mode := by simp [writeMsip]

@[simp] theorem clearIrq_mode (v : Nat) (s : State) : (clearIrq v s).mode = s.mode := by simp [clearIrq]

@[simp] theorem popMemEvent_mode (s : State) : (popMemEvent s).mode = s.mode := by simp [popMemEvent]

@[simp] theorem takeMemLost_mode (s : State) : (takeMemLost s).mode = s.mode := by simp [takeMemLost]

@[simp] theorem State.setMbox_mode (s : State) (m : Mailbox) : (s.setMbox m).mode = s.mode := by simp [State.setMbox]

@[simp] theorem refuseMailbox_mode (s : State) : (refuseMailbox s).mode = s.mode := by simp [refuseMailbox]

@[simp] theorem countOversize_mode (q : Nat) (s : State) : (countOversize q s).mode = s.mode := by simp [countOversize]

@[simp] theorem commitRow_mode (s : State) : (commitRow s).mode = s.mode := by simp [commitRow]

@[simp] theorem setRow_mode (row : BitVec 128) (k : Nat) (s : State) : (setRow row k s).mode = s.mode := by simp [setRow]

@[simp] theorem presentFragment_mode (s : State) : (presentFragment s).mode = s.mode := by
  unfold presentFragment
  extract_lets m
  split
  · rfl
  · extract_lets ready d t
    simp [t, d, ready]

@[simp] theorem namePops_mode (q : Nat) (s : State) : (namePops q s).mode = s.mode := by simp [namePops]

@[simp] theorem takePresented_mode (s : State) : (takePresented s).mode = s.mode := by
  unfold takePresented
  dsimp only
  split <;> simp

@[simp] theorem advancePops_mode (s : State) : (advancePops s).mode = s.mode := by simp [advancePops]

/-! ### Machine/RunControl -/

@[simp] theorem State.setDbg_mode (s : State) (d : DebugPort) : (s.setDbg d).mode = s.mode := by simp [State.setDbg]

@[simp] theorem requestHalt_mode (cause trigger : Nat) (locked : Bool) (s : State) :
    (requestHalt cause trigger locked s).mode = s.mode := by
  simp [requestHalt]

@[simp] theorem releaseHalt_mode (s : State) : (releaseHalt s).mode = s.mode := by simp [releaseHalt]

@[simp] theorem releaseHeld_mode (s : State) : (releaseHeld s).mode = s.mode := by simp [releaseHeld]

@[simp] theorem resumeCore_mode (s : State) : (resumeCore s).mode = s.mode := by simp [resumeCore]

@[simp] theorem State.setTrigger_mode (s : State) (n : Nat) (t : Trigger) : (s.setTrigger n t).mode = s.mode := by
  simp [State.setTrigger]

@[simp] theorem hitTrigger_mode (n : Nat) (locked : Bool) (s : State) : (hitTrigger n locked s).mode = s.mode := by
  simp [hitTrigger]

@[simp] theorem breakpointTrap_mode (s : State) : (breakpointTrap s).mode = s.mode := by simp [breakpointTrap]

@[simp] theorem stopWaiting_mode (w : Nat) (s : State) : (stopWaiting w s).mode = s.mode := by simp [stopWaiting]

@[simp] theorem hFwpEnable_keepsMode (w : Nat) : (hFwpEnable w).KeepsMode := by
  simp [Handler.KeepsMode, hFwpEnable]

@[simp] theorem hFwpField_keepsMode (e : El) (n : Nat) : (hFwpField e n).KeepsMode := by simp [hFwpField]

@[simp] theorem disableTrigger_mode (n : Nat) (s : State) : (disableTrigger n s).mode = s.mode := by simp [disableTrigger]

@[simp] theorem detach_mode (s : State) : (detach s).mode = s.mode := by simp [detach]

/-! ### Machine/Lifecycle -/

theorem writeLifecycle_mode {code pending : Nat} {s t : State} (h : writeLifecycle code pending s = .ok t) : t.mode = s.mode :=
  writeCounter_mode h

@[simp] theorem hLcRequest_keepsMode (w : Route) : (hLcRequest w).KeepsMode := by
  intro v s t h
  simp only [hLcRequest] at h
  split at h
  · cases h
  · split at h
    · cases h
    · split at h
      · cases h
      · split at h
        · cases h
        · next hw =>
          cases h
          simp [writeLifecycle_mode hw]

@[simp] theorem consumeToken_mode (w : Route) (v : Nat) (before s : State) : (consumeToken w v before s).mode = s.mode := by
  simp [consumeToken]

@[simp] theorem renewChallenge_mode (s : State) : (renewChallenge s).2.mode = s.mode := by simp [renewChallenge]

@[simp] theorem execLcChallengeRead_kept (w : Route) (s : State) : Kept s (execLcChallengeRead w s) := by
  unfold execLcChallengeRead
  split
  · simpa using inTurn_mode _ _ _ fun t => renewChallenge_mode t
  · simp

@[simp] theorem requestBytes_mode {h : Handler} (w : Route) (e : El) (u : Nat) (bytes : Bytes) (lenOk : Bool) (s : State)
    (hh : h.KeepsMode) : (requestBytes w e u bytes lenOk h s).mode = s.mode := by
  unfold requestBytes
  split
  · exact inTurn_mode _ _ _ fun t => judged_mode w e u _ t hh
  · rfl

@[simp] theorem hLcToken_keepsMode (bytes : Bytes) : (hLcToken bytes).KeepsMode := by simp [hLcToken]

@[simp] theorem hKeyInstall_keepsMode (bytes : Bytes) : (hKeyInstall bytes).KeepsMode := by
  intro v s t h
  simp only [hKeyInstall] at h
  split at h
  · cases h
  split at h
  · split at h
    · cases h
    · exact keepKey_map_mode (by simp) h
  · split at h
    · cases h
    · exact keepKey_map_mode (by simp) h

@[simp] theorem eraseSecrets_mode (s : State) : (eraseSecrets s).2.mode = s.mode := by simp [eraseSecrets]

@[simp] theorem closeJtag_mode (s : State) : (closeJtag s).mode = s.mode := by simp [closeJtag]

@[simp] theorem completeChange_mode (target controller : Nat) (s : State) :
    (completeChange target controller s).mode = s.mode := by
  unfold completeChange
  extract_lets old w lc u erases e
  have he : e.2.mode = s.mode := by simp [e, u, w, apply_ite Prod.snd]
  split
  · simp [he]
  · split
    · exact he
    · next h => simp [writeLifecycle_mode h, he]

@[simp] theorem execLifecycleChangeDone_kept (s : State) : Kept s (execLifecycleChangeDone s) := by
  unfold execLifecycleChangeDone
  split <;> simp

@[simp] theorem bootLifecycle_mode (s : State) : (bootLifecycle s).mode = s.mode := by simp [bootLifecycle]

@[simp] theorem bootChange_mode (s : State) : (bootChange s).mode = s.mode := by
  unfold bootChange
  split <;> simp

@[simp] theorem hFreezeGo_keepsMode : hFreezeGo.KeepsMode := by simp [hFreezeGo]

@[simp] theorem hFreezeRelease_keepsMode : hFreezeRelease.KeepsMode := by simp [hFreezeRelease]

@[simp] theorem tamperEdge_mode (source : Nat) (s : State) : (tamperEdge source s).mode = s.mode := by simp [tamperEdge]

@[simp] theorem tamperOver_mode (source : Nat) (s : State) : (tamperOver source s).mode = s.mode := by simp [tamperOver]

/-! ### Machine/Thermal -/

@[simp] theorem State.setHeat_mode (s : State) (h : Thermal) : (s.setHeat h).mode = s.mode := by simp [State.setHeat]

@[simp] theorem hThreshold_keepsMode (e : El) : (hThreshold e).KeepsMode := fun _ _ _ h => keepValue_mode h

@[simp] theorem breakSensor_mode (n : Nat) (s : State) : (breakSensor n s).mode = s.mode := by
  unfold breakSensor
  split <;> simp

@[simp] theorem takeReading_mode (n : Nat) (r : Option Int) (s : State) : (takeReading n r s).mode = s.mode := by
  simp [takeReading]

@[simp] theorem comparePair_mode (i : Nat) (s : State) : (comparePair i s).mode = s.mode := by
  unfold comparePair
  dsimp only
  (repeat' split) <;> simp

@[simp] theorem thermalTo_mode (v : Nat) (s : State) : (thermalTo v s).mode = s.mode := by simp [thermalTo]

@[simp] theorem judgeState_mode (sensor : Nat) (t : Int) (f : Nat) (s : State) : (judgeState sensor t f s).mode = s.mode := by
  simp [judgeState]

@[simp] theorem triggerShutdown_mode (s : State) : (triggerShutdown s).mode = s.mode := by simp [triggerShutdown]

@[simp] theorem compensate_mode (i : Nat) (s : State) : (compensate i s).mode = s.mode := by
  unfold compensate
  split <;> simp

@[simp] theorem judgeRound_mode (s : State) : (judgeRound s).mode = s.mode := by
  unfold judgeRound
  split <;> simp

/-! ### Machine/Power -/

@[simp] theorem hResetCmd_keepsMode : hResetCmd.KeepsMode := by simp [hResetCmd]

@[simp] theorem newEpochs_mode (s : State) : (newEpochs s).mode = s.mode := by simp [newEpochs]

@[simp] theorem sampleStraps_mode (straps : Nat) (s : State) : (sampleStraps straps s).mode = s.mode := by simp [sampleStraps]

@[simp] theorem bootSpares_mode (s : State) : (bootSpares s).mode = s.mode := by simp [bootSpares]

@[simp] theorem bootAddress_mode (s : State) : (bootAddress s).mode = s.mode := by simp [bootAddress]

@[simp] theorem bootEdges_mode (s : State) : (bootEdges s).mode = s.mode := by simp [bootEdges]

@[simp] theorem bootVault_mode (s : State) : (bootVault s).mode = s.mode := by simp [bootVault]

@[simp] theorem finishWork_mode (s : State) : (finishWork s).mode = s.mode := by
  unfold finishWork
  extract_lets u v w
  have hu : u.mode = s.mode := by simp [u]
  have hv : v.mode = s.mode := by
    unfold v
    split <;> simp [hu]
  simp [w, hv]

/-! ### Machine/Windows -/

@[simp] theorem openCal_mode (k : Nat) (e : TtEntry) (s : State) : (openCal k e s).mode = s.mode := by simp [openCal]

@[simp] theorem closeCal_mode (k : Nat) (e : TtEntry) (s : State) : (closeCal k e s).mode = s.mode := by
  unfold closeCal
  refine foldl_mode fun t a => ?_
  (repeat' split) <;> simp

@[simp] theorem placePulse_mode (cmd p : Nat) (s : State) : (placePulse cmd p s).mode = s.mode := by
  unfold placePulse
  split <;> simp

@[simp] theorem testPulse_mode (e : TtEntry) (s : State) : (testPulse e s).mode = s.mode := by simp [testPulse]

@[simp] theorem tableSleep_mode (n : Nat) (s : State) : (tableSleep n s).mode = s.mode := by simp [tableSleep]

@[simp] theorem fireEntry_mode (k : Nat) (s : State) : (fireEntry k s).mode = s.mode := by
  unfold fireEntry
  dsimp only
  split <;> simp

@[simp] theorem closeEntry_mode (k start : Nat) (s : State) : (closeEntry k start s).mode = s.mode := by
  unfold closeEntry
  dsimp only
  split <;> simp

@[simp] theorem execTtWindowEnd_kept (entry : Nat) (s : State) : Kept s (execTtWindowEnd entry s) := by
  unfold execTtWindowEnd
  split <;> simp

@[simp] theorem hSelector_keepsMode (e : WindowSelector) : (hSelector e).KeepsMode := by simp [hSelector]

/-! ### Machine/Dictionary -/

@[simp] theorem hCanNode_keepsMode : hCanNode.KeepsMode := fun _ _ _ h => keepValue_mode h

@[simp] theorem hDevName_keepsMode (bytes : Bytes) : (hDevName bytes).KeepsMode := by
  intro v s t h
  simp only [hDevName] at h
  split at h
  · cases h
  · next hw =>
    cases h
    simp [writeValue_mode hw]

@[simp] theorem vendorPerformed_mode (s : State) : (vendorPerformed s).2.2.mode = s.mode := by simp [vendorPerformed]

@[simp] theorem readValue_mode (w : Route) (e : El) (u : Nat) (s : State) : (readValue w e u s).2.mode = s.mode := by
  simp only [readValue]
  split
  · simp
  · split
    · simp
    · split <;> simp

@[simp] theorem readBlob_mode (e : El) (s : State) : (readBlob e s).2.mode = s.mode := by
  unfold readBlob
  split <;> simp

@[simp] theorem readElement_mode (w : Route) (e : El) (u wanted : Nat) (s : State) :
    (readElement w e u wanted s).2.mode = s.mode := by simp [readElement]

@[simp] theorem dictRead_mode (w : Route) (eid wanted : Nat) (s : State) : (dictRead w eid wanted s).2.2.mode = s.mode := by
  unfold dictRead
  split
  · simp
  · split
    · rfl
    · simp

/-! ### Machine/Susis -/

@[simp] theorem countFault_mode (fault : Nat) (s : State) : (countFault fault s).mode = s.mode := by simp [countFault]

@[simp] theorem arrive_mode (r : HeldRequest) (s : State) : (arrive r s).mode = s.mode := by simp [arrive]

@[simp] theorem State.setWindow_mode (s : State) (user : Bool) (x : DictWindow) : (s.setWindow user x).mode = s.mode := by
  simp [State.setWindow]

@[simp] theorem submitWindow_mode (user : Bool) (s : State) : (submitWindow user s).mode = s.mode := by simp [submitWindow]

/-! ### Machine/CoreMap -/

@[simp] theorem readOk_mode (v : Nat) (s : State) : (readOk v s).state.mode = s.mode := by simp [readOk]

@[simp] theorem writeOk_mode (s : State) : (writeOk s).state.mode = s.mode := by simp [writeOk]

@[simp] theorem mapError_mode (s : State) : (mapError s).state.mode = s.mode := by simp [mapError]

theorem orError_mode {r : Option State} {s : State} (h : ∀ t, r = some t → t.mode = s.mode) :
    (orError r s).state.mode = s.mode := by
  cases r with
  | none => rfl
  | some t => exact h t rfl

@[simp] theorem openWord_mode (s : State) : (openWord s).state.mode = s.mode := by simp [openWord]

@[simp] theorem tcmRead_mode (a : Nat) (s : State) : (tcmRead a s).state.mode = s.mode := by simp [tcmRead]

@[simp] theorem tcmWrite_mode (a v : Nat) (s : State) : (tcmWrite a v s).state.mode = s.mode := by simp [tcmWrite]

@[simp] theorem bankRead_mode (r : Requester) (cls n off : Nat) (s : State) : (bankRead r cls n off s).state.mode = s.mode := by
  simp [bankRead]

@[simp] theorem bankWrite_mode (r : Requester) (cls n off v : Nat) (s : State) :
    (bankWrite r cls n off v s).state.mode = s.mode := by
  simp [bankWrite]

@[simp] theorem grantUser_mode (v : Nat) (s : State) : (grantUser v s).mode = s.mode := by simp [grantUser]

@[simp] theorem windowRead_mode (user : Bool) (off : Nat) (s : State) : (windowRead user off s).state.mode = s.mode := by
  simp [windowRead]

@[simp] theorem windowWrite_mode (user : Bool) (off v : Nat) (s : State) : (windowWrite user off v s).state.mode = s.mode := by
  simp [windowWrite]

@[simp] theorem popWord_mode (k : Nat) (s : State) : (popWord k s).state.mode = s.mode := by
  unfold popWord
  split <;> simp

@[simp] theorem mailboxRead_mode (off : Nat) (consume : Bool) (s : State) :
    (mailboxRead off consume s).state.mode = s.mode := by
  simp [mailboxRead]

@[simp] theorem mailboxWrite_mode (off v : Nat) (s : State) : (mailboxWrite off v s).state.mode = s.mode := by
  simp [mailboxWrite]

@[simp] theorem coreLocalRead_mode (off : Nat) (consume : Bool) (s : State) :
    (coreLocalRead off consume s).state.mode = s.mode := by
  simp [coreLocalRead]

@[simp] theorem coreLocalWrite_mode (off v : Nat) (s : State) : (coreLocalWrite off v s).state.mode = s.mode := by
  simp [coreLocalWrite]

@[simp] theorem mapRead_mode (a : Nat) (consume : Bool) (s : State) : (mapRead a consume s).state.mode = s.mode := by
  unfold mapRead
  dsimp only
  (repeat' split) <;> simp

@[simp] theorem mapWrite_mode (a v : Nat) (s : State) : (mapWrite a v s).state.mode = s.mode := by
  unfold mapWrite
  split <;> simp

@[simp] theorem loaded_mode (a : Nat) (r : MapResult) : (loaded a r).mode = r.state.mode := by
  simp [loaded]

@[simp] theorem stored_mode (a : Nat) (r : MapResult) : (stored a r).mode = r.state.mode := by
  simp [stored]

@[simp] theorem coreLoadWord_mode (machine : Bool) (a : Nat) (s : State) : (coreLoadWord machine a s).mode = s.mode := by
  unfold coreLoadWord
  (repeat' split) <;> simp

@[simp] theorem coreStoreWord_mode (machine : Bool) (a v : Nat) (s : State) : (coreStoreWord machine a v s).mode = s.mode := by
  unfold coreStoreWord
  (repeat' split) <;> simp

@[simp] theorem coreAtomic_mode (machine write reserves : Bool) (a : Nat) (s : State) :
    (coreAtomic machine write reserves a s).mode = s.mode := by
  simp [coreAtomic]

@[simp] theorem coreStep_mode (x : CoreStep) (s : State) : (coreStep x s).mode = s.mode := by
  unfold coreStep
  split
  · rfl
  · split
    · simp
    · simp
    · simp
    · simp
    · simp
    · split
      · rfl
      · simp
    · next n v _ =>
      split
      · cases h : putPmpCsr n v s with
        | none => rfl
        | some t => exact putPmpCsr_mode h
      · simp

@[simp] theorem coreDid_mode (before : List CoreStep) (s : State) : (coreDid before s).mode = s.mode := by simp [coreDid]

/-- A command of the core that stores one word, after what its program did before. -/
theorem coreStores_word_mode {machine : Bool} {a : Nat} {f : State → State} {before : List CoreStep} {s : State}
    (hf : ∀ t, (f t).mode = t.mode) : (coreStores machine [wordStore a f] (coreDid before s)).mode = s.mode := by
  rw [coreStores_mode, coreDid_mode]
  simpa using wordStore_mode hf

@[simp] theorem execWdtKick_kept (v : CoreWord) (s : State) : Kept s (execWdtKick v s) := by
  simp [execWdtKick, coreStores_word_mode]

@[simp] theorem execKwGo_kept (sector : Nat) (data : BitVec 512) (v : CoreWord) (s : State) :
    Kept s (execKwGo sector data v s) := by
  unfold execKwGo
  rw [kept_next, coreStores_mode, coreDid_mode]
  simp [wordStore_mode]

@[simp] theorem execFwCommit_kept (v : CoreWord) (s : State) : Kept s (execFwCommit v s) := by
  simp [execFwCommit, coreStores_word_mode]

@[simp] theorem execMsipWrite_kept (v : CoreWord) (s : State) : Kept s (execMsipWrite v s) := by
  simp [execMsipWrite, coreStores_word_mode]

@[simp] theorem execIrqClear_kept (v : CoreWord) (s : State) : Kept s (execIrqClear v s) := by
  simp [execIrqClear, coreStores_word_mode]

@[simp] theorem execMailboxRowCommit_kept (queue : CoreWord) (row : BitVec 128) (sof eof : Bool) (s : State) :
    Kept s (execMailboxRowCommit queue row sof eof s) := by
  unfold execMailboxRowCommit
  rw [kept_next, coreStores_mode, coreDid_mode]
  simp [wordStore_mode]

@[simp] theorem execDqGo_kept (window : CoreWindow) (bytes : Bytes) (s : State) : Kept s (execDqGo window bytes s) := by
  unfold execDqGo
  extract_lets user
  split
  · simp
  · rw [kept_next, coreStores_mode, coreDid_mode]
    simp [wordStore_mode]

/-! ### Machine/Trunks -/

@[simp] theorem packetData_mode (rows : List Nat) (s : State) : (packetData rows s).2.mode = s.mode := by simp [packetData]

@[simp] theorem sendPacket_mode (k : Nat) (p : SentPacket) (s : State) : (sendPacket k p s).mode = s.mode := by
  simp [sendPacket]

@[simp] theorem sendNew_mode (k : Nat) (p : SentPacket) (s : State) : (sendNew k p s).mode = s.mode := by simp [sendNew]

@[simp] theorem skipToTail_mode (q : Nat) (s : State) : (skipToTail q s).mode = s.mode := by simp [skipToTail]

@[simp] theorem nextPacket_mode (q n : Nat) (s : State) : (nextPacket q n s).2.mode = s.mode := by simp [nextPacket]

@[simp] theorem packetReady_mode (q n : Nat) (s : State) : (packetReady q n s).2.mode = s.mode := by simp [packetReady]

@[simp] theorem resendNext_mode (k : Nat) (s : State) : (resendNext k s).mode = s.mode := by
  unfold resendNext
  dsimp only
  split <;> simp

@[simp] theorem sendMgmt_mode (k : Nat) (s : State) : (sendMgmt k s).mode = s.mode := by
  unfold sendMgmt
  dsimp only
  split <;> simp

@[simp] theorem execPacketSend_kept (trunk : Nat) (s : State) : Kept s (execPacketSend trunk s) := by
  unfold execPacketSend
  dsimp only
  (repeat' split) <;> simp

@[simp] theorem freeBlocks_mode (k c n : Nat) (s : State) : (freeBlocks k c n s).mode = s.mode := by simp [freeBlocks]

@[simp] theorem pushRows_mode (q : Nat) (err eof : Bool) (rows : List (BitVec 128)) (s : State) :
    (pushRows q err eof rows s).2.mode = s.mode := by
  induction rows generalizing s with
  | nil => rfl
  | cons r rs ih =>
    unfold pushRows
    extract_lets t
    have ht : t.2.mode = s.mode := by simp [t]
    split
    · rw [ih, ht]
    · exact ht

@[simp] theorem beginRows_mode (q : Nat) (sof : Bool) (s : State) : (beginRows q sof s).mode = s.mode := by simp [beginRows]

@[simp] theorem noQueue_mode (k q : Nat) (s : State) : (noQueue k q s).mode = s.mode := by simp [noQueue]

@[simp] theorem padFrame_mode (f : Bytes) (s : State) : (padFrame f s).2.mode = s.mode := by simp [padFrame]

@[simp] theorem execEthFrameSend_kept (trunk : Nat) (s : State) : Kept s (execEthFrameSend trunk s) := by
  simp only [execEthFrameSend]
  split
  · simp
  · split <;> simp

@[simp] theorem answerFrame_mode (k : Nat) (f : Bytes) (s : State) : (answerFrame k f s).2.mode = s.mode := by
  simp [answerFrame]

@[simp] theorem passToFirmware_mode (k : Nat) (f : Bytes) (s : State) : (passToFirmware k f s).mode = s.mode := by
  simp [passToFirmware]

@[simp] theorem takeData_mode (k : Nat) (o : Bytes) (s : State) : (takeData k o s).mode = s.mode := by
  simp [takeData]

@[simp] theorem execEthFrameReceived_kept (trunk : Nat) (bytes : Bytes) (s : State) :
    Kept s (execEthFrameReceived trunk bytes s) := by
  unfold execEthFrameReceived
  split
  · simp
  · extract_lets f good
    split
    · simp
    · split
      · simp
      · split <;> simp
      · simp

/-! ### Machine/Crossing -/

@[simp] theorem endCommands_mode (p : Nat) (s : State) : (endCommands p s).mode = s.mode := by simp [endCommands]

@[simp] theorem fabricCommand_mode (p : Nat) (s : State) : (fabricCommand p s).2.mode = s.mode := by
  simp only [fabricCommand]
  split
  · split <;> simp
  · simp

@[simp] theorem composeDownlink_mode (p : Nat) (s : State) : (composeDownlink p s).mode = s.mode := by simp [composeDownlink]

@[simp] theorem leaveCrossing_mode (s : State) : (leaveCrossing s).mode = s.mode := by simp [leaveCrossing]

@[simp] theorem idleDownlinks_mode (s : State) : (idleDownlinks s).mode = s.mode := by simp [idleDownlinks]

@[simp] theorem swapTables_mode (s : State) : (swapTables s).mode = s.mode := by simp [swapTables]

theorem everyDistrict_mode {f : Nat → State → State} (hf : ∀ d t, (f d t).mode = t.mode) (s : State) :
    (everyDistrict f s).mode = s.mode :=
  foldl_mode fun t d => hf d t

@[simp] theorem releaseClock_mode (d : Nat) (s : State) : (releaseClock d s).mode = s.mode := by simp [releaseClock]

@[simp] theorem releaseWrites_mode (d : Nat) (s : State) : (releaseWrites d s).mode = s.mode := by simp [releaseWrites]

theorem atGlobalStage_mode {f : Nat → State → State} (hf : ∀ d t, (f d t).mode = t.mode) (d : Nat) (s : State) :
    (atGlobalStage f d s).mode = s.mode := by
  simp [atGlobalStage, hf]

@[simp] theorem releaseResets_mode (d : Nat) (s : State) : (releaseResets d s).mode = s.mode := by simp [releaseResets]

@[simp] theorem takeImageBase_mode (d : Nat) (s : State) : (takeImageBase d s).mode = s.mode := by
  unfold takeImageBase
  dsimp only
  split <;> simp

@[simp] theorem stageClocks_mode (s : State) : (stageClocks s).mode = s.mode :=
  everyDistrict_mode (fun d t => by rw [atGlobalStage_mode fun d t => by simp, takeImageBase_mode]) s

@[simp] theorem stageWrites_mode (s : State) : (stageWrites s).mode = s.mode :=
  everyDistrict_mode (atGlobalStage_mode fun d t => by simp) s

@[simp] theorem stageResets_mode (s : State) : (stageResets s).mode = s.mode :=
  everyDistrict_mode (atGlobalStage_mode fun d t => by simp) s

@[simp] theorem stageOne_mode (s : State) : (stageOne s).mode = s.mode := by simp [stageOne]

@[simp] theorem raiseDue_mode (s : State) : (raiseDue s).mode = s.mode := by
  unfold raiseDue
  split <;> simp

@[simp] theorem districtStages_mode (d n : Nat) (s : State) : (districtStages d n s).mode = s.mode := by
  induction n generalizing s with
  | zero => rfl
  | succ n ih =>
    unfold districtStages
    split
    · split
      · simp [ih]
      · rfl
    · rfl

@[simp] theorem releaseFreeze_mode (s : State) : (releaseFreeze s).mode = s.mode := by simp [releaseFreeze]

@[simp] theorem endLoss_mode (s : State) : (endLoss s).mode = s.mode := by simp [endLoss]

@[simp] theorem boundaryRest_mode (s : State) : (boundaryRest s).mode = s.mode := by simp [boundaryRest]

@[simp] theorem startSpacing_mode (s : State) : (startSpacing s).mode = s.mode := by simp [startSpacing]

@[simp] theorem enterPort_mode (p : Nat) (s : State) : (enterPort p s).mode = s.mode := by simp [enterPort]

/-! ### Machine/I3cBus -/

@[simp] theorem drove_mode (b : Option Bytes) (s : State) : (drove b s).mode = s.mode := by simp [drove]

@[simp] theorem i3cDeliver_mode (bytes : Bytes) (s : State) : (i3cDeliver bytes s).mode = s.mode := by
  unfold i3cDeliver
  split
  · simp
  · split <;> simp

@[simp] theorem i3cCollect_mode (count : Nat) (s : State) : (i3cCollect count s).mode = s.mode := by
  unfold i3cCollect
  split
  · simp
  · split <;> simp

@[simp] theorem resetInterface_mode (s : State) : (resetInterface s).mode = s.mode := by simp [resetInterface]

@[simp] theorem setEvents_mode (events : Nat) (on : Bool) (s : State) : (setEvents events on s).mode = s.mode := by
  simp [setEvents]

@[simp] theorem directGet_mode (b : State → Bytes) (s : State) : (directGet b s).mode = s.mode := by simp [directGet]

@[simp] theorem openGet_mode (ccc : Nat) (s : State) : (openGet ccc s).mode = s.mode := by simp [openGet]

@[simp] theorem execIbiSend_kept (kind : Nat) (acked : Bool) (s : State) : Kept s (execIbiSend kind acked s) := by
  unfold execIbiSend
  dsimp only
  split
  · simp
  · split <;> simp

@[simp] theorem refillTokens_mode (s : State) : (refillTokens s).mode = s.mode := by simp [refillTokens]

@[simp] theorem dropCan_mode (s : State) : (dropCan s).mode = s.mode := by simp [dropCan]

/-! ### Machine/Debug -/

@[simp] theorem instruct_kept (i : JtagInstruction) (s : State) : Kept s (instruct i s) := by simp [instruct]

theorem writeDctrl_mode {v : Nat} {locked : Bool} {s t : State} (h : writeDctrl v locked s = some t) : t.mode = s.mode := by
  simp [writeDctrl] at h
  simp [← h]

theorem triggerWrite_mode {n k v : Nat} {s t : State} (h : triggerWrite n k v s = some t) : t.mode = s.mode := by
  unfold triggerWrite at h
  extract_lets x y at h
  (repeat' split at h) <;> cases h <;> simp

@[simp] theorem writeCsr_mode (v : Nat) (s : State) : (writeCsr v s).mode = s.mode := by
  unfold writeCsr
  split
  · rfl
  · cases h : putPmpCsr s.dbg.csrSel v s with
    | none => simp
    | some t => simp [putPmpCsr_mode h]

theorem coreWrite_mode {a v : Nat} {locked : Bool} {s t : State} (h : coreWrite a v locked s = some t) : t.mode = s.mode := by
  unfold coreWrite at h
  split at h
  · exact writeDctrl_mode h
  split at h
  · cases h; rfl
  split at h
  · split at h <;> cases h; simp
  split at h
  · split at h <;> cases h; simp
  split at h
  · split at h <;> cases h; simp
  split at h
  · split at h <;> cases h; simp
  split at h
  · split at h <;> cases h; simp
  split at h
  · exact triggerWrite_mode h
  · cases h

@[simp] theorem imageRead_mode (a : Nat) (s : State) : (imageRead a s).state.mode = s.mode := by simp [imageRead]

@[simp] theorem debugRead_mode (t : DebugTransaction) (s : State) : (debugRead t s).state.mode = s.mode := by
  simp only [debugRead]
  split
  · split <;> simp
  · simp

@[simp] theorem debugWrite_mode (t : DebugTransaction) (s : State) : (debugWrite t s).state.mode = s.mode := by
  unfold debugWrite
  extract_lets a v
  split
  · exact orError_mode fun _ h => coreWrite_mode h
  · split
    · simp
    · split <;> simp

@[simp] theorem transact_kept {f : State → MapResult} (a : Nat) (s : State) (hf : ∀ t, (f t).state.mode = t.mode) :
    Kept s (transact f a s) := by
  unfold transact
  split <;> simp [hf]

@[simp] theorem shiftIn_kept {t : DebugTransaction} {f : State → MapResult} (s : State) (hf : ∀ t, (f t).state.mode = t.mode) :
    Kept s (shiftIn t f s) := by
  unfold shiftIn
  split
  · simp
  · split <;> simp [hf]

@[simp] theorem execDbgWrite_kept (t : DebugTransaction) (s : State) : Kept s (execDbgWrite t s) :=
  shiftIn_kept _ (by simp)

@[simp] theorem strobeDctrl_kept (bit : Nat) (locked : Bool) (s : State) : Kept s (strobeDctrl bit locked s) :=
  transact_kept _ _ fun _ => orError_mode fun _ h => writeDctrl_mode h

@[simp] theorem execTriggerConfigWrite_kept (n : Nat) (e : TriggerRegister) (v : Nat) (s : State) :
    Kept s (execTriggerConfigWrite n e v s) :=
  transact_kept _ _ fun _ => orError_mode fun _ h => coreWrite_mode h

/-! ### Machine/Ivtor -/

@[simp] theorem lineIn_mode (s : State) : (lineIn s).mode = s.mode := by simp [lineIn]

theorem ivtorAlways_kept {f : State → State} (s : State) (hf : ∀ t, (f t).mode = t.mode) : Kept s (ivtorAlways f s) := by
  simp [ivtorAlways, hf]

theorem ivtorLine_kept {f : State → State} (s : State) (hf : ∀ t, (f t).mode = t.mode) : Kept s (ivtorLine f s) := by
  simp [ivtorLine, hf]

@[simp] theorem parsed_mode {α : Type} {f : α → State → State} (name arguments : Nat) (v : Option α) (s : State)
    (hf : ∀ a, (f a s).mode = s.mode) : (parsed name arguments v f s).mode = s.mode := by
  unfold parsed
  split <;> simp [hf]

@[simp] theorem execIvtorHelp_kept (s : State) : Kept s (execIvtorHelp s) := ivtorAlways_kept s fun t => by simp

@[simp] theorem execIvtorVer_kept (s : State) : Kept s (execIvtorVer s) := ivtorAlways_kept s fun t => by simp

@[simp] theorem execIvtorStatus_kept (s : State) : Kept s (execIvtorStatus s) := ivtorAlways_kept s fun t => by simp

@[simp] theorem execIvtorBaud_kept (rate : Bytes) (s : State) : Kept s (execIvtorBaud rate s) :=
  ivtorLine_kept _ fun t => by simp

@[simp] theorem execIvtorEcho_kept (on : Bytes) (s : State) : Kept s (execIvtorEcho on s) :=
  ivtorLine_kept _ fun t => by simp

/-! ### Machine/Idle -/

@[simp] theorem tickWatchdog_mode (s : State) : (tickWatchdog s).mode = s.mode := by simp [tickWatchdog]

@[simp] theorem tickCore_mode (s : State) : (tickCore s).mode = s.mode := by simp [tickCore]

@[simp] theorem idle_mode (s : State) : (idle s).mode = s.mode := by simp [idle]

end Sys2Proof.Machine
end

section
/-! What latches: the functions that change the mode keep a device at rest in SHUTDOWN there, and lead no other device into it. -/

namespace Sys2Proof.Machine

/-- The mode of a device at rest in SHUTDOWN: nothing is under way that leads out of it. -/
def Mode.shut : Mode := { dev := .shutdown, loading := false, awaiting := false, safeDue := none }

/-- `t` is not in SHUTDOWN where `s` is not. -/
structure Wakes (s t : State) : Prop where
  awake : s.dev ≠ .shutdown → t.dev ≠ .shutdown

/-- What every instruction but two keeps: a device at rest in SHUTDOWN stays there, and one outside it stays outside. -/
structure Latch (s t : State) : Prop where
  rests : s.mode = .shut → t.mode = .shut
  wakes : Wakes s t

theorem dev_eq_of_mode {s t : State} (h : t.mode = s.mode) : t.dev = s.dev := congrArg Mode.dev h

theorem Wakes.of_dev_eq {s t : State} (h : t.dev = s.dev) : Wakes s t := ⟨fun hs => h ▸ hs⟩

theorem Wakes.of_mode_eq {s t : State} (h : t.mode = s.mode) : Wakes s t := .of_dev_eq (dev_eq_of_mode h)

theorem Wakes.refl (s : State) : Wakes s s := ⟨id⟩

theorem Wakes.trans {s t u : State} (h : Wakes s t) (h' : Wakes t u) : Wakes s u := ⟨h'.awake ∘ h.awake⟩

theorem Wakes.ite {c : Prop} [Decidable c] {s t u : State} (ht : c → Wakes s t) (hu : ¬c → Wakes s u) :
    Wakes s (if c then t else u) := by
  split
  · exact ht ‹c›
  · exact hu ‹¬c›

theorem Latch.of_mode_eq {s t : State} (h : t.mode = s.mode) : Latch s t := ⟨fun hs => h.trans hs, .of_mode_eq h⟩

theorem Latch.refl (s : State) : Latch s s := .of_mode_eq rfl

theorem Latch.trans {s t u : State} (h : Latch s t) (h' : Latch t u) : Latch s u := ⟨h'.rests ∘ h.rests, h.wakes.trans h'.wakes⟩

theorem Latch.ite {c : Prop} [Decidable c] {s t u : State} (ht : c → Latch s t) (hu : ¬c → Latch s u) :
    Latch s (if c then t else u) := by
  split
  · exact ht ‹c›
  · exact hu ‹¬c›

theorem Latch.foldl {α : Type} {f : State → α → State} (h : ∀ t a, Latch t (f t a)) (l : List α) (s : State) :
    Latch s (l.foldl f s) := by
  induction l generalizing s with
  | nil => exact .refl s
  | cons a l ih => exact (h s a).trans (ih _)

theorem Latch.of_dev_ne {s t : State} (hs : s.dev ≠ .shutdown) (ht : t.dev ≠ .shutdown) : Latch s t :=
  ⟨fun h => absurd (congrArg Mode.dev h) hs, ⟨fun _ => ht⟩⟩

theorem Latch.of_loading {s t : State} (hs : s.load.active = true) (h : Wakes s t) : Latch s t :=
  ⟨fun hm => absurd (hs.symm.trans (congrArg Mode.loading hm)) (by simp [Mode.shut]), h⟩

theorem Latch.of_awaiting {s t : State} (hs : s.load.goldenWait = true) (h : Wakes s t) : Latch s t :=
  ⟨fun hm => absurd (hs.symm.trans (congrArg Mode.awaiting hm)) (by simp [Mode.shut]), h⟩

theorem Latch.of_safeDue {s t : State} {c : Nat} (hs : s.safeDue = some c) (h : Wakes s t) : Latch s t :=
  ⟨fun hm => absurd (hs.symm.trans (congrArg Mode.safeDue hm)) (by simp [Mode.shut]), h⟩

/-- The outcomes of the instructions that latch. -/
def Latched (s : State) (o : Host.Outcome State Fault Refusal) : Prop := ∀ t, o = .next t → Latch s t

theorem Latched.next {s t : State} (h : Latch s t) : Latched s (.next t) := fun _ ht => Host.Outcome.next.inj ht ▸ h

theorem Kept.latched {s : State} {o : Host.Outcome State Fault Refusal} (h : Kept s o) : Latched s o :=
  fun t ht => .of_mode_eq (h t ht)

/-! ### The state of a device -/

theorem State.setLoad_mode_eq (s : State) (l : Loader) :
    (s.setLoad l).mode = { s.mode with loading := l.active, awaiting := l.goldenWait } := rfl

theorem State.become_mode (s : State) (d : DevState) : (s.become d).mode = { s.mode with dev := d } := by
  unfold State.become
  split
  · next h => subst h; rfl
  · rw [pendIbi_mode, latchIrq_mode]
    simp [State.mode, State.rset]

@[simp] theorem State.become_dev (s : State) (d : DevState) : (s.become d).dev = d :=
  congrArg Mode.dev (s.become_mode d)

theorem enterSafe_mode (cause : Nat) (s : State) : (enterSafe cause s).mode = { s.mode with dev := .safe } := by
  unfold enterSafe
  extract_lets t u
  have hu : u.mode = s.mode := (foldl_mode fun t d => by simp).trans (by simp [t])
  rw [settleLinks_mode, State.become_mode, State.rset_mode, hu]

@[simp] theorem enterSafe_dev (cause : Nat) (s : State) : (enterSafe cause s).dev = .safe :=
  congrArg Mode.dev (enterSafe_mode cause s)

/-! ### Loads -/

theorem finishLoad_mode (s : State) : (finishLoad s).mode = { s.mode with loading := false, awaiting := false } := rfl

theorem finishLoad_dev (s : State) : (finishLoad s).dev = s.dev := rfl

theorem abortLoad_mode (s : State) : (abortLoad s).mode = { s.mode with loading := false, awaiting := false } := by
  unfold abortLoad
  split
  · next h =>
    rw [State.setLoad_mode_eq]
    simp_all
  · extract_lets f t
    have ht : t.mode = s.mode := showFault_mode ..
    split
    · rw [finishLoad_mode, failWaiting_mode, clearConfiguration_mode, ht]
    · rw [finishLoad_mode, recordFault_mode, dropWritten_mode, ht]

theorem abortLoad_dev (s : State) : (abortLoad s).dev = s.dev := congrArg Mode.dev (abortLoad_mode s)

theorem startLoad_dev (golden : Bool) (source : Nat) (startedIn : DevState) (s : State) :
    (startLoad golden source startedIn s).dev = s.dev := by
  unfold startLoad
  extract_lets l flash l' t u
  have hu : u.mode = t.mode := by simp only [u, mode_ite, State.rset_mode, ite_self]
  have ht : t.dev = s.dev := dev_eq_of_mode (t := t) (s := s.setLoad l') (by simp [t])
  rw [dev_eq_of_mode (loadPhase_mode 1 u), dev_eq_of_mode hu, ht]

/-! A load that ends badly leads to SAFE, or back to where it began; none leads to SHUTDOWN. -/

theorem enterSafe_wakes (cause : Nat) (s t : State) : Wakes s (enterSafe cause t) := ⟨by simp⟩

theorem conflictLoad_wakes (s : State) : Wakes s (conflictLoad s) := by
  unfold conflictLoad
  extract_lets t back
  have ht : t.mode = s.mode := by simp [t]
  refine .trans ?_ (.of_dev_eq (finishLoad_dev _))
  refine .ite (fun hg => ?_) fun _ => .of_mode_eq ht
  refine ⟨fun _ => ?_⟩
  rw [dev_eq_of_mode (settleLinks_mode _), State.become_dev]
  rcases (by simpa [State.loadsGlobal] using hg : back = .idle ∨ back = .safe) with h | h <;> simp [h]

theorem fallBack_wakes (s : State) : Wakes s (fallBack s) := by
  unfold fallBack
  extract_lets t l
  have ht : t.dev = s.dev := finishLoad_dev s
  refine .ite (fun _ => .of_dev_eq ht) fun _ => .ite (fun _ => enterSafe_wakes ..) fun _ => .of_dev_eq ?_
  rw [startLoad_dev, ht]

theorem failLoad_wakes (f : LoadFault) (s : State) : Wakes s (failLoad f s) := by
  unfold failLoad
  extract_lets t u
  have ht : t.mode = s.mode := by simp [t]
  have hu : u.mode = s.mode := by simp [u, ht]
  refine .ite (fun _ => .ite (fun _ => enterSafe_wakes ..) fun _ => ?_) fun _ => ?_
  · exact .trans (.of_mode_eq (by simp [hu])) (fallBack_wakes _)
  · exact .trans (.of_mode_eq (by simp [ht])) (.of_dev_eq (finishLoad_dev _))

theorem noGolden_wakes (s : State) : Wakes s (noGolden s) := enterSafe_wakes ..

theorem awaitGolden_wakes (bs : Bytes) (s : State) : Wakes s (awaitGolden bs s).1 := by
  have start : Wakes s (startLoad true 0 .idle s) := .of_dev_eq (startLoad_dev ..)
  unfold awaitGolden
  extract_lets all r rest passed
  split
  · exact start
  · exact .of_dev_eq (State.setLoad_dev ..)
  · split
    · exact noGolden_wakes s
    · split
      · exact start
      · exact .of_dev_eq (State.setLoad_dev ..)

theorem judgeHeader_wakes (s : State) : Wakes s (judgeHeader s) := by
  unfold judgeHeader
  extract_lets l h golden
  refine .ite (fun _ => .refl s) fun _ => .ite (fun _ => failLoad_wakes ..) fun _ => ?_
  split
  · exact failLoad_wakes ..
  · refine .ite (fun _ => failLoad_wakes ..) fun _ => .ite (fun _ => conflictLoad_wakes s) fun _ => ?_
    exact .trans (.of_dev_eq (State.setLoad_dev ..)) (.of_mode_eq (takeBytes_mode ..))

theorem judgeTable_wakes (s : State) : Wakes s (judgeTable s) := by
  unfold judgeTable
  extract_lets l n ts c t
  have ht : t.mode = s.mode := by simp [t, c]
  clear_value ts n t
  split
  · exact .refl s
  · split
    · exact failLoad_wakes ..
    · split
      · exact failLoad_wakes ..
      · exact (Wakes.of_mode_eq ht).trans (.trans (.of_dev_eq (State.setLoad_dev ..)) (.of_mode_eq (loadPhase_mode ..)))

theorem takeSection_wakes (i : Nat) (x : LoadSection) (s : State) : Wakes s (takeSection i x s) := by
  unfold takeSection
  extract_lets done l
  refine .ite (fun _ => .of_dev_eq (State.setLoad_dev ..)) fun _ => ?_
  split
  · exact failLoad_wakes ..
  · extract_lets fault
    clear_value fault
    refine .ite (fun _ => .of_dev_eq (State.setLoad_dev ..)) fun _ => ?_
    split
    · exact failLoad_wakes ..
    · exact .trans (.ite (fun _ => .refl s) fun _ => .of_dev_eq (State.setLoad_dev ..)) (.of_dev_eq (State.setLoad_dev ..))

theorem takeSections_wakes (i : Nat) (xs : List LoadSection) (s : State) : Wakes s (takeSections i xs s) := by
  induction xs generalizing i s with
  | nil => exact .ite (fun _ => .of_mode_eq (loadPhase_mode ..)) fun _ => .refl s
  | cons x xs ih =>
    unfold takeSections
    extract_lets t u
    have hu : u.mode = s.mode := by simp [u, t]
    refine .ite (fun _ => .refl s) fun _ => .trans (.of_mode_eq hu) ?_
    exact .ite (fun _ => .refl u) fun _ => (takeSection_wakes ..).trans (ih ..)

theorem resumeSections_wakes (s : State) : Wakes s (resumeSections s) :=
  .ite (fun _ => takeSections_wakes ..) fun _ => .refl s

theorem findStart_wakes (s : State) : Wakes s (findStart s) := by
  unfold findStart
  extract_lets l
  refine .ite (fun _ => .refl s) fun _ => .ite (fun _ => ?_) fun _ => .ite (fun _ => .refl s) fun _ =>
    .ite (fun _ => ?_) fun _ => ?_
  · split
    · exact .trans (.of_dev_eq (State.setLoad_dev ..)) (.of_mode_eq (loadPhase_mode ..))
    · exact .ite (fun _ => failLoad_wakes ..) fun _ => .refl s
  · exact .trans (.of_dev_eq (State.setLoad_dev ..)) (.of_mode_eq (loadPhase_mode ..))
  · exact failLoad_wakes ..

theorem feed_latch (bs : Bytes) (s : State) : Latch s (feed bs s) := by
  unfold feed
  extract_lets w t bs' u
  have step : Latch t (if t.load.active then resumeSections (judgeTable (judgeHeader u)) else t) := by
    refine .ite (fun ha => .of_loading ha ?_) fun _ => .refl t
    exact .trans (.of_mode_eq (takeBytes_mode ..)) ((findStart_wakes _).trans
      ((judgeHeader_wakes _).trans ((judgeTable_wakes _).trans (resumeSections_wakes _))))
  refine .trans ?_ step
  by_cases hg : s.load.goldenWait = true
  · exact .of_awaiting hg (by simpa [t, w, hg] using awaitGolden_wakes bs s)
  · exact .of_mode_eq (by simp [t, w, hg])

theorem execLoadStreamData_latched (bytes : Bytes) (s : State) : Latched s (execLoadStreamData bytes s) :=
  .next (feed_latch bytes s)

theorem execIpStream_latched (district : Nat) (data : BitVec 128) (s : State) : Latched s (execIpStream district data s) := by
  unfold execIpStream
  split
  · exact .next (.refl s)
  · split
    · exact .next ((feed_latch ..).trans (.of_mode_eq (ipAnswer_mode ..)))
    · exact .next (.of_mode_eq (by simp))

theorem execListenerGoldenWaitEnd_latched (s : State) : Latched s (execListenerGoldenWaitEnd s) := by
  refine .next (.ite (fun hg => ?_) fun _ => .refl s)
  simp only [Bool.and_eq_true] at hg
  exact .of_awaiting hg.1 (.ite (fun _ => noGolden_wakes s) fun _ => .of_dev_eq (State.setLoad_dev ..))

theorem execLoadTimeout_latched (s : State) : Latched s (execLoadTimeout s) := by
  refine .next (.ite (fun ha => .of_loading ha (failLoad_wakes ..)) fun _ => .ite (fun hg => ?_) fun _ => .refl s)
  simp only [Bool.and_eq_true] at hg
  exact .of_awaiting hg.1 (noGolden_wakes s)

/-! An image that passes leaves the device ARMED, or where it was. -/

theorem acceptGlobal_dev (s0 s : State) : (acceptGlobal s0 s).dev = .armed := State.become_dev ..

theorem acceptLoad_wakes (s0 t : State) (led : Ledger) : Wakes t (acceptLoad s0 t led) := by
  unfold acceptLoad
  extract_lets s1 s2 s3 s4 s5
  have h1 : s1.mode = t.mode := by simp [s1]
  have h2 : s2.mode = s1.mode := by simp [s2]
  have h3 : s3.mode = s2.mode := by
    simp only [s3]
    rw [foldl_mode fun _ _ => settlePlane_mode .., applyDram_mode]
  have h4 : s4.mode = s3.mode := by
    simp only [s4]
    split <;> simp
  have h : Wakes t s4 := .of_mode_eq (by rw [h4, h3, h2, h1])
  have h5 : Wakes t s5 :=
    .ite (fun _ => ⟨fun _ => by simp [acceptGlobal_dev]⟩) fun _ => h.trans (.of_mode_eq (acceptPartial_mode ..))
  exact h5.trans (.trans (.of_mode_eq (loadPhase_mode ..)) (.of_dev_eq (finishLoad_dev _)))

theorem execLoadAccept_latched (s : State) : Latched s (execLoadAccept s) := by
  unfold execLoadAccept
  extract_lets l
  split
  · exact .next (.refl s)
  next hl =>
  have ha : s.load.active = true := by
    simp only [Bool.or_eq_true, not_or] at hl
    obtain ⟨⟨⟨ha, -⟩, -⟩, -⟩ := hl
    simpa using ha
  split
  · exact .next (.of_loading ha (failLoad_wakes ..))
  · exact .next (.of_loading ha (.trans (.of_mode_eq (showLedger_mode ..)) (failLoad_wakes ..)))
  · next t led hj =>
    split
    · exact .next (.of_mode_eq (abortTest_mode s))
    · exact .next (.of_loading ha (.trans (.of_mode_eq (State.judgeLoad_mode hj)) (acceptLoad_wakes ..)))

theorem execLoadFrameWrite_latched (s : State) : Latched s (execLoadFrameWrite s) := by
  unfold execLoadFrameWrite
  split
  · exact .next (.refl s)
  next j rest hf =>
  have ha : s.load.active = true := by
    cases ha : s.load.active with
    | true => rfl
    | false => simp [ha] at hf
  extract_lets s1 p s2 r s3 l s4
  have h1 : s1.mode = s.mode := by simp [s1]
  have h2 : s2.mode = s1.mode := by simp [s2]
  have h3 : s3.mode = s2.mode := writeVerified_mode ..
  have h : Wakes s s3 := .of_mode_eq (by rw [h3, h2, h1])
  have h4 : Wakes s s4 := h.trans (.of_dev_eq (State.setLoad_dev ..))
  clear_value s3 r s4
  split
  · exact .next (.of_loading ha (h.trans ((failLoad_wakes ..).trans (.of_mode_eq (payOwed_mode _)))))
  · split
    · exact .next (.of_loading ha (h.trans (.of_dev_eq (State.setLoad_dev ..))))
    · split
      · exact .next (.of_loading ha (h4.trans ((failLoad_wakes ..).trans (.of_mode_eq (payOwed_mode _)))))
      · exact .next (.of_loading ha (h4.trans ((resumeSections_wakes _).trans (.of_mode_eq (payOwed_mode _)))))

/-! ### Commands -/

/-- A handler whose act latches. -/
def Handler.Latches (h : Handler) : Prop := ∀ v s t, h.act v s = .ok t → Latch s t

theorem Handler.KeepsMode.latches {h : Handler} (hk : h.KeepsMode) : h.Latches := fun v s t ht => .of_mode_eq (hk v s t ht)

/-- A handler that latches as its element is commanded: either its act does, or SHUTDOWN refuses the element on every route and the
act does not lead into SHUTDOWN. -/
def Handler.LatchesFor (h : Handler) (e : El) : Prop :=
  h.Latches ∨ (e.info.cls ≠ .always ∧ settable e = false ∧ ∀ v s t, h.act v s = .ok t → Wakes s t)

theorem stateRefusal_shutdown {c : StateClass} (hc : c ≠ .always) : stateRefusal c .shutdown = some 5 := by
  cases c
  case always => exact absurd rfl hc
  all_goals rfl

theorem judge_latch {w : Route} {e : El} {u : Nat} {v : Option Nat} {h : Handler} {s t : State} (hh : h.LatchesFor e)
    (hj : judge w e u v h s = .ok t) : Latch s t := by
  obtain ⟨n, ha, hr⟩ := judge_ok hj
  rcases hh with hh | ⟨hc, hs, hw⟩
  · exact hh n s t ha
  · have hd : s.dev ≠ .shutdown := fun hd => by simpa [hd, stateRefusal_shutdown hc] using hr hs
    exact .of_dev_ne hd ((hw n s t ha).awake hd)

theorem judged_latch {w : Route} {e : El} {u : Nat} {v : Option Nat} {h : Handler} (hh : h.LatchesFor e) (s : State) :
    Latch s (judged w e u v h s).2 := by
  unfold judged
  split
  · next hj => exact judge_latch hh hj
  · exact .of_mode_eq (refusedWith_mode ..)

theorem performFront_latch {f : State → Nat × Bytes × State} (hf : ∀ t, Latch t (f t).2.2) (r : HeldRequest)
    (rest : List HeldRequest) (s : State) : Latch s (performFront r rest f s) := by
  unfold performFront
  extract_lets c x t
  have hx : Latch s x.2.2 := .trans (.of_mode_eq (State.setCtl_mode ..)) (hf _)
  exact hx.trans (.of_mode_eq (by simp [t]))

theorem inTurn_latch {f : State → Nat × Bytes × State} (hf : ∀ t, Latch t (f t).2.2) (w : Route) (asks : HeldRequest → Bool)
    (s : State) : Latch s (inTurn w asks f s) := by
  unfold inTurn
  split
  · exact (hf s).trans (.of_mode_eq (answerTo_mode ..))
  · exact .ite (fun _ => performFront_latch hf ..) fun _ => .refl s

theorem write_latched {w : Route} {e : El} {u v : Nat} {h : Handler} (hh : h.LatchesFor e) (s : State) :
    Latched s (write w e u v h s) :=
  .next (.ite (fun _ => inTurn_latch (fun t => judged_latch hh t) ..) fun _ => .refl s)

/-! SAFE_ENTER, SAFE_LEAVE and LOAD_GO are refused in SHUTDOWN; LOAD_ABORT finds nothing to abort there. -/

theorem hSafeEnter_latchesFor : hSafeEnter.LatchesFor .SAFE_ENTER := by
  refine .inr ⟨by decide, by decide, fun v s t h => ?_⟩
  simp only [hSafeEnter, Handler.doing] at h
  split at h
  · cases h
    exact .refl s
  · split at h <;> injection h with h <;> subst h
    · exact .of_dev_eq rfl
    · exact enterSafe_wakes ..

theorem hSafeLeave_latchesFor : hSafeLeave.LatchesFor .SAFE_LEAVE := by
  refine .inr ⟨by decide, by decide, fun v s t h => ?_⟩
  simp only [hSafeLeave, Handler.doing] at h
  split at h <;> injection h with h <;> subst h
  · exact .refl s
  · exact ⟨fun _ => by simp⟩

theorem hLoadGo_latchesFor : hLoadGo.LatchesFor .LOAD_GO := by
  refine .inr ⟨by decide, by decide, fun v s t h => ?_⟩
  simp only [hLoadGo, Handler.doing] at h
  split at h
  · injection h with h
    subst h
    exact .refl s
  · split at h
    · cases h
    · have start : Wakes s (startLoad false (s.rget .LOAD_SRC) s.dev s) := .of_dev_eq (startLoad_dev ..)
      have go (t : State) : Wakes s (settleLinks (t.become .loading)) :=
        ⟨fun _ => by rw [dev_eq_of_mode (settleLinks_mode _), State.become_dev]; decide⟩
      split at h <;> injection h with h <;> subst h
      · exact go _
      · exact go _
      · exact start

theorem hLoadAbort_latchesFor : hLoadAbort.LatchesFor .LOAD_ABORT := by
  refine .inl fun v s t h => ?_
  simp only [hLoadAbort, Handler.doing] at h
  split at h
  · injection h with h
    subst h
    exact .refl s
  next hl =>
  injection h with h
  subst h
  have hw : Wakes s (if s.loadsGlobal then enterSafe 3 (abortLoad s) else abortLoad s) :=
    .ite (fun _ => enterSafe_wakes ..) fun _ => .of_dev_eq (abortLoad_dev s)
  have hg : ¬v = 0 ∧ (s.load.active = false → s.load.goldenWait = true) := by simpa using hl
  cases ha : s.load.active
  · exact .of_awaiting (hg.2 ha) hw
  · exact .of_loading ha hw

theorem handlerOf_keepsMode (w : Route) (e : El) (u : Nat) (h1 : e ≠ .LOAD_GO) (h2 : e ≠ .LOAD_ABORT) (h3 : e ≠ .SAFE_ENTER)
    (h4 : e ≠ .SAFE_LEAVE) : (handlerOf w e u).KeepsMode := by
  unfold handlerOf
  split
  · simp
  · split <;> simp at *

theorem handlerOf_latchesFor (w : Route) (e : El) (u : Nat) : (handlerOf w e u).LatchesFor e := by
  by_cases h1 : e = .LOAD_GO
  · subst h1; exact hLoadGo_latchesFor
  by_cases h2 : e = .LOAD_ABORT
  · subst h2; exact hLoadAbort_latchesFor
  by_cases h3 : e = .SAFE_ENTER
  · subst h3; exact hSafeEnter_latchesFor
  by_cases h4 : e = .SAFE_LEAVE
  · subst h4; exact hSafeLeave_latchesFor
  exact .inl (handlerOf_keepsMode w e u h1 h2 h3 h4).latches

theorem execLoadAbort_latched (w : Route) (v : Nat) (s : State) : Latched s (execLoadAbort w v s) :=
  write_latched hLoadAbort_latchesFor s

theorem execLoadGo_latched (w : Route) (v : Nat) (s : State) : Latched s (execLoadGo w v s) :=
  write_latched hLoadGo_latchesFor s

theorem execSafeEnter_latched (w : Route) (v : Nat) (s : State) : Latched s (execSafeEnter w v s) :=
  write_latched hSafeEnter_latchesFor s

theorem execSafeLeave_latched (w : Route) (v : Nat) (s : State) : Latched s (execSafeLeave w v s) :=
  write_latched hSafeLeave_latchesFor s

/-! Data ports, and the dictionary's writes. -/

theorem dpStore_latch (n : Nat) (bs : Bytes) (s : State) : Latch s (dpStore n bs s).2 := by
  unfold dpStore
  extract_lets addr target c r t
  split
  · split
    · exact .of_mode_eq (by simp [c])
    · exact (feed_latch bs s).trans (.of_mode_eq (by simp))
  · exact .of_mode_eq (by simp [r])
  · exact .of_mode_eq (by simp [t])

theorem dpWrite_latch (w : Route) (n : Nat) (bs : Bytes) (s : State) : Latch s (dpWrite w n bs s).2 := by
  unfold dpWrite
  split
  · exact .of_mode_eq (by simp)
  · exact dpStore_latch n bs s

theorem writeBlob_latch (w : Route) (e : El) (u : Nat) (bytes : Bytes) (s : State) : Latch s (writeBlob w e u bytes s).2 := by
  unfold writeBlob
  extract_lets fits r
  split
  · exact .of_mode_eq (by simp)
  · exact .of_mode_eq (by simp)
  · exact .of_mode_eq (by simp)
  · exact dpWrite_latch w u bytes s
  · exact .of_mode_eq (by simp)

theorem dictWrite_latch (w : Route) (eid : Nat) (bytes : Bytes) (s : State) : Latch s (dictWrite w eid bytes s).2 := by
  unfold dictWrite
  split
  · exact .of_mode_eq (vendorPerformed_mode s)
  · split
    · exact .refl s
    next e u he =>
    split
    · exact writeBlob_latch w e u bytes s
    · extract_lets r
      have hr : Latch s r.2 := judged_latch (handlerOf_latchesFor w e u) s
      split
      · exact hr.trans (.of_mode_eq (consumeToken_mode ..))
      · exact hr

theorem execDictWrite_latched (w : Route) (eid : Nat) (bytes : Bytes) (s : State) : Latched s (execDictWrite w eid bytes s) := by
  unfold execDictWrite
  split
  · exact .next (.refl s)
  · exact .next (inTurn_latch (fun t => dictWrite_latch w eid bytes t) ..)

theorem execVendorRequest_latched (w : Route) (eid : Nat) (writes : Bool) (bytes : Bytes) (s : State) :
    Latched s (execVendorRequest w eid writes bytes s) := by
  unfold execVendorRequest
  split
  · exact .next (.refl s)
  · split
    · exact execDictWrite_latched w eid bytes s
    · exact .next (.of_mode_eq (inTurn_mode _ _ _ fun t => dictRead_mode ..))

theorem execLcRequest_latched (w : Route) (v : Nat) (s : State) : Latched s (execLcRequest w v s) := by
  refine .next (.ite (fun _ => inTurn_latch (fun t => ?_) ..) fun _ => .refl s)
  exact (judged_latch (.inl (hLcRequest_keepsMode w).latches) t).trans (.of_mode_eq (consumeToken_mode ..))

theorem execDpDataWrite_latched (w : Route) (n : Nat) (bytes : Bytes) (s : State) : Latched s (execDpDataWrite w n bytes s) :=
  .next (.ite (fun _ => inTurn_latch (fun t => dpWrite_latch w n bytes t) ..) fun _ => .refl s)

/-! Requests over SUSIS and IVTOR. -/

theorem performRequest_latch (r : HeldRequest) (s : State) : Latch s (performRequest r s).2.2 := by
  unfold performRequest
  split
  · exact .refl s
  · split
    · exact .of_mode_eq (dictRead_mode ..)
    · exact dictWrite_latch ..

theorem susis_latched (r : HeldRequest) (s : State) : Latched s (susis r s) := by
  unfold susis
  split
  · exact .next (.refl s)
  · exact .next (inTurn_latch (performRequest_latch r) ..)

theorem ivtorRequest_latch (r : HeldRequest) (s : State) : Latch s (ivtorRequest r s) := by
  unfold ivtorRequest
  split
  · exact .refl s
  · split
    · exact performFront_latch (performRequest_latch r) ..
    · exact .of_mode_eq (arrive_mode r s)

theorem ivtorGuarded_latched {f : State → State} (hf : ∀ t, Latch t (f t)) (s : State) : Latched s (ivtorGuarded f s) := by
  have hl : Latch s (lineIn s) := .of_mode_eq (lineIn_mode s)
  refine .next (.ite (fun _ => ?_) fun _ => hl)
  exact hl.trans (.ite (fun _ => .of_mode_eq (ivtorReply_mode ..)) fun _ => hf _)

theorem parsed_latch {α : Type} {f : α → State → State} (hf : ∀ a t, Latch t (f a t)) (name arguments : Nat) (v : Option α)
    (s : State) : Latch s (parsed name arguments v f s) := by
  unfold parsed
  split
  · exact hf _ s
  · exact .of_mode_eq (ivtorReply_mode ..)

theorem execIvtorWrite_latched (eid value : Bytes) (s : State) : Latched s (execIvtorWrite eid value s) :=
  ivtorGuarded_latched (fun _ => parsed_latch (fun _ u => ivtorRequest_latch _ u) ..) s

theorem execIvtorRead_latched (eid : Bytes) (s : State) : Latched s (execIvtorRead eid s) :=
  ivtorGuarded_latched (fun _ => parsed_latch (fun _ u => ivtorRequest_latch _ u) ..) s

/-! ### Trunks -/

theorem takeMgmt_latch (k : Nat) (p : TrunkPacket) (s : State) : Latch s (takeMgmt k p s) := by
  refine .ite (fun _ => ?_) fun _ => .of_mode_eq (State.rinc_mode ..)
  exact .trans (.ite (fun _ => feed_latch ..) fun _ => .refl s) (.of_mode_eq (sendStatusOn_mode ..))

theorem pump_latch (k : Nat) (ps : List TrunkPacket) (s : State) : Latch s (pump k ps s) := by
  induction ps generalizing s with
  | nil => exact .of_mode_eq (State.setTrunk_mode ..)
  | cons p ps ih =>
    unfold pump
    extract_lets h n q r
    have hr : r.2.mode = s.mode := by simp [r]
    split
    · exact (takeMgmt_latch k p s).trans (.trans (.of_mode_eq (freeBlocks_mode ..)) (ih _))
    · split
      · split
        · exact .trans (.of_mode_eq (by simp [hr])) (ih _)
        · exact .of_mode_eq (by simp [hr])
      · exact .trans (.of_mode_eq (by simp)) (ih _)

theorem drainTrunk_latch (k : Nat) (s : State) : Latch s (drainTrunk k s) := pump_latch ..

theorem drainTrunks_latch (s : State) : Latch s (drainTrunks s) := .foldl (fun t k => drainTrunk_latch k t) ..

theorem execPacketReceived_latched (trunk : Nat) (p : TrunkPacket) (s : State) : Latched s (execPacketReceived trunk p s) := by
  unfold execPacketReceived
  split
  · exact .next (.refl s)
  extract_lets h e ahead dropped x y
  have hd : dropped.mode = s.mode := freeBlocks_mode ..
  split
  · split
    · exact .next (.trans (.of_mode_eq (by simp)) (drainTrunk_latch ..))
    · exact .next (.of_mode_eq (by simp [hd]))
  · split
    · exact .next (.of_mode_eq (by simp [hd]))
    · exact .next (.of_mode_eq hd)

/-! ### Orbits and crossings -/

theorem stageThree_latch (s : State) : Latch s (stageThree s) := by
  unfold stageThree
  extract_lets t l u
  have hu : u.mode = s.mode := by simp [u, l, t]
  refine .trans (.of_mode_eq hu) (.ite (fun ha => ?_) fun _ => .refl u)
  exact .of_dev_ne (by rw [ha]; decide) (by rw [State.become_dev]; decide)

theorem globalStage_latch (n : Nat) (s : State) : Latch s (globalStage n s) := by
  unfold globalStage
  split
  · exact .of_mode_eq (stageOne_mode s)
  · exact .of_mode_eq (by simp)
  · exact stageThree_latch s

theorem globalStages_latch (n : Nat) (s : State) : Latch s (globalStages n s) := by
  induction n generalizing s with
  | zero => exact .refl s
  | succ n ih =>
    unfold globalStages
    split
    · exact .ite (fun _ => (globalStage_latch ..).trans (ih _)) fun _ => .refl s
    · exact .refl s

theorem dueChanges_latch (s : State) : Latch s (dueChanges s) := by
  unfold dueChanges
  extract_lets run s1 s2 s3 s4
  have h1 : s1.mode = s.mode := by simp [s1]
  have h2 : s2.mode = s1.mode := by
    simp only [s2, mode_ite, foldl_mode fun _ _ => changeBase_mode .., ite_self]
  have h3 : s3.mode = s2.mode := releaseFreeze_mode _
  have h4 : Latch s3 s4 := by
    refine .ite (fun _ => ?_) fun _ => .refl s3
    exact (globalStages_latch 3 s3).trans (.of_mode_eq (foldl_mode fun _ _ => districtStages_mode ..))
  have h5 : ∀ t : State, Latch t (t.distList.foldl (fun t d => settleAtStart d t) t) :=
    fun t => .of_mode_eq (foldl_mode fun _ _ => settleAtStart_mode ..)
  exact .trans (.of_mode_eq (h3.trans (h2.trans h1))) (h4.trans (.ite (fun _ => h5 s4) fun _ => .refl s4))

theorem passBoundary_latch (s : State) : Latch s (passBoundary s) := by
  unfold passBoundary
  extract_lets s1 b s2 c s3
  have h2 : s2.mode = s.mode := by simp [s2, s1]
  have h3 : s3.mode = s2.mode := by simp [s3]
  exact .trans (.of_mode_eq (h3.trans h2)) ((dueChanges_latch s3).trans (.of_mode_eq (boundaryRest_mode _)))

theorem advance_latch (s : State) : Latch s (advance s) := by
  unfold advance
  extract_lets b s1 c s2 d
  have h1 : Latch s s1 := passBoundary_latch s
  have h2 : s2.mode = s.mode := leaveCrossing_mode s
  clear_value s1 s2
  split
  · exact .of_mode_eq (by simp)
  · split
    · exact h1.trans (.of_mode_eq (by simp))
    · exact .of_mode_eq (by simp [h2])

theorem enterDueSafe_latch (s : State) : Latch s (enterDueSafe s) := by
  unfold enterDueSafe
  split
  · next hc => exact .of_safeDue hc (enterSafe_wakes ..)
  · exact .refl s

theorem crossingActions_latch (s : State) : Latch s (crossingActions s) := by
  unfold crossingActions
  extract_lets s1 d s2 s3 s4 s5
  have h2 : s2.mode = s.mode := by simp [s2, s1]
  have h3 : Latch s2 s3 := (enterDueSafe_latch s2).trans (.of_mode_eq (startSpacing_mode _))
  have h4 : Latch s3 s4 := .ite (fun _ => .refl s3) fun _ => .of_mode_eq (foldl_mode fun _ _ => ringWriter_mode ..)
  have h5 : Latch s4 s5 := .ite (fun _ => .refl s4) fun _ => .of_mode_eq (foldl_mode fun _ _ => enterPort_mode ..)
  have hp : (countPauses (handOver s5)).mode = s5.mode := by simp
  exact .trans (.of_mode_eq h2) (h3.trans (h4.trans (h5.trans (.trans (.of_mode_eq hp) (drainTrunks_latch _)))))

theorem execCrossingStart_latched (s : State) : Latched s (execCrossingStart s) := by
  unfold execCrossingStart
  extract_lets b s1 s2 c
  have h1 : s1.mode = s.mode := by simp [s1]
  have h2 : Latch s s2 := .of_mode_eq (by simp [s2, h1])
  have cross (t : State) : Latch t (crossingActions (advance t)) := (advance_latch t).trans (crossingActions_latch _)
  clear_value s2
  split
  · exact .next h2
  · split
    · split
      · exact .next (h2.trans (.trans (.of_mode_eq (by simp)) (cross _)))
      · exact .next (h2.trans (.of_mode_eq (by simp)))
    · exact .next (h2.trans (cross s2))

theorem execOrbitBoundary_latched (s : State) : Latched s (execOrbitBoundary s) :=
  .next (.ite (fun _ => passBoundary_latch s) fun _ => .refl s)

theorem execResume_latched (s : State) : Latched s (execResume s) := by
  unfold execResume
  split
  · next h =>
    simp only [Bool.and_eq_true, decide_eq_true_eq] at h
    refine .next (.of_dev_ne (by simp [h]) ?_)
    extract_lets t
    rw [dev_eq_of_mode (State.raise_mode ..), dev_eq_of_mode (State.rset_mode ..), dev_eq_of_mode (ariseSuspects_mode _),
      State.become_dev]
    decide
  · exact .next (.refl s)

theorem execFreezeStart_latched (s : State) : Latched s (execFreezeStart s) := by
  unfold execFreezeStart
  split
  · exact .next (.refl s)
  · split
    · next h =>
      refine .next (.of_dev_ne ?_ ?_)
      · simp only [Bool.and_eq_true, Bool.or_eq_true, decide_eq_true_eq] at h
        rcases h.2 with hd | hd <;> rw [hd] <;> decide
      · extract_lets
        rw [State.become_dev]
        decide
    · exact .next (.refl s)

/-! ### Losses of alignment -/

theorem lose_latch (st : TbState) (cause : Nat) (s : State) : Latch s (lose st cause s) := by
  unfold lose
  extract_lets s1 s2 _ _ _ s3
  have h3 : s3.mode = s.mode := by simp [s3, s2, s1]
  refine .trans (.of_mode_eq h3) (.ite (fun hr => ?_) fun _ => .refl s3)
  exact .of_dev_ne (by rw [hr]; decide) (by rw [State.become_dev]; decide)

theorem execClockLoss_latched (cause : LossCause) (s : State) : Latched s (execClockLoss cause s) := by
  unfold execClockLoss
  split
  · exact .next (.refl s)
  · split
    · exact .next (.refl s)
    · exact .next (.of_mode_eq (by simp))
    · exact .next (.of_mode_eq (by simp))
    · exact .next (.of_mode_eq (by simp))
    · exact .next ((lose_latch ..).trans (.of_mode_eq (dropSource_mode ..)))
    · exact .next (.of_mode_eq (by simp))

theorem checkWord_latch (w : BitVec 80) (s : State) : Latch s (checkWord w s) := by
  unfold checkWord
  extract_lets x n put b m s1
  have h1 : s1.mode = s.mode := by simp [s1, put]
  refine .ite (fun _ => .of_mode_eq (by simp [put])) fun _ => .ite (fun _ => .of_mode_eq (by simp [put])) fun _ => ?_
  exact .trans (.of_mode_eq h1) (.ite (fun _ => lose_latch ..) fun _ => .refl s1)

theorem execSyncWord_latched (word : BitVec 80) (s : State) : Latched s (execSyncWord word s) := by
  unfold execSyncWord
  split
  · exact .next (.refl s)
  extract_lets valid
  have provisional : Latch s (if valid then provisionalWord (syncOrbit word) s else s) :=
    .ite (fun _ => .of_mode_eq (provisionalWord_mode ..)) fun _ => .refl s
  split
  · exact .next provisional
  · exact .next provisional
  · exact .next (checkWord_latch word s)
  all_goals exact .next (.refl s)

theorem checkMarker_latch (back : Nat) (s : State) : Latch s (checkMarker back s) := by
  unfold checkMarker
  extract_lets err b s1 c n s2
  have h1 : s1.mode = s.mode := by simp [s1]
  have h2 : s2.mode = s1.mode := by simp [s2]
  clear_value s1 s2
  refine .trans (.of_mode_eq h1) (.ite (fun _ => .of_mode_eq (by simp)) fun _ => ?_)
  exact .trans (.of_mode_eq h2) (.ite (fun _ => lose_latch ..) fun _ => .refl s2)

theorem execOrbitMarker_latched (src : OrbitSource) (s : State) : Latched s (execOrbitMarker src s) := by
  unfold execOrbitMarker
  extract_lets put back
  split
  · exact .next (.refl s)
  · split
    · exact .next (.of_mode_eq (by simp [put]))
    · exact .next (.of_mode_eq (by simp [put]))
    · exact .next (.trans (.of_mode_eq (takeMarker_mode ..)) (checkMarker_latch ..))
    all_goals exact .next (.refl s)

end Sys2Proof.Machine
end

section
/-! O60: only a power cycle leaves SHUTDOWN (R14). -/

namespace Sys2Proof.Machine

theorem execIvtorUnlock_latched (s : State) : Latched s (execIvtorUnlock s) := ivtorGuarded_latched (ivtorRequest_latch _) s

theorem execIvtorLock_latched (s : State) : Latched s (execIvtorLock s) := ivtorGuarded_latched (ivtorRequest_latch _) s

theorem execIvtorLog_latched (n : Bytes) (s : State) : Latched s (execIvtorLog n s) :=
  ivtorGuarded_latched (fun _ => parsed_latch (fun _ _ => .of_mode_eq (ivtorReply_mode ..)) ..) s

/-! ### Resets and boot -/

theorem inReset_mode (cause : Nat) (d : DevState) (s : State) :
    (inReset cause d s).mode = { dev := d, loading := false, awaiting := false, safeDue := none } := by
  unfold inReset
  extract_lets soft r c p g k t
  rw [State.rset_mode, State.rset_mode]
  simp [t, r, State.mode, State.reset, Loader.reset]

theorem inReset_dev (cause : Nat) (d : DevState) (s : State) : (inReset cause d s).dev = d :=
  congrArg Mode.dev (inReset_mode cause d s)

theorem resetBy_latch (cause : Nat) (s : State) : Latch s (resetBy cause s) := by
  have toReset (c : Nat) (hd : ¬(s.dev = .powerOff || s.dev = .shutdown)) : Latch s (inReset c .reset s) :=
    .of_dev_ne (fun h => hd (by simp [h])) (by rw [inReset_dev]; decide)
  refine .ite (fun _ => .refl s) fun hd => .ite (fun _ => .ite (fun _ => toReset 0 hd) fun _ => .refl s) fun _ => ?_
  exact .ite (fun _ => toReset cause hd) fun _ => .of_mode_eq (by simp)

theorem execRstNAssert_latched (s : State) : Latched s (execRstNAssert s) := .next (resetBy_latch 1 s)

theorem execSupplyReset_latched (s : State) : Latched s (execSupplyReset s) := .next (resetBy_latch 0 s)

theorem execCommandReset_latched (s : State) : Latched s (execCommandReset s) :=
  .next (.ite (fun _ => .trans (.of_mode_eq (by simp)) (resetBy_latch ..)) fun _ => .refl s)

theorem execKeeperWriteDone_latched (s : State) : Latched s (execKeeperWriteDone s) := by
  unfold execKeeperWriteDone
  extract_lets t
  have ht : Latch s t := .of_mode_eq (endKeeperWrite_mode s)
  split
  · refine .next (ht.trans (.ite (fun _ => .refl t) fun hd => .of_dev_ne hd ?_))
    rw [inReset_dev]
    decide
  · exact .next ht

theorem execPowerOn_latched (s : State) : Latched s (execPowerOn s) := by
  refine .next (.ite (fun hd => .of_dev_ne ?_ ?_) fun _ => .refl s)
  · rw [hd]
    decide
  · change (inReset 0 .reset s).dev ≠ .shutdown
    rw [inReset_dev]
    decide

theorem execResetRelease_latched (found : ResetFindings) (s : State) : Latched s (execResetRelease found s) := by
  unfold execResetRelease
  split
  · exact .next (.refl s)
  next hd =>
  extract_lets k c t u v w x
  have ht : t.dev = .boot := rfl
  have hx : x.mode = t.mode := by simp [x, w, v, u]
  refine .next (.of_dev_ne (fun h => hd (by rw [h]; rfl)) ?_)
  rw [dev_eq_of_mode (startTrunk_mode ..), dev_eq_of_mode (bootChange_mode _), dev_eq_of_mode hx, ht]
  decide

theorem execBootEnd_latched (s : State) : Latched s (execBootEnd s) := by
  unfold execBootEnd
  split
  · exact .next (.refl s)
  next hd =>
  have hs : s.dev ≠ .shutdown := fun h => hd (by rw [h]; rfl)
  extract_lets c i j t u auto
  refine .next (.ite (fun _ => .of_dev_ne hs ?_) fun _ => .of_dev_ne hs ?_) <;>
    rw [State.become_dev] <;> decide

theorem powerGate_mode (s : State) :
    (powerGate s).mode = { dev := s.dev, loading := false, awaiting := false, safeDue := none } := by
  simp [powerGate, State.mode, State.reset, Loader.reset]

theorem powerGate_latch {s : State} (hd : s.dev = .shutdown) : Latch s (powerGate s) :=
  ⟨fun _ => by rw [powerGate_mode, hd, Mode.shut], .of_dev_eq (congrArg Mode.dev (powerGate_mode s))⟩

theorem execShutdownPowerGate_latched (s : State) : Latched s (execShutdownPowerGate s) := by
  have hm : (bumpCounter 2 .SHUTDOWNS (finishWork s)).mode = s.mode := by simp
  refine .next (.ite (fun hd => ?_) fun _ => .refl s)
  simp only [Bool.and_eq_true, decide_eq_true_eq] at hd
  exact .trans (.of_mode_eq hm) (powerGate_latch ((dev_eq_of_mode hm).trans hd.1))

/-! ### The two instructions that do not latch -/

theorem enterShutdown_mode (s : State) : (enterShutdown s).mode = .shut := by
  unfold enterShutdown
  extract_lets last t u v r w h
  have ht : t.mode = { s.mode with loading := false, awaiting := false, safeDue := none } := by
    simp only [t, lockVault_mode, abortLoad_mode]
    rfl
  have hu : u.mode = t.mode := by simp [u]
  have hv : v.mode = u.mode := foldl_mode fun _ _ => stopTrunk_mode ..
  have hw : w.mode = v.mode := by simp [w]
  rw [State.become_mode, State.rset_mode, State.setHeat_mode, hw, hv, hu, ht, Mode.shut]

theorem execPowerLoss_dev {s t : State} (h : execPowerLoss s = .next t) : t.dev = .powerOff := by
  simp only [execPowerLoss, Host.Outcome.next.injEq] at h
  subst h
  rw [dev_eq_of_mode (State.rset_mode ..)]
  exact inReset_dev 0 .powerOff s

theorem execShutdownEntry_next {s t : State} (h : execShutdownEntry s = .next t) : Latch s t ∨ t.mode = .shut := by
  simp only [execShutdownEntry] at h
  split at h
  · injection h with h
    subst h
    split
    · exact .inr (enterShutdown_mode s)
    · exact .inl (.refl s)
  · injection h with h
    subst h
    exact .inl (.refl s)

/-! ### Steps -/

theorem exec_latched {i : Instr} (hp : i ≠ .powerLoss) (hs : i ≠ .shutdownEntry) (s : State) : Latched s (exec i s) := by
  cases i
  case powerLoss => exact absurd rfl hp
  case shutdownEntry => exact absurd rfl hs
  case bootEnd => exact execBootEnd_latched s
  case resetRelease => exact execResetRelease_latched _ s
  case rstNAssert => exact execRstNAssert_latched s
  case supplyReset => exact execSupplyReset_latched s
  case powerOn => exact execPowerOn_latched s
  case shutdownPowerGate => exact execShutdownPowerGate_latched s
  case keeperWriteDone => exact execKeeperWriteDone_latched s
  case commandReset => exact execCommandReset_latched s
  case safeEnter => exact execSafeEnter_latched _ _ s
  case safeLeave => exact execSafeLeave_latched _ _ s
  case loadGo => exact execLoadGo_latched _ _ s
  case loadAbort => exact execLoadAbort_latched _ _ s
  case loadAccept => exact execLoadAccept_latched s
  case loadFrameWrite => exact execLoadFrameWrite_latched s
  case loadStreamData => exact execLoadStreamData_latched _ s
  case loadTimeout => exact execLoadTimeout_latched s
  case listenerGoldenWaitEnd => exact execListenerGoldenWaitEnd_latched s
  case ipStream => exact execIpStream_latched _ _ s
  case dictWrite => exact execDictWrite_latched _ _ _ s
  case vendorRequest => exact execVendorRequest_latched _ _ _ _ s
  case lcRequest => exact execLcRequest_latched _ _ s
  case dpDataWrite => exact execDpDataWrite_latched _ _ _ s
  case susisWrite => exact susis_latched _ s
  case susisRead => exact susis_latched _ s
  case susisNop => exact susis_latched _ s
  case ivtorWrite => exact execIvtorWrite_latched _ _ s
  case ivtorRead => exact execIvtorRead_latched _ s
  case ivtorLog => exact execIvtorLog_latched _ s
  case ivtorUnlock => exact execIvtorUnlock_latched s
  case ivtorLock => exact execIvtorLock_latched s
  case packetReceived => exact execPacketReceived_latched _ _ s
  case crossingStart => exact execCrossingStart_latched s
  case orbitBoundary => exact execOrbitBoundary_latched s
  case resume => exact execResume_latched s
  case freezeStart => exact execFreezeStart_latched s
  case clockLoss => exact execClockLoss_latched _ s
  case syncWord => exact execSyncWord_latched _ s
  case orbitMarker => exact execOrbitMarker_latched _ s
  all_goals
    exact Kept.latched (by simp [exec,
      execLidClosed, execTamperNRelease, execCanBusOffRecovery, execHdrExitPattern, execPartnerTrainingRequest,
      execLockBrokenTimeout, execDeferredHalt, execEbreak, execStepHalt, execLidOpen, execTamperAssert, execDbgNop,
      execTapLogicReset, execTrstN, execBypass, execDbgAccess, execHighz, execClamp, execExtestTrain, execExtestPulse,
      execSamplePreload, execIdcode, execExtest, execRecordWrite, execMtimecmpExpiry, execWdtSecondExpiry,
      execWdtFirstExpiry, execDetach, execDbgCoreReset, execCurWrite, execCoreResume, execHaltReq, execDbgReservedOp,
      execRecClear, execMemLostRead, execMemEventPop, execWdtEnableWrite, execFwpWindowPassed, execFwpEnableWrite,
      execFreezeRelease, execFreezeGo, execBistAbort, execBistGo, execDeviceResetCmd, execCoreResetCmd, execDpBindWrite,
      execAlertAck, execLockBreak, execLockTimeout, execExpertLock, execHotJoin, execUnsupportedCcc, execGetcaps,
      execGetmxds, execGetmrl, execGetmwl, execGetstatus, execGetdcr, execGetbcr, execGetpid, execHdrDdrRead,
      execHdrDdrWrite, execEnthdr0, execSetmrl, execSetmwl, execEntas, execDisec, execEnec, execTargetResetPattern,
      execRstact, execRstdaa, execSetnewda, execEntdaa, execI3cPrivateRead, execI3cPrivateWrite, execCsReset, execFlipArm,
      execUnsubstitute, execRtUnretire, execRtRetire, execScrubEnableWrite, execLbLeakWrite, execLbLeakTick,
      execInvalidateDone, execInvalidate, execTicketQuery, execIpReservedOp, execIpHostWrite, execLoadSrcWrite,
      execReservedBlockReceived, execStopReceived, execIdleBlockReceived, execTkReset, execRetrain, execTrainingTimeout,
      execCodewordLockLost, execCodewordLock, execTrunkPllLock, execTkPrbsWrite, execTkModeWrite, execTkRateWrite,
      execTkEnableWrite, execQFlush, execQDisable, execQEnable, execEventPresetWrite, execGWindowWrite, execEbGroupWrite,
      execSsFioCfgWrite, execSsModeWrite, execTapOutWrite, execPolicyWrite, execBusyForceWrite, execBreachAck,
      execCaptureCycle, execCaptureDisarm, execCaptureArm, execLockGroupWrite, execBaseAtWrite, execBaseNextWrite,
      execDramUncorrectable, execUpClear, execVaultWipeDone, execVaultWipe, execVaultUnlock, execVaultLock,
      execRingGeometryWrite, execRingEnableWrite, execDeferredSleep, execBankWakeDone, execPowerWrite, execHandoverDrainEnd,
      execOwnerWrite, execPlazaResponse, execOrderedResponse, execDlSend, execAdaptInitialEnd, execAlignReq,
      execStartSymbolTimeout, execCodeLockLost, execCodeLockAcquired, execCdrLockLost, execDlCmdWrite, execDlPrbsWrite,
      execRxPrbsWrite, execMaskWrite, execAlignSettingWrite, execCountClear, execTtWindowStart, execTtCommit, execTtCopy,
      execWindowSelectorWrite, execTtWordWrite, execSyncMissing, execSyncWordSend, execMarkerMissing, execFineDelayWrite,
      execSyncSamplePhaseWrite, execSyncEveryWrite, execSyncRoleWrite, execOrbitOffsetWrite, execAlignSrcWrite,
      execFabricRatioWrite, execOrbitLenWrite, execMclkNominalWrite, execTimingPortWrite, execClkSrcWrite, execKeyInstall,
      execLcTokenWrite, execThresholdWrite, execFrEnableWrite, execCsSettingWrite, execSubstitute, execKeyRevoke,
      execArAdvance, execPortSettingWrite, execDbgRead, execCdrLockAcquired, execFrameComplete, execLocalRequest,
      execBistSliceStart, execBistOfflineDone, execUnderpassContention, execSweepFrameRead, execQpPush, execTokenRefill,
      execMarkReceived, execMarkSend, execLinkBlockReceived, execLinkBlockSend, execReplayTimeout, execC0RxPresent,
      execDecisionEmit, execAcceptLaneWord, execAcceptPinSample, execVaultEnableWrite, execSourceAcquired, execSourceReturn,
      execCoreBoot, execMailboxFragmentPush, execCodeBreakpointHit, execDataWatchpointHit, execFwpFire, execSensorRound,
      execMailboxPopAdvance, execCanFrame, execCanBusOff])

theorem step_next {s t : State} (h : step s = .next t) :
    Latch s t ∨ t.mode = .shut ∨ (t.dev = .powerOff ∧ ∃ rest, s.pending = .powerLoss :: rest) := by
  unfold step at h
  split at h
  next i rest hq =>
    have hm : Latch s { s with pending := rest } := .of_mode_eq (mode_mk s rfl rfl)
    by_cases hp : i = .powerLoss
    · subst hp
      exact .inr (.inr ⟨execPowerLoss_dev h, rest, hq⟩)
    · by_cases hs : i = .shutdownEntry
      · subst hs
        exact (execShutdownEntry_next h).imp hm.trans .inl
      · exact .inl (hm.trans (exec_latched hp hs _ t h))
  next =>
    injection h with h
    subst h
    exact .inl (.of_mode_eq (idle_mode s))

theorem quiet_iff {s : State} : Safety.Quiet s ↔ (s.dev = .shutdown → s.mode = .shut) := by
  simp only [Safety.Quiet, State.mode, Mode.shut, Mode.mk.injEq]
  exact forall_congr' fun h => (and_iff_right h).symm

/-- Settles O60: every instruction but the loss of the supply and the entry to SHUTDOWN keeps a device at rest in SHUTDOWN there and
leads no other device into it; the entry leads to rest, and the loss to POWER_OFF. -/
theorem onlyPowerLeavesShutdown : Obligations.OnlyPowerLeavesShutdown := by
  intro s t hq hstep
  rw [quiet_iff] at hq
  rcases step_next hstep with hl | hm | ⟨hd, hp⟩
  · rw [quiet_iff]
    by_cases hs : s.dev = .shutdown
    · have ht : t.mode = .shut := hl.rests (hq hs)
      exact ⟨fun _ => ht, fun _ => .inl (congrArg Mode.dev ht)⟩
    · exact ⟨fun ht => absurd ht (hl.wakes.awake hs), fun h => absurd h hs⟩
  · exact ⟨quiet_iff.2 fun _ => hm, fun _ => .inl (congrArg Mode.dev hm)⟩
  · refine ⟨quiet_iff.2 fun h => ?_, fun _ => .inr ⟨hd, hp⟩⟩
    rw [hd] at h
    cases h

end Sys2Proof.Machine
end

section
/-! O11: DL_SEND takes an MT value at least 2 crossings ahead, one at a time (R100). -/

namespace Sys2Proof.Machine

open Sys2Proof.Safety

/-! ### A port's state under the updates of State -/

@[simp] theorem State.port_setPort_same (s : State) (p : Nat) (x : Port) : (s.setPort p x).port p = x :=
  mget_mset_same ..

theorem State.port_setPort_other (s : State) {p q : Nat} (x : Port) (h : q ≠ p) : (s.setPort p x).port q = s.port q :=
  mget_mset_other _ _ _ _ _ _ h

@[simp] theorem State.port_rset (s : State) (e : El) (u v p : Nat) : (s.rset e u v).port p = s.port p := rfl

/-! ### The moment DL_SEND names, and what its handler says -/

theorem State.namedCrossing_allOnes64 (s : State) : s.namedCrossing allOnes64 = s.crossing + 2 := if_pos rfl

theorem hDlSend_range_eq_true {p v : Nat} {s : State} : (hDlSend p).range v s = true ↔ s.crossing + 2 ≤ s.namedCrossing v :=
  Nat.ble_eq.to_iff

theorem hDlSend_range_eq_false {p v : Nat} {s : State} : (hDlSend p).range v s = false ↔ s.namedCrossing v < s.crossing + 2 := by
  rw [← Bool.not_eq_true, hDlSend_range_eq_true, Nat.not_le]

theorem hDlSend_act_pending {p : Nat} (v : Nat) {s : State} (h : (s.port p).sendAt ≠ none) : (hDlSend p).act v s = .error 6 :=
  if_pos (Option.isSome_iff_ne_none.mpr h)

/-- The send of a port made pending for the crossing that an operand names. -/
def makeSendPending (p v : Nat) (s : State) : State :=
  (s.setPort p { s.port p with sendAt := some (s.namedCrossing v) }).rset .DL_SEND_STATUS p 1

theorem hDlSend_act_free {p : Nat} (v : Nat) {s : State} (h : (s.port p).sendAt = none) :
    (hDlSend p).act v s = .ok (makeSendPending p v s) := by
  simp [hDlSend, makeSendPending, h]

theorem makeSendPending_sendAt (p v : Nat) (s : State) : ((makeSendPending p v s).port p).sendAt = some (s.namedCrossing v) := by
  simp [makeSendPending]

theorem makeSendPending_port_other {p q : Nat} (v : Nat) (s : State) (h : q ≠ p) :
    (makeSendPending p v s).port q = s.port q := by
  simp [makeSendPending, State.port_setPort_other s _ h]

/-- A send made pending changes nothing but the ports and the registers. -/
theorem makeSendPending_frame (p v : Nat) (s : State) : { makeSendPending p v s with ports := s.ports, regs := s.regs } = s := rfl

/-! ### An accepted write of DL_SEND -/

section
variable {w : Route} {p v : Nat} {s : State} (ha : accepts w .DL_SEND p v s = true)
include ha

theorem execDlSend_tooNear (h : s.namedCrossing v < s.crossing + 2) : execDlSend w p v s = refused w 4 s :=
  write_outOfRange ha rfl (hDlSend_range_eq_false.mpr h)

theorem execDlSend_pending (h : s.crossing + 2 ≤ s.namedCrossing v) (hp : (s.port p).sendAt ≠ none) :
    execDlSend w p v s = refused w 6 s :=
  write_refused ha rfl (hDlSend_range_eq_true.mpr h) (hDlSend_act_pending v hp) (by decide)

theorem execDlSend_free (h : s.crossing + 2 ≤ s.namedCrossing v) (hp : (s.port p).sendAt = none) :
    execDlSend w p v s = performed w (makeSendPending p v s) :=
  write_performed ha rfl (hDlSend_range_eq_true.mpr h) (hDlSend_act_free v hp)

end

/-- Settles O11: a crossing named too near lies outside the handler's range, and whether a send is pending decides between its
abort and its effect. -/
theorem dlSendIsJudged : Obligations.DlSendIsJudged := by
  intro w p v s ha
  refine ⟨s.namedCrossing_allOnes64, execDlSend_tooNear ha, execDlSend_pending ha, fun hv hp => ?_⟩
  exact ⟨makeSendPending p v s, execDlSend_free ha hv hp, makeSendPending_sendAt p v s,
    fun _ hq => makeSendPending_port_other v s hq, makeSendPending_frame p v s⟩

end Sys2Proof.Machine
end

section
/-! O57: each refusal with abort 0x05 counts in REFUSED_STATE and leaves a NOTICE record (R359). -/

namespace Sys2Proof.Machine

/-! ### What raising an event reads of the registers, and leaves of them -/

/-- The event that a unit raises, as it arrives at the recorder (R415). -/
def State.raisedEvent (s : State) (severity code unit : Nat) (detail : Bytes) : Event :=
  { severity, area := code / 256, unit, code, repeats := 0, synthetic := false,
    mtValid := s.counting, mtFirst := s.mt, mtLast := s.mt, upMs := Nat.min (s.us / 1000) 0xFFFFFFFF, detail }

/-- The event is discarded, or the recorder takes it. -/
theorem raise_recorder (s : State) (v c u : Nat) (d : Bytes) :
    (s.raise v c u d).recorder =
      if v < s.rget .REC_MIN_SEVERITY then s.recorder else (s.recorder.take (s.raisedEvent v c u d)).1 := by
  unfold State.raise
  split
  · rfl
  · dsimp only
    split <;> rfl

/-- Of the registers, an event sees the least severity recorded and the time since reset alone. -/
theorem raise_recorder_rset (s : State) {e : El} (i x v c u : Nat) (d : Bytes) (hm : e ≠ .REC_MIN_SEVERITY) (ht : e ≠ .UPTIME) :
    ((s.rset e i x).raise v c u d).recorder = (s.raise v c u d).recorder := by
  have hsev : (s.rset e i x).rget .REC_MIN_SEVERITY = s.rget .REC_MIN_SEVERITY := by simp [State.rget_rset, hm.symm]
  have hus : (s.rset e i x).us = s.us := by simp [State.us, State.rget_rset, ht.symm]
  have hev : (s.rset e i x).raisedEvent v c u d = s.raisedEvent v c u d := by
    rw [State.raisedEvent, hus]
    rfl
  rw [raise_recorder, raise_recorder, hsev, hev, State.rset_recorder]

/-- No register but REC_LOST moves when an event is raised. -/
theorem raise_rget (s : State) (v c u : Nat) (d : Bytes) {e : El} (i : Nat) (he : e ≠ .REC_LOST) :
    (s.raise v c u d).rget e i = s.rget e i := by
  unfold State.raise
  split
  · rfl
  · dsimp only
    split
    · simp only [State.rinc, State.radd, State.rget_rset, he, false_and, if_false]
      rfl
    · rfl

/-! ### What a refusal with abort 0x05 leaves -/

/-- What R359 says of a refusal with abort 0x05, but for its answer: the count, the record of the identifier, the controller and the
device state, and what stays. -/
structure RefusalNoted (w : Route) (id : Nat) (s t : State) : Prop where
  count : t.rget .REFUSED_STATE = Nat.min (s.rget .REFUSED_STATE + 1) (El.REFUSED_STATE.modulus - 1)
  record : t.recorder = ((s.rinc .REFUSED_STATE).raise sevNotice 0x3001 2
    (leBytes 4 id ++ leBytes 1 (controllerOf w) ++ leBytes 1 s.dev.code)).recorder
  dev : t.dev = s.dev
  cells : t.cells = s.cells
  planes : t.planes = s.planes
  dists : t.dists = s.dists
  ports : t.ports = s.ports

theorem refusedWith_noted (w : Route) (id : Nat) (s : State) : RefusalNoted w id s (refusedWith w id 5 s) where
  count := (raise_rget _ _ _ _ _ 0 (by decide)).trans (State.rget_radd_same ..)
  record := rfl
  dev := raise_dev ..
  cells := raise_cells ..
  planes := raise_planes ..
  dists := raise_dists ..
  ports := raise_ports ..

/-- A register written before the refusal does not show in what it leaves, unless the refusal reads it. -/
theorem RefusalNoted.of_rset {w : Route} {id : Nat} {s t : State} {e : El} {i x : Nat} (h : RefusalNoted w id (s.rset e i x) t)
    (hr : e ≠ .REFUSED_STATE) (hm : e ≠ .REC_MIN_SEVERITY) (ht : e ≠ .UPTIME) : RefusalNoted w id s t where
  count := h.count.trans (by simp [State.rget_rset, hr.symm])
  record := by
    simp only [h.record, State.rinc, State.radd, raise_recorder_rset _ 0 _ _ _ _ _ (by decide : El.REFUSED_STATE ≠ .REC_MIN_SEVERITY)
      (by decide), raise_recorder_rset s i x _ _ _ _ hm ht, State.rset_dev]
  dev := h.dev
  cells := h.cells
  planes := h.planes
  dists := h.dists
  ports := h.ports

/-- The token that an LC_REQUEST uses up is no part of what its refusal notes. -/
theorem RefusalNoted.consumeToken {w : Route} {id : Nat} {s t : State} (h : RefusalNoted w id s t) (v : Nat) :
    RefusalNoted w id s (consumeToken w v s t) := by
  unfold Machine.consumeToken
  split
  · exact ⟨h.count, h.record, h.dev, h.cells, h.planes, h.dists, h.ports⟩
  · exact h

/-! ### Writes of elements -/

theorem judged_of_error {w : Route} {e : El} {u c : Nat} {v : Option Nat} {h : Handler} {s : State} (hj : judge w e u v h s = .error c) :
    judged w e u v h s = (c, refusedWith w (eidOf e u) c s) := by
  simp only [judged, hj]

theorem judged_noted {w : Route} {e : El} {u : Nat} {v : Option Nat} {h : Handler} {s : State} (h5 : (judged w e u v h s).1 = 5) :
    RefusalNoted w (eidOf e u) s (judged w e u v h s).2 := by
  cases hj : judge w e u v h s with
  | ok t => simp [judged, hj] at h5
  | error c =>
    rw [judged_of_error hj] at h5 ⊢
    subst h5
    exact refusedWith_noted ..

/-! ### Transfers of a data port -/

theorem dpRead_of_refusal {w : Route} {n len c : Nat} {s : State} (h : s.dpRefusal w n len false = some c) :
    dpRead w n len s = (.error c, refusedWith w (eidOf .DP_DATA n) c s) := by
  simp only [dpRead, h]

theorem dpWrite_of_refusal {w : Route} {n c : Nat} {bs : Bytes} {s : State} (h : s.dpRefusal w n bs.length true = some c) :
    dpWrite w n bs s = (some c, refusedWith w (eidOf .DP_DATA n) c (if Nat.blt n 8 then setDpError n false s else s)) := by
  simp only [dpWrite, h]

/-- A write's refusal clears OVERRUN first, which the record does not show. -/
theorem dpWrite_refusal_noted {w : Route} {n : Nat} {bs : Bytes} {s : State} (h : s.dpRefusal w n bs.length true = some 5) :
    RefusalNoted w (eidOf .DP_DATA n) s (dpWrite w n bs s).2 := by
  rw [dpWrite_of_refusal h]
  dsimp only
  split
  · exact (refusedWith_noted w _ (setDpError n false s)).of_rset (by decide) (by decide) (by decide)
  · exact refusedWith_noted ..

theorem dpDamaged_ne_five (plane frame : Nat) (s : State) : (dpDamaged plane frame s).1 ≠ 5 := by
  unfold dpDamaged
  split
  · exact (by decide : (6 : Nat) ≠ 5)
  · exact (by decide : (0x0A : Nat) ≠ 5)

theorem dpPutFrame_ne_five (plane frame : Nat) (data : BitVec 2048) (s : State) : (dpPutFrame plane frame data s).1 ≠ some 5 := by
  unfold dpPutFrame
  extract_lets r d
  split
  · simp
  · simpa using dpDamaged_ne_five plane frame r.2

theorem dpWriteFrame_ne_five (plane frame offset : Nat) (bs : Bytes) (s : State) :
    (dpWriteFrame plane frame offset bs s).1 ≠ some 5 := by
  unfold dpWriteFrame
  split
  · simp
  · split
    · exact dpPutFrame_ne_five _ _ _ _
    · split
      · exact dpPutFrame_ne_five _ _ _ _
      · exact dpPutFrame_ne_five _ _ _ _
      · simpa using dpDamaged_ne_five plane frame s

theorem dpWritePlane_ne_five (plane fuel addr : Nat) (bs : Bytes) (s : State) :
    (dpWritePlane plane fuel addr bs s).1 ≠ some 5 := by
  induction fuel generalizing addr bs s with
  | zero => simp [dpWritePlane]
  | succ fuel ih =>
    cases bs with
    | nil => simp [dpWritePlane]
    | cons b bs =>
      rw [dpWritePlane]
      split
      · next c hc => exact hc ▸ dpWriteFrame_ne_five _ _ _ _ _
      · exact ih _ _ _

/-- A write that may proceed never stops with abort 0x05. -/
theorem dpStore_ne_five (n : Nat) (bs : Bytes) (s : State) : (dpStore n bs s).1 ≠ some 5 := by
  unfold dpStore
  extract_lets addr target
  split
  · split <;> simp
  · exact dpWritePlane_ne_five _ _ _ _ _
  · simp

theorem dpWrite_noted {w : Route} {n : Nat} {bs : Bytes} {s : State} (h5 : (dpWrite w n bs s).1 = some 5) :
    RefusalNoted w (eidOf .DP_DATA n) s (dpWrite w n bs s).2 := by
  cases hr : s.dpRefusal w n bs.length true with
  | none => exact absurd (by simpa only [dpWrite, hr] using h5) (dpStore_ne_five n bs s)
  | some c =>
    obtain rfl : c = 5 := by simpa [dpWrite_of_refusal hr] using h5
    exact dpWrite_refusal_noted hr

/-! ### Writes by identifier -/

/-- The identifier of the element and unit that an EID names is that EID. -/
theorem eidOf_of_elOf {eid u : Nat} {e : El} (h : elOf eid = some (e, u)) : eidOf e u = eid := by
  unfold elOf at h
  extract_lets area entry at h
  split at h
  · next e' hf =>
    obtain ⟨rfl, rfl⟩ : e' = e ∧ entry - e'.info.base = u := by simpa using h
    have hp := List.find?_some hf
    simp only [Bool.and_eq_true, beq_iff_eq, Nat.ble_eq] at hp
    obtain ⟨⟨⟨harea, hel⟩, hbase⟩, _⟩ := hp
    rw [eidOf, Nat.add_sub_cancel' hbase, harea, hel]
    omega
  · cases h

theorem writeBlob_noted {w : Route} {e : El} {u : Nat} {bs : Bytes} {s : State} (h5 : (writeBlob w e u bs s).1 = 5) :
    RefusalNoted w (eidOf e u) s (writeBlob w e u bs s).2 := by
  unfold writeBlob at h5 ⊢
  extract_lets fits r at h5
  split at h5
  · exact judged_noted h5
  · exact judged_noted h5
  · exact judged_noted h5
  · have hr : r.1 = some 5 := by
      cases hc : r.1 with
      | none => simp [hc] at h5
      | some c => simpa [hc] using h5
    exact dpWrite_noted hr
  · exact judged_noted h5

theorem dictWrite_noted {w : Route} {eid : Nat} {bs : Bytes} {s : State} (hv : vendorOpen s w eid = false)
    (h5 : (dictWrite w eid bs s).1 = 5) : RefusalNoted w eid s (dictWrite w eid bs s).2 := by
  unfold dictWrite at h5 ⊢
  simp only [hv, Bool.false_eq_true, if_false] at h5 ⊢
  cases he : elOf eid with
  | none => simp [he] at h5
  | some p =>
    obtain ⟨e, u⟩ := p
    simp only [he] at h5 ⊢
    rw [← eidOf_of_elOf he]
    by_cases hb : e.info.blob = true
    · rw [if_pos hb] at h5 ⊢
      exact writeBlob_noted h5
    · rw [if_neg hb] at h5 ⊢
      by_cases hl : e = .LC_REQUEST
      · rw [if_pos hl] at h5 ⊢
        exact (judged_noted h5).consumeToken _
      · rw [if_neg hl] at h5 ⊢
        exact judged_noted h5

/-! ### The requests, performed at once where none waits -/

section
variable {w : Route} {s : State} (hh : heard s w = true) (hi : s.ctl.waiting = [])
include hh hi

theorem exec_dictWrite_of_idle (eid : Nat) (bs : Bytes) :
    exec (.dictWrite w eid bs) s = .next (answerTo w (dictWrite w eid bs s).1 [] (dictWrite w eid bs s).2) := by
  simp [exec, execDictWrite, hh, inTurn_of_idle hi]

theorem write_of_idle (e : El) (u v : Nat) (h : Handler) :
    write w e u v h s = .next (answerTo w (judged w e u (fit e v) h s).1 [] (judged w e u (fit e v) h s).2) := by
  simp [write, request, hh, inTurn_of_idle hi]

theorem exec_dpDataWrite_of_idle (n : Nat) (bs : Bytes) :
    exec (.dpDataWrite w n bs) s = .next (answerTo w ((dpWrite w n bs s).1.getD 0) [] (dpWrite w n bs s).2) := by
  simp [exec, execDpDataWrite, hh, inTurn_of_idle hi, dpWritten]

theorem exec_dpDataRead_of_refusal {n len c : Nat} (hr : s.dpRefusal w n len false = some c) :
    exec (.dpDataRead w n len) s = .next (answerTo w c [] (refusedWith w (eidOf .DP_DATA n) c s)) := by
  simp [exec, execDpDataRead, hh, inTurn_of_idle hi, dpRead_of_refusal hr, dpWasRead]

end

theorem answerTo_answer {w : Route} (hw : w ≠ .loader) (status : Nat) (data : Bytes) (s : State) :
    (answerTo w status data s).ctl.answer = { controller := controllerOf w, status, data } := by
  cases w with
  | loader => exact absurd rfl hw
  | _ => rfl

/-- Settles O57: on every path an answer of 0x05 comes with the note of a refusal, which the answer leaves as it is. -/
theorem stateRefusalsAreCounted : Obligations.StateRefusalsAreCounted := by
  intro w eid bs s hw hh hi hv noted
  have answered {id : Nat} {t : State} (h : RefusalNoted w id s t) : noted id (answerTo w 5 [] t) := by
    refine ⟨?_, ?_, answerTo_answer hw 5 [] t, ?_, ?_, ?_, ?_, ?_⟩
    · rw [answerTo_rget, h.count]
    · rw [answerTo_recorder, h.record]
    · rw [answerTo_dev, h.dev]
    · rw [answerTo_cells, h.cells]
    · rw [answerTo_planes, h.planes]
    · rw [answerTo_dists, h.dists]
    · rw [answerTo_ports, h.ports]
  refine ⟨fun h5 => ?_, fun e u v h _ hj => ?_, fun n hr => ?_, fun n k hr => ?_⟩
  · exact ⟨_, by rw [exec_dictWrite_of_idle hh hi, h5], answered (dictWrite_noted hv h5)⟩
  · exact ⟨_, by rw [write_of_idle hh hi, judged_of_error hj], answered (refusedWith_noted ..)⟩
  · refine ⟨_, ?_, answered (dpWrite_refusal_noted hr)⟩
    rw [exec_dpDataWrite_of_idle hh hi, dpWrite_of_refusal hr, Option.getD_some]
  · exact ⟨_, exec_dpDataRead_of_refusal hh hi hr, answered (refusedWith_noted ..)⟩

end Sys2Proof.Machine
end

section
/-! The bank words of a device, and that no function of the model but those of the next part changes them. One rule per function, in
the order of the definitions. -/

namespace Sys2Proof.Machine

open Sys2Proof.Safety

/-- The bank words that a state lists, and the places whose unlisted words read as zero (R128, R292). -/
def State.words (s : State) : SMap StoredWord × List Nat := (s.cells, s.mem.zeroed)

/-- An outcome whose next state, where there is one, has the bank words of `s`. -/
def KeptWords (s : State) (o : Host.Outcome State Fault Refusal) : Prop := ∀ t, o = .next t → t.words = s.words

/-- A handler's result whose state, where there is one, has the bank words of `s`. -/
def KeptWordsOk (s : State) (r : Except Nat State) : Prop := ∀ t, r = .ok t → t.words = s.words

/-- A handler whose act leaves the bank words. -/
def Handler.KeepsWords (h : Handler) : Prop := ∀ v s, KeptWordsOk s (h.act v s)

theorem cells_of_words {s t : State} (h : t.words = s.words) : t.cells = s.cells := congrArg Prod.fst h

/-- The canonical form is one of the bank words alone. -/
theorem CellsOk.of_words {s t : State} (h : t.words = s.words) (hs : CellsOk s) : CellsOk t := by
  obtain ⟨hc, hz⟩ := Prod.mk.inj h
  have hb : t.blankWord = s.blankWord := funext fun k => by rw [State.blankWord, State.blankWord, hz]
  rw [CellsOk, hc, hb]
  exact hs

/-! What a function of the state makes of the words is said by `simp`, from the lemmas about the functions it calls. -/

@[simp] theorem words_mk (s : State) {pending regs force deferred fv dev life userRights cut lossHeld lossFrom safeDue resetDue fabricOn
    tb rb ports banks lanes fixed rings mem bist dec eb queues qports trunks load scr dbg run mbox lc freeze power heat dists planes
    frames flops fabric guards dram recorder pinsTaken noted ctl core keeper devName} (hz : mem.zeroed = s.mem.zeroed) :
    State.words
      { pending, regs, force, deferred, fv, dev, life, userRights, cut, lossHeld, lossFrom, safeDue, resetDue, fabricOn, tb, rb, ports,
        cells := s.cells, banks, lanes, fixed, rings, mem, bist, dec, eb, queues, qports, trunks, load, scr, dbg, run, mbox, lc, freeze,
        power, heat, dists, planes, frames, flops, fabric, guards, dram, recorder, pinsTaken, noted, ctl, core, keeper,
        devName } = s.words := by
  simp only [State.words, hz]

@[simp] theorem words_ite (c : Prop) [Decidable c] (s t : State) : (if c then s else t).words = if c then s.words else t.words :=
  apply_ite ..

@[simp] theorem snd_words_ite {α : Type} (c : Prop) [Decidable c] (a b : α × State) :
    (if c then a else b).2.words = if c then a.2.words else b.2.words :=
  apply_ite (fun r : α × State => r.2.words) ..

@[simp] theorem snd_snd_words_ite {α β : Type} (c : Prop) [Decidable c] (a b : α × β × State) :
    (if c then a else b).2.2.words = if c then a.2.2.words else b.2.2.words :=
  apply_ite (fun r : α × β × State => r.2.2.words) ..

@[simp] theorem state_words_ite (c : Prop) [Decidable c] (a b : MapResult) :
    (if c then a else b).state.words = if c then a.state.words else b.state.words :=
  apply_ite (fun r : MapResult => r.state.words) ..

@[simp] theorem foldl_words {α : Type} {f : State → α → State} {l : List α} {s : State} (h : ∀ t a, (f t a).words = t.words) :
    (l.foldl f s).words = s.words := by
  induction l generalizing s with
  | nil => rfl
  | cons a l ih => exact ih.trans (h s a)

@[simp] theorem keptWords_next (s t : State) : KeptWords s (.next t) ↔ t.words = s.words := by simp [KeptWords]

@[simp] theorem keptWords_ite (c : Prop) [Decidable c] (s : State) (a b : Host.Outcome State Fault Refusal) :
    KeptWords s (if c then a else b) ↔ (c → KeptWords s a) ∧ (¬c → KeptWords s b) := by
  split <;> simp [*]

@[simp] theorem keptWordsOk_ok (s t : State) : KeptWordsOk s (.ok t) ↔ t.words = s.words := by simp [KeptWordsOk]

@[simp] theorem keptWordsOk_error (s : State) (c : Nat) : KeptWordsOk s (.error c) := by simp [KeptWordsOk]

@[simp] theorem keptWordsOk_ite (c : Prop) [Decidable c] (s : State) (a b : Except Nat State) :
    KeptWordsOk s (if c then a else b) ↔ (c → KeptWordsOk s a) ∧ (¬c → KeptWordsOk s b) := by
  split <;> simp [*]

@[simp] theorem Handler.mk_keepsWords (allow : Route → Nat → State → Bool) (range : Nat → State → Bool)
    (act : Nat → State → Except Nat State) : Handler.KeepsWords { allow, range, act } ↔ ∀ v s, KeptWordsOk s (act v s) := Iff.rfl

@[simp] theorem Handler.doing_keepsWords (f : Nat → State → Except Nat State) :
    (Handler.doing f).KeepsWords ↔ ∀ v s, KeptWordsOk s (f v s) := Iff.rfl

/-! Writes of the state's parts. -/

@[simp] theorem State.rset_words (s : State) (e : El) (u v : Nat) : (s.rset e u v).words = s.words := by simp [State.rset]

@[simp] theorem State.raise_words (s : State) (e u v : Nat) (b) : (s.raise e u v b).words = s.words := by
  obtain ⟨g, r, h⟩ := raise_frame s e u v b
  simp [h]

@[simp] theorem answerTo_words (w : Route) (c : Nat) (d : Bytes) (s : State) : (answerTo w c d s).words = s.words := by
  cases w <;> rfl

@[simp] theorem State.setLoad_words (s : State) (l : Loader) : (s.setLoad l).words = s.words := rfl

/-! ### Machine/Ops -/

@[simp] theorem State.radd_words (s : State) (e : El) (u n : Nat) : (s.radd e u n).words = s.words := by simp [State.radd]

@[simp] theorem State.rinc_words (s : State) (e : El) (u : Nat) : (s.rinc e u).words = s.words := by simp [State.rinc]

@[simp] theorem State.rclear_words (s : State) (u : Nat) (es : List El) : (s.rclear u es).words = s.words := by simp [State.rclear]

@[simp] theorem State.rdefer_words (s : State) (e : El) (u v : Nat) : (s.rdefer e u v).words = s.words := by simp [State.rdefer]

@[simp] theorem State.enforce_words (s : State) : s.enforce.words = s.words := by simp [State.enforce]

@[simp] theorem State.draw_words (s : State) : s.draw.2.words = s.words := by simp [State.draw]

@[simp] theorem latchIrq_words (k : Nat) (s : State) : (latchIrq k s).words = s.words := by simp [latchIrq]

@[simp] theorem State.raiseLimited_words (s : State) (period key severity code unit : Nat) (detail : Bytes) :
    (s.raiseLimited period key severity code unit detail).words = s.words := by
  unfold State.raiseLimited
  split <;> simp

/-! ### Machine/Traps -/

@[simp] theorem State.setRun_words (s : State) (r : CoreRun) : (s.setRun r).words = s.words := by simp [State.setRun]

@[simp] theorem takeHalt_words (cause trigger : Nat) (broken : Bool) (s : State) :
    (takeHalt cause trigger broken s).words = s.words := by
  simp [takeHalt]

@[simp] theorem takeDeferred_words (broken : Bool) (s : State) : (takeDeferred broken s).words = s.words := by
  unfold takeDeferred
  split <;> simp

@[simp] theorem coreTrap_words (cause value : Nat) (s : State) : (coreTrap cause value s).words = s.words := by simp [coreTrap]

@[simp] theorem accessFault_words (store : Bool) (a : Nat) (s : State) : (accessFault store a s).words = s.words := by
  simp [accessFault]

/-! ### Machine/Responses -/

@[simp] theorem pendIbi_words (mdb first second : Nat) (s : State) : (pendIbi mdb first second s).words = s.words := by
  simp [pendIbi]

@[simp] theorem State.setCtl_words (s : State) (c : Control) : (s.setCtl c).words = s.words := by simp [State.setCtl]

@[simp] theorem State.setI3c_words (s : State) (x : I3cTarget) : (s.setI3c x).words = s.words := by simp [State.setI3c]

@[simp] theorem State.setIvtor_words (s : State) (x : Ivtor) : (s.setIvtor x).words = s.words := by simp [State.setIvtor]

@[simp] theorem ivtorReply_words (r : IvtorReply) (s : State) : (ivtorReply r s).words = s.words := by simp [ivtorReply]

@[simp] theorem respond_words (r : HeldRequest) (status : Nat) (data : Bytes) (s : State) :
    (respond r status data s).words = s.words := by
  unfold respond
  split <;> simp

@[simp] theorem answerFaults_words (n : Nat) (s : State) : (answerFaults n s).words = s.words := by
  fun_induction answerFaults <;> simp [*]

/-! ### Machine/Control -/

@[simp] theorem Handler.store_keepsWords (e : El) (u : Nat) : (Handler.store e u).KeepsWords := by
  simp [Handler.KeepsWords, Handler.store]

theorem judge_words {w : Route} {e : El} {u : Nat} {v : Option Nat} {h : Handler} {s t : State} (hh : h.KeepsWords)
    (hj : judge w e u v h s = .ok t) : t.words = s.words := by
  obtain ⟨n, ha, -⟩ := judge_ok hj
  exact hh n s t ha

@[simp] theorem refusedWith_words (w : Route) (eid code : Nat) (s : State) : (refusedWith w eid code s).words = s.words := by
  simp [refusedWith]

theorem performFront_words {f : State → Nat × Bytes × State} (r : HeldRequest) (rest : List HeldRequest) (s : State)
    (hf : ∀ t, (f t).2.2.words = t.words) : (performFront r rest f s).words = s.words := by
  simp [performFront, hf]

theorem inTurn_words {f : State → Nat × Bytes × State} (w : Route) (asks : HeldRequest → Bool) (s : State)
    (hf : ∀ t, (f t).2.2.words = t.words) : (inTurn w asks f s).words = s.words := by
  unfold inTurn
  split
  · simp [hf]
  · simp [performFront_words, hf]

@[simp] theorem judged_words {h : Handler} (w : Route) (e : El) (u : Nat) (v : Option Nat) (s : State) (hh : h.KeepsWords) :
    (judged w e u v h s).2.words = s.words := by
  unfold judged
  split
  · next hj => exact judge_words hh hj
  · simp

@[simp] theorem request_words {h : Handler} (w : Route) (e : El) (u : Nat) (v : Option Nat) (s : State) (hh : h.KeepsWords) :
    (request w e u v h s).words = s.words := by
  unfold request
  split
  · exact inTurn_words _ _ _ fun t => judged_words w e u v t hh
  · rfl

@[simp] theorem write_keptWords {h : Handler} (w : Route) (e : El) (u v : Nat) (s : State) (hh : h.KeepsWords) :
    KeptWords s (write w e u v h s) := by
  simp [write, hh]

@[simp] theorem releaseLock_words (s : State) : (releaseLock s).words = s.words := by simp [releaseLock]

@[simp] theorem releaseLockOf_words (c : Nat) (s : State) : (releaseLockOf c s).words = s.words := by simp [releaseLockOf]

/-! ### Machine/Words -/

@[simp] theorem ownerInterrupt_words (n cause : Nat) (s : State) : (ownerInterrupt n cause s).words = s.words := by
  simp [ownerInterrupt]

@[simp] theorem correctable_words (n addr syndrome : Nat) (s : State) : (correctable n addr syndrome s).words = s.words := by
  simp [correctable]

@[simp] theorem setRepairs_words (q : Nat) (l : List (Nat × Bool)) (s : State) : (setRepairs q l s).words = s.words := by
  simp [setRepairs]

@[simp] theorem listRepair_words (n addr : Nat) (ue : Bool) (s : State) : (listRepair n addr ue s).words = s.words := by
  simp [listRepair]

@[simp] theorem uncorrectable_words (n addr index router : Nat) (s : State) :
    (uncorrectable n addr index router s).words = s.words := by
  simp [uncorrectable]

@[simp] theorem readStored_words (w : StoredWord) (n addr index router : Nat) (s : State) :
    (readStored w n addr index router s).2.words = s.words := by
  unfold readStored
  dsimp only
  split <;> simp

@[simp] theorem readRowAs_words (w0 w1 : StoredWord) (n row index router : Nat) (s : State) :
    (readRowAs w0 w1 n row index router s).2.words = s.words := by
  simp [readRowAs]

/-! ### Machine/BankRules -/

@[simp] theorem State.setDist_words (s : State) (d : Nat) (x : District) : (s.setDist d x).words = s.words := by
  simp [State.setDist]

@[simp] theorem State.setPlane_words (s : State) (k : Nat) (x : Plane) : (s.setPlane k x).words = s.words := by
  simp [State.setPlane]

@[simp] theorem State.setRing_words (s : State) (q : Nat) (r : Ring) : (s.setRing q r).words = s.words := by simp [State.setRing]

@[simp] theorem State.setBank_words (s : State) (n : Nat) (b : BankPort) : (s.setBank n b).words = s.words := by
  simp [State.setBank]

@[simp] theorem foundWords_words (n row : Nat) (cycle : Option Nat) (s : State) :
    (foundWords n row cycle s).2.words = s.words := by
  unfold foundWords
  induction (s.bank n).prior with
  | nil => rfl
  | cons p l ih =>
    rw [List.foldr_cons]
    split
    · exact ih
    · split
      · exact ih
      · exact ih
      · simpa using ih

@[simp] theorem keepPrior_words (n row : Nat) (cycle : Option Nat) (s : State) : (keepPrior n row cycle s).words = s.words := by
  simp [keepPrior]

@[simp] theorem overlayPrior_words (n row : Nat) (d : BitVec 128) (be : Nat) (s : State) :
    (overlayPrior n row d be s).words = s.words := by
  simp [overlayPrior]

@[simp] theorem poisonPrior_words (n row : Nat) (s : State) : (poisonPrior n row s).words = s.words := by simp [poisonPrior]

@[simp] theorem agePriors_words (s : State) : (agePriors s).words = s.words := by simp [agePriors]

@[simp] theorem readWord_words (n addr index router : Nat) (s : State) : (readWord n addr index router s).2.words = s.words := by
  simp [readWord]

@[simp] theorem readRow_words (n row index router : Nat) (s : State) : (readRow n row index router s).2.words = s.words := by
  simp [readRow]

@[simp] theorem faultOfCore_words (n : Nat) (w : Waiting) (a : Answer) (s : State) : (faultOfCore n w a s).words = s.words := by
  unfold faultOfCore
  split <;> simp

@[simp] theorem answerLane_words (key order : Nat) (a : Answer) (s : State) : (answerLane key order a s).words = s.words := by
  simp [answerLane]

@[simp] theorem issue_words (key : Nat) (s : State) : (issue key s).2.words = s.words := by simp [issue]

@[simp] theorem deliver_words (key : Nat) (s : State) : (deliver key s).words = s.words := by
  unfold deliver
  dsimp only
  split <;> simp

@[simp] theorem issueFixed_words (key : Nat) (s : State) : (issueFixed key s).2.words = s.words := by simp [issueFixed]

@[simp] theorem answerFixed_words (key order : Nat) (a : Answer) (s : State) : (answerFixed key order a s).words = s.words := by
  simp [answerFixed]

@[simp] theorem answerFixedNow_words (key : Nat) (a : Answer) (s : State) : (answerFixedNow key a s).words = s.words := by
  simp [answerFixedNow]

@[simp] theorem denied_words (n : Nat) (r : Requester) (s : State) : (denied n r s).words = s.words := by simp [denied]

@[simp] theorem answerRequest_words (n : Nat) (w : Waiting) (a : Answer) (s : State) :
    (answerRequest n w a s).words = s.words := by
  simp [answerRequest]

@[simp] theorem startHandover_words (n v : Nat) (s : State) : (startHandover n v s).words = s.words := by simp [startHandover]

/-! ### Machine/Vault -/

/-! ### Machine/Pmp -/

@[simp] theorem State.setPmp_words (s : State) (i : Nat) (e : PmpEntry) : (s.setPmp i e).words = s.words := by simp [State.setPmp]

@[simp] theorem putPmpCfg_words (i v : Nat) (s : State) : (putPmpCfg i v s).words = s.words := by simp [putPmpCfg]

@[simp] theorem putPmpAddr_words (i v : Nat) (s : State) : (putPmpAddr i v s).words = s.words := by simp [putPmpAddr]

theorem putPmpCsr_words {n v : Nat} {s t : State} (h : putPmpCsr n v s = some t) : t.words = s.words := by
  unfold putPmpCsr at h
  (repeat' split at h) <;> simp at h <;> simp [← h]

@[simp] theorem State.ran_words (s : State) : s.ran.words = s.words := by simp [State.ran]

theorem coreStores_words {machine : Bool} {l : List CoreStore} {s : State} (h : ∀ x ∈ l, ∀ k t, (x.effect k t).words = t.words) :
    (coreStores machine l s).words = s.words := by
  induction l generalizing s with
  | nil => rfl
  | cons x l ih =>
    have hx := h x (by simp)
    have hl := ih (s := x.effect x.size s) fun y hy => h y (by simp [hy])
    unfold coreStores
    split
    · simp [hx]
    · simp [hl, hx]

theorem wordStore_words {a : Nat} {f : State → State} (hf : ∀ t, (f t).words = t.words) (k : Nat) (t : State) :
    ((wordStore a f).effect k t).words = t.words := by
  simp [wordStore, hf]

@[simp] theorem coreLoad_words {f : State → State} (machine : Bool) (a : Nat) (s : State) (hf : (f s).words = s.words) :
    (coreLoad machine a f s).words = s.words := by
  simp [coreLoad, hf]

/-! ### Machine/Ports -/

@[simp] theorem State.setPort_words (s : State) (p : Nat) (x : Port) : (s.setPort p x).words = s.words := by simp [State.setPort]

@[simp] theorem eachPort_words (f : Port → Port) (s : State) : (eachPort f s).words = s.words := by simp [eachPort]

@[simp] theorem leaveAligned_words (p level : Nat) (s : State) : (leaveAligned p level s).words = s.words := by simp [leaveAligned]

@[simp] theorem loseFramed_words (p level : Nat) (s : State) : (loseFramed p level s).words = s.words := by simp [loseFramed]

@[simp] theorem loseCode_words (p level : Nat) (s : State) : (loseCode p level s).words = s.words := by simp [loseCode]

@[simp] theorem keepEq_words (p : Nat) (s : State) : (keepEq p s).words = s.words := by simp [keepEq]

@[simp] theorem addFree_words (e : El) (u : Nat) (s : State) : (addFree e u s).words = s.words := by simp [addFree]

@[simp] theorem loseCdr_words (p level : Nat) (s : State) : (loseCdr p level s).words = s.words := by simp [loseCdr]

@[simp] theorem settlePort_words (p : Nat) (s : State) : (settlePort p s).words = s.words := by simp [settlePort]

@[simp] theorem settlePorts_words (s : State) : (settlePorts s).words = s.words := by simp [settlePorts]

@[simp] theorem abortWindow_words (p : Nat) (s : State) : (abortWindow p s).words = s.words := by
  unfold abortWindow
  split <;> simp

@[simp] theorem abortWindows_words (s : State) : (abortWindows s).words = s.words := by simp [abortWindows]

@[simp] theorem unqualified_words (s : State) : (unqualified s).words = s.words := by simp [unqualified]

@[simp] theorem judgeTiming_words (s : State) : (judgeTiming s).words = s.words := by simp [judgeTiming]

@[simp] theorem countInWindow_words (p k tag : Nat) (s : State) : (countInWindow p k tag s).words = s.words := by
  unfold countInWindow
  split <;> simp

@[simp] theorem storeFrame_words (p k c : Nat) (fr : StoredFrame) (s : State) : (storeFrame p k c fr s).words = s.words := by
  unfold storeFrame
  split
  · simp
  · split <;> simp

@[simp] theorem placeFrame_words (p k : Nat) (fr : StoredFrame) (s : State) : (placeFrame p k fr s).words = s.words := by
  simp only [placeFrame]
  split
  · split <;> simp
  · simp

@[simp] theorem countReplaced_words (p k : Nat) (fr : StoredFrame) (s : State) : (countReplaced p k fr s).words = s.words := by
  simp [countReplaced]

@[simp] theorem countRuns_words (p : Nat) (good : Bool) (s : State) : (countRuns p good s).words = s.words := by simp [countRuns]

@[simp] theorem noteOrbit_words (p phase : Nat) (flag : Bool) (s : State) : (noteOrbit p phase flag s).words = s.words := by
  simp [noteOrbit]

@[simp] theorem displace_words (p source : Nat) (s : State) : (displace p source s).words = s.words := by simp [displace]

@[simp] theorem presentPort_words (p c : Nat) (s : State) : (presentPort p c s).words = s.words := by
  unfold presentPort
  dsimp only
  split <;> simp

@[simp] theorem openAlign_words (p first : Nat) (last entry : Option Nat) (s : State) :
    (openAlign p first last entry s).words = s.words := by
  simp [openAlign]

@[simp] theorem hAlignReq_keepsWords (p : Nat) : (hAlignReq p).KeepsWords := by simp [hAlignReq]

@[simp] theorem closeAlign_words (d result q : Nat) (s : State) : (closeAlign d result q s).words = s.words := by
  unfold closeAlign
  split <;> simp

@[simp] theorem endAlign_words (p : Nat) (s : State) : (endAlign p s).words = s.words := by simp [endAlign]

@[simp] theorem execAlignWindowEnd_keptWords (port : Nat) (s : State) : KeptWords s (execAlignWindowEnd port s) := by
  unfold execAlignWindowEnd
  split <;> simp

@[simp] theorem alignAtBoundary_words (p : Nat) (s : State) : (alignAtBoundary p s).words = s.words := by
  unfold alignAtBoundary
  dsimp only
  split <;> simp

@[simp] theorem deskewFlush_words (s : State) : (deskewFlush s).words = s.words := by simp [deskewFlush]

@[simp] theorem storeSetting_words (e : El) (p v : Nat) (s : State) : (storeSetting e p v s).words = s.words := by
  simp [storeSetting]

@[simp] theorem disablePort_words (p : Nat) (s : State) : (disablePort p s).words = s.words := by simp [disablePort]

@[simp] theorem silence_words (p : Nat) (s : State) : (silence p s).words = s.words := by simp [silence]

@[simp] theorem hPortSetting_keepsWords (e : PortSetting) (p : Nat) : (hPortSetting e p).KeepsWords := by
  unfold hPortSetting
  split <;> simp

@[simp] theorem hAlignSetting_keepsWords (e : AlignSetting) (p : Nat) : (hAlignSetting e p).KeepsWords := by
  simp [Handler.KeepsWords, hAlignSetting]

@[simp] theorem hMask_keepsWords (p : Nat) : (hMask p).KeepsWords := by simp [hMask]

@[simp] theorem hRxPrbs_keepsWords (p : Nat) : (hRxPrbs p).KeepsWords := by simp [hRxPrbs]

@[simp] theorem hDlPrbs_keepsWords (p : Nat) : (hDlPrbs p).KeepsWords := by simp [hDlPrbs]

@[simp] theorem hDlCmd_keepsWords (p : Nat) : (hDlCmd p).KeepsWords := by
  simp [Handler.KeepsWords, hDlCmd]

@[simp] theorem hDlSend_keepsWords (p : Nat) : (hDlSend p).KeepsWords := by simp [hDlSend]

/-! ### Machine/Rings -/

@[simp] theorem setDepth_words (q : Nat) (s : State) : (setDepth q s).words = s.words := by simp [setDepth]

@[simp] theorem skipStripe_words (q t : Nat) (s : State) : (skipStripe q t s).words = s.words := by simp [skipStripe]

@[simp] theorem seekStripe_words (q fuel stripe : Nat) (s : State) : (seekStripe q fuel stripe s).2.words = s.words := by
  fun_induction seekStripe <;> simp [*]

@[simp] theorem openStripe_words (q t c : Nat) (s : State) : (openStripe q t c s).words = s.words := by simp [openStripe]

@[simp] theorem starve_words (q c : Nat) (s : State) : (starve q c s).words = s.words := by simp [starve]

@[simp] theorem allocate_words (q c : Nat) (s : State) : (allocate q c s).words = s.words := by
  unfold allocate
  dsimp only
  (repeat' split) <;> simp

@[simp] theorem judgeStarved_words (q c : Nat) (s : State) : (judgeStarved q c s).words = s.words := by
  unfold judgeStarved
  dsimp only
  split
  · simp
  · split <;> simp

@[simp] theorem ringWriter_words (q t : Nat) (s : State) : (ringWriter q t s).words = s.words := by simp [ringWriter]

@[simp] theorem storeRows_words (q stripe rec_ i w : Nat) (rows : List (BitVec 128)) (s : State) :
    (storeRows q stripe rec_ i w rows s).words = s.words := by
  fun_induction storeRows <;> simp [*]

@[simp] theorem storeEntry_words (p c : Nat) (words : List (BitVec 64)) (s : State) :
    (storeEntry p c words s).words = s.words := by
  simp only [storeEntry]
  split
  · split <;> simp
  · simp

@[simp] theorem discardRing_words (q : Nat) (s : State) : (discardRing q s).words = s.words := by simp [discardRing]

@[simp] theorem enableRing_words (q first n : Nat) (s : State) : (enableRing q first n s).words = s.words := by simp [enableRing]

@[simp] theorem disableRing_words (q : Nat) (s : State) : (disableRing q s).words = s.words := by simp [disableRing]

@[simp] theorem hRingEnable_keepsWords (q : Nat) : (hRingEnable q).KeepsWords := by
  intro v s
  simp only [hRingEnable, Handler.doing]
  (repeat' split) <;> simp

@[simp] theorem hRingGeometry_keepsWords (e : RingGeometry) (q : Nat) : (hRingGeometry e q).KeepsWords := by
  intro v s
  simp only [hRingGeometry, Handler.doing]
  (repeat' split) <;> simp

@[simp] theorem startRing_words (q : Nat) (s : State) : (startRing q s).words = s.words := by simp [startRing]

@[simp] theorem resetRing_words (q : Nat) (s : State) : (resetRing q s).words = s.words := by simp [resetRing]

@[simp] theorem stepRing_words (first last q : Nat) (s : State) : (stepRing first last q s).words = s.words := by simp [stepRing]

/-! ### Machine/Banks -/

@[simp] theorem answerClass_words (key cls : Nat) (a : Answer) (s : State) : (answerClass key cls a s).words = s.words := by
  simp [answerClass]

@[simp] theorem enqueue_words (n : Nat) (r : Requester) (q : MemRequest) (tag : Nat) (s : State) :
    (enqueue n r q tag s).words = s.words := by
  simp [enqueue]

@[simp] theorem badRequest_words (d n : Nat) (s : State) : (badRequest d n s).words = s.words := by simp [badRequest]

@[simp] theorem execStoreChannelRequest_keptWords (district : Nat) (word : BitVec 32) (s : State) :
    KeptWords s (execStoreChannelRequest district word s) := by
  unfold execStoreChannelRequest
  dsimp only
  (repeat' split) <;> simp

@[simp] theorem notedRan_words (src : Master) (s : State) : (notedRan src s).words = s.words := by
  unfold notedRan
  split <;> simp

@[simp] theorem execPlazaRequest_keptWords (src : Master) (word : BitVec 40) (data : BitVec 128) (enables : BitVec 16) (s : State) :
    KeptWords s (execPlazaRequest src word data enables s) := by
  unfold execPlazaRequest
  dsimp only
  (repeat' split) <;> simp

@[simp] theorem wakeOnAccess_words (n : Nat) (s : State) : (wakeOnAccess n s).words = s.words := by simp [wakeOnAccess]

@[simp] theorem execFixedResponse_keptWords (district chan : Nat) (s : State) : KeptWords s (execFixedResponse district chan s) := by
  unfold execFixedResponse
  dsimp only
  split <;> simp

@[simp] theorem hOwner_keepsWords (n : Nat) : (hOwner n).KeepsWords := by
  intro v s
  simp only [hOwner]
  split <;> simp

@[simp] theorem endHandover_words (n : Nat) (s : State) : (endHandover n s).words = s.words := by simp [endHandover]

@[simp] theorem startWake_words (n : Nat) (s : State) : (startWake n s).words = s.words := by simp [startWake]

@[simp] theorem startSleep_words (n : Nat) (s : State) : (startSleep n s).words = s.words := by
  unfold startSleep
  split <;> simp

@[simp] theorem hPower_keepsWords (n : Nat) : (hPower n).KeepsWords := by simp [hPower]

@[simp] theorem endWake_words (n : Nat) (s : State) : (endWake n s).words = s.words := by simp [endWake]

@[simp] theorem wakeForAccess_words (n : Nat) (s : State) : (wakeForAccess n s).words = s.words := by simp [wakeForAccess]

@[simp] theorem banksReady_words (banks : List Nat) (s : State) : (banksReady banks s).2.words = s.words := by simp [banksReady]

@[simp] theorem fallAsleep_words (n : Nat) (s : State) : (fallAsleep n s).words = s.words := by simp [fallAsleep]

@[simp] theorem settleHandover_words (n : Nat) (r : Requester) (s : State) : (settleHandover n r s).words = s.words := by
  simp [settleHandover]

@[simp] theorem hReadShare_keepsWords (n : Nat) : (hReadShare n).KeepsWords := by simp [hReadShare]

/-! ### Machine/Keeper -/

@[simp] theorem State.setKeeper_words (s : State) (k : Keeper) : (s.setKeeper k).words = s.words := by simp [State.setKeeper]

@[simp] theorem State.keeperState_words (s : State) (v : Nat) : (s.keeperState v).words = s.words := by simp [State.keeperState]

@[simp] theorem countReads_words (ns : List Nat) (s : State) : (countReads ns s).words = s.words := by simp [countReads]

@[simp] theorem writeSector_words (sector : Nat) (data : BitVec 512) (s : State) :
    (writeSector sector data s).words = s.words := by
  simp [writeSector]

@[simp] theorem relocate_words (home id len value gen : Nat) (s : State) : (relocate home id len value gen s).words = s.words := by
  unfold relocate
  split <;> simp

theorem writeValue_words {home id len value : Nat} {s t : State} (h : writeValue home id len value s = .ok t) :
    t.words = s.words := by
  unfold writeValue at h
  extract_lets sec gen u at h
  split at h
  · cases h
  split at h
  · cases h
  cases h
  simp [u]

theorem keepValue_words {e : El} {u v : Nat} {s t : State} (h : keepValue e u v s = .ok t) : t.words = s.words := by
  unfold keepValue at h
  split at h
  · cases h
  · next hw =>
    cases h
    simp [writeValue_words hw]

@[simp] theorem hKeep_keepsWords (e : El) (u : Nat) : (hKeep e u).KeepsWords := fun _ _ _ h => keepValue_words h

theorem writeCounter_words {k len v : Nat} {s t : State} (h : writeCounter k len v s = .ok t) : t.words = s.words := by
  unfold writeCounter at h
  extract_lets a ga gb home sec gen u at h
  split at h
  · cases h
  split at h
  · cases h
  split at h
  · cases h
  cases h
  simp [u]

@[simp] theorem bumpCounter_words (k : Nat) (e : El) (s : State) : (bumpCounter k e s).words = s.words := by
  unfold bumpCounter
  extract_lets v
  split
  · next h => simp [writeCounter_words h]
  · simp

@[simp] theorem bootValue_words (e : El) (u : Nat) (s : State) : (bootValue e u s).words = s.words := by simp [bootValue]

@[simp] theorem bootName_words (s : State) : (bootName s).words = s.words := by simp [bootName]

@[simp] theorem bootCounter_words (k : Nat) (s : State) : (bootCounter k s).words = s.words := by
  unfold bootCounter
  split <;> simp

@[simp] theorem bootPool_words (s : State) : (bootPool s).words = s.words := by simp [bootPool]

@[simp] theorem bootKeeper_words (s : State) : (bootKeeper s).words = s.words := by simp [bootKeeper]

@[simp] theorem loseKeeper_words (s : State) : (loseKeeper s).words = s.words := by simp [loseKeeper]

@[simp] theorem keeperClock_words (s : State) : (keeperClock s).words = s.words := by
  unfold keeperClock
  split <;> simp

theorem keepKey_words {k : Nat} {bytes : Bytes} {s t : State} (h : keepKey k bytes s = .ok t) : t.words = s.words := by
  simp only [keepKey] at h
  split at h <;> cases h
  simp

/-- A key kept, and the keeper changed after it. -/
theorem keepKey_map_words {k : Nat} {bytes : Bytes} {g : State → State} {s t : State} (hg : ∀ u, (g u).words = u.words)
    (h : (keepKey k bytes s).map g = .ok t) : t.words = s.words := by
  cases hk : keepKey k bytes s with
  | error c => rw [hk] at h; cases h
  | ok u =>
    rw [hk] at h
    cases h
    rw [hg, keepKey_words hk]

@[simp] theorem State.setKwStatus_words (s : State) (v : Nat) : (s.setKwStatus v).words = s.words := by simp [State.setKwStatus]

@[simp] theorem startKeeperWrite_words (v : Nat) (s : State) : (startKeeperWrite v s).words = s.words := by simp [startKeeperWrite]

@[simp] theorem setKwSector_words (n : Nat) (s : State) : (setKwSector n s).words = s.words := by simp [setKwSector]

@[simp] theorem setKwData_words (data : BitVec 512) (k : Nat) (s : State) : (setKwData data k s).words = s.words := by
  simp [setKwData]

@[simp] theorem commitSlot_words (slot page : Nat) (s : State) : (commitSlot slot page s).words = s.words := by simp [commitSlot]

@[simp] theorem endKeeperWrite_words (s : State) : (endKeeperWrite s).words = s.words := by
  unfold endKeeperWrite
  split
  · simp
  · split <;> simp

/-! ### Machine/TimeTable -/

@[simp] theorem hTtWord_keepsWords (k : Nat) : (hTtWord k).KeepsWords := by simp [hTtWord]

@[simp] theorem hTtCopy_keepsWords : hTtCopy.KeepsWords := by simp [hTtCopy]

@[simp] theorem hTtCommit_keepsWords : hTtCommit.KeepsWords := by simp [hTtCommit]

@[simp] theorem ttRefuse_words (entry : Nat) (s : State) : (ttRefuse entry s).words = s.words := by simp [ttRefuse]

@[simp] theorem execTtValidationDone_keptWords (s : State) : KeptWords s (execTtValidationDone s) := by
  unfold execTtValidationDone
  split
  · simp
  · split <;> simp

@[simp] theorem countPause_words (q which : Nat) (s : State) : (countPause q which s).words = s.words := by simp [countPause]

@[simp] theorem countPauses_words (s : State) : (countPauses s).words = s.words := by simp [countPauses]

/-! ### Machine/Integrity -/

@[simp] theorem hInvalidate_keepsWords : hInvalidate.KeepsWords := by simp [hInvalidate]

@[simp] theorem hLbLeak_keepsWords : hLbLeak.KeepsWords := by simp [hLbLeak]

@[simp] theorem hLbThreshold_keepsWords : hLbThreshold.KeepsWords := by simp [hLbThreshold]

@[simp] theorem endPass_words (q : Nat) (s : State) : (endPass q s).words = s.words := by simp [endPass]

@[simp] theorem nextRow_words (q : Nat) (s : State) : (nextRow q s).words = s.words := by simp [nextRow]

@[simp] theorem hScrubEnable_keepsWords : hScrubEnable.KeepsWords := by simp [hScrubEnable]

@[simp] theorem changeSlot_words (slot page : Nat) (s : State) : (changeSlot slot page s).words = s.words := by simp [changeSlot]

@[simp] theorem hRtRetire_keepsWords : hRtRetire.KeepsWords := by
  intro v s
  simp only [hRtRetire]
  (repeat' split) <;> simp

@[simp] theorem hRtUnretire_keepsWords : hRtUnretire.KeepsWords := by
  intro v s
  simp only [hRtUnretire]
  (repeat' split) <;> simp

@[simp] theorem bootRetirement_words (s : State) : (bootRetirement s).words = s.words := by simp [bootRetirement]

@[simp] theorem startMove_words (q b spare : Nat) (back : Bool) (s : State) : (startMove q b spare back s).words = s.words := by
  simp [startMove]

theorem State.substitute_words {s t : State} {q b : Nat} (h : s.substitute q b = some t) : t.words = s.words := by
  simp only [State.substitute] at h
  split at h
  · split at h
    · cases h
    · injection h with h
      simp [← h]
  · cases h

@[simp] theorem copyEvents_words (n addr index : Nat) (w : StoredWord) (s : State) :
    (copyEvents n addr index w s).words = s.words := by
  unfold copyEvents
  dsimp only
  split <;> simp

@[simp] theorem dropRetired_words (n : Nat) (s : State) : (dropRetired n s).words = s.words := by simp [dropRetired]

@[simp] theorem keepSpares_words (q : Nat) (s : State) : (keepSpares q s).words = s.words := by simp [keepSpares]

@[simp] theorem hUnsubstitute_keepsWords (q : Nat) : (hUnsubstitute q).KeepsWords := by simp [hUnsubstitute]

@[simp] theorem hFlipArm_keepsWords : hFlipArm.KeepsWords := by simp [hFlipArm]

/-! ### Machine/Bist -/

@[simp] theorem closeTest_words (s : State) : (closeTest s).words = s.words := by simp [closeTest]

@[simp] theorem beyondRecord_words (s : State) : (beyondRecord s).words = s.words := by simp [beyondRecord]

@[simp] theorem endTest_words (s : State) : (endTest s).words = s.words := by
  unfold endTest
  extract_lets n b kind u v y w x
  have hw : w.words = s.words := by simp [w, y, v, u]
  have hx : x.words = s.words := by
    unfold x
    split
    · split
      · next h => simp [State.substitute_words h, hw]
      · simp [hw]
    · exact hw
  simp [hx]

@[simp] theorem keepRepair_words (id : Nat) (rows cols : List Nat) (s : State) : (keepRepair id rows cols s).words = s.words := by
  unfold keepRepair
  split <;> simp

@[simp] theorem spareRecord_words (target address spare : Nat) (s : State) :
    (spareRecord target address spare s).words = s.words := by
  simp [spareRecord]

@[simp] theorem allocateSpares_words (fails : List (Nat × Nat)) (s : State) : (allocateSpares fails s).words = s.words := by
  simp [allocateSpares]

@[simp] theorem bootRepairs_words (s : State) : (bootRepairs s).words = s.words := by simp [bootRepairs]

@[simp] theorem seedTest_words (s : State) : (seedTest s).words = s.words := by simp [seedTest]

@[simp] theorem beginTest_words (s : State) : (beginTest s).words = s.words := by
  simp only [beginTest]
  split
  · split <;> simp
  · simp

@[simp] theorem hBistGo_keepsWords : hBistGo.KeepsWords := by
  intro v s
  simp only [hBistGo]
  (repeat' split) <;> simp

@[simp] theorem hBistSetting_keepsWords (e : El) : (hBistSetting e).KeepsWords := by simp [hBistSetting]

@[simp] theorem clockReads_words (ops : List MarchOp) (fails : List BistRead) (s : State) :
    (clockReads ops fails s).words = s.words := by
  unfold clockReads
  split <;> simp

@[simp] theorem completeTest_words (s : State) : (completeTest s).words = s.words := by simp [completeTest]

@[simp] theorem showSignature_words (s : State) : (showSignature s).words = s.words := by simp [showSignature]

@[simp] theorem setPhase_words (p : Option SlicePhase) (s : State) : (setPhase p s).words = s.words := by simp [setPhase]

@[simp] theorem nextSlice_words (s : State) : (nextSlice s).words = s.words := by simp [nextSlice]

@[simp] theorem resetDescriptors_words (s : State) : (resetDescriptors s).words = s.words := by simp [resetDescriptors]

@[simp] theorem returnBank_words (n : Nat) (s : State) : (returnBank n s).words = s.words := by simp [returnBank]

@[simp] theorem endOffline_words (s : State) : (endOffline s).words = s.words := by
  unfold endOffline
  extract_lets n u v
  have hv : v.words = s.words := by
    unfold v
    split <;> simp [u]
  simp [hv]

@[simp] theorem cutShort_words (s : State) : (cutShort s).2.words = s.words := by simp [cutShort]

/-! ### Machine/Fabric -/

@[simp] theorem State.setFlop_words (s : State) (key : Nat) (v : BitVec 65536) : (s.setFlop key v).words = s.words := by
  simp [State.setFlop]

/-! ### Machine/FabricCycle -/

@[simp] theorem dropAlerts_words (s : State) : (dropAlerts s).words = s.words := by simp [dropAlerts]

@[simp] theorem fabricCycle_words (s : State) : (fabricCycle s).words = s.words := by simp [fabricCycle]

@[simp] theorem fabricCycles_words (n : Nat) (s : State) : (fabricCycles n s).words = s.words := by
  fun_induction fabricCycles <;> simp [*]

@[simp] theorem reportRam_words (d : Nat) (f : Nat × List (Nat × Nat)) (s : State) : (reportRam d f s).words = s.words := by
  simp [reportRam]

@[simp] theorem reportFound_words (s : State) : (reportFound s).words = s.words := by simp [reportFound]

@[simp] theorem runTo_words (phase : Nat) (s : State) : (runTo phase s).words = s.words := by simp [runTo]

@[simp] theorem strikeRam_words (draw : Nat) (s : State) : (strikeRam draw s).words = s.words := by
  unfold strikeRam
  split <;> simp

@[simp] theorem endCycles_words (s : State) : (endCycles s).words = s.words := by simp [endCycles]

/-! ### Machine/Contexts -/

@[simp] theorem switchFlops_words (d j k : Nat) (s : State) : (switchFlops d j k s).words = s.words := by simp [switchFlops]

@[simp] theorem initShadow_words (plane : Nat) (s : State) : (initShadow plane s).words = s.words := by simp [initShadow]

@[simp] theorem noteWritten_words (plane : Nat) (s : State) : (noteWritten plane s).words = s.words := by simp [noteWritten]

@[simp] theorem noteSwitch_words (d j k phase : Nat) (p : Nat × LedgerPath) (s : State) :
    (noteSwitch d j k phase p s).words = s.words := by
  simp [noteSwitch]

@[simp] theorem switchTo_words (d k phase : Nat) (s : State) : (switchTo d k phase s).words = s.words := by simp [switchTo]

@[simp] theorem settleContext_words (d phase : Nat) (s : State) : (settleContext d phase s).words = s.words := by
  simp [settleContext]

@[simp] theorem openCtx_words (entry d : Nat) (s : State) : (openCtx entry d s).words = s.words := by simp [openCtx]

@[simp] theorem closeCtx_words (entry phase d : Nat) (s : State) : (closeCtx entry phase d s).words = s.words := by simp [closeCtx]

@[simp] theorem dropWindows_words (d : Nat) (s : State) : (dropWindows d s).words = s.words := by simp [dropWindows]

@[simp] theorem settleAtStart_words (d : Nat) (s : State) : (settleAtStart d s).words = s.words := by simp [settleAtStart]

@[simp] theorem hBaseNext_keepsWords (w : Route) (d : Nat) : (hBaseNext w d).KeepsWords := by simp [hBaseNext]

@[simp] theorem hBaseAt_keepsWords (d : Nat) : (hBaseAt d).KeepsWords := by simp [hBaseAt]

@[simp] theorem changeBase_words (d : Nat) (s : State) : (changeBase d s).words = s.words := by
  unfold changeBase
  split <;> simp

@[simp] theorem leaveGroup_words (d : Nat) (s : State) : (leaveGroup d s).words = s.words := by simp [leaveGroup]

@[simp] theorem joinGroup_words (d m : Nat) (s : State) : (joinGroup d m s).words = s.words := by simp [joinGroup]

@[simp] theorem hLockGroup_keepsWords (d : Nat) : (hLockGroup d).KeepsWords := by
  intro v s
  simp only [hLockGroup]
  (repeat' split) <;> simp

@[simp] theorem captureMissed_words (d : Nat) (s : State) : (captureMissed d s).words = s.words := by simp [captureMissed]

@[simp] theorem captureNow_words (d : Nat) (s : State) : (captureNow d s).words = s.words := by simp [captureNow]

@[simp] theorem hCapture_keepsWords (d : Nat) : (hCapture d).KeepsWords := by simp [hCapture]

@[simp] theorem State.setGuard_words (s : State) (q u : Nat) (g : Guard) : (s.setGuard q u g).words = s.words := by
  simp [State.setGuard]

@[simp] theorem hUpClear_keepsWords (d : Nat) : (hUpClear d).KeepsWords := by simp [hUpClear]

@[simp] theorem reenable_words (key : Nat) (s : State) : (reenable key s).words = s.words := by simp [reenable]

@[simp] theorem frameVerified_words (plane frame : Nat) (s : State) : (frameVerified plane frame s).words = s.words := by
  simp [frameVerified]

@[simp] theorem guardsReloaded_words (plane : Nat) (active : Bool) (s : State) :
    (guardsReloaded plane active s).words = s.words := by
  simp [guardsReloaded]

/-! ### Machine/Frames -/

@[simp] theorem State.setFrame_words (s : State) (plane frame : Nat) (v : BitVec 2093) :
    (s.setFrame plane frame v).words = s.words := by
  simp [State.setFrame]

@[simp] theorem setFrameCells_words (plane frame : Nat) (v : BitVec 2093) (s : State) :
    (setFrameCells plane frame v s).words = s.words := by
  unfold setFrameCells
  dsimp only
  split <;> simp

@[simp] theorem writeFrame_words (plane frame : Nat) (data : BitVec 2048) (s : State) :
    (writeFrame plane frame data s).words = s.words := by
  simp [writeFrame]

@[simp] theorem writeTwice_words (stands : State → Bool) (plane frame : Nat) (data : BitVec 2048) (s : State) :
    (writeTwice stands plane frame data s).2.words = s.words := by
  simp [writeTwice]

@[simp] theorem writeChecked_words (plane frame : Nat) (data : BitVec 2048) (s : State) :
    (writeChecked plane frame data s).2.words = s.words := by
  simp [writeChecked]

@[simp] theorem writeVerified_words (plane frame : Nat) (data : BitVec 2048) (s : State) :
    (writeVerified plane frame data s).2.words = s.words := by
  simp [writeVerified]

@[simp] theorem newTicket_words (s : State) : (newTicket s).2.words = s.words := by simp [newTicket]

@[simp] theorem setTicket_words (t v : Nat) (s : State) : (setTicket t v s).words = s.words := by
  simp [setTicket, State.words]

@[simp] theorem setTickets_words (ts : List Nat) (v : Nat) (s : State) : (setTickets ts v s).words = s.words := by
  simp [setTickets]

@[simp] theorem State.setScr_words (s : State) (c : CfgScrub) : (s.setScr c).words = s.words := by simp [State.setScr]

@[simp] theorem markRepair_words (plane : Nat) (s : State) : (markRepair plane s).words = s.words := by simp [markRepair]

@[simp] theorem enqueueRepair_words (plane frame rank : Nat) (s : State) :
    (enqueueRepair plane frame rank s).2.words = s.words := by
  unfold enqueueRepair
  split <;> simp

@[simp] theorem promoteRepairs_words (s : State) : (promoteRepairs s).words = s.words := by simp [promoteRepairs]

@[simp] theorem dropQueued_words (plane : Nat) (s : State) : (dropQueued plane s).2.words = s.words := by simp [dropQueued]

@[simp] theorem supersede_words (plane : Nat) (s : State) : (supersede plane s).words = s.words := by simp [supersede]

@[simp] theorem settleSuperseded_words (plane v : Nat) (s : State) : (settleSuperseded plane v s).words = s.words := by
  simp [settleSuperseded]

@[simp] theorem voidPlane_words (plane : Nat) (s : State) : (voidPlane plane s).words = s.words := by simp [voidPlane]

@[simp] theorem emptyPlane_words (plane : Nat) (s : State) : (emptyPlane plane s).words = s.words := by simp [emptyPlane]

@[simp] theorem keepStopped_words (plane : Nat) (s : State) : (keepStopped plane s).words = s.words := by simp [keepStopped]

@[simp] theorem holdDistrict_words (d : Nat) (s : State) : (holdDistrict d s).words = s.words := by simp [holdDistrict]

@[simp] theorem stopDistrict_words (d : Nat) (s : State) : (stopDistrict d s).words = s.words := by simp [stopDistrict]

@[simp] theorem releaseFrom_words (d : Nat) (s : State) : (releaseFrom d s).words = s.words := by simp [releaseFrom]

/-! ### Machine/CfgScrub -/

@[simp] theorem raiseRank_words (plane frame : Nat) (s : State) : (raiseRank plane frame s).words = s.words := by simp [raiseRank]

@[simp] theorem handOverFrame_words (f : Nat × Nat) (s : State) : (handOverFrame f s).words = s.words := by
  unfold handOverFrame
  split
  · simp
  · split <;> simp

@[simp] theorem setCopy_words (e : El) (c v : Nat) (s : State) : (setCopy e c v s).words = s.words := by simp [setCopy]

@[simp] theorem setCopies_words (e : El) (v : Nat) (s : State) : (setCopies e v s).words = s.words := by simp [setCopies]

@[simp] theorem refreshTriple_words (s : State) : (refreshTriple s).words = s.words := by simp [refreshTriple]

@[simp] theorem startPass_words (s : State) : (startPass s).words = s.words := by simp [startPass]

@[simp] theorem finishPass_words (s : State) : (finishPass s).words = s.words := by simp [finishPass]

@[simp] theorem selfUpset_words (copy : Nat) (s : State) : (selfUpset copy s).words = s.words := by simp [selfUpset]

@[simp] theorem correctTriple_words (e : El) (s : State) : (correctTriple e s).words = s.words := by
  unfold correctTriple
  dsimp only
  split <;> simp

@[simp] theorem findTriple_words (vote : CopyVote) (s : State) : (findTriple vote s).words = s.words := by
  unfold findTriple
  (repeat' split) <;> simp

@[simp] theorem enterCheckOnly_words (s : State) : (enterCheckOnly s).words = s.words := by simp [enterCheckOnly]

@[simp] theorem votedWrite_words {act : State → State} (vote : CopyVote) (s : State) (ha : ∀ t, (act t).words = t.words) :
    (votedWrite vote act s).2.words = s.words := by
  unfold votedWrite
  split
  · rfl
  · split <;> simp [ha]

@[simp] theorem correctFrame_words (plane frame : Nat) (fixed : BitVec 2093) (s : State) :
    (correctFrame plane frame fixed s).2.words = s.words := by
  simp [correctFrame]

@[simp] theorem correctOrRepair_words (plane frame : Nat) (fixed : BitVec 2093) (s : State) :
    (correctOrRepair plane frame fixed s).words = s.words := by
  simp [correctOrRepair]

@[simp] theorem sweepFrame_words (plane frame : Nat) (vote : CopyVote) (s : State) :
    (sweepFrame plane frame vote s).words = s.words := by
  unfold sweepFrame
  split <;> simp

@[simp] theorem dropSlot_words (plane : Nat) (s : State) : (dropSlot plane s).words = s.words := by simp [dropSlot]

@[simp] theorem refill_words (plane : Nat) (s : State) : (refill plane s).words = s.words := by simp [refill]

@[simp] theorem takeSlot_words (plane : Nat) (s : State) : (takeSlot plane s).words = s.words := by
  unfold takeSlot
  split
  · simp
  · split
    · simp
    · split <;> simp

@[simp] theorem settleRepairs_words (plane : Nat) (s : State) : (settleRepairs plane s).words = s.words := by simp [settleRepairs]

@[simp] theorem failRepair_words (e : RepairEntry) (inService : Bool) (s : State) :
    (failRepair e inService s).words = s.words := by
  simp [failRepair]

@[simp] theorem beginRepair_words (e : RepairEntry) (source : Nat) (data : BitVec 2048) (inService : Bool) (s : State) :
    (beginRepair e source data inService s).words = s.words := by
  simp [beginRepair]

@[simp] theorem repairFromImage_words (e : RepairEntry) (image : Bytes) (inService : Bool) (s : State) :
    (repairFromImage e image inService s).words = s.words := by
  unfold repairFromImage
  split
  · simp
  · split
    · simp
    · split <;> simp

@[simp] theorem writeRepair_words (b : Repairing) (s : State) : (writeRepair b s).words = s.words := by simp [writeRepair]

@[simp] theorem execRepairFrameWrite_keptWords (vote : CopyVote) (s : State) : KeptWords s (execRepairFrameWrite vote s) := by
  unfold execRepairFrameWrite
  extract_lets t
  have ht : t.words = s.words := by simp [t]
  split <;> simp [ht]

@[simp] theorem finishRepair_words (plane frame ticket source : Nat) (s : State) :
    (finishRepair plane frame ticket source s).words = s.words := by
  simp [finishRepair]

@[simp] theorem execRepairDone_keptWords (s : State) : KeptWords s (execRepairDone s) := by
  unfold execRepairDone
  split
  · simp
  · split <;> simp

@[simp] theorem queueHanded_words (plane frame ticket : Nat) (s : State) : (queueHanded plane frame ticket s).words = s.words := by
  simp [queueHanded]

@[simp] theorem execContentionFrameRead_keptWords (vote : CopyVote) (s : State) : KeptWords s (execContentionFrameRead vote s) := by
  unfold execContentionFrameRead
  extract_lets t
  have ht : t.words = s.words := by simp [t]
  split
  · simp [ht]
  · extract_lets gone
    have hg : gone.words = s.words := by simp [gone, ht]
    split
    · simp [hg]
    · split
      · simp [hg]
      · split <;> simp [ht]

@[simp] theorem hCsReset_keepsWords : hCsReset.KeepsWords := by simp [hCsReset]

@[simp] theorem hCsSetting_keepsWords (e : ScrubSetting) : (hCsSetting e).KeepsWords := by
  intro v s t h
  simp only [hCsSetting] at h
  split at h
  · cases h
  · next hk =>
    cases h
    simp [keepValue_words hk]

@[simp] theorem hFrEnable_keepsWords : hFrEnable.KeepsWords := by
  intro v s t h
  simp only [hFrEnable, Handler.doing] at h
  split at h
  · cases h
  · split at h
    · cases h
    · next hk =>
      cases h
      simp [keepValue_words hk]

/-! ### Machine/Queues -/

@[simp] theorem State.setQueue_words (s : State) (q : Nat) (x : Queue) : (s.setQueue q x).words = s.words := by
  simp [State.setQueue]

@[simp] theorem takeRow_words (r : Nat) (s : State) : (takeRow r s).2.words = s.words := by simp [takeRow]

@[simp] theorem refusedQueue_words (s : State) : (refusedQueue s).words = s.words := by simp [refusedQueue]

@[simp] theorem madeField_words (w : BitVec 64 × Bool) (s : State) : (madeField w s).2.words = s.words := by simp [madeField]

@[simp] theorem madeHeader_words (a b : (BitVec 64 × Bool) × BitVec 64 × Bool) (resync : Bool) (s : State) :
    (madeHeader a b resync s).2.words = s.words := by
  simp [madeHeader]

@[simp] theorem takeRows_words (rows : List Nat) (s : State) : (takeRows rows s).2.words = s.words := by
  induction rows generalizing s with
  | nil => rfl
  | cons r rs ih => simp [takeRows, ih]

@[simp] theorem deliverRows_words (rows : List Nat) (s : State) : (deliverRows rows s).2.words = s.words := by
  unfold deliverRows
  split <;> simp

@[simp] theorem resyncQueue_words (q : Nat) (s : State) : (resyncQueue q s).words = s.words := by simp [resyncQueue]

@[simp] theorem hQCtrl_keepsWords : hQCtrl.KeepsWords := by simp [hQCtrl]

@[simp] theorem hQField_keepsWords (e : El) : (hQField e).KeepsWords := by simp [hQField]

@[simp] theorem hQFlush_keepsWords : hQFlush.KeepsWords := by simp [hQFlush]

/-! ### Machine/Counts -/

@[simp] theorem restartPasses_words (s : State) : (restartPasses s).words = s.words := by simp [restartPasses]

@[simp] theorem clearCounts_words (e : ClearElement) (u : Nat) (s : State) : (clearCounts e u s).words = s.words := by
  unfold clearCounts
  split <;> simp

@[simp] theorem hClear_keepsWords (e : ClearElement) (u : Nat) : (hClear e u).KeepsWords := by simp [hClear]

/-! ### Machine/EventBuilder -/

@[simp] theorem showLevel_words (s : State) : (showLevel s).words = s.words := by simp [showLevel]

@[simp] theorem warnOnce_words (key code : Nat) (detail : Bytes) (s : State) : (warnOnce key code detail s).words = s.words := by
  simp [warnOnce]

@[simp] theorem refuseAccept_words (reason : Nat) (s : State) : (refuseAccept reason s).words = s.words := by simp [refuseAccept]

@[simp] theorem takeAccept_words (a : Accept) (s : State) : (takeAccept a s).words = s.words := by simp [takeAccept]

@[simp] theorem offerAccept_words (a : Accept) (s : State) : (offerAccept a s).words = s.words := by simp [offerAccept]

@[simp] theorem judgeAccept_words (a : Accept) (s : State) : (judgeAccept a s).words = s.words := by
  unfold judgeAccept
  split <;> simp

@[simp] theorem takeOffers_words (s : State) : (takeOffers s).words = s.words := by simp [takeOffers]

@[simp] theorem handOver_words (s : State) : (handOver s).words = s.words := by simp [handOver]

@[simp] theorem setTask_words (t : EbTask) (s : State) : (setTask t s).words = s.words := by simp [setTask]

@[simp] theorem execExtractionStart_keptWords (group : Nat) (s : State) : KeptWords s (execExtractionStart group s) := by
  simp only [execExtractionStart]
  split
  · simp
  · split
    · simp
    · split <;> simp

@[simp] theorem extractWord_words (n addr : Nat) (s : State) : (extractWord n addr s).2.words = s.words := by simp [extractWord]

theorem foldl_snd_words {α β : Type} {f : β × State → α → β × State} (h : ∀ r a, (f r a).2.words = r.2.words)
    (l : List α) (r : β × State) : (l.foldl f r).2.words = r.2.words := by
  induction l generalizing r with
  | nil => rfl
  | cons a l ih => rw [List.foldl_cons, ih, h]

@[simp] theorem dropTask_words (s : State) : (dropTask s).words = s.words := by simp [dropTask]

@[simp] theorem hEbGroup_keepsWords (p : Nat) : (hEbGroup p).KeepsWords := by simp [hEbGroup]

@[simp] theorem hGWindow_keepsWords (e : WindowSide) (g : Nat) : (hGWindow e g).KeepsWords := by
  simp [Handler.KeepsWords, hGWindow]

@[simp] theorem hEventPreset_keepsWords : hEventPreset.KeepsWords := by simp [hEventPreset]

@[simp] theorem hEbDeferred_keepsWords (e : El) (u : Nat) : (hEbDeferred e u).KeepsWords := by simp [hEbDeferred]

@[simp] theorem clampTokens_words (s : State) : (clampTokens s).words = s.words := by simp [clampTokens]

/-! ### Machine/TrunkLink -/

@[simp] theorem State.setTrunk_words (s : State) (k : Nat) (x : Trunk) : (s.setTrunk k x).words = s.words := by
  simp [State.setTrunk]

@[simp] theorem enterUp_words (k : Nat) (s : State) : (enterUp k s).words = s.words := by simp [enterUp]

@[simp] theorem settleLink_words (k : Nat) (s : State) : (settleLink k s).words = s.words := by simp [settleLink]

@[simp] theorem settleLinks_words (s : State) : (settleLinks s).words = s.words := by simp [settleLinks]

@[simp] theorem toTraining_words (k : Nat) (s : State) : (toTraining k s).words = s.words := by simp [toTraining]

@[simp] theorem startTrunk_words (k : Nat) (s : State) : (startTrunk k s).words = s.words := by simp [startTrunk]

@[simp] theorem hTkEnable_keepsWords (k : Nat) : (hTkEnable k).KeepsWords := by simp [hTkEnable]

@[simp] theorem hTkRate_keepsWords (k : Nat) : (hTkRate k).KeepsWords := by simp [hTkRate]

@[simp] theorem hTkMode_keepsWords (k : Nat) : (hTkMode k).KeepsWords := by simp [hTkMode]

@[simp] theorem hTkPrbs_keepsWords (k : Nat) : (hTkPrbs k).KeepsWords := by simp [hTkPrbs]

@[simp] theorem hRetrain_keepsWords (k : Nat) : (hRetrain k).KeepsWords := by simp [hRetrain]

@[simp] theorem restartSeq_words (k : Nat) (s : State) : (restartSeq k s).words = s.words := by simp [restartSeq]

@[simp] theorem hTkReset_keepsWords (k : Nat) : (hTkReset k).KeepsWords := by simp [hTkReset]

@[simp] theorem noteEpoch_words (k e : Nat) (s : State) : (noteEpoch k e s).words = s.words := by
  unfold noteEpoch
  dsimp only
  split <;> simp

@[simp] theorem sendBlocks_words (k : Nat) (bs : List (BitVec 257)) (s : State) : (sendBlocks k bs s).words = s.words := by
  simp [sendBlocks]

@[simp] theorem takeReady_words (k : Nat) (b : BitVec 256) (s : State) : (takeReady k b s).words = s.words := by simp [takeReady]

@[simp] theorem countWords_words (k : Nat) (es : List Nat) (s : State) : (countWords k es s).words = s.words := by
  simp [countWords]

@[simp] theorem stopTrunk_words (k : Nat) (s : State) : (stopTrunk k s).words = s.words := by simp [stopTrunk]

@[simp] theorem freeFragment_words (q : Nat) (s : State) : (freeFragment q s).words = s.words := by simp [freeFragment]

@[simp] theorem acknowledge_words (k n : Nat) (s : State) : (acknowledge k n s).words = s.words := by
  unfold acknowledge
  dsimp only
  split <;> simp

@[simp] theorem fixC0_words (k t : Nat) (ms : List (BitVec 64)) (s : State) : (fixC0 k t ms s).words = s.words := by simp [fixC0]

@[simp] theorem sendC0_words (k t : Nat) (ms : List (BitVec 64)) (s : State) : (sendC0 k t ms s).words = s.words := by
  unfold sendC0
  dsimp only
  (repeat' split) <;> simp

@[simp] theorem sendDueC0_words (s : State) : (sendDueC0 s).words = s.words := by
  unfold sendDueC0
  refine foldl_words fun t p => ?_
  split
  · extract_lets x u
    have hu : u.words = t.words := by simp [u]
    split <;> simp [hu]
  · rfl

@[simp] theorem execC0BlockReceived_keptWords (trunk : Nat) (block : BitVec 256) (s : State) :
    KeptWords s (execC0BlockReceived trunk block s) := by
  simp only [execC0BlockReceived]
  split
  · simp
  · split
    · simp
    · split
      · rw [keptWords_next, State.rinc_words, State.setTrunk_words]
      · rw [keptWords_next, State.setTrunk_words, State.setTrunk_words]

/-! ### Machine/Decision -/

@[simp] theorem holdDecision_words (i t : Nat) (d : Decision) (s : State) : (holdDecision i t d s).words = s.words := by
  simp [holdDecision]

@[simp] theorem breach_words (i p t code shown : Nat) (s : State) : (breach i p t code shown s).words = s.words := by simp [breach]

@[simp] theorem suspect_words (i t code : Nat) (s : State) : (suspect i t code s).words = s.words := by simp [suspect]

@[simp] theorem judgeOffer_words (i : Nat) (tap : LedgerTap) (path : LedgerPath) (o : TapOffer) (s : State) :
    (judgeOffer i tap path o s).words = s.words := by
  unfold judgeOffer
  dsimp only
  split
  · simp
  · split <;> simp

@[simp] theorem ariseSuspects_words (s : State) : (ariseSuspects s).words = s.words := by
  unfold ariseSuspects
  refine foldl_words fun t a => ?_
  (repeat' split) <;> simp

@[simp] theorem execSentinelJudge_keptWords (tap : Nat) (o : TapOffer) (s : State) : KeptWords s (execSentinelJudge tap o s) := by
  unfold execSentinelJudge
  split
  · simp
  · split <;> simp

@[simp] theorem freeMarker_words (s : State) : (freeMarker s).2.words = s.words := by simp [freeMarker]

@[simp] theorem lineDecision_words (i t : Nat) (p : LedgerPath) (s : State) : (lineDecision i t p s).2.words = s.words := by
  unfold lineDecision
  split
  · simp
  · split <;> simp

@[simp] theorem emission_words (i t : Nat) (p : LedgerPath) (s : State) : (emission i t p s).2.words = s.words := by
  unfold emission
  (repeat' split) <;> simp

@[simp] theorem countDecision_words (p : Nat) (d : Decision) (s : State) : (countDecision p d s).words = s.words := by
  unfold countDecision
  split <;> simp

@[simp] theorem putDownlinks_words (q mask cmd : Nat) (s : State) : (putDownlinks q mask cmd s).words = s.words := by
  simp [putDownlinks]

@[simp] theorem handOut_words (i t : Nat) (tap : LedgerTap) (p : LedgerPath) (d : Decision) (s : State) :
    (handOut i t tap p d s).words = s.words := by
  unfold handOut
  dsimp only
  (repeat' split) <;> simp

@[simp] theorem emitTap_words (t i : Nat) (tap : LedgerTap) (s : State) : (emitTap t i tap s).words = s.words := by
  unfold emitTap
  split <;> simp

@[simp] theorem fixMessages_words (t : Nat) (s : State) : (fixMessages t s).words = s.words := by simp [fixMessages]

@[simp] theorem hBreachAck_keepsWords : hBreachAck.KeepsWords := by simp [hBreachAck]

@[simp] theorem clearBreach_words (s : State) : (clearBreach s).words = s.words := by simp [clearBreach]

@[simp] theorem hBusyForce_keepsWords : hBusyForce.KeepsWords := by simp [hBusyForce]

@[simp] theorem hPolicy_keepsWords (p : Nat) : (hPolicy p).KeepsWords := by simp [hPolicy]

@[simp] theorem hTapOut_keepsWords (i : Nat) : (hTapOut i).KeepsWords := by
  simp [Handler.KeepsWords, hTapOut]

@[simp] theorem State.setLane_words (s : State) (q : Nat) (x : LaneRx) : (s.setLane q x).words = s.words := by simp [State.setLane]

@[simp] theorem badLaneWord_words (q : Nat) (s : State) : (badLaneWord q s).words = s.words := by simp [badLaneWord]

@[simp] theorem pairAccept_words (q atype : Nat) (forced mismatch : Bool) (s : State) :
    (pairAccept q atype forced mismatch s).words = s.words := by
  simp [pairAccept]

@[simp] theorem timingAccept_words (e : Presented) (s : State) : (timingAccept e s).words = s.words := by simp [timingAccept]

@[simp] theorem hSsMode_keepsWords (q : Nat) : (hSsMode q).KeepsWords := by simp [hSsMode]

@[simp] theorem hSsFioCfg_keepsWords (q : Nat) : (hSsFioCfg q).KeepsWords := by
  simp [Handler.KeepsWords, hSsFioCfg]

/-! ### Machine/Spares -/

theorem startHandovers_words (l : List Nat) (v : Nat) (s : State) :
    (l.foldl (fun t n => startHandover n v t) s).words = s.words :=
  foldl_words fun _ _ => by simp

@[simp] theorem hVaultLock_keepsWords : hVaultLock.KeepsWords := by simp [hVaultLock]

/-! ### Machine/TimeBase -/

@[simp] theorem closeWindows_words (s : State) : (closeWindows s).words = s.words := by simp [closeWindows]

@[simp] theorem endNumbering_words (s : State) : (endNumbering s).words = s.words := by simp [endNumbering]

@[simp] theorem toNoClock_words (s : State) : (toNoClock s).words = s.words := by simp [toNoClock]

@[simp] theorem storeTimeSetting_words (e : El) (v : Nat) (s : State) : (storeTimeSetting e v s).words = s.words := by
  simp [storeTimeSetting]

@[simp] theorem hClkSrc_keepsWords : hClkSrc.KeepsWords := by simp [hClkSrc]

@[simp] theorem hTimingPort_keepsWords : hTimingPort.KeepsWords := by simp [hTimingPort]

@[simp] theorem hMclkNominal_keepsWords : hMclkNominal.KeepsWords := by
  simp [Handler.KeepsWords, hMclkNominal]

@[simp] theorem hOrbitLen_keepsWords : hOrbitLen.KeepsWords := by
  simp [Handler.KeepsWords, hOrbitLen]

@[simp] theorem hFabricRatio_keepsWords : hFabricRatio.KeepsWords := by
  simp [Handler.KeepsWords, hFabricRatio]

@[simp] theorem hAlignSrc_keepsWords : hAlignSrc.KeepsWords := by simp [hAlignSrc]

@[simp] theorem hOrbitOffset_keepsWords : hOrbitOffset.KeepsWords := by
  simp [Handler.KeepsWords, hOrbitOffset]

@[simp] theorem hSyncEvery_keepsWords : hSyncEvery.KeepsWords := by
  simp [Handler.KeepsWords, hSyncEvery]

@[simp] theorem hSyncSamplePhase_keepsWords : hSyncSamplePhase.KeepsWords := by
  simp [Handler.KeepsWords, hSyncSamplePhase]

@[simp] theorem hFineDelay_keepsWords : hFineDelay.KeepsWords := by
  simp [Handler.KeepsWords, hFineDelay]

@[simp] theorem slewFineDelay_words (s : State) : (slewFineDelay s).words = s.words := by simp [slewFineDelay]

@[simp] theorem amendLoss_words (cause : Nat) (s : State) : (amendLoss cause s).words = s.words := by simp [amendLoss]

@[simp] theorem recordLoss_words (cause : Nat) (s : State) : (recordLoss cause s).words = s.words := by
  unfold recordLoss
  split <;> simp

@[simp] theorem toTb_words (st : TbState) (s : State) : (toTb st s).words = s.words := by simp [toTb]

@[simp] theorem dropSource_words (cause : LossCause) (s : State) : (dropSource cause s).words = s.words := by simp [dropSource]

@[simp] theorem lossAgain_words (cause : Nat) (s : State) : (lossAgain cause s).words = s.words := by
  unfold lossAgain
  split <;> simp

@[simp] theorem stepOver_words (first last : Nat) (s : State) : (stepOver first last s).words = s.words := by simp [stepOver]

@[simp] theorem align_words (x : Nat) (s : State) : (align x s).words = s.words := by simp [align]

@[simp] theorem alignHeld_words (x : Nat) (s : State) : (alignHeld x s).words = s.words := by simp [alignHeld]

@[simp] theorem alignAtOnce_words (s : State) : (alignAtOnce s).words = s.words := by
  unfold alignAtOnce
  split
  · simp
  · split <;> simp

@[simp] theorem execPllLocked_keptWords (s : State) : KeptWords s (execPllLocked s) := by
  unfold execPllLocked
  split <;> simp

@[simp] theorem hSyncRole_keepsWords : hSyncRole.KeepsWords := by
  intro v s
  simp only [hSyncRole, Handler.doing]
  (repeat' split) <;> simp

@[simp] theorem provisionalMarker_words (back : Nat) (s : State) : (provisionalMarker back s).words = s.words := by
  unfold provisionalMarker
  split <;> simp

@[simp] theorem takeMarker_words (src : OrbitSource) (s : State) : (takeMarker src s).words = s.words := by simp [takeMarker]

@[simp] theorem provisionalWord_words (n : Nat) (s : State) : (provisionalWord n s).words = s.words := by
  unfold provisionalWord
  split <;> simp

@[simp] theorem tickSync_words (s : State) : (tickSync s).words = s.words := by simp [tickSync]

/-! ### Machine/Settings -/

@[simp] theorem hPhase_keepsWords (e : El) (u : Nat) : (hPhase e u).KeepsWords := by
  simp [Handler.KeepsWords, hPhase]

@[simp] theorem hSsMult_keepsWords (q : Nat) : (hSsMult q).KeepsWords := by
  simp [Handler.KeepsWords, hSsMult]

@[simp] theorem hEthernet_keepsWords (e : El) (k : Nat) : (hEthernet e k).KeepsWords := by simp [hEthernet]

@[simp] theorem hIpHost_keepsWords (d : Nat) : (hIpHost d).KeepsWords := by
  simp [Handler.KeepsWords, hIpHost]

/-! ### Machine/Ledger -/

@[simp] theorem showLedger_words (f : Option LedgerFault) (s : State) : (showLedger f s).words = s.words := by
  unfold showLedger
  split <;> simp

@[simp] theorem showTap_words (i : Nat) (x : LedgerTap) (fresh : Bool) (s : State) : (showTap i x fresh s).words = s.words := by
  simp [showTap]

@[simp] theorem hideTap_words (i : Nat) (s : State) : (hideTap i s).words = s.words := by
  unfold hideTap
  dsimp only
  split <;> simp

@[simp] theorem putLedger_words (l : Ledger) (fresh : Nat → Bool) (s : State) : (putLedger l fresh s).words = s.words := by
  simp [putLedger]

/-! ### Machine/Stops -/

@[simp] theorem eachDistrict_words (f : District → District) (s : State) : (eachDistrict f s).words = s.words := by
  simp [eachDistrict]

@[simp] theorem endFreeze_words (s : State) : (endFreeze s).words = s.words := by simp [endFreeze]

@[simp] theorem cancelStages_words (s : State) : (cancelStages s).words = s.words := by
  unfold cancelStages
  dsimp only
  split <;> simp

@[simp] theorem dropLedger_words (s : State) : (dropLedger s).words = s.words := by simp [dropLedger]

@[simp] theorem clearConfiguration_words (s : State) : (clearConfiguration s).words = s.words := by simp [clearConfiguration]

@[simp] theorem failWaiting_words (s : State) : (failWaiting s).words = s.words := by simp [failWaiting]

@[simp] theorem sendStatusOn_words (k : Nat) (s : State) : (sendStatusOn k s).words = s.words := by simp [sendStatusOn]

@[simp] theorem sendLoaderStatus_words (s : State) : (sendLoaderStatus s).words = s.words := by simp [sendLoaderStatus]

@[simp] theorem loadPhase_words (v : Nat) (s : State) : (loadPhase v s).words = s.words := by simp [loadPhase]

@[simp] theorem dropWritten_words (s : State) : (dropWritten s).words = s.words := by simp [dropWritten]

@[simp] theorem showFault_words (f : LoadFault) (s : State) : (showFault f s).words = s.words := by simp [showFault]

@[simp] theorem recordFault_words (f : LoadFault) (s : State) : (recordFault f s).words = s.words := by simp [recordFault]

/-! ### Machine/Loader -/

@[simp] theorem takeBytes_words (bs : Bytes) (s : State) : (takeBytes bs s).words = s.words := by simp [takeBytes]

@[simp] theorem beginPlane_words (plane : Nat) (s : State) : (beginPlane plane s).words = s.words := by
  unfold beginPlane
  extract_lets serves t p u l
  have hu : u.words = s.words := by simp [u, t]
  split <;> simp [hu, l]

@[simp] theorem payOwed_words (s : State) : (payOwed s).words = s.words := by simp [payOwed]

@[simp] theorem withPlanes_words (b : Bytes) (s : State) : (withPlanes b s).words = s.words := by simp [withPlanes]

@[simp] theorem settlePlane_words (s0 : State) (plane : Nat) (s : State) : (settlePlane s0 plane s).words = s.words := by
  simp [settlePlane]

@[simp] theorem applyDram_words (s0 s : State) : (applyDram s0 s).words = s.words := by
  unfold applyDram
  refine foldl_words fun t a => ?_
  split <;> simp

@[simp] theorem putTable_words (b : Bytes) (due : Nat) (s : State) : (putTable b due s).words = s.words := by simp [putTable]

@[simp] theorem raiseVersion_words (v : Nat) (s : State) : (raiseVersion v s).words = s.words := by
  unfold raiseVersion
  split
  · split
    · next h => simp [writeCounter_words h]
    · rfl
  · rfl

theorem takeSlots_words (l : List Nat) (s : State) : (l.foldl (fun t k => takeSlot k t) s).words = s.words :=
  foldl_words fun _ _ => by simp

@[simp] theorem acceptPartial_words (s0 s : State) : (acceptPartial s0 s).words = s.words := by
  unfold acceptPartial
  extract_lets hd t u
  have hu : u.words = s.words := by
    simp only [u, words_ite, raiseVersion_words, ite_self]
    exact takeSlots_words ..
  rw [foldl_words, hu]
  intro t d
  split <;> simp

@[simp] theorem hArAdvance_keepsWords : hArAdvance.KeepsWords := by
  intro v s t h
  simp only [hArAdvance] at h
  split at h
  · cases h
  · next hw =>
    cases h
    simp [writeCounter_words hw]

@[simp] theorem hKeyRevoke_keepsWords : hKeyRevoke.KeepsWords := by
  intro v s t h
  simp only [hKeyRevoke, Handler.doing] at h
  split at h
  · cases h; rfl
  split at h
  · cases h
  · exact keepKey_map_words (by simp) h

/-! ### Machine/InnerPort -/

@[simp] theorem ipAnswer_words (d status ticket : Nat) (data : BitVec 2048) (s : State) :
    (ipAnswer d status ticket data s).words = s.words := by
  simp [ipAnswer]

@[simp] theorem ipBegin_words (plane : Nat) (s : State) : (ipBegin plane s).words = s.words := by
  unfold ipBegin
  extract_lets t p u l
  have hu : u.words = s.words := by simp [u, t]
  split <;> simp [hu, l]

@[simp] theorem ipWriteFrame_words (plane frame : Nat) (data : BitVec 2048) (s : State) :
    (ipWriteFrame plane frame data s).2.words = s.words := by simp [ipWriteFrame]

theorem ipDamaged_words (d plane frame : Nat) (v : BitVec 2048) (s : State) : (ipDamaged d plane frame v s s).words = s.words := by
  simp [ipDamaged]

@[simp] theorem ipStore_words (d plane frame : Nat) (data : BitVec 2048) (s : State) :
    (ipStore d plane frame data s).words = s.words := by
  simp [ipStore, ipDamaged_words]

@[simp] theorem execIpFrameWrite_keptWords (district plane frame : Nat) (data : IpBeats) (s : State) :
    KeptWords s (execIpFrameWrite district plane frame data s) := by
  unfold execIpFrameWrite
  split
  · simp
  · split
    · simp
    · split <;> simp

@[simp] theorem execIpFrameRead_keptWords (district plane : Nat) (frame : IpRequest) (s : State) :
    KeptWords s (execIpFrameRead district plane frame s) := by
  unfold execIpFrameRead
  split
  · simp
  · split
    · simp
    · split
      · simp
      · split
        · simp
        · split <;> simp
        · simp [ipDamaged_words]

@[simp] theorem execIpPartial_keptWords (district plane frame : Nat) (mask data : FrameBits) (s : State) :
    KeptWords s (execIpPartial district plane frame mask data s) := by
  unfold execIpPartial
  split
  · simp
  · split
    · simp
    · split
      · simp
      · split <;> simp [ipDamaged_words]

/-! ### Machine/Recorder -/

@[simp] theorem State.setRecorder_words (s : State) (r : Recorder) : (s.setRecorder r).words = s.words := by
  simp [State.setRecorder]

@[simp] theorem raiseAlert_words (severity area : Nat) (s : State) : (raiseAlert severity area s).words = s.words := by
  simp [raiseAlert]

@[simp] theorem queueCopy_words (r : Record) (s : State) : (queueCopy r s).words = s.words := by simp [queueCopy]

@[simp] theorem rewriteRecord_words (seq : Nat) (f : Record → Record) (s : State) : (rewriteRecord seq f s).words = s.words := by
  unfold rewriteRecord
  dsimp only
  split <;> simp

@[simp] theorem copyRecord_words (r : Record) (s : State) : (copyRecord r s).words = s.words := by
  simp only [copyRecord]
  split
  · split <;> simp
  · split <;> simp

@[simp] theorem execPersistCopy_keptWords (s : State) : KeptWords s (execPersistCopy s) := by
  unfold execPersistCopy
  dsimp only
  split
  · simp
  · split <;> simp

@[simp] theorem execPersistRefresh_keptWords (s : State) : KeptWords s (execPersistRefresh s) := by
  unfold execPersistRefresh
  split <;> simp

@[simp] theorem bootPseq_words (s : State) : (bootPseq s).words = s.words := by simp [bootPseq]

@[simp] theorem writeRecord_words (e : Event) (s : State) : (writeRecord e s).words = s.words := by
  unfold writeRecord
  dsimp only
  (repeat' split) <;> simp

@[simp] theorem writeNext_words (s : State) : (writeNext s).words = s.words := by
  unfold writeNext
  split <;> simp

@[simp] theorem hRecClear_keepsWords (w : Route) : (hRecClear w).KeepsWords := by simp [hRecClear]

/-! ### Machine/DataPorts -/

@[simp] theorem setDpError_words (n : Nat) (overrun : Bool) (s : State) : (setDpError n overrun s).words = s.words := by
  simp [setDpError]

@[simp] theorem setDataErr_words (n : Nat) (s : State) : (setDataErr n s).words = s.words := by simp [setDataErr]

@[simp] theorem hDpBind_keepsWords (n : Nat) : (hDpBind n).KeepsWords := by simp [hDpBind]

@[simp] theorem hDpTarget_keepsWords (n : Nat) : (hDpTarget n).KeepsWords := by
  simp [Handler.KeepsWords, hDpTarget]

@[simp] theorem dpDamaged_words (plane frame : Nat) (s : State) : (dpDamaged plane frame s).2.words = s.words := by
  simp [dpDamaged]

@[simp] theorem dpPutFrame_words (plane frame : Nat) (data : BitVec 2048) (s : State) :
    (dpPutFrame plane frame data s).2.words = s.words := by simp [dpPutFrame]

@[simp] theorem dpWriteFrame_words (plane frame offset : Nat) (bs : Bytes) (s : State) :
    (dpWriteFrame plane frame offset bs s).2.words = s.words := by
  unfold dpWriteFrame
  split
  · rfl
  · split
    · simp
    · split <;> simp

@[simp] theorem dpWritePlane_words (plane fuel addr : Nat) (bs : Bytes) (s : State) :
    (dpWritePlane plane fuel addr bs s).2.2.words = s.words := by
  induction fuel generalizing addr bs s with
  | zero => rfl
  | succ fuel ih =>
    unfold dpWritePlane
    split
    · rfl
    · extract_lets part r
      have hr : r.2.words = s.words := by simp [r]
      split
      · exact hr
      · rw [ih, hr]

/-- What a data port reads of one frame. -/
theorem dpReadFrame_words (plane frame : Nat) (s : State) :
    (match s.portRead plane frame with
      | .good v => ((.ok v, s) : Except Nat (BitVec 2048) × State)
      | .fixed v => if s.repairRefused plane frame then (.error 6, s) else (.ok v, (enqueueRepair plane frame 1 s).2)
      | .damaged _ => (.error (dpDamaged plane frame s).1, (dpDamaged plane frame s).2)).2.words = s.words := by
  split <;> simp

@[simp] theorem dpReadFrames_words (plane k frame : Nat) (s : State) : (dpReadFrames plane k frame s).2.words = s.words := by
  induction k generalizing frame s with
  | zero => rfl
  | succ k ih =>
    unfold dpReadFrames
    split
    · rfl
    extract_lets damaged one r
    have ho : one.2.words = s.words := dpReadFrame_words plane frame s
    have hr : r.2.words = s.words := by rw [ih, ho]
    split
    · exact ho
    · split <;> exact hr

@[simp] theorem dpReadWords_words (port bank k addr : Nat) (s : State) : (dpReadWords port bank k addr s).2.words = s.words := by
  induction k generalizing addr s with
  | zero => rfl
  | succ k ih => simp [dpReadWords, ih]

@[simp] theorem dpWasRead_words (r : Except Nat Bytes × State) : (dpWasRead r).2.2.words = r.2.words := by
  unfold dpWasRead
  split <;> rfl

/-! ### Machine/Locks -/

@[simp] theorem hExpertLock_keepsWords (w : Route) : (hExpertLock w).KeepsWords := by simp [hExpertLock]

@[simp] theorem hLockBreak_keepsWords : hLockBreak.KeepsWords := by simp [hLockBreak]

@[simp] theorem hAlertAck_keepsWords : hAlertAck.KeepsWords := by simp [hAlertAck]

/-! ### Machine/CoreUnit -/

@[simp] theorem State.setCore_words (s : State) (c : ServiceCore) : (s.setCore c).words = s.words := by simp [State.setCore]

@[simp] theorem startStage_words (k : Nat) (s : State) : (startStage k s).words = s.words := by simp [startStage]

@[simp] theorem kickWatchdog_words (v : Nat) (s : State) : (kickWatchdog v s).words = s.words := by simp [kickWatchdog]

@[simp] theorem hWdtEnable_keepsWords : hWdtEnable.KeepsWords := by
  intro v s t h
  simp only [hWdtEnable, Handler.doing] at h
  split at h
  · cases h
  · next hk =>
    cases h
    simp [keepValue_words hk]

@[simp] theorem endFirstStage_words (s : State) : (endFirstStage s).words = s.words := by simp [endFirstStage]

@[simp] theorem lockVault_words (s : State) : (lockVault s).words = s.words := by simp [lockVault]

@[simp] theorem startCore_words (s : State) : (startCore s).words = s.words := by simp [startCore]

@[simp] theorem dropStaged_words (s : State) : (dropStaged s).words = s.words := by simp [dropStaged]

@[simp] theorem dropCoreWork_words (s : State) : (dropCoreWork s).words = s.words := by simp [dropCoreWork]

@[simp] theorem coreReset_words (cause : Nat) (s : State) : (coreReset cause s).words = s.words := by simp [coreReset]

@[simp] theorem endSecondStage_words (s : State) : (endSecondStage s).words = s.words := by simp [endSecondStage]

@[simp] theorem runSlot_words (i : Nat) (s : State) : (runSlot i s).words = s.words := by simp [runSlot]

@[simp] theorem commitFirmware_words (v : Nat) (s : State) : (commitFirmware v s).words = s.words := by
  unfold commitFirmware
  split
  · rfl
  · split
    · next h => simp [writeCounter_words h]
    · rfl

@[simp] theorem settleTimer_words (s : State) : (settleTimer s).words = s.words := by simp [settleTimer]

@[simp] theorem writeMsip_words (v : Nat) (s : State) : (writeMsip v s).words = s.words := by simp [writeMsip]

@[simp] theorem clearIrq_words (v : Nat) (s : State) : (clearIrq v s).words = s.words := by simp [clearIrq]

@[simp] theorem popMemEvent_words (s : State) : (popMemEvent s).words = s.words := by simp [popMemEvent]

@[simp] theorem takeMemLost_words (s : State) : (takeMemLost s).words = s.words := by simp [takeMemLost]

@[simp] theorem State.setMbox_words (s : State) (m : Mailbox) : (s.setMbox m).words = s.words := by simp [State.setMbox]

@[simp] theorem refuseMailbox_words (s : State) : (refuseMailbox s).words = s.words := by simp [refuseMailbox]

@[simp] theorem countOversize_words (q : Nat) (s : State) : (countOversize q s).words = s.words := by simp [countOversize]

@[simp] theorem commitRow_words (s : State) : (commitRow s).words = s.words := by simp [commitRow]

@[simp] theorem setRow_words (row : BitVec 128) (k : Nat) (s : State) : (setRow row k s).words = s.words := by simp [setRow]

/-! ### Machine/RunControl -/

@[simp] theorem State.setDbg_words (s : State) (d : DebugPort) : (s.setDbg d).words = s.words := by simp [State.setDbg]

@[simp] theorem requestHalt_words (cause trigger : Nat) (locked : Bool) (s : State) :
    (requestHalt cause trigger locked s).words = s.words := by
  simp [requestHalt]

@[simp] theorem releaseHalt_words (s : State) : (releaseHalt s).words = s.words := by simp [releaseHalt]

@[simp] theorem releaseHeld_words (s : State) : (releaseHeld s).words = s.words := by simp [releaseHeld]

@[simp] theorem resumeCore_words (s : State) : (resumeCore s).words = s.words := by simp [resumeCore]

@[simp] theorem State.setTrigger_words (s : State) (n : Nat) (t : Trigger) : (s.setTrigger n t).words = s.words := by
  simp [State.setTrigger]

@[simp] theorem hitTrigger_words (n : Nat) (locked : Bool) (s : State) : (hitTrigger n locked s).words = s.words := by
  simp [hitTrigger]

@[simp] theorem breakpointTrap_words (s : State) : (breakpointTrap s).words = s.words := by simp [breakpointTrap]

@[simp] theorem stopWaiting_words (w : Nat) (s : State) : (stopWaiting w s).words = s.words := by simp [stopWaiting]

@[simp] theorem hFwpEnable_keepsWords (w : Nat) : (hFwpEnable w).KeepsWords := by
  simp [Handler.KeepsWords, hFwpEnable]

@[simp] theorem hFwpField_keepsWords (e : El) (n : Nat) : (hFwpField e n).KeepsWords := by simp [hFwpField]

@[simp] theorem disableTrigger_words (n : Nat) (s : State) : (disableTrigger n s).words = s.words := by simp [disableTrigger]

@[simp] theorem detach_words (s : State) : (detach s).words = s.words := by simp [detach]

/-! ### Machine/Lifecycle -/

theorem writeLifecycle_words {code pending : Nat} {s t : State} (h : writeLifecycle code pending s = .ok t) : t.words = s.words :=
  writeCounter_words h

@[simp] theorem consumeToken_words (w : Route) (v : Nat) (before s : State) : (consumeToken w v before s).words = s.words := by
  simp [consumeToken]

@[simp] theorem renewChallenge_words (s : State) : (renewChallenge s).2.words = s.words := by simp [renewChallenge]

@[simp] theorem execLcChallengeRead_keptWords (w : Route) (s : State) : KeptWords s (execLcChallengeRead w s) := by
  unfold execLcChallengeRead
  split
  · simpa using inTurn_words _ _ _ fun t => renewChallenge_words t
  · simp

@[simp] theorem requestBytes_words {h : Handler} (w : Route) (e : El) (u : Nat) (bytes : Bytes) (lenOk : Bool) (s : State)
    (hh : h.KeepsWords) : (requestBytes w e u bytes lenOk h s).words = s.words := by
  unfold requestBytes
  split
  · exact inTurn_words _ _ _ fun t => judged_words w e u _ t hh
  · rfl

@[simp] theorem hLcToken_keepsWords (bytes : Bytes) : (hLcToken bytes).KeepsWords := by simp [hLcToken]

@[simp] theorem hKeyInstall_keepsWords (bytes : Bytes) : (hKeyInstall bytes).KeepsWords := by
  intro v s t h
  simp only [hKeyInstall] at h
  split at h
  · cases h
  split at h
  · split at h
    · cases h
    · exact keepKey_map_words (by simp) h
  · split at h
    · cases h
    · exact keepKey_map_words (by simp) h

@[simp] theorem eraseSecrets_words (s : State) : (eraseSecrets s).2.words = s.words := by simp [eraseSecrets]

@[simp] theorem closeJtag_words (s : State) : (closeJtag s).words = s.words := by simp [closeJtag]

@[simp] theorem bootLifecycle_words (s : State) : (bootLifecycle s).words = s.words := by simp [bootLifecycle]

@[simp] theorem hFreezeGo_keepsWords : hFreezeGo.KeepsWords := by simp [hFreezeGo]

@[simp] theorem hFreezeRelease_keepsWords : hFreezeRelease.KeepsWords := by simp [hFreezeRelease]

@[simp] theorem tamperOver_words (source : Nat) (s : State) : (tamperOver source s).words = s.words := by simp [tamperOver]

/-! ### Machine/Thermal -/

@[simp] theorem State.setHeat_words (s : State) (h : Thermal) : (s.setHeat h).words = s.words := by simp [State.setHeat]

@[simp] theorem hThreshold_keepsWords (e : El) : (hThreshold e).KeepsWords := fun _ _ _ h => keepValue_words h

@[simp] theorem breakSensor_words (n : Nat) (s : State) : (breakSensor n s).words = s.words := by
  unfold breakSensor
  split <;> simp

@[simp] theorem takeReading_words (n : Nat) (r : Option Int) (s : State) : (takeReading n r s).words = s.words := by
  simp [takeReading]

@[simp] theorem comparePair_words (i : Nat) (s : State) : (comparePair i s).words = s.words := by
  unfold comparePair
  dsimp only
  (repeat' split) <;> simp

@[simp] theorem thermalTo_words (v : Nat) (s : State) : (thermalTo v s).words = s.words := by simp [thermalTo]

@[simp] theorem judgeState_words (sensor : Nat) (t : Int) (f : Nat) (s : State) : (judgeState sensor t f s).words = s.words := by
  simp [judgeState]

@[simp] theorem triggerShutdown_words (s : State) : (triggerShutdown s).words = s.words := by simp [triggerShutdown]

@[simp] theorem compensate_words (i : Nat) (s : State) : (compensate i s).words = s.words := by
  unfold compensate
  split <;> simp

@[simp] theorem judgeRound_words (s : State) : (judgeRound s).words = s.words := by
  unfold judgeRound
  split <;> simp

/-! ### Machine/Power -/

@[simp] theorem hResetCmd_keepsWords : hResetCmd.KeepsWords := by simp [hResetCmd]

@[simp] theorem newEpochs_words (s : State) : (newEpochs s).words = s.words := by simp [newEpochs]

@[simp] theorem sampleStraps_words (straps : Nat) (s : State) : (sampleStraps straps s).words = s.words := by simp [sampleStraps]

@[simp] theorem bootSpares_words (s : State) : (bootSpares s).words = s.words := by simp [bootSpares]

@[simp] theorem bootAddress_words (s : State) : (bootAddress s).words = s.words := by simp [bootAddress]

@[simp] theorem bootEdges_words (s : State) : (bootEdges s).words = s.words := by simp [bootEdges]

@[simp] theorem bootVault_words (s : State) : (bootVault s).words = s.words := by simp [bootVault]

/-! ### Machine/Windows -/

@[simp] theorem openCal_words (k : Nat) (e : TtEntry) (s : State) : (openCal k e s).words = s.words := by simp [openCal]

@[simp] theorem closeCal_words (k : Nat) (e : TtEntry) (s : State) : (closeCal k e s).words = s.words := by
  unfold closeCal
  refine foldl_words fun t a => ?_
  (repeat' split) <;> simp

@[simp] theorem placePulse_words (cmd p : Nat) (s : State) : (placePulse cmd p s).words = s.words := by
  unfold placePulse
  split <;> simp

@[simp] theorem testPulse_words (e : TtEntry) (s : State) : (testPulse e s).words = s.words := by simp [testPulse]

@[simp] theorem tableSleep_words (n : Nat) (s : State) : (tableSleep n s).words = s.words := by simp [tableSleep]

@[simp] theorem fireEntry_words (k : Nat) (s : State) : (fireEntry k s).words = s.words := by
  unfold fireEntry
  dsimp only
  split <;> simp

@[simp] theorem closeEntry_words (k start : Nat) (s : State) : (closeEntry k start s).words = s.words := by
  unfold closeEntry
  dsimp only
  split <;> simp

@[simp] theorem execTtWindowEnd_keptWords (entry : Nat) (s : State) : KeptWords s (execTtWindowEnd entry s) := by
  unfold execTtWindowEnd
  split <;> simp

@[simp] theorem hSelector_keepsWords (e : WindowSelector) : (hSelector e).KeepsWords := by simp [hSelector]

/-! ### Machine/Dictionary -/

@[simp] theorem hCanNode_keepsWords : hCanNode.KeepsWords := fun _ _ _ h => keepValue_words h

@[simp] theorem hDevName_keepsWords (bytes : Bytes) : (hDevName bytes).KeepsWords := by
  intro v s t h
  simp only [hDevName] at h
  split at h
  · cases h
  · next hw =>
    cases h
    simp [writeValue_words hw]

@[simp] theorem vendorPerformed_words (s : State) : (vendorPerformed s).2.2.words = s.words := by simp [vendorPerformed]

@[simp] theorem readValue_words (w : Route) (e : El) (u : Nat) (s : State) : (readValue w e u s).2.words = s.words := by
  simp only [readValue]
  split
  · simp
  · split
    · simp
    · split <;> simp

@[simp] theorem readBlob_words (e : El) (s : State) : (readBlob e s).2.words = s.words := by
  unfold readBlob
  split <;> simp

@[simp] theorem readElement_words (w : Route) (e : El) (u wanted : Nat) (s : State) :
    (readElement w e u wanted s).2.words = s.words := by simp [readElement]

/-! ### Machine/Susis -/

@[simp] theorem countFault_words (fault : Nat) (s : State) : (countFault fault s).words = s.words := by simp [countFault]

@[simp] theorem arrive_words (r : HeldRequest) (s : State) : (arrive r s).words = s.words := by simp [arrive]

@[simp] theorem State.setWindow_words (s : State) (user : Bool) (x : DictWindow) : (s.setWindow user x).words = s.words := by
  simp [State.setWindow]

@[simp] theorem submitWindow_words (user : Bool) (s : State) : (submitWindow user s).words = s.words := by simp [submitWindow]

/-! ### Machine/CoreMap -/

@[simp] theorem readOk_words (v : Nat) (s : State) : (readOk v s).state.words = s.words := by simp [readOk]

@[simp] theorem writeOk_words (s : State) : (writeOk s).state.words = s.words := by simp [writeOk]

@[simp] theorem mapError_words (s : State) : (mapError s).state.words = s.words := by simp [mapError]

theorem orError_words {r : Option State} {s : State} (h : ∀ t, r = some t → t.words = s.words) :
    (orError r s).state.words = s.words := by
  cases r with
  | none => rfl
  | some t => exact h t rfl

@[simp] theorem openWord_words (s : State) : (openWord s).state.words = s.words := by simp [openWord]

@[simp] theorem tcmRead_words (a : Nat) (s : State) : (tcmRead a s).state.words = s.words := by simp [tcmRead]

@[simp] theorem tcmWrite_words (a v : Nat) (s : State) : (tcmWrite a v s).state.words = s.words := by simp [tcmWrite]

@[simp] theorem grantUser_words (v : Nat) (s : State) : (grantUser v s).words = s.words := by simp [grantUser]

@[simp] theorem windowRead_words (user : Bool) (off : Nat) (s : State) : (windowRead user off s).state.words = s.words := by
  simp [windowRead]

@[simp] theorem windowWrite_words (user : Bool) (off v : Nat) (s : State) : (windowWrite user off v s).state.words = s.words := by
  simp [windowWrite]

@[simp] theorem popWord_words (k : Nat) (s : State) : (popWord k s).state.words = s.words := by
  unfold popWord
  split <;> simp

@[simp] theorem coreLocalRead_words (off : Nat) (consume : Bool) (s : State) :
    (coreLocalRead off consume s).state.words = s.words := by
  simp [coreLocalRead]

@[simp] theorem coreLocalWrite_words (off v : Nat) (s : State) : (coreLocalWrite off v s).state.words = s.words := by
  simp [coreLocalWrite]

@[simp] theorem loaded_words (a : Nat) (r : MapResult) : (loaded a r).words = r.state.words := by
  simp [loaded]

@[simp] theorem stored_words (a : Nat) (r : MapResult) : (stored a r).words = r.state.words := by
  simp [stored]

@[simp] theorem coreAtomic_words (machine write reserves : Bool) (a : Nat) (s : State) :
    (coreAtomic machine write reserves a s).words = s.words := by
  simp [coreAtomic]

/-! ### Machine/Trunks -/

@[simp] theorem packetData_words (rows : List Nat) (s : State) : (packetData rows s).2.words = s.words := by simp [packetData]

@[simp] theorem sendPacket_words (k : Nat) (p : SentPacket) (s : State) : (sendPacket k p s).words = s.words := by
  simp [sendPacket]

@[simp] theorem sendNew_words (k : Nat) (p : SentPacket) (s : State) : (sendNew k p s).words = s.words := by simp [sendNew]

@[simp] theorem skipToTail_words (q : Nat) (s : State) : (skipToTail q s).words = s.words := by simp [skipToTail]

@[simp] theorem nextPacket_words (q n : Nat) (s : State) : (nextPacket q n s).2.words = s.words := by simp [nextPacket]

@[simp] theorem sendMgmt_words (k : Nat) (s : State) : (sendMgmt k s).words = s.words := by
  unfold sendMgmt
  dsimp only
  split <;> simp

@[simp] theorem freeBlocks_words (k c n : Nat) (s : State) : (freeBlocks k c n s).words = s.words := by simp [freeBlocks]

@[simp] theorem beginRows_words (q : Nat) (sof : Bool) (s : State) : (beginRows q sof s).words = s.words := by simp [beginRows]

@[simp] theorem noQueue_words (k q : Nat) (s : State) : (noQueue k q s).words = s.words := by simp [noQueue]

@[simp] theorem padFrame_words (f : Bytes) (s : State) : (padFrame f s).2.words = s.words := by simp [padFrame]

@[simp] theorem answerFrame_words (k : Nat) (f : Bytes) (s : State) : (answerFrame k f s).2.words = s.words := by
  simp [answerFrame]

@[simp] theorem passToFirmware_words (k : Nat) (f : Bytes) (s : State) : (passToFirmware k f s).words = s.words := by
  simp [passToFirmware]

/-! ### Machine/Crossing -/

@[simp] theorem endCommands_words (p : Nat) (s : State) : (endCommands p s).words = s.words := by simp [endCommands]

@[simp] theorem fabricCommand_words (p : Nat) (s : State) : (fabricCommand p s).2.words = s.words := by
  simp only [fabricCommand]
  split
  · split <;> simp
  · simp

@[simp] theorem composeDownlink_words (p : Nat) (s : State) : (composeDownlink p s).words = s.words := by simp [composeDownlink]

@[simp] theorem idleDownlinks_words (s : State) : (idleDownlinks s).words = s.words := by simp [idleDownlinks]

@[simp] theorem swapTables_words (s : State) : (swapTables s).words = s.words := by simp [swapTables]

theorem everyDistrict_words {f : Nat → State → State} (hf : ∀ d t, (f d t).words = t.words) (s : State) :
    (everyDistrict f s).words = s.words :=
  foldl_words fun t d => hf d t

@[simp] theorem releaseClock_words (d : Nat) (s : State) : (releaseClock d s).words = s.words := by simp [releaseClock]

@[simp] theorem releaseWrites_words (d : Nat) (s : State) : (releaseWrites d s).words = s.words := by simp [releaseWrites]

theorem atGlobalStage_words {f : Nat → State → State} (hf : ∀ d t, (f d t).words = t.words) (d : Nat) (s : State) :
    (atGlobalStage f d s).words = s.words := by
  simp [atGlobalStage, hf]

@[simp] theorem releaseResets_words (d : Nat) (s : State) : (releaseResets d s).words = s.words := by simp [releaseResets]

@[simp] theorem takeImageBase_words (d : Nat) (s : State) : (takeImageBase d s).words = s.words := by
  unfold takeImageBase
  dsimp only
  split <;> simp

@[simp] theorem stageClocks_words (s : State) : (stageClocks s).words = s.words :=
  everyDistrict_words (fun d t => by rw [atGlobalStage_words fun d t => by simp, takeImageBase_words]) s

@[simp] theorem stageWrites_words (s : State) : (stageWrites s).words = s.words :=
  everyDistrict_words (atGlobalStage_words fun d t => by simp) s

@[simp] theorem stageResets_words (s : State) : (stageResets s).words = s.words :=
  everyDistrict_words (atGlobalStage_words fun d t => by simp) s

@[simp] theorem stageOne_words (s : State) : (stageOne s).words = s.words := by simp [stageOne]

@[simp] theorem raiseDue_words (s : State) : (raiseDue s).words = s.words := by
  unfold raiseDue
  split <;> simp

@[simp] theorem districtStages_words (d n : Nat) (s : State) : (districtStages d n s).words = s.words := by
  induction n generalizing s with
  | zero => rfl
  | succ n ih =>
    unfold districtStages
    split
    · split
      · simp [ih]
      · rfl
    · rfl

@[simp] theorem releaseFreeze_words (s : State) : (releaseFreeze s).words = s.words := by simp [releaseFreeze]

@[simp] theorem endLoss_words (s : State) : (endLoss s).words = s.words := by simp [endLoss]

@[simp] theorem boundaryRest_words (s : State) : (boundaryRest s).words = s.words := by simp [boundaryRest]

@[simp] theorem startSpacing_words (s : State) : (startSpacing s).words = s.words := by simp [startSpacing]

@[simp] theorem enterPort_words (p : Nat) (s : State) : (enterPort p s).words = s.words := by simp [enterPort]

/-! ### Machine/I3cBus -/

@[simp] theorem drove_words (b : Option Bytes) (s : State) : (drove b s).words = s.words := by simp [drove]

@[simp] theorem i3cDeliver_words (bytes : Bytes) (s : State) : (i3cDeliver bytes s).words = s.words := by
  unfold i3cDeliver
  split
  · simp
  · split <;> simp

@[simp] theorem i3cCollect_words (count : Nat) (s : State) : (i3cCollect count s).words = s.words := by
  unfold i3cCollect
  split
  · simp
  · split <;> simp

@[simp] theorem resetInterface_words (s : State) : (resetInterface s).words = s.words := by simp [resetInterface]

@[simp] theorem setEvents_words (events : Nat) (on : Bool) (s : State) : (setEvents events on s).words = s.words := by
  simp [setEvents]

@[simp] theorem directGet_words (b : State → Bytes) (s : State) : (directGet b s).words = s.words := by simp [directGet]

@[simp] theorem openGet_words (ccc : Nat) (s : State) : (openGet ccc s).words = s.words := by simp [openGet]

@[simp] theorem execIbiSend_keptWords (kind : Nat) (acked : Bool) (s : State) : KeptWords s (execIbiSend kind acked s) := by
  unfold execIbiSend
  dsimp only
  split
  · simp
  · split <;> simp

@[simp] theorem refillTokens_words (s : State) : (refillTokens s).words = s.words := by simp [refillTokens]

@[simp] theorem dropCan_words (s : State) : (dropCan s).words = s.words := by simp [dropCan]

/-! ### Machine/Debug -/

@[simp] theorem instruct_keptWords (i : JtagInstruction) (s : State) : KeptWords s (instruct i s) := by simp [instruct]

theorem writeDctrl_words {v : Nat} {locked : Bool} {s t : State} (h : writeDctrl v locked s = some t) : t.words = s.words := by
  simp [writeDctrl] at h
  simp [← h]

theorem triggerWrite_words {n k v : Nat} {s t : State} (h : triggerWrite n k v s = some t) : t.words = s.words := by
  unfold triggerWrite at h
  extract_lets x y at h
  (repeat' split at h) <;> cases h <;> simp

@[simp] theorem writeCsr_words (v : Nat) (s : State) : (writeCsr v s).words = s.words := by
  unfold writeCsr
  split
  · rfl
  · cases h : putPmpCsr s.dbg.csrSel v s with
    | none => simp
    | some t => simp [putPmpCsr_words h]

theorem coreWrite_words {a v : Nat} {locked : Bool} {s t : State} (h : coreWrite a v locked s = some t) : t.words = s.words := by
  unfold coreWrite at h
  split at h
  · exact writeDctrl_words h
  split at h
  · cases h; rfl
  split at h
  · split at h <;> cases h; simp
  split at h
  · split at h <;> cases h; simp
  split at h
  · split at h <;> cases h; simp
  split at h
  · split at h <;> cases h; simp
  split at h
  · split at h <;> cases h; simp
  split at h
  · exact triggerWrite_words h
  · cases h

@[simp] theorem imageRead_words (a : Nat) (s : State) : (imageRead a s).state.words = s.words := by simp [imageRead]

@[simp] theorem transact_keptWords {f : State → MapResult} (a : Nat) (s : State) (hf : ∀ t, (f t).state.words = t.words) :
    KeptWords s (transact f a s) := by
  unfold transact
  split <;> simp [hf]

@[simp] theorem shiftIn_keptWords {t : DebugTransaction} {f : State → MapResult} (s : State) (hf : ∀ t, (f t).state.words = t.words) :
    KeptWords s (shiftIn t f s) := by
  unfold shiftIn
  split
  · simp
  · split <;> simp [hf]

@[simp] theorem strobeDctrl_keptWords (bit : Nat) (locked : Bool) (s : State) : KeptWords s (strobeDctrl bit locked s) :=
  transact_keptWords _ _ fun _ => orError_words fun _ h => writeDctrl_words h

@[simp] theorem execTriggerConfigWrite_keptWords (n : Nat) (e : TriggerRegister) (v : Nat) (s : State) :
    KeptWords s (execTriggerConfigWrite n e v s) :=
  transact_keptWords _ _ fun _ => orError_words fun _ h => coreWrite_words h

/-! ### Machine/Ivtor -/

@[simp] theorem lineIn_words (s : State) : (lineIn s).words = s.words := by simp [lineIn]

theorem ivtorAlways_keptWords {f : State → State} (s : State) (hf : ∀ t, (f t).words = t.words) : KeptWords s (ivtorAlways f s) := by
  simp [ivtorAlways, hf]

theorem ivtorLine_keptWords {f : State → State} (s : State) (hf : ∀ t, (f t).words = t.words) : KeptWords s (ivtorLine f s) := by
  simp [ivtorLine, hf]

@[simp] theorem parsed_words {α : Type} {f : α → State → State} (name arguments : Nat) (v : Option α) (s : State)
    (hf : ∀ a, (f a s).words = s.words) : (parsed name arguments v f s).words = s.words := by
  unfold parsed
  split <;> simp [hf]

@[simp] theorem execIvtorHelp_keptWords (s : State) : KeptWords s (execIvtorHelp s) := ivtorAlways_keptWords s fun t => by simp

@[simp] theorem execIvtorVer_keptWords (s : State) : KeptWords s (execIvtorVer s) := ivtorAlways_keptWords s fun t => by simp

@[simp] theorem execIvtorStatus_keptWords (s : State) : KeptWords s (execIvtorStatus s) := ivtorAlways_keptWords s fun t => by simp

@[simp] theorem execIvtorBaud_keptWords (rate : Bytes) (s : State) : KeptWords s (execIvtorBaud rate s) :=
  ivtorLine_keptWords _ fun t => by simp

@[simp] theorem execIvtorEcho_keptWords (on : Bytes) (s : State) : KeptWords s (execIvtorEcho on s) :=
  ivtorLine_keptWords _ fun t => by simp

/-! ### Machine/Idle -/

@[simp] theorem tickWatchdog_words (s : State) : (tickWatchdog s).words = s.words := by simp [tickWatchdog]

@[simp] theorem tickCore_words (s : State) : (tickCore s).words = s.words := by simp [tickCore]

@[simp] theorem idle_words (s : State) : (idle s).words = s.words := by simp [idle]

end Sys2Proof.Machine
end

section
/-! Loads, SAFE, orbits and losses leave the bank words too. -/

namespace Sys2Proof.Machine

@[simp] theorem State.become_words (s : State) (d : DevState) : (s.become d).words = s.words := by
  unfold State.become
  split <;> simp

@[simp] theorem enterSafe_words (cause : Nat) (s : State) : (enterSafe cause s).words = s.words := by simp [enterSafe]

/-! ### Loads -/

@[simp] theorem finishLoad_words (s : State) : (finishLoad s).words = s.words := rfl

@[simp] theorem abortLoad_words (s : State) : (abortLoad s).words = s.words := by simp [abortLoad]

@[simp] theorem startLoad_words (golden : Bool) (source : Nat) (startedIn : DevState) (s : State) :
    (startLoad golden source startedIn s).words = s.words := by
  simp [startLoad]

@[simp] theorem recordGolden_words (f : LoadFault) (s : State) : (recordGolden f s).words = s.words := by simp [recordGolden]

@[simp] theorem conflictLoad_words (s : State) : (conflictLoad s).words = s.words := by simp [conflictLoad]

@[simp] theorem fallBack_words (s : State) : (fallBack s).words = s.words := by simp [fallBack]

@[simp] theorem failLoad_words (f : LoadFault) (s : State) : (failLoad f s).words = s.words := by simp [failLoad]

@[simp] theorem noGolden_words (s : State) : (noGolden s).words = s.words := by simp [noGolden]

@[simp] theorem awaitGolden_words (bs : Bytes) (s : State) : (awaitGolden bs s).1.words = s.words := by
  unfold awaitGolden
  extract_lets all r rest passed
  split
  · simp
  · simp
  · split
    · simp
    · split <;> simp

@[simp] theorem judgeHeader_words (s : State) : (judgeHeader s).words = s.words := by
  unfold judgeHeader
  extract_lets l h golden
  split
  · rfl
  split
  · simp
  split
  · simp
  · split
    · simp
    · split <;> simp

@[simp] theorem judgeTable_words (s : State) : (judgeTable s).words = s.words := by
  unfold judgeTable
  extract_lets l n ts c t
  have ht : t.words = s.words := by simp [t, c]
  clear_value ts n t
  split
  · rfl
  · split
    · simp
    · split <;> simp [ht]

@[simp] theorem takeSection_words (i : Nat) (x : LoadSection) (s : State) : (takeSection i x s).words = s.words := by
  unfold takeSection
  extract_lets done l
  have hd (t : State) : (done t).words = t.words := rfl
  clear_value done
  split
  · exact hd s
  · split
    · simp
    · extract_lets fault
      clear_value fault
      split
      · simp [hd]
      · split <;> simp [hd]

@[simp] theorem takeSections_words (i : Nat) (xs : List LoadSection) (s : State) : (takeSections i xs s).words = s.words := by
  induction xs generalizing i s with
  | nil => simp [takeSections]
  | cons x xs ih => simp [takeSections, ih]

@[simp] theorem resumeSections_words (s : State) : (resumeSections s).words = s.words := by simp [resumeSections]

@[simp] theorem findStart_words (s : State) : (findStart s).words = s.words := by
  unfold findStart
  extract_lets l
  split
  · rfl
  split
  · split
    · simp
    · simp
  · simp

@[simp] theorem feed_words (bs : Bytes) (s : State) : (feed bs s).words = s.words := by
  unfold feed
  extract_lets w t bs' u
  have ht : t.words = s.words := by simp only [t, w, apply_ite Prod.fst, words_ite, awaitGolden_words, ite_self]
  simp [u, ht]

@[simp] theorem execLoadStreamData_keptWords (bytes : Bytes) (s : State) : KeptWords s (execLoadStreamData bytes s) := by
  simp [execLoadStreamData]

@[simp] theorem execIpStream_keptWords (district : Nat) (data : BitVec 128) (s : State) : KeptWords s (execIpStream district data s) := by
  simp [execIpStream]

@[simp] theorem execListenerGoldenWaitEnd_keptWords (s : State) : KeptWords s (execListenerGoldenWaitEnd s) := by
  simp [execListenerGoldenWaitEnd]

@[simp] theorem execLoadTimeout_keptWords (s : State) : KeptWords s (execLoadTimeout s) := by simp [execLoadTimeout]

@[simp] theorem execLoadFrameWrite_keptWords (s : State) : KeptWords s (execLoadFrameWrite s) := by
  unfold execLoadFrameWrite
  split
  · simp
  extract_lets s1 p s2 r s3 l s4
  have h1 : s1.words = s.words := by simp [s1]
  have h2 : s2.words = s1.words := by simp [s2]
  have h3 : s3.words = s.words := by rw [show s3.words = s2.words from writeVerified_words .., h2, h1]
  have h4 : s4.words = s.words := h3
  clear_value s3 r s4
  split
  · simp [h3]
  · split
    · simp [h3]
    · split <;> simp [h4]

@[simp] theorem assignReserve_words (ks : List Nat) (s : State) : (assignReserve ks s).words = s.words := by simp [assignReserve]

@[simp] theorem acceptGlobal_words (s0 s : State) : (acceptGlobal s0 s).words = s.words := by simp [acceptGlobal]

@[simp] theorem acceptLoad_words (s0 t : State) (led : Ledger) : (acceptLoad s0 t led).words = t.words := by
  unfold acceptLoad
  extract_lets s1 s2 s3 s4 s5
  have h2 : s2.words = t.words := by simp [s2, s1]
  have h3 : s3.words = s2.words := by
    simp only [s3]
    rw [foldl_words fun _ _ => settlePlane_words .., applyDram_words]
  have h4 : s4.words = s3.words := by
    simp only [s4]
    split <;> simp
  have h5 : s5.words = s4.words := by simp [s5]
  simp [h5, h4, h3, h2]

@[simp] theorem hSafeEnter_keepsWords : hSafeEnter.KeepsWords := by simp [hSafeEnter]

@[simp] theorem hSafeLeave_keepsWords : hSafeLeave.KeepsWords := by simp [hSafeLeave]

@[simp] theorem hLoadGo_keepsWords : hLoadGo.KeepsWords := by
  simp only [hLoadGo, Handler.doing_keepsWords]
  intro v s
  split
  · simp
  · split
    · simp
    · split <;> simp

@[simp] theorem hLoadAbort_keepsWords : hLoadAbort.KeepsWords := by simp [hLoadAbort]

@[simp] theorem execLoadAbort_keptWords (w : Route) (v : Nat) (s : State) : KeptWords s (execLoadAbort w v s) := by
  simp [execLoadAbort]

@[simp] theorem execLoadGo_keptWords (w : Route) (v : Nat) (s : State) : KeptWords s (execLoadGo w v s) := by simp [execLoadGo]

@[simp] theorem execSafeEnter_keptWords (w : Route) (v : Nat) (s : State) : KeptWords s (execSafeEnter w v s) := by
  simp [execSafeEnter]

@[simp] theorem execSafeLeave_keptWords (w : Route) (v : Nat) (s : State) : KeptWords s (execSafeLeave w v s) := by
  simp [execSafeLeave]

@[simp] theorem takeMgmt_words (k : Nat) (p : TrunkPacket) (s : State) : (takeMgmt k p s).words = s.words := by simp [takeMgmt]

/-! ### Orbits and crossings -/

@[simp] theorem stageThree_words (s : State) : (stageThree s).words = s.words := by
  unfold stageThree
  extract_lets t l u
  split <;> simp [u, l, t]

@[simp] theorem globalStage_words (n : Nat) (s : State) : (globalStage n s).words = s.words := by
  unfold globalStage
  split <;> simp

@[simp] theorem globalStages_words (n : Nat) (s : State) : (globalStages n s).words = s.words := by
  induction n generalizing s with
  | zero => rfl
  | succ n ih =>
    unfold globalStages
    split
    · simp [ih]
    · rfl

@[simp] theorem dueChanges_words (s : State) : (dueChanges s).words = s.words := by simp [dueChanges]

@[simp] theorem enterDueSafe_words (s : State) : (enterDueSafe s).words = s.words := by
  unfold enterDueSafe
  split <;> simp

@[simp] theorem execResume_keptWords (s : State) : KeptWords s (execResume s) := by simp [execResume]

@[simp] theorem execFreezeStart_keptWords (s : State) : KeptWords s (execFreezeStart s) := by
  unfold execFreezeStart
  split <;> simp

/-! ### Losses of alignment -/

@[simp] theorem lose_words (st : TbState) (cause : Nat) (s : State) : (lose st cause s).words = s.words := by simp [lose]

@[simp] theorem execClockLoss_keptWords (cause : LossCause) (s : State) : KeptWords s (execClockLoss cause s) := by
  unfold execClockLoss
  split
  · simp
  · split <;> simp

@[simp] theorem checkWord_words (w : BitVec 80) (s : State) : (checkWord w s).words = s.words := by simp [checkWord]

@[simp] theorem execSyncWord_keptWords (word : BitVec 80) (s : State) : KeptWords s (execSyncWord word s) := by
  unfold execSyncWord
  split
  · simp
  · split <;> simp

@[simp] theorem checkMarker_words (back : Nat) (s : State) : (checkMarker back s).words = s.words := by simp [checkMarker]

@[simp] theorem execOrbitMarker_keptWords (src : OrbitSource) (s : State) : KeptWords s (execOrbitMarker src s) := by
  unfold execOrbitMarker
  extract_lets put back
  split
  · simp
  · split <;> simp [put]

end Sys2Proof.Machine
end

section
/-! O59: every step keeps the bank words in canonical form. The functions that write bank words keep it, and so do those that call
them. -/

namespace Sys2Proof.Machine

open Sys2Proof.Safety

/-- The canonical form, of the listed words and the places that read as zero. -/
def WordsOk (w : SMap StoredWord × List Nat) : Prop :=
  risingFrom 0 w.1 = true ∧
    w.1.all (fun p => p.2 != if w.2.contains (p.1 / 32768) then StoredWord.fresh 0 else StoredWord.invalid) = true

theorem cellsOk_iff_wordsOk (s : State) : CellsOk s ↔ WordsOk s.words := Iff.rfl

@[simp] theorem wordsOk_ite (c : Prop) [Decidable c] (a b : SMap StoredWord × List Nat) :
    WordsOk (if c then a else b) ↔ (c → WordsOk a) ∧ (¬c → WordsOk b) := by
  split <;> simp [*]

/-- A function that keeps the form at each element keeps it over a list. -/
theorem foldl_wordsOk {α : Type} {f : State → α → State} (hf : ∀ t a, WordsOk t.words → WordsOk (f t a).words) (l : List α)
    {s : State} (h : WordsOk s.words) : WordsOk (l.foldl f s).words := by
  induction l generalizing s with
  | nil => exact h
  | cons a l ih => exact ih (hf s a h)

/-- An outcome whose next state, where there is one, has the form where `s` has it. -/
def KeepsForm (s : State) (o : Host.Outcome State Fault Refusal) : Prop := ∀ t, o = .next t → WordsOk s.words → WordsOk t.words

/-- A handler whose act keeps the form. -/
def Handler.KeepsForm (h : Handler) : Prop := ∀ v s t, h.act v s = .ok t → WordsOk s.words → WordsOk t.words

@[simp] theorem keepsForm_next (s t : State) : KeepsForm s (.next t) ↔ (WordsOk s.words → WordsOk t.words) := by simp [KeepsForm]

theorem KeptWords.keepsForm {s : State} {o : Host.Outcome State Fault Refusal} (h : KeptWords s o) : KeepsForm s o :=
  fun t ht hs => h t ht ▸ hs

theorem Handler.KeepsWords.keepsForm {h : Handler} (hk : h.KeepsWords) : h.KeepsForm := fun v s t ht hs => hk v s t ht ▸ hs

/-! ### Writes of words -/

section
variable {s : State} (h : WordsOk s.words)
include h

@[simp] theorem State.setCellAt_wordsOk (q place addr : Nat) (w : StoredWord) : WordsOk (s.setCellAt q place addr w).words :=
  cellsOk_setCellAt q place addr w h

@[simp] theorem dropCells_wordsOk (q place first count : Nat) : WordsOk (dropCells q place first count s).words :=
  ⟨risingFrom_filter _ h.1, all_filter _ _ h.2⟩

end

/-- No word of a place is listed once all of them have been dropped. -/
theorem dropCells_place {q place : Nat} {s : State} {p : Nat × StoredWord} (hp : p ∈ (dropCells q place 0 32768 s).cells) :
    p.1 / 32768 ≠ 66 * q + place := by
  have hk : ¬(cellKey q place 0 ≤ p.1 ∧ p.1 < cellKey q place 0 + 32768) := fun ⟨hle, hlt⟩ => by
    simp [dropCells, Nat.ble_eq.mpr hle, Nat.blt_eq.mpr hlt] at hp
  unfold cellKey at hk
  omega

/-- Blanking a place changes what unlisted words read in no other. -/
theorem blankPlace_zeroed {q place k : Nat} (zero : Bool) (s : State) (hk : k ≠ 66 * q + place) :
    (blankPlace q place zero s).mem.zeroed.contains k = s.mem.zeroed.contains k := by
  have hz : (dropCells q place 0 32768 s).mem.zeroed = s.mem.zeroed := rfl
  rw [Bool.eq_iff_iff]
  cases zero
  · simp [blankPlace, hz, hk]
  · simp only [blankPlace, hz, if_true, List.contains_eq_mem, decide_eq_true_eq, List.mem_append, List.mem_cons, List.mem_filter,
      bne_iff_ne, ne_eq, Nat.blt_eq]
    by_cases hm : k ∈ s.mem.zeroed <;> simp [hm, hk]

@[simp] theorem blankPlace_wordsOk {s : State} (h : WordsOk s.words) (q place : Nat) (zero : Bool) :
    WordsOk (blankPlace q place zero s).words := by
  obtain ⟨hr, ha⟩ := dropCells_wordsOk h q place 0 32768
  refine ⟨hr, List.all_eq_true.mpr fun p hp => ?_⟩
  have hz := blankPlace_zeroed zero s (dropCells_place hp)
  simp only [State.words, hz]
  exact List.all_eq_true.mp ha p hp

end Sys2Proof.Machine
end

section
namespace Sys2Proof.Machine

open Sys2Proof.Safety

section
variable {s : State} (h : WordsOk s.words)
include h

@[simp] theorem State.setCell_wordsOk (n addr : Nat) (w : StoredWord) : WordsOk (s.setCell n addr w).words :=
  foldl_wordsOk (fun _ _ ht => State.setCellAt_wordsOk ht ..) _ h

@[simp] theorem flipWord_wordsOk (n addr : Nat) (w : StoredWord) : WordsOk (flipWord n addr w s).words := by
  unfold flipWord
  split
  · extract_lets m t
    have ht : WordsOk t.words := h
    split
    · simp [ht]
    · simp [h]
  · simp [h]

@[simp] theorem writeWord_wordsOk (n addr index router : Nat) (d : BitVec 64) (be : Nat) :
    WordsOk (writeWord n addr index router d be s).2.words := by
  unfold writeWord
  split
  · exact h
  split
  · simp [h]
  extract_lets w t
  have ht : WordsOk t.words := by simp [t, h]
  clear_value t
  split <;> simp [ht]

@[simp] theorem poisonRow_wordsOk (n row : Nat) : WordsOk (poisonRow n row s).words := by simp [poisonRow, h]

@[simp] theorem writeRow_wordsOk (n row index router : Nat) (d : BitVec 128) (be : Nat) :
    WordsOk (writeRow n row index router d be s).2.words := by
  simp [writeRow, h]

@[simp] theorem plazaWriteRow_wordsOk (n row index router : Nat) (d : BitVec 128) (be : Nat) :
    WordsOk (plazaWriteRow n row index router d be s).2.words := by
  simp [plazaWriteRow, h]

@[simp] theorem plazaWriteWord_wordsOk (n addr index router : Nat) (d : BitVec 64) (be : Nat) :
    WordsOk (plazaWriteWord n addr index router d be s).2.words := by
  simp [plazaWriteWord, h]

@[simp] theorem blankBank_wordsOk (n : Nat) (zero : Bool) : WordsOk (blankBank n zero s).words := by
  unfold blankBank
  extract_lets b t u v
  have ht : WordsOk t.words := by simp [t, h]
  have hu : WordsOk u.words := by simp [u, ht]
  have hv : WordsOk v.words := by
    unfold v
    split <;> simp [hu]
  split <;> simp [hv]

@[simp] theorem clearBank_wordsOk (n : Nat) : WordsOk (clearBank n s).words := by simp [clearBank, h]

@[simp] theorem endInvalidation_wordsOk (n : Nat) : WordsOk (endInvalidation n s).words := by
  unfold endInvalidation
  split
  · extract_lets t
    have ht : WordsOk t.words := by simp [t, h]
    split <;> simp [ht]
  · exact h

/-! ### Banks -/

@[simp] theorem retireStore_wordsOk (n : Nat) : WordsOk (retireStore n s).words := by
  unfold retireStore
  extract_lets b
  split
  · exact h
  · split <;> simp [h]

@[simp] theorem retireStores_wordsOk (n fuel : Nat) : WordsOk (retireStores n fuel s).words := by
  induction fuel generalizing s with
  | zero => exact h
  | succ fuel ih => exact ih (retireStore_wordsOk h n)

@[simp] theorem flushStores_wordsOk : WordsOk (flushStores s).words :=
  foldl_wordsOk (fun _ _ ht => retireStores_wordsOk ht ..) _ h

@[simp] theorem perform_wordsOk (n : Nat) (cycle : Option Nat) (w : Waiting) : WordsOk (perform n cycle w s).words := by
  unfold perform
  extract_lets ix d be r f x
  have hr : WordsOk r.2.words := by
    unfold r
    split <;> simp [h]
  simp [x, f, h, hr]

@[simp] theorem grant_wordsOk (n : Nat) (cycle : Option Nat) (w : Waiting) (cs : List Waiting) :
    WordsOk (grant n cycle w cs s).words := by
  simp [grant, h]

@[simp] theorem engineCycles_wordsOk (n k : Nat) (me : Waiting) : WordsOk (engineCycles n k me s).words := by
  induction k generalizing me s with
  | zero => exact h
  | succ k ih =>
    unfold engineCycles
    extract_lets b cs t
    split
    · split
      · simp [t, h]
      · exact ih (grant_wordsOk h ..) _
    · exact h

@[simp] theorem engineTurn_wordsOk (n : Nat) (r : Requester) (cls : Nat) : WordsOk (engineTurn n r cls s).words := by
  simp [engineTurn, h]

@[simp] theorem engineTurns_wordsOk (r : Requester) (cls : Nat) (banks : List Nat) : WordsOk (engineTurns r cls banks s).words :=
  foldl_wordsOk (fun _ _ ht => engineTurn_wordsOk ht ..) _ h

@[simp] theorem settleBank_wordsOk (n : Nat) (r : Requester) (cls : Nat) : WordsOk (settleBank n r cls s).words := by
  simp [settleBank, h]

/-! ### Memory integrity -/

@[simp] theorem scrubWord_wordsOk (n addr : Nat) (ce ue : Bool) : WordsOk (scrubWord n addr ce ue s).words := by
  unfold scrubWord
  extract_lets w t u
  have ht : WordsOk t.words := by simp [t, h]
  have hu : WordsOk u.words := by simp [u, ht]
  clear_value t u
  split <;> simp [ht, hu]

@[simp] theorem serveRepair_wordsOk (quarter : Nat) (e : Nat × Bool) : WordsOk (serveRepair quarter e s).words := by
  simp [serveRepair, h]

@[simp] theorem scrubRow_wordsOk (quarter : Nat) : WordsOk (scrubRow quarter s).words := by
  unfold scrubRow
  extract_lets p n row
  have hs : WordsOk (engineTurn n .scrubber 3 s).words := engineTurn_wordsOk h ..
  simp [h, hs]

@[simp] theorem copyWords_wordsOk (n src dst first count index : Nat) : WordsOk (copyWords n src dst first count index s).1.words := by
  have step (t : State × Nat) (p : Nat × StoredWord) (ht : WordsOk t.1.words) : WordsOk (copyWord n dst index t p).1.words := by
    simp [copyWord, ht]
  have listed (l : List (Nat × StoredWord)) (t : State × Nat) (ht : WordsOk t.1.words) :
      WordsOk (l.foldl (copyWord n dst index) t).1.words := by
    induction l generalizing t with
    | nil => exact ht
    | cons p l ih => exact ih _ (step t p ht)
  unfold copyWords
  extract_lets q from_ own same words t
  exact listed _ _ (by simp [t, h])

/-! ### Self-test -/

@[simp] theorem copySlice_wordsOk (toShadow : Bool) : WordsOk (copySlice toShadow s).words := by simp [copySlice, h]

@[simp] theorem clearSlice_wordsOk (place : Nat) : WordsOk (clearSlice place s).words := by
  unfold clearSlice
  extract_lets q first t
  have ht : WordsOk t.words := by simp [t, h]
  split
  · exact foldl_wordsOk (fun _ _ hu => State.setCellAt_wordsOk hu ..) _ ht
  · exact ht

@[simp] theorem bistTurn_wordsOk : WordsOk (bistTurn s).words := by simp [bistTurn, h]

@[simp] theorem abortTest_wordsOk : WordsOk (abortTest s).words := by
  unfold abortTest
  extract_lets b t r u
  have ht : WordsOk t.words := h
  split
  · exact h
  · split
    · simp [r, ht]
    · split <;> simp [u, r, ht]

@[simp] theorem stopTest_wordsOk : WordsOk (stopTest s).words := by
  unfold stopTest
  extract_lets n b u v w
  have hv : WordsOk v.words := by simp [v, u, h]
  have hw : WordsOk w.words := by
    unfold w
    split <;> simp [hv]
  split
  · simp [hw]
  · exact h

/-! ### The frame reserve -/

@[simp] theorem reserveTurn_wordsOk (place : Nat) : WordsOk (reserveTurn place s).words := by simp [reserveTurn, h]

@[simp] theorem readBytes_wordsOk (fuel place n : Nat) : WordsOk (readBytes fuel place n s).2.words := by
  induction fuel generalizing place n s with
  | zero => exact h
  | succ fuel ih =>
    unfold readBytes
    split
    · exact h
    · exact ih (by simp [h]) _ _

@[simp] theorem writeBytes_wordsOk (fuel place : Nat) (bs : Bytes) : WordsOk (writeBytes fuel place bs s).words := by
  induction fuel generalizing place bs s with
  | zero => exact h
  | succ fuel ih =>
    unfold writeBytes
    split
    · exact h
    · exact ih (by simp [h]) _ _

@[simp] theorem directoryEntry_wordsOk (slot frame : Nat) : WordsOk (directoryEntry slot frame s).2.words := by
  simp [directoryEntry, h]

@[simp] theorem readReserve_wordsOk (plane frame : Nat) : WordsOk (readReserve plane frame s).2.words := by
  unfold readReserve
  split
  · exact h
  · extract_lets e r
    have he : WordsOk e.2.words := by simp [e, h]
    have hr : WordsOk r.2.words := by simp [r, he]
    split
    · exact he
    · split
      · exact he
      · split
        · exact hr
        · split <;> exact hr

@[simp] theorem copyToReserve_wordsOk (plane slot frame : Nat) : WordsOk (copyToReserve plane slot frame s).2.words := by
  unfold copyToReserve
  extract_lets tail rec_ dir entry t u
  split
  · simp [u, t, h]
  · simp [h]

@[simp] theorem reserveFrame_wordsOk (plane slot frame : Nat) : WordsOk (reserveFrame plane slot frame s).2.words := by
  unfold reserveFrame
  split <;> simp [h]

/-! ### Queues -/

@[simp] theorem rowsReady_wordsOk (cls : Nat) (rows : List Nat) : WordsOk (rowsReady cls rows s).2.words := by
  unfold rowsReady
  extract_lets banks r
  have hr : WordsOk r.2.words := by simp [r, h]
  split
  · simp [hr]
  · exact hr

@[simp] theorem putRow_wordsOk (r : Nat) (d : BitVec 128) (poison : Bool) : WordsOk (putRow r d poison s).words := by
  simp [putRow, h]

@[simp] theorem writeRows_wordsOk (rows : List (Nat × BitVec 128 × Bool)) : WordsOk (writeRows rows s).words := by
  induction rows generalizing s with
  | nil => exact h
  | cons p rows ih => exact ih (putRow_wordsOk h ..)

@[simp] theorem pushRow_wordsOk (q : Nat) (d : BitVec 128) (poison last : Bool) : WordsOk (pushRow q d poison last s).2.words := by
  unfold pushRow
  extract_lets x t ready u part v
  have hr : WordsOk ready.2.words := by simp [ready, h]
  have hv : WordsOk v.words := by simp [v, u, hr]
  clear_value v ready
  simp [h, hr, hv]

@[simp] theorem popFragment_wordsOk (q : Nat) : WordsOk (popFragment q s).2.words := by
  unfold popFragment
  extract_lets x
  split
  · exact h
  · extract_lets ready d
    have hr : WordsOk ready.2.words := by simp [ready, h]
    have hd : WordsOk d.2.words := by simp [d, hr]
    split
    · exact hr
    · split <;> simp [hd]

/-! ### Event building -/

@[simp] theorem extractRows_wordsOk (cls : Nat) (l : List (Nat × Nat)) : WordsOk (extractRows cls l s).2.words := by
  induction l generalizing s with
  | nil => exact h
  | cons p l ih => exact ih (by simp [h])

@[simp] theorem extractPresent_wordsOk (t : EbTask) (stripe record : Nat) : WordsOk (extractPresent t stripe record s).2.words := by
  unfold extractPresent
  generalize (([], 0, 0) : List (BitVec 64) × Nat × Nat) = acc
  induction t.ports generalizing acc s with
  | nil => exact h
  | cons p ports ih => exact ih (by simp [h]) _

@[simp] theorem extractCrossing_wordsOk (t : EbTask) (c : Nat) : WordsOk (extractCrossing t c s).2.words := by
  unfold extractCrossing
  split <;> simp [h]

@[simp] theorem extractAll_wordsOk (t : EbTask) (cs : List Nat) : WordsOk (extractAll t cs s).2.words := by
  induction cs generalizing s with
  | nil => exact h
  | cons c cs ih => exact ih (extractCrossing_wordsOk h ..)

@[simp] theorem writeFragment_wordsOk (t : EbTask) : WordsOk (writeFragment t s).words := by
  unfold writeFragment
  extract_lets q data rows ready t x u f u₁ u₂ u₃ u₄
  have hr : WordsOk ready.2.words := by simp [ready, h]
  clear_value ready
  simp [u₄, u₃, u₂, u₁, u, t, hr]

end

end Sys2Proof.Machine
end

section
namespace Sys2Proof.Machine

open Sys2Proof.Safety

/-! ### Commands of the banks, the reserve, the queues and the builder -/

section
variable (s : State)

theorem execBankArbitration_keepsForm (bank cycle : Nat) : KeepsForm s (execBankArbitration bank cycle s) := by
  unfold execBankArbitration
  extract_lets t cs
  have ht : t.words = s.words := by simp [t]
  split
  · simp +contextual [ht]
  · split <;> simp +contextual [ht]

theorem execScrubRowRead_keepsForm (quarter : Nat) : KeepsForm s (execScrubRowRead quarter s) := by
  unfold execScrubRowRead
  split
  · simp
  · split <;> simp +contextual

theorem execRepairListServe_keepsForm (quarter : Nat) : KeepsForm s (execRepairListServe quarter s) := by
  unfold execRepairListServe
  split <;> simp +contextual

theorem execSubstituteCopyDone_keepsForm (quarter : Nat) : KeepsForm s (execSubstituteCopyDone quarter s) := by
  unfold execSubstituteCopyDone
  split
  · simp
  · extract_lets n src c r m t u v w
    have ht : t.words = c.1.words := by simp [t, m, r]
    have hu : u.words = t.words := by
      simp only [u]
      split
      · exact State.rset_words ..
      · split
        · exact State.rset_words ..
        · rfl
    have hv : v.words = c.1.words := by simp [v, hu, ht]
    split <;> simp +contextual [w, hv, c]

theorem execBistPhaseDone_keepsForm (fails : List BistRead) : KeepsForm s (execBistPhaseDone fails s) := by
  unfold execBistPhaseDone
  extract_lets t ops u v w
  intro r hr h
  have ht : WordsOk t.words := by simp [t, h]
  have hu : WordsOk u.words := by simp [u, ht]
  have hw : WordsOk w.words := by simp [w, v, hu]
  split at hr <;> cases hr <;> simp [ht, hw]

theorem execBistOfflineDone_keepsForm (fails : List BistRead) : KeepsForm s (execBistOfflineDone fails s) := by
  unfold execBistOfflineDone
  extract_lets kind t ops
  split
  · simp
  · simp +contextual [t]

theorem execReserveFillFrame_keepsForm : KeepsForm s (execReserveFillFrame s) := by
  unfold execReserveFillFrame
  split
  · simp
  · split
    · simp
    · extract_lets slot r c
      split <;> simp +contextual [r]

theorem execRepairStart_keepsForm (image : Bytes) : KeepsForm s (execRepairStart image s) := by
  unfold execRepairStart
  split
  · extract_lets inService b t r
    have ht : t.words = s.words := by simp [t, b]
    have hr : WordsOk s.words → WordsOk r.2.words := fun h => readReserve_wordsOk (ht ▸ h) ..
    clear_value t r
    split
    · simp [ht]
    · split <;> simp [ht]
    · split
      · simp [ht]
      · split <;> simpa using hr
  · simp

theorem execQpPush_keepsForm (district queue : Nat) (row : BitVec 128) (last : Bool) :
    KeepsForm s (execQpPush district queue row last s) := by
  unfold execQpPush
  split
  · simp
  · split <;> simp +contextual

theorem execQpPopRequest_keepsForm (district queue : Nat) : KeepsForm s (execQpPopRequest district queue s) := by
  unfold execQpPopRequest
  split
  · simp
  · split
    · simp
    · extract_lets p t f
      split <;> simp +contextual [t, p]

theorem execExtractionDone_keepsForm (group : Nat) : KeepsForm s (execExtractionDone group s) := by
  unfold execExtractionDone
  split
  · simp
  · split
    · simp
    · extract_lets ready m t
      have hr : ready.2.words = s.words := by simp [ready]
      have hm : WordsOk s.words → WordsOk t.words := fun h => extractAll_wordsOk (hr ▸ h) ..
      clear_value t
      split
      · simp [hr]
      · split <;> simpa using hm

theorem execFragmentWrite_keepsForm (group : Nat) : KeepsForm s (execFragmentWrite group s) := by
  unfold execFragmentWrite
  (repeat' split) <;> simp +contextual

end

/-! ### Writes of elements -/

@[simp] theorem Handler.KeepsForm.act {h : Handler} (hh : h.KeepsForm) {v : Nat} {s t : State} (ha : h.act v s = .ok t)
    (hs : WordsOk s.words) : WordsOk t.words := hh v s t ha hs

theorem judge_wordsOk {w : Route} {e : El} {u : Nat} {v : Option Nat} {h : Handler} {s t : State} (hh : h.KeepsForm)
    (hj : judge w e u v h s = .ok t) (hs : WordsOk s.words) : WordsOk t.words := by
  obtain ⟨n, ha, -⟩ := judge_ok hj
  exact hh n s t ha hs

theorem judged_wordsOk {w : Route} {e : El} {u : Nat} {v : Option Nat} {h : Handler} {s : State} (hh : h.KeepsForm)
    (hs : WordsOk s.words) : WordsOk (judged w e u v h s).2.words := by
  unfold judged
  split
  · next hj => exact judge_wordsOk hh hj hs
  · simpa using hs

theorem performFront_wordsOk {f : State → Nat × Bytes × State} (hf : ∀ t, WordsOk t.words → WordsOk (f t).2.2.words)
    (r : HeldRequest) (rest : List HeldRequest) {s : State} (hs : WordsOk s.words) : WordsOk (performFront r rest f s).words := by
  simp [performFront, hf, hs]

theorem inTurn_wordsOk {f : State → Nat × Bytes × State} (hf : ∀ t, WordsOk t.words → WordsOk (f t).2.2.words) (w : Route)
    (asks : HeldRequest → Bool) {s : State} (hs : WordsOk s.words) : WordsOk (inTurn w asks f s).words := by
  unfold inTurn
  split
  · simpa using hf s hs
  · split
    · exact performFront_wordsOk hf _ _ hs
    · exact hs

theorem write_keepsForm {h : Handler} (hh : h.KeepsForm) (w : Route) (e : El) (u v : Nat) (s : State) :
    KeepsForm s (write w e u v h s) := by
  rw [write, keepsForm_next]
  intro hs
  unfold request
  split
  · exact inTurn_wordsOk (fun _ ht => judged_wordsOk hh ht) _ _ hs
  · exact hs

section
variable {s : State} (h : WordsOk s.words)
include h

@[simp] theorem startWipe_wordsOk (cause : Nat) : WordsOk (startWipe cause s).words := by
  unfold startWipe
  split
  · extract_lets t u m
    have ht : WordsOk t.words := by simp [t, h]
    have hu : WordsOk u.words := by
      unfold u
      split
      · exact ht
      · exact foldl_wordsOk (fun _ _ hv => clearBank_wordsOk hv _) _ ht
    exact hu
  · exact h

@[simp] theorem finishWipe_wordsOk : WordsOk (finishWipe s).words := by
  unfold finishWipe
  split
  · extract_lets cause t on u v
    have ht : WordsOk t.words := foldl_wordsOk (fun _ _ hv => blankBank_wordsOk hv ..) _ h
    simp [v, u, ht]
  · exact h

end

theorem hBistAbort_keepsForm : hBistAbort.KeepsForm := by
  intro v s t ht h
  cases ht
  split <;> simp [h]

theorem hSubstitute_keepsForm (q : Nat) : (hSubstitute q).KeepsForm := by
  intro v s t ht h
  simp only [hSubstitute, Handler.doing] at ht
  split at ht
  · cases ht
  · next hs =>
    split at ht <;> cases ht
    · exact abortTest_wordsOk h
    · rwa [State.substitute_words hs]

theorem hVaultEnable_keepsForm : hVaultEnable.KeepsForm := by
  intro v s t ht h
  simp only [hVaultEnable, Handler.doing] at ht
  split at ht
  · split at ht
    · exact keepValue_words ht ▸ h
    · split at ht
      · cases ht
      · split at ht
        · cases ht
        · next hk =>
          split at ht
          · cases ht
            exact keepValue_words hk ▸ h
          · injection ht with ht
            rw [← ht, State.rset_words, startHandovers_words, keepValue_words hk]
            exact h
  · split at ht
    · split at ht
      · cases ht
      · next hk =>
        injection ht with ht
        rw [← ht]
        exact startWipe_wordsOk (keepValue_words hk ▸ h) _
    · exact keepValue_words ht ▸ h

theorem hVaultUnlock_keepsForm : hVaultUnlock.KeepsForm := by
  intro v s t ht h
  simp only [hVaultUnlock] at ht
  split at ht
  · cases ht
  · split at ht
    · cases ht
      exact h
    · split at ht <;> cases ht
      · exact abortTest_wordsOk h
      · exact h

theorem hVaultWipe_keepsForm : hVaultWipe.KeepsForm := by
  intro v s t ht h
  cases ht
  split <;> simp [h]

theorem settingHandler_keepsForm (w : Route) (e : El) (u : Nat) : (settingHandler w e u).KeepsForm := by
  by_cases he : e = .VAULT_ENABLE
  · subst he
    exact hVaultEnable_keepsForm
  · refine Handler.KeepsWords.keepsForm ?_
    unfold settingHandler
    split <;> simp at *

end Sys2Proof.Machine
end

section
namespace Sys2Proof.Machine

open Sys2Proof.Safety

/-! ### Loads and seals -/

theorem applySetting_wordsOk {global : Bool} {r : Bytes} {s t : State} (ht : applySetting global r s = some t)
    (h : WordsOk s.words) : WordsOk t.words := by
  simp only [applySetting] at ht
  split at ht
  · cases ht
  · split at ht
    · split at ht
      · next hj =>
        cases ht
        exact judge_wordsOk (settingHandler_keepsForm _ _ _) hj h
      · cases ht
    · cases ht

theorem applySettings_wordsOk {global : Bool} {n : Nat} {l : List Bytes} {s t : State} (ht : applySettings global n l s = .ok t)
    (h : WordsOk s.words) : WordsOk t.words := by
  induction l generalizing n s with
  | nil => cases ht; exact h
  | cons r rs ih =>
    simp only [applySettings] at ht
    split at ht
    · cases ht
    · next hr => exact ih ht (applySetting_wordsOk hr h)

theorem State.judgeLoad_wordsOk {s t : State} {l : Ledger} (ht : s.judgeLoad = .ok (t, l)) (h : WordsOk s.words) :
    WordsOk t.words := by
  simp only [State.judgeLoad] at ht
  split at ht
  · cases ht
  split at ht
  · cases ht
  next hs =>
  split at ht
  · cases ht
  split at ht
  · cases ht
  split at ht
  · cases ht
  cases ht
  exact applySettings_wordsOk hs (by rwa [withPlanes_words])

theorem execLoadAccept_keepsForm (s : State) : KeepsForm s (execLoadAccept s) := by
  unfold execLoadAccept
  extract_lets l
  split
  · simp
  split
  · simp
  · simp
  · next t led hj =>
    split
    · simp +contextual
    · simpa using State.judgeLoad_wordsOk hj

section
variable {s : State} (h : WordsOk s.words)
include h

@[simp] theorem sealReserve_wordsOk (plane : Nat) (frames : List Nat) : WordsOk (sealReserve plane frames s).words := by
  unfold sealReserve
  split
  · exact h
  · split
    · exact foldl_wordsOk (fun _ _ ht => reserveFrame_wordsOk ht ..) _ h
    · simp [h]

@[simp] theorem sealPlane_wordsOk (plane : Nat) : WordsOk (sealPlane plane s).words := by
  unfold sealPlane
  extract_lets frames t l u d v
  exact sealReserve_wordsOk (by simp [v, u, t, h]) ..

@[simp] theorem sealNow_wordsOk (fuel d plane : Nat) : WordsOk (sealNow fuel d plane s).words := by
  delta sealNow
  refine brecOn_induction (P := fun f : Nat → Nat → State → State => ∀ d plane s, WordsOk s.words → WordsOk (f d plane s).words)
    ?_ ?_ fuel d plane s h
  · intro _ d plane s h
    exact h
  · intro n again ih d plane s h
    delta sealNow._f
    dsimp only
    split
    · simp [h]
    · split
      · simp [h]
      · split
        · split
          · simp [h]
          · exact ih _ _ _ (abortTest_wordsOk h)
        · simp [h]

@[simp] theorem settleSeals_wordsOk : WordsOk (settleSeals s).words := by
  unfold settleSeals
  split
  · exact h
  · exact foldl_wordsOk (fun _ _ ht => sealNow_wordsOk (by exact ht) ..) _ h

/-! ### Data ports -/

@[simp] theorem dpWriteWords_wordsOk (bank fuel addr : Nat) (bs : Bytes) : WordsOk (dpWriteWords bank fuel addr bs s).words := by
  induction fuel generalizing addr bs s with
  | zero => exact h
  | succ fuel ih =>
    unfold dpWriteWords
    split
    · exact h
    · exact ih (plazaWriteWord_wordsOk h ..) _ _

@[simp] theorem dpFetch_wordsOk (n len : Nat) : WordsOk (dpFetch n len s).2.words := by
  unfold dpFetch
  extract_lets addr target frames r t words q slots bs
  have ht : t.words = s.words := by simp [t]
  have hq : WordsOk q.2.words := by
    rw [dpReadWords_words]
    exact settleBank_wordsOk (ht ▸ h) ..
  split
  · simp only [r, dpReadFrames_words, h]
  · exact h
  · exact h
  · simp [hq, ht, h]
  · exact h
  · exact h

@[simp] theorem dpRead_wordsOk (w : Route) (n len : Nat) : WordsOk (dpRead w n len s).2.words := by
  unfold dpRead
  split
  · simp [h]
  · extract_lets r
    split <;> simp [r, h]

@[simp] theorem dpWasRead_dpRead_wordsOk (w : Route) (n len : Nat) : WordsOk (dpWasRead (dpRead w n len s)).2.2.words := by
  unfold dpWasRead
  split <;> simp [h]

@[simp] theorem dpStore_wordsOk (n : Nat) (bs : Bytes) : WordsOk (dpStore n bs s).2.words := by
  unfold dpStore
  extract_lets addr target c r t
  have ht : WordsOk t.words := settleBank_wordsOk (by simp [h]) ..
  split
  · split <;> simp [c, h]
  · simp [r, h]
  · simp [ht]

@[simp] theorem dpWrite_wordsOk (w : Route) (n : Nat) (bs : Bytes) : WordsOk (dpWrite w n bs s).2.words := by
  unfold dpWrite
  split <;> simp [h]

/-! ### The queue mailbox -/

@[simp] theorem presentFragment_wordsOk : WordsOk (presentFragment s).words := by
  unfold presentFragment
  extract_lets m
  split
  · exact h
  · extract_lets ready d t
    have hr : WordsOk ready.2.words := by simp [ready, h]
    have ht : t.words = ready.2.words := by simp [t, d]
    clear_value ready t
    simp [h, hr, ht]

@[simp] theorem namePops_wordsOk (q : Nat) : WordsOk (namePops q s).words := by
  unfold namePops
  extract_lets m t
  have ht : WordsOk t.words := by simp [t, h]
  split <;> simp [ht]

@[simp] theorem takePresented_wordsOk : WordsOk (takePresented s).words := by
  unfold takePresented
  extract_lets m t
  split
  · exact presentFragment_wordsOk h
  · extract_lets t x
    split
    · exact presentFragment_wordsOk (by simp [t, h])
    · exact h

@[simp] theorem advancePops_wordsOk : WordsOk (advancePops s).words := by simp [advancePops, h]

end

theorem execDpDataWrite_keepsForm (w : Route) (n : Nat) (bytes : Bytes) (s : State) : KeepsForm s (execDpDataWrite w n bytes s) := by
  rw [execDpDataWrite, keepsForm_next]
  intro h
  split
  · exact inTurn_wordsOk (fun _ ht => dpWrite_wordsOk ht ..) _ _ h
  · exact h

theorem execDpDataRead_keepsForm (w : Route) (n len : Nat) (s : State) : KeepsForm s (execDpDataRead w n len s) := by
  rw [execDpDataRead, keepsForm_next]
  intro h
  split
  · exact inTurn_wordsOk (fun _ ht => dpWasRead_dpRead_wordsOk ht ..) _ _ h
  · exact h

theorem execMailboxFragmentPush_keepsForm (s : State) : KeepsForm s (execMailboxFragmentPush s) := by
  unfold execMailboxFragmentPush
  extract_lets m q x t ready u y v
  split
  · simp
  split
  · simp
  split
  · simp
  intro r hr h
  have hready : WordsOk ready.2.words := by simp [ready, h]
  split at hr <;> cases hr
  · exact hready
  · simp [v, u, hready]

theorem execIpSeal_keepsForm (district : Nat) (plane : IpRequest) (s : State) : KeepsForm s (execIpSeal district plane s) := by
  unfold execIpSeal
  split
  · simp
  · split
    · simp
    · split <;> simp +contextual

/-! ### The lifecycle, tamper and power -/

theorem hLcRequest_keepsForm (w : Route) : (hLcRequest w).KeepsForm := by
  intro v s t ht h
  simp only [hLcRequest] at ht
  split at ht
  · cases ht
  · split at ht
    · cases ht
    · split at ht
      · cases ht
      · split at ht
        · cases ht
        · next hw =>
          cases ht
          exact startWipe_wordsOk (writeLifecycle_words hw ▸ h) _

section
variable {s : State} (h : WordsOk s.words)
include h

@[simp] theorem completeChange_wordsOk (target controller : Nat) : WordsOk (completeChange target controller s).words := by
  unfold completeChange
  extract_lets old w lc u erases e
  have hu : WordsOk u.words := by simp [u, w, h]
  have he : e.2.words = u.words := by simp [e, apply_ite Prod.snd]
  split
  · simp [he, hu]
  · split
    · simp [he, hu]
    · next hw => simp [writeLifecycle_words hw, he, hu]

@[simp] theorem bootChange_wordsOk : WordsOk (bootChange s).words := by
  unfold bootChange
  split
  · split <;> simp [h]
  · exact h

@[simp] theorem tamperEdge_wordsOk (source : Nat) : WordsOk (tamperEdge source s).words := by
  unfold tamperEdge
  split
  · exact h
  extract_lets off t u p v
  have hu : WordsOk u.words := by simp [u, t, h]
  simp [v, hu]

@[simp] theorem finishWork_wordsOk : WordsOk (finishWork s).words := by
  unfold finishWork
  extract_lets u v w
  have hu : WordsOk u.words := by simp [u, h]
  have hv : WordsOk v.words := by
    unfold v
    split <;> simp [hu]
  simp [w, hv]

end

/-- No bank word is listed in a device that has lost its supply or been reset. -/
theorem wordsOk_nil {w : SMap StoredWord × List Nat} (h : w.1 = []) : WordsOk w := by
  simp [WordsOk, h, risingFrom]

theorem inReset_wordsOk (cause : Nat) (d : DevState) (s : State) : WordsOk (inReset cause d s).words := wordsOk_nil rfl

theorem powerGate_wordsOk (s : State) : WordsOk (powerGate s).words := wordsOk_nil rfl

@[simp] theorem resetBy_wordsOk (cause : Nat) {s : State} (h : WordsOk s.words) : WordsOk (resetBy cause s).words := by
  simp [resetBy, inReset_wordsOk, h]

theorem execLifecycleChangeDone_keepsForm (s : State) : KeepsForm s (execLifecycleChangeDone s) := by
  unfold execLifecycleChangeDone
  split <;> simp +contextual

theorem execKeeperWriteDone_keepsForm (s : State) : KeepsForm s (execKeeperWriteDone s) := by
  unfold execKeeperWriteDone
  extract_lets t
  have ht : t.words = s.words := endKeeperWrite_words s
  split
  · split
    · simp [ht]
    · exact fun _ hr _ => Host.Outcome.next.inj hr ▸ inReset_wordsOk ..
  · simp [ht]

theorem execPowerOn_keepsForm (s : State) : KeepsForm s (execPowerOn s) := by
  rw [execPowerOn, keepsForm_next]
  intro h
  split
  · exact inReset_wordsOk 0 .reset s
  · exact h

theorem execPowerLoss_keepsForm (s : State) : KeepsForm s (execPowerLoss s) := by
  rw [execPowerLoss, keepsForm_next]
  exact fun _ => inReset_wordsOk 0 .powerOff s

theorem execResetRelease_keepsForm (found : ResetFindings) (s : State) : KeepsForm s (execResetRelease found s) := by
  unfold execResetRelease
  split
  · simp
  extract_lets k c t u v w x
  have hx : x.words = s.words := by
    rw [show x.words = t.words by simp [x, w, v, u]]
    rfl
  clear_value x
  simp +contextual [hx]

@[simp] theorem canForce_words (s : State) : (canForce s).words = s.words := by simp [canForce]

@[simp] theorem execBootEnd_keptWords (s : State) : KeptWords s (execBootEnd s) := by
  unfold execBootEnd
  split
  · simp
  · extract_lets c i j k t u auto
    simp [u, t, i]

theorem execShutdownPowerGate_keepsForm (s : State) : KeepsForm s (execShutdownPowerGate s) := by
  rw [execShutdownPowerGate, keepsForm_next]
  intro h
  split
  · exact powerGate_wordsOk _
  · exact h

@[simp] theorem enterShutdown_words (s : State) : (enterShutdown s).words = s.words := by
  unfold enterShutdown
  extract_lets last t u v r w h
  have ht : t.words = s.words := by simp [t]
  have hv : v.words = t.words := by simp [v, u]
  simp [w, hv, ht]

@[simp] theorem execShutdownEntry_keptWords (s : State) : KeptWords s (execShutdownEntry s) := by
  unfold execShutdownEntry
  split <;> simp

end Sys2Proof.Machine
end

section
namespace Sys2Proof.Machine

open Sys2Proof.Safety

/-! ### The dictionary -/

/-- The elements whose writes reach bank words. -/
def writesWords (e : El) : Bool :=
  e == .VAULT_ENABLE || e == .VAULT_UNLOCK || e == .VAULT_WIPE || e == .SUBSTITUTE || e == .BIST_ABORT || e == .LC_REQUEST

theorem handlerOf_keepsWords (w : Route) (e : El) (u : Nat) (he : writesWords e = false) : (handlerOf w e u).KeepsWords := by
  unfold handlerOf
  split
  · simp
  · split
    all_goals simp [writesWords] at *
    unfold settingHandler
    split <;> simp at *

theorem handlerOf_keepsForm (w : Route) (e : El) (u : Nat) : (handlerOf w e u).KeepsForm := by
  cases he : writesWords e with
  | false => exact (handlerOf_keepsWords w e u he).keepsForm
  | true =>
    simp only [writesWords, Bool.or_eq_true, beq_iff_eq] at he
    obtain ((((rfl | rfl) | rfl) | rfl) | rfl) | rfl := he
    · exact hVaultEnable_keepsForm
    · exact hVaultUnlock_keepsForm
    · exact hVaultWipe_keepsForm
    · exact hSubstitute_keepsForm u
    · exact hBistAbort_keepsForm
    · exact hLcRequest_keepsForm w

section
variable {s : State} (h : WordsOk s.words)
include h

@[simp] theorem writeBlob_wordsOk (w : Route) (e : El) (u : Nat) (bytes : Bytes) : WordsOk (writeBlob w e u bytes s).2.words := by
  unfold writeBlob
  extract_lets fits r
  split
  · simp [h]
  · simp [h]
  · simp [h]
  · exact dpWrite_wordsOk h ..
  · simp [h]

@[simp] theorem dictWrite_wordsOk (w : Route) (eid : Nat) (bytes : Bytes) : WordsOk (dictWrite w eid bytes s).2.words := by
  unfold dictWrite
  split
  · simp [h]
  · split
    · exact h
    · split
      · exact writeBlob_wordsOk h ..
      · extract_lets r
        have hr : WordsOk r.2.words := judged_wordsOk (handlerOf_keepsForm w _ _) h
        split <;> simp [hr]

@[simp] theorem dictRead_wordsOk (w : Route) (eid wanted : Nat) : WordsOk (dictRead w eid wanted s).2.2.words := by
  unfold dictRead
  split
  · simp [h]
  · split
    · exact h
    · simp [h]

@[simp] theorem performRequest_wordsOk (r : HeldRequest) : WordsOk (performRequest r s).2.2.words := by
  unfold performRequest
  split
  · exact h
  · split <;> simp [h]

@[simp] theorem ivtorRequest_wordsOk (r : HeldRequest) : WordsOk (ivtorRequest r s).words := by
  unfold ivtorRequest
  split
  · exact h
  · split
    · exact performFront_wordsOk (fun _ ht => performRequest_wordsOk ht r) _ _ h
    · simp [h]

end

theorem execDictWrite_keepsForm (w : Route) (eid : Nat) (bytes : Bytes) (s : State) : KeepsForm s (execDictWrite w eid bytes s) := by
  unfold execDictWrite
  split
  · simp
  · rw [keepsForm_next]
    exact inTurn_wordsOk (fun _ ht => dictWrite_wordsOk ht ..) _ _

theorem execVendorRequest_keepsForm (w : Route) (eid : Nat) (writes : Bool) (bytes : Bytes) (s : State) :
    KeepsForm s (execVendorRequest w eid writes bytes s) := by
  unfold execVendorRequest
  split
  · simp
  · split
    · exact execDictWrite_keepsForm w eid bytes s
    · rw [keepsForm_next]
      exact inTurn_wordsOk (fun _ ht => dictRead_wordsOk ht ..) _ _

theorem execLcRequest_keepsForm (w : Route) (v : Nat) (s : State) : KeepsForm s (execLcRequest w v s) := by
  rw [execLcRequest, keepsForm_next]
  intro h
  split
  · refine inTurn_wordsOk (fun t ht => ?_) _ _ h
    simpa using judged_wordsOk (hLcRequest_keepsForm w) ht
  · exact h

theorem susis_keepsForm (r : HeldRequest) (s : State) : KeepsForm s (susis r s) := by
  unfold susis
  split
  · simp
  · rw [keepsForm_next]
    exact inTurn_wordsOk (fun _ ht => performRequest_wordsOk ht r) _ _

theorem ivtorGuarded_keepsForm {f : State → State} (hf : ∀ t, WordsOk t.words → WordsOk (f t).words) (s : State) :
    KeepsForm s (ivtorGuarded f s) := by
  rw [ivtorGuarded, ivtorLine, keepsForm_next]
  intro h
  have hl : WordsOk (lineIn s).words := by simp [h]
  split
  · split
    · simp [h]
    · exact hf _ hl
  · exact hl

theorem parsed_wordsOk {α : Type} {f : α → State → State} (hf : ∀ a t, WordsOk t.words → WordsOk (f a t).words)
    (name arguments : Nat) (v : Option α) {s : State} (h : WordsOk s.words) : WordsOk (parsed name arguments v f s).words := by
  unfold parsed
  split
  · exact hf _ s h
  · simp [h]

theorem execIvtorWrite_keepsForm (eid value : Bytes) (s : State) : KeepsForm s (execIvtorWrite eid value s) :=
  ivtorGuarded_keepsForm (fun _ ht => parsed_wordsOk (fun _ _ hu => ivtorRequest_wordsOk hu _) _ _ _ ht) s

theorem execIvtorRead_keepsForm (eid : Bytes) (s : State) : KeepsForm s (execIvtorRead eid s) :=
  ivtorGuarded_keepsForm (fun _ ht => parsed_wordsOk (fun _ _ hu => ivtorRequest_wordsOk hu _) _ _ _ ht) s

theorem execIvtorLog_keepsForm (n : Bytes) (s : State) : KeepsForm s (execIvtorLog n s) :=
  ivtorGuarded_keepsForm (fun _ ht => parsed_wordsOk (fun _ _ hu => by simpa using hu) _ _ _ ht) s

theorem execIvtorLock_keepsForm (s : State) : KeepsForm s (execIvtorLock s) :=
  ivtorGuarded_keepsForm (fun _ ht => ivtorRequest_wordsOk ht _) s

theorem execIvtorUnlock_keepsForm (s : State) : KeepsForm s (execIvtorUnlock s) :=
  ivtorGuarded_keepsForm (fun _ ht => ivtorRequest_wordsOk ht _) s

/-! ### The map of the service core -/

section
variable {s : State} (h : WordsOk s.words)
include h

@[simp] theorem bankRead_wordsOk (r : Requester) (cls n off : Nat) : WordsOk (bankRead r cls n off s).state.words := by
  simp [bankRead, h]

@[simp] theorem bankWrite_wordsOk (r : Requester) (cls n off v : Nat) : WordsOk (bankWrite r cls n off v s).state.words := by
  have hs : WordsOk (settleBank n r cls (settleHandover n r s)).words := settleBank_wordsOk (by simp [h]) ..
  simp [bankWrite, h, hs]

@[simp] theorem mailboxRead_wordsOk (off : Nat) (consume : Bool) : WordsOk (mailboxRead off consume s).state.words := by
  simp [mailboxRead, h]

@[simp] theorem mailboxWrite_wordsOk (off v : Nat) : WordsOk (mailboxWrite off v s).state.words := by
  simp [mailboxWrite, h]

@[simp] theorem mapRead_wordsOk (a : Nat) (consume : Bool) : WordsOk (mapRead a consume s).state.words := by
  unfold mapRead
  dsimp only
  (repeat' split) <;> simp [h]

@[simp] theorem mapWrite_wordsOk (a v : Nat) : WordsOk (mapWrite a v s).state.words := by
  unfold mapWrite
  split <;> simp [h]

@[simp] theorem coreLoadWord_wordsOk (machine : Bool) (a : Nat) : WordsOk (coreLoadWord machine a s).words := by
  unfold coreLoadWord
  (repeat' split) <;> simp [h]

@[simp] theorem coreStoreWord_wordsOk (machine : Bool) (a v : Nat) : WordsOk (coreStoreWord machine a v s).words := by
  unfold coreStoreWord
  (repeat' split) <;> simp [h]

@[simp] theorem coreStep_wordsOk (x : CoreStep) : WordsOk (coreStep x s).words := by
  unfold coreStep
  split
  · exact h
  · split
    · simp [h]
    · simp [h]
    · simp [h]
    · simp [h]
    · simp [h]
    · split <;> simp [h]
    · next n v _ =>
      split
      · cases hp : putPmpCsr n v s with
        | none => exact h
        | some t => simpa [putPmpCsr_words hp] using h
      · simp [h]

@[simp] theorem coreDid_wordsOk (before : List CoreStep) : WordsOk (coreDid before s).words := by
  unfold coreDid
  split
  · exact foldl_wordsOk (fun _ _ ht => coreStep_wordsOk ht _) _ (by simp [h])
  · exact h

end

/-- A command of the core whose stores keep the words, after what its program did before. -/
theorem coreStores_keepsForm {machine : Bool} {l : List CoreStore} {before : List CoreStep} {s : State}
    (hl : ∀ x ∈ l, ∀ k t, (x.effect k t).words = t.words) : KeepsForm s (.next (coreStores machine l (coreDid before s))) := by
  rw [keepsForm_next, coreStores_words hl]
  exact fun h => coreDid_wordsOk h before

theorem wordStores_keep {a : Nat} {f : State → State} (hf : ∀ t, (f t).words = t.words) :
    ∀ x ∈ [wordStore a f], ∀ k t, (x.effect k t).words = t.words := by
  simpa using wordStore_words hf

theorem execWdtKick_keepsForm (v : CoreWord) (s : State) : KeepsForm s (execWdtKick v s) :=
  coreStores_keepsForm (wordStores_keep (by simp))

theorem execFwCommit_keepsForm (v : CoreWord) (s : State) : KeepsForm s (execFwCommit v s) :=
  coreStores_keepsForm (wordStores_keep (by simp))

theorem execMsipWrite_keepsForm (v : CoreWord) (s : State) : KeepsForm s (execMsipWrite v s) :=
  coreStores_keepsForm (wordStores_keep (by simp))

theorem execIrqClear_keepsForm (v : CoreWord) (s : State) : KeepsForm s (execIrqClear v s) :=
  coreStores_keepsForm (wordStores_keep (by simp))

theorem execKwGo_keepsForm (sector : Nat) (data : BitVec 512) (v : CoreWord) (s : State) : KeepsForm s (execKwGo sector data v s) :=
  coreStores_keepsForm (by simp [wordStore_words])

theorem execMailboxRowCommit_keepsForm (queue : CoreWord) (row : BitVec 128) (sof eof : Bool) (s : State) :
    KeepsForm s (execMailboxRowCommit queue row sof eof s) :=
  coreStores_keepsForm (by simp [wordStore_words])

theorem execDqGo_keepsForm (window : CoreWindow) (bytes : Bytes) (s : State) : KeepsForm s (execDqGo window bytes s) := by
  unfold execDqGo
  extract_lets user
  split
  · simp
  · exact coreStores_keepsForm (by simp [wordStore_words])

theorem execMailboxPopAdvance_keepsForm (queue : CoreWord) (s : State) : KeepsForm s (execMailboxPopAdvance queue s) := by
  unfold execMailboxPopAdvance
  extract_lets t
  intro r hr h
  have ht : WordsOk t.words := coreDid_wordsOk h _
  clear_value t
  split at hr
  · cases hr
    simp [coreLoad, ht]
  · split at hr <;> cases hr <;> simp [coreLoad, ht]

/-! ### The debug port -/

theorem transact_keepsForm {f : State → MapResult} (hf : ∀ t, WordsOk t.words → WordsOk (f t).state.words) (a : Nat) (s : State) :
    KeepsForm s (transact f a s) := by
  unfold transact
  split
  · simp
  · extract_lets r
    have hr (h : WordsOk s.words) : WordsOk r.state.words := hf _ (by simp [h])
    simpa using hr

theorem shiftIn_keepsForm {t : DebugTransaction} {f : State → MapResult} (hf : ∀ t, WordsOk t.words → WordsOk (f t).state.words)
    (s : State) : KeepsForm s (shiftIn t f s) := by
  unfold shiftIn
  split
  · exact transact_keepsForm (fun _ hu => by exact hu) _ s
  · split
    · exact transact_keepsForm (fun _ hu => by exact hu) _ s
    · exact transact_keepsForm hf _ s

@[simp] theorem debugRead_wordsOk (t : DebugTransaction) {s : State} (h : WordsOk s.words) : WordsOk (debugRead t s).state.words := by
  unfold debugRead
  extract_lets a
  split
  · split <;> simp [h]
  · simp [h]

@[simp] theorem debugWrite_wordsOk (t : DebugTransaction) {s : State} (h : WordsOk s.words) :
    WordsOk (debugWrite t s).state.words := by
  unfold debugWrite
  extract_lets a v
  split
  · rwa [orError_words fun _ hc => coreWrite_words hc]
  · split
    · simp [h]
    · split <;> simp [h]

theorem execDbgRead_keepsForm (t : DebugTransaction) (s : State) : KeepsForm s (execDbgRead t s) :=
  shiftIn_keepsForm (fun _ hu => debugRead_wordsOk t hu) s

theorem execDbgWrite_keepsForm (t : DebugTransaction) (s : State) : KeepsForm s (execDbgWrite t s) :=
  shiftIn_keepsForm (fun _ hu => debugWrite_wordsOk t hu) s

/-! ### Trunks -/

section
variable {s : State} (h : WordsOk s.words)
include h

@[simp] theorem packetReady_wordsOk (q n : Nat) : WordsOk (packetReady q n s).2.words := by simp [packetReady, h]

@[simp] theorem resendNext_wordsOk (k : Nat) : WordsOk (resendNext k s).words := by
  unfold resendNext
  extract_lets x
  split
  · simp [h]
  · extract_lets n r
    simp [r, h]

@[simp] theorem pushRows_wordsOk (q : Nat) (err eof : Bool) (rows : List (BitVec 128)) :
    WordsOk (pushRows q err eof rows s).2.words := by
  induction rows generalizing s with
  | nil => exact h
  | cons r rs ih =>
    unfold pushRows
    extract_lets t
    have ht : WordsOk t.2.words := by simp [t, h]
    split
    · exact ih ht
    · exact ht

@[simp] theorem pump_wordsOk (k : Nat) (ps : List TrunkPacket) : WordsOk (pump k ps s).words := by
  induction ps generalizing s with
  | nil => exact h
  | cons p ps ih =>
    unfold pump
    extract_lets d n q r
    have hr : WordsOk r.2.words := by simp [r, h]
    split
    · exact ih (by simp [h])
    · split
      · split
        · exact ih (by simp [hr])
        · simp [hr]
      · exact ih (by simp [h])

@[simp] theorem drainTrunk_wordsOk (k : Nat) : WordsOk (drainTrunk k s).words := pump_wordsOk h ..

@[simp] theorem drainTrunks_wordsOk : WordsOk (drainTrunks s).words := foldl_wordsOk (fun _ k ht => drainTrunk_wordsOk ht k) _ h

@[simp] theorem takeData_wordsOk (k : Nat) (o : Bytes) : WordsOk (takeData k o s).words := by
  unfold takeData
  extract_lets flags rows q t
  have ht : t.words = s.words := by simp [t]
  split
  · simp [h]
  · split <;> simp [ht, h]

/-! ### Orbits and crossings -/

@[simp] theorem leaveCrossing_wordsOk : WordsOk (leaveCrossing s).words := by simp [leaveCrossing, h]

@[simp] theorem passBoundary_wordsOk : WordsOk (passBoundary s).words := by
  unfold passBoundary
  extract_lets t b u c v
  have ht : WordsOk t.words := leaveCrossing_wordsOk h
  have hv : v.words = t.words := by simp [v, c, u, b]
  simp [hv, ht]

@[simp] theorem advance_wordsOk : WordsOk (advance s).words := by
  unfold advance
  extract_lets b t c u d
  have ht : WordsOk t.words := passBoundary_wordsOk h
  have hu : WordsOk u.words := leaveCrossing_wordsOk h
  clear_value t u
  split
  · exact h
  · split
    · exact ht
    · exact hu

@[simp] theorem crossingActions_wordsOk : WordsOk (crossingActions s).words := by
  unfold crossingActions
  extract_lets t d u v w x
  have ht : WordsOk t.words := settleSeals_wordsOk h
  have hx : x.words = t.words := by simp [x, w, v, u, d]
  exact drainTrunks_wordsOk (by simp [hx, ht])

end

theorem execPacketSend_keepsForm (trunk : Nat) (s : State) : KeepsForm s (execPacketSend trunk s) := by
  unfold execPacketSend
  dsimp only
  (repeat' split) <;> simp +contextual

theorem execPacketReceived_keepsForm (trunk : Nat) (p : TrunkPacket) (s : State) :
    KeepsForm s (execPacketReceived trunk p s) := by
  unfold execPacketReceived
  split
  · simp
  extract_lets d e ahead dropped x y
  have hd : dropped.words = s.words := by simp [dropped]
  clear_value dropped
  split
  · split <;> simp +contextual [hd]
  · split <;> simp [hd]

theorem execEthFrameSend_keepsForm (trunk : Nat) (s : State) : KeepsForm s (execEthFrameSend trunk s) := by
  unfold execEthFrameSend
  split
  · simp
  extract_lets n all
  split
  · simp
  next c hc =>
  extract_lets r a p d rows t x omium macs body f u
  have hr (h : WordsOk s.words) : WordsOk r.2.words := by simp [r, h]
  have hu : u.words = r.2.words := by simp [u, f, t, d, a]
  clear_value r u p
  split
  · simpa using hr
  · split <;> simpa [hu] using hr

theorem execEthFrameReceived_keepsForm (trunk : Nat) (bytes : Bytes) (s : State) :
    KeepsForm s (execEthFrameReceived trunk bytes s) := by
  unfold execEthFrameReceived
  split
  · simp
  · extract_lets f good
    split
    · simp
    · split
      · simp +contextual
      · split <;> simp
      · simp

theorem execCrossingStart_keepsForm (s : State) : KeepsForm s (execCrossingStart s) := by
  unfold execCrossingStart
  extract_lets b t u c
  have ht : t.words = s.words := by simp [t]
  have hu : u.words = s.words := by simp [u, ht]
  have cross (v : State) (hv : v.words = s.words) (h : WordsOk s.words) : WordsOk (crossingActions (advance v)).words :=
    crossingActions_wordsOk (advance_wordsOk (hv ▸ h))
  clear_value u
  split
  · simp [hu]
  · split
    · split
      · exact (keepsForm_next ..).mpr (cross _ (by simp [hu]))
      · simp [hu]
    · exact (keepsForm_next ..).mpr (cross u hu)

theorem execOrbitBoundary_keepsForm (s : State) : KeepsForm s (execOrbitBoundary s) := by
  simp +contextual [execOrbitBoundary]

end Sys2Proof.Machine
end

section
namespace Sys2Proof.Machine

open Sys2Proof.Safety

/-! ### Steps -/

theorem execCommandReset_keepsForm (s : State) : KeepsForm s (execCommandReset s) := by
  rw [execCommandReset, keepsForm_next]
  intro h
  split
  · exact resetBy_wordsOk 2 h
  · exact h

theorem exec_keepsForm (i : Instr) (s : State) : KeepsForm s (exec i s) := by
  cases i
  case bankArbitration => exact execBankArbitration_keepsForm s _ _
  case scrubRowRead => exact execScrubRowRead_keepsForm s _
  case repairListServe => exact execRepairListServe_keepsForm s _
  case substituteCopyDone => exact execSubstituteCopyDone_keepsForm s _
  case bistPhaseDone => exact execBistPhaseDone_keepsForm s _
  case bistOfflineDone => exact execBistOfflineDone_keepsForm s _
  case reserveFillFrame => exact execReserveFillFrame_keepsForm s
  case repairStart => exact execRepairStart_keepsForm s _
  case qpPush => exact execQpPush_keepsForm s _ _ _ _
  case qpPopRequest => exact execQpPopRequest_keepsForm s _ _
  case extractionDone => exact execExtractionDone_keepsForm s _
  case fragmentWrite => exact execFragmentWrite_keepsForm s _
  case loadAccept => exact execLoadAccept_keepsForm s
  case dpDataWrite => exact execDpDataWrite_keepsForm _ _ _ s
  case dpDataRead => exact execDpDataRead_keepsForm _ _ _ s
  case mailboxFragmentPush => exact execMailboxFragmentPush_keepsForm s
  case ipSeal => exact execIpSeal_keepsForm _ _ s
  case lifecycleChangeDone => exact execLifecycleChangeDone_keepsForm s
  case keeperWriteDone => exact execKeeperWriteDone_keepsForm s
  case powerOn => exact execPowerOn_keepsForm s
  case powerLoss => exact execPowerLoss_keepsForm s
  case resetRelease => exact execResetRelease_keepsForm _ s
  case shutdownPowerGate => exact execShutdownPowerGate_keepsForm s
  case dictWrite => exact execDictWrite_keepsForm _ _ _ s
  case vendorRequest => exact execVendorRequest_keepsForm _ _ _ _ s
  case lcRequest => exact execLcRequest_keepsForm _ _ s
  case ivtorWrite => exact execIvtorWrite_keepsForm _ _ s
  case ivtorRead => exact execIvtorRead_keepsForm _ s
  case ivtorLog => exact execIvtorLog_keepsForm _ s
  case ivtorLock => exact execIvtorLock_keepsForm s
  case ivtorUnlock => exact execIvtorUnlock_keepsForm s
  case wdtKick => exact execWdtKick_keepsForm _ s
  case fwCommit => exact execFwCommit_keepsForm _ s
  case msipWrite => exact execMsipWrite_keepsForm _ s
  case irqClear => exact execIrqClear_keepsForm _ s
  case kwGo => exact execKwGo_keepsForm _ _ _ s
  case mailboxRowCommit => exact execMailboxRowCommit_keepsForm _ _ _ _ s
  case dqGo => exact execDqGo_keepsForm _ _ s
  case mailboxPopAdvance => exact execMailboxPopAdvance_keepsForm _ s
  case dbgRead => exact execDbgRead_keepsForm _ s
  case dbgWrite => exact execDbgWrite_keepsForm _ s
  case packetSend => exact execPacketSend_keepsForm _ s
  case packetReceived => exact execPacketReceived_keepsForm _ _ s
  case ethFrameSend => exact execEthFrameSend_keepsForm _ s
  case ethFrameReceived => exact execEthFrameReceived_keepsForm _ _ s
  case crossingStart => exact execCrossingStart_keepsForm s
  case orbitBoundary => exact execOrbitBoundary_keepsForm s
  case susisNop => exact susis_keepsForm _ s
  case susisRead => exact susis_keepsForm _ s
  case susisWrite => exact susis_keepsForm _ s
  case vaultEnableWrite => exact write_keepsForm hVaultEnable_keepsForm _ _ _ _ s
  case vaultUnlock => exact write_keepsForm hVaultUnlock_keepsForm _ _ _ _ s
  case vaultWipe => exact write_keepsForm hVaultWipe_keepsForm _ _ _ _ s
  case substitute => exact write_keepsForm (hSubstitute_keepsForm _) _ _ _ _ s
  case bistAbort => exact write_keepsForm hBistAbort_keepsForm _ _ _ _ s
  case vaultWipeDone => exact (keepsForm_next ..).mpr fun h => finishWipe_wordsOk h
  case invalidateDone => exact (keepsForm_next ..).mpr fun h => endInvalidation_wordsOk h _
  case tamperAssert => exact (keepsForm_next ..).mpr fun h => tamperEdge_wordsOk h 1
  case lidOpen => exact (keepsForm_next ..).mpr fun h => tamperEdge_wordsOk h 2
  case rstNAssert => exact (keepsForm_next ..).mpr fun h => resetBy_wordsOk 1 h
  case supplyReset => exact (keepsForm_next ..).mpr fun h => resetBy_wordsOk 0 h
  case commandReset => exact execCommandReset_keepsForm s
  all_goals
    exact KeptWords.keepsForm (by simp [exec,
      execLidClosed, execTamperNRelease, execCanBusOffRecovery, execHdrExitPattern, execPartnerTrainingRequest,
      execLockBrokenTimeout, execDeferredHalt, execEbreak, execStepHalt, execDbgNop, execTapLogicReset, execTrstN,
      execBypass, execDbgAccess, execHighz, execClamp, execExtestTrain, execExtestPulse, execSamplePreload, execIdcode,
      execExtest, execRecordWrite, execMtimecmpExpiry, execWdtSecondExpiry, execWdtFirstExpiry, execDetach,
      execDbgCoreReset, execCurWrite, execCoreResume, execHaltReq, execDbgReservedOp, execRecClear, execMemLostRead,
      execMemEventPop, execWdtEnableWrite, execFwpWindowPassed, execFwpEnableWrite, execFreezeRelease, execFreezeGo,
      execBistGo, execDeviceResetCmd, execCoreResetCmd, execDpBindWrite, execAlertAck, execLockBreak, execLockTimeout,
      execExpertLock, execHotJoin, execUnsupportedCcc, execGetcaps, execGetmxds, execGetmrl, execGetmwl, execGetstatus,
      execGetdcr, execGetbcr, execGetpid, execHdrDdrRead, execHdrDdrWrite, execEnthdr0, execSetmrl, execSetmwl,
      execEntas, execDisec, execEnec, execTargetResetPattern, execRstact, execRstdaa, execSetnewda, execEntdaa,
      execI3cPrivateRead, execI3cPrivateWrite, execCsReset, execFlipArm, execUnsubstitute, execRtUnretire, execRtRetire,
      execScrubEnableWrite, execLbLeakWrite, execLbLeakTick, execInvalidate, execTicketQuery, execIpReservedOp,
      execIpHostWrite, execLoadSrcWrite, execReservedBlockReceived, execStopReceived, execIdleBlockReceived,
      execTkReset, execRetrain, execTrainingTimeout, execCodewordLockLost, execCodewordLock, execTrunkPllLock,
      execTkPrbsWrite, execTkModeWrite, execTkRateWrite, execTkEnableWrite, execQFlush, execQDisable, execQEnable,
      execEventPresetWrite, execGWindowWrite, execEbGroupWrite, execSsFioCfgWrite, execSsModeWrite, execTapOutWrite,
      execPolicyWrite, execBusyForceWrite, execBreachAck, execCaptureCycle, execCaptureDisarm, execCaptureArm,
      execLockGroupWrite, execBaseAtWrite, execBaseNextWrite, execDramUncorrectable, execUpClear, execVaultLock,
      execRingGeometryWrite, execRingEnableWrite, execDeferredSleep, execBankWakeDone, execPowerWrite,
      execHandoverDrainEnd, execOwnerWrite, execPlazaResponse, execOrderedResponse, execDlSend, execAdaptInitialEnd,
      execAlignReq, execStartSymbolTimeout, execCodeLockLost, execCodeLockAcquired, execCdrLockLost, execDlCmdWrite,
      execDlPrbsWrite, execRxPrbsWrite, execMaskWrite, execAlignSettingWrite, execCountClear, execTtWindowStart,
      execTtCommit, execTtCopy, execWindowSelectorWrite, execTtWordWrite, execSyncMissing, execSyncWordSend,
      execMarkerMissing, execFineDelayWrite, execSyncSamplePhaseWrite, execSyncEveryWrite, execSyncRoleWrite,
      execOrbitOffsetWrite, execAlignSrcWrite, execFabricRatioWrite, execOrbitLenWrite, execMclkNominalWrite,
      execTimingPortWrite, execClkSrcWrite, execKeyInstall, execLcTokenWrite, execThresholdWrite, execFrEnableWrite,
      execCsSettingWrite, execKeyRevoke, execArAdvance, execPortSettingWrite, execCdrLockAcquired, execFrameComplete,
      execLocalRequest, execBistSliceStart, execUnderpassContention, execSweepFrameRead, execTokenRefill,
      execMarkReceived, execMarkSend, execLinkBlockReceived, execLinkBlockSend, execReplayTimeout, execC0RxPresent,
      execDecisionEmit, execAcceptLaneWord, execAcceptPinSample, execSourceAcquired, execSourceReturn, execCoreBoot,
      execCodeBreakpointHit, execDataWatchpointHit, execFwpFire, execSensorRound, execCanFrame, execCanBusOff])

/-- Settles O59: every function that writes bank words keeps their canonical form, and no other function changes them. -/
theorem stepKeepsTheForm : Obligations.StepKeepsTheForm := by
  intro s t hs ht
  unfold step at ht
  split at ht
  · exact exec_keepsForm _ _ t ht hs
  · cases ht
    exact CellsOk.of_words (idle_words s) hs

/-- No bank word is listed in the reset state. -/
theorem cellsOk_reset : CellsOk State.reset := (cellsOk_iff_wordsOk _).mpr (wordsOk_nil rfl)

/-- Settles O58: reset lists no bank word and leaves the device in BOOT. -/
theorem resetHoldsTheForm : Obligations.ResetHoldsTheForm :=
  ⟨cellsOk_reset, fun h => absurd h (by decide), rfl, rfl⟩

/-- Settles O1, by the definition of a step. -/
theorem stepTakesFront : Obligations.StepTakesFront := fun _ _ _ => rfl

/-- Every register but PREV_STATE reads its default in the reset state. -/
theorem reset_rget {e : El} (he : e ≠ .PREV_STATE) (u : Nat) : State.reset.rget e u = e.info.dflt := by
  have hk : regKey .PREV_STATE 0 ≠ regKey e u := fun h => he (regKey_inj.mp h).1.symm
  simp [State.rget, State.reset, mget, mfind, hk]

/-- Settles O3: each part is a field of the reset state, or an element that reads its default in every unit. -/
theorem resetIsBoot : Obligations.ResetIsBoot :=
  ⟨rfl, rfl, rfl, rfl, rfl, rfl, fun n => ⟨reset_rget (by decide) n, reset_rget (by decide) n⟩, rfl, rfl,
    reset_rget (by decide), fun _ => rfl, fun _ => ⟨rfl, rfl, rfl⟩, fun _ => rfl, fun _ => rfl, rfl, rfl, rfl⟩

end Sys2Proof.Machine
end

section
/-! What registers read after the updates of State: one rule per update. -/

namespace Sys2Proof.Machine

section
variable (s : State) (e : El) (u : Nat)

@[simp] theorem rget_mk {pending force deferred fv dev life userRights cut lossHeld lossFrom safeDue resetDue fabricOn tb rb ports cells
    banks lanes fixed rings mem bist dec eb queues qports trunks load scr dbg run mbox lc freeze power heat dists planes frames flops
    fabric guards dram recorder pinsTaken noted ctl core keeper devName} :
    State.rget
      { pending, regs := s.regs, force, deferred, fv, dev, life, userRights, cut, lossHeld, lossFrom, safeDue, resetDue, fabricOn, tb,
        rb, ports, cells, banks, lanes, fixed, rings, mem, bist, dec, eb, queues, qports, trunks, load, scr, dbg, run, mbox, lc,
        freeze, power, heat, dists, planes, frames, flops, fabric, guards, dram, recorder, pinsTaken, noted, ctl, core, keeper,
        devName } e u = s.rget e u := rfl

@[simp] theorem State.setRun_rget (x : CoreRun) : (s.setRun x).rget e u = s.rget e u := rfl

@[simp] theorem State.setCtl_rget (x : Control) : (s.setCtl x).rget e u = s.rget e u := rfl

@[simp] theorem State.setDist_rget (d : Nat) (x : District) : (s.setDist d x).rget e u = s.rget e u := rfl

@[simp] theorem State.setPlane_rget (k : Nat) (x : Plane) : (s.setPlane k x).rget e u = s.rget e u := rfl

@[simp] theorem State.setRing_rget (q : Nat) (x : Ring) : (s.setRing q x).rget e u = s.rget e u := rfl

@[simp] theorem State.setBank_rget (n : Nat) (x : BankPort) : (s.setBank n x).rget e u = s.rget e u := rfl

@[simp] theorem State.setPort_rget (p : Nat) (x : Port) : (s.setPort p x).rget e u = s.rget e u := rfl

@[simp] theorem State.setKeeper_rget (x : Keeper) : (s.setKeeper x).rget e u = s.rget e u := rfl

@[simp] theorem State.setFlop_rget (k : Nat) (x : BitVec 65536) : (s.setFlop k x).rget e u = s.rget e u := rfl

@[simp] theorem State.setFrame_rget (k f : Nat) (x : BitVec 2093) : (s.setFrame k f x).rget e u = s.rget e u := rfl

@[simp] theorem State.setScr_rget (x : CfgScrub) : (s.setScr x).rget e u = s.rget e u := rfl

@[simp] theorem State.setTrunk_rget (k : Nat) (x : Trunk) : (s.setTrunk k x).rget e u = s.rget e u := rfl

@[simp] theorem State.setLane_rget (q : Nat) (x : LaneRx) : (s.setLane q x).rget e u = s.rget e u := rfl

@[simp] theorem State.setLoad_rget (x : Loader) : (s.setLoad x).rget e u = s.rget e u := rfl

@[simp] theorem State.setRecorder_rget (x : Recorder) : (s.setRecorder x).rget e u = s.rget e u := rfl

@[simp] theorem State.setCore_rget (x : ServiceCore) : (s.setCore x).rget e u = s.rget e u := rfl

@[simp] theorem State.setMbox_rget (x : Mailbox) : (s.setMbox x).rget e u = s.rget e u := rfl

@[simp] theorem State.setDbg_rget (x : DebugPort) : (s.setDbg x).rget e u = s.rget e u := rfl

@[simp] theorem State.setHeat_rget (x : Thermal) : (s.setHeat x).rget e u = s.rget e u := rfl

@[simp] theorem State.setGuard_rget (q k : Nat) (x : Guard) : (s.setGuard q k x).rget e u = s.rget e u := rfl

@[simp] theorem State.setCellAt_rget (q place addr : Nat) (x : StoredWord) : (s.setCellAt q place addr x).rget e u = s.rget e u := rfl

@[simp] theorem State.setI3c_rget (x : I3cTarget) : (s.setI3c x).rget e u = s.rget e u := rfl

@[simp] theorem State.setIvtor_rget (x : Ivtor) : (s.setIvtor x).rget e u = s.rget e u := rfl

@[simp] theorem State.enforce_rget : s.enforce.rget e u = s.rget e u := rfl

@[simp] theorem latchIrq_rget (k : Nat) : (latchIrq k s).rget e u = s.rget e u := rfl

@[simp] theorem pendIbi_rget (a b c : Nat) : (pendIbi a b c s).rget e u = s.rget e u := rfl

end

/-- What a counter reads after it, or another, was moved on. -/
theorem State.rget_radd (s : State) (e e' : El) (u u' n : Nat) :
    (s.radd e u n).rget e' u' =
      if e' = e ∧ u' = u then Nat.min (s.rget e u + n) (e.modulus - 1) else s.rget e' u' := s.rget_rset ..

theorem State.rget_rinc (s : State) (e e' : El) (u u' : Nat) :
    (s.rinc e u).rget e' u' =
      if e' = e ∧ u' = u then Nat.min (s.rget e u + 1) (e.modulus - 1) else s.rget e' u' := s.rget_radd ..

theorem State.rget_rdefer (s : State) (e e' : El) (u u' v : Nat) :
    (s.rdefer e u v).rget e' u' = if e' = e ∧ u' = u then v else s.rget e' u' := s.rget_rset ..

/-- A register written lists every other one as before. -/
theorem State.rset_find_other (s : State) (e : El) (u v : Nat) {k : Nat} (hk : k ≠ regKey e u) :
    mfind (s.rset e u v).regs k = mfind s.regs k := mfind_mset_other _ _ _ _ _ hk

/-- A device's change of state changes PREV_STATE and STATE_MT alone of the registers. -/
theorem State.become_rget (s : State) (d : DevState) {e : El} (hp : e ≠ .PREV_STATE) (hm : e ≠ .STATE_MT) (u : Nat) :
    (s.become d).rget e u = s.rget e u := by
  unfold State.become
  split
  · rfl
  · simp [State.rget_rset, hp, hm]

end Sys2Proof.Machine
end

section
/-! SUPPORT. What shared operations leave of the state, said once. -/

namespace Sys2Proof.Machine

/-- What no turn of a list changes, the list does not. -/
theorem foldl_keeps {α β : Type} (g : State → β) {f : State → α → State} (hf : ∀ t a, g (f t a) = g t) (l : List α) (s : State) :
    g (l.foldl f s) = g s := by
  induction l generalizing s with
  | nil => rfl
  | cons a l ih => rw [List.foldl_cons, ih, hf]

/-- Registers outside a list read as before. -/
structure Leaves (es : List El) (s t : State) : Prop where
  rget : ∀ e, e ∉ es → ∀ u, t.rget e u = s.rget e u

namespace Leaves

theorem refl {es : List El} (s : State) : Leaves es s s := ⟨fun _ _ _ => rfl⟩

theorem trans {es : List El} {s t r : State} (h : Leaves es s t) (h' : Leaves es t r) : Leaves es s r :=
  ⟨fun e he u => (h'.rget e he u).trans (h.rget e he u)⟩

theorem mono {es es' : List El} {s t : State} (h : Leaves es s t) (hs : es ⊆ es') : Leaves es' s t :=
  ⟨fun e he u => h.rget e (fun hm => he (hs hm)) u⟩

theorem of_regs {es : List El} {s t : State} (h : t.regs = s.regs) : Leaves es s t := ⟨fun e _ u => by rw [State.rget, State.rget, h]⟩

theorem setPort {es : List El} (s : State) (p : Nat) (x : Port) : Leaves es s (s.setPort p x) := of_regs rfl

theorem draw {es : List El} (s : State) : Leaves es s s.draw.2 := of_regs rfl

theorem rset {es : List El} {e : El} (he : e ∈ es) (s : State) (u v : Nat) : Leaves es s (s.rset e u v) :=
  ⟨fun e' h' u' => by
    rw [State.rget_rset, if_neg]
    rintro ⟨rfl, -⟩
    exact h' he⟩

theorem radd {es : List El} {e : El} (he : e ∈ es) (s : State) (u n : Nat) : Leaves es s (s.radd e u n) := rset he ..

theorem rinc {es : List El} {e : El} (he : e ∈ es) (s : State) (u : Nat) : Leaves es s (s.rinc e u) := radd he ..

theorem raise {es : List El} (he : El.REC_LOST ∈ es) (s : State) (v c u : Nat) (d : Bytes) : Leaves es s (s.raise v c u d) :=
  ⟨fun _ h' u' => raise_rget _ _ _ _ _ u' (ne_of_mem_of_not_mem he h').symm⟩

theorem foldl {α : Type} {es : List El} {f : State → α → State} (hf : ∀ t a, Leaves es t (f t a)) (l : List α) (s : State) :
    Leaves es s (l.foldl f s) := by
  induction l generalizing s with
  | nil => exact refl s
  | cons a l ih => exact (hf s a).trans (ih _)

theorem ite {es : List El} {c : Prop} [Decidable c] {s t r : State} (ht : Leaves es s t) (hr : Leaves es s r) :
    Leaves es s (if c then t else r) := by
  split
  · exact ht
  · exact hr

end Leaves

/-- A queue's write leaves all but the registers, the queues and the core's interrupts. -/
theorem setQueue_frame (s : State) (q : Nat) (x : Queue) :
    ∃ r m i, s.setQueue q x = { s with regs := r, queues := m, core := { s.core with irq := i } } := by
  unfold State.setQueue
  extract_lets h core s₁ s₂
  have h₁ : ∃ i, s₁ = { s with core := { s.core with irq := i } } := by
    unfold s₁
    split
    · exact ⟨_, rfl⟩
    · exact ⟨_, rfl⟩
  obtain ⟨i, hi⟩ := h₁
  unfold s₂
  rw [hi]
  exact ⟨_, _, i, rfl⟩

/-! ### The ports -/

/-- Nothing but ports, registers, the recorder and the count of free values changes. -/
def OnlyPorts (s t : State) : Prop := ∃ p r g v, t = { s with ports := p, regs := r, recorder := g, fv := v }

namespace OnlyPorts

theorem refl (s : State) : OnlyPorts s s := ⟨_, _, _, _, rfl⟩

theorem trans {s t r : State} (h : OnlyPorts s t) (h' : OnlyPorts t r) : OnlyPorts s r := by
  obtain ⟨_, _, _, _, rfl⟩ := h
  obtain ⟨_, _, _, _, rfl⟩ := h'
  exact ⟨_, _, _, _, rfl⟩

theorem setPort (s : State) (p : Nat) (x : Port) : OnlyPorts s (s.setPort p x) := ⟨_, _, _, _, rfl⟩

theorem rset (s : State) (e : El) (u v : Nat) : OnlyPorts s (s.rset e u v) := ⟨_, _, _, _, rfl⟩

theorem draw (s : State) : OnlyPorts s s.draw.2 := ⟨_, _, _, _, rfl⟩

theorem raise (s : State) (v c u : Nat) (d : Bytes) : OnlyPorts s (s.raise v c u d) := by
  obtain ⟨g, r, h⟩ := raise_frame s v c u d
  exact ⟨_, _, _, _, h⟩

theorem foldl {α : Type} {f : State → α → State} (hf : ∀ t a, OnlyPorts t (f t a)) (l : List α) (s : State) :
    OnlyPorts s (l.foldl f s) := by
  induction l generalizing s with
  | nil => exact refl s
  | cons a l ih => exact (hf s a).trans (ih _)

theorem ite {c : Prop} [Decidable c] {s t r : State} (ht : OnlyPorts s t) (hr : OnlyPorts s r) : OnlyPorts s (if c then t else r) := by
  split
  · exact ht
  · exact hr

variable {s t : State} (h : OnlyPorts s t)
include h

theorem tb : t.tb = s.tb := by obtain ⟨_, _, _, _, rfl⟩ := h; rfl
theorem dev : t.dev = s.dev := by obtain ⟨_, _, _, _, rfl⟩ := h; rfl
theorem rb : t.rb = s.rb := by obtain ⟨_, _, _, _, rfl⟩ := h; rfl
theorem lossFrom : t.lossFrom = s.lossFrom := by obtain ⟨_, _, _, _, rfl⟩ := h; rfl
theorem lossHeld : t.lossHeld = s.lossHeld := by obtain ⟨_, _, _, _, rfl⟩ := h; rfl

end OnlyPorts

theorem leaveAligned_onlyPorts (p level : Nat) (s : State) : OnlyPorts s (leaveAligned p level s) :=
  .ite (((OnlyPorts.setPort ..).trans (.rset ..)).trans (.raise ..)) (.refl s)

theorem loseFramed_onlyPorts (p level : Nat) (s : State) : OnlyPorts s (loseFramed p level s) :=
  (leaveAligned_onlyPorts p level s).trans (.setPort ..)

theorem loseCode_onlyPorts (p level : Nat) (s : State) : OnlyPorts s (loseCode p level s) :=
  (loseFramed_onlyPorts p level s).trans (.setPort ..)

theorem keepEq_onlyPorts (p : Nat) (s : State) : OnlyPorts s (keepEq p s) := .ite ((OnlyPorts.draw s).trans (.rset ..)) (.refl s)

theorem addFree_onlyPorts (e : El) (u : Nat) (s : State) : OnlyPorts s (addFree e u s) := (OnlyPorts.draw s).trans (.rset ..)

theorem loseCdr_onlyPorts (p level : Nat) (s : State) : OnlyPorts s (loseCdr p level s) :=
  (((OnlyPorts.ite (addFree_onlyPorts ..) (.refl s)).trans (keepEq_onlyPorts ..)).trans (loseCode_onlyPorts ..)).trans (.setPort ..)

theorem settlePort_onlyPorts (p : Nat) (s : State) : OnlyPorts s (settlePort p s) := .ite (.refl s) (loseCdr_onlyPorts ..)

theorem settlePorts_onlyPorts (s : State) : OnlyPorts s (settlePorts s) := .foldl (fun t p => settlePort_onlyPorts p t) _ s

theorem eachPort_onlyPorts (f : Port → Port) (s : State) : OnlyPorts s (eachPort f s) := .foldl (fun _ _ => .setPort ..) _ s

theorem abortWindow_onlyPorts (p : Nat) (s : State) : OnlyPorts s (abortWindow p s) := by
  unfold abortWindow
  split
  · exact (OnlyPorts.setPort ..).trans (.rset ..)
  · exact .refl s

theorem abortWindows_onlyPorts (s : State) : OnlyPorts s (abortWindows s) := .foldl (fun t p => abortWindow_onlyPorts p t) _ s

theorem deskewFlush_onlyPorts (s : State) : OnlyPorts s (deskewFlush s) :=
  .foldl (fun t p => (leaveAligned_onlyPorts p 5 t).trans (.setPort ..)) _ s

/-- The registers that a port's losses write. -/
def portLossEls : List El := [.CODE_ERRORS, .EQ_STATE, .LOCK_LOSSES, .REC_LOST, .ALIGN_RESULT]

theorem eachPort_leaves {es : List El} (f : Port → Port) (s : State) : Leaves es s (eachPort f s) := by
  unfold eachPort
  exact .foldl (fun _ _ => .setPort ..) ..

theorem addFree_leaves {es : List El} {e : El} (he : e ∈ es) (u : Nat) (s : State) : Leaves es s (addFree e u s) :=
  (Leaves.draw s).trans (.radd he ..)

theorem leaveAligned_leaves (p level : Nat) (s : State) : Leaves portLossEls s (leaveAligned p level s) := by
  unfold leaveAligned
  have hl : El.LOCK_LOSSES ∈ portLossEls := by decide
  have hr : El.REC_LOST ∈ portLossEls := by decide
  exact .ite ((Leaves.setPort ..).trans ((Leaves.rinc hl _ _).trans (.raise hr ..))) (.refl s)

theorem loseFramed_leaves (p level : Nat) (s : State) : Leaves portLossEls s (loseFramed p level s) :=
  (leaveAligned_leaves p level s).trans (.of_regs rfl)

theorem loseCode_leaves (p level : Nat) (s : State) : Leaves portLossEls s (loseCode p level s) :=
  (loseFramed_leaves p level s).trans (.of_regs rfl)

theorem keepEq_leaves (p : Nat) (s : State) : Leaves portLossEls s (keepEq p s) := by
  have he : El.EQ_STATE ∈ portLossEls := by decide
  exact .ite ((Leaves.draw s).trans (.rset he ..)) (.refl s)

theorem loseCdr_leaves (p level : Nat) (s : State) : Leaves portLossEls s (loseCdr p level s) := by
  have he : El.CODE_ERRORS ∈ portLossEls := by decide
  unfold loseCdr
  extract_lets s₁ s₂
  have h₁ : Leaves portLossEls s s₁ := (Leaves.ite (addFree_leaves he p s) (.refl s)).trans (keepEq_leaves p _)
  exact (h₁.trans (loseCode_leaves p level s₁)).trans (.of_regs rfl)

theorem settlePort_leaves (p : Nat) (s : State) : Leaves portLossEls s (settlePort p s) := .ite (.refl s) (loseCdr_leaves p 1 s)

theorem settlePorts_leaves (s : State) : Leaves portLossEls s (settlePorts s) := .foldl (fun t p => settlePort_leaves p t) _ s

theorem abortWindow_leaves (p : Nat) (s : State) : Leaves portLossEls s (abortWindow p s) := by
  have he : El.ALIGN_RESULT ∈ portLossEls := by decide
  unfold abortWindow
  split
  · exact (Leaves.setPort ..).trans (.rset he ..)
  · exact .refl s

theorem abortWindows_leaves (s : State) : Leaves portLossEls s (abortWindows s) := .foldl (fun t p => abortWindow_leaves p t) _ s

theorem deskewFlush_leaves (s : State) : Leaves portLossEls s (deskewFlush s) :=
  .foldl (fun t p => (leaveAligned_leaves p 5 t).trans (.setPort ..)) _ s

theorem closeWindows_leaves (s : State) : Leaves portLossEls s (closeWindows s) := by
  unfold closeWindows
  extract_lets _ keep s₁
  have h₁ : Leaves portLossEls s s₁ := ⟨fun e he u => (abortWindows_leaves _).rget e he u⟩
  exact (h₁.trans (.foldl (fun t p => keepEq_leaves p t) _ _)).trans (eachPort_leaves ..)

/-- What closes with the windows: ports, and the windows that are open. -/
theorem closeWindows_onlyPorts (s : State) : ∃ w, OnlyPorts { s with rb := { s.rb with openWindows := w } } (closeWindows s) := by
  unfold closeWindows
  extract_lets _ keep s₁
  have h₁ : OnlyPorts _ s₁ := abortWindows_onlyPorts _
  exact ⟨_, (h₁.trans (.foldl (fun t p => keepEq_onlyPorts p t) _ _)).trans (eachPort_onlyPorts ..)⟩

end Sys2Proof.Machine
end

section
/-! O2: a microsecond passes on an empty queue (R367, R384, R397, R399). -/

namespace Sys2Proof.Machine

theorem bitOf_eq_testBit (v i : Nat) : bitOf v i = v.testBit i := by
  rw [bitOf, Nat.testBit_eq_decide_div_mod_eq]

/-- A source latched shows in the interrupts. -/
theorem latchIrq_bit (k : Nat) (s : State) : bitOf (latchIrq k s).core.irq k = true := by
  rw [bitOf_eq_testBit]
  exact (Nat.testBit_or _ _ _).trans (by simp [Nat.testBit_two_pow_self])

/-! ### The keeper's clock -/

theorem keeperClock_of_not_due {s : State} (h : ∀ x, s.keeper.failAt = some x → s.keeper.failed = true ∨ s.us < x) :
    keeperClock s = s := by
  unfold keeperClock
  split
  · next x hx =>
    obtain hf | hlt := h x hx
    · simp [hf]
    · rw [if_neg (by simp [Nat.ble_eq, Nat.not_le.mpr hlt])]
  · rfl

theorem keeperClock_of_due {s : State} {x : Nat} (hx : s.keeper.failAt = some x) (hf : s.keeper.failed = false) (hle : x ≤ s.us) :
    keeperClock s = loseKeeper s := by
  simp [keeperClock, hx, hf, Nat.ble_eq.mpr hle]

theorem keeperState_keeper (s : State) (v : Nat) : (s.keeperState v).keeper = s.keeper := by
  unfold State.keeperState
  extract_lets
  split <;> rfl

theorem keeperState_run (s : State) (v : Nat) : (s.keeperState v).run = s.run := by
  unfold State.keeperState
  extract_lets
  split <;> rfl

theorem keeperState_mtime (s : State) (v : Nat) : (s.keeperState v).core.mtime = s.core.mtime := by
  unfold State.keeperState
  extract_lets
  split <;> rfl

theorem keeperState_rget (s : State) (v : Nat) {e : El} (he : e ≠ .KP_STATE) (u : Nat) : (s.keeperState v).rget e u = s.rget e u := by
  unfold State.keeperState
  extract_lets
  split
  · simp [State.rget_rset, he]
  · rfl

theorem loseKeeper_failed (s : State) : (loseKeeper s).keeper.failed = true := by
  simp [loseKeeper, keeperState_keeper]

/-- A keeper that begins to fail leaves the watchdog, the timer and every register but KP_STATE and REC_LOST. -/
theorem keeperClock_keeps (s : State) :
    (keeperClock s).run = s.run ∧ (keeperClock s).core.mtime = s.core.mtime ∧
      ∀ e u, e ≠ .KP_STATE → e ≠ .REC_LOST → (keeperClock s).rget e u = s.rget e u := by
  unfold keeperClock
  split
  · split
    · simp +contextual [loseKeeper, keeperState_run, keeperState_mtime, keeperState_rget, raise_rget]
    · exact ⟨rfl, rfl, fun _ _ _ _ => rfl⟩
  · exact ⟨rfl, rfl, fun _ _ _ _ => rfl⟩

/-! ### The watchdog -/

theorem releaseLockOf_mtime (c : Nat) (s : State) : (releaseLockOf c s).core.mtime = s.core.mtime := by
  unfold releaseLockOf releaseLock
  split
  · split <;> simp
  · rfl

theorem lockVault_mtime (s : State) : (lockVault s).core.mtime = s.core.mtime := by
  unfold lockVault
  split <;> rfl

theorem dropStaged_mtime (s : State) : (dropStaged s).core.mtime = s.core.mtime := by
  unfold dropStaged
  split
  · obtain ⟨r, m, i, h⟩ := setQueue_frame s s.mbox.pushTo { s.queue s.mbox.pushTo with waited := false }
    rw [h]
  · rfl

theorem coreReset_mtime (cause : Nat) (s : State) : (coreReset cause s).core.mtime = s.core.mtime := by
  unfold coreReset
  extract_lets s₁ s₂ s₃
  have h : s₃.core.mtime = s.core.mtime := by
    simp [s₃, s₂, s₁, startCore, State.draw, dropCoreWork, State.rinc, State.radd, State.setRun, dropStaged_mtime, lockVault_mtime, releaseLockOf_mtime]
  split <;> simp [h]

theorem coreReset_cause (cause : Nat) (s : State) : (coreReset cause s).rget .CORE_RESET_CAUSE = cause := by
  simp [coreReset, raise_rget, apply_ite (fun t : State => t.rget .CORE_RESET_CAUSE)]

/-! ### The microsecond -/

/-- What ticks before the watchdog does: UPTIME, the keeper's clock and the core's timer. -/
def clocksTicked (s : State) : State := tickCore (keeperClock (s.rinc .UPTIME))

theorem idle_of_oscillates {s : State} (hp : s.dev ≠ .powerOff) (hr : s.dev ≠ .reset) : idle s = tickWatchdog (clocksTicked s) := by
  simp [idle, State.oscillates, hp, hr, clocksTicked]

theorem idle_of_still {s : State} (h : s.dev = .powerOff ∨ s.dev = .reset) : idle s = s := by
  obtain h | h := h <;> simp [idle, State.oscillates, h]

theorem clocksTicked_mtime (s : State) : (clocksTicked s).core.mtime = (s.core.mtime + 100) % 2 ^ 64 := by
  obtain ⟨-, hm, -⟩ := keeperClock_keeps (s.rinc .UPTIME)
  simp [clocksTicked, tickCore, settleTimer, hm]

theorem clocksTicked_stageOver (s : State) (k : Nat) : (clocksTicked s).stageOver k = s.stageOver k := by
  obtain ⟨hr, -, hg⟩ := keeperClock_keeps (s.rinc .UPTIME)
  simp [clocksTicked, tickCore, settleTimer, State.stageOver, State.wdtCounts, State.rflag, hr, hg, State.rget_rinc]

theorem tickWatchdog_of_left {s : State} (h0 : s.stageOver 0 = false) (h1 : s.stageOver 1 = false) :
    ∃ r, tickWatchdog s = { s with run := r } := by
  unfold tickWatchdog
  rw [h0, h1]
  cases s.wdtCounts
  · exact ⟨s.run, rfl⟩
  · exact ⟨_, rfl⟩

theorem tickWatchdog_mtime (s : State) : (tickWatchdog s).core.mtime = s.core.mtime := by
  unfold tickWatchdog
  split
  · rfl
  · split
    · rw [endSecondStage, coreReset_mtime, State.rinc, State.radd_core]
    · split <;> rfl

theorem tickWatchdog_of_over {s : State} (h : s.stageOver 1 = true) : tickWatchdog s = endSecondStage s := by
  have h0 : s.stageOver 0 = false := by
    simp only [State.stageOver, Bool.and_eq_true, beq_iff_eq] at h
    simp [State.stageOver, h.1.2]
  simp [tickWatchdog, h0, h]

/-- The core's reset leaves a failed keeper failed. -/
theorem coreReset_keeper (cause : Nat) (s : State) : (coreReset cause s).keeper = s.keeper := by
  unfold coreReset
  extract_lets s₁ s₂ s₃
  have h : s₃.keeper = s.keeper := by
    have hl : ∀ c (t : State), (releaseLockOf c t).keeper = t.keeper := fun c t => by
      unfold releaseLockOf releaseLock
      split
      · split <;> simp
      · rfl
    have hv : ∀ t : State, (lockVault t).keeper = t.keeper := fun t => by
      unfold lockVault
      split <;> rfl
    have hd : ∀ t : State, (dropStaged t).keeper = t.keeper := fun t => by
      unfold dropStaged
      split
      · obtain ⟨r, m, i, h⟩ := setQueue_frame t t.mbox.pushTo { t.queue t.mbox.pushTo with waited := false }
        rw [h]
      · rfl
    simp [s₃, s₂, s₁, startCore, State.draw, dropCoreWork, State.rinc, State.radd, State.setRun, hl, hv, hd]
  split <;> simp [h]

theorem tickWatchdog_keeper (s : State) : (tickWatchdog s).keeper = s.keeper := by
  unfold tickWatchdog
  split
  · rfl
  · split
    · rw [endSecondStage, coreReset_keeper, State.rinc, State.radd_keeper]
    · split <;> rfl

theorem us_after_tick (s : State) : (s.rinc .UPTIME).us = Nat.min (s.us + 1) (El.UPTIME.modulus - 1) := by
  simp [State.us, State.rinc, State.rget_radd]

theorem tickCore_keeper (s : State) : (tickCore s).keeper = s.keeper := rfl

theorem clocksTicked_failed {s : State} {x : Nat} (hx : s.keeper.failAt = some x) (hf : s.keeper.failed = false)
    (hle : x ≤ Nat.min (s.us + 1) (El.UPTIME.modulus - 1)) : (clocksTicked s).keeper.failed = true := by
  have h := keeperClock_of_due (s := s.rinc .UPTIME) (x := x) hx hf (by rwa [us_after_tick])
  rw [clocksTicked, h, tickCore_keeper, loseKeeper_failed]

/-- Where the keeper holds, what ticks is UPTIME and the timer. -/
theorem clocksTicked_of_sound {s : State} (h : ∀ x, s.keeper.failAt = some x → s.keeper.failed = true ∨ s.us + 1 < x) :
    clocksTicked s = tickCore (s.rinc .UPTIME) := by
  unfold clocksTicked
  rw [keeperClock_of_not_due]
  intro x hx
  refine (h x hx).imp_right fun hlt => lt_of_le_of_lt ?_ hlt
  rw [us_after_tick]
  exact Nat.min_le_left _ _

/-- Settles O2: each of the idle step's parts is judged by its own case, and the stages of the watchdog exclude each other. -/
theorem stepIdles : Obligations.StepIdles := by
  unfold Obligations.StepIdles
  intro s hs
  refine ⟨idle s, by simp [step, hs], idle_of_still, fun hp hr => ?_⟩
  rw [idle_of_oscillates hp hr]
  refine ⟨by rw [tickWatchdog_mtime, clocksTicked_mtime], fun h0 h1 hk => ?_, fun h0 => ?_, fun h1 => ?_, fun x hx hf hle => ?_⟩
  · obtain ⟨r, hr⟩ := tickWatchdog_of_left (s := clocksTicked s) (by rw [clocksTicked_stageOver, h0]) (by rw [clocksTicked_stageOver, h1])
    rw [hr, clocksTicked_of_sound hk]
    refine ⟨us_after_tick s, fun k hne => mfind_mset_other _ _ _ _ _ hne, rfl, rfl, rfl, rfl, rfl, hs, rfl⟩
  · rw [tickWatchdog, clocksTicked_stageOver, h0]
    exact ⟨latchIrq_bit 8 _, rfl⟩
  · rw [tickWatchdog_of_over (by rw [clocksTicked_stageOver, h1])]
    exact coreReset_cause 1 _
  · rw [tickWatchdog_keeper]
    exact clocksTicked_failed hx hf hle

end Sys2Proof.Machine
end

section
/-! O4: the settings of the time base (R35 to R52). -/

namespace Sys2Proof.Machine

open Sys2Proof.Safety

/-! ### What a return to NO_CLOCK leaves -/

/-- The registers that a return to NO_CLOCK may write. -/
def noClockEls : List El := portLossEls ++ [.RING_STRIPES, .RING_DEPTH, .RING_STATE]

@[simp] theorem foldl_tb {α : Type} {f : State → α → State} {l : List α} {s : State} (hf : ∀ t a, (f t a).tb = t.tb) :
    (l.foldl f s).tb = s.tb := by
  induction l generalizing s with
  | nil => rfl
  | cons a l ih => rw [List.foldl_cons, ih, hf]

@[simp] theorem setDepth_tb (q : Nat) (s : State) : (setDepth q s).tb = s.tb := rfl

@[simp] theorem resetRing_tb (q : Nat) (s : State) : (resetRing q s).tb = s.tb := by
  unfold resetRing
  split <;> rfl

theorem resetRing_leaves (q : Nat) (s : State) : Leaves noClockEls s (resetRing q s) := by
  constructor
  intro e he u
  simp only [noClockEls, portLossEls, List.cons_append, List.nil_append, List.mem_cons, List.not_mem_nil, or_false, not_or] at he
  unfold resetRing setDepth
  split <;> simp [State.rget_rset, he]

theorem closeWindows_tb (s : State) : (closeWindows s).tb = s.tb := by
  obtain ⟨w, h⟩ := closeWindows_onlyPorts s
  exact h.tb

theorem toNoClock_tb (s : State) : (toNoClock s).tb = TimeBase.reset := by
  unfold toNoClock
  extract_lets _ s₁ _ s₂
  have h₁ : s₁.tb = TimeBase.reset := closeWindows_tb _
  have h₂ : s₂.tb = s₁.tb := rfl
  rw [foldl_tb (fun t q => resetRing_tb q t), (eachPort_onlyPorts ..).tb, (settlePorts_onlyPorts ..).tb, h₂, h₁]

theorem toNoClock_leaves (s : State) : Leaves noClockEls s (toNoClock s) := by
  have hsub : portLossEls ⊆ noClockEls := List.subset_append_left ..
  unfold toNoClock
  extract_lets _ s₁ _ s₂
  have h₁ : Leaves noClockEls s s₁ := ⟨fun e he u => by
    rw [((closeWindows_leaves _).mono hsub).rget e he u, rget_mk, rget_mk]
    split <;> rfl⟩
  have h₂ : Leaves noClockEls s₁ s₂ := .of_regs rfl
  exact (((h₁.trans h₂).trans ((settlePorts_leaves s₂).mono hsub)).trans (eachPort_leaves ..)).trans
    (.foldl (fun t q => resetRing_leaves q t) ..)

theorem unqualified_leaves (s : State) : Leaves noClockEls s (unqualified s) := by
  have hr : El.REC_LOST ∈ noClockEls := by decide
  unfold unqualified
  extract_lets p _ s₁
  have h₁ : Leaves noClockEls s s₁ := .of_regs rfl
  exact h₁.trans (.ite (.refl _) ((Leaves.setPort ..).trans (.raise hr ..)))

theorem unqualified_tb (s : State) : (unqualified s).tb = { s.tb with srcPresent := false } := by
  unfold unqualified
  extract_lets p _ s₁
  split
  · rfl
  · rw [raise_tb]
    rfl

theorem judgeTiming_leaves (s : State) : Leaves noClockEls s (judgeTiming s) :=
  .ite (.refl s) (.ite (.setPort ..) (unqualified_leaves s))

/-- A judgement of the timing port leaves the time base, but SRC_PRESENT. -/
theorem judgeTiming_tb (s : State) (h : s.tb.srcPresent = false) : (judgeTiming s).tb = s.tb := by
  unfold judgeTiming
  extract_lets p
  split
  · rfl
  · split
    · rfl
    · rw [unqualified_tb, ← h]

theorem storeTimeSetting_same {e : El} {v : Nat} {s : State} (h : s.rget e = v) : storeTimeSetting e v s = s := if_pos h

theorem judgeTiming_stored {e : El} {v : Nat} {t : State} (he : e ∉ noClockEls) (ht : t.rget e = v) (hb : t.tb = TimeBase.reset) :
    (judgeTiming t).rget e = v ∧ (judgeTiming t).tb = TimeBase.reset := by
  refine ⟨?_, ?_⟩
  · rw [(judgeTiming_leaves t).rget e he, ht]
  · rw [judgeTiming_tb t (by rw [hb]; rfl), hb]

/-- A changed setting of the time base is stored, and the time base stands as reset leaves it. -/
theorem storeTimeSetting_changed {e : El} {v : Nat} {s : State} (h : s.rget e ≠ v) (he : e ∉ noClockEls) :
    (storeTimeSetting e v s).rget e = v ∧ (storeTimeSetting e v s).tb = TimeBase.reset := by
  have hb : (toNoClock (s.rset e 0 v)).tb = TimeBase.reset := toNoClock_tb _
  have hg : (toNoClock (s.rset e 0 v)).rget e = v := by rw [(toNoClock_leaves _).rget e he, State.rget_rset_same]
  rw [storeTimeSetting, if_neg h]
  refine judgeTiming_stored he ?_ ?_
  · split
    · rw [(eachPort_leaves (es := noClockEls) ..).rget e he, hg]
    · exact hg
  · split
    · rw [(eachPort_onlyPorts ..).tb, hb]
    · exact hb

/-- What an accepted write of a time setting does whose handler stores it so. -/
theorem write_timeSetting {w : Route} {e : El} {v : Nat} {h : Handler} {s : State} (ha : accepts w e 0 v s = true)
    (hr : h.allow w v s = true) (hv : h.range v s = true) (hact : h.act v s = .ok (storeTimeSetting e v s)) (he : e ∉ noClockEls) :
    (s.rget e = v → write w e 0 v h s = performed w s) ∧
      (s.rget e ≠ v → ∃ t, write w e 0 v h s = performed w t ∧ t.rget e = v ∧ t.tb = TimeBase.reset) :=
  ⟨fun hs => write_performed ha hr hv (by rw [hact, storeTimeSetting_same hs]),
    fun hs => ⟨_, write_performed ha hr hv hact, storeTimeSetting_changed hs he⟩⟩

/-! ### SYNC_ROLE -/

theorem align_st (x : Nat) (s : State) : (align x s).tb.st = .aligned := by
  unfold align
  extract_lets was back s₁ s₂ _ tb s₃
  have h₂ : s₂.tb.st = .aligned := by
    unfold s₂ toTb
    split
    · assumption
    · rfl
  have h₃ : s₃.tb.st = .aligned := h₂
  split
  · rw [(deskewFlush_onlyPorts ..).tb, h₃]
  · rw [(eachPort_onlyPorts ..).tb, h₃]

theorem stepRing_rget (first last q : Nat) (s : State) (e : El) (u : Nat) : (stepRing first last q s).rget e u = s.rget e u := by
  unfold stepRing
  split <;> rfl

/-- The registers that an alignment may write. -/
def alignEls : List El := portLossEls ++ [.STEP_FIRST, .STEP_LAST]

theorem stepOver_leaves (first last : Nat) (s : State) : Leaves alignEls s (stepOver first last s) := by
  have h1 : El.STEP_FIRST ∈ alignEls := by decide
  have h2 : El.STEP_LAST ∈ alignEls := by decide
  have hr : El.REC_LOST ∈ alignEls := by decide
  unfold stepOver
  extract_lets s₁ _ s₂
  have hs₁ : Leaves alignEls s s₁ := (Leaves.rset h1 ..).trans (.rset h2 ..)
  have hs₂ : Leaves alignEls s₁ s₂ :=
    ⟨fun e he u => (Leaves.foldl (fun t q => ⟨fun e _ u => stepRing_rget first last q t e u⟩) _ _).rget e he u⟩
  exact (hs₁.trans hs₂).trans (.raise hr ..)

theorem align_leaves (x : Nat) (s : State) : Leaves alignEls s (align x s) := by
  unfold align
  extract_lets was back s₁ s₂ _ tb s₃
  have h₁ : Leaves alignEls s s₁ := .ite (stepOver_leaves ..) (.refl s)
  have h₂ : Leaves alignEls s₁ s₂ := .ite (.refl _) (.of_regs rfl)
  have h₃ : Leaves alignEls s₂ s₃ := .of_regs rfl
  exact ((h₁.trans h₂).trans h₃).trans (.ite ((deskewFlush_leaves _).mono (List.subset_append_left ..)) (eachPort_leaves ..))

theorem alignAtOnce_of_marker {s : State} (h : s.needsNoMarker = false ∨ s.tb.st ≠ .locked ∧ s.tb.st ≠ .realign) :
    alignAtOnce s = s := by
  unfold alignAtOnce
  obtain h | ⟨hl, hr⟩ := h
  · rw [h]; rfl
  · split
    · rfl
    · cases hst : s.tb.st <;> simp_all

theorem alignAtOnce_of_none {s : State} (h : s.needsNoMarker = true) (hs : s.tb.st = .locked ∨ s.tb.st = .realign) :
    ∃ x, alignAtOnce s = align x s := by
  unfold alignAtOnce
  rw [h]
  obtain hs | hs := hs <;> rw [hs] <;> exact ⟨_, rfl⟩

/-- The state that SYNC_ROLE leaves before it is judged whether a marker is needed. -/
def roleStored (v : Nat) (s : State) : State :=
  { s.rset .SYNC_ROLE 0 v with
    tb := { s.tb with syncOut := if v = 1 then s.tb.syncOut else none
                      prov := if s.follower = decide (v = 2) then s.tb.prov else none } }

theorem roleStored_rget (v : Nat) (s : State) : (roleStored v s).rget .SYNC_ROLE = v := State.rget_rset_same ..

theorem roleStored_needsNoMarker (v : Nat) (s : State) : (roleStored v s).needsNoMarker = (s.L == 1 && !decide (v = 2)) := by
  have hl : (roleStored v s).L = s.L := State.rget_rset ..
  rw [State.needsNoMarker, hl, State.follower, roleStored_rget]
  rfl

theorem hSyncRole_act (v : Nat) (s : State) : hSyncRole.act v s = .ok (alignAtOnce (roleStored v s)) := by
  have hf : ∀ p : Prop, ∀ [Decidable p], ∀ b : TimeBase,
      (if p then s.rset .SYNC_ROLE 0 v else { s.rset .SYNC_ROLE 0 v with tb := b }).follower = decide (v = 2) := fun p _ b => by
    rw [apply_ite State.follower]
    exact (ite_self _).trans (by rw [State.follower, State.rget_rset_same]; rfl)
  show Except.ok (alignAtOnce _) = _
  rw [hf]
  congr 2
  unfold roleStored
  split <;> split <;> rfl

/-- Settles O4: each setting through its own handler; a changed time setting through what a return to NO_CLOCK leaves. -/
theorem timeSettings : Obligations.TimeSettings := by
  unfold Obligations.TimeSettings
  refine ⟨fun w v s => ⟨fun ha => ⟨fun hv => ?_, fun hv => ?_⟩, fun ha => ⟨fun hv => ?_, fun hv => ?_⟩, fun ha => ⟨fun hv => ?_, fun hv => ?_⟩,
    fun ha => ⟨fun hv => ?_, fun hv => ?_⟩, fun ha => ⟨fun hm => ?_, fun hl hv hs => ?_⟩⟩, fun w v s => ⟨?_, fun ha hv => ?_⟩⟩
  · exact write_stores ha rfl (Nat.blt_eq.mpr hv) rfl
  · exact write_outOfRange ha rfl (by simpa [hOrbitOffset, Nat.blt_eq, Bool.eq_false_iff] using hv)
  · exact write_stores ha rfl (Nat.ble_eq.mpr hv) rfl
  · exact write_outOfRange ha rfl (by simpa [hSyncEvery, Nat.ble_eq, Bool.eq_false_iff] using hv)
  · exact write_stores ha rfl (Nat.blt_eq.mpr hv) rfl
  · exact write_outOfRange ha rfl (by simpa [hSyncSamplePhase, Nat.blt_eq, Bool.eq_false_iff] using hv)
  · exact write_stores ha rfl (Nat.blt_eq.mpr hv) rfl
  · exact write_outOfRange ha rfl (by simpa [hFineDelay, Nat.blt_eq, Bool.eq_false_iff] using hv)
  · have hn : alignAtOnce (roleStored v s) = roleStored v s := by
      refine alignAtOnce_of_marker ?_
      rw [roleStored_needsNoMarker]
      obtain h | h | h := hm
      · exact .inl (by simp [h])
      · exact .inl (by simp [h])
      · exact .inr h
    refine ⟨roleStored v s, write_performed ha rfl rfl (by rw [hSyncRole_act, hn]), roleStored_rget v s, rfl, rfl, fun k hk => ?_⟩
    exact mfind_mset_other _ _ _ _ _ hk
  · obtain ⟨x, hx⟩ := alignAtOnce_of_none (s := roleStored v s) (by simp [roleStored_needsNoMarker, hl, hv]) hs
    refine ⟨align x (roleStored v s), write_performed ha rfl rfl (by rw [hSyncRole_act, hx]), ?_, align_st ..⟩
    rw [(align_leaves ..).rget _ (by decide), roleStored_rget]
  · simp only [List.forall_mem_cons, List.not_mem_nil, false_implies, implies_true, and_true]
    refine ⟨fun ha hv => ?_, fun ha hv => ?_, fun ha hv => ?_, fun ha hv => ?_, fun ha hv => ?_, fun ha hv => ?_⟩
    · exact write_timeSetting (h := hClkSrc) ha rfl rfl rfl (by decide)
    · exact write_timeSetting (h := hTimingPort) ha rfl rfl rfl (by decide)
    · exact write_timeSetting (h := hMclkNominal) ha rfl hv rfl (by decide)
    · exact write_timeSetting (h := hOrbitLen) ha rfl hv rfl (by decide)
    · exact write_timeSetting (h := hFabricRatio) ha rfl hv rfl (by decide)
    · exact write_timeSetting (h := hAlignSrc) ha rfl rfl rfl (by decide)
  · exact write_outOfRange (h := hOrbitLen) ha rfl (by simpa [hOrbitLen, Nat.ble_eq, Bool.eq_false_iff] using hv)

end Sys2Proof.Machine
end

section
/-! Which functions of a crossing leave the time base: one rule per function, in the order of the definitions. -/

namespace Sys2Proof.Machine

open Sys2Proof.Safety

@[simp] theorem tb_ite (c : Prop) [Decidable c] (s t : State) : (if c then s else t).tb = if c then s.tb else t.tb := apply_ite ..

@[simp] theorem snd_tb_ite {α : Type} (c : Prop) [Decidable c] (a b : α × State) :
    (if c then a else b).2.tb = if c then a.2.tb else b.2.tb :=
  apply_ite (fun r : α × State => r.2.tb) ..

@[simp] theorem State.raise_tb (s : State) (e u v : Nat) (b) : (s.raise e u v b).tb = s.tb := by
  obtain ⟨g, r, h⟩ := raise_frame s e u v b
  simp [h]

@[simp] theorem State.draw_tb (s : State) : s.draw.2.tb = s.tb := by simp [State.draw]

@[simp] theorem latchIrq_tb (k : Nat) (s : State) : (latchIrq k s).tb = s.tb := by simp [latchIrq]

@[simp] theorem State.raiseLimited_tb (s : State) (period key severity code unit : Nat) (detail : Bytes) :
    (s.raiseLimited period key severity code unit detail).tb = s.tb := by
  unfold State.raiseLimited
  split <;> simp

@[simp] theorem takeHalt_tb (cause trigger : Nat) (broken : Bool) (s : State) :
    (takeHalt cause trigger broken s).tb = s.tb := by
  simp [takeHalt]

@[simp] theorem takeDeferred_tb (broken : Bool) (s : State) : (takeDeferred broken s).tb = s.tb := by
  unfold takeDeferred
  split <;> simp

@[simp] theorem coreTrap_tb (cause value : Nat) (s : State) : (coreTrap cause value s).tb = s.tb := by simp [coreTrap]

@[simp] theorem accessFault_tb (store : Bool) (a : Nat) (s : State) : (accessFault store a s).tb = s.tb := by
  simp [accessFault]

@[simp] theorem pendIbi_tb (mdb first second : Nat) (s : State) : (pendIbi mdb first second s).tb = s.tb := by
  simp [pendIbi]

@[simp] theorem ownerInterrupt_tb (n cause : Nat) (s : State) : (ownerInterrupt n cause s).tb = s.tb := by
  simp [ownerInterrupt]

@[simp] theorem correctable_tb (n addr syndrome : Nat) (s : State) : (correctable n addr syndrome s).tb = s.tb := by
  simp [correctable]

@[simp] theorem setRepairs_tb (q : Nat) (l : List (Nat × Bool)) (s : State) : (setRepairs q l s).tb = s.tb := by
  simp [setRepairs]

@[simp] theorem listRepair_tb (n addr : Nat) (ue : Bool) (s : State) : (listRepair n addr ue s).tb = s.tb := by
  simp [listRepair]

@[simp] theorem uncorrectable_tb (n addr index router : Nat) (s : State) :
    (uncorrectable n addr index router s).tb = s.tb := by
  simp [uncorrectable]

@[simp] theorem readStored_tb (w : StoredWord) (n addr index router : Nat) (s : State) :
    (readStored w n addr index router s).2.tb = s.tb := by
  unfold readStored
  dsimp only
  split <;> simp

@[simp] theorem readRowAs_tb (w0 w1 : StoredWord) (n row index router : Nat) (s : State) :
    (readRowAs w0 w1 n row index router s).2.tb = s.tb := by
  simp [readRowAs]

@[simp] theorem foundWords_tb (n row : Nat) (cycle : Option Nat) (s : State) :
    (foundWords n row cycle s).2.tb = s.tb := by
  unfold foundWords
  induction (s.bank n).prior with
  | nil => rfl
  | cons p l ih =>
    rw [List.foldr_cons]
    split
    · exact ih
    · split
      · exact ih
      · exact ih
      · simpa using ih

@[simp] theorem keepPrior_tb (n row : Nat) (cycle : Option Nat) (s : State) : (keepPrior n row cycle s).tb = s.tb := by
  simp [keepPrior]

@[simp] theorem overlayPrior_tb (n row : Nat) (d : BitVec 128) (be : Nat) (s : State) :
    (overlayPrior n row d be s).tb = s.tb := by
  simp [overlayPrior]

@[simp] theorem poisonPrior_tb (n row : Nat) (s : State) : (poisonPrior n row s).tb = s.tb := by simp [poisonPrior]

@[simp] theorem agePriors_tb (s : State) : (agePriors s).tb = s.tb := by simp [agePriors]

@[simp] theorem faultOfCore_tb (n : Nat) (w : Waiting) (a : Answer) (s : State) : (faultOfCore n w a s).tb = s.tb := by
  unfold faultOfCore
  split <;> simp

@[simp] theorem answerLane_tb (key order : Nat) (a : Answer) (s : State) : (answerLane key order a s).tb = s.tb := by
  simp [answerLane]

@[simp] theorem answerFixed_tb (key order : Nat) (a : Answer) (s : State) : (answerFixed key order a s).tb = s.tb := by
  simp [answerFixed]

@[simp] theorem denied_tb (n : Nat) (r : Requester) (s : State) : (denied n r s).tb = s.tb := by simp [denied]

@[simp] theorem answerRequest_tb (n : Nat) (w : Waiting) (a : Answer) (s : State) :
    (answerRequest n w a s).tb = s.tb := by
  simp [answerRequest]

@[simp] theorem startHandover_tb (n v : Nat) (s : State) : (startHandover n v s).tb = s.tb := by simp [startHandover]

@[simp] theorem keepEq_tb (p : Nat) (s : State) : (keepEq p s).tb = s.tb := by simp [keepEq]

@[simp] theorem displace_tb (p source : Nat) (s : State) : (displace p source s).tb = s.tb := by simp [displace]

@[simp] theorem presentPort_tb (p c : Nat) (s : State) : (presentPort p c s).tb = s.tb := by
  unfold presentPort
  dsimp only
  split <;> simp

@[simp] theorem closeAlign_tb (d result q : Nat) (s : State) : (closeAlign d result q s).tb = s.tb := by
  unfold closeAlign
  split <;> simp

@[simp] theorem endAlign_tb (p : Nat) (s : State) : (endAlign p s).tb = s.tb := by simp [endAlign]

@[simp] theorem alignAtBoundary_tb (p : Nat) (s : State) : (alignAtBoundary p s).tb = s.tb := by
  unfold alignAtBoundary
  dsimp only
  split <;> simp

@[simp] theorem skipStripe_tb (q t : Nat) (s : State) : (skipStripe q t s).tb = s.tb := by simp [skipStripe]

@[simp] theorem seekStripe_tb (q fuel stripe : Nat) (s : State) : (seekStripe q fuel stripe s).2.tb = s.tb := by
  fun_induction seekStripe <;> simp [*]

@[simp] theorem openStripe_tb (q t c : Nat) (s : State) : (openStripe q t c s).tb = s.tb := by simp [openStripe]

@[simp] theorem starve_tb (q c : Nat) (s : State) : (starve q c s).tb = s.tb := by simp [starve]

@[simp] theorem allocate_tb (q c : Nat) (s : State) : (allocate q c s).tb = s.tb := by
  unfold allocate
  dsimp only
  (repeat' split) <;> simp

@[simp] theorem judgeStarved_tb (q c : Nat) (s : State) : (judgeStarved q c s).tb = s.tb := by
  unfold judgeStarved
  dsimp only
  split
  · simp
  · split <;> simp

@[simp] theorem ringWriter_tb (q t : Nat) (s : State) : (ringWriter q t s).tb = s.tb := by simp [ringWriter]

@[simp] theorem storeRows_tb (q stripe rec_ i w : Nat) (rows : List (BitVec 128)) (s : State) :
    (storeRows q stripe rec_ i w rows s).tb = s.tb := by
  fun_induction storeRows <;> simp [*]

@[simp] theorem storeEntry_tb (p c : Nat) (words : List (BitVec 64)) (s : State) :
    (storeEntry p c words s).tb = s.tb := by
  simp only [storeEntry]
  split
  · split <;> simp
  · simp

@[simp] theorem startRing_tb (q : Nat) (s : State) : (startRing q s).tb = s.tb := by simp [startRing]

@[simp] theorem startWake_tb (n : Nat) (s : State) : (startWake n s).tb = s.tb := by simp [startWake]

@[simp] theorem endWake_tb (n : Nat) (s : State) : (endWake n s).tb = s.tb := by simp [endWake]

@[simp] theorem wakeForAccess_tb (n : Nat) (s : State) : (wakeForAccess n s).tb = s.tb := by simp [wakeForAccess]

@[simp] theorem banksReady_tb (banks : List Nat) (s : State) : (banksReady banks s).2.tb = s.tb := by simp [banksReady]

@[simp] theorem State.keeperState_tb (s : State) (v : Nat) : (s.keeperState v).tb = s.tb := by simp [State.keeperState]

@[simp] theorem writeSector_tb (sector : Nat) (data : BitVec 512) (s : State) :
    (writeSector sector data s).tb = s.tb := by
  simp [writeSector]

@[simp] theorem relocate_tb (home id len value gen : Nat) (s : State) : (relocate home id len value gen s).tb = s.tb := by
  unfold relocate
  split <;> simp

theorem writeCounter_tb {k len v : Nat} {s t : State} (h : writeCounter k len v s = .ok t) : t.tb = s.tb := by
  unfold writeCounter at h
  extract_lets a ga gb home sec gen u at h
  split at h
  · cases h
  split at h
  · cases h
  split at h
  · cases h
  cases h
  simp [u]

@[simp] theorem countPause_tb (q which : Nat) (s : State) : (countPause q which s).tb = s.tb := by simp [countPause]

@[simp] theorem countPauses_tb (s : State) : (countPauses s).tb = s.tb := by simp [countPauses]

@[simp] theorem startMove_tb (q b spare : Nat) (back : Bool) (s : State) : (startMove q b spare back s).tb = s.tb := by
  simp [startMove]

theorem State.substitute_tb {s t : State} {q b : Nat} (h : s.substitute q b = some t) : t.tb = s.tb := by
  simp only [State.substitute] at h
  split at h
  · split at h
    · cases h
    · injection h with h
      simp [← h]
  · cases h

@[simp] theorem closeTest_tb (s : State) : (closeTest s).tb = s.tb := by simp [closeTest]

@[simp] theorem beyondRecord_tb (s : State) : (beyondRecord s).tb = s.tb := by simp [beyondRecord]

@[simp] theorem endTest_tb (s : State) : (endTest s).tb = s.tb := by
  unfold endTest
  extract_lets n b kind u v y w x
  have hw : w.tb = s.tb := by simp [w, y, v, u]
  have hx : x.tb = s.tb := by
    unfold x
    split
    · split
      · next h => simp [State.substitute_tb h, hw]
      · simp [hw]
    · exact hw
  simp [hx]

@[simp] theorem keepRepair_tb (id : Nat) (rows cols : List Nat) (s : State) : (keepRepair id rows cols s).tb = s.tb := by
  unfold keepRepair
  split <;> simp

@[simp] theorem spareRecord_tb (target address spare : Nat) (s : State) :
    (spareRecord target address spare s).tb = s.tb := by
  simp [spareRecord]

@[simp] theorem allocateSpares_tb (fails : List (Nat × Nat)) (s : State) : (allocateSpares fails s).tb = s.tb := by
  simp [allocateSpares]

@[simp] theorem clockReads_tb (ops : List MarchOp) (fails : List BistRead) (s : State) :
    (clockReads ops fails s).tb = s.tb := by
  unfold clockReads
  split <;> simp

@[simp] theorem showSignature_tb (s : State) : (showSignature s).tb = s.tb := by simp [showSignature]

@[simp] theorem setPhase_tb (p : Option SlicePhase) (s : State) : (setPhase p s).tb = s.tb := by simp [setPhase]

@[simp] theorem resetDescriptors_tb (s : State) : (resetDescriptors s).tb = s.tb := by simp [resetDescriptors]

@[simp] theorem returnBank_tb (n : Nat) (s : State) : (returnBank n s).tb = s.tb := by simp [returnBank]

@[simp] theorem endOffline_tb (s : State) : (endOffline s).tb = s.tb := by
  unfold endOffline
  extract_lets n u v
  have hv : v.tb = s.tb := by
    unfold v
    split <;> simp [u]
  simp [hv]

@[simp] theorem cutShort_tb (s : State) : (cutShort s).2.tb = s.tb := by simp [cutShort]

@[simp] theorem dropAlerts_tb (s : State) : (dropAlerts s).tb = s.tb := by simp [dropAlerts]

@[simp] theorem fabricCycle_tb (s : State) : (fabricCycle s).tb = s.tb := by simp [fabricCycle]

@[simp] theorem fabricCycles_tb (n : Nat) (s : State) : (fabricCycles n s).tb = s.tb := by
  fun_induction fabricCycles <;> simp [*]

@[simp] theorem reportRam_tb (d : Nat) (f : Nat × List (Nat × Nat)) (s : State) : (reportRam d f s).tb = s.tb := by
  simp [reportRam]

@[simp] theorem reportFound_tb (s : State) : (reportFound s).tb = s.tb := by simp [reportFound]

@[simp] theorem runTo_tb (phase : Nat) (s : State) : (runTo phase s).tb = s.tb := by simp [runTo]

@[simp] theorem strikeRam_tb (draw : Nat) (s : State) : (strikeRam draw s).tb = s.tb := by
  unfold strikeRam
  split <;> simp

@[simp] theorem endCycles_tb (s : State) : (endCycles s).tb = s.tb := by simp [endCycles]

@[simp] theorem switchFlops_tb (d j k : Nat) (s : State) : (switchFlops d j k s).tb = s.tb := by simp [switchFlops]

@[simp] theorem initShadow_tb (plane : Nat) (s : State) : (initShadow plane s).tb = s.tb := by simp [initShadow]

@[simp] theorem noteWritten_tb (plane : Nat) (s : State) : (noteWritten plane s).tb = s.tb := by simp [noteWritten]

@[simp] theorem noteSwitch_tb (d j k phase : Nat) (p : Nat × LedgerPath) (s : State) :
    (noteSwitch d j k phase p s).tb = s.tb := by
  simp [noteSwitch]

@[simp] theorem switchTo_tb (d k phase : Nat) (s : State) : (switchTo d k phase s).tb = s.tb := by simp [switchTo]

@[simp] theorem settleContext_tb (d phase : Nat) (s : State) : (settleContext d phase s).tb = s.tb := by
  simp [settleContext]

@[simp] theorem closeCtx_tb (entry phase d : Nat) (s : State) : (closeCtx entry phase d s).tb = s.tb := by simp [closeCtx]

@[simp] theorem dropWindows_tb (d : Nat) (s : State) : (dropWindows d s).tb = s.tb := by simp [dropWindows]

@[simp] theorem settleAtStart_tb (d : Nat) (s : State) : (settleAtStart d s).tb = s.tb := by simp [settleAtStart]

@[simp] theorem changeBase_tb (d : Nat) (s : State) : (changeBase d s).tb = s.tb := by
  unfold changeBase
  split <;> simp

@[simp] theorem State.setGuard_tb (s : State) (q u : Nat) (g : Guard) : (s.setGuard q u g).tb = s.tb := by
  simp [State.setGuard]

@[simp] theorem reenable_tb (key : Nat) (s : State) : (reenable key s).tb = s.tb := by simp [reenable]

@[simp] theorem setTicket_tb (t v : Nat) (s : State) : (setTicket t v s).tb = s.tb := by
  simp [setTicket]

@[simp] theorem setTickets_tb (ts : List Nat) (v : Nat) (s : State) : (setTickets ts v s).tb = s.tb := by
  simp [setTickets]

@[simp] theorem promoteRepairs_tb (s : State) : (promoteRepairs s).tb = s.tb := by simp [promoteRepairs]

@[simp] theorem dropQueued_tb (plane : Nat) (s : State) : (dropQueued plane s).2.tb = s.tb := by simp [dropQueued]

@[simp] theorem supersede_tb (plane : Nat) (s : State) : (supersede plane s).tb = s.tb := by simp [supersede]

@[simp] theorem settleSuperseded_tb (plane v : Nat) (s : State) : (settleSuperseded plane v s).tb = s.tb := by
  simp [settleSuperseded]

@[simp] theorem voidPlane_tb (plane : Nat) (s : State) : (voidPlane plane s).tb = s.tb := by simp [voidPlane]

@[simp] theorem emptyPlane_tb (plane : Nat) (s : State) : (emptyPlane plane s).tb = s.tb := by simp [emptyPlane]

@[simp] theorem keepStopped_tb (plane : Nat) (s : State) : (keepStopped plane s).tb = s.tb := by simp [keepStopped]

@[simp] theorem holdDistrict_tb (d : Nat) (s : State) : (holdDistrict d s).tb = s.tb := by simp [holdDistrict]

@[simp] theorem releaseFrom_tb (d : Nat) (s : State) : (releaseFrom d s).tb = s.tb := by simp [releaseFrom]

@[simp] theorem refill_tb (plane : Nat) (s : State) : (refill plane s).tb = s.tb := by simp [refill]

@[simp] theorem takeSlot_tb (plane : Nat) (s : State) : (takeSlot plane s).tb = s.tb := by
  unfold takeSlot
  split
  · simp
  · split
    · simp
    · split <;> simp

@[simp] theorem settleRepairs_tb (plane : Nat) (s : State) : (settleRepairs plane s).tb = s.tb := by simp [settleRepairs]

@[simp] theorem State.setQueue_tb (s : State) (q : Nat) (x : Queue) : (s.setQueue q x).tb = s.tb := by
  simp [State.setQueue]

@[simp] theorem showLevel_tb (s : State) : (showLevel s).tb = s.tb := by simp [showLevel]

@[simp] theorem warnOnce_tb (key code : Nat) (detail : Bytes) (s : State) : (warnOnce key code detail s).tb = s.tb := by
  simp [warnOnce]

@[simp] theorem refuseAccept_tb (reason : Nat) (s : State) : (refuseAccept reason s).tb = s.tb := by simp [refuseAccept]

@[simp] theorem takeAccept_tb (a : Accept) (s : State) : (takeAccept a s).tb = s.tb := by simp [takeAccept]

@[simp] theorem offerAccept_tb (a : Accept) (s : State) : (offerAccept a s).tb = s.tb := by simp [offerAccept]

@[simp] theorem judgeAccept_tb (a : Accept) (s : State) : (judgeAccept a s).tb = s.tb := by
  unfold judgeAccept
  split <;> simp

@[simp] theorem takeOffers_tb (s : State) : (takeOffers s).tb = s.tb := by simp [takeOffers]

@[simp] theorem handOver_tb (s : State) : (handOver s).tb = s.tb := by simp [handOver]

theorem foldl_snd_tb {α β : Type} {f : β × State → α → β × State} (h : ∀ r a, (f r a).2.tb = r.2.tb)
    (l : List α) (r : β × State) : (l.foldl f r).2.tb = r.2.tb := by
  induction l generalizing r with
  | nil => rfl
  | cons a l ih => rw [List.foldl_cons, ih, h]

@[simp] theorem clampTokens_tb (s : State) : (clampTokens s).tb = s.tb := by simp [clampTokens]

@[simp] theorem enterUp_tb (k : Nat) (s : State) : (enterUp k s).tb = s.tb := by simp [enterUp]

@[simp] theorem settleLink_tb (k : Nat) (s : State) : (settleLink k s).tb = s.tb := by simp [settleLink]

@[simp] theorem settleLinks_tb (s : State) : (settleLinks s).tb = s.tb := by simp [settleLinks]

@[simp] theorem sendBlocks_tb (k : Nat) (bs : List (BitVec 257)) (s : State) : (sendBlocks k bs s).tb = s.tb := by
  simp [sendBlocks]

@[simp] theorem sendC0_tb (k t : Nat) (ms : List (BitVec 64)) (s : State) : (sendC0 k t ms s).tb = s.tb := by
  unfold sendC0
  dsimp only
  (repeat' split) <;> simp

@[simp] theorem sendDueC0_tb (s : State) : (sendDueC0 s).tb = s.tb := by
  unfold sendDueC0
  refine foldl_tb fun t p => ?_
  split
  · extract_lets x u
    have hu : u.tb = t.tb := by simp [u]
    split <;> simp [hu]
  · rfl

@[simp] theorem holdDecision_tb (i t : Nat) (d : Decision) (s : State) : (holdDecision i t d s).tb = s.tb := by
  simp [holdDecision]

@[simp] theorem breach_tb (i p t code shown : Nat) (s : State) : (breach i p t code shown s).tb = s.tb := by simp [breach]

@[simp] theorem ariseSuspects_tb (s : State) : (ariseSuspects s).tb = s.tb := by
  unfold ariseSuspects
  refine foldl_tb fun t a => ?_
  (repeat' split) <;> simp

@[simp] theorem clearBreach_tb (s : State) : (clearBreach s).tb = s.tb := by simp [clearBreach]

@[simp] theorem timingAccept_tb (e : Presented) (s : State) : (timingAccept e s).tb = s.tb := by simp [timingAccept]

@[simp] theorem slewFineDelay_tb (s : State) : (slewFineDelay s).tb = s.tb := by simp [slewFineDelay]

@[simp] theorem showTap_tb (i : Nat) (x : LedgerTap) (fresh : Bool) (s : State) : (showTap i x fresh s).tb = s.tb := by
  simp [showTap]

@[simp] theorem hideTap_tb (i : Nat) (s : State) : (hideTap i s).tb = s.tb := by
  unfold hideTap
  dsimp only
  split <;> simp

@[simp] theorem putLedger_tb (l : Ledger) (fresh : Nat → Bool) (s : State) : (putLedger l fresh s).tb = s.tb := by
  have hr : ∀ (t : State) (u a b : Nat), ((t.rset .PATH_LDEC u a).rset .PATH_S u b).tb = t.tb := fun _ _ _ _ => rfl
  unfold putLedger
  extract_lets keep s₁ s₂ _ s₃ s₄
  have h₁ : s₁.tb = s.tb := foldl_tb fun t p => hideTap_tb p.1 t
  have h₂ : s₂.tb = s₁.tb := foldl_tb fun t p => hr t p.1 0 0
  have h₃ : s₃.tb = s₂.tb := rfl
  have h₄ : s₄.tb = s₃.tb := foldl_tb fun t p => hr t p.1 p.2.ldec p.2.entry
  exact (foldl_tb fun (t : State) (p : Nat × LedgerTap) => showTap_tb p.1 p.2 (fresh p.1) t).trans (h₄.trans (h₃.trans (h₂.trans h₁)))

@[simp] theorem eachDistrict_tb (f : District → District) (s : State) : (eachDistrict f s).tb = s.tb :=
  foldl_tb fun _ _ => rfl

@[simp] theorem endFreeze_tb (s : State) : (endFreeze s).tb = s.tb := by simp [endFreeze]

@[simp] theorem cancelStages_tb (s : State) : (cancelStages s).tb = s.tb := by
  unfold cancelStages
  dsimp only
  split <;> simp

@[simp] theorem dropLedger_tb (s : State) : (dropLedger s).tb = s.tb := by simp [dropLedger]

@[simp] theorem clearConfiguration_tb (s : State) : (clearConfiguration s).tb = s.tb := by simp [clearConfiguration]

@[simp] theorem failWaiting_tb (s : State) : (failWaiting s).tb = s.tb := by simp [failWaiting]

@[simp] theorem sendStatusOn_tb (k : Nat) (s : State) : (sendStatusOn k s).tb = s.tb := by simp [sendStatusOn]

@[simp] theorem sendLoaderStatus_tb (s : State) : (sendLoaderStatus s).tb = s.tb := by simp [sendLoaderStatus]

@[simp] theorem loadPhase_tb (v : Nat) (s : State) : (loadPhase v s).tb = s.tb := by simp [loadPhase]

@[simp] theorem dropWritten_tb (s : State) : (dropWritten s).tb = s.tb := by simp [dropWritten]

@[simp] theorem showFault_tb (f : LoadFault) (s : State) : (showFault f s).tb = s.tb := by simp [showFault]

@[simp] theorem recordFault_tb (f : LoadFault) (s : State) : (recordFault f s).tb = s.tb := by simp [recordFault]

@[simp] theorem takeBytes_tb (bs : Bytes) (s : State) : (takeBytes bs s).tb = s.tb := by simp [takeBytes]

@[simp] theorem beginPlane_tb (plane : Nat) (s : State) : (beginPlane plane s).tb = s.tb := by
  unfold beginPlane
  extract_lets serves t p u l
  have hu : u.tb = s.tb := by simp [u, t]
  split <;> simp [hu, l]

@[simp] theorem raiseVersion_tb (v : Nat) (s : State) : (raiseVersion v s).tb = s.tb := by
  unfold raiseVersion
  split
  · split
    · next h => simp [writeCounter_tb h]
    · rfl
  · rfl

@[simp] theorem ipAnswer_tb (d status ticket : Nat) (data : BitVec 2048) (s : State) :
    (ipAnswer d status ticket data s).tb = s.tb := by
  simp [ipAnswer]

@[simp] theorem closeCal_tb (k : Nat) (e : TtEntry) (s : State) : (closeCal k e s).tb = s.tb := by
  unfold closeCal
  refine foldl_tb fun t a => ?_
  (repeat' split) <;> simp

@[simp] theorem closeEntry_tb (k start : Nat) (s : State) : (closeEntry k start s).tb = s.tb := by
  unfold closeEntry
  dsimp only
  split <;> simp

@[simp] theorem freeBlocks_tb (k c n : Nat) (s : State) : (freeBlocks k c n s).tb = s.tb := by simp [freeBlocks]

@[simp] theorem beginRows_tb (q : Nat) (sof : Bool) (s : State) : (beginRows q sof s).tb = s.tb := by simp [beginRows]

@[simp] theorem noQueue_tb (k q : Nat) (s : State) : (noQueue k q s).tb = s.tb := by simp [noQueue]

@[simp] theorem endCommands_tb (p : Nat) (s : State) : (endCommands p s).tb = s.tb := by simp [endCommands]

@[simp] theorem fabricCommand_tb (p : Nat) (s : State) : (fabricCommand p s).2.tb = s.tb := by
  simp only [fabricCommand]
  split
  · split <;> simp
  · simp

@[simp] theorem composeDownlink_tb (p : Nat) (s : State) : (composeDownlink p s).tb = s.tb := by simp [composeDownlink]

@[simp] theorem idleDownlinks_tb (s : State) : (idleDownlinks s).tb = s.tb := foldl_tb fun _ _ => rfl

@[simp] theorem swapTables_tb (s : State) : (swapTables s).tb = s.tb := by simp [swapTables]

theorem everyDistrict_tb {f : Nat → State → State} (hf : ∀ d t, (f d t).tb = t.tb) (s : State) :
    (everyDistrict f s).tb = s.tb :=
  foldl_tb fun t d => hf d t

@[simp] theorem releaseClock_tb (d : Nat) (s : State) : (releaseClock d s).tb = s.tb := by simp [releaseClock]

@[simp] theorem releaseWrites_tb (d : Nat) (s : State) : (releaseWrites d s).tb = s.tb := by simp [releaseWrites]

theorem atGlobalStage_tb {f : Nat → State → State} (hf : ∀ d t, (f d t).tb = t.tb) (d : Nat) (s : State) :
    (atGlobalStage f d s).tb = s.tb := by
  simp [atGlobalStage, hf]

@[simp] theorem releaseResets_tb (d : Nat) (s : State) : (releaseResets d s).tb = s.tb := by simp [releaseResets]

@[simp] theorem takeImageBase_tb (d : Nat) (s : State) : (takeImageBase d s).tb = s.tb := by
  unfold takeImageBase
  dsimp only
  split <;> simp

@[simp] theorem stageClocks_tb (s : State) : (stageClocks s).tb = s.tb :=
  everyDistrict_tb (fun d t => by rw [atGlobalStage_tb fun d t => by simp, takeImageBase_tb]) s

@[simp] theorem stageWrites_tb (s : State) : (stageWrites s).tb = s.tb :=
  everyDistrict_tb (atGlobalStage_tb fun d t => by simp) s

@[simp] theorem stageResets_tb (s : State) : (stageResets s).tb = s.tb :=
  everyDistrict_tb (atGlobalStage_tb fun d t => by simp) s

@[simp] theorem stageOne_tb (s : State) : (stageOne s).tb = s.tb := by simp [stageOne]

@[simp] theorem raiseDue_tb (s : State) : (raiseDue s).tb = s.tb := by
  unfold raiseDue
  split <;> simp

@[simp] theorem districtStages_tb (d n : Nat) (s : State) : (districtStages d n s).tb = s.tb := by
  induction n generalizing s with
  | zero => rfl
  | succ n ih =>
    unfold districtStages
    split
    · split
      · simp [ih]
      · rfl
    · rfl

@[simp] theorem releaseFreeze_tb (s : State) : (releaseFreeze s).tb = s.tb := by
  unfold releaseFreeze
  split
  · extract_lets ds
    rw [endFreeze_tb]
    exact foldl_tb fun _ _ => rfl
  · rfl

@[simp] theorem endLoss_tb (s : State) : (endLoss s).tb = s.tb := by simp [endLoss]

@[simp] theorem boundaryRest_tb (s : State) : (boundaryRest s).tb = s.tb := by simp [boundaryRest]

@[simp] theorem startSpacing_tb (s : State) : (startSpacing s).tb = s.tb := by simp [startSpacing]

@[simp] theorem enterPort_tb (p : Nat) (s : State) : (enterPort p s).tb = s.tb := by simp [enterPort]

@[simp] theorem State.become_tb (s : State) (d : DevState) : (s.become d).tb = s.tb := by
  unfold State.become
  split <;> simp

@[simp] theorem enterSafe_tb (cause : Nat) (s : State) : (enterSafe cause s).tb = s.tb := by simp [enterSafe]

@[simp] theorem finishLoad_tb (s : State) : (finishLoad s).tb = s.tb := rfl

@[simp] theorem abortLoad_tb (s : State) : (abortLoad s).tb = s.tb := by simp [abortLoad]

@[simp] theorem startLoad_tb (golden : Bool) (source : Nat) (startedIn : DevState) (s : State) :
    (startLoad golden source startedIn s).tb = s.tb := by
  simp [startLoad]

@[simp] theorem recordGolden_tb (f : LoadFault) (s : State) : (recordGolden f s).tb = s.tb := by simp [recordGolden]

@[simp] theorem conflictLoad_tb (s : State) : (conflictLoad s).tb = s.tb := by simp [conflictLoad]

@[simp] theorem fallBack_tb (s : State) : (fallBack s).tb = s.tb := by simp [fallBack]

@[simp] theorem failLoad_tb (f : LoadFault) (s : State) : (failLoad f s).tb = s.tb := by simp [failLoad]

@[simp] theorem noGolden_tb (s : State) : (noGolden s).tb = s.tb := by simp [noGolden]

@[simp] theorem awaitGolden_tb (bs : Bytes) (s : State) : (awaitGolden bs s).1.tb = s.tb := by
  unfold awaitGolden
  extract_lets all r rest passed
  split
  · simp
  · simp
  · split
    · simp
    · split <;> simp

@[simp] theorem judgeHeader_tb (s : State) : (judgeHeader s).tb = s.tb := by
  unfold judgeHeader
  extract_lets l h golden
  split
  · rfl
  split
  · simp
  split
  · simp
  · split
    · simp
    · split <;> simp

@[simp] theorem judgeTable_tb (s : State) : (judgeTable s).tb = s.tb := by
  unfold judgeTable
  extract_lets l n ts c t
  have ht : t.tb = s.tb := by simp [t, c]
  clear_value ts n t
  split
  · rfl
  · split
    · simp
    · split <;> simp [ht]

@[simp] theorem takeSection_tb (i : Nat) (x : LoadSection) (s : State) : (takeSection i x s).tb = s.tb := by
  unfold takeSection
  extract_lets done l
  have hd (t : State) : (done t).tb = t.tb := rfl
  clear_value done
  split
  · exact hd s
  · split
    · simp
    · extract_lets fault
      clear_value fault
      split
      · simp [hd]
      · split <;> simp [hd]

@[simp] theorem takeSections_tb (i : Nat) (xs : List LoadSection) (s : State) : (takeSections i xs s).tb = s.tb := by
  induction xs generalizing i s with
  | nil => simp [takeSections]
  | cons x xs ih => simp [takeSections, ih]

@[simp] theorem resumeSections_tb (s : State) : (resumeSections s).tb = s.tb := by simp [resumeSections]

@[simp] theorem findStart_tb (s : State) : (findStart s).tb = s.tb := by
  unfold findStart
  extract_lets l
  split
  · rfl
  split
  · split
    · simp
    · simp
  · simp

@[simp] theorem feed_tb (bs : Bytes) (s : State) : (feed bs s).tb = s.tb := by
  unfold feed
  extract_lets w t bs' u
  have ht : t.tb = s.tb := by simp only [t, w, apply_ite Prod.fst, tb_ite, awaitGolden_tb, ite_self]
  simp [u, ht]

@[simp] theorem takeMgmt_tb (k : Nat) (p : TrunkPacket) (s : State) : (takeMgmt k p s).tb = s.tb := by simp [takeMgmt]

@[simp] theorem stageThree_tb (s : State) : (stageThree s).tb = s.tb := by
  unfold stageThree
  extract_lets t l u
  split <;> simp [u, l, t]

@[simp] theorem globalStage_tb (n : Nat) (s : State) : (globalStage n s).tb = s.tb := by
  unfold globalStage
  split <;> simp

@[simp] theorem globalStages_tb (n : Nat) (s : State) : (globalStages n s).tb = s.tb := by
  induction n generalizing s with
  | zero => rfl
  | succ n ih =>
    unfold globalStages
    split
    · simp [ih]
    · rfl

@[simp] theorem dueChanges_tb (s : State) : (dueChanges s).tb = s.tb := by simp [dueChanges]

@[simp] theorem enterDueSafe_tb (s : State) : (enterDueSafe s).tb = s.tb := by
  unfold enterDueSafe
  split <;> simp

end Sys2Proof.Machine
end

section
/-! Which functions that write bank words leave the time base, up to the actions of a crossing. -/

namespace Sys2Proof.Machine

@[simp] theorem State.setCell_tb (s : State) (n addr : Nat) (w : StoredWord) : (s.setCell n addr w).tb = s.tb :=
  foldl_tb fun _ _ => rfl

@[simp] theorem dropCells_tb (q place first count : Nat) (s : State) : (dropCells q place first count s).tb = s.tb := rfl

@[simp] theorem blankPlace_tb (q place : Nat) (zero : Bool) (s : State) : (blankPlace q place zero s).tb = s.tb := rfl

@[simp] theorem blankBank_tb (n : Nat) (zero : Bool) (s : State) : (blankBank n zero s).tb = s.tb := by
  unfold blankBank
  (repeat' split) <;> simp

@[simp] theorem endInvalidation_tb (n : Nat) (s : State) : (endInvalidation n s).tb = s.tb := by
  unfold endInvalidation clearBank
  extract_lets t
  have ht : t.tb = s.tb := by simp [t]
  (repeat' split) <;> simp [ht]

@[simp] theorem flipWord_tb (n addr : Nat) (w : StoredWord) (s : State) : (flipWord n addr w s).tb = s.tb := by
  unfold flipWord
  (repeat' split) <;> simp

@[simp] theorem writeWord_tb (n addr index router : Nat) (d : BitVec 64) (be : Nat) (s : State) :
    (writeWord n addr index router d be s).2.tb = s.tb := by
  unfold writeWord
  extract_lets w u
  have hu : u.tb = s.tb := by unfold u; split <;> simp
  split
  · rfl
  · split
    · simp
    · split <;> simp [hu]

@[simp] theorem writeRow_tb (n row index router : Nat) (d : BitVec 128) (be : Nat) (s : State) :
    (writeRow n row index router d be s).2.tb = s.tb := by
  simp [writeRow]

@[simp] theorem plazaWriteRow_tb (n row index router : Nat) (d : BitVec 128) (be : Nat) (s : State) :
    (plazaWriteRow n row index router d be s).2.tb = s.tb := by
  simp [plazaWriteRow]

@[simp] theorem poisonRow_tb (n row : Nat) (s : State) : (poisonRow n row s).tb = s.tb := by simp [poisonRow]

@[simp] theorem perform_tb (n : Nat) (cycle : Option Nat) (w : Waiting) (s : State) : (perform n cycle w s).tb = s.tb := by
  simp only [perform]
  split
  · simp
  · split
    · simp
    · split
      · split <;> simp
      · simp

@[simp] theorem grant_tb (n : Nat) (cycle : Option Nat) (w : Waiting) (cs : List Waiting) (s : State) :
    (grant n cycle w cs s).tb = s.tb := by
  simp [grant]

@[simp] theorem engineCycles_tb (n k : Nat) (me : Waiting) (s : State) : (engineCycles n k me s).tb = s.tb := by
  induction k generalizing me s with
  | zero => rfl
  | succ k ih =>
    unfold engineCycles
    dsimp only
    (repeat' split) <;> simp [ih]

@[simp] theorem engineTurn_tb (n : Nat) (r : Requester) (cls : Nat) (s : State) : (engineTurn n r cls s).tb = s.tb := by
  unfold engineTurn
  dsimp only
  split <;> simp

@[simp] theorem engineTurns_tb (r : Requester) (cls : Nat) (banks : List Nat) (s : State) : (engineTurns r cls banks s).tb = s.tb :=
  foldl_tb fun t n => engineTurn_tb n r cls t

@[simp] theorem settleBank_tb (n : Nat) (r : Requester) (cls : Nat) (s : State) : (settleBank n r cls s).tb = s.tb := by
  simp [settleBank]

@[simp] theorem reserveTurn_tb (place : Nat) (s : State) : (reserveTurn place s).tb = s.tb := by simp [reserveTurn]

@[simp] theorem writeBytes_tb (f place : Nat) (bs : Bytes) (s : State) : (writeBytes f place bs s).tb = s.tb := by
  induction f generalizing place bs s with
  | zero => rfl
  | succ f ih =>
    cases bs with
    | nil => rfl
    | cons b bs => rw [writeBytes, ih, plazaWriteRow_tb, reserveTurn_tb]

@[simp] theorem copyToReserve_tb (plane slot frame : Nat) (s : State) : (copyToReserve plane slot frame s).2.tb = s.tb := by
  unfold copyToReserve
  dsimp only
  split <;> simp

@[simp] theorem reserveFrame_tb (plane slot frame : Nat) (s : State) : (reserveFrame plane slot frame s).2.tb = s.tb := by
  unfold reserveFrame
  split <;> simp

@[simp] theorem clearSlice_tb (place : Nat) (s : State) : (clearSlice place s).tb = s.tb := by
  unfold clearSlice
  extract_lets q first u
  have hu : u.tb = s.tb := dropCells_tb ..
  split
  · rw [foldl_tb fun _ _ => State.setCellAt_tb .., hu]
  · exact hu

@[simp] theorem abortTest_tb (s : State) : (abortTest s).tb = s.tb := by
  unfold abortTest
  dsimp only
  split
  · rfl
  · split
    · simp
    · split <;> simp

@[simp] theorem sealReserve_tb (plane : Nat) (frames : List Nat) (s : State) : (sealReserve plane frames s).tb = s.tb := by
  unfold sealReserve
  split
  · rfl
  · split
    · exact foldl_tb fun t f => reserveFrame_tb ..
    · simp

@[simp] theorem sealPlane_tb (plane : Nat) (s : State) : (sealPlane plane s).tb = s.tb := by simp [sealPlane]

@[simp] theorem sealNow_tb (fuel d plane : Nat) (s : State) : (sealNow fuel d plane s).tb = s.tb := by
  delta sealNow
  refine brecOn_induction (P := fun f : Nat → Nat → State → State => ∀ d plane s, (f d plane s).tb = s.tb) ?_ ?_ fuel d plane s
  · intro _ d plane s
    rfl
  · intro n again ih d plane s
    delta sealNow._f
    dsimp only
    split
    · simp
    · split
      · simp
      · split
        · split
          · simp
          · exact (ih _ _ _).trans (abortTest_tb s)
        · simp

@[simp] theorem settleSeals_tb (s : State) : (settleSeals s).tb = s.tb := by
  unfold settleSeals
  split
  · rfl
  · exact foldl_tb fun t p => by rw [sealNow_tb]; rfl

@[simp] theorem putRow_tb (r : Nat) (d : BitVec 128) (poison : Bool) (s : State) : (putRow r d poison s).tb = s.tb := by
  unfold putRow
  dsimp only
  split <;> simp

@[simp] theorem writeRows_tb (l : List (Nat × BitVec 128 × Bool)) (s : State) : (writeRows l s).tb = s.tb := by
  fun_induction writeRows <;> simp [*]

@[simp] theorem rowsReady_tb (cls : Nat) (rows : List Nat) (s : State) : (rowsReady cls rows s).2.tb = s.tb := by
  unfold rowsReady
  dsimp only
  split <;> simp

@[simp] theorem pushRow_tb (q : Nat) (d : BitVec 128) (poison last : Bool) (s : State) : (pushRow q d poison last s).2.tb = s.tb := by
  unfold pushRow
  dsimp only
  (repeat' split) <;> simp

@[simp] theorem pushRows_tb (q : Nat) (err eof : Bool) (l : List (BitVec 128)) (s : State) : (pushRows q err eof l s).2.tb = s.tb := by
  induction l generalizing s with
  | nil => rfl
  | cons r rs ih =>
    unfold pushRows
    dsimp only
    split
    · rw [ih, pushRow_tb]
    · exact pushRow_tb ..

@[simp] theorem pump_tb (k : Nat) (l : List TrunkPacket) (s : State) : (pump k l s).tb = s.tb := by
  induction l generalizing s with
  | nil => rfl
  | cons p ps ih =>
    unfold pump
    dsimp only
    split
    · simp [ih]
    · split
      · split <;> simp [ih]
      · simp [ih]

@[simp] theorem drainTrunk_tb (k : Nat) (s : State) : (drainTrunk k s).tb = s.tb := by simp [drainTrunk]

@[simp] theorem drainTrunks_tb (s : State) : (drainTrunks s).tb = s.tb := foldl_tb fun t k => drainTrunk_tb k t

@[simp] theorem retireStore_tb (n : Nat) (s : State) : (retireStore n s).tb = s.tb := by
  unfold retireStore
  dsimp only
  split
  · rfl
  · split <;> simp

@[simp] theorem retireStores_tb (n k : Nat) (s : State) : (retireStores n k s).tb = s.tb := by
  fun_induction retireStores <;> simp [*]

@[simp] theorem flushStores_tb (s : State) : (flushStores s).tb = s.tb := foldl_tb fun t p => retireStores_tb p.1 p.2 t

/-- What ends a crossing leaves the time base. -/
@[simp] theorem leaveCrossing_tb (s : State) : (leaveCrossing s).tb = s.tb := by simp [leaveCrossing]

/-! A list's turns over a function of the crossing, by induction: a fold's general rule would have the kernel unfold the function. -/

theorem ringWriters_tb (l : List Nat) (s : State) : (l.foldl (fun t q => ringWriter q t.crossing t) s).tb = s.tb := by
  induction l generalizing s with
  | nil => rfl
  | cons q l ih => rw [List.foldl_cons, ih, ringWriter_tb]

theorem enterPorts_tb (l : List Nat) (s : State) : (l.foldl (fun t p => enterPort p t) s).tb = s.tb := by
  induction l generalizing s with
  | nil => rfl
  | cons p l ih => rw [List.foldl_cons, ih, enterPort_tb]

/-- What happens in every crossing leaves the time base. -/
@[simp] theorem crossingActions_tb (s : State) : (crossingActions s).tb = s.tb := by
  unfold crossingActions
  dsimp only
  rw [drainTrunks_tb, countPauses_tb, handOver_tb, tb_ite, enterPorts_tb, ite_self, tb_ite, ringWriters_tb, ite_self,
    startSpacing_tb, enterDueSafe_tb, sendDueC0_tb]
  exact settleSeals_tb s

end Sys2Proof.Machine
end

section
/-! O5: the clock is acquired, missed and lost (R35 to R57). -/

namespace Sys2Proof.Machine

open Sys2Proof.Safety

theorem dev_of_mode {s t : State} (h : t.mode = s.mode) : t.dev = s.dev := congrArg Mode.dev h

theorem toTb_of_ne {st : TbState} {s : State} (h : s.tb.st ≠ st) : toTb st s = latchIrq 10 { s with tb := { s.tb with st } } := if_neg h

theorem toTb_tb (st : TbState) (s : State) : (toTb st s).tb = { s.tb with st } := by
  unfold toTb
  split
  · next h => rw [← h]
  · rfl

/-- The crossing is what the time base and the length of the orbit say. -/
theorem crossing_congr {s t : State} (ho : t.tb.orbit = s.tb.orbit) (ht : t.tb.turns = s.tb.turns) (hs : t.tb.slot = s.tb.slot)
    (hl : t.L = s.L) : t.crossing = s.crossing := by
  rw [State.crossing, State.crossing, State.orbits, State.orbits, ho, ht, hs, hl]

/-! ### A loss -/

theorem recordLoss_tb (cause : Nat) (s : State) : ∃ l, (recordLoss cause s).tb = { s.tb with lost := l } := by
  unfold recordLoss
  extract_lets note fresh
  have hf : fresh.tb = { s.tb with lost := some (s.crossing, cause) } := by
    have hc : (((s.rinc .LOSS_COUNT).rset .LAST_LOSS_MT 0 s.mt).raise sevError 0x0203 0 (lossDetail s.mt cause)).crossing = s.crossing :=
      crossing_congr (by simp) (by simp) (by simp)
        (by simp [State.L, raise_rget, State.rget_rset, State.rget_rinc])
    simp [fresh, note, hc]
  split
  · split
    · split
      · exact ⟨_, rfl⟩
      · exact ⟨_, rfl⟩
    · exact ⟨_, hf⟩
  · exact ⟨_, hf⟩

theorem recordLoss_L (cause : Nat) (s : State) : (recordLoss cause s).L = s.L := by
  unfold recordLoss
  extract_lets note fresh
  have hf : fresh.L = s.L := by simp [fresh, note, State.L, raise_rget, State.rget_rset, State.rget_rinc]
  split
  · split
    · split
      · rfl
      · rfl
    · exact hf
  · exact hf

theorem closeWindows_dev (s : State) : (closeWindows s).dev = s.dev := dev_of_mode (closeWindows_mode s)

theorem become_lossHeld (s : State) (d : DevState) : (s.become d).lossHeld = s.lossHeld := by
  unfold State.become
  split <;> rfl

theorem become_lossFrom (s : State) (d : DevState) : (s.become d).lossFrom = s.lossFrom := by
  unfold State.become
  split <;> rfl

theorem become_dev (s : State) (d : DevState) : (s.become d).dev = d := by
  unfold State.become
  split
  · assumption
  · rfl

/-- What a loss declared in ALIGNED leaves (R56). -/
theorem lose_spec (st : TbState) (cause : Nat) (s : State) :
    (lose st cause s).tb.st = st ∧ (lose st cause s).tb.entriesRun = false ∧ (lose st cause s).lossHeld = true ∧
      (lose st cause s).lossFrom = s.crossing ∧ (lose st cause s).dev = if s.dev = .running then .hold else s.dev := by
  unfold lose
  extract_lets s₁ s₂ t t₁ t₂ s₃
  obtain ⟨l, h₁⟩ := recordLoss_tb cause s
  have hb : s₂.tb = { s.tb with lost := l, st } := (toTb_tb st s₁).trans (by rw [h₁])
  have hl : s₂.L = s.L := by
    refine Eq.trans ?_ (recordLoss_L cause s)
    unfold s₂ toTb
    split <;> rfl
  have hc : s₂.crossing = s.crossing := crossing_congr (by rw [hb]) (by rw [hb]) (by rw [hb]) hl
  have hd : s₃.dev = s.dev := by
    refine (closeWindows_dev _).trans ?_
    exact (dev_of_mode (toTb_mode st s₁)).trans (dev_of_mode (recordLoss_mode cause s))
  obtain ⟨w, h₃⟩ := closeWindows_onlyPorts { s₂ with tb := t₂, lossHeld := true, lossFrom := s₂.crossing }
  have ht : s₃.tb = t₂ := h₃.tb
  have hh : s₃.lossHeld = true := h₃.lossHeld
  have hf : s₃.lossFrom = s.crossing := h₃.lossFrom.trans hc
  have hst : t₂.st = st := by simp only [t₂, t₁, t, hb]
  rw [hd]
  split
  · rw [State.become_tb, become_lossHeld, become_lossFrom, become_dev, ht]
    exact ⟨hst, rfl, hh, hf, rfl⟩
  · rw [ht]
    exact ⟨hst, rfl, hh, hf, hd⟩

/-- What a source that drops leaves: all but its presence and the lock on it. -/
theorem dropSource_spec (c : LossCause) (s : State) :
    (dropSource c s).tb.st = s.tb.st ∧ (dropSource c s).tb.pllLocked = false ∧ (dropSource c s).tb.entriesRun = s.tb.entriesRun ∧
      (dropSource c s).lossHeld = s.lossHeld ∧ (dropSource c s).lossFrom = s.lossFrom ∧ (dropSource c s).dev = s.dev :=
  ⟨rfl, rfl, rfl, rfl, rfl, rfl⟩

theorem execClockLoss_of_aligned {c : LossCause} {s : State} (h : s.tb.st = .aligned) (hc : c ≠ .timingPortLock ∨ s.rget .CLK_SRC = 1) :
    execClockLoss c s = .next (dropSource c (lose .holdover (lossCode c) s)) := by
  unfold execClockLoss
  rw [if_neg, h]
  obtain hc | hc := hc <;> simp [hc]

/-- Settles O5: each command in the state of the time base that the statement names. -/
theorem clockComesAndGoes : Obligations.ClockComesAndGoes := by
  unfold Obligations.ClockComesAndGoes
  refine ⟨fun hz s hn hp hu hw => ?_, fun s ha hn => ?_, fun hz s hh hu hw => ?_, fun s ha hf hL => ?_, fun s ha hf => ?_, fun c s ha hc => ?_⟩
  · have hw' : (s.rset .MCLK_MEASURED 0 hz).within200 hz = true := by
      rw [← hw, State.within200, State.within200, State.rget_rset, if_neg (by simp)]
    refine ⟨latchIrq 10 { s.rset .MCLK_MEASURED 0 hz with tb := { s.tb with srcPresent := true, st := .acquire } }, ?_, rfl, ?_, rfl⟩
    · show execSourceAcquired hz s = _
      rw [execSourceAcquired, hn, hp, hu]
      simp only [decide_true, Bool.and_self, if_true, hw']
      rw [toTb_of_ne (by simp [hn])]
      rfl
    · exact State.rget_rset_same ..
  · have hm : (toTb .locked { s with tb := { s.tb with pllLocked := true, edges := 0, prov := none } }).needsNoMarker = false := by
      rw [toTb_of_ne (by simp [ha])]
      exact hn
    refine ⟨toTb .locked { s with tb := { s.tb with pllLocked := true, edges := 0, prov := none } }, ?_, ?_, ?_⟩
    · show execPllLocked s = _
      unfold execPllLocked
      rw [ha]
      simp only [alignAtOnce_of_marker (.inl hm)]
    · rw [toTb_of_ne (by simp [ha])]
      rfl
    · rw [toTb_tb]
  · have hw' : (s.rset .MCLK_MEASURED 0 hz).within200 hz = true := by
      rw [← hw, State.within200, State.within200, State.rget_rset, if_neg (by simp)]
    refine ⟨{ s.rset .MCLK_MEASURED 0 hz with tb := { s.tb with srcPresent := true } }, ?_, rfl, State.rget_rset_same .., rfl⟩
    show execSourceReturn hz s = _
    rw [execSourceReturn, hh, hu]
    simp only [decide_true, Bool.and_self, if_true, hw']
    rfl
  · refine ⟨s.rinc .MARKER_MISSING, ?_, rfl, State.rget_rset_same ..⟩
    show execMarkerMissing s = _
    simp [execMarkerMissing, ha, hf, hL]
  · refine ⟨{ s.rinc .SYNC_MISSING with tb := { s.tb with syncOk := false } }, ?_, rfl, rfl, State.rget_rset_same ..⟩
    show execSyncMissing s = _
    simp [execSyncMissing, ha, hf]
  · obtain ⟨hst, hr, hh, hf, hd⟩ := lose_spec .holdover (lossCode c) s
    obtain ⟨ht, hp, hr', hh', hf', hd'⟩ := dropSource_spec c (lose .holdover (lossCode c) s)
    exact ⟨_, execClockLoss_of_aligned ha hc, ht.trans hst, hp, hr'.trans hr, hh'.trans hh, hf'.trans hf,
      cells_of_words (by simp), hd'.trans hd⟩

end Sys2Proof.Machine
end

section
/-! O6: markers, SYNC words, crossings, orbit boundaries and the resume (R41 to R58). -/

namespace Sys2Proof.Machine

open Sys2Proof.Safety

/-! ### Markers -/

theorem eachPort_frame (f : Port → Port) (s : State) : ∃ p, eachPort f s = { s with ports := p } := by
  unfold eachPort
  generalize s.ports.map (·.1) = l
  have h : ∀ (l : List Nat) (t : State), (∃ p, t = { s with ports := p }) →
      ∃ p, l.foldl (fun t p => t.setPort p (f (t.port p))) t = { s with ports := p } := by
    intro l
    induction l with
    | nil => exact fun t h => h
    | cons a l ih =>
      rintro t ⟨p, rfl⟩
      exact ih _ ⟨_, rfl⟩
  exact h l s ⟨_, rfl⟩

/-- What a marker leaves that is taken: the timing port's flag has been read. -/
theorem takeMarker_frame (src : OrbitSource) (s : State) : ∃ p, takeMarker src s = { s with ports := p } ∧ (src = .pin → p = s.ports) ∧
    (src = .timingPort → ((takeMarker src s).port (s.rget .TIMING_PORT)).orbRise = none) := by
  unfold takeMarker
  split
  · next h => exact ⟨s.ports, rfl, fun _ => rfl, fun h' => by simp [h] at h'⟩
  · next h =>
    refine ⟨_, rfl, fun h' => absurd h' h, fun _ => ?_⟩
    rw [State.port, State.setPort, mget_mset_same]

theorem execOrbitMarker_of_not_due {src : OrbitSource} {s : State} (h : s.markerDue src = false) : execOrbitMarker src s = .next s := by
  unfold execOrbitMarker
  simp [h]

/-- A marker in LOCKED sets or confirms the provisional alignment. -/
theorem execOrbitMarker_of_locked {src : OrbitSource} {s : State} (hf : s.follower = false) (hL : s.L ≠ 1) (hd : s.markerDue src = true)
    (hs : s.tb.st = .locked) :
    execOrbitMarker src s = .next (provisionalMarker (s.markerBack src)
      { takeMarker src s with tb := { s.tb with slotErr := s.provisionalError (s.markerBack src) } }) := by
  obtain ⟨p, hp, -, -⟩ := takeMarker_frame src s
  unfold execOrbitMarker
  rw [hp]
  simp [hf, hL, hd, hs]

/-- An alignment from LOCKED numbers the crossing anew, and discards what ports presented. -/
theorem align_of_locked {s : State} (x : Nat) (h : s.tb.st = .locked) :
    ∃ p b i, align x s = { s with ports := p, tb := b, core := { s.core with irq := i } } ∧ b.st = .aligned ∧ b.entriesRun = s.tb.entriesRun ∧
      (align x s).crossing = x := by
  unfold align
  extract_lets was back s₁ s₂ _ tb s₃
  have hb : back = false := by simp [back, h]
  have h₁ : s₁ = s := by simp [s₁, hb]
  have h₂ : s₂ = latchIrq 10 { s with tb := { s.tb with st := .aligned } } := by
    unfold s₂
    rw [h₁, toTb_of_ne (by simp [h])]
  rw [hb, if_neg (by simp)]
  obtain ⟨p, hp⟩ := eachPort_frame (fun y => { y with presented := none }) s₃
  have hcr : (eachPort (fun y => { y with presented := none }) s₃).crossing = x := by
    rw [hp]
    show (x / s₂.L / 2 ^ 48 * 2 ^ 48 + x / s₂.L % 2 ^ 48) * s₂.L + x % s₂.L = x
    rw [Nat.div_add_mod', Nat.div_add_mod']
  rw [hp] at hcr ⊢
  refine ⟨p, tb, Nat.lor s.core.irq (2 ^ 10), ?_, ?_, ?_, hcr⟩
  · show { s₂ with ports := p, tb := tb } = _
    rw [h₂]
    rfl
  · show s₂.tb.st = _
    rw [h₂]
    rfl
  · show s₂.tb.entriesRun = _
    rw [h₂]
    rfl

theorem provisionalMarker_of_none {back : Nat} {s : State} (h : s.tb.prov = none) :
    provisionalMarker back s = { s with tb := { s.tb with prov := some (s.tb.edges - back, 0) } } := by
  unfold provisionalMarker
  rw [h]

theorem provisionalMarker_of_confirmed {back e n : Nat} {s : State} (h : s.tb.prov = some (e, n)) (he : s.tb.edges - back = e + s.L) :
    provisionalMarker back s = align (s.markerCrossing back + back) s := by
  unfold provisionalMarker
  rw [h]
  exact if_pos he

theorem markerCrossing_of_locked {s : State} (back : Nat) (h : s.tb.st = .locked) :
    s.markerCrossing back = s.rget .MT_PRESET % 2 ^ 48 * s.L + s.rget .ORBIT_OFFSET := by
  unfold State.markerCrossing
  rw [if_neg (by simp [h])]

/-! ### SYNC words -/

theorem execSyncWord_of_first {x : BitVec 80} {s : State} (hf : s.follower = true) (hw : syncWellFormed x = true)
    (hg : syncGroup x = s.rget .SYNC_LOCK_GROUP) (hs : s.tb.st = .locked) (hp : s.tb.prov = none) :
    execSyncWord x s = .next { s with tb := { s.tb with prov := some (s.tb.edges, syncOrbit x) } } := by
  unfold execSyncWord provisionalWord
  simp [hf, hw, hg, hs, hp]

theorem execSyncWordSend_of_leader {s : State} {n : Nat} (hr : s.rget .SYNC_ROLE = 1) (hs : s.tb.st = .aligned) (hL : 0 < s.L)
    (hc : s.crossing + 80 = n * s.L) (hn : n % 2 ^ 48 % s.rget .SYNC_EVERY = 0) :
    execSyncWordSend s =
      .next { s with tb := { s.tb with syncOut := some (syncWordOf (s.rget .SYNC_LOCK_GROUP) n), syncLeft := 80 } } := by
  have hd : (s.crossing + 80) / s.L = n := by rw [hc, Nat.mul_div_cancel _ hL]
  have hm : (s.crossing + 80) % s.L = 0 := by rw [hc, Nat.mul_mod_left]
  unfold execSyncWordSend
  rw [hd]
  simp only [hr, hs, hm, hn, decide_true, Bool.and_self, if_true]

/-! ### Crossings -/

/-- The machine-clock edge at the start of a crossing. -/
def edgeCounted (s : State) : State := agePriors (if s.tb.pllLocked then { s with tb := { s.tb with edges := s.tb.edges + 1 } } else s)

/-- What ticks at the start of a crossing: the machine-clock edges, the applied fine delay and the SYNC output. -/
def crossingTicked (s : State) : State :=
  if (edgeCounted s).tb.pllLocked || (edgeCounted s).counting then tickSync (slewFineDelay (edgeCounted s)) else edgeCounted s

/-- The same numbering of crossings: slot, orbit, state of the time base, and what holds the count. -/
structure SameNumber (s t : State) : Prop where
  slot : t.tb.slot = s.tb.slot
  orbit : t.tb.orbit = s.tb.orbit
  st : t.tb.st = s.tb.st
  held : t.tb.held = s.tb.held
  entered : t.tb.entered = s.tb.entered
  length : t.L = s.L

theorem SameNumber.trans {s t r : State} (h : SameNumber s t) (h' : SameNumber t r) : SameNumber s r :=
  ⟨h'.slot.trans h.slot, h'.orbit.trans h.orbit, h'.st.trans h.st, h'.held.trans h.held, h'.entered.trans h.entered,
    h'.length.trans h.length⟩

theorem SameNumber.counting {s t : State} (h : SameNumber s t) : t.counting = s.counting := by
  rw [State.counting, State.counting, h.st]

theorem slewFineDelay_sameNumber (s : State) : SameNumber s (slewFineDelay s) := by
  have hL : (slewFineDelay s).L = s.L := by
    unfold slewFineDelay
    extract_lets a t
    split
    · simp [State.L, State.rget_rset]
    · split
      · simp [State.L, State.rget_rset]
      · rfl
  exact ⟨by rw [slewFineDelay_tb], by rw [slewFineDelay_tb], by rw [slewFineDelay_tb], by rw [slewFineDelay_tb],
    by rw [slewFineDelay_tb], hL⟩

theorem tickSync_sameNumber (s : State) : SameNumber s (tickSync s) := by
  unfold tickSync
  split <;> exact ⟨rfl, rfl, rfl, rfl, rfl, rfl⟩

theorem crossingTicked_sameNumber (s : State) : SameNumber s (crossingTicked s) := by
  have h₁ : SameNumber s (edgeCounted s) := by
    unfold edgeCounted
    split <;> exact ⟨rfl, rfl, rfl, rfl, rfl, rfl⟩
  unfold crossingTicked
  split
  · exact (h₁.trans (slewFineDelay_sameNumber _)).trans (tickSync_sameNumber _)
  · exact h₁

theorem execCrossingStart_of_counting {s : State} (hc : s.counting = true) (hh : s.tb.held = none) :
    execCrossingStart s = .next (crossingActions (advance (crossingTicked s))) := by
  have hn := crossingTicked_sameNumber s
  have key : ∀ t : State, t.counting = true → t.tb.held = none →
      (if !t.counting then .next t
        else match t.tb.held with
          | some x =>
            if Nat.blt t.crossing (x + 1) then .next (crossingActions (advance { t with tb := { t.tb with held := none } }))
            else .next (idleDownlinks { t with tb := { t.tb with held := some (x + 1) } })
          | none => .next (crossingActions (advance t)) : Host.Outcome State Fault Refusal) = .next (crossingActions (advance t)) :=
    fun t hc hh => by rw [hc, hh]; rfl
  exact key _ (hn.counting.trans hc) (hn.held.trans hh)

/-- Inside an orbit the next crossing is that of the next slot. -/
theorem advance_of_inside {s : State} (he : s.tb.entered = false) (hs : s.tb.slot + 1 ≠ s.L) :
    (advance s).tb = { s.tb with slot := s.tb.slot + 1 } := by
  unfold advance
  rw [he, if_neg (by simp), if_neg hs]
  dsimp only
  rw [leaveCrossing_tb]

/-- An orbit boundary numbers slot 0 of the next orbit. -/
theorem passBoundary_number (s : State) :
    (passBoundary s).tb.slot = 0 ∧ (passBoundary s).tb.orbit = (s.tb.orbit + 1) % 2 ^ 48 ∧ (passBoundary s).tb.st = s.tb.st := by
  unfold passBoundary
  extract_lets s₁ b s₂ _ s₃
  have h₁ : s₁.tb = s.tb := leaveCrossing_tb s
  clear_value s₁
  have hn : s₂.tb.slot = 0 ∧ s₂.tb.orbit = (s.tb.orbit + 1) % 2 ^ 48 ∧ s₂.tb.st = s.tb.st := ⟨rfl, by simp only [s₂, h₁], by simp only [s₂, b, h₁]⟩
  have h₃ : s₃.tb.slot = s₂.tb.slot ∧ s₃.tb.orbit = s₂.tb.orbit ∧ s₃.tb.st = s₂.tb.st := by
    unfold s₃
    split
    · rw [endLoss_tb]
      exact ⟨rfl, rfl, rfl⟩
    · exact ⟨rfl, rfl, rfl⟩
  obtain ⟨hs, ho, hst⟩ := h₃
  rwa [boundaryRest_tb, dueChanges_tb, hs, ho, hst]

/-! ### The resume -/

theorem breach_lossHeld (i p t code shown : Nat) (s : State) : (breach i p t code shown s).lossHeld = s.lossHeld := by
  unfold breach
  extract_lets
  rw [raise_lossHeld]
  rfl

theorem ariseSuspects_lossHeld (s : State) : (ariseSuspects s).lossHeld = s.lossHeld := by
  unfold ariseSuspects
  refine foldl_keeps State.lossHeld (fun u x => ?_) _ _
  (repeat' split) <;> simp [breach_lossHeld]

theorem execResume_of_due {s : State} (hd : s.dev = .hold) (hc : s.counting = true) (h0 : s.tb.slot = 0) (hs : s.tb.st = .aligned)
    (hr : s.tb.entriesRun = true) (hf : s.freezeHeld = false) :
    ∃ t, execResume s = .next t ∧ t.dev = .running ∧ t.lossHeld = false ∧ t.tb = s.tb := by
  unfold execResume
  rw [if_pos (by simp [hd, hc, h0, hs, hr, hf])]
  extract_lets _ s₁
  have h₁ : s₁.lossHeld = false ∧ s₁.tb = s.tb := by
    unfold s₁
    split
    · exact ⟨rfl, foldl_tb fun t d => settleAtStart_tb d t⟩
    · next h => exact ⟨by simpa using h, rfl⟩
  obtain ⟨hh, hb⟩ := h₁
  refine ⟨_, rfl, ?_, ?_, ?_⟩
  · rw [raise_dev, State.rset_dev, dev_of_mode (ariseSuspects_mode _), become_dev]
  · rw [raise_lossHeld, State.rset_lossHeld, ariseSuspects_lossHeld, become_lossHeld, hh]
  · rw [raise_tb, State.rset_tb, ariseSuspects_tb, State.become_tb, hb]

/-- Settles O6: the markers and words by the state of the provisional alignment, the crossings by what leaves the time base. -/
theorem markersAndCrossings : Obligations.MarkersAndCrossings := by
  unfold Obligations.MarkersAndCrossings
  refine ⟨⟨fun src s hd => execOrbitMarker_of_not_due hd, fun src s hf hL hd hs hp => ?_, fun src s e n hf hL hd hs hp he => ?_,
    fun x s hf hw hg hs hp => execSyncWord_of_first hf hw hg hs hp, fun s n hr hs hL hc hn => execSyncWordSend_of_leader hr hs hL hc hn⟩,
    fun s hc hh he hs => ?_, fun s hc hh he hs => ?_, fun s hd hc h0 hs hr hf => execResume_of_due hd hc h0 hs hr hf⟩
  · obtain ⟨p, ht, hpin, htp⟩ := takeMarker_frame src s
    have hv : s.provisionalError (s.markerBack src) = 0 := by rw [State.provisionalError, hp]
    refine ⟨_, (execOrbitMarker_of_locked hf hL hd hs).trans (congrArg _ (provisionalMarker_of_none hp)), ?_, ?_, ?_, fun h => ?_⟩
    · rw [hv]
    · rw [ht]
    · rw [ht]
      exact hpin
    · exact htp h
  · obtain ⟨p, ht, -, -⟩ := takeMarker_frame src s
    have hb : ∀ m, provisionalMarker (s.markerBack src) { takeMarker src s with tb := { s.tb with slotErr := m } } =
        align (s.rget .MT_PRESET % 2 ^ 48 * s.L + s.rget .ORBIT_OFFSET + s.markerBack src)
          { s with tb := { s.tb with slotErr := m }, ports := p } := fun m => by
      rw [ht]
      have hl : ({ s with tb := { s.tb with slotErr := m }, ports := p } : State).tb.st = .locked := hs
      refine (provisionalMarker_of_confirmed (s := { s with tb := { s.tb with slotErr := m }, ports := p }) (e := e) (n := n) hp he).trans ?_
      rw [markerCrossing_of_locked _ hl]
      rfl
    obtain ⟨p', b, i, ha, hst, hr, hc⟩ := align_of_locked (s.rget .MT_PRESET % 2 ^ 48 * s.L + s.rget .ORBIT_OFFSET + s.markerBack src)
      (s := { s with tb := { s.tb with slotErr := s.provisionalError (s.markerBack src) }, ports := p }) hs
    refine ⟨_, (execOrbitMarker_of_locked hf hL hd hs).trans (by rw [hb]), ?_, hc, ?_, ?_⟩
    · rw [ha]
      exact hst
    · rw [ha]
      exact hr
    · rw [ha]
  · have hn := crossingTicked_sameNumber s
    refine ⟨_, execCrossingStart_of_counting hc hh, ?_⟩
    rw [crossingActions_tb, advance_of_inside (hn.entered.trans he) (by rwa [hn.slot, hn.length])]
    exact ⟨congrArg (· + 1) hn.slot, hn.orbit, hn.st⟩
  · refine ⟨passBoundary s, ?_, passBoundary_number s⟩
    show execOrbitBoundary s = _
    simp [execOrbitBoundary, hc, hh, he, hs]

end Sys2Proof.Machine
end

section
/-! O7 to O9: the time-table's writes and windows (R59 to R68), and the counters that COUNT_CLEAR clears. -/

namespace Sys2Proof.Machine

open Sys2Proof.Safety

/-! ### The window onto the tables -/

theorem hTtWord_act (k v : Nat) {s : State} (hp : s.ttPending = false) :
    (hTtWord k).act v s = .ok { s with rb := { s.rb with
      shadow := mset s.rb.shadow (s.rget .TT_WINDOW_INDEX) (ttPutWord (mget s.rb.shadow (s.rget .TT_WINDOW_INDEX) 0) k v) 0 } } := by
  simp [hTtWord, hp]

theorem ttRefuse_spec (i : Nat) (s : State) :
    (ttRefuse i s).rget .TT_COMMIT_STATUS = 3 ∧ (ttRefuse i s).rget .TT_REFUSED_ENTRY = i ∧ (ttRefuse i s).ttPending = false ∧
      (ttRefuse i s).rb.shadow = s.rb.shadow ∧ (ttRefuse i s).rb.active = s.rb.active := by
  unfold ttRefuse
  refine ⟨?_, ?_, ?_, ?_, ?_⟩
  · rw [raise_rget _ _ _ _ _ _ (by decide), State.rget_rset, if_neg (by simp), State.rget_rset_same]
  · rw [raise_rget _ _ _ _ _ _ (by decide), State.rget_rset_same]
  · rw [State.ttPending, raise_rb]
    rfl
  · rw [raise_rb]
    rfl
  · rw [raise_rb]
    rfl

/-- Settles O7: the writes by whether a commit is pending, the end of validation by what the table is judged. -/
theorem timeTableWrites : Obligations.TimeTableWrites := by
  unfold Obligations.TimeTableWrites
  refine ⟨fun w k v s ha hsel => ⟨fun hp => ?_, fun hp => ?_⟩, fun w v s ha => ⟨fun hp => ?_, fun hp hv => ?_, fun hp hv => ?_⟩,
    fun w v s ha => ⟨fun hp => ?_, fun hp => ?_⟩, fun s n hn => ⟨fun ht ho => ?_, fun ht hall hc ho => ?_, fun i ht => ?_⟩,
    fun w e v s ha => write_store ha⟩
  · exact write_refused (h := hTtWord (k % 4)) ha (by simp [hTtWord, hsel]) rfl (by simp [hTtWord, hp]) (by decide)
  · refine ⟨_, write_performed (h := hTtWord (k % 4)) ha (by simp [hTtWord, hsel]) rfl (hTtWord_act _ _ hp), ?_, fun i hi => ?_, rfl⟩
    · exact mget_mset_same ..
    · exact mfind_mset_other _ _ _ _ _ hi
  · exact write_refused (h := hTtCopy) ha rfl rfl (by simp [hTtCopy, Handler.doing, hp]) (by decide)
  · exact write_performed (h := hTtCopy) ha rfl rfl (by simp [hTtCopy, Handler.doing, hp, hv])
  · exact write_performed (h := hTtCopy) ha rfl rfl (by simp [hTtCopy, Handler.doing, hp, hv])
  · exact write_refused (h := hTtCommit) ha rfl rfl (by simp [hTtCommit, Handler.doing, hp]) (by decide)
  · refine ⟨{ s with rb := { s.rb with validating := some v, fromImage := false } }.rset .TT_COMMIT_STATUS 0 1,
      write_performed (h := hTtCommit) ha rfl rfl (by simp [hTtCommit, Handler.doing, hp]), State.rget_rset_same .., rfl, rfl⟩
  · show execTtValidationDone s = _
    unfold execTtValidationDone
    rw [hn]
    dsimp only
    rw [ht]
    dsimp only
    rw [if_neg]
    rintro h
    simp only [Bool.and_eq_true, bne_iff_ne, ne_eq, Nat.ble_eq] at h
    obtain ⟨⟨hne, hc⟩, hle⟩ := h
    obtain h | h | h := ho
    · exact hne h
    · simp [h] at hc
    · omega
  · refine ⟨ttRefuse 0xFFFF s, ?_, ttRefuse_spec ..⟩
    show execTtValidationDone s = _
    simp [execTtValidationDone, hn, ht, hall, hc, ho]
  · refine ⟨ttRefuse i s, ?_, ttRefuse_spec ..⟩
    show execTtValidationDone s = _
    simp [execTtValidationDone, hn, ht]

/-! ### Windows of the tables -/

theorem execTtWindowStart_of_due {k : Nat} {s : State} (hr : s.tb.entriesRun = true) (hs : s.tb.st = .aligned)
    (he : ttEnabled (s.ttActive k) = true) (hm : ttMatches (s.ttActive k) s.tb.orbit = true)
    (ha : ttStartsAt (s.ttActive k) s.tb.slot = true) (hw : (k, s.crossing) ∉ s.rb.openWindows) :
    execTtWindowStart k s = .next (fireEntry k s) := by
  simp [execTtWindowStart, hr, hs, he, hm, ha, hw]

/-- What the count of pauses changes: the counts, and the record of the first slot beyond the limit. -/
structure PausesOnly (s t : State) : Prop where
  openWindows : t.rb.openWindows = s.rb.openWindows
  active : t.rb.active = s.rb.active
  frame : ∀ (b : Roundabout) r g, { t with rb := b, recorder := r, regs := g } = { s with rb := b, recorder := r, regs := g }

theorem PausesOnly.refl (s : State) : PausesOnly s s := ⟨rfl, rfl, fun _ _ _ => rfl⟩

theorem PausesOnly.trans {s t r : State} (h : PausesOnly s t) (h' : PausesOnly t r) : PausesOnly s r :=
  ⟨h'.openWindows.trans h.openWindows, h'.active.trans h.active, fun b x g => (h'.frame b x g).trans (h.frame b x g)⟩

theorem countPause_pausesOnly (q which : Nat) (s : State) : PausesOnly s (countPause q which s) := by
  unfold countPause
  extract_lets k c _ s₁
  have h₁ : PausesOnly s s₁ := ⟨rfl, rfl, fun _ _ _ => rfl⟩
  split
  · exact .refl s
  · split
    · exact h₁
    · obtain ⟨g, r, h⟩ := raise_frame { s₁ with rb := { s₁.rb with pauseNoted := true } } sevNotice 0x0207 0x010 []
      rw [h]
      exact ⟨rfl, rfl, fun _ _ _ => rfl⟩

theorem countPauses_pausesOnly (s : State) : PausesOnly s (countPauses s) := by
  unfold countPauses
  have hl : ∀ (l : List Nat) (u : State), PausesOnly u (l.foldl (fun t q => countPause q 1 (countPause q 0 t)) u) := by
    intro l
    induction l with
    | nil => exact .refl
    | cons q l ih => exact fun u => ((countPause_pausesOnly q 0 u).trans (countPause_pausesOnly q 1 _)).trans (ih _)
  split
  · exact hl _ s
  · exact .refl s

/-! TEST_PULSE. -/

theorem displace_onlyPorts (p source : Nat) (s : State) : OnlyPorts s (displace p source s) := by
  have h₁ : OnlyPorts s (s.rinc .CMD_DROPPED p) := .rset ..
  have h₂ : OnlyPorts s (if source = 4 then (s.rinc .CMD_DROPPED p).rset .DL_SEND_STATUS p 3 else s.rinc .CMD_DROPPED p) :=
    .ite (h₁.trans (.rset ..)) h₁
  exact h₂.trans (.ite (.refl _) ((OnlyPorts.setPort ..).trans (.raise ..)))

/-- A command displaced is counted, and the port's other state kept. -/
theorem displace_spec (p source : Nat) (s : State) :
    (displace p source s).rget .CMD_DROPPED p = Nat.min (s.rget .CMD_DROPPED p + 1) (El.CMD_DROPPED.modulus - 1) ∧
      Leaves [.CMD_DROPPED, .DL_SEND_STATUS, .REC_LOST] s (displace p source s) ∧
      (∀ p', p' ≠ p → (displace p source s).port p' = s.port p' ∧ (displace p source s).rget .CMD_DROPPED p' = s.rget .CMD_DROPPED p') := by
  unfold displace
  extract_lets s₁ s₂ x
  have hd : s₂.rget .CMD_DROPPED p = Nat.min (s.rget .CMD_DROPPED p + 1) (El.CMD_DROPPED.modulus - 1) := by
    unfold s₂
    split <;> simp [s₁, State.rget_rset, State.rget_rinc]
  have hl : Leaves [.CMD_DROPPED, .DL_SEND_STATUS, .REC_LOST] s s₂ :=
    (Leaves.rinc (by decide) s p).trans (.ite (.rset (by decide) ..) (.refl _))
  have ho : ∀ p', p' ≠ p → s₂.port p' = s.port p' ∧ s₂.rget .CMD_DROPPED p' = s.rget .CMD_DROPPED p' := fun p' hp => by
    unfold s₂
    split <;> exact ⟨rfl, by simp [s₁, State.rget_rset, State.rget_rinc, hp]⟩
  split
  · exact ⟨hd, hl, ho⟩
  · refine ⟨?_, ?_, fun p' hp => ⟨?_, ?_⟩⟩
    · rw [raise_rget _ _ _ _ _ _ (by decide), State.setPort_rget, hd]
    · exact (hl.trans (.setPort ..)).trans (.raise (by decide) ..)
    · rw [State.port, raise_ports]
      exact (mget_mset_other _ _ _ _ _ _ hp).trans (ho p' hp).1
    · rw [raise_rget _ _ _ _ _ _ (by decide), State.setPort_rget, (ho p' hp).2]

/-- What a pulse placed on ports leaves, read by what the ports held before. -/
structure Pulsed (cmd : Nat) (l : List Nat) (s t : State) : Prop where
  crossing : t.crossing = s.crossing
  placed : ∀ p ∈ l, (t.port p).pulse = some (s.crossing, cmd)
  other : ∀ p, p ∉ l → t.port p = s.port p ∧ t.rget .CMD_DROPPED p = s.rget .CMD_DROPPED p
  alone : (∀ p ∈ l, ∀ c, (s.port p).pulse ≠ some (s.crossing, c)) → ∀ x, { t with ports := x } = { s with ports := x }
  displaced : ∀ p ∈ l, ∀ c, (s.port p).pulse = some (s.crossing, c) →
    t.rget .CMD_DROPPED p = Nat.min (s.rget .CMD_DROPPED p + 1) (El.CMD_DROPPED.modulus - 1)

theorem placePulse_pulsed (cmd p : Nat) (s : State) : Pulsed cmd [p] s (placePulse cmd p s) := by
  obtain ⟨hd, hl, ho⟩ := displace_spec p 2 s
  have hc : (displace p 2 s).crossing = s.crossing := by
    have hb := (displace_onlyPorts p 2 s).tb
    exact crossing_congr (by rw [hb]) (by rw [hb]) (by rw [hb]) (hl.rget _ (by decide) 0)
  /- the state whose port takes the pulse: the given one, or the one that has dropped the command before -/
  have key : ∀ u : State, u.crossing = s.crossing →
      (∀ p', p' ≠ p → u.port p' = s.port p' ∧ u.rget .CMD_DROPPED p' = s.rget .CMD_DROPPED p') →
      ((∀ c, (s.port p).pulse ≠ some (s.crossing, c)) → u = s) →
      (∀ c, (s.port p).pulse = some (s.crossing, c) → u.rget .CMD_DROPPED p = Nat.min (s.rget .CMD_DROPPED p + 1) (El.CMD_DROPPED.modulus - 1)) →
      Pulsed cmd [p] s (u.setPort p { u.port p with pulse := some (u.crossing, cmd) }) := by
    intro u hu ho ha hd
    refine ⟨hu, fun q hq => ?_, fun q hq => ⟨?_, ?_⟩, fun h x => ?_, fun q hq c h => ?_⟩
    · obtain rfl := List.mem_singleton.mp hq
      rw [State.port, State.setPort, mget_mset_same, hu]
    · rw [List.mem_singleton] at hq
      exact (mget_mset_other _ _ _ _ _ _ hq).trans (ho q hq).1
    · rw [List.mem_singleton] at hq
      exact (ho q hq).2
    · rw [ha (h p (List.mem_singleton_self p))]
      rfl
    · obtain rfl := List.mem_singleton.mp hq
      exact hd c h
  unfold placePulse
  extract_lets u
  refine key u ?_ ?_ ?_ ?_
  all_goals unfold u; split
  · split
    · exact hc
    · rfl
  · rfl
  · split
    · exact ho
    · exact fun _ _ => ⟨rfl, rfl⟩
  · exact fun _ _ => ⟨rfl, rfl⟩
  · next x c hx =>
    split
    · next h => exact fun hn => absurd (h ▸ hx) (hn c)
    · exact fun _ => rfl
  · exact fun _ => rfl
  · next x c hx =>
    split
    · exact fun _ _ => hd
    · next h => exact fun c' hc' => absurd (by rw [hx] at hc'; simp_all) h
  · next hx => exact fun c hc' => by simp [hx] at hc'

theorem Pulsed.nil (cmd : Nat) (s : State) : Pulsed cmd [] s s :=
  ⟨rfl, fun _ h => absurd h List.not_mem_nil, fun _ _ => ⟨rfl, rfl⟩, fun _ _ => rfl, fun _ h => absurd h List.not_mem_nil⟩

theorem Pulsed.cons {cmd p : Nat} {l : List Nat} {s t r : State} (hp : p ∉ l) (h : Pulsed cmd [p] s t) (h' : Pulsed cmd l t r) :
    Pulsed cmd (p :: l) s r := by
  have hne : ∀ q ∈ l, q ∉ [p] := fun q hq hm => hp (List.mem_singleton.mp hm ▸ hq)
  refine ⟨h'.crossing.trans h.crossing, fun q hq => ?_, fun q hq => ?_, fun hn x => ?_, fun q hq c hc => ?_⟩
  · obtain rfl | hq := List.mem_cons.mp hq
    · rw [(h'.other q hp).1, h.placed q (List.mem_singleton_self q)]
    · rw [h'.placed q hq, h.crossing]
  · rw [List.mem_cons, not_or] at hq
    obtain ⟨hq, hql⟩ := hq
    have hq' : q ∉ [p] := by simpa using hq
    exact ⟨(h'.other q hql).1.trans (h.other q hq').1, (h'.other q hql).2.trans (h.other q hq').2⟩
  · have ht : ∀ q ∈ l, ∀ c, (t.port q).pulse ≠ some (t.crossing, c) := fun q hq c => by
      rw [(h.other q (hne q hq)).1, h.crossing]
      exact hn q (List.mem_cons_of_mem _ hq) c
    exact (h'.alone ht x).trans (h.alone (fun q hq c => hn q (by simp_all) c) x)
  · obtain rfl | hq := List.mem_cons.mp hq
    · rw [(h'.other q hp).2, h.displaced q (List.mem_singleton_self q) c hc]
    · rw [h'.displaced q hq c (by rw [(h.other q (hne q hq)).1, h.crossing, hc]), (h.other q (hne q hq)).2]

theorem placePulses_pulsed (cmd : Nat) {l : List Nat} (hl : l.Nodup) (s : State) :
    Pulsed cmd l s (l.foldl (fun t p => placePulse cmd p t) s) := by
  induction l generalizing s with
  | nil => exact .nil cmd s
  | cons p l ih =>
    obtain ⟨hp, hl⟩ := List.nodup_cons.mp hl
    exact .cons hp (placePulse_pulsed cmd p s) (ih hl _)

theorem ttPorts_nodup (e : TtEntry) : (ttPorts e).Nodup := by
  unfold ttPorts groupPorts
  split
  · exact List.nodup_singleton _
  · exact List.nodup_range.map fun a b h => by simpa using h

/-- Settles O8: by the entry's action. -/
theorem windowsOpenAndClose : Obligations.WindowsOpenAndClose := by
  unfold Obligations.WindowsOpenAndClose
  intro k s hr
  refine ⟨fun hs he hm ha hw => ?_, fun x hx hact => ?_⟩
  · have hx : exec (.ttWindowStart k) s = .next (fireEntry k s) := execTtWindowStart_of_due hr hs he hm ha hw
    rw [hx]
    unfold fireEntry
    extract_lets e _ opened
    refine ⟨fun hact => ?_, fun hact => ?_, fun hact => ?_, fun hact hp => ?_, fun hact hp hn => ?_⟩
    · simp only [List.mem_cons, List.not_mem_nil, or_false] at hact
      obtain h | h := hact <;> simp [h, opened, e]
    · rw [hact]
      have h := countPauses_pausesOnly opened
      exact ⟨_, rfl, h.openWindows, h.active, h.frame s.rb s.recorder s.regs⟩
    · rw [hact]
      have h := placePulses_pulsed (ttArg e) (ttPorts_nodup e) s
      exact ⟨_, rfl, h.placed, fun p hp => (h.other p hp).1, fun hn => h.alone hn s.ports, h.displaced⟩
    · rw [hact]
      exact congrArg _ (if_pos hp)
    · rw [hact]
      simp [tableSleep, hp, hn, e]
  · have hc : closeEntry k x s = { s with rb := { s.rb with openWindows := s.rb.openWindows.filter (· != (k, x)) } } := by
      unfold closeEntry
      simp only [List.mem_cons, List.not_mem_nil, or_false] at hact
      obtain h | h | h := hact <;> simp [h]
    show execTtWindowEnd k s = _
    unfold execTtWindowEnd
    rw [hx]
    simp only [hr, if_true, hc]

/-! ### COUNT_CLEAR -/

theorem rclear_rget_of_mem {es : List El} {c : El} (u : Nat) (hc : c ∈ es) (s : State) : (s.rclear u es).rget c u = 0 := by
  have keep : ∀ (l : List El) (t : State), t.rget c u = 0 → (l.foldl (fun t e => t.rset e u 0) t).rget c u = 0 := by
    intro l
    induction l with
    | nil => exact fun t h => h
    | cons e l ih =>
      refine fun t h => ih _ ?_
      rw [State.rget_rset]
      split
      · rfl
      · exact h
  unfold State.rclear
  induction es generalizing s with
  | nil => exact absurd hc List.not_mem_nil
  | cons e l ih =>
    obtain rfl | hc := List.mem_cons.mp hc
    · exact keep l _ (State.rget_rset_same ..)
    · exact ih hc _

theorem rclear_mfind_other {k u : Nat} {es : List El} (hk : ∀ c ∈ es, k ≠ regKey c u) (s : State) :
    mfind (s.rclear u es).regs k = mfind s.regs k := by
  unfold State.rclear
  induction es generalizing s with
  | nil => rfl
  | cons e l ih =>
    rw [List.foldl_cons, ih (fun c hc => hk c (List.mem_cons_of_mem _ hc))]
    exact mfind_mset_other _ _ _ _ _ (hk e List.mem_cons_self)

theorem rclear_frame (u : Nat) (es : List El) (s : State) : ∃ g, s.rclear u es = { s with regs := g } := by
  unfold State.rclear
  induction es generalizing s with
  | nil => exact ⟨_, rfl⟩
  | cons e l ih => exact ih _

theorem clearCounts_frame (e : ClearElement) (u : Nat) (s : State) :
    ∃ d m, clearCounts e u s = { s.rclear (s.clearUnit e u) (clearedBy e) with dists := d, mem := m } := by
  unfold clearCounts
  generalize s.rclear (s.clearUnit e u) (clearedBy e) = t
  cases e <;> exact ⟨_, _, rfl⟩

/-- Settles O9: what is cleared is the registers of the list, one by one. -/
theorem countClearClears : Obligations.CountClearClears := by
  unfold Obligations.CountClearClears
  refine fun w e u s => ⟨fun ha => write_performed (h := hClear e u) ha rfl rfl rfl, fun ha => ?_⟩
  obtain ⟨d, m, hc⟩ := clearCounts_frame e u s
  obtain ⟨g, hg⟩ := rclear_frame (s.clearUnit e u) (clearedBy e) s
  refine ⟨clearCounts e u s, write_performed (h := hClear e u) ha rfl rfl rfl, fun c hm => ?_, fun k hk => ?_, ?_⟩
  · rw [hc]
    exact rclear_rget_of_mem _ hm s
  · rw [hc]
    exact rclear_mfind_other hk s
  · rw [hc, hg]

end Sys2Proof.Machine
end

section
/-! O10, O12 and O13: the front-end ports' settings, locks, frames and alignment (R70 to R103). -/

namespace Sys2Proof.Machine

open Sys2Proof.Safety

/-- A write that its own rule refuses leaves the answer, and what a refusal of its kind counts. -/
theorem write_refusedWith {w : Route} {e : El} {u v c : Nat} {h : Handler} {s : State} (ha : accepts w e u v s = true)
    (hr : h.allow w v s = true) (hv : h.range v s = true) (hact : h.act v s = .error c) :
    write w e u v h s = refused w c (refusedWith w (eidOf e u) c s) := by
  simp only [write, request, heard_of_accepts ha, inTurn_of_idle (idle_of_accepts ha), judged, judge_of_accepts ha hr hv, hact,
    refused, if_true]

/-! ### One port changes -/

/-- Ports other than the one named are as before. -/
structure OtherPorts (p : Nat) (s t : State) : Prop where
  port : ∀ q, q ≠ p → t.port q = s.port q

theorem OtherPorts.refl (p : Nat) (s : State) : OtherPorts p s s := ⟨fun _ _ => rfl⟩

theorem OtherPorts.trans {p : Nat} {s t r : State} (h : OtherPorts p s t) (h' : OtherPorts p t r) : OtherPorts p s r :=
  ⟨fun q hq => (h'.port q hq).trans (h.port q hq)⟩

theorem OtherPorts.setPort (p : Nat) (s : State) (x : Port) : OtherPorts p s (s.setPort p x) := ⟨fun _ hq => mget_mset_other _ _ _ _ _ _ hq⟩

theorem OtherPorts.of_ports {p : Nat} {s t : State} (h : t.ports = s.ports) : OtherPorts p s t := ⟨fun q _ => by
  rw [State.port, State.port, h]⟩

theorem OtherPorts.ite {p : Nat} {c : Prop} [Decidable c] {s t r : State} (ht : OtherPorts p s t) (hr : OtherPorts p s r) :
    OtherPorts p s (if c then t else r) := by
  split
  · exact ht
  · exact hr

@[simp] theorem port_setPort (s : State) (p : Nat) (x : Port) : (s.setPort p x).port p = x := mget_mset_same ..

theorem leaveAligned_otherPorts (p level : Nat) (s : State) : OtherPorts p s (leaveAligned p level s) := by
  unfold leaveAligned
  refine .ite ?_ (.refl ..)
  exact (OtherPorts.setPort ..).trans (.of_ports (raise_ports ..))

theorem loseFramed_otherPorts (p level : Nat) (s : State) : OtherPorts p s (loseFramed p level s) :=
  (leaveAligned_otherPorts p level s).trans (.setPort ..)

theorem loseCode_otherPorts (p level : Nat) (s : State) : OtherPorts p s (loseCode p level s) :=
  (loseFramed_otherPorts p level s).trans (.setPort ..)

theorem keepEq_ports (p : Nat) (s : State) : (keepEq p s).ports = s.ports := by
  unfold keepEq
  split <;> rfl

theorem addFree_ports (e : El) (u : Nat) (s : State) : (addFree e u s).ports = s.ports := rfl

theorem loseCdr_otherPorts (p level : Nat) (s : State) : OtherPorts p s (loseCdr p level s) := by
  have h₁ : OtherPorts p s (keepEq p (if s.codeCounts p then addFree .CODE_ERRORS p s else s)) :=
    .of_ports ((keepEq_ports ..).trans (by split <;> rfl))
  exact (h₁.trans (loseCode_otherPorts ..)).trans (.setPort ..)

theorem abortWindow_otherPorts (p : Nat) (s : State) : OtherPorts p s (abortWindow p s) := by
  unfold abortWindow
  split
  · exact ⟨fun q hq => (OtherPorts.setPort ..).port q hq⟩
  · exact .refl ..

theorem settlePort_otherPorts (p : Nat) (s : State) : OtherPorts p s (settlePort p s) := .ite (.refl ..) (loseCdr_otherPorts ..)

/-- A judgement of the timing port changes no other. -/
theorem judgeTiming_otherPorts {p : Nat} {s : State} (h : s.rget .TIMING_PORT = p) : OtherPorts p s (judgeTiming s) := by
  unfold judgeTiming unqualified
  rw [h]
  refine .ite (.refl ..) (.ite (.setPort ..) ?_)
  refine .ite (.of_ports rfl) ⟨fun q hq => ?_⟩
  rw [State.port, raise_ports]
  exact (OtherPorts.setPort p _ _).port q hq

/-- A judgement of the timing port changes of the port only that its fault has been noted. -/
theorem judgeTiming_port {p : Nat} {s : State} (h : s.rget .TIMING_PORT = p) :
    (judgeTiming s).port p = { s.port p with noticed := ((judgeTiming s).port p).noticed } := by
  have key : ∀ t : State, (∃ b, t.port p = { s.port p with noticed := b }) → t.port p = { s.port p with noticed := (t.port p).noticed } := by
    rintro t ⟨b, hb⟩
    rw [hb]
  refine key _ ?_
  unfold judgeTiming unqualified
  rw [h]
  dsimp only
  split
  · exact ⟨_, rfl⟩
  · split
    · exact ⟨false, port_setPort ..⟩
    · split
      · exact ⟨_, rfl⟩
      · refine ⟨true, ?_⟩
        rw [State.port, raise_ports]
        exact port_setPort ..

/-- A port that loses alignment keeps its receive clock and code lock. -/
theorem leaveAligned_port (p level : Nat) (s : State) :
    (leaveAligned p level s).port p =
      if (s.port p).aligned then { s.port p with aligned := false, needsAlign := true, fifo := [], placedRun := 0, reenter := false }
      else s.port p := by
  unfold leaveAligned
  dsimp only
  split
  · rw [State.port, raise_ports]
    exact port_setPort ..
  · rfl

theorem leaveAligned_aligned (p level : Nat) (s : State) : ((leaveAligned p level s).port p).aligned = false := by
  rw [leaveAligned_port]
  split
  · rfl
  · next h => simpa using h

/-- What a port holds after it lost frame lock. -/
theorem loseFramed_port (p level : Nat) (s : State) :
    ((loseFramed p level s).port p).framed = false ∧ ((loseFramed p level s).port p).aligned = false ∧
      ((loseFramed p level s).port p).code = (s.port p).code ∧ ((loseFramed p level s).port p).cdr = (s.port p).cdr ∧
      ((s.port p).aligned = true → ((loseFramed p level s).port p).needsAlign = true ∧ ((loseFramed p level s).port p).fifo = []) := by
  unfold loseFramed
  extract_lets s₁ x
  rw [port_setPort]
  refine ⟨rfl, leaveAligned_aligned p level s, ?_, ?_, fun h => ?_⟩
  · simp only [x, s₁, leaveAligned_port]
    split <;> rfl
  · simp only [x, s₁, leaveAligned_port]
    split <;> rfl
  · simp [x, s₁, leaveAligned_port, h]

/-- What a port holds after it lost code lock. -/
theorem loseCode_port (p level : Nat) (s : State) :
    ((loseCode p level s).port p).code = false ∧ ((loseCode p level s).port p).framed = false ∧
      ((loseCode p level s).port p).aligned = false ∧ ((loseCode p level s).port p).cdr = (s.port p).cdr ∧
      ((s.port p).aligned = true → ((loseCode p level s).port p).needsAlign = true ∧ ((loseCode p level s).port p).fifo = []) := by
  obtain ⟨hf, ha, -, hc, hn⟩ := loseFramed_port p level s
  unfold loseCode
  extract_lets s₁
  rw [port_setPort]
  exact ⟨rfl, hf, ha, hc, hn⟩

/-- What a port holds after it lost its receive clock. -/
theorem loseCdr_port (p level : Nat) (s : State) :
    ((loseCdr p level s).port p).cdr = false ∧ ((loseCdr p level s).port p).code = false ∧
      ((loseCdr p level s).port p).framed = false ∧ ((loseCdr p level s).port p).aligned = false ∧
      ((s.port p).aligned = true → ((loseCdr p level s).port p).needsAlign = true ∧ ((loseCdr p level s).port p).fifo = []) := by
  unfold loseCdr
  extract_lets s₁ s₂
  have hp : s₁.port p = s.port p := by
    have h : s₁.ports = s.ports := (keepEq_ports ..).trans (by split <;> rfl)
    rw [State.port, State.port, h]
  obtain ⟨hc, hf, ha, -, hn⟩ := loseCode_port p level s₁
  rw [port_setPort]
  exact ⟨rfl, hc, hf, ha, fun h => hn (by rw [hp, h])⟩

/-! ### Settings -/

theorem isTimingPort_iff {s : State} {p : Nat} : s.isTimingPort p = true ↔ s.rget .CLK_SRC = 1 ∧ s.rget .TIMING_PORT = p := by
  simp [State.isTimingPort]

theorem judgeTiming_dists (s : State) : (judgeTiming s).dists = s.dists := by
  unfold judgeTiming unqualified
  dsimp only
  split
  · rfl
  · split
    · rfl
    · split
      · rfl
      · rw [raise_dists]
        rfl

theorem OnlyPorts.dists {s t : State} (h : OnlyPorts s t) : t.dists = s.dists := by
  obtain ⟨_, _, _, _, rfl⟩ := h
  rfl

/-- What a stored port setting leaves of the state it is stored in: the value, and every other port. -/
structure PortStored (e : El) (p v : Nat) (s t : State) : Prop where
  value : t.rget e p = v
  others : OtherPorts p s t
  dists : t.dists = s.dists

theorem PortStored.after {e : El} {p v : Nat} {s u t : State} (h : PortStored e p v u t) (ho : OtherPorts p s u) (hd : u.dists = s.dists) :
    PortStored e p v s t := ⟨h.value, ho.trans h.others, h.dists.trans hd⟩

theorem storeSetting_stored (e : El) (p v : Nat) (s : State) (he : e ∉ noClockEls) : PortStored e p v s (storeSetting e p v s) := by
  unfold storeSetting
  extract_lets before s₁
  have hg : s₁.rget e p = v := by
    rw [((settlePort_leaves ..).mono (List.subset_append_left ..)).rget e he, State.rget_rset_same]
  have ho : OtherPorts p s s₁ := ⟨fun q hq => (settlePort_otherPorts p (s.rset e p v)).port q hq⟩
  have hd : s₁.dists = s.dists := (settlePort_onlyPorts p (s.rset e p v)).dists
  split
  · next h =>
    simp only [Bool.and_eq_true] at h
    obtain ⟨-, ht⟩ := isTimingPort_iff.mp h.1
    exact ⟨((judgeTiming_leaves s₁).rget e he p).trans hg, ho.trans (judgeTiming_otherPorts ht), (judgeTiming_dists s₁).trans hd⟩
  · exact ⟨hg, ho, hd⟩

theorem disablePort_keeps (p : Nat) (s : State) : OtherPorts p s (disablePort p s) ∧ (disablePort p s).dists = s.dists :=
  ⟨(loseCdr_otherPorts p 0 s).trans (abortWindow_otherPorts ..),
    (abortWindow_onlyPorts ..).dists.trans (loseCdr_onlyPorts p 0 s).dists⟩

/-- Where the conditions of a setting hold, it is stored. -/
theorem hPortSetting_stores (e : PortSetting) (p v : Nat) (s : State)
    (hb : e ∈ [PortSetting.coding, .rxMult, .frameWords, .scramble] → s.rflag .ENABLE p = false)
    (ht : e = .txMult → s.rflag .DL_ENABLE p = false) (hr : e = .rxMult → s.ringBreaks p v = false) :
    ∃ t, (hPortSetting e p).act v s = .ok t ∧ PortStored (portSettingEl e) p v s t := by
  have plain : ∀ (x : El), x ∉ noClockEls → PortStored x p v s (storeSetting x p v s) := fun x hx => storeSetting_stored x p v s hx
  have busy : ∀ (x : El) (k : Except Nat State), s.rflag x p = false → (if s.rflag x p then .error 6 else k) = k :=
    fun x k h => by rw [h]; rfl
  cases e
  case enable =>
    refine ⟨_, rfl, (storeSetting_stored .ENABLE p v _ (by decide)).after ?_ ?_⟩
    · exact .ite (disablePort_keeps p s).1 (.refl ..)
    · split
      · exact (disablePort_keeps p s).2
      · rfl
  case adapt =>
    exact ⟨_, rfl, (storeSetting_stored .ADAPT p v _ (by decide)).after (.of_ports (keepEq_ports p s)) (keepEq_onlyPorts p s).dists⟩
  case dlEnable =>
    refine ⟨_, rfl, (storeSetting_stored .DL_ENABLE p v _ (by decide)).after (.ite (.setPort ..) (.refl ..)) ?_⟩
    split <;> rfl
  case coding => exact ⟨_, busy .ENABLE _ (hb (by simp)), plain .CODING (by decide)⟩
  case rxMult =>
    refine ⟨_, ?_, plain .RX_MULT (by decide)⟩
    show (if s.ringBreaks p v then Except.error 5 else _) = _
    rw [hr rfl]
    exact busy .ENABLE _ (hb (by simp))
  case frameWords => exact ⟨_, busy .ENABLE _ (hb (by simp)), plain .FRAME_WORDS (by decide)⟩
  case scramble => exact ⟨_, busy .ENABLE _ (hb (by simp)), plain .SCRAMBLE (by decide)⟩
  case txMult => exact ⟨_, busy .DL_ENABLE _ (ht rfl), plain .TX_MULT (by decide)⟩
  case ctle =>
    have h := plain .CTLE (by decide)
    refine ⟨_, rfl, ?_, ?_, ?_⟩
    · split
      · rw [State.rget_rset, if_neg (by simp [portSettingEl])]
        exact h.value
      · exact h.value
    · exact .ite ⟨fun q hq => h.others.port q hq⟩ h.others
    · split
      · exact h.dists
      · exact h.dists
  all_goals exact ⟨_, rfl, plain _ (by decide)⟩

theorem hPortSetting_allow (e : PortSetting) (p v : Nat) (w : Route) (s : State) : (hPortSetting e p).allow w v s = true := by
  cases e <;> rfl

theorem hPortSetting_range (e : PortSetting) (p v : Nat) (s : State)
    (hf : e = .frameWords → 1 ≤ v ∧ v ≤ wMax (s.rget .CODING p) (s.rget .RX_MULT p))
    (hg : e ∈ [PortSetting.alignGuard, .dlSkew] → v < s.M) : (hPortSetting e p).range v s = true := by
  cases e
  case frameWords => simpa [hPortSetting, Nat.ble_eq] using hf rfl
  case alignGuard => simpa [hPortSetting, Nat.blt_eq] using hg (by simp)
  case dlSkew => simpa [hPortSetting, Nat.blt_eq] using hg (by simp)
  all_goals rfl

/-! ### Patterns -/

theorem addFree_spec (e : El) (u : Nat) (s : State) :
    (∃ n, (addFree e u s).rget e u = Nat.min (s.rget e u + n) (e.modulus - 1)) ∧ Leaves [e] s (addFree e u s) ∧
      { addFree e u s with regs := s.regs, fv := s.fv } = s :=
  ⟨⟨_, State.rget_rset_same ..⟩, addFree_leaves (List.mem_singleton_self e) u s, rfl⟩

/-- The pattern errors, or the code errors, that have come so far are counted before RX_PRBS changes. -/
def prbsCounted (p : Nat) (s : State) : State :=
  if s.rget .RX_PRBS p != 0 then addFree .PRBS_ERRORS p s else if s.codeCounts p then addFree .CODE_ERRORS p s else s

theorem hRxPrbs_act {p v : Nat} {s : State} (h : v = 0 ∨ s.fget .MASK p ≠ 0) :
    (hRxPrbs p).act v s =
      .ok (if v != 0 then (loseCode p 5 (prbsCounted p s)).rset .RX_PRBS p v else (prbsCounted p s).rset .RX_PRBS p v) := by
  show (if v != 0 && s.fget .MASK p = 0 then _ else _) = _
  rw [if_neg]
  · rfl
  · obtain rfl | h := h <;> simp_all

theorem hRxPrbs_refuses {p v : Nat} {s : State} (hv : v ≠ 0) (h : s.fget .MASK p = 0) : (hRxPrbs p).act v s = .error 6 := by
  show (if v != 0 && s.fget .MASK p = 0 then _ else _) = _
  rw [if_pos (by simp [hv, h])]

/-- A port's loss of code lock counts no code errors of its own. -/
theorem loseCode_leavesErrors (p level : Nat) (s : State) : Leaves [.LOCK_LOSSES, .REC_LOST] s (loseCode p level s) := by
  have hl : Leaves [.LOCK_LOSSES, .REC_LOST] s (leaveAligned p level s) := by
    unfold leaveAligned
    exact .ite ((Leaves.setPort ..).trans ((Leaves.rinc (by decide) _ _).trans (.raise (by decide) ..))) (.refl s)
  exact (hl.trans (.setPort ..)).trans (.setPort ..)

theorem prbsCounted_ports (p : Nat) (s : State) : (prbsCounted p s).ports = s.ports := by
  unfold prbsCounted
  split
  · rfl
  · split <;> rfl

/-- A pattern taken up by a receiver: its locks are lost, and no other port changes. -/
theorem prbsTaken (p v : Nat) (s : State) :
    let t := (loseCode p 5 s).rset .RX_PRBS p v
    t.rget .RX_PRBS p = v ∧ (t.port p).code = false ∧ (t.port p).framed = false ∧ (t.port p).aligned = false ∧ OtherPorts p s t := by
  obtain ⟨hc, hf, ha, -, -⟩ := loseCode_port p 5 s
  exact ⟨State.rget_rset_same .., hc, hf, ha, ⟨fun q hq => (loseCode_otherPorts p 5 s).port q hq⟩⟩

theorem stored_deferred {w : Route} {e : El} {u v : Nat} {s : State} (hw : w ≠ .loader) :
    Deferred w e u v s (performed w (s.rdefer e u v)) := by
  refine ⟨answerTo w 0 [] (s.rdefer e u v), rfl, ?_, fun k hk => ?_, ?_, fun k hk => ?_, ?_, ?_, ?_⟩
  · rw [answerTo_rget]
    exact State.rget_rset_same ..
  · rw [answerTo_regs]
    exact mfind_mset_other _ _ _ _ _ hk
  · rw [answerTo_deferred]
    exact mfind_mput_same ..
  · rw [answerTo_deferred]
    exact mfind_mput_other _ _ _ _ hk
  · rw [State.fget, answerTo_force]
    rfl
  · exact answerTo_answer hw ..
  · cases w <;> rfl

/-- Settles O10: the settings by what storing one leaves, the patterns by what is counted before. -/
theorem portSettings : Obligations.PortSettings := by
  unfold Obligations.PortSettings
  refine ⟨fun w e p v s ha => ⟨fun hb ht hf hg hr => ?_, fun he hen => ?_, fun he hr hen => ?_, fun he hr => ?_, fun he h1 h2 hen => ?_,
      fun he hv => ?_, fun he hv => ?_, fun he hen => ?_⟩,
    fun w p v s => ⟨fun e ha ho => ?_, fun ha => ?_, fun ha => ⟨fun hm => ?_, fun hv hm => ?_⟩,
      fun ha => ⟨fun hv hr hc => ?_, fun hm hr hc => ?_, fun hv hr => ?_, fun hv hm => ?_, fun hv hm => ?_⟩,
      fun ha => ⟨fun hr => ?_, fun hr => ?_⟩⟩⟩
  · obtain ⟨t, hact, h⟩ := hPortSetting_stores e p v s hb ht hr
    exact ⟨t, write_performed ha (hPortSetting_allow ..) (hPortSetting_range e p v s hf hg) hact, h.value, h.others.port,
      cells_of_words (hPortSetting_keepsWords e p v s t hact), h.dists⟩
  · simp only [List.mem_cons, List.not_mem_nil, or_false] at he
    obtain rfl | rfl := he <;> exact write_refused (h := hPortSetting _ p) ha rfl rfl (if_pos hen) (by decide)
  · subst he
    refine write_refused (h := hPortSetting .rxMult p) ha rfl rfl ?_ (by decide)
    show (if s.ringBreaks p v then _ else _) = _
    rw [hr]
    exact if_pos hen
  · subst he
    exact write_refusedWith (h := hPortSetting .rxMult p) ha rfl rfl (if_pos hr)
  · subst he
    exact write_refused (h := hPortSetting .frameWords p) ha rfl (by simp [hPortSetting, Nat.ble_eq, h1, h2]) (if_pos hen) (by decide)
  · subst he
    refine write_outOfRange (h := hPortSetting .frameWords p) ha rfl ?_
    rw [Bool.eq_false_iff]
    simpa [hPortSetting, Nat.ble_eq] using hv
  · simp only [List.mem_cons, List.not_mem_nil, or_false] at he
    obtain rfl | rfl := he <;>
    · refine write_outOfRange (h := hPortSetting _ p) ha rfl ?_
      rw [Bool.eq_false_iff]
      simpa [hPortSetting, Nat.blt_eq] using hv
  · subst he
    exact write_refused (h := hPortSetting .txMult p) ha rfl rfl (if_pos hen) (by decide)
  · refine write_stores (h := hAlignSetting e p) ha rfl ?_ rfl
    cases e
    case tagOffset => simpa [hAlignSetting, Nat.blt_eq] using ho rfl
    all_goals rfl
  · have h : exec (.maskWrite w p v) s = performed w (s.rdefer .MASK p v) := write_performed (h := hMask p) ha rfl rfl rfl
    rw [h]
    exact stored_deferred (loader_of_accepts ha)
  · refine write_stores (h := hDlPrbs p) ha rfl rfl (if_neg ?_)
    obtain rfl | h := hm <;> simp_all
  · exact write_refused (h := hDlPrbs p) ha rfl rfl (if_pos (by simp [hv, hm])) (by decide)
  · refine write_stores (h := hRxPrbs p) ha rfl rfl ?_
    rw [hRxPrbs_act (.inl hv)]
    simp [hv, prbsCounted, hr, State.codeCounts, hc]
  · have hp : prbsCounted p s = addFree .CODE_ERRORS p s := by simp [prbsCounted, hr, State.codeCounts, hc]
    obtain ⟨⟨n, hn⟩, -, hf⟩ := addFree_spec .CODE_ERRORS p s
    refine ⟨_, write_performed (h := hRxPrbs p) ha rfl rfl (hRxPrbs_act hm), ?_, ⟨n, ?_⟩, fun hv => ?_⟩
    · split <;> exact State.rget_rset_same ..
    · rw [hp]
      split
      · rw [State.rget_rset, if_neg (by simp), (loseCode_leavesErrors p 5 _).rget _ (by decide), hn]
      · rw [State.rget_rset, if_neg (by simp), hn]
    · rw [hp, hv]
      exact hf
  · have hp : prbsCounted p s = addFree .PRBS_ERRORS p s := by simp [prbsCounted, hr]
    obtain ⟨⟨n, hn⟩, -, hf⟩ := addFree_spec .PRBS_ERRORS p s
    refine ⟨(addFree .PRBS_ERRORS p s).rset .RX_PRBS p 0, write_performed (h := hRxPrbs p) ha rfl rfl ?_, State.rget_rset_same ..,
      ⟨n, ?_⟩, hf⟩
    · rw [hRxPrbs_act (.inl hv), hp, hv]
      rfl
    · rw [State.rget_rset, if_neg (by simp), hn]
  · obtain ⟨hg, hc, hf, hal, ho⟩ := prbsTaken p v (prbsCounted p s)
    have hq : OtherPorts p s ((loseCode p 5 (prbsCounted p s)).rset .RX_PRBS p v) := (OtherPorts.of_ports (prbsCounted_ports p s)).trans ho
    refine ⟨_, write_performed (h := hRxPrbs p) ha rfl rfl ((hRxPrbs_act (.inr hm)).trans ?_), hg, hc, hf, hal, hq.port⟩
    simp [hv]
  · exact write_refused (h := hRxPrbs p) ha rfl rfl (hRxPrbs_refuses hv hm) (by decide)
  · exact write_stores (h := hDlCmd p) ha rfl (by simp [hDlCmd, hr]) rfl
  · exact write_outOfRange (h := hDlCmd p) ha rfl (by simp [hDlCmd, hr])

end Sys2Proof.Machine
end

section
/-! O12 and O13: receivers' locks, frames and alignment windows (R76 to R94). -/

namespace Sys2Proof.Machine

open Sys2Proof.Safety

/-- Settles O12: each event on a port in the state that it needs. -/
theorem receiverLocks : Obligations.ReceiverLocks := by
  unfold Obligations.ReceiverLocks
  refine fun p s => ⟨fun hm hc hp => ?_, fun ha => ?_, fun hm hc hr => ?_, fun hc => ?_, fun n hc => ?_, fun hf => ?_⟩
  · have hx : execCdrLockAcquired p s = .next
        (if (s.setPort p { s.port p with cdr := true, adaptForced := true }).isTimingPort p
          then judgeTiming (s.setPort p { s.port p with cdr := true, adaptForced := true })
          else s.setPort p { s.port p with cdr := true, adaptForced := true }) := by
      rw [execCdrLockAcquired, if_pos (by simp [hm, hc, hp])]
    refine ⟨_, hx, ?_, ?_⟩
    · split
      · next h =>
        rw [judgeTiming_port (isTimingPort_iff.mp h).2, port_setPort]
      · rw [port_setPort]
    · split
      · next h => exact ((OtherPorts.setPort p s _).trans (judgeTiming_otherPorts (isTimingPort_iff.mp h).2)).port
      · exact (OtherPorts.setPort p s _).port
  · have ho : OtherPorts p s ((keepEq p s).setPort p { s.port p with adaptForced := false }) :=
      (OtherPorts.of_ports (keepEq_ports p s)).trans (.setPort ..)
    exact ⟨_, congrArg Host.Outcome.next (if_pos ha), port_setPort .., ho.port⟩
  · show execCodeLockAcquired p s = _
    rw [execCodeLockAcquired, if_pos (by simp [hm, hc, hr])]
  · obtain ⟨h1, h2, h3, h4, h5⟩ := loseCdr_port p 2 s
    exact ⟨_, congrArg Host.Outcome.next (if_pos hc), h1, h2, h3, h4, (loseCdr_otherPorts p 2 s).port, h5⟩
  · obtain ⟨h1, h2, -, h4, -⟩ := loseCode_port p 3 (s.radd .CODE_ERRORS p n)
    refine ⟨_, congrArg Host.Outcome.next (if_pos hc), h1, h2, h4, (loseCode_otherPorts p 3 (s.radd .CODE_ERRORS p n)).port, ?_⟩
    rw [(loseCode_leavesErrors p 3 _).rget _ (by decide)]
    exact State.rget_rset_same ..
  · obtain ⟨h1, h2, h3, -, -⟩ := loseFramed_port p 4 s
    exact ⟨_, congrArg Host.Outcome.next (if_pos hf), h1, h2, h3, (loseFramed_otherPorts p 4 s).port⟩

/-! ### Frames towards frame lock -/

/-- PORT_STATE 3 is code lock without frame lock (R80). -/
theorem framed_of_portState {s : State} {p : Nat} (h : s.portState p = 3) : (s.port p).framed = false := by
  unfold State.portState at h
  dsimp only at h
  split at h
  · omega
  split at h
  · omega
  split at h
  · omega
  split at h
  · omega
  split at h
  · next hf => simpa using hf
  · split at h <;> omega

/-- A frame without frame lock counts in the runs alone. -/
theorem countRuns_of_unframed (p : Nat) (good : Bool) {s : State} (h : (s.port p).framed = false) :
    countRuns p good s = s.setPort p { s.port p with
      goodRun := if good then (s.port p).goodRun + 1 else 0
      badRun := if good then 0 else (s.port p).badRun + 1
      framed := good && decide (4 ≤ (s.port p).goodRun + 1) } := by
  have hb : ∀ n, Nat.ble 4 n = decide (4 ≤ n) := fun n => by rw [Bool.eq_iff_iff, Nat.ble_eq, decide_eq_true_eq]
  unfold countRuns
  cases good <;> simp [h, hb]

theorem execFrameComplete_of_code {p : Nat} {f : RxFrame} {s : State} (h : s.portState p = 3) :
    execFrameComplete p f s = .next (countRuns p
      (frameCrcOk (s.frameWords p f).1 (s.frameWords p f).2 && (!f.cut && bitsOf (s.frameWords p f).1.toNat 39 32 == s.rget .FRAME_WORDS p
        && (s.frameWords p f).2.length == s.rget .FRAME_WORDS p))
      (if p = s.rget .TIMING_PORT then
        noteOrbit p f.phase (frameCrcOk (s.frameWords p f).1 (s.frameWords p f).2 && bitOf (s.frameWords p f).1.toNat 20) s else s)) := by
  unfold execFrameComplete
  rw [h]
  cases hc : s.counting <;> simp [hc, Nat.ble_eq]

/-! ### Alignment windows -/

theorem openAlign_frame (p first : Nat) (last entry : Option Nat) (s : State) :
    { openAlign p first last entry s with ports := s.ports } = s := by
  unfold openAlign
  generalize s.gangOf p = l
  have h : ∀ t : State, { t with ports := s.ports } = s →
      { l.foldl (fun t q => t.setPort q { t.port q with window := some { first, last, entry, count := 0, dMin := 0, dMax := 0 } }) t with
        ports := s.ports } = s := by
    induction l with
    | nil => exact fun t h => h
    | cons q l ih => exact fun t h => ih _ h
  exact h s rfl

theorem openAlign_window {p : Nat} (first : Nat) (last entry : Option Nat) {s : State} (h : p ∈ s.gangOf p) :
    ((openAlign p first last entry s).port p).window = some { first, last, entry, count := 0, dMin := 0, dMax := 0 } := by
  unfold openAlign
  generalize s.gangOf p = l at h
  have keep : ∀ (l : List Nat) (t : State), (t.port p).window = some { first, last, entry, count := 0, dMin := 0, dMax := 0 } →
      ((l.foldl (fun t q => t.setPort q { t.port q with window := some { first, last, entry, count := 0, dMin := 0, dMax := 0 } }) t).port
        p).window = some { first, last, entry, count := 0, dMin := 0, dMax := 0 } := by
    intro l
    induction l with
    | nil => exact fun t h => h
    | cons q l ih =>
      refine fun t ht => ih _ ?_
      by_cases hq : p = q
      · subst hq
        rw [port_setPort]
      · rw [(OtherPorts.setPort q t _).port p hq, ht]
  induction l generalizing s with
  | nil => exact absurd h List.not_mem_nil
  | cons q l ih =>
    obtain rfl | h := List.mem_cons.mp h
    · exact keep l _ (by rw [port_setPort])
    · exact ih h

/-- A lone port whose window counted what it needs is aligned at the next boundary (R89). -/
theorem endAlign_alone {p : Nat} {s : State} {x : AlignWindow} (hg : s.rget .GANG p = 0) (hx : (s.port p).window = some x)
    (hm : s.rget .ALIGN_MIN p ≤ x.count) (hs : x.dMax ≤ x.dMin + 1) (hl : x.dMax < s.rget .ALIGN_LAT p) :
    endAlign p s = ((s.setPort p { s.port p with window := none, pendingD := some x.dMax }).rset .ALIGN_RESULT p 1).raise sevInfo 0x1002 p
      (leBytes 2 p ++ leBytes 1 x.dMax) := by
  have hgang : s.gangOf p = [p] := by simp [State.gangOf, hg]
  have hj : s.alignJudge p x.dMax = 1 := by
    unfold State.alignJudge
    rw [hx]
    dsimp only
    rw [if_neg (by omega), if_neg (by omega), if_neg (by rw [Nat.ble_eq]; omega)]
  have hr : s.alignResult p = (x.dMax, 1) := by
    unfold State.alignResult
    dsimp only
    rw [hgang, if_pos hg]
    simp only [List.map_cons, List.map_nil, hx, listMax, List.foldl_cons, List.foldl_nil]
    rw [show Nat.max 0 x.dMax = x.dMax from Nat.zero_max .., hj]
  unfold endAlign
  rw [hr, hgang]
  simp only [List.foldl_cons, List.foldl_nil, closeAlign, hx]
  rfl

/-- Settles O13: frames by their runs, requests by what refuses them, a window's end by the port's judgement. -/
theorem framesAndAlignment : Obligations.FramesAndAlignment := by
  unfold Obligations.FramesAndAlignment
  refine ⟨fun p f s hst => ?_, fun w p n s ha => ⟨fun hs => ?_, fun hs hw => ?_, fun hs hw hp => ?_⟩,
    fun p s x l hg hx hl hle hm hs hd hlat => ?_⟩
  · have hf := framed_of_portState hst
    extract_lets hp good timing flag
    have hgood : (frameCrcOk hp.1 hp.2 && (!f.cut && bitsOf hp.1.toNat 39 32 == s.rget .FRAME_WORDS p &&
        hp.2.length == s.rget .FRAME_WORDS p)) = good := by
      simp only [good, Bool.and_assoc]
    have hx : exec (.frameComplete p f) s = .next (countRuns p good (if timing then noteOrbit p f.phase flag s else s)) := by
      rw [← hgood]
      exact execFrameComplete_of_code hst
    by_cases ht : timing
    · have hu : ((noteOrbit p f.phase flag s).port p).framed = false := by
        rw [noteOrbit, port_setPort]
        exact hf
      refine ⟨_, hx, ?_, ?_, ?_⟩
      · rw [if_pos ht, countRuns_of_unframed p good hu]
        rfl
      · rw [if_pos ht, countRuns_of_unframed p good hu]
        exact ((OtherPorts.setPort p s _).trans (.setPort ..)).port
      · rw [if_pos ht, countRuns_of_unframed p good hu, port_setPort, noteOrbit, port_setPort, hf]
        simp only [if_pos ht, Bool.false_or]
        rfl
    · refine ⟨_, hx, ?_, ?_, ?_⟩
      · rw [if_neg ht, countRuns_of_unframed p good hf]
        rfl
      · rw [if_neg ht, countRuns_of_unframed p good hf]
        exact (OtherPorts.setPort p s _).port
      · rw [if_neg ht, countRuns_of_unframed p good hf, port_setPort, hf]
        simp only [if_neg ht, Bool.false_or]
        rfl
  · exact write_refusedWith (h := hAlignReq p) ha rfl rfl (if_pos (by simpa using hs))
  · refine write_refused (h := hAlignReq p) ha rfl rfl ?_ (by decide)
    simp [hAlignReq, Handler.doing, hs, hw]
  · refine ⟨_, write_performed (h := hAlignReq p) ha rfl rfl ?_, openAlign_frame p (s.crossing + 1) (some (s.crossing + n)) none s,
      openAlign_window _ _ _ hp⟩
    simp [hAlignReq, Handler.doing, hs, hw]
  · have he := endAlign_alone hg hx hm hs hlat
    have hx' : exec (.alignWindowEnd p) s = .next (endAlign p s) := by
      show execAlignWindowEnd p s = _
      obtain ⟨f, _, e, c, d, d'⟩ := x
      dsimp only at hl
      subst hl
      unfold execAlignWindowEnd
      rw [hx]
      simp [Nat.ble_eq, hle]
    have hport : (endAlign p s).port p = { s.port p with window := none, pendingD := some x.dMax } := by
      rw [he, State.port, raise_ports]
      exact port_setPort ..
    refine ⟨_, hx', by rw [hport], by rw [hport], ?_, fun q hq => ?_⟩
    · rw [he, raise_rget _ _ _ _ _ _ (by decide), State.rget_rset_same]
    · rw [he, State.port, raise_ports]
      exact (OtherPorts.setPort p s _).port q hq

end Sys2Proof.Machine
end

section
/-! O14 and O15: base contexts, lock groups, Underpass guards and captures (R143 to R149, R168 to R184). -/

namespace Sys2Proof.Machine

open Sys2Proof.Safety

@[simp] theorem dist_setDist (s : State) (d : Nat) (x : District) : (s.setDist d x).dist d = x := mget_mset_same ..

theorem dist_setDist_other (s : State) {d m : Nat} (x : District) (h : m ≠ d) : (s.setDist d x).dist m = s.dist m :=
  mget_mset_other _ _ _ _ _ _ h

theorem dist_congr {s t : State} (h : t.dists = s.dists) (d : Nat) : t.dist d = s.dist d := by rw [State.dist, State.dist, h]

/-! ### One element of several units -/

theorem rsets_rget_of_mem {e : El} {v m : Nat} {l : List Nat} (h : m ∈ l) (s : State) :
    (l.foldl (fun t m => t.rset e m v) s).rget e m = v := by
  have keep : ∀ (l : List Nat) (t : State), t.rget e m = v → (l.foldl (fun t m => t.rset e m v) t).rget e m = v := by
    intro l
    induction l with
    | nil => exact fun t h => h
    | cons k l ih =>
      refine fun t ht => ih _ ?_
      rw [State.rget_rset]
      split
      · rfl
      · exact ht
  induction l generalizing s with
  | nil => exact absurd h List.not_mem_nil
  | cons k l ih =>
    obtain rfl | h := List.mem_cons.mp h
    · exact keep l _ (State.rget_rset_same ..)
    · exact ih h _

theorem rsets_mfind_other {e : El} {v k : Nat} {l : List Nat} (h : ∀ m ∈ l, k ≠ regKey e m) (s : State) :
    mfind (l.foldl (fun t m => t.rset e m v) s).regs k = mfind s.regs k := by
  induction l generalizing s with
  | nil => rfl
  | cons m l ih =>
    rw [List.foldl_cons, ih fun n hn => h n (List.mem_cons_of_mem _ hn)]
    exact mfind_mset_other _ _ _ _ _ (h m List.mem_cons_self)

theorem rsets_frame (e : El) (v : Nat) (l : List Nat) (s : State) : ∃ g, l.foldl (fun t m => t.rset e m v) s = { s with regs := g } := by
  induction l generalizing s with
  | nil => exact ⟨_, rfl⟩
  | cons m l ih => exact ih _

/-! ### Base contexts -/

/-- The orbit of a base change, put to each District of a list. -/
def putBaseAt (n : Nat) (l : List Nat) (s : State) : State := l.foldl (fun t m => t.setDist m { t.dist m with baseAt := some n }) s

theorem putBaseAt_of_mem {n m : Nat} {l : List Nat} (h : m ∈ l) (s : State) : ((putBaseAt n l s).dist m).baseAt = some n := by
  have keep : ∀ (l : List Nat) (t : State), (t.dist m).baseAt = some n → ((putBaseAt n l t).dist m).baseAt = some n := by
    intro l
    induction l with
    | nil => exact fun t h => h
    | cons k l ih =>
      refine fun t ht => ih _ ?_
      by_cases hk : m = k
      · subst hk
        rw [dist_setDist]
      · rw [dist_setDist_other _ _ hk, ht]
  induction l generalizing s with
  | nil => exact absurd h List.not_mem_nil
  | cons k l ih =>
    obtain rfl | h := List.mem_cons.mp h
    · exact keep l _ (by rw [dist_setDist])
    · exact ih h _

theorem putBaseAt_of_not_mem {n m : Nat} {l : List Nat} (h : m ∉ l) (s : State) : (putBaseAt n l s).dist m = s.dist m := by
  unfold putBaseAt
  induction l generalizing s with
  | nil => rfl
  | cons k l ih =>
    rw [List.mem_cons, not_or] at h
    obtain ⟨hk, hl⟩ := h
    rw [List.foldl_cons, ih hl, dist_setDist_other _ _ hk]

theorem putBaseAt_frame (n : Nat) (l : List Nat) (s : State) : ∃ d, putBaseAt n l s = { s with dists := d } := by
  unfold putBaseAt
  induction l generalizing s with
  | nil => exact ⟨_, rfl⟩
  | cons m l ih => exact ih _

theorem hBaseNext_act {w : Route} {d v : Nat} {s : State} (hw : w ≠ .loader) :
    (hBaseNext w d).act v s =
      if v != 0xFF && !s.baseLoaded d v then .error 5
      else if s.basePending d then .error 6
      else .ok ((s.lockstep d).foldl (fun t m => t.rset .BASE_NEXT m v) s) :=
  if_neg (by simp [hw])

/-! ### Lock groups -/

/-- What a switch of a District leaves: every register but REC_LOST, the other Districts, and the District's own base change and windows. -/
structure SwitchOnly (d : Nat) (s t : State) : Prop where
  regs : Leaves [.REC_LOST] s t
  others : ∀ m, m ≠ d → t.dist m = s.dist m
  baseAt : (t.dist d).baseAt = (s.dist d).baseAt
  windows : (t.dist d).windows = (s.dist d).windows

theorem SwitchOnly.refl (d : Nat) (s : State) : SwitchOnly d s s := ⟨.refl s, fun _ _ => rfl, rfl, rfl⟩

theorem runTo_zero (s : State) : runTo 0 s = s := if_pos (Nat.zero_le _)

theorem noteSwitch_leaves (d j k phase : Nat) (p : Nat × LedgerPath) (s : State) :
    Leaves [.REC_LOST] s (noteSwitch d j k phase p s) := .ite (.raise (by decide) ..) (.refl s)

theorem noteSwitch_dists (d j k phase : Nat) (p : Nat × LedgerPath) (s : State) : (noteSwitch d j k phase p s).dists = s.dists := by
  unfold noteSwitch
  extract_lets first last on
  split
  · rw [raise_dists]
  · rfl

theorem switchFlops_frame (d j k : Nat) (s : State) : ∃ f, switchFlops d j k s = { s with flops := f } := by
  unfold switchFlops
  split
  · exact ⟨_, rfl⟩
  · exact ⟨_, rfl⟩

theorem switchTo_switchOnly (d k : Nat) (s : State) : SwitchOnly d s (switchTo d k 0 s) := by
  unfold switchTo
  extract_lets x s₁ s₂ s₃
  have h₁ : s₁ = s := runTo_zero s
  have hr : Leaves [.REC_LOST] s s₂ := by
    unfold s₂
    rw [h₁]
    exact .ite (.foldl (fun t p => noteSwitch_leaves ..) _ _) (.refl s)
  have hd : s₂.dists = s.dists := by
    unfold s₂
    rw [h₁]
    split
    · exact foldl_keeps State.dists (fun t p => noteSwitch_dists ..) _ _
    · rfl
  obtain ⟨f, hf⟩ := switchFlops_frame d x.ctx k s₂
  have h₃ : ∀ m, s₃.dist m = s.dist m := fun m => by
    show (switchFlops d x.ctx k s₂).dist m = _
    rw [hf]
    exact dist_congr hd m
  have hr₃ : Leaves [.REC_LOST] s s₃ := hr.trans (.of_regs (by
    show (switchFlops d x.ctx k s₂).regs = _
    rw [hf]))
  split
  · exact .refl d s
  · refine ⟨hr₃.trans (.of_regs rfl), fun m hm => ?_, ?_, ?_⟩
    · rw [dist_setDist_other _ _ hm, h₃]
    · rw [dist_setDist]
      show (s₃.dist d).baseAt = _
      rw [h₃]
    · rw [dist_setDist]
      show (s₃.dist d).windows = _
      rw [h₃]

theorem switchTo_same {d k phase : Nat} {s : State} (h : (s.dist d).ctx = k) : switchTo d k phase s = s := if_pos (by simp [h])

/-- Leaving the group changes of a District without windows nothing. -/
theorem leaveGroup_of_none {d : Nat} {s : State} (h : (s.dist d).windows = []) : (leaveGroup d s).dist d = s.dist d := by
  unfold leaveGroup State.reachingWindows
  rw [dist_setDist, h, List.filter_nil, ← h]

/-- The handler of LOCK_GROUP, by the census and by the first member of the group joined. -/
theorem hLockGroup_refuses {d v : Nat} {s : State}
    (h : (if d % 2 = 0 then s.census (d / 2) v (s.rget .LOCK_GROUP (if d % 2 = 0 then d + 1 else d - 1))
      else s.census (d / 2) (s.rget .LOCK_GROUP (if d % 2 = 0 then d + 1 else d - 1)) v) = false) :
    (hLockGroup d).act v s = .error 6 :=
  if_pos (by rw [h]; rfl)

theorem hLockGroup_stores {d v : Nat} {s : State}
    (h : (if d % 2 = 0 then s.census (d / 2) v (s.rget .LOCK_GROUP (if d % 2 = 0 then d + 1 else d - 1))
      else s.census (d / 2) (s.rget .LOCK_GROUP (if d % 2 = 0 then d + 1 else d - 1)) v) = true) :
    (hLockGroup d).act v s =
      match (if v = 0xFF then [] else (s.groupMembers v).filter (· != d)) with
      | m :: _ => .ok (settleContext d 0 (joinGroup d m (leaveGroup d (s.rset .LOCK_GROUP d v))))
      | [] => .ok (settleContext d 0 (leaveGroup d (s.rset .LOCK_GROUP d v))) :=
  if_neg (by rw [h]; simp)

/-- What a District that joins a member takes of it. -/
theorem joinGroup_spec {d m : Nat} (s : State) (h : m ≠ d) :
    (joinGroup d m s).rget .BASE_CTX d = s.rget .BASE_CTX m ∧ (joinGroup d m s).rget .BASE_NEXT d = s.rget .BASE_NEXT m ∧
      ((joinGroup d m s).dist d).baseAt = (s.dist m).baseAt ∧ ((joinGroup d m s).dist d).windows = (s.dist m).windows ∧
      Leaves [.BASE_CTX, .BASE_NEXT] s (joinGroup d m s) ∧ (∀ k, k ≠ d → (joinGroup d m s).dist k = s.dist k) := by
  unfold joinGroup
  extract_lets y s₁
  refine ⟨?_, ?_, ?_, ?_, ?_, fun k hk => ?_⟩
  · rw [State.setDist_rget, State.rget_rset, if_neg (by simp), State.rget_rset_same]
  · rw [State.setDist_rget, State.rget_rset_same]
  · rw [dist_setDist]
  · rw [dist_setDist]
  · exact ((Leaves.rset (by decide) ..).trans (.rset (by decide) ..)).trans (.of_regs rfl)
  · rw [dist_setDist_other _ _ hk]
    rfl

/-! ### Underpass guards and District RAM -/

@[simp] theorem guard_setGuard (s : State) (q u : Nat) (g : Guard) : (s.setGuard q u g).guard q u = g := mget_mset_same ..

theorem newTicket_keeps (s : State) : (newTicket s).2.guards = s.guards ∧ (newTicket s).2.regs = s.regs := by
  unfold newTicket
  extract_lets t
  clear_value t
  exact ⟨rfl, rfl⟩

theorem handOverFrame_keeps (f : Nat × Nat) (s : State) :
    (handOverFrame f s).guards = s.guards ∧ (handOverFrame f s).regs = s.regs := by
  unfold handOverFrame
  split
  · exact ⟨rfl, rfl⟩
  · extract_lets p
    have hp : p.2.guards = s.guards ∧ p.2.regs = s.regs := by
      unfold p
      split
      · exact ⟨rfl, rfl⟩
      · exact newTicket_keeps s
    exact hp

theorem execUnderpassContention_of_rest {d u : Nat} {s : State} (h : (s.guard (d / 2) u).off = false) :
    ∃ t, execUnderpassContention d u s = .next t ∧ (t.guard (d / 2) u).off = true ∧ (t.guard (d / 2) u).since = s.crossing ∧
      (t.guard (d / 2) u).cleared = false ∧
      t.rget .UP_CONTENTIONS (2 * (d / 2)) =
        Nat.min (s.rget .UP_CONTENTIONS (2 * (d / 2)) + 1) (El.UP_CONTENTIONS.modulus - 1) ∧
      t.rget .UP_CONTENTIONS (2 * (d / 2) + 1) =
        Nat.min (s.rget .UP_CONTENTIONS (2 * (d / 2) + 1) + 1) (El.UP_CONTENTIONS.modulus - 1) := by
  unfold execUnderpassContention
  extract_lets q g a b again frames g' s₁ s₂ s₃ s₄
  have hg : s₄.guard q u = g' := by
    rw [State.guard, raise_guards]
    exact guard_setGuard s q u g'
  have hr : ∀ k, s₄.rget .UP_CONTENTIONS k = s₂.rget .UP_CONTENTIONS k := fun k => by
    rw [raise_rget _ _ _ _ _ _ (by decide), State.rget_rset, if_neg (by simp), State.rget_rset, if_neg (by simp)]
  have ha : s₂.rget .UP_CONTENTIONS a = Nat.min (s.rget .UP_CONTENTIONS a + 1) (El.UP_CONTENTIONS.modulus - 1) := by
    simp [s₂, s₁, a, b, State.rget_rinc]
  have hb : s₂.rget .UP_CONTENTIONS b = Nat.min (s.rget .UP_CONTENTIONS b + 1) (El.UP_CONTENTIONS.modulus - 1) := by
    simp [s₂, s₁, a, b, State.rget_rinc]
  rw [if_neg (by simp [g, q, h])]
  have hfg : (frames.foldl (fun t f => handOverFrame f t) s₄).guards = s₄.guards :=
    foldl_keeps State.guards (fun t f => (handOverFrame_keeps f t).1) _ _
  have hfr : (frames.foldl (fun t f => handOverFrame f t) s₄).regs = s₄.regs :=
    foldl_keeps State.regs (fun t f => (handOverFrame_keeps f t).2) _ _
  have hgt : (frames.foldl (fun t f => handOverFrame f t) s₄).guard q u = g' := by rw [State.guard, hfg]; exact hg
  refine ⟨_, rfl, ?_, ?_, ?_, ?_, ?_⟩
  · rw [hgt]
  · rw [hgt]
  · rw [hgt]
  · rw [State.rget, hfr]
    exact (hr a).trans ha
  · rw [State.rget, hfr]
    exact (hr b).trans hb

theorem execDramUncorrectable_of_clocked {d b r : Nat} {s : State} (h : s.clocked d = true) :
    ∃ t, execDramUncorrectable d b r s = .next t ∧ (t.dist d).dramSeen = true ∧ (∀ m, m ≠ d → t.dist m = s.dist m) ∧
      t.rget .DRAM_UNCORR d = Nat.min (s.rget .DRAM_UNCORR d + 1) (El.DRAM_UNCORR.modulus - 1) := by
  unfold execDramUncorrectable
  rw [if_pos h]
  refine ⟨_, rfl, ?_, fun m hm => ?_, ?_⟩
  · simp only [reportRam, if_true, List.foldl_cons, List.foldl_nil]
    rw [State.dist, raise_dists]
    exact congrArg District.dramSeen (dist_setDist ..)
  · simp only [reportRam, if_true, List.foldl_cons, List.foldl_nil]
    rw [State.dist, raise_dists]
    exact dist_setDist_other _ _ hm
  · simp only [reportRam, if_true, List.foldl_cons, List.foldl_nil]
    rw [raise_rget _ _ _ _ _ _ (by decide)]
    exact State.rget_rset_same ..

/-- Settles O14: base contexts and groups by their handlers, the guards and District RAM by their events. -/
theorem contextsAndUpsets : Obligations.ContextsAndUpsets := by
  unfold Obligations.ContextsAndUpsets
  refine ⟨fun w d v s => ⟨fun ha hv => ⟨fun hne hb => ?_, fun hb hp => ?_, fun hb hp => ?_⟩, fun ha hn ho hb hp => ?_, fun ha hv => ?_⟩,
    fun d u s h => execUnderpassContention_of_rest h, fun w d v s ha hg => ?_, fun d b r s h => execDramUncorrectable_of_clocked h⟩
  · have hr : (hBaseNext w d).range v s = true := by simpa [hBaseNext, Nat.ble_eq] using hv
    refine write_refusedWith (h := hBaseNext w d) ha rfl hr ?_
    rw [hBaseNext_act (loader_of_accepts ha), if_pos (by simp [hne, hb])]
  · have hr : (hBaseNext w d).range v s = true := by simpa [hBaseNext, Nat.ble_eq] using hv
    refine write_refused (h := hBaseNext w d) ha rfl hr ?_ (by decide)
    rw [hBaseNext_act (loader_of_accepts ha), if_neg, if_pos hp]
    obtain rfl | hb := hb <;> simp_all
  · have hr : (hBaseNext w d).range v s = true := by simpa [hBaseNext, Nat.ble_eq] using hv
    obtain ⟨g, hg⟩ := rsets_frame .BASE_NEXT v (s.lockstep d) s
    refine ⟨_, write_performed (h := hBaseNext w d) ha rfl hr ?_, fun m hm => rsets_rget_of_mem hm s, fun k hk => rsets_mfind_other hk s, ?_⟩
    · rw [hBaseNext_act (loader_of_accepts ha), if_neg, hp]
      · rfl
      · obtain rfl | hb := hb <;> simp_all
    · rw [hg]
  · have hr : (hBaseAt d).range v s = true := by
      simp only [hBaseAt, Bool.and_eq_true, bne_iff_ne, Bool.or_eq_true, beq_iff_eq, Bool.not_eq_true', Nat.ble_eq]
      exact ⟨hn, or_assoc.mpr ho⟩
    obtain ⟨x, hx⟩ := putBaseAt_frame (if v = allOnes64 then s.nextOrbit else s.orbitOf v) (s.lockstep d) s
    refine ⟨putBaseAt _ (s.lockstep d) s, write_performed (h := hBaseAt d) ha rfl hr ?_, fun m hm => putBaseAt_of_mem hm s,
      fun m hm => putBaseAt_of_not_mem hm s, by rw [hx]⟩
    show (if !s.baseLoaded d (s.rget .BASE_NEXT d) then _ else _) = _
    rw [hb, hp]
    rfl
  · extract_lets other fits
    have hr : (hLockGroup d).range v s = true := by simpa [hLockGroup, Nat.ble_eq] using hv
    refine ⟨fun hf => write_refused (h := hLockGroup d) ha rfl hr (hLockGroup_refuses hf) (by decide), fun hf => ?_⟩
    have hact := hLockGroup_stores (d := d) (v := v) (s := s) hf
    have hl : Leaves [.LOCK_GROUP] s (leaveGroup d (s.rset .LOCK_GROUP d v)) := (Leaves.rset (by decide) ..).trans (.of_regs rfl)
    have hlo : ∀ m, m ≠ d → (leaveGroup d (s.rset .LOCK_GROUP d v)).dist m = s.dist m := fun m hm => dist_setDist_other _ _ hm
    have hlg : (leaveGroup d (s.rset .LOCK_GROUP d v)).rget .LOCK_GROUP d = v := State.rget_rset_same ..
    by_cases hms : v = 0xFF ∨ (s.groupMembers v).filter (· != d) = []
    · have hm : (if v = 0xFF then [] else (s.groupMembers v).filter (· != d)) = [] := by
        obtain h | h := hms <;> simp [h]
      rw [hm] at hact
      have hs := switchTo_switchOnly d ((leaveGroup d (s.rset .LOCK_GROUP d v)).dueContext d) (leaveGroup d (s.rset .LOCK_GROUP d v))
      refine ⟨_, write_performed (h := hLockGroup d) ha rfl hr hact, ?_, fun m hm => (hs.others m hm).trans (hlo m hm), fun m l hv' hml => ?_,
        fun _ hw hc => ?_⟩
      · exact (hs.regs.rget _ (by decide) d).trans hlg
      · obtain h | h := hms
        · exact absurd h hv'
        · rw [h] at hml
          cases hml
      · have hd : (leaveGroup d (s.rset .LOCK_GROUP d v)).dist d = s.dist d :=
          leaveGroup_of_none (s := s.rset .LOCK_GROUP d v) hw
        have hdue : (leaveGroup d (s.rset .LOCK_GROUP d v)).dueContext d = (s.dist d).ctx := by
          unfold State.dueContext
          rw [hd, hw, ← hc]
          exact hl.rget _ (by decide) d
        rw [settleContext, switchTo_same (by rw [hd, hdue])]
        exact ⟨hd, fun k hk => mfind_mset_other _ _ _ _ _ hk, rfl⟩
    · rw [not_or] at hms
      obtain ⟨hv', hne⟩ := hms
      rw [if_neg hv'] at hact
      obtain ⟨m, l, hml⟩ := List.exists_cons_of_ne_nil hne
      rw [hml] at hact
      have hm : m ≠ d := by
        have : m ∈ (s.groupMembers v).filter (· != d) := hml ▸ List.mem_cons_self
        simpa using (List.mem_filter.mp this).2
      obtain ⟨hc, hn, hat, hw, hj, ho⟩ := joinGroup_spec (leaveGroup d (s.rset .LOCK_GROUP d v)) hm
      have hs := switchTo_switchOnly d ((joinGroup d m (leaveGroup d (s.rset .LOCK_GROUP d v))).dueContext d)
        (joinGroup d m (leaveGroup d (s.rset .LOCK_GROUP d v)))
      refine ⟨_, write_performed (h := hLockGroup d) ha rfl hr hact, ?_,
        fun k hk => (hs.others k hk).trans ((ho k hk).trans (hlo k hk)), fun m' l' _ hml' => ?_, fun h _ _ => ?_⟩
      · exact (hs.regs.rget _ (by decide) d).trans ((hj.rget _ (by decide) d).trans hlg)
      · rw [hml] at hml'
        obtain ⟨rfl, -⟩ := List.cons.inj hml'
        refine ⟨?_, ?_, ?_, ?_⟩
        · exact (hs.regs.rget _ (by decide) d).trans (hc.trans (hl.rget _ (by decide) m))
        · exact (hs.regs.rget _ (by decide) d).trans (hn.trans (hl.rget _ (by decide) m))
        · exact hs.baseAt.trans (hat.trans (congrArg District.baseAt (hlo m hm)))
        · exact hs.windows.trans (hw.trans (congrArg District.windows (hlo m hm)))
      · exact absurd h (not_or.mpr ⟨hv', hne⟩)
  · refine ⟨s.setGuard (d / 2) v { s.guard (d / 2) v with cleared := true }, write_performed (h := hUpClear d) ha rfl rfl ?_, ?_, ?_,
      fun k hk => mfind_mset_other _ _ _ _ _ hk, rfl⟩
    · exact congrArg Except.ok (if_pos hg)
    · rw [guard_setGuard]
    · rw [guard_setGuard]
      exact hg

end Sys2Proof.Machine
end

section

/-! # Captures: CAPTURE_CTRL and the capture's cycle (O15) -/

namespace Sys2Proof.Machine

open Sys2Proof.Safety

/-! ### The fields of CAPTURE_CTRL -/

theorem capturePut_settings_lt (v : Nat) : Nat.land v captureKept < 2 ^ 16 :=
  Nat.and_lt_two_pow v (by decide)

theorem captureState_put (v : Nat) {st ctx : Nat} (seq : Nat) (h : st < 8) : captureState (capturePut v st ctx seq) = st := by
  have hl := capturePut_settings_lt v
  unfold captureState bitsOf capturePut
  omega

theorem captureCtx_put (v : Nat) {st ctx : Nat} (seq : Nat) (h : st < 8) (hc : ctx < 8) :
    captureCtx (capturePut v st ctx seq) = ctx := by
  have hl := capturePut_settings_lt v
  unfold captureCtx bitsOf capturePut
  omega

theorem captureSeq_put (v : Nat) {st ctx : Nat} (seq : Nat) (h : st < 8) (hc : ctx < 8) :
    captureSeq (capturePut v st ctx seq) = seq % 256 := by
  have hl := capturePut_settings_lt v
  unfold captureSeq bitsOf capturePut
  omega

theorem captureState_lt (c : Nat) : captureState c < 8 := Nat.mod_lt _ (by decide)

/-- The value of an arming write has ARM set. -/
theorem bitOf_arm (v : Nat) : bitOf (v - v % 2 + 1) 0 = true := by
  unfold bitOf
  simp only [pow_zero, Nat.div_one, decide_eq_true_eq]
  omega

theorem bitOf_lor (a b i : Nat) : bitOf (Nat.lor a b) i = (bitOf a i || bitOf b i) := by
  simp only [bitOf_eq_testBit]
  exact Nat.testBit_or a b i

/-- The value of a disarming write has ARM clear and DISARM set. -/
theorem bitOf_disarm (v : Nat) : bitOf (Nat.lor (v - v % 2) 0x1000) 0 = false ∧ bitOf (Nat.lor (v - v % 2) 0x1000) 12 = true := by
  constructor
  · have h0 : bitOf (v - v % 2) 0 = false := by
      unfold bitOf
      simp only [pow_zero, Nat.div_one, decide_eq_false_iff_not]
      omega
    rw [bitOf_lor, h0]
    decide
  · rw [bitOf_lor, show bitOf 0x1000 12 = true by decide, Bool.or_true]

theorem flop_setFlop (s : State) (k : Nat) (v : BitVec 65536) : (s.setFlop k v).flop k = v := mget_mset_same ..

theorem mfind_setFlop_other (s : State) {j k : Nat} (v : BitVec 65536) (h : j ≠ k) :
    mfind (s.setFlop k v).flops j = mfind s.flops j := mfind_mset_other _ _ _ _ _ h

theorem mfind_rset_other (s : State) {e : El} {d k : Nat} (v : Nat) (h : k ≠ regKey e d) :
    mfind (s.rset e d v).regs k = mfind s.regs k := mfind_mset_other _ _ _ _ _ h

theorem rset_frame (s : State) (e : El) (d v : Nat) : { s.rset e d v with regs := s.regs } = s := rfl

/-! ### The handler and the cycle -/

theorem hCapture_range {d v : Nat} {s : State} (hM : bitsOf v 7 2 < s.M) (h15 : bitsOf v 15 13 = 0) (h23 : bitsOf v 23 22 = 0)
    (h : bitOf v 0 = false ∨ bitOf v 1 = true ∨ s.crossing + 2 ≤ s.crossingOf (s.rget .CAPTURE_MT d)) :
    (hCapture d).range v s = true := by
  simp only [hCapture, h15, h23, Bool.and_eq_true, Bool.not_eq_true', Nat.blt_eq, beq_self_eq_true, and_true]
  refine ⟨hM, ?_⟩
  obtain h | h | h := h
  · simp [h]
  · simp [h]
  · have hb : Nat.blt (s.crossingOf (s.rget .CAPTURE_MT d)) (s.crossing + 2) = false := by
      rw [← Bool.not_eq_true, Nat.blt_eq]
      omega
    rw [hb, Bool.and_false]

theorem hCapture_refuses {d v : Nat} {s : State} (h0 : bitOf v 0 = true) (h : captureState (s.rget .CAPTURE_CTRL d) = 1) :
    (hCapture d).act v s = .error 6 :=
  if_pos (by rw [h0, h]; rfl)

/-- What the handler stores, where it does not refuse to arm an armed capture. -/
theorem hCapture_stores {d v : Nat} {s : State} (st : Nat)
    (h : (bitOf v 0 && captureState (s.rget .CAPTURE_CTRL d) == 1) = false)
    (hst : (if bitOf v 0 then 1 else if bitOf v 12 && captureState (s.rget .CAPTURE_CTRL d) == 1 then 3
      else captureState (s.rget .CAPTURE_CTRL d)) = st) :
    (hCapture d).act v s = .ok (s.rset .CAPTURE_CTRL d
      (capturePut v st (captureCtx (s.rget .CAPTURE_CTRL d)) (captureSeq (s.rget .CAPTURE_CTRL d)))) := by
  subst hst
  exact if_neg (by rw [h]; simp)

/-- The capture of a clocked District without a filter. -/
theorem captureNow_of_clocked {d : Nat} {s : State} (h1 : captureState (s.rget .CAPTURE_CTRL d) = 1)
    (h11 : bitOf (s.rget .CAPTURE_CTRL d) 11 = false) (hc : s.clocked d = true) :
    captureNow d s = ((s.setFlop (captureKey d) (s.presentFlops d)).rset .CAPTURE_CTRL d
      (capturePut (s.rget .CAPTURE_CTRL d) 2 (s.dist d).ctx (captureSeq (s.rget .CAPTURE_CTRL d) + 1))).raise sevDebug 0x0407 d [] := by
  unfold captureNow
  extract_lets c x
  rw [if_neg (by simp [c, h1]), if_neg (by simp [c, h11, hc])]

theorem execCaptureCycle_of_other {d : Nat} {s : State} (h : s.crossing ≠ s.crossingOf (s.rget .CAPTURE_MT d)) :
    execCaptureCycle d s = .next s := by
  unfold execCaptureCycle
  extract_lets c
  rw [if_pos (by simp [h])]

theorem execCaptureCycle_of_due {d : Nat} {s : State} (h1 : captureState (s.rget .CAPTURE_CTRL d) = 1)
    (hm : bitOf (s.rget .CAPTURE_CTRL d) 1 = false) (hcnt : s.counting = true)
    (h : s.crossing = s.crossingOf (s.rget .CAPTURE_MT d)) (hp : bitsOf (s.rget .CAPTURE_CTRL d) 7 2 ≤ s.fabric.phase) :
    execCaptureCycle d s = .next (captureNow d s) := by
  unfold execCaptureCycle
  extract_lets c
  rw [if_neg (by simp [c, hm, h1, hcnt, h]), runTo, if_pos hp]

/-- Settles O15: CAPTURE_CTRL by its handler, the capture's cycle by what `captureNow` does. -/
theorem captures : Obligations.Captures := by
  unfold Obligations.Captures
  refine fun d s => ⟨fun w v ha hM h15 h23 hx => ?_, fun w v ha hM h15 h23 => ?_, fun h1 hm h11 hc hk hcnt => ⟨fun hx => ?_, fun hx hp => ?_⟩⟩
  · have h0 := bitOf_arm v
    have hr := hCapture_range (d := d) hM h15 h23 (.inr hx)
    refine ⟨fun h => write_refused (h := hCapture d) ha rfl hr (hCapture_refuses h0 h) (by decide), fun h => ?_⟩
    · refine ⟨_, write_performed (h := hCapture d) ha rfl hr (hCapture_stores 1 (by simp [h0, h]) (if_pos h0)), ?_,
        fun k hk => mfind_rset_other _ _ hk, rset_frame ..⟩
      rw [State.rget_rset_same]
      exact captureState_put _ _ (by decide)
  · obtain ⟨h0, h12⟩ := bitOf_disarm v
    have hr := hCapture_range (d := d) hM h15 h23 (.inl h0)
    refine ⟨_, write_performed (h := hCapture d) ha rfl hr (hCapture_stores _ (by rw [h0]; rfl)
      (by rw [h0, h12, Bool.true_and, if_neg (by simp)])), ?_, fun k hk => mfind_rset_other _ _ hk, rset_frame ..⟩
    rw [State.rget_rset_same, captureState_put _ _ (by split <;> simp [captureState_lt])]
    simp
  · exact execCaptureCycle_of_other hx
  · refine ⟨_, execCaptureCycle_of_due h1 hm hcnt hx hp, ?_⟩
    rw [captureNow_of_clocked h1 h11 hc]
    simp only [raise_flops, raise_cells, raise_dists, raise_rget _ _ _ _ _ _ (by decide : El.CAPTURE_CTRL ≠ El.REC_LOST),
      State.rget_rset_same]
    refine ⟨captureState_put _ _ (by decide), captureCtx_put _ _ (by decide) (by omega), captureSeq_put _ _ (by decide) (by omega),
      ?_, fun k hk => ?_, ?_, ?_⟩
    · rw [State.flop, raise_flops, State.rset_flops]
      exact flop_setFlop ..
    · rw [State.rset_flops]
      exact mfind_setFlop_other _ _ hk
    · rw [State.rset_cells, State.setFlop_cells]
    · rw [State.rset_dists, State.setFlop_dists]

end Sys2Proof.Machine
end

section

/-! # Requests to banks and the answers on their buses (O16, O17) -/

namespace Sys2Proof.Machine

open Sys2Proof.Safety

/-! ### Lanes, and a request put at its bank -/

@[simp] theorem bank_setBank (s : State) (n : Nat) (b : BankPort) : (s.setBank n b).bank n = b := mget_mset_same ..

theorem bank_setBank_other (s : State) {n m : Nat} (b : BankPort) (h : m ≠ n) : (s.setBank n b).bank m = s.bank m :=
  mget_mset_other _ _ _ _ _ _ h

theorem bank_congr {s t : State} (h : t.banks = s.banks) (n : Nat) : t.bank n = s.bank n := by rw [State.bank, h, State.bank]

/-- An answer of class C1 to C3 given at once stands in the lane at the number issued for it. -/
theorem answerClass_lane {key cls : Nat} (a : Answer) (s : State) (h : cls ≠ 0) :
    mfind (mget (answerClass key cls a s).lanes key Lane.idle).done (mget s.lanes key Lane.idle).issued = some a := by
  rw [answerClass, if_neg h]
  extract_lets i
  show mfind (mget (mset i.2.lanes key _ Lane.idle) key Lane.idle).done i.1 = some a
  rw [mget_mset_same]
  exact mfind_mput_same ..

theorem answerClass_keeps (key cls : Nat) (a : Answer) (s : State) :
    (answerClass key cls a s).banks = s.banks ∧ (answerClass key cls a s).cells = s.cells ∧ (answerClass key cls a s).regs = s.regs := by
  unfold answerClass
  split
  · exact ⟨rfl, rfl, rfl⟩
  · exact ⟨rfl, rfl, rfl⟩

/-- Putting a request at its bank changes no word and no register, and it waits behind those already there. -/
theorem enqueue_spec (n : Nat) (r : Requester) (q : MemRequest) (tag : Nat) (s : State) :
    ∃ o, (enqueue n r q tag s).cells = s.cells ∧ (enqueue n r q tag s).regs = s.regs ∧
      ((enqueue n r q tag s).bank n).waiting = (s.bank n).waiting ++ [{ src := r, req := q, order := o, tag, losses := 0 }] := by
  unfold enqueue
  extract_lets key i b
  have hi : i.2.cells = s.cells ∧ i.2.regs = s.regs ∧ i.2.banks = s.banks := by
    unfold i
    split
    · exact ⟨rfl, rfl, rfl⟩
    · exact ⟨rfl, rfl, rfl⟩
  obtain ⟨hc, hr, hb⟩ := hi
  refine ⟨i.1, hc, hr, ?_⟩
  rw [bank_setBank]
  show (i.2.bank n).waiting ++ _ = _
  rw [bank_congr hb]

/-! ### A District's local channel -/

theorem execLocalRequest_of_malformed {d b : Nat} {x : BitVec 32} {data : BitVec 128} {be : BitVec 16} {s : State}
    (hc : s.clocked d = true) (hq : bitsOf x.toNat 27 26 ≠ 0 → s.queued (· == .district d (b % 64)) < 8)
    (h : bitOf x.toNat 25 = true) :
    execLocalRequest d b x data be s =
      .next (answerClass (d * 128 + b % 64) (bitsOf x.toNat 27 26) (errorAnswer 0 3) s) := by
  unfold execLocalRequest
  extract_lets w b' n r key cls q
  rw [if_neg, if_pos (by simp [w, h])]
  · rfl
  · rw [hc]
    simpa [cls, w, Nat.ble_eq, r, b'] using hq

theorem execLocalRequest_of_formed {d b : Nat} {x : BitVec 32} {data : BitVec 128} {be : BitVec 16} {s : State}
    (hc : s.clocked d = true) (hq : bitsOf x.toNat 27 26 ≠ 0 → s.queued (· == .district d (b % 64)) < 8)
    (h25 : bitOf x.toNat 25 = false) (h24 : bitsOf x.toNat 24 15 = 0) (h31 : bitsOf x.toNat 31 28 = 0)
    (hp : bitsOf x.toNat 27 26 = 0 → s.permitsC0 d (64 * (d / 2) + b % 64) (bitOf x.toNat 14) = true) :
    execLocalRequest d b x data be s =
      .next (enqueue (64 * (d / 2) + b % 64) (.district d (b % 64))
        { write := bitOf x.toNat 14, cls := bitsOf x.toNat 27 26, row := bitsOf x.toNat 13 0, data
          enables := s.heldEnables d be } 0 s) := by
  unfold execLocalRequest
  extract_lets w b' n r key cls q
  rw [if_neg, if_neg (by simp [w, h25, h24, h31]), if_neg]
  · simp only [Bool.and_eq_true, decide_eq_true_eq, Bool.not_eq_true', not_and, Bool.not_eq_false]
    exact hp
  · rw [hc]
    simpa [cls, w, Nat.ble_eq, r, b'] using hq

/-! ### The Plaza -/

theorem notedRan_keeps (m : Master) (s : State) : (notedRan m s).lanes = s.lanes ∧ (notedRan m s).banks = s.banks ∧
    (notedRan m s).cells = s.cells ∧ (notedRan m s).regs = s.regs := by
  cases m <;> exact ⟨rfl, rfl, rfl, rfl⟩

theorem plazaClass_notedRan (m : Master) (w : Nat) (s : State) : (notedRan m s).plazaClass m w = s.plazaClass m w := by
  cases m <;> rfl

theorem plazaFault_notedRan (m : Master) (n w : Nat) (be : BitVec 16) (s : State) :
    (notedRan m s).plazaFault m n w be = s.plazaFault m n w be := by
  cases m <;> rfl

/-- A request over the Plaza of a requester that is no District, with its reserved bits 0. -/
theorem execPlazaRequest_eq {m : Master} {x : BitVec 40} {data : BitVec 128} {be : BitVec 16} {s : State}
    (hm : ∀ d, m ≠ .district d) (h : bitsOf x.toNat 39 35 = 0) :
    execPlazaRequest m x data be s =
      if s.plazaClass m x.toNat = 0 then
        .next (answerClass (laneKey (bitsOf x.toNat 25 14) (.plaza m)) 1 (errorAnswer (bitsOf x.toNat 34 29) 3) (notedRan m s))
      else match s.plazaFault m (bitsOf x.toNat 25 14) x.toNat be with
        | some a => .next (accessFault (bitOf x.toNat 26) a (notedRan m s))
        | none => .next (enqueue (bitsOf x.toNat 25 14) (.plaza m)
            { write := bitOf x.toNat 26, cls := s.plazaClass m x.toNat, row := bitsOf x.toNat 13 0, data, enables := be }
            (bitsOf x.toNat 34 29) (notedRan m s)) := by
  rw [← plazaClass_notedRan, ← plazaFault_notedRan]
  unfold execPlazaRequest
  extract_lets w s₁ n cls tag r key on be' full s₂
  have hf : (!on || full) = false := by
    unfold on full
    cases m with
    | district d => exact absurd rfl (hm d)
    | core _ => rfl
    | debug => rfl
    | queues => rfl
    | trunk t => rfl
  have hb : be' = be := by
    unfold be'
    cases m with
    | district d => exact absurd rfl (hm d)
    | core _ => rfl
    | debug => rfl
    | queues => rfl
    | trunk t => rfl
  rw [hf, if_neg (by simp), if_neg (by simp [w, h]), hb]
  refine if_congr Iff.rfl ?_ rfl
  unfold s₂
  cases m with
  | district d => exact absurd rfl (hm d)
  | core _ => rfl
  | debug => rfl
  | queues => rfl
  | trunk t => rfl

/-! ### Time-addressed requests -/

theorem execStoreChannelRequest_of_bad {d : Nat} {x : BitVec 32} {s : State} (hc : s.clocked d = true) (h25 : bitOf x.toNat 25 = true)
    (hq : bitsOf x.toNat 27 26 ≠ 0 → s.queued (· == .district d storeChannel) < 8)
    (h : bitsOf x.toNat 24 9 = 0 ∨ bitsOf x.toNat 31 28 ≠ 0 ∨ s.entryRowsOf (d / 2) ≤ bitsOf x.toNat 8 4) :
    execStoreChannelRequest d x s = .next (badRequest d 0xFFFF
      (answerClass (laneKey 0 (.district d storeChannel)) (bitsOf x.toNat 27 26) (errorAnswer 0 3) s)) := by
  unfold execStoreChannelRequest
  extract_lets w q r key cls row back
  rw [if_neg (by simp [hc]), if_neg, if_neg (by simp [w, h25]), if_pos]
  · simp only [Bool.or_eq_true, Nat.ble_eq, decide_eq_true_eq, bne_iff_ne]
    obtain h | h | h := h
    · exact .inl (.inr h)
    · exact .inr h
    · exact .inl (.inl h)
  · simpa [cls, w, Nat.ble_eq, r] using hq

/-- A well-formed time-addressed request. -/
theorem execStoreChannelRequest_of_formed {d : Nat} {x : BitVec 32} {s : State} (hc : s.clocked d = true)
    (h25 : bitOf x.toNat 25 = true) (hq : bitsOf x.toNat 27 26 ≠ 0 → s.queued (· == .district d storeChannel) < 8)
    (hb : bitsOf x.toNat 24 9 ≠ 0) (h31 : bitsOf x.toNat 31 28 = 0) (hr : bitsOf x.toNat 8 4 < s.entryRowsOf (d / 2)) :
    execStoreChannelRequest d x s =
      if s.rget .RING_STATE (d / 2) < 2 then
        .next (answerClass (laneKey 0 (.district d storeChannel)) (bitsOf x.toNat 27 26) (statusAnswer 4) s)
      else if bitsOf x.toNat 27 26 = 0 && !s.ringScheduled d then
        .next (badRequest d 0xFFFF (answerFixedNow (laneKey 0 (.district d storeChannel)) (errorAnswer 0 3) s))
      else match s.resolve (d / 2) (s.crossing - bitsOf x.toNat 24 9) with
        | .status t => .next (answerClass (laneKey 0 (.district d storeChannel)) (bitsOf x.toNat 27 26) (statusAnswer t) s)
        | .present t j =>
          .next (enqueue (s.ringRow (d / 2) t j (bitsOf x.toNat 3 0) (bitsOf x.toNat 8 4)).1 (.district d storeChannel)
            { write := false, cls := bitsOf x.toNat 27 26
              row := (s.ringRow (d / 2) t j (bitsOf x.toNat 3 0) (bitsOf x.toNat 8 4)).2, data := 0, enables := 0 } 0 s) := by
  unfold execStoreChannelRequest
  extract_lets w q r key cls row back
  have hform : ¬ (Nat.ble (s.entryRowsOf q) row || decide (back = 0) || bitsOf w 31 28 != 0) = true := by
    simp only [Bool.or_eq_true, Nat.ble_eq, decide_eq_true_eq, bne_iff_ne, not_or, not_not]
    exact ⟨⟨Nat.not_le.mpr hr, hb⟩, h31⟩
  rw [if_neg (by simp [hc]), if_neg (by simpa [cls, w, Nat.ble_eq, r] using hq), if_neg (by simp [w, h25]), if_neg hform] <;> rfl

/-- Settles O16: each kind of request by what its event does with a request so formed. -/
theorem requestsReachBanks : Obligations.RequestsReachBanks := by
  unfold Obligations.RequestsReachBanks
  refine ⟨fun d b x data be s hc hq => ⟨fun h25 hcls => ?_, fun h25 h24 h31 hp => ?_⟩,
    fun m x data be s hm h39 => ⟨fun a hcls hf => ?_, fun hcls hf => ?_, fun hcls => ?_⟩,
    fun d x s hc hcls h25 hq hst hb h31 hr a j hj => ?_, fun d x s hc hcls h25 hst hb h31 hr => ?_,
    fun d x s hc h25 hq h => execStoreChannelRequest_of_bad hc h25 hq h⟩
  · obtain ⟨hb, hc', hr⟩ := answerClass_keeps (d * 128 + b % 64) (bitsOf x.toNat 27 26) (errorAnswer 0 3) s
    exact ⟨_, execLocalRequest_of_malformed hc hq h25, hb, hc', hr, answerClass_lane _ s hcls⟩
  · obtain ⟨o, hcells, hregs, hw⟩ := enqueue_spec (64 * (d / 2) + b % 64) (.district d (b % 64))
      { write := bitOf x.toNat 14, cls := bitsOf x.toNat 27 26, row := bitsOf x.toNat 13 0, data, enables := s.heldEnables d be } 0 s
    exact ⟨_, o, execLocalRequest_of_formed hc hq h25 h24 h31 hp, hcells, hregs, hw⟩
  · show execPlazaRequest m x data be s = _
    rw [execPlazaRequest_eq hm h39, if_neg hcls, hf]
  · obtain ⟨-, hb, hc, hr⟩ := notedRan_keeps m s
    obtain ⟨o, hcells, hregs, hw⟩ := enqueue_spec (bitsOf x.toNat 25 14) (.plaza m)
      { write := bitOf x.toNat 26, cls := s.plazaClass m x.toNat, row := bitsOf x.toNat 13 0, data, enables := be }
      (bitsOf x.toNat 34 29) (notedRan m s)
    refine ⟨_, o, ?_, hcells.trans hc, hregs.trans hr, by rw [hw, bank_congr hb]⟩
    show execPlazaRequest m x data be s = _
    rw [execPlazaRequest_eq hm h39, if_neg hcls, hf]
  · obtain ⟨hl, hb, hc, -⟩ := notedRan_keeps m s
    obtain ⟨hb', hc', -⟩ := answerClass_keeps (laneKey (bitsOf x.toNat 25 14) (.plaza m)) 1
      (errorAnswer (bitsOf x.toNat 34 29) 3) (notedRan m s)
    refine ⟨_, ?_, hb'.trans hb, hc'.trans hc, ?_⟩
    · show execPlazaRequest m x data be s = _
      rw [execPlazaRequest_eq hm h39, if_pos hcls]
    · rw [← hl]
      exact answerClass_lane _ _ (by decide)
  · extract_lets at_
    obtain ⟨o, hcells, hregs, hw⟩ := enqueue_spec at_.1 (.district d storeChannel)
      { write := false, cls := bitsOf x.toNat 27 26, row := at_.2, data := 0, enables := 0 } 0 s
    refine ⟨_, o, ?_, hcells, hregs, hw⟩
    show execStoreChannelRequest d x s = _
    rw [execStoreChannelRequest_of_formed hc h25 (fun _ => hq) hb h31 hr, if_neg (Nat.not_lt.mpr hst), if_neg (by simp [hcls]), hj]
  · show execStoreChannelRequest d x s = _
    rw [execStoreChannelRequest_of_formed hc h25 (fun h => absurd hcls h) hb h31 hr, if_pos hst, hcls]
    rfl

/-! ### Answers -/

theorem execFixedResponse_of_given {d c o : Nat} {a : Answer} {l : List (Nat × Option Answer)} {s : State}
    (h : (mget s.fixed (d * 128 + c) FixedBus.idle).wait = (o, some a) :: l) :
    execFixedResponse d c s =
      let f := mget s.fixed (d * 128 + c) FixedBus.idle
      let f' : FixedBus := { f with wait := l, bus := if s.clocked d then some a else f.bus }
      .next { s with fixed := mset s.fixed (d * 128 + c) f' FixedBus.idle } := by
  unfold execFixedResponse
  extract_lets key f
  have hf : f.wait = (o, some a) :: l := h
  rw [hf]

theorem execFixedResponse_of_open {d c o : Nat} {l : List (Nat × Option Answer)} {s : State}
    (h : (mget s.fixed (d * 128 + c) FixedBus.idle).wait = (o, none) :: l) : execFixedResponse d c s = .next s := by
  unfold execFixedResponse
  extract_lets key f
  have hf : f.wait = (o, none) :: l := h
  rw [hf]

theorem deliver_of_open {key : Nat} {s : State}
    (h : mfind (mget s.lanes key Lane.idle).done (mget s.lanes key Lane.idle).delivered = none) : deliver key s = s := by
  unfold deliver
  extract_lets l
  have hl : mfind l.done l.delivered = none := h
  rw [hl]

/-- The delivery of an answer whose turn has come. -/
theorem deliver_of_given {key : Nat} {a : Answer} {s : State}
    (h : mfind (mget s.lanes key Lane.idle).done (mget s.lanes key Lane.idle).delivered = some a) :
    ∃ l, deliver key s = { s with lanes := mset s.lanes key l Lane.idle } ∧ l.bus = some a ∧
      l.delivered = (mget s.lanes key Lane.idle).delivered + 1 ∧ l.issued = (mget s.lanes key Lane.idle).issued := by
  unfold deliver
  extract_lets l
  have hl : mfind l.done l.delivered = some a := h
  rw [hl]
  exact ⟨_, rfl, rfl, rfl, rfl⟩

/-- Both events that give an ordered answer deliver in the lane of their requester, where its bus is clocked. -/
theorem exec_delivers {i : Instr} {key : Nat} {s : State}
    (h : (∃ d c, i = .orderedResponse d c ∧ key = d * 128 + c ∧ s.clocked d = true) ∨
      (∃ m n, i = .plazaResponse m n ∧ key = laneKey n (.plaza m) ∧ ∀ d, m = .district d → s.clocked d = true)) :
    exec i s = .next (deliver key s) := by
  obtain ⟨d, c, rfl, rfl, hc⟩ | ⟨m, n, rfl, rfl, hc⟩ := h
  · exact congrArg Host.Outcome.next (if_pos hc)
  · refine congrArg Host.Outcome.next (if_pos ?_)
    cases m with
    | district d => exact hc d rfl
    | core _ => rfl
    | debug => rfl
    | queues => rfl
    | trunk t => rfl

/-- Settles O17: the fixed bus by its list, ordered answers by `deliver`. -/
theorem responsesInOrder : Obligations.ResponsesInOrder := by
  unfold Obligations.ResponsesInOrder
  refine ⟨fun d c o l s h => execFixedResponse_of_open h, fun d c o a l s h => ⟨_, execFixedResponse_of_given h, rfl, ?_, fun hc => ?_, fun hc => ?_⟩,
    fun i key s hi => ⟨fun h => ?_, fun a h => ?_⟩⟩
  · rw [mget_mset_same]
  · rw [mget_mset_same]
    exact if_pos hc
  · rw [mget_mset_same]
    exact if_neg (by simp [hc])
  · rw [exec_delivers hi, deliver_of_open h]
  · obtain ⟨l, hd, hb, hn, hu⟩ := deliver_of_given h
    refine ⟨_, (exec_delivers hi).trans (congrArg _ hd), rfl, ?_, ?_, ?_, fun k hk => mfind_mset_other _ _ _ _ _ hk⟩
    · rw [mget_mset_same, hb]
    · rw [mget_mset_same, hn]
    · rw [mget_mset_same, hu]

end Sys2Proof.Machine
end

section

/-! # A memory cycle of a bank (O18) -/

namespace Sys2Proof.Machine

open Sys2Proof.Safety

theorem Leaves.raise_of_regs {es : List El} (he : El.REC_LOST ∈ es) {s t : State} (h : t.regs = s.regs) {v c u : Nat} {d : Bytes} :
    Leaves es s (t.raise v c u d) :=
  (Leaves.of_regs h).trans (.raise he ..)

/-! ### Traps of the core -/

/-- A halt taken touches the core's run, the free values and the recorder alone. -/
theorem takeHalt_frame (cause trigger : Nat) (broken : Bool) (s : State) :
    ∃ g r x f, takeHalt cause trigger broken s = { s with regs := g, recorder := r, run := x, fv := f } := by
  unfold takeHalt
  extract_lets r d
  obtain ⟨g, rec_, h⟩ := raise_frame (d.2.setRun { r with
    running := false, halted := true, cause, trigger, lockBroken := broken, deferred := none, stepping := false,
    reservation := false, draw := d.1, dpc := none, gprs := [], csrs := [], tcm := [], fresh := false }) sevInfo 0x3806 0 []
  exact ⟨g, rec_, _, _, h⟩

theorem takeHalt_leaves (cause trigger : Nat) (broken : Bool) (s : State) : Leaves [.REC_LOST] s (takeHalt cause trigger broken s) := by
  unfold takeHalt
  extract_lets r d
  refine Leaves.raise_of_regs List.mem_cons_self ?_
  rfl

theorem takeDeferred_frame (broken : Bool) (s : State) :
    ∃ g r x f, takeDeferred broken s = { s with regs := g, recorder := r, run := x, fv := f } := by
  unfold takeDeferred
  split
  · split
    · exact takeHalt_frame ..
    · exact ⟨_, _, _, _, rfl⟩
  · exact ⟨_, _, _, _, rfl⟩

theorem takeDeferred_leaves (broken : Bool) (s : State) : Leaves [.REC_LOST] s (takeDeferred broken s) := by
  unfold takeDeferred
  split
  · split
    · exact takeHalt_leaves ..
    · exact .refl s
  · exact .refl s

theorem coreTrap_frame (cause value : Nat) (s : State) :
    ∃ g r x f, coreTrap cause value s = { s with regs := g, recorder := r, run := x, fv := f } :=
  takeDeferred_frame ..

theorem coreTrap_leaves (cause value : Nat) (s : State) : Leaves [.REC_LOST] s (coreTrap cause value s) :=
  Leaves.trans (t := s.setRun { s.run with trap := some (cause, value) }) (.of_regs rfl) (takeDeferred_leaves ..)

theorem raiseLimited_frame (s : State) (period key severity code unit : Nat) (detail : Bytes) :
    ∃ g r k, s.raiseLimited period key severity code unit detail = { s with regs := g, recorder := r, noted := k } := by
  have hr (t : State) (ht : ∃ k, t = { s with noted := k }) :
      ∃ g r k, t.raise severity code unit detail = { s with regs := g, recorder := r, noted := k } := by
    obtain ⟨k, rfl⟩ := ht
    obtain ⟨g, r, h⟩ := raise_frame { s with noted := k } severity code unit detail
    exact ⟨g, r, k, h⟩
  unfold State.raiseLimited
  split
  · split
    · exact ⟨_, _, _, rfl⟩
    · exact hr _ ⟨_, rfl⟩
  · exact hr _ ⟨_, rfl⟩

theorem raiseLimited_leaves (s : State) (period key severity code unit : Nat) (detail : Bytes) :
    Leaves [.REC_LOST] s (s.raiseLimited period key severity code unit detail) := by
  unfold State.raiseLimited
  split
  · split
    · exact .refl s
    · refine Leaves.raise_of_regs List.mem_cons_self ?_
      rfl
  · refine Leaves.raise_of_regs List.mem_cons_self ?_
    rfl

/-! ### A bank's words -/

/-- A word written in several places of a Quarter. -/
theorem foldl_setCellAt_frame (q addr : Nat) (w : StoredWord) (ps : List Nat) (s : State) :
    ∃ c, ps.foldl (fun t p => t.setCellAt q p addr w) s = { s with cells := c } := by
  induction ps generalizing s with
  | nil => exact ⟨_, rfl⟩
  | cons p ps ih =>
    obtain ⟨c, hc⟩ := ih (s.setCellAt q p addr w)
    exact ⟨c, hc⟩

theorem foldl_setCellAt_other {q addr k : Nat} (w : StoredWord) {ps : List Nat} (h : ∀ p ∈ ps, k ≠ cellKey q p addr) (s : State) :
    mfind (ps.foldl (fun t p => t.setCellAt q p addr w) s).cells k = mfind s.cells k := by
  induction ps generalizing s with
  | nil => rfl
  | cons p ps ih =>
    rw [List.foldl_cons, ih (fun p' hp => h p' (List.mem_cons_of_mem _ hp))]
    exact mfind_mset_other _ _ _ _ _ (h p List.mem_cons_self)

theorem foldl_setCellAt_keeps {q p addr : Nat} {w : StoredWord} {ps : List Nat} {s : State} (h : s.cellAt q p addr = w) :
    (ps.foldl (fun t p' => t.setCellAt q p' addr w) s).cellAt q p addr = w := by
  induction ps generalizing s with
  | nil => exact h
  | cons p' ps ih =>
    refine ih ?_
    by_cases hk : cellKey q p addr = cellKey q p' addr
    · unfold State.cellAt
      rw [hk]
      exact mget_mset_same ..
    · exact (mget_mset_other _ _ _ _ _ _ hk).trans h

theorem foldl_setCellAt_mem {q p addr : Nat} (w : StoredWord) {ps : List Nat} (h : p ∈ ps) (s : State) :
    (ps.foldl (fun t p' => t.setCellAt q p' addr w) s).cellAt q p addr = w := by
  induction ps generalizing s with
  | nil => cases h
  | cons p' ps ih =>
    obtain rfl | h := List.mem_cons.mp h
    · exact foldl_setCellAt_keeps (s := s.setCellAt q p addr w) (mget_mset_same ..)
    · exact ih h _

/-- The place that serves reads of a word takes its writes. -/
theorem readPlace_mem_writePlaces (s : State) (n addr : Nat) (m : Option Nat) : s.readPlace n addr ∈ s.writePlaces n addr m := by
  unfold State.readPlace State.writePlaces
  cases s.sliceAt n addr with
  | none => cases m <;> exact List.mem_cons_self
  | some x =>
    obtain ⟨ph, p⟩ := x
    cases ph with
    | copy => exact List.mem_cons_self
    | test => exact List.mem_cons_self
    | restore => exact List.mem_cons_of_mem _ List.mem_cons_self
    | clear => exact List.mem_cons_self

theorem setCell_frame (s : State) (n addr : Nat) (w : StoredWord) : ∃ c, s.setCell n addr w = { s with cells := c } :=
  foldl_setCellAt_frame ..

theorem cell_setCell (s : State) (n addr : Nat) (w : StoredWord) : (s.setCell n addr w).cell n addr = w := by
  have h : (s.setCell n addr w).readPlace n addr = s.readPlace n addr := by
    obtain ⟨c, hc⟩ := setCell_frame s n addr w
    rw [hc]
    rfl
  rw [State.cell, h]
  exact foldl_setCellAt_mem w (readPlace_mem_writePlaces ..) s

theorem mfind_setCell_other {s : State} {n addr k : Nat} (w : StoredWord)
    (h : ∀ p ∈ s.writePlaces n addr (s.moveTarget n), k ≠ cellKey (n / 64) p addr) :
    mfind (s.setCell n addr w).cells k = mfind s.cells k := foldl_setCellAt_other w h s

/-- A word at an address of the other parity stands as before, wherever the written one lies. -/
theorem cell_setCell_parity (s : State) (n : Nat) {a a' : Nat} (w : StoredWord) (h : a' % 2 ≠ a % 2) :
    (s.setCell n a w).cell n a' = s.cell n a' := by
  have hk : ∀ p, mfind (s.setCell n a w).cells (cellKey (n / 64) p a') = mfind s.cells (cellKey (n / 64) p a') := fun p =>
    mfind_setCell_other w fun p' _ he => h (by unfold cellKey at he; omega)
  obtain ⟨c, hc⟩ := setCell_frame s n a w
  unfold State.cell State.cellAt mget
  rw [hk, hc]
  rfl

/-- Both words of a row written in full, with no flip armed for the bank. -/
theorem writeRow_full {n row : Nat} (index router : Nat) (d : BitVec 128) {s : State} (hf : ∀ y, s.mem.flip = some y → y.1 ≠ n) :
    writeRow n row index router d 0xFFFF s = (false,
      (s.setCell n (2 * row) (StoredWord.fresh (d.setWidth 64))).setCell n (2 * row + 1)
        (StoredWord.fresh ((d >>> 64).setWidth 64))) := by
  have hw (t : State) (ht : t.mem = s.mem) (a : Nat) (x : StoredWord) : flipWord n a x t = t.setCell n a x := by
    unfold flipWord
    rw [ht]
    cases hx : s.mem.flip with
    | none => rfl
    | some y =>
      obtain ⟨b, y⟩ := y
      exact if_neg (hf _ hx)
  obtain ⟨c, hc⟩ := setCell_frame s n (2 * row) (StoredWord.fresh (d.setWidth 64))
  have h1 (t : State) (a : Nat) (x : BitVec 64) : writeWord n a index router x 255 t = (false, flipWord n a (StoredWord.fresh x) t) := rfl
  rw [writeRow]
  show (_ , (writeWord n (2 * row + 1) index router _ 255 (writeWord n (2 * row) index router _ 255 s).2).2) = _
  rw [h1 s, h1, hw s rfl, hw _ (by rw [hc])]
  rfl

/-! ### The one request of a bank -/

/-- A request answered with no error: its answer stands in its lane, and nothing else changes. -/
theorem answerRequest_of_good {n : Nat} {w : Waiting} {a : Answer} (s : State) (h : a.errc = 0) (hc : w.req.cls ≠ 0) :
    answerRequest n w a s = answerLane (laneKey n w.src) w.order a s := by
  unfold answerRequest faultOfCore
  rw [if_neg hc]
  split
  · exact if_pos h
  · rfl

theorem faultOfCore_frame (n : Nat) (w : Waiting) (a : Answer) (s : State) :
    ∃ g r x f, faultOfCore n w a s = { s with regs := g, recorder := r, run := x, fv := f } := by
  unfold faultOfCore
  split
  · split
    · exact ⟨_, _, _, _, rfl⟩
    · exact coreTrap_frame ..
  · exact ⟨_, _, _, _, rfl⟩

theorem faultOfCore_leaves (n : Nat) (w : Waiting) (a : Answer) (s : State) : Leaves [.REC_LOST] s (faultOfCore n w a s) := by
  unfold faultOfCore
  split
  · split
    · exact .refl s
    · exact coreTrap_leaves ..
  · exact .refl s

theorem answerLane_lane (key order : Nat) (a : Answer) (s : State) :
    mfind (mget (answerLane key order a s).lanes key Lane.idle).done order = some a := by
  unfold answerLane
  extract_lets l
  rw [mget_mset_same]
  exact mfind_mput_same ..

/-- A refused access: the answer, the count, and no bank and no word changed. -/
theorem denied_spec (n : Nat) {w : Waiting} (a : Answer) (s : State) (hc : w.req.cls ≠ 0) :
    (denied n w.src (answerRequest n w a s)).banks = s.banks ∧ (denied n w.src (answerRequest n w a s)).cells = s.cells ∧
      (denied n w.src (answerRequest n w a s)).rget .DENIED n = Nat.min (s.rget .DENIED n + 1) (El.DENIED.modulus - 1) ∧
      mfind (mget (denied n w.src (answerRequest n w a s)).lanes (laneKey n w.src) Lane.idle).done w.order = some a := by
  have hl := answerLane_lane (laneKey n w.src) w.order a s
  have hf := faultOfCore_leaves n w a (answerLane (laneKey n w.src) w.order a s)
  obtain ⟨g, r, x, f, h⟩ := faultOfCore_frame n w a (answerLane (laneKey n w.src) w.order a s)
  have ha : answerRequest n w a s = faultOfCore n w a (answerLane (laneKey n w.src) w.order a s) := by rw [answerRequest, if_neg hc]
  unfold denied
  obtain ⟨g', r', k, h'⟩ := raiseLimited_frame ((answerRequest n w a s).rinc .DENIED n) 1000 (0x0501 * 2 ^ 16 + n) sevWarning 0x0501 n
    (leBytes 2 n ++ leBytes 1 (ownerOf w.src))
  have hr := raiseLimited_leaves ((answerRequest n w a s).rinc .DENIED n) 1000 (0x0501 * 2 ^ 16 + n) sevWarning 0x0501 n
    (leBytes 2 n ++ leBytes 1 (ownerOf w.src))
  refine ⟨?_, ?_, ?_, ?_⟩
  · rw [h', State.rinc_banks, ha, h]
    rfl
  · rw [h', State.rinc_cells, ha, h]
    rfl
  · rw [hr.rget _ (by decide), State.rget_rinc, if_pos ⟨rfl, rfl⟩, ha, hf.rget _ (by decide)]
    rfl
  · rw [h', State.rinc_lanes, ha, h]
    exact hl

theorem heads_single (n : Nat) (x : Waiting) : heads n [x] [] = [x] := by
  unfold heads
  split
  · simp [heads]
  · simp [heads]

theorem winner_single {n : Nat} {x : Waiting} (hc : x.req.cls ≠ 0) (hl : x.losses < agedLosses) : winner n [x] = some x := by
  have h0 : [x].filter (fun w => w.req.cls == 0) = [] := by simp [hc]
  have h1 : [x].filter (fun w => Nat.ble agedLosses w.losses) = [] := by simp [Nat.ble_eq, hl]
  unfold winner
  rw [h0, h1]
  rfl

/-- The state of a bank whose one request has been granted, before it is performed. -/
def grantedOf (n : Nat) (x : Waiting) (s : State) : State :=
  s.setBank n { s.bank n with waiting := [], stalled := if (s.bank n).stalledOnes.contains x then (s.bank n).stalled - 1 else (s.bank n).stalled }

/-- A memory cycle of an awake bank with one request that may compete performs it. -/
theorem execBankArbitration_single {n cycle : Nat} {x : Waiting} {s : State} (hp : s.rget .POWER_STATE n = 0) (hi : s.rget .INV_STATE n = 0)
    (hs : (s.bank n).stores = []) (hw : (s.bank n).waiting = [x]) (hc : x.req.cls ≠ 0) (hl : x.losses < agedLosses)
    (hh : s.awaitsHandover n x.src = false) (ht : s.rget .THROTTLE_F ≤ cycle % 256) :
    execBankArbitration n cycle s = .next (perform n (some cycle) x (grantedOf n x s)) := by
  have hwk : wakeOnAccess n s = s := if_neg (by simp [hp])
  have hcs : s.competitors n cycle = [x] := by
    unfold State.competitors State.competing
    rw [hw, heads_single]
    simp [hh, State.isAwake, hp, hi, Nat.ble_eq, ht]
  have hg : grant n (some cycle) x [x] s = perform n (some cycle) x (grantedOf n x s) := by
    unfold grant
    extract_lets b aged b' s₁
    have ha : aged = false := by simp [aged, hc, Nat.ble_eq, hl, ← Bool.not_eq_true]
    have hb : b'.waiting = [] := by
      show afterGrant x [x] b.waiting = []
      rw [show b.waiting = [x] from hw]
      simp [afterGrant]
    rw [ha]
    have hs₁ : s₁ = grantedOf n x s := by
      unfold s₁ grantedOf
      rw [← hb]
    rw [hs₁]
    rfl
  unfold execBankArbitration
  extract_lets s₁ cs
  have h₁ : s₁ = s := hwk
  have h₂ : cs = [x] := by unfold cs; rw [h₁]; exact hcs
  rw [h₁, h₂, winner_single hc hl, if_neg (by simp [hs])]
  exact congrArg Host.Outcome.next hg

/-- A full write performed stores the row's two words, in a state that differs from the one before in its banks alone. -/
theorem perform_full {n : Nat} {cycle : Option Nat} {x : Waiting} {s : State} (hc : x.req.cls ≠ 0)
    (hm : s.mayAccess n x.src x.req.write = true) (hw : x.req.write = true) (he : x.req.enables = 0xFFFF)
    (hf : ∀ y, s.mem.flip = some y → y.1 ≠ n) :
    ∃ r : State, (∃ b, r = { s with banks := b }) ∧ (r.bank n).waiting = (s.bank n).waiting ∧
      perform n cycle x s = answerLane (laneKey n x.src) x.order (errorAnswer x.tag 0)
        ((r.setCell n (2 * x.req.row) (StoredWord.fresh (x.req.data.setWidth 64))).setCell n (2 * x.req.row + 1)
          (StoredWord.fresh ((x.req.data >>> 64).setWidth 64))) := by
  have hkeep (t : State) (b : BankPort) (ht : t = s.setBank n b) (hb : b.waiting = (s.bank n).waiting) :
      (∃ b, t = { s with banks := b }) ∧ (t.bank n).waiting = (s.bank n).waiting :=
    ⟨⟨_, ht⟩, by rw [ht, bank_setBank, hb]⟩
  have hbe : x.req.enables.toNat = 0xFFFF := by rw [he]; rfl
  unfold perform
  extract_lets ix d be r f r'
  rw [if_neg (by simp [hc]), if_neg (by simp [hm]), if_pos hw]
  cases hlo : x.src.isLocal with
  | true =>
    obtain ⟨hb, hk⟩ := hkeep (keepPrior n x.req.row cycle s) _ rfl rfl
    refine ⟨_, hb, hk, ?_⟩
    obtain ⟨b, hb⟩ := hb
    have hr : r = writeRow n x.req.row ix.1 ix.2 x.req.data 0xFFFF (keepPrior n x.req.row cycle s) := by
      rw [← hbe]
      exact if_pos hlo
    rw [hr, writeRow_full _ _ _ (by rw [hb]; exact hf)]
    exact answerRequest_of_good _ rfl hc
  | false =>
    obtain ⟨hb, hk⟩ := hkeep (overlayPrior n x.req.row x.req.data 0xFFFF s) _ rfl rfl
    refine ⟨_, hb, hk, ?_⟩
    obtain ⟨b, hb⟩ := hb
    have hr : r = writeRow n x.req.row ix.1 ix.2 x.req.data 0xFFFF (overlayPrior n x.req.row x.req.data 0xFFFF s) := by
      rw [← hbe]
      exact if_neg (by simp [hlo])
    rw [hr, writeRow_full _ _ _ (by rw [hb]; exact hf)]
    exact answerRequest_of_good _ rfl hc

/-- A read of a row of clean words without a row kept from an earlier write answers both words. -/
theorem perform_read {n : Nat} {cycle : Option Nat} {x : Waiting} {s : State} {lo hi : BitVec 64} (hc : x.req.cls ≠ 0)
    (hm : s.mayAccess n x.src x.req.write = true) (hw : x.req.write = false) (hp : (s.bank n).prior = [])
    (hv : ∀ a ∈ [2 * x.req.row, 2 * x.req.row + 1], (s.cell n a).validDisagrees = false)
    (hlo : (s.cell n (2 * x.req.row)).read = .clean lo) (hhi : (s.cell n (2 * x.req.row + 1)).read = .clean hi) :
    perform n cycle x s = answerLane (laneKey n x.src) x.order { tag := x.tag, data := hi ++ lo, errc := 0, tstatus := 0 } s := by
  have hrs {w : StoredWord} {d : BitVec 64} (a index router : Nat) (h1 : w.validDisagrees = false) (h2 : w.read = .clean d) :
      readStored w n a index router s = ((d, false), s) := by
    unfold readStored
    rw [h1, h2]
    rfl
  unfold perform
  extract_lets ix d be r f r'
  have hf : f = ((s.cell n (2 * x.req.row), s.cell n (2 * x.req.row + 1)), s) := by
    unfold f foundWords
    rw [hp, List.foldr_nil]
  have hr : r' = ((hi ++ lo, false), s) := by
    unfold r' readRowAs
    rw [hf]
    dsimp only
    rw [hrs _ _ _ (hv _ (by simp)) hlo]
    dsimp only
    rw [hrs _ _ _ (hv _ (by simp)) hhi]
    rfl
  rw [if_neg (by simp [hc]), if_neg (by simp [hm]), if_neg (by simp [hw]), hr]
  exact answerRequest_of_good _ rfl hc

/-- Settles O18: the one request is performed (`execBankArbitration_single`), as a write, a read or a refusal. -/
theorem bankAccess : Obligations.BankAccess := by
  unfold Obligations.BankAccess
  refine fun n cycle x s hp hi hs hw hc hl hh ht => ⟨fun hm hwr hbe hf => ?_, fun lo hi' hm hrd hpr hv hlo hhi => ?_, fun hm => ?_⟩
  all_goals
    have he := execBankArbitration_single hp hi hs hw hc hl hh ht
    have hb : ((grantedOf n x s).bank n).waiting = [] := by rw [grantedOf, bank_setBank]
    have hm' : (grantedOf n x s).mayAccess n x.src x.req.write = s.mayAccess n x.src x.req.write := rfl
  · obtain ⟨r, ⟨b, hr⟩, hrw, hpf⟩ := perform_full (cycle := some cycle) hc (hm'.trans hm) hwr hbe hf
    obtain ⟨c, hcl⟩ := setCell_frame r n (2 * x.req.row) (StoredWord.fresh (x.req.data.setWidth 64))
    obtain ⟨c', hcl'⟩ := setCell_frame (r.setCell n (2 * x.req.row) (StoredWord.fresh (x.req.data.setWidth 64))) n (2 * x.req.row + 1)
      (StoredWord.fresh ((x.req.data >>> 64).setWidth 64))
    refine ⟨_, he.trans (congrArg _ hpf), ?_, ?_, ?_, fun k h1 h2 => ?_, ?_⟩
    · rw [hcl', hcl]
      exact hrw.trans hb
    · exact (cell_setCell_parity _ n _ (by omega)).trans (cell_setCell ..)
    · exact cell_setCell ..
    · have hr2 : ∀ p ∈ (r.setCell n (2 * x.req.row) (StoredWord.fresh (x.req.data.setWidth 64))).writePlaces n (2 * x.req.row + 1)
          ((r.setCell n (2 * x.req.row) (StoredWord.fresh (x.req.data.setWidth 64))).moveTarget n),
          k ≠ cellKey (n / 64) p (2 * x.req.row + 1) := by
        rw [hcl, hr]
        exact h2
      have hr1 : ∀ p ∈ r.writePlaces n (2 * x.req.row) (r.moveTarget n), k ≠ cellKey (n / 64) p (2 * x.req.row) := by
        rw [hr]
        exact h1
      exact (mfind_setCell_other _ hr2).trans ((mfind_setCell_other _ hr1).trans (by rw [hr]; rfl))
    · show (State.setCell ..).regs = _
      rw [hcl', hcl, hr]
      rfl
  · have hbp : ((grantedOf n x s).bank n).prior = [] := by rw [grantedOf, bank_setBank]; exact hpr
    have hpf := perform_read (cycle := some cycle) (s := grantedOf n x s) hc (hm'.trans hm) hrd hbp hv hlo hhi
    exact ⟨_, he.trans (congrArg _ hpf), hb, rfl, rfl, answerLane_lane ..⟩
  · obtain ⟨hbk, hcl, hdn, hln⟩ := denied_spec n (errorAnswer x.tag 2) (grantedOf n x s) hc
    have hpf : perform n (some cycle) x (grantedOf n x s) = denied n x.src (answerRequest n x (errorAnswer x.tag 2) (grantedOf n x s)) := by
      unfold perform
      rw [if_neg (by simp [hc]), if_pos (by rw [hm', hm]; rfl)]
    rw [hpf] at he
    exact ⟨_, he, by rw [bank_congr hbk, hb], hcl, hdn, hln⟩

end Sys2Proof.Machine
end

section

/-! # Owners, power and rings (O19, O20) -/

namespace Sys2Proof.Machine

open Sys2Proof.Safety

/-! ### A write that its element's own rights refuse -/

theorem judge_of_notAllowed {w : Route} {e : El} {u v : Nat} {h : Handler} {s : State} (ha : accepts w e u v s = true)
    (hr : h.allow w v s = false) : judge w e u (fit e v) h s = .error 3 := by
  simp only [accepts, mayAsk, Bool.and_eq_true, bne_iff_ne, ne_eq, Nat.blt_eq, Nat.ble_eq, beq_iff_eq, Bool.not_eq_true'] at ha
  obtain ⟨⟨⟨⟨⟨⟨⟨⟨⟨⟨-, -⟩, -⟩, hu⟩, -⟩, -⟩, -⟩, hm⟩, -⟩, -⟩, -⟩ := ha
  have h1 : Nat.ble e.info.cnt u = false := by rw [Bool.eq_false_iff, ne_eq, Nat.ble_eq]; omega
  have hf : fit e v = some v := by simp [fit, hm]
  unfold judge
  dsimp only
  rw [hf, if_neg (by simp [h1]), if_pos (by simp [hr])]

theorem write_notAllowed {w : Route} {e : El} {u v : Nat} {h : Handler} {s : State} (ha : accepts w e u v s = true)
    (hr : h.allow w v s = false) : write w e u v h s = refused w 3 s := by
  rw [write, request, heard_of_accepts ha, if_pos rfl, inTurn_of_idle (idle_of_accepts ha), judged, judge_of_notAllowed ha hr]
  rfl

/-! ### Handover -/

theorem answerRequest_frame (n : Nat) (w : Waiting) (a : Answer) (s : State) :
    ∃ l b g r x f, answerRequest n w a s = { s with lanes := l, fixed := b, regs := g, recorder := r, run := x, fv := f } := by
  unfold answerRequest
  split
  · obtain ⟨g, r, x, f, h⟩ := faultOfCore_frame n w a (answerFixed (laneKey n w.src) w.order a s)
    exact ⟨_, _, g, r, x, f, h⟩
  · obtain ⟨g, r, x, f, h⟩ := faultOfCore_frame n w a (answerLane (laneKey n w.src) w.order a s)
    exact ⟨_, _, g, r, x, f, h⟩

theorem answerRequest_leaves (n : Nat) (w : Waiting) (a : Answer) (s : State) : Leaves [.REC_LOST] s (answerRequest n w a s) := by
  unfold answerRequest
  split
  · exact Leaves.trans (t := answerFixed (laneKey n w.src) w.order a s) (.of_regs rfl) (faultOfCore_leaves ..)
  · exact Leaves.trans (t := answerLane (laneKey n w.src) w.order a s) (.of_regs rfl) (faultOfCore_leaves ..)

theorem denied_leaves (n : Nat) (r : Requester) (s : State) : Leaves [.REC_LOST, .DENIED] s (denied n r s) :=
  (Leaves.rinc (by decide) ..).trans ((raiseLimited_leaves ..).mono (by decide))

theorem denied_rings (n : Nat) (r : Requester) (s : State) : (denied n r s).rings = s.rings := by
  obtain ⟨g, c, k, h⟩ := raiseLimited_frame (s.rinc .DENIED n) 1000 (0x0501 * 2 ^ 16 + n) sevWarning 0x0501 n
    (leBytes 2 n ++ leBytes 1 (ownerOf r))
  rw [denied, h]
  rfl

/-- What a handover begun leaves. -/
structure HandedOver (n v : Nat) (s t : State) : Prop where
  owner : t.rget .OWNER n = v
  handover : t.rget .HANDOVER n = 1
  regs : Leaves [.REC_LOST, .DENIED, .OWNER, .HANDOVER] s t
  others : ∀ m, m ≠ n → t.rget .OWNER m = s.rget .OWNER m ∧ t.rget .HANDOVER m = s.rget .HANDOVER m
  rings : t.rings = s.rings

theorem startHandover_handedOver (n v : Nat) (s : State) : HandedOver n v s (startHandover n v s) := by
  unfold startHandover
  extract_lets _ s₁ old b goes refusedOnes s₂ s₃
  have h₃ : Leaves [.REC_LOST, .DENIED] s s₃ :=
    Leaves.trans (t := s₂) (.of_regs rfl) (.foldl (fun t w => ((answerRequest_leaves ..).mono (by decide)).trans (denied_leaves ..)) _ _)
  have hrs : s₃.rings = s.rings := by
    refine foldl_keeps State.rings (fun t w => ?_) refusedOnes s₂
    obtain ⟨l, c, g, r, x, f, h⟩ := answerRequest_frame n w { tag := w.tag, data := 0, errc := 2, tstatus := 0 } t
    rw [denied_rings, h]
  refine ⟨?_, State.rget_rset_same .., (h₃.mono (by decide)).trans ((Leaves.rset (by decide) ..).trans (.rset (by decide) ..)),
    fun m hm => ⟨?_, ?_⟩, hrs⟩
  · rw [State.rget_rset, if_neg (by simp), State.rget_rset_same]
  · rw [State.rget_rset, if_neg (by simp), State.rget_rset, if_neg (by simp [hm]), h₃.rget _ (by decide)]
  · rw [State.rget_rset, if_neg (by simp [hm]), State.rget_rset, if_neg (by simp), h₃.rget _ (by decide)]

theorem ownerRefusal_codes {s : State} {n v c : Nat} (h : s.ownerRefusal n v = some c) : c = 3 ∨ c = 4 ∨ c = 6 := by
  unfold State.ownerRefusal at h
  split at h
  · simp_all
  · split at h
    · simp_all
    · repeat' split at h
      all_goals simp_all

/-! ### Power -/

theorem sliceRuns_rset {e : El} (s : State) (n u v : Nat) (h : El.BIST_TARGET ≠ e) :
    (s.rset e u v).sliceRuns n = s.sliceRuns n := by
  unfold State.sliceRuns State.underTest
  rw [State.rget_rset, if_neg (by simp [h])]
  rfl

theorem startSleep_awake {n : Nat} {s : State} (h : s.rget .POWER_STATE n = 0) (hs : s.sliceRuns n = false) :
    startSleep n s = s.rset .POWER_STATE n 1 := by
  unfold startSleep
  rw [h]
  exact if_neg (by simp [hs])

theorem startWake_retained {n : Nat} {s : State} (h : s.rget .POWER_STATE n = 1) : startWake n s = s.rset .POWER_STATE n 2 := if_pos h

/-- Settles O19: OWNER by the handover it starts, the others by their own equations. -/
theorem ownersAndPower : Obligations.OwnersAndPower := by
  unfold Obligations.OwnersAndPower
  refine fun n s => ⟨fun w v ha => ⟨fun c hc => ?_, fun hn => ?_⟩, fun hh => ?_, fun w v ha => ⟨fun hv hm => ?_, fun hv hm hp hs => ?_, fun hv hp => ?_⟩,
    fun hp => ?_, fun hp hsl hst hs => ?_⟩
  · obtain rfl | rfl | rfl := ownerRefusal_codes hc
    · exact write_notAllowed (h := hOwner n) ha (by simp [hOwner, hc])
    · exact write_outOfRange (h := hOwner n) ha (by simp [hOwner, hc]) (by simp [hOwner, hc])
    · exact write_refused (h := hOwner n) ha (by simp [hOwner, hc]) (by simp [hOwner, hc]) (by simp [hOwner, hc]) (by decide)
  · have h := startHandover_handedOver n v s
    exact ⟨_, write_performed (h := hOwner n) (t := startHandover n v s) ha (by simp [hOwner, hn]) (by simp [hOwner, hn]) (by simp [hOwner, hn]),
      h.owner, h.handover, h.regs.rget _ (by decide) _, cells_of_words (startHandover_words ..)⟩
  · refine ⟨_, rfl, ?_⟩
    rw [endHandover, if_pos hh]
    refine ⟨?_, ?_, by rw [raise_cells]; rfl, by rw [raise_banks]; rfl⟩
    · rw [raise_rget _ _ _ _ _ _ (by decide), State.rget_rset, if_neg (by simp), State.rget_rset_same]
    · rw [raise_rget _ _ _ _ _ _ (by decide), State.rget_rset_same]
  · exact write_refused (h := hPower n) ha rfl rfl ((if_neg hv).trans (if_pos hm)) (by decide)
  · have hact : (hPower n).act v s = .ok ((s.rset .POWER n 1).rset .POWER_STATE n 1) := by
      refine (if_neg hv).trans ((if_neg (by simp [hm])).trans (congrArg _ (startSleep_awake ?_ (by rw [sliceRuns_rset _ _ _ _ (by decide), hs]))))
      rw [State.rget_rset, if_neg (by simp), hp]
    refine ⟨_, write_performed (h := hPower n) ha rfl rfl hact, State.rget_rset_same .., ?_, rfl⟩
    rw [State.rget_rset, if_neg (by simp), State.rget_rset_same]
  · have hact : (hPower n).act v s =
        .ok (((s.setBank n { s.bank n with sleepHeld := false }).rset .POWER n 0).rset .POWER_STATE n 2) := by
      refine (if_pos hv).trans (congrArg _ (startWake_retained ?_))
      rw [State.rget_rset, if_neg (by simp)]
      exact hp
    refine ⟨_, write_performed (h := hPower n) ha rfl rfl hact, State.rget_rset_same .., ?_, rfl⟩
    rw [State.rget_rset, if_neg (by simp), State.rget_rset_same]
  · refine ⟨_, rfl, ?_⟩
    rw [endWake, if_pos hp]
    refine ⟨?_, ?_, rfl⟩
    · dsimp only
      rw [State.setBank_rget, State.rget_rset_same]
    dsimp only
    rw [bank_setBank]
  · refine ⟨_, rfl, ?_⟩
    have he : fallAsleep n s = (s.setBank n { s.bank n with sleepHeld := false }).rset .POWER_STATE n 1 := by
      unfold fallAsleep
      extract_lets b
      rw [if_pos (by simp [b, hp, hsl, hst, hs])]
    rw [he]
    refine ⟨State.rget_rset_same .., ?_, rfl⟩
    show ((s.setBank n _).bank n).sleepHeld = false
    rw [bank_setBank]

/-! ### Rings -/

@[simp] theorem ring_setRing (s : State) (q : Nat) (r : Ring) : (s.setRing q r).ring q = r := mget_mset_same ..

theorem ring_setRing_other (s : State) {q p : Nat} (r : Ring) (h : p ≠ q) : (s.setRing q r).ring p = s.ring p :=
  mget_mset_other _ _ _ _ _ _ h

theorem ring_congr {s t : State} (h : t.rings = s.rings) (q : Nat) : t.ring q = s.ring q := by rw [State.ring, h, State.ring]

theorem disableRing_spec (q : Nat) (s : State) : (disableRing q s).rget .RING_ENABLE q = 0 ∧ (disableRing q s).rget .RING_STATE q = 0 ∧
    (disableRing q s).rings = (s.setRing q Ring.off).rings := by
  unfold disableRing
  refine ⟨?_, ?_, rfl⟩
  · simp [State.rget_rset]
  · simp [State.rget_rset]

/-- What a ring enabled with a geometry is. -/
theorem enableRing_spec (q first n : Nat) (s : State) :
    (enableRing q first n s).rget .RING_ENABLE q = 1 ∧ (enableRing q first n s).rget .RING_STATE q = 1 ∧
      ((enableRing q first n s).ring q).first = first ∧ ((enableRing q first n s).ring q).banks = n ∧
      ((enableRing q first n s).ring q).stripes = [] ∧ ∀ p, p ≠ q → (enableRing q first n s).ring p = s.ring p := by
  unfold enableRing
  extract_lets e added _ s₁ s₂ _ s₃
  generalize hs₄ : added.foldl (fun t b => startHandover b 0x80 t) s₃ = s₄
  have hl₄ : Leaves [.REC_LOST, .DENIED, .OWNER, .HANDOVER] s₂ s₄ := by
    rw [← hs₄]
    exact Leaves.trans (t := s₃) (.of_regs rfl) (.foldl (fun t b => (startHandover_handedOver ..).regs) _ _)
  have hg : Leaves [.REC_LOST, .DENIED, .OWNER, .HANDOVER, .RING_STRIPES, .RING_DEPTH] s₂ (setDepth q s₄) :=
    Leaves.trans (t := s₄) (hl₄.mono (by decide)) ((Leaves.rset (by decide) ..).trans (.rset (by decide) ..))
  have hr : (setDepth q s₄).rings = s₃.rings := by
    rw [← hs₄]
    exact foldl_keeps State.rings (fun t b => (startHandover_handedOver b 0x80 t).rings) added s₃
  have h₁ : s₂.rings = s₁.rings := by simp only [s₂, State.rset_rings]
  have h₂ : s₂.ring q = { Ring.off with first, banks := n } := (ring_congr h₁ q).trans (ring_setRing s q _)
  have h₃ : s₃.ring q = { s₂.ring q with out := (List.range 64).filter (fun t => s₂.stripeRetired q first n t) } := ring_setRing s₂ q _
  refine ⟨?_, ?_, ?_, ?_, ?_, fun p hp => ?_⟩
  · rw [hg.rget _ (by decide)]
    simp [s₂, State.rget_rset]
  · rw [hg.rget _ (by decide)]
    simp [s₂, State.rget_rset]
  · rw [ring_congr hr, h₃, h₂]
  · rw [ring_congr hr, h₃, h₂]
  · rw [ring_congr hr, h₃, h₂]
    rfl
  · rw [ring_congr hr]
    exact (ring_setRing_other s₂ _ hp).trans ((ring_congr h₁ p).trans (ring_setRing_other s _ hp))

theorem ringRefusal_codes {s : State} {q f n c : Nat} (h : s.ringRefusal q f n = some c) : c = 4 ∨ c = 6 := by
  unfold State.ringRefusal at h
  extract_lets e t k bs at h
  split at h
  · simp_all
  · split at h
    · simp_all
    · simp at h

/-- Settles O20: RING_ENABLE by `disableRing` and `enableRing`, the geometry of a ring that is off by its handler. -/
theorem ringsAreSet : Obligations.RingsAreSet := by
  unfold Obligations.RingsAreSet
  refine fun w q v s => ⟨fun ha => ⟨fun hv => ?_, fun c hv hc => ?_, fun hv hn => ?_⟩, fun e ha he => ?_⟩
  · obtain ⟨h1, h2, h3⟩ := disableRing_spec q s
    refine ⟨disableRing q s, write_performed (h := hRingEnable q) ha rfl rfl (if_pos hv), h1, h2, ?_, fun p hp => ?_, rfl⟩
    · rw [ring_congr h3, ring_setRing]
    · rw [ring_congr h3, ring_setRing_other _ _ hp]
  · have hact : (hRingEnable q).act v s = .error c := (if_neg hv).trans (by rw [hc])
    refine write_refused (h := hRingEnable q) ha rfl rfl hact ?_
    obtain rfl | rfl := ringRefusal_codes hc
    · decide
    · decide
  · have hact : (hRingEnable q).act v s = .ok (enableRing q (s.rget .RING_FIRST q) (s.rget .RING_BANKS q) s) :=
      (if_neg hv).trans (by rw [hn])
    obtain ⟨h1, h2, h3, h4, h5, h6⟩ := enableRing_spec q (s.rget .RING_FIRST q) (s.rget .RING_BANKS q) s
    exact ⟨_, write_performed (h := hRingEnable q) ha rfl rfl hact, h1, h2, h3, h4, h5, h6, cells_of_words (enableRing_words ..)⟩
  · have hact : (hRingGeometry e q).act v s = .ok ((discardRing q s).rset (ringGeometryEl e) q v) := if_neg (by simp [he])
    refine ⟨_, write_performed (h := hRingGeometry e q) ha rfl rfl hact, State.rget_rset_same .., ?_, fun p hp => ?_,
      fun k hk => mfind_rset_other _ _ hk, rfl⟩
    · show ((discardRing q s).ring q).stripes = []
      rw [discardRing, ring_setRing]
      rfl
    · exact ring_setRing_other _ _ hp

end Sys2Proof.Machine
end

section

/-! # Writes of the keeper: what they leave, and that a sound keeper takes a value -/

namespace Sys2Proof.Machine

open Sys2Proof.Safety

/-- A step that touches the keeper, the core's interrupts, the registers and the recorder alone. -/
structure OnlyKeeper (s t : State) : Prop where
  frame : ∃ g r k i, t = { s with regs := g, recorder := r, keeper := k, core := { s.core with irq := i } }

namespace OnlyKeeper

theorem refl (s : State) : OnlyKeeper s s := ⟨_, _, _, _, rfl⟩

theorem trans {s t r : State} (h : OnlyKeeper s t) (h' : OnlyKeeper t r) : OnlyKeeper s r := by
  obtain ⟨⟨g, c, k, i, rfl⟩⟩ := h
  obtain ⟨⟨g', c', k', i', rfl⟩⟩ := h'
  exact ⟨_, _, _, _, rfl⟩

theorem rset (s : State) (e : El) (u v : Nat) : OnlyKeeper s (s.rset e u v) := ⟨_, _, _, _, rfl⟩

theorem rinc (s : State) (e : El) (u : Nat) : OnlyKeeper s (s.rinc e u) := ⟨_, _, _, _, rfl⟩

theorem latchIrq (k : Nat) (s : State) : OnlyKeeper s (latchIrq k s) := ⟨_, _, _, _, rfl⟩

theorem setKeeper (s : State) (k : Keeper) : OnlyKeeper s (s.setKeeper k) := ⟨_, _, _, _, rfl⟩

theorem raise (s : State) (v c u : Nat) (d : Bytes) : OnlyKeeper s (s.raise v c u d) := by
  obtain ⟨g, r, h⟩ := raise_frame s v c u d
  exact ⟨g, r, _, _, h⟩

theorem ite {c : Prop} [Decidable c] {s t r : State} (ht : OnlyKeeper s t) (hr : OnlyKeeper s r) : OnlyKeeper s (if c then t else r) := by
  split
  · exact ht
  · exact hr

end OnlyKeeper

/-- The registers that a write of the keeper may touch. -/
def keeperEls : List El := [.KP_STATE, .KP_WORN, .KP_RESERVE_FREE, .REC_LOST]

theorem keeperState_onlyKeeper (s : State) (v : Nat) : OnlyKeeper s (s.keeperState v) := by
  unfold State.keeperState
  extract_lets v
  exact .ite ((OnlyKeeper.rset ..).trans (.latchIrq ..)) (.refl s)

theorem keeperState_leaves (s : State) (v : Nat) : Leaves keeperEls s (s.keeperState v) := by
  unfold State.keeperState
  extract_lets v
  exact .ite ((Leaves.rset (by decide) s 0 v).trans (.of_regs rfl)) (.refl s)

theorem writeSector_onlyKeeper (n : Nat) (d : BitVec 512) (s : State) : OnlyKeeper s (writeSector n d s) := by
  unfold writeSector
  extract_lets m k s₁
  have h : OnlyKeeper s s₁ := (OnlyKeeper.setKeeper ..).trans (.latchIrq ..)
  exact .ite (h.trans ((OnlyKeeper.rinc ..).trans ((keeperState_onlyKeeper ..).trans (.raise ..)))) h

theorem writeSector_leaves (n : Nat) (d : BitVec 512) (s : State) : Leaves keeperEls s (writeSector n d s) := by
  unfold writeSector
  extract_lets m k s₁
  have h : Leaves keeperEls s s₁ := .of_regs rfl
  exact .ite (h.trans ((Leaves.rinc (by decide) ..).trans ((keeperState_leaves ..).trans (.raise (by decide) ..)))) h

theorem relocate_onlyKeeper (home id len value gen : Nat) (s : State) : OnlyKeeper s (relocate home id len value gen s) := by
  unfold relocate
  split
  · exact keeperState_onlyKeeper ..
  · next p _ =>
    extract_lets k s₁ s₂
    have h : OnlyKeeper s s₂ := ((OnlyKeeper.setKeeper ..).trans (.rset ..)).trans (writeSector_onlyKeeper ..)
    exact .ite (h.trans (keeperState_onlyKeeper ..)) h

theorem relocate_leaves (home id len value gen : Nat) (s : State) : Leaves keeperEls s (relocate home id len value gen s) := by
  unfold relocate
  split
  · exact keeperState_leaves ..
  · next p _ =>
    extract_lets k s₁ s₂
    have h₁ : Leaves keeperEls s s₁ := Leaves.trans (t := s.setKeeper { k with moved := mput k.moved home p, taken := k.taken ++ [p] })
      (.of_regs rfl) (.rset (by decide) ..)
    have h : Leaves keeperEls s s₂ := h₁.trans (writeSector_leaves ..)
    exact .ite (h.trans (keeperState_leaves ..)) h

/-- A sound keeper takes a value whose sector is not worn, and nothing but the keeper's own registers changes. -/
theorem writeValue_of_sound {home id len value : Nat} {s : State} (hf : s.keeper.failed = false) (hw : s.worn (s.sectorFor home) = false) :
    ∃ t, writeValue home id len value s = .ok t ∧ OnlyKeeper s t ∧ Leaves keeperEls s t := by
  unfold writeValue
  extract_lets sec gen t
  have hw' : s.worn sec = false := hw
  rw [if_neg (by simp [hf]), if_neg (by simp [hw'])]
  have ho : OnlyKeeper s t := writeSector_onlyKeeper ..
  have hl : Leaves keeperEls s t := writeSector_leaves ..
  exact ⟨_, rfl, .ite (ho.trans (relocate_onlyKeeper ..)) ho, .ite (hl.trans (relocate_leaves ..)) hl⟩

/-- An element that the keeper keeps reads the value once a sound keeper has taken it. -/
theorem keepValue_of_sound {e : El} {u v : Nat} {s : State} (hf : s.keeper.failed = false)
    (hw : s.worn (s.sectorFor (valuesFirst + rwkIndex e u)) = false) :
    ∃ t, keepValue e u v s = .ok t ∧ t.rget e u = v ∧ OnlyKeeper s t ∧ Leaves (e :: keeperEls) s t := by
  obtain ⟨t, h, ho, hl⟩ := writeValue_of_sound (id := eidOf e u) (len := e.info.size) (value := v) hf hw
  refine ⟨t.rset e u v, ?_, State.rget_rset_same .., ho.trans (.rset ..),
    (hl.mono (List.subset_cons_self ..)).trans (.rset List.mem_cons_self ..)⟩
  rw [keepValue, h]

/-- A keeper that cannot be read refuses every value. -/
theorem keepValue_of_failed {e : El} {u v : Nat} {s : State} (hf : s.keeper.failed = true) : keepValue e u v s = .error 6 := by
  rw [keepValue, writeValue, if_pos hf]

end Sys2Proof.Machine
end

section

/-! # The Vault (O21) -/

namespace Sys2Proof.Machine

open Sys2Proof.Safety

/-! ### What the end of a test may touch among the registers -/

/-- The registers that ending a memory test may touch. -/
def testEndEls : List El :=
  [.BIST_EXECUTED, .BIST_FAIL_ADDR, .BIST_STATE, .BIST_RESULT, .BIST_SIG, .INV_STATE, .SUB_STATE, .SUB_COPY_UE, .VAULT_STATE,
    .REC_LOST] ++ queueElements

theorem mfind_filter_key {α : Type} {f : Nat → Bool} (m : SMap α) {k : Nat} (h : f k = true) :
    mfind (m.filter (fun p => f p.1)) k = mfind m k := by
  induction m with
  | nil => rfl
  | cons p m ih =>
    obtain ⟨a, v⟩ := p
    by_cases ha : f a = true
    · rw [List.filter_cons, if_pos ha, mfind, mfind, ih]
    · rw [List.filter_cons, if_neg ha, ih, mfind, if_neg]
      rintro rfl
      exact ha h

theorem mfind_filter_gone {α : Type} {f : Nat → Bool} (m : SMap α) {k : Nat} (h : f k = false) :
    mfind (m.filter (fun p => f p.1)) k = none := by
  induction m with
  | nil => rfl
  | cons p m ih =>
    obtain ⟨a, v⟩ := p
    by_cases ha : f a = true
    · rw [List.filter_cons, if_pos ha, mfind, ih, if_neg]
      rintro rfl
      simp [h] at ha
    · rw [List.filter_cons, if_neg ha, ih]

theorem keyEl_regKey (e : El) (u : Nat) : keyEl (regKey e u) = e.ctorIdx := by
  have := ctorIdx_lt e
  unfold keyEl regKey
  omega

theorem ctorIdx_injective : Function.Injective El.ctorIdx := fun e e' h => by
  rw [← El.ofNat_ctorIdx e, ← El.ofNat_ctorIdx e', h]

theorem resetDescriptors_leaves (s : State) : Leaves testEndEls s (resetDescriptors s) :=
  ⟨fun e he u => by
    have hk : (!(queueElements.map (·.ctorIdx)).contains (keyEl (regKey e u))) = true := by
      rw [keyEl_regKey]
      simp only [Bool.not_eq_true', List.contains_eq_mem, decide_eq_false_iff_not, List.mem_map, not_exists, not_and]
      intro x hx hxe
      rw [ctorIdx_injective hxe] at hx
      exact he (List.mem_append_right _ hx)
    unfold State.rget
    rw [show (resetDescriptors s).regs = s.regs.filter (fun p => !(queueElements.map (·.ctorIdx)).contains (keyEl p.1)) from rfl,
      mget, mget, mfind_filter_key (f := fun k => !(queueElements.map (·.ctorIdx)).contains (keyEl k)) _ hk]⟩

theorem clockReads_leaves (ops : List MarchOp) (fails : List BistRead) (s : State) : Leaves testEndEls s (clockReads ops fails s) := by
  unfold clockReads
  extract_lets ones b s₁ s₂
  have h : Leaves testEndEls s s₂ := Leaves.trans (t := s₁) (.radd (by decide) ..) (.of_regs rfl)
  split
  · exact h
  · exact h.trans (Leaves.trans (t := if b.mismatch then s₂ else s₂.rset .BIST_FAIL_ADDR 0 _)
      (.ite (.refl _) (.rset (by decide) ..)) (.of_regs rfl))

theorem closeTest_leaves (s : State) : Leaves testEndEls s (closeTest s) := by
  unfold closeTest
  extract_lets b ok result s₁ s₂ items s₃
  have h₁ : Leaves testEndEls s s₁ := (Leaves.rset (by decide) ..).trans (.rset (by decide) ..)
  have h : Leaves testEndEls s s₃ := h₁.trans (.of_regs rfl)
  split
  · exact h.trans (.raise (by decide) ..)
  · exact .ite (h.trans (.raise (by decide) ..)) (h.trans (.raise (by decide) ..))

theorem startMove_leaves (q b i : Nat) (back : Bool) (s : State) : Leaves [.SUB_STATE, .SUB_COPY_UE] s (startMove q b i back s) := by
  unfold startMove
  extract_lets _ s₁
  exact Leaves.trans (t := s₁) (.of_regs rfl) ((Leaves.rset (by decide) ..).trans (.rset (by decide) ..))

theorem substitute_leaves {q b : Nat} {s t : State} (h : s.substitute q b = some t) : Leaves [.SUB_STATE, .SUB_COPY_UE] s t := by
  unfold State.substitute at h
  split at h
  · split at h
    · cases h
    · cases h
      exact startMove_leaves ..
  · cases h

theorem endTest_leaves (s : State) : Leaves testEndEls s (endTest s) := by
  unfold endTest
  extract_lets n b kind s₁ _ s₂ s₃ s₄
  have h₂ : Leaves testEndEls s s₂ := (closeTest_leaves s).trans (.of_regs rfl)
  have h₃ : Leaves testEndEls s s₃ := h₂.trans (.ite (.rset (by decide) ..) (.refl _))
  have h₄ : Leaves testEndEls s s₄ := by
    refine h₃.trans (.ite ?_ (.refl _))
    split
    · next t ht => exact (substitute_leaves ht).mono (by decide)
    · exact .raise (by decide) ..
  exact .ite (h₄.trans (.raise (by decide) ..)) h₄

theorem endOffline_leaves (s : State) : Leaves testEndEls s (endOffline s) := by
  unfold endOffline
  extract_lets n s₁ s₂
  have h₁ : Leaves testEndEls s s₁ := .rset (by decide) ..
  have h₂ : Leaves testEndEls s s₂ := by
    refine h₁.trans ?_
    unfold s₂
    split
    · exact Leaves.trans (t := s₁.rset .INV_STATE n 1) (.rset (by decide) ..) (.of_regs rfl)
    · exact .of_regs rfl
    · exact resetDescriptors_leaves _
  exact h₂.trans (endTest_leaves _)

theorem clearSlice_frame (place : Nat) (s : State) : ∃ c, clearSlice place s = { s with cells := c } := by
  unfold clearSlice
  extract_lets q first s₁
  have h₁ : ∃ c, s₁ = { s with cells := c } := ⟨_, rfl⟩
  obtain ⟨c, h₁⟩ := h₁
  have hl (l : List Nat) (t : State) (ht : ∃ c, t = { s with cells := c }) :
      ∃ c, l.foldl (fun t i => t.setCellAt q place (first + i) StoredWord.invalid) t = { s with cells := c } := by
    induction l generalizing t with
    | nil => exact ht
    | cons i l ih =>
      obtain ⟨c, rfl⟩ := ht
      exact ih _ ⟨_, rfl⟩
  split
  · exact hl _ _ ⟨c, h₁⟩
  · exact ⟨c, h₁⟩

theorem clearSlice_regs (place : Nat) (s : State) : (clearSlice place s).regs = s.regs := by
  obtain ⟨c, h⟩ := clearSlice_frame place s
  rw [h]

theorem cutShort_leaves (s : State) : Leaves testEndEls s (cutShort s).2 :=
  Leaves.trans (t := s.draw.2) (.draw s) (clockReads_leaves ..)

theorem stopTest_leaves (s : State) : Leaves testEndEls s (stopTest s) := by
  unfold stopTest
  extract_lets n _ s₁ s₂ s₃
  have h₁ : Leaves testEndEls s s₁ := .of_regs rfl
  have h₂ : Leaves testEndEls s s₂ := h₁.trans (.ite (cutShort_leaves _) (.refl _))
  have h₃ : Leaves testEndEls s s₃ := by
    refine h₂.trans ?_
    unfold s₃
    split
    · exact .of_regs (clearSlice_regs ..)
    · exact .refl _
  exact .ite (.ite (h₃.trans (endOffline_leaves _)) (h₃.trans ((Leaves.rset (by decide) ..).trans (endTest_leaves _)))) (.refl s)

/-! ### Whole places cleared or zeroed -/

/-- No word of a place is listed, and it stands among the zeroed ones where `zero` says so. -/
structure PlaceBlank (zero : Bool) (k : Nat) (s : State) : Prop where
  zeroed : k ∈ s.mem.zeroed ↔ zero = true
  none : ∀ a, a < 32768 → mfind s.cells (k * 32768 + a) = none

theorem PlaceBlank.of_words {zero : Bool} {k : Nat} {s t : State} (h : PlaceBlank zero k s) (hw : t.words = s.words) : PlaceBlank zero k t := by
  have hc : t.cells = s.cells := congrArg Prod.fst hw
  have hz : t.mem.zeroed = s.mem.zeroed := congrArg Prod.snd hw
  exact ⟨by rw [hz]; exact h.zeroed, fun a ha => by rw [hc]; exact h.none a ha⟩

/-- A word of a blank place reads as the place does. -/
theorem PlaceBlank.cellAt {zero : Bool} {q p a : Nat} {s : State} (h : PlaceBlank zero (66 * q + p) s) (ha : a < 32768) :
    s.cellAt q p a = if zero then StoredWord.fresh 0 else StoredWord.invalid := by
  have hk : cellKey q p a / 32768 = 66 * q + p := by unfold cellKey; omega
  have hb : s.blankWord (66 * q + p) = if zero then StoredWord.fresh 0 else StoredWord.invalid := by
    unfold State.blankWord
    refine if_congr ?_ rfl rfl
    rw [List.contains_iff_mem]
    exact h.zeroed
  rw [State.cellAt, hk, hb, mget, show cellKey q p a = (66 * q + p) * 32768 + a from rfl, h.none a ha]
  rfl

theorem mem_zeroed_blankPlace (q p k : Nat) (zero : Bool) (s : State) :
    k ∈ (blankPlace q p zero s).mem.zeroed ↔ if k = 66 * q + p then zero = true else k ∈ s.mem.zeroed := by
  unfold blankPlace
  extract_lets s₁ k' others listed _
  have hl : k ∈ listed ↔ k = k' ∨ k ∈ s.mem.zeroed := by
    simp only [listed, others, s₁, dropCells, List.mem_append, List.mem_filter, List.mem_cons, Nat.blt_eq, bne_iff_ne]
    constructor
    · rintro (⟨⟨h, -⟩, -⟩ | h | ⟨⟨h, -⟩, -⟩)
      · exact .inr h
      · exact .inl h
      · exact .inr h
    · intro h
      by_cases hk : k = k'
      · exact .inr (.inl hk)
      · have hm := h.resolve_left hk
        obtain hlt | hgt := Nat.lt_or_gt_of_ne hk
        · exact .inl ⟨⟨hm, hk⟩, hlt⟩
        · exact .inr (.inr ⟨⟨hm, hk⟩, hgt⟩)
  have ho : k ∈ others ↔ k ∈ s.mem.zeroed ∧ k ≠ k' := by
    simp only [others, s₁, dropCells, List.mem_filter, bne_iff_ne]
  show k ∈ (if zero then listed else others) ↔ _
  cases zero with
  | true =>
    rw [if_pos rfl, hl]
    split
    · next h => exact ⟨fun _ => rfl, fun _ => .inl h⟩
    · next h => exact or_iff_right h
  | false =>
    rw [if_neg (by simp), ho]
    split
    · next h => exact ⟨fun h' => absurd h h'.2, fun h' => by cases h'⟩
    · next h => exact and_iff_left h

theorem mfind_blankPlace (q p k : Nat) (zero : Bool) (s : State) :
    mfind (blankPlace q p zero s).cells k = if k / 32768 = 66 * q + p then none else mfind s.cells k := by
  have h : (blankPlace q p zero s).cells = s.cells.filter (fun x => !(Nat.ble (cellKey q p 0) x.1 && Nat.blt x.1 (cellKey q p 0 + 32768))) := rfl
  rw [h]
  split
  · next hk =>
    refine mfind_filter_gone (f := fun x => !(Nat.ble (cellKey q p 0) x && Nat.blt x (cellKey q p 0 + 32768))) _ ?_
    simp only [Bool.not_eq_false', Bool.and_eq_true, Nat.ble_eq, Nat.blt_eq, cellKey]
    omega
  · next hk =>
    refine mfind_filter_key (f := fun x => !(Nat.ble (cellKey q p 0) x && Nat.blt x (cellKey q p 0 + 32768))) _ ?_
    rw [Bool.not_eq_true', ← Bool.not_eq_true]
    simp only [Bool.and_eq_true, Nat.ble_eq, Nat.blt_eq, cellKey]
    omega

theorem blankPlace_blank (q p : Nat) (zero : Bool) (s : State) : PlaceBlank zero (66 * q + p) (blankPlace q p zero s) :=
  ⟨by rw [mem_zeroed_blankPlace, if_pos rfl], fun a ha => by rw [mfind_blankPlace, if_pos (by omega)]⟩

theorem PlaceBlank.blankPlace {zero : Bool} {k : Nat} {s : State} (h : PlaceBlank zero k s) (q p : Nat) :
    PlaceBlank zero k (blankPlace q p zero s) := by
  refine ⟨?_, fun a ha => ?_⟩
  · rw [mem_zeroed_blankPlace]
    split
    · exact Iff.rfl
    · exact h.zeroed
  · rw [mfind_blankPlace]
    split
    · rfl
    · exact h.none a ha

theorem blankPlace_frame (q p : Nat) (zero : Bool) (s : State) :
    ∃ c z, blankPlace q p zero s = { s with cells := c, mem := { s.mem with zeroed := z } } := ⟨_, _, rfl⟩

theorem blankBank_frame (n : Nat) (zero : Bool) (s : State) :
    ∃ c b z, blankBank n zero s = { s with cells := c, banks := b, mem := { s.mem with zeroed := z } } := by
  have hp (q p : Nat) (t : State) (ht : ∃ c b z, t = { s with cells := c, banks := b, mem := { s.mem with zeroed := z } }) :
      ∃ c b z, blankPlace q p zero t = { s with cells := c, banks := b, mem := { s.mem with zeroed := z } } := by
    obtain ⟨c, b, z, rfl⟩ := ht
    exact ⟨_, b, _, rfl⟩
  unfold blankBank
  extract_lets _ t₁ t₂ t₃
  have h₁ : ∃ c b z, t₁ = { s with cells := c, banks := b, mem := { s.mem with zeroed := z } } := by
    unfold t₁
    split
    · exact ⟨_, _, _, rfl⟩
    · exact ⟨_, _, _, rfl⟩
  have h₂ := hp (n / 64) (s.placeOfBank n) t₁ h₁
  have h₃ : ∃ c b z, t₃ = { s with cells := c, banks := b, mem := { s.mem with zeroed := z } } := by
    unfold t₃
    split
    · exact hp _ _ _ h₂
    · exact h₂
  split
  · exact hp _ _ _ h₃
  · exact h₃

/-- The places in which a bank is cleared or zeroed. -/
theorem blankBank_places (n : Nat) (zero : Bool) (s : State) :
    PlaceBlank zero (66 * (n / 64) + s.placeOfBank n) (blankBank n zero s) ∧
      (∀ sp, s.underTest n = true → s.bist.spare = some sp → PlaceBlank zero (66 * (n / 64) + (64 + sp)) (blankBank n zero s)) ∧
      ∀ k, PlaceBlank zero k s → PlaceBlank zero k (blankBank n zero s) := by
  unfold blankBank
  extract_lets _ t₁ t₂ t₃
  have h₁ : t₁.words = s.words := by
    unfold t₁
    split
    · rfl
    · rfl
  have h₃ {k : Nat} (h : PlaceBlank zero k t₂) : PlaceBlank zero k t₃ := by
    unfold t₃
    split
    · exact h.blankPlace ..
    · exact h
  have h₄ {k : Nat} (h : PlaceBlank zero k t₃) :
      PlaceBlank zero k (match (if s.underTest n then s.bist.spare else none) with
        | some sp => blankPlace (n / 64) (64 + sp) zero t₃
        | none => t₃) := by
    split
    · exact h.blankPlace ..
    · exact h
  refine ⟨h₄ (h₃ (blankPlace_blank ..)), fun sp hu hs => ?_, fun k hk => h₄ (h₃ ((hk.of_words h₁).blankPlace ..))⟩
  rw [if_pos hu, hs]
  exact blankPlace_blank ..

/-- The place that serves reads of a bank's word is among those cleared or zeroed. -/
theorem blankBank_readPlace (n a : Nat) (zero : Bool) (s : State) :
    PlaceBlank zero (66 * (n / 64) + s.readPlace n a) (blankBank n zero s) := by
  obtain ⟨hp, hsp, -⟩ := blankBank_places n zero s
  have hsl : s.readPlace n a = s.placeOfBank n ∨ ∃ sp, s.underTest n = true ∧ s.bist.spare = some sp ∧ s.readPlace n a = 64 + sp := by
    unfold State.readPlace
    cases hx : s.sliceAt n a with
    | none => exact .inl rfl
    | some x =>
      unfold State.sliceAt at hx
      split at hx
      · next hu =>
        rw [Bool.and_eq_true] at hu
        split at hx
        · next sp ph hs _ =>
          cases hx
          cases ph with
          | copy => exact .inl rfl
          | test => exact .inr ⟨sp, hu.1, hs, rfl⟩
          | restore => exact .inr ⟨sp, hu.1, hs, rfl⟩
          | clear => exact .inl rfl
        · cases hx
      · cases hx
  obtain h | ⟨sp, hu, hs, h⟩ := hsl
  · rw [h]
    exact hp
  · rw [h]
    exact hsp sp hu hs

/-- What decides where a bank's words are read. -/
structure SamePlaces (s t : State) : Prop where
  spare : t.bist.spare = s.bist.spare
  phase : t.bist.phase = s.bist.phase
  slice : t.bist.slice = s.bist.slice
  target : t.rget .BIST_TARGET = s.rget .BIST_TARGET
  for0 : ∀ q, t.rget .SPARE0_FOR q = s.rget .SPARE0_FOR q
  for1 : ∀ q, t.rget .SPARE1_FOR q = s.rget .SPARE1_FOR q

theorem SamePlaces.trans {s t r : State} (h : SamePlaces s t) (h' : SamePlaces t r) : SamePlaces s r :=
  ⟨h'.spare.trans h.spare, h'.phase.trans h.phase, h'.slice.trans h.slice, h'.target.trans h.target,
    fun q => (h'.for0 q).trans (h.for0 q), fun q => (h'.for1 q).trans (h.for1 q)⟩

theorem SamePlaces.of_leaves {es : List El} {s t : State} (hb : t.bist = s.bist) (h : Leaves es s t)
    (he : ∀ e ∈ es, e ≠ .BIST_TARGET ∧ e ≠ .SPARE0_FOR ∧ e ≠ .SPARE1_FOR) : SamePlaces s t :=
  ⟨by rw [hb], by rw [hb], by rw [hb], h.rget _ (fun hm => (he _ hm).1 rfl) _, fun q => h.rget _ (fun hm => (he _ hm).2.1 rfl) q,
    fun q => h.rget _ (fun hm => (he _ hm).2.2 rfl) q⟩

theorem SamePlaces.readPlace {s t : State} (h : SamePlaces s t) (n a : Nat) : t.readPlace n a = s.readPlace n a := by
  have hp : t.placeOfBank n = s.placeOfBank n := by
    unfold State.placeOfBank
    dsimp only
    rw [h.for0, h.for1]
  have hs : t.sliceAt n a = s.sliceAt n a := by
    unfold State.sliceAt State.underTest
    rw [h.spare, h.phase, h.slice, h.target]
  unfold State.readPlace
  rw [hp, hs]

theorem blankBank_samePlaces (n : Nat) (zero : Bool) (s : State) : SamePlaces s (blankBank n zero s) := by
  obtain ⟨c, b, z, h⟩ := blankBank_frame n zero s
  rw [h]
  exact ⟨rfl, rfl, rfl, rfl, fun _ => rfl, fun _ => rfl⟩

/-- Several banks zeroed: each reads as zero, in whatever place serves it. -/
theorem foldl_blankBank {l : List Nat} (s : State) :
    SamePlaces s (l.foldl (fun t n => blankBank n true t) s) ∧ (l.foldl (fun t n => blankBank n true t) s).regs = s.regs ∧
      (∀ k, PlaceBlank true k s → PlaceBlank true k (l.foldl (fun t n => blankBank n true t) s)) ∧
      ∀ n ∈ l, ∀ a, PlaceBlank true (66 * (n / 64) + s.readPlace n a) (l.foldl (fun t n => blankBank n true t) s) := by
  induction l generalizing s with
  | nil => exact ⟨⟨rfl, rfl, rfl, rfl, fun _ => rfl, fun _ => rfl⟩, rfl, fun _ h => h, fun n hn => by cases hn⟩
  | cons m l ih =>
    obtain ⟨hs, hr, hk, hm⟩ := ih (blankBank m true s)
    have hsm := blankBank_samePlaces m true s
    have hrm : (blankBank m true s).regs = s.regs := by
      obtain ⟨c, b, z, h⟩ := blankBank_frame m true s
      rw [h]
    refine ⟨hsm.trans hs, hr.trans hrm, fun k h => hk k ((blankBank_places m true s).2.2 k h), fun n hn a => ?_⟩
    obtain rfl | hn := List.mem_cons.mp hn
    · exact hk _ (blankBank_readPlace ..)
    · rw [← hsm.readPlace]
      exact hm n hn a

/-! ### Banks handed over -/

/-- The slice under test. -/
def sliceState (s : State) : Option Nat × Option SlicePhase × Nat := (s.bist.spare, s.bist.phase, s.bist.slice)

theorem SamePlaces.of_sliceState {es : List El} {s t : State} (hb : sliceState t = sliceState s) (h : Leaves es s t)
    (he : ∀ e ∈ es, e ≠ .BIST_TARGET ∧ e ≠ .SPARE0_FOR ∧ e ≠ .SPARE1_FOR) : SamePlaces s t :=
  ⟨congrArg (·.1) hb, congrArg (·.2.1) hb, congrArg (·.2.2) hb, h.rget _ (fun hm => (he _ hm).1 rfl) _,
    fun q => h.rget _ (fun hm => (he _ hm).2.1 rfl) q, fun q => h.rget _ (fun hm => (he _ hm).2.2 rfl) q⟩

theorem denied_bist (n : Nat) (r : Requester) (s : State) : (denied n r s).bist = s.bist := by
  obtain ⟨g, c, k, h⟩ := raiseLimited_frame (s.rinc .DENIED n) 1000 (0x0501 * 2 ^ 16 + n) sevWarning 0x0501 n
    (leBytes 2 n ++ leBytes 1 (ownerOf r))
  rw [denied, h]
  rfl

theorem startHandover_sliceState (n v : Nat) (s : State) : sliceState (startHandover n v s) = sliceState s := by
  unfold startHandover
  extract_lets _ s₁ old b goes refusedOnes s₂ s₃
  have h : s₃.bist = s₂.bist := by
    refine foldl_keeps State.bist (fun t w => ?_) refusedOnes s₂
    obtain ⟨l, c, g, r, x, f, h⟩ := answerRequest_frame n w { tag := w.tag, data := 0, errc := 2, tstatus := 0 } t
    rw [denied_bist, h]
  show (s₃.bist.spare, s₃.bist.phase, s₃.bist.slice) = _
  rw [h]
  rfl

theorem foldl_startHandover {v n : Nat} {l : List Nat} {s : State} (h : n ∈ l ∨ s.rget .OWNER n = v ∧ s.rget .HANDOVER n = 1) :
    (l.foldl (fun t m => startHandover m v t) s).rget .OWNER n = v ∧ (l.foldl (fun t m => startHandover m v t) s).rget .HANDOVER n = 1 := by
  induction l generalizing s with
  | nil => exact h.resolve_left List.not_mem_nil
  | cons m l ih =>
    have hm := startHandover_handedOver m v s
    refine ih ?_
    by_cases he : n = m
    · subst he
      exact .inr ⟨hm.owner, hm.handover⟩
    · obtain ⟨ho, hh⟩ := hm.others n he
      obtain hn | ⟨h1, h2⟩ := h
      · exact .inl ((List.mem_cons.mp hn).resolve_left he)
      · exact .inr ⟨ho.trans h1, hh.trans h2⟩

theorem foldl_startHandover_leaves (v : Nat) (l : List Nat) (s : State) :
    Leaves [.REC_LOST, .DENIED, .OWNER, .HANDOVER] s (l.foldl (fun t m => startHandover m v t) s) :=
  .foldl (fun t m => (startHandover_handedOver m v t).regs) l s

/-! ### The Vault's own commands -/

theorem startWipe_spec {cause : Nat} {s : State} (h : s.rflag .VAULT_ENABLE = true ∨ cause = 5) :
    (startWipe cause s).rget .VAULT_STATE = 3 ∧ (startWipe cause s).rget .VAULT_ENABLE = s.rget .VAULT_ENABLE ∧
      (startWipe cause s).mem.wipeCause = cause := by
  unfold startWipe
  extract_lets s₁ s₂ _
  have h₂ : s₂.regs = s₁.regs := by
    unfold s₂
    split
    · rfl
    · refine foldl_keeps State.regs (fun t n => ?_) vaultBanks s₁
      obtain ⟨c, b, z, hb⟩ := blankBank_frame n false t
      rw [clearBank, hb]
  have hl : Leaves testEndEls s s₂ := (stopTest_leaves s).trans (.of_regs h₂)
  rw [if_pos (by obtain h | h := h <;> simp [h])]
  refine ⟨State.rget_rset_same s₂ .VAULT_STATE 0 3, ?_, rfl⟩
  show (s₂.rset .VAULT_STATE 0 3).rget .VAULT_ENABLE = _
  rw [State.rget_rset, if_neg (by simp), hl.rget _ (by decide)]

theorem finishWipe_spec {s : State} (h : s.rget .VAULT_STATE = 3) :
    (finishWipe s).rget .VAULT_STATE = (if s.rflag .VAULT_ENABLE then 1 else 0) ∧ (finishWipe s).rget .LAST_WIPE_CAUSE = s.mem.wipeCause ∧
      (finishWipe s).rget .WIPE_COUNT = Nat.min (s.rget .WIPE_COUNT + 1) (El.WIPE_COUNT.modulus - 1) ∧
      ∀ n ∈ vaultBanks, ∀ a, a < 32768 → (finishWipe s).cell n a = StoredWord.fresh 0 := by
  unfold finishWipe
  rw [if_pos h]
  extract_lets cause s₁ on s₂ s₃
  obtain ⟨hp₁, hr₁, -, hz₁⟩ : SamePlaces s s₁ ∧ s₁.regs = s.regs ∧ (∀ k, PlaceBlank true k s → PlaceBlank true k s₁) ∧
      ∀ n ∈ vaultBanks, ∀ a, PlaceBlank true (66 * (n / 64) + s.readPlace n a) s₁ := foldl_blankBank s
  clear_value s₁
  have hon : on = s.rflag .VAULT_ENABLE := by unfold on State.rflag State.rget; rw [hr₁]
  have h₂ : Leaves [.VAULT_STATE, .WIPE_COUNT, .LAST_WIPE_CAUSE] s₁ s₂ :=
    ((Leaves.rset (by decide) ..).trans (.rinc (by decide) ..)).trans (.rset (by decide) ..)
  have h₃ : Leaves [.REC_LOST, .DENIED, .OWNER, .HANDOVER] s₂ s₃ := .ite (.refl _) (foldl_startHandover_leaves ..)
  have h₄ : Leaves [.REC_LOST, .DENIED, .OWNER, .HANDOVER] s₂ (s₃.raise sevWarning 0x0603 0x080 (leBytes 1 cause)) :=
    h₃.trans (.raise (by decide) ..)
  have hw : (s₃.raise sevWarning 0x0603 0x080 (leBytes 1 cause)).words = s₁.words := by
    rw [State.raise_words]
    unfold s₃
    split
    · rfl
    · rw [foldl_words fun t n => startHandover_words ..]
      rfl
  have hb : sliceState (s₃.raise sevWarning 0x0603 0x080 (leBytes 1 cause)) = sliceState s₁ := by
    rw [sliceState, raise_bist]
    show sliceState s₃ = _
    unfold s₃
    split
    · rfl
    · exact foldl_keeps sliceState (fun t n => startHandover_sliceState ..) vaultBanks s₂
  have hp : SamePlaces s (s₃.raise sevWarning 0x0603 0x080 (leBytes 1 cause)) := by
    refine hp₁.trans (.of_sliceState hb (es := [.VAULT_STATE, .WIPE_COUNT, .LAST_WIPE_CAUSE, .REC_LOST, .DENIED, .OWNER, .HANDOVER]) ?_ (by decide))
    exact (h₂.mono (by decide)).trans (h₄.mono (by decide))
  have hcount : s₁.rget .WIPE_COUNT = s.rget .WIPE_COUNT := by unfold State.rget; rw [hr₁]
  refine ⟨?_, ?_, ?_, fun n hn a ha => ?_⟩
  · rw [h₄.rget _ (by decide), ← hon]
    simp [s₂, State.rget_rset, State.rget_rinc]
  · rw [h₄.rget _ (by decide)]
    exact State.rget_rset_same ..
  · rw [h₄.rget _ (by decide), ← hcount]
    simp [s₂, State.rget_rset, State.rget_rinc]
  · rw [State.cell, hp.readPlace]
    exact ((hz₁ n hn a).of_words hw).cellAt ha

/-- Settles O21: VAULT_ENABLE through the keeper, the wipe by the places that it zeroes. -/
theorem vaultGuards : Obligations.VaultGuards := by
  unfold Obligations.VaultGuards
  refine ⟨fun w v s ha hf hw => ⟨fun hv he hb => ?_, fun hv he => ?_, fun hv he h3 hb => ?_⟩, fun w v s ha hv => ?_,
    fun w v s ha => ⟨fun hw => ?_, fun hw h => ?_, fun hw hv h1 ht hb => ?_⟩, fun w v s ha => ⟨fun hv => ?_, fun hv he => ?_⟩,
    fun s h => ⟨_, rfl, finishWipe_spec h⟩⟩
  · refine write_refused (h := hVaultEnable) ha rfl rfl ?_ (by decide)
    exact (if_pos hv).trans ((if_neg (by simp [he])).trans (if_pos hb))
  · obtain ⟨t, ht, hr, ho, hl⟩ := keepValue_of_sound (e := .VAULT_ENABLE) (u := 0) (v := 0) hf hw
    have hact : hVaultEnable.act v s = .ok (startWipe 5 t) := (if_neg (by simp [hv])).trans ((if_pos he).trans (by rw [ht]))
    obtain ⟨h1, h2, h3⟩ := startWipe_spec (cause := 5) (s := t) (.inr rfl)
    exact ⟨_, write_performed (h := hVaultEnable) ha rfl rfl hact, h1, h2.trans hr, h3⟩
  · obtain ⟨t, ht, hr, ho, hl⟩ := keepValue_of_sound (e := .VAULT_ENABLE) (u := 0) (v := 1) hf hw
    have hact : hVaultEnable.act v s = .ok ((vaultBanks.foldl (fun t n => startHandover n 0x84 t) t).rset .VAULT_STATE 0 1) := by
      refine (if_pos hv).trans ((if_neg (by simp [he])).trans ((if_neg (by simp [hb])).trans ?_))
      rw [ht]
      exact if_neg (by rwa [hl.rget _ (by decide)])
    refine ⟨_, write_performed (h := hVaultEnable) ha rfl rfl hact, State.rget_rset_same .., ?_, fun n hn => ⟨?_, ?_⟩⟩
    · rw [State.rget_rset, if_neg (by simp), (foldl_startHandover_leaves ..).rget _ (by decide), hr]
    · rw [State.rget_rset, if_neg (by simp)]
      exact (foldl_startHandover (.inl hn)).1
    · rw [State.rget_rset, if_neg (by simp)]
      exact (foldl_startHandover (.inl hn)).2
  · refine write_performed (h := hVaultLock) ha rfl rfl (congrArg Except.ok ?_)
    rw [hv]
    simp
  · exact write_notAllowed (h := hVaultUnlock) ha (by simpa [hVaultUnlock] using hw)
  · refine write_refused (h := hVaultUnlock) ha (by simp [hVaultUnlock, hw]) rfl (if_pos ?_) (by decide)
    simpa using h
  · refine write_performed (h := hVaultUnlock) ha (by simp [hVaultUnlock, hw]) rfl ?_
    exact (if_neg (by simp [h1, ht])).trans ((if_neg (by simp [hv, h1])).trans (if_neg (by simp [hb])))
  · exact write_performed (h := hVaultWipe) ha rfl rfl (congrArg Except.ok (if_neg (by simp [hv])))
  · obtain ⟨h1, -, h3⟩ := startWipe_spec (cause := 4) (s := s) (.inl he)
    exact ⟨_, write_performed (h := hVaultWipe) ha rfl rfl (congrArg Except.ok (if_pos hv)), h1, h3⟩

end Sys2Proof.Machine
end

section

/-! # Memory integrity, the scrubber and spares (O22, O23) -/

namespace Sys2Proof.Machine

open Sys2Proof.Safety

/-! ### The end of an invalidation -/

theorem startHandover_back (n v : Nat) (s : State) : (startHandover n v s).bist.back = mdel s.bist.back n := by
  unfold startHandover
  extract_lets _ s₁ old b goes refusedOnes s₂ s₃
  have h : s₃.bist = s₂.bist := by
    refine foldl_keeps State.bist (fun t w => ?_) refusedOnes s₂
    obtain ⟨l, c, g, r, x, f, h⟩ := answerRequest_frame n w { tag := w.tag, data := 0, errc := 2, tstatus := 0 } t
    rw [denied_bist, h]
  show s₃.bist.back = _
  rw [h]
  rfl

theorem blankBank_waiting (n : Nat) (zero : Bool) (s : State) : ((blankBank n zero s).bank n).waiting = (s.bank n).waiting := by
  unfold blankBank
  extract_lets _ t₁ t₂ t₃
  have h₁ : (t₁.bank n).waiting = (s.bank n).waiting := by
    unfold t₁
    split
    · rfl
    · rw [bank_setBank]
  have h₂ : t₂.banks = t₁.banks := rfl
  have h₃ : t₃.banks = t₁.banks := by
    unfold t₃
    split
    · exact h₂
    · exact h₂
  split
  · exact (congrArg BankPort.waiting (bank_congr h₃ n)).trans h₁
  · exact (congrArg BankPort.waiting (bank_congr h₃ n)).trans h₁

theorem clearBank_regs (n : Nat) (s : State) : (clearBank n s).regs = s.regs := by
  obtain ⟨c, b, z, h⟩ := blankBank_frame n false s
  rw [clearBank, h]

theorem clearBank_bist (n : Nat) (s : State) : (clearBank n s).bist = s.bist := by
  obtain ⟨c, b, z, h⟩ := blankBank_frame n false s
  rw [clearBank, h]

/-- A bank cleared reads as INVALID in a state that reads its words in the same places and kept the words. -/
theorem cell_of_cleared {n a : Nat} {s t : State} (hw : t.words = (clearBank n s).words) (hp : SamePlaces s t) (ha : a < 32768) :
    t.cell n a = StoredWord.invalid := by
  rw [State.cell, hp.readPlace]
  exact ((blankBank_readPlace n a false s).of_words hw).cellAt ha

theorem endInvalidation_of_none {n : Nat} {s : State} (h : s.rget .INV_STATE n = 1) (hb : mfind s.bist.back n = none) :
    endInvalidation n s = (clearBank n s).rset .INV_STATE n 0 := by
  unfold endInvalidation
  rw [if_pos h]
  extract_lets t
  have ht : t.bist = s.bist := clearBank_bist n s
  rw [ht, hb]

theorem endInvalidation_of_back {n o : Nat} {s : State} (h : s.rget .INV_STATE n = 1) (hb : mfind s.bist.back n = some o) :
    endInvalidation n s = startHandover n o ((clearBank n s).rset .INV_STATE n 0) := by
  unfold endInvalidation
  rw [if_pos h]
  extract_lets t
  have ht : t.bist = s.bist := clearBank_bist n s
  rw [ht, hb]

theorem endInvalidation_spec {n : Nat} {s : State} (h : s.rget .INV_STATE n = 1) :
    (endInvalidation n s).rget .INV_STATE n = 0 ∧ (∀ a, a < 32768 → (endInvalidation n s).cell n a = StoredWord.invalid) ∧
      (mfind s.bist.back n = none → ((endInvalidation n s).bank n).waiting = (s.bank n).waiting ∧
        { endInvalidation n s with cells := s.cells, regs := s.regs, banks := s.banks, mem := { (endInvalidation n s).mem with
          zeroed := s.mem.zeroed } } = s) ∧
      ∀ o, mfind s.bist.back n = some o → (endInvalidation n s).rget .OWNER n = o ∧ (endInvalidation n s).rget .HANDOVER n = 1 ∧
        mfind (endInvalidation n s).bist.back n = none := by
  have hp : SamePlaces s ((clearBank n s).rset .INV_STATE n 0) :=
    (blankBank_samePlaces n false s).trans (.of_leaves rfl (.rset List.mem_cons_self ..) (es := [.INV_STATE]) (by decide))
  have hinv : ((clearBank n s).rset .INV_STATE n 0).rget .INV_STATE n = 0 := State.rget_rset_same ..
  cases hx : mfind s.bist.back n with
  | none =>
    rw [endInvalidation_of_none h hx]
    refine ⟨hinv, fun a ha => cell_of_cleared rfl hp ha, fun _ => ⟨blankBank_waiting n false s, ?_⟩, fun o ho => by cases ho⟩
    obtain ⟨c, b, z, hf⟩ := blankBank_frame n false s
    rw [clearBank, hf]
    rfl
  | some o =>
    rw [endInvalidation_of_back h hx]
    have ho := startHandover_handedOver n o ((clearBank n s).rset .INV_STATE n 0)
    refine ⟨(ho.regs.rget _ (by decide) _).trans hinv,
      fun a ha => cell_of_cleared (startHandover_words ..) (hp.trans (.of_sliceState (startHandover_sliceState ..) ho.regs (by decide))) ha,
      fun h => (nomatch h), fun o' ho' => ?_⟩
    cases ho'
    refine ⟨ho.owner, ho.handover, ?_⟩
    rw [startHandover_back]
    exact mfind_mdel_same ..

/-- Settles O22: INVALIDATE_DONE by `endInvalidation`, the writes by their handlers. -/
theorem memoryIntegrityWrites : Obligations.MemoryIntegrityWrites := by
  unfold Obligations.MemoryIntegrityWrites
  refine ⟨fun w v s ha hv => ⟨fun hm => ?_, fun hm => ?_⟩, fun n s h => ⟨_, rfl, endInvalidation_spec h⟩, fun n s h => ?_,
    fun w v s ha => ?_, fun w v s ha => write_store ha, fun w v s hv hf => ⟨fun ha => ?_, fun ha => ?_⟩,
    fun w v s ha hv hf hany hlen i hi => ?_, fun w v s ha hv hf p hp hu => ?_, fun w v s ha hv hvb hne => ⟨fun h1 => ?_, fun h1 => ?_⟩⟩
  · exact write_refused (h := hInvalidate) ha rfl rfl ((if_neg hv).trans (if_pos hm)) (by decide)
  · exact write_performed (h := hInvalidate) ha rfl rfl ((if_neg hv).trans (if_neg (by simp [hm])))
  · exact congrArg Host.Outcome.next (if_neg h)
  · exact ⟨_, write_performed (h := hLbLeak) ha rfl rfl rfl, State.rget_rset_same .., fun k hk => mfind_rset_other _ _ hk, rfl⟩
  · exact write_refused (h := hRtRetire) ha rfl (Nat.ble_eq ▸ hv) (if_pos (if_pos hf)) (by decide)
  · exact write_refused (h := hRtUnretire) ha rfl (Nat.ble_eq ▸ hv) (if_pos (if_pos hf)) (by decide)
  · have hst : s.retirementState ≠ 1 := by rw [State.retirementState, if_neg (by simp [hf])]; decide
    have hact : hRtRetire.act v s = .ok (changeSlot i v s) := by
      refine (if_neg hst).trans ((if_neg (by simp [hany])).trans ((if_neg ?_).trans ?_))
      · rw [Nat.ble_eq]
        exact Nat.not_le.mpr hlen
      · rw [hi]
    exact ⟨_, write_performed (h := hRtRetire) ha rfl (Nat.ble_eq ▸ hv) hact, rfl, rfl, rfl, rfl⟩
  · have hst : s.retirementState ≠ 1 := by rw [State.retirementState, if_neg (by simp [hf])]; decide
    have hact : hRtUnretire.act v s = .ok (changeSlot p.1 0xFFFFFFFF s) := by
      refine (if_neg hst).trans ?_
      rw [hp]
      exact if_pos hu
    exact ⟨_, write_performed (h := hRtUnretire) ha rfl (Nat.ble_eq ▸ hv) hact, rfl, rfl, rfl, rfl⟩
  · have hal : hFlipArm.allow w v s = true := by simp [hFlipArm, hvb]
    have hr : hFlipArm.range v s = true := by obtain h | h := hne <;> simp [hFlipArm, h]
    exact write_refused (h := hFlipArm) ha hal hr ((if_neg hv).trans (if_pos h1)) (by decide)
  · have hal : hFlipArm.allow w v s = true := by simp [hFlipArm, hvb]
    have hr : hFlipArm.range v s = true := by obtain h | h := hne <;> simp [hFlipArm, h]
    exact ⟨_, write_performed (h := hFlipArm) ha hal hr ((if_neg hv).trans (if_neg h1)), State.rget_rset_same .., rfl,
      fun k hk => mfind_rset_other _ _ hk, rfl⟩

/-! ### The scrubber -/

theorem engineTurn_of_none {n : Nat} {r : Requester} {cls : Nat} {s : State} (h : (s.bank n).waiting = []) : engineTurn n r cls s = s :=
  if_pos h

/-- A word that is clean, or was never written, is left as it stands. -/
theorem scrubWord_of_clean {n a : Nat} {ue : Bool} {s : State} (hv : (s.cell n a).validDisagrees = false)
    (hr : (s.cell n a).read = .invalid ∨ ∃ d, (s.cell n a).read = .clean d) : scrubWord n a true ue s = s := by
  unfold scrubWord
  extract_lets w s₁
  have h₁ : s₁ = s := if_neg (by rw [show w.validDisagrees = false from hv]; simp)
  obtain hr | ⟨d, hr⟩ := hr
  · rw [show w.read = .invalid from hr]
    exact h₁
  · rw [show w.read = .clean d from hr]
    exact h₁

theorem nextRow_of_inner {q : Nat} {s : State} (h : mget s.mem.places q 0 + 1 ≠ passRows) :
    nextRow q s = { s with mem := { s.mem with places := mset s.mem.places q ((mget s.mem.places q 0 + 1) % passRows) 0 } } :=
  if_neg h

/-- A word of the repair list that reads corrected is stored anew, and its entry leaves the list. -/
theorem serveRepair_of_corrected {q k y : Nat} {d : BitVec 64} {s : State} (hw : (s.bank (64 * q + k / 32768)).waiting = [])
    (hr : (s.cell (64 * q + k / 32768) (k % 32768)).read = .corrected y d) :
    serveRepair q (k, false) s =
      (setRepairs q ((mget s.mem.repairs q []).filter (fun e => e.1 != k)) s).setCell (64 * q + k / 32768) (k % 32768) (StoredWord.fresh d) := by
  unfold serveRepair
  extract_lets s₁ n
  have he : engineTurn n .scrubber 3 s₁ = s₁ := engineTurn_of_none hw
  rw [he]
  unfold scrubWord
  extract_lets w s₂
  rw [show w.read = .corrected y d from hr]
  have h₂ : s₂ = s₁ := if_neg (by simp)
  dsimp only
  rw [h₂, if_neg (by simp)]

/-! ### Spares -/

theorem startMove_spec (q b i : Nat) (back : Bool) (s : State) : (startMove q b i back s).rget .SUB_STATE q = 1 ∧
    (startMove q b i back s).rget .SUB_COPY_UE q = 0 ∧ mfind (startMove q b i back s).mem.moves q = some { bank := b, spare := i, back } ∧
    { startMove q b i back s with regs := s.regs, mem := s.mem } = s := by
  unfold startMove
  refine ⟨?_, State.rget_rset_same .., mfind_mput_same .., rfl⟩
  dsimp only
  rw [State.rget_rset, if_neg (by simp), State.rget_rset_same]

theorem keepSpares_keeper (q : Nat) (s : State) : OnlyKeeper s (keepSpares q s) ∧ Leaves keeperEls s (keepSpares q s) := by
  unfold keepSpares
  extract_lets h
  split
  · exact ⟨.refl s, .refl s⟩
  · exact ⟨writeSector_onlyKeeper .., writeSector_leaves ..⟩

theorem dropRetired_spec (n : Nat) (s : State) : (dropRetired n s).mem.moves = s.mem.moves ∧ Leaves [.RT_COUNT] s (dropRetired n s) := by
  unfold dropRetired
  extract_lets mine s₁ left _
  have hm : s₁.mem.moves = s.mem.moves := foldl_keeps (f := fun t (p : Nat × Nat) => changeSlot p.1 0xFFFFFFFF t) (fun t : State => t.mem.moves) (fun t p => rfl) mine s
  have hr : s₁.regs = s.regs := foldl_keeps (f := fun t (p : Nat × Nat) => changeSlot p.1 0xFFFFFFFF t) State.regs (fun t p => rfl) mine s
  exact ⟨hm, Leaves.trans (t := { s₁ with mem := { s₁.mem with retired := left } }) (.of_regs hr) (.rset (by decide) ..)⟩

/-- At the end of a move forward its Quarter has no move, and the spare stands for the bank. -/
theorem execSubstituteCopyDone_of_move {q : Nat} {m : Move} {s : State} (hm : mfind s.mem.moves q = some m) (hp : s.bist.phase = none)
    (hb : m.back = false) :
    ∃ t, execSubstituteCopyDone q s = .next t ∧ mfind t.mem.moves q = none ∧ t.rget .SUB_STATE q = 0 ∧
      t.rget (if m.spare = 0 then .SPARE0_FOR else .SPARE1_FOR) q = m.bank := by
  unfold execSubstituteCopyDone
  split
  · next h =>
    rw [hm] at h
    cases h
  · next m' h =>
    rw [hm] at h
    cases h
    extract_lets n src c _ _ s₁ s₂ s₃ s₄
    obtain ⟨hmv, hl⟩ := dropRetired_spec n (keepSpares q ((s₃.rset .SUB_STATE q 0).rset .SUB_COPY_UE q c.2))
    obtain ⟨⟨g, r, k, i, ho⟩, hk⟩ := keepSpares_keeper q ((s₃.rset .SUB_STATE q 0).rset .SUB_COPY_UE q c.2)
    have hl₄ : Leaves (.RT_COUNT :: keeperEls) ((s₃.rset .SUB_STATE q 0).rset .SUB_COPY_UE q c.2) s₄ :=
      (hk.mono (List.subset_cons_self ..)).trans (hl.mono (by decide : [El.RT_COUNT] ⊆ .RT_COUNT :: keeperEls))
    have hm₄ : s₄.mem.moves = s₃.mem.moves := hmv.trans (by rw [ho]; rfl)
    have hm₂ : s₂.mem = s₁.mem := by
      unfold s₂
      split
      · rfl
      · split <;> rfl
    have hs₃ : s₃ = s₂.rset (if m.spare = 0 then .SPARE0_FOR else .SPARE1_FOR) q m.bank := if_neg (by simp [hb])
    have hspare : (if m.spare = 0 then El.SPARE0_FOR else El.SPARE1_FOR) ∉ [El.RT_COUNT] ++ keeperEls ∧
        (if m.spare = 0 then El.SPARE0_FOR else El.SPARE1_FOR) ≠ .REC_LOST ∧
        (if m.spare = 0 then El.SPARE0_FOR else El.SPARE1_FOR) ≠ .SUB_STATE ∧
        (if m.spare = 0 then El.SPARE0_FOR else El.SPARE1_FOR) ≠ .SUB_COPY_UE := by
      split
      · decide
      · decide
    obtain ⟨hsp, hrl, hss, hsc⟩ := hspare
    rw [if_neg (by simp [hp])]
    refine ⟨_, rfl, ?_, ?_, ?_⟩
    · rw [raise_mem, hm₄, hs₃]
      show mfind s₂.mem.moves q = none
      rw [hm₂]
      exact mfind_mdel_same ..
    · rw [raise_rget _ _ _ _ _ _ (by decide), hl₄.rget _ (by decide), State.rget_rset, if_neg (by simp), State.rget_rset_same]
    · rw [raise_rget _ _ _ _ _ _ hrl, hl₄.rget _ hsp, State.rget_rset, if_neg (by simp [hsc]), State.rget_rset, if_neg (by simp [hss]),
        hs₃, State.rget_rset_same]

/-- Settles O23: the scrubber by what it makes of a word, moves by `startMove` and their end. -/
theorem scrubAndSpares : Obligations.ScrubAndSpares := by
  unfold Obligations.ScrubAndSpares
  refine ⟨fun q s => ?_, fun q k s hsc hs hw y d hr i hi => ?_, fun w q b s ha => ⟨fun h => ?_, fun i hi hm hu => ?_⟩, fun w q v s ha => ?_,
    fun q m s hm hp hb _ => execSubstituteCopyDone_of_move hm hp hb⟩
  · extract_lets p n
    intro hsc hsv hinv hp hw
    have he : exec (.scrubRowRead q) s = .next (scrubRow q s) := by
      show execScrubRowRead q s = _
      rw [execScrubRowRead, if_neg (by simp [hsc]), hsv]
    refine ⟨fun haw hst hcl => ?_, fun haw => ?_⟩
    · have hrow : scrubRow q s = nextRow q s := by
        unfold scrubRow
        extract_lets row
        obtain ⟨hv1, hr1⟩ := hcl (2 * row) (by simp [row])
        obtain ⟨hv2, hr2⟩ := hcl (2 * row + 1) (by simp [row])
        rw [if_neg hinv, if_neg (by simp only [Bool.or_eq_true, Bool.not_eq_true', not_or, Bool.not_eq_false, Bool.not_eq_true]; exact ⟨haw, hst⟩),
          engineTurn_of_none hw, scrubWord_of_clean (n := n) hv1 hr1, scrubWord_of_clean (n := n) hv2 hr2]
      refine ⟨_, he.trans (congrArg _ (hrow.trans (nextRow_of_inner hp))), mget_mset_same .., rfl⟩
    · have hrow : scrubRow q s = nextRow q (s.rinc .SCRUB_SKIPPED) := by
        unfold scrubRow
        extract_lets row
        rw [if_neg hinv, if_pos]
        rw [Bool.or_eq_true]
        exact .inl (by rw [show s.isAwake n = false from haw]; rfl)
      refine ⟨_, he.trans (congrArg _ (hrow.trans (nextRow_of_inner (s := s.rinc .SCRUB_SKIPPED) hp))), mget_mset_same .., ?_, rfl⟩
      exact State.rget_rset_same ..
  · have he : exec i s = .next (serveRepair q (k, false) s) := by
      rw [List.mem_cons, List.mem_singleton] at hi
      obtain rfl | rfl := hi
      · show execRepairListServe q s = _
        rw [execRepairListServe, if_pos hsc, hs]
      · show execScrubRowRead q s = _
        rw [execScrubRowRead, if_neg (by simp [hsc]), hs]
    rw [serveRepair_of_corrected hw hr] at he
    obtain ⟨c, hc⟩ := setCell_frame (setRepairs q ((mget s.mem.repairs q []).filter (fun e => e.1 != k)) s) (64 * q + k / 32768) (k % 32768)
      (StoredWord.fresh d)
    refine ⟨_, he, ?_, cell_setCell .., ?_⟩
    · rw [hc]
      exact mget_mset_same ..
    · rw [hc]
      rfl
  · have hs : s.substitute q b = none := by
      unfold State.substitute
      obtain h | h := h
      · rw [h]
      · split
        · exact if_pos h
        · rfl
    exact write_refused (h := hSubstitute q) ha rfl rfl (by simp [hSubstitute, Handler.doing, hs]) (by decide)
  · have hs : s.substitute q b = some (startMove q b i false s) := by
      unfold State.substitute
      rw [hi]
      exact if_neg (by simp [hm])
    exact ⟨_, write_performed (h := hSubstitute q) (t := startMove q b i false s) ha rfl rfl (by simp [hSubstitute, Handler.doing, hs, hu]),
      startMove_spec ..⟩
  · extract_lets b
    intro hb hm
    exact ⟨_, write_performed (h := hUnsubstitute q) (t := startMove q b v true s) ha rfl rfl (if_neg (by
      rw [Bool.or_eq_true, decide_eq_true_eq, not_or]
      exact ⟨hb, by rw [hm]; simp⟩)), startMove_spec ..⟩

end Sys2Proof.Machine
end

section

/-! # Accesses of banks: what they leave

A bank access, of a waiting request or of an engine, touches the memory, the buses and what reports its events, and nothing
of the units behind them. -/

namespace Sys2Proof.Machine

open Sys2Proof.Safety

/-- The registers that an access of a bank may touch. -/
def accessEls : List El :=
  [.REC_LOST, .DENIED, .C0_ASLEEP, .FLIP_STATE, .FLIP_ADDR, .FLIP_DATA, .FLIP_CHECK, .CE_COUNT, .CE_LAST, .LB_LEVEL, .LB_OVERFLOWS,
    .UE_COUNT, .UE_LAST, .POISON_READS, .POISON_WRITTEN, .REPAIR_DROPPED, .AGED, .POWER_STATE, .WAKE_ON_ACCESS]

/-- What accesses of banks may make of a state. -/
structure Accessed (s t : State) : Prop where
  frame : ∃ c b l x g r n f u m d i o, t = { s with
    cells := c, banks := b, lanes := l, fixed := x, regs := g, recorder := r, noted := n, fv := f, run := u, mem := m, dists := d
    bist := { s.bist with failStatus := i }, core := o }
  regs : Leaves accessEls s t

namespace Accessed

theorem refl (s : State) : Accessed s s := ⟨⟨_, _, _, _, _, _, _, _, _, _, _, _, _, rfl⟩, .refl s⟩

theorem trans {s t r : State} (h : Accessed s t) (h' : Accessed t r) : Accessed s r := by
  refine ⟨?_, h.regs.trans h'.regs⟩
  obtain ⟨⟨c, b, l, x, g, r, n, f, u, m, d, i, o, rfl⟩, -⟩ := h
  obtain ⟨⟨c, b, l, x, g, r, n, f, u, m, d, i, o, rfl⟩, -⟩ := h'
  exact ⟨_, _, _, _, _, _, _, _, _, _, _, _, _, rfl⟩

theorem rset {e : El} (he : e ∈ accessEls) (s : State) (u v : Nat) : Accessed s (s.rset e u v) :=
  ⟨⟨_, _, _, _, _, _, _, _, _, _, _, _, _, rfl⟩, .rset he ..⟩

theorem rinc {e : El} (he : e ∈ accessEls) (s : State) (u : Nat) : Accessed s (s.rinc e u) := rset he ..

theorem raise (s : State) (v c u : Nat) (d : Bytes) : Accessed s (s.raise v c u d) := by
  refine ⟨?_, .raise (by decide) ..⟩
  obtain ⟨g, r, h⟩ := raise_frame s v c u d
  exact ⟨_, _, _, _, _, _, _, _, _, _, _, _, _, h⟩

theorem raiseLimited (s : State) (p k v c u : Nat) (d : Bytes) : Accessed s (s.raiseLimited p k v c u d) := by
  refine ⟨?_, (raiseLimited_leaves ..).mono (by decide)⟩
  obtain ⟨g, r, k, h⟩ := raiseLimited_frame s p k v c u d
  exact ⟨_, _, _, _, _, _, _, _, _, _, _, _, _, h⟩

theorem setBank (s : State) (n : Nat) (b : BankPort) : Accessed s (s.setBank n b) :=
  ⟨⟨_, _, _, _, _, _, _, _, _, _, _, _, _, rfl⟩, .of_regs rfl⟩

theorem draw (s : State) : Accessed s s.draw.2 := ⟨⟨_, _, _, _, _, _, _, _, _, _, _, _, _, rfl⟩, .of_regs rfl⟩

theorem setCell (s : State) (n a : Nat) (w : StoredWord) : Accessed s (s.setCell n a w) := by
  obtain ⟨c, h⟩ := setCell_frame s n a w
  rw [h]
  exact ⟨⟨_, _, _, _, _, _, _, _, _, _, _, _, _, rfl⟩, .of_regs rfl⟩

theorem mem (s : State) (m : MemoryEngines) : Accessed s { s with mem := m } :=
  ⟨⟨_, _, _, _, _, _, _, _, _, _, _, _, _, rfl⟩, .of_regs rfl⟩

theorem ite {c : Prop} [Decidable c] {s t r : State} (ht : Accessed s t) (hr : Accessed s r) : Accessed s (if c then t else r) := by
  split
  · exact ht
  · exact hr

theorem foldl {α : Type} {f : State → α → State} (hf : ∀ t a, Accessed t (f t a)) (l : List α) (s : State) : Accessed s (l.foldl f s) := by
  induction l generalizing s with
  | nil => exact refl s
  | cons a l ih => exact (hf s a).trans (ih _)

end Accessed

/-! ### Answers and refusals -/

theorem answerRequest_accessed (n : Nat) (w : Waiting) (a : Answer) (s : State) : Accessed s (answerRequest n w a s) := by
  refine ⟨?_, (answerRequest_leaves ..).mono (by decide)⟩
  obtain ⟨l, b, g, r, x, f, h⟩ := answerRequest_frame n w a s
  exact ⟨_, _, _, _, _, _, _, _, _, _, _, _, _, h⟩

theorem denied_accessed (n : Nat) (r : Requester) (s : State) : Accessed s (denied n r s) :=
  (Accessed.rinc (by decide) ..).trans (.raiseLimited ..)

/-! ### Words read and written -/

theorem ownerInterrupt_accessed (n cause : Nat) (s : State) : Accessed s (ownerInterrupt n cause s) := by
  unfold ownerInterrupt
  extract_lets o
  split
  · exact ⟨⟨_, _, _, _, _, _, _, _, _, _, _, _, _, rfl⟩, .of_regs rfl⟩
  · split
    · exact ⟨⟨_, _, _, _, _, _, _, _, _, _, _, _, _, rfl⟩, .of_regs rfl⟩
    · split
      · split
        · exact ⟨⟨_, _, _, _, _, _, _, _, _, _, _, _, _, rfl⟩, .of_regs rfl⟩
        · exact ⟨⟨_, _, _, _, _, _, _, _, _, _, _, _, _, rfl⟩, .of_regs rfl⟩
      · exact .refl s

theorem correctable_accessed (n a syn : Nat) (s : State) : Accessed s (correctable n a syn s) := by
  unfold correctable
  extract_lets s₁ level
  have h₁ : Accessed s s₁ := (Accessed.rinc (by decide) ..).trans (.rset (by decide) ..)
  exact .ite (h₁.trans ((Accessed.rinc (by decide) ..).trans ((ownerInterrupt_accessed ..).trans ((Accessed.raise ..).trans (.rset (by decide) ..)))))
    (h₁.trans (.rset (by decide) ..))

theorem listRepair_accessed (n a : Nat) (ue : Bool) (s : State) : Accessed s (listRepair n a ue s) := by
  unfold listRepair
  extract_lets q k l
  exact .ite (.mem ..) (.ite (.rinc (by decide) ..) (.mem ..))

theorem uncorrectable_accessed (n a i r : Nat) (s : State) : Accessed s (uncorrectable n a i r s) :=
  ((Accessed.rinc (by decide) ..).trans (.rset (by decide) ..)).trans ((ownerInterrupt_accessed ..).trans (.raise ..))

theorem readStored_accessed (w : StoredWord) (n a i r : Nat) (s : State) : Accessed s (readStored w n a i r s).2 := by
  unfold readStored
  extract_lets s₁
  have h₁ : Accessed s s₁ := .ite ((correctable_accessed ..).trans (listRepair_accessed ..)) (.refl s)
  split
  · exact h₁.trans ((correctable_accessed ..).trans (listRepair_accessed ..))
  · exact h₁.trans ((uncorrectable_accessed ..).trans (listRepair_accessed ..))
  · exact h₁.trans (.rinc (by decide) ..)
  · exact h₁
  · exact h₁

theorem foundWords_accessed (n row : Nat) (cycle : Option Nat) (s : State) : Accessed s (foundWords n row cycle s).2 := by
  unfold foundWords
  induction (s.bank n).prior with
  | nil => exact .refl s
  | cons p l ih =>
    rw [List.foldr_cons]
    split
    · exact ih
    · split
      · exact ih
      · exact ih
      · split
        · exact ih.trans (.draw _)
        · exact ih.trans (.draw _)

theorem readRowAs_accessed (w0 w1 : StoredWord) (n row i r : Nat) (s : State) : Accessed s (readRowAs w0 w1 n row i r s).2 :=
  (readStored_accessed ..).trans (readStored_accessed ..)

theorem readWord_accessed (n a i r : Nat) (s : State) : Accessed s (readWord n a i r s).2 :=
  (foundWords_accessed ..).trans (readStored_accessed ..)

theorem flipWord_accessed (n a : Nat) (w : StoredWord) (s : State) : Accessed s (flipWord n a w s) := by
  unfold flipWord
  split
  · split
    · extract_lets _ s₁ w'
      have h₁ : Accessed s s₁ := .mem ..
      exact h₁.trans ((Accessed.setCell ..).trans ((Accessed.rset (by decide) ..).trans ((Accessed.rset (by decide) ..).trans
        ((Accessed.rset (by decide) ..).trans ((Accessed.rset (by decide) ..).trans (.raise ..))))))
    · exact .setCell ..
  · exact .setCell ..

theorem writeWord_accessed (n a i r : Nat) (d : BitVec 64) (be : Nat) (s : State) : Accessed s (writeWord n a i r d be s).2 := by
  unfold writeWord
  split
  · exact .refl s
  · split
    · exact flipWord_accessed ..
    · extract_lets w s₁
      have h₁ : Accessed s s₁ := .ite (correctable_accessed ..) (.refl s)
      split
      · exact h₁.trans (flipWord_accessed ..)
      · exact h₁.trans (flipWord_accessed ..)
      · exact h₁.trans ((correctable_accessed ..).trans (flipWord_accessed ..))
      · exact h₁.trans ((uncorrectable_accessed ..).trans ((listRepair_accessed ..).trans ((Accessed.rinc (by decide) ..).trans
          (flipWord_accessed ..))))
      · exact h₁.trans (flipWord_accessed ..)

theorem writeRow_accessed (n row i r : Nat) (d : BitVec 128) (be : Nat) (s : State) : Accessed s (writeRow n row i r d be s).2 :=
  (writeWord_accessed ..).trans (writeWord_accessed ..)

theorem plazaWriteRow_accessed (n row i r : Nat) (d : BitVec 128) (be : Nat) (s : State) : Accessed s (plazaWriteRow n row i r d be s).2 :=
  Accessed.trans (t := overlayPrior n row d be s) (.setBank ..) (writeRow_accessed ..)

/-! ### Requests performed, and engines' turns -/

theorem perform_accessed (n : Nat) (cycle : Option Nat) (w : Waiting) (s : State) : Accessed s (perform n cycle w s) := by
  unfold perform
  extract_lets ix d be r f r'
  have hr : Accessed s r.2 := by
    unfold r
    split
    · exact Accessed.trans (t := keepPrior n w.req.row cycle s) (.setBank ..) (writeRow_accessed ..)
    · exact plazaWriteRow_accessed ..
  have hr' : Accessed s r'.2 := (foundWords_accessed ..).trans (readRowAs_accessed ..)
  exact .ite ((answerRequest_accessed ..).trans ((Accessed.rinc (by decide) ..).trans (.raise ..)))
    (.ite ((answerRequest_accessed ..).trans (denied_accessed ..))
      (.ite (hr.trans (answerRequest_accessed ..)) (hr'.trans (answerRequest_accessed ..))))

theorem grant_accessed (n : Nat) (cycle : Option Nat) (w : Waiting) (cs : List Waiting) (s : State) : Accessed s (grant n cycle w cs s) := by
  unfold grant
  extract_lets b aged b' s₁
  have h₁ : Accessed s s₁ := .setBank ..
  exact (h₁.trans (.ite (.rinc (by decide) ..) (.refl _))).trans (perform_accessed ..)

theorem engineCycles_accessed (n k : Nat) (me : Waiting) (s : State) : Accessed s (engineCycles n k me s) := by
  induction k generalizing me s with
  | zero => exact .refl s
  | succ k ih =>
    rw [engineCycles]
    extract_lets s₁
    split
    · split
      · have h₁ : Accessed s s₁ := .setBank ..
        exact .ite (h₁.trans (.rinc (by decide) ..)) h₁
      · exact (grant_accessed ..).trans (ih ..)
    · exact .refl s

theorem engineTurn_accessed (n : Nat) (r : Requester) (cls : Nat) (s : State) : Accessed s (engineTurn n r cls s) := by
  unfold engineTurn
  extract_lets ws
  exact .ite (.refl s) (engineCycles_accessed ..)

theorem engineTurns_accessed (r : Requester) (cls : Nat) (l : List Nat) (s : State) : Accessed s (engineTurns r cls l s) :=
  .foldl (fun t n => engineTurn_accessed n r cls t) l s

theorem wakeForAccess_accessed (n : Nat) (s : State) : Accessed s (wakeForAccess n s) := by
  unfold wakeForAccess
  exact .ite (Accessed.trans (t := startWake n s) (.ite (.rset (by decide) ..) (.refl s)) (.rinc (by decide) ..)) (.refl s)

theorem banksReady_accessed (l : List Nat) (s : State) : Accessed s (banksReady l s).2 :=
  .foldl (fun t n => wakeForAccess_accessed n t) _ s

theorem rowsReady_accessed (cls : Nat) (rows : List Nat) (s : State) : Accessed s (rowsReady cls rows s).2 := by
  unfold rowsReady
  extract_lets banks r
  split
  · exact (banksReady_accessed ..).trans (engineTurns_accessed ..)
  · exact banksReady_accessed ..

/-! ### The queue engine's rows -/

theorem putRow_accessed (r : Nat) (d : BitVec 128) (poison : Bool) (s : State) : Accessed s (putRow r d poison s) := by
  unfold putRow
  extract_lets n row ix
  split
  · exact Accessed.trans (t := poisonPrior n row s) (.setBank ..) ((flipWord_accessed ..).trans (flipWord_accessed ..))
  · exact plazaWriteRow_accessed ..

theorem writeRows_accessed (l : List (Nat × BitVec 128 × Bool)) (s : State) : Accessed s (writeRows l s) := by
  induction l generalizing s with
  | nil => exact .refl s
  | cons x l ih =>
    obtain ⟨r, d, p⟩ := x
    exact (putRow_accessed ..).trans (ih _)

theorem takeRow_accessed (r : Nat) (s : State) : Accessed s (takeRow r s).2 := (readWord_accessed ..).trans (readWord_accessed ..)

theorem takeRows_accessed (l : List Nat) (s : State) : Accessed s (takeRows l s).2 := by
  induction l generalizing s with
  | nil => exact .refl s
  | cons r l ih => exact (takeRow_accessed ..).trans (ih _)

theorem madeField_accessed (w : BitVec 64 × Bool) (s : State) : Accessed s (madeField w s).2 := by
  unfold madeField
  split
  · exact .draw s
  · exact .refl s

theorem madeHeader_accessed (a b : (BitVec 64 × Bool) × (BitVec 64 × Bool)) (resync : Bool) (s : State) :
    Accessed s (madeHeader a b resync s).2 :=
  (madeField_accessed ..).trans ((madeField_accessed ..).trans ((madeField_accessed ..).trans (madeField_accessed ..)))

theorem deliverRows_accessed (rows : List Nat) (s : State) : Accessed s (deliverRows rows s).2 := by
  unfold deliverRows
  split
  · extract_lets a b resync m m'
    have h : Accessed s b.2 := (takeRow_accessed ..).trans (takeRow_accessed ..)
    split
    · exact h.trans (madeHeader_accessed _ _ resync _)
    · exact h.trans (takeRows_accessed ..)
  · exact takeRows_accessed ..

end Sys2Proof.Machine
end

section

/-! # The decision path (O24, O25, O26) -/

namespace Sys2Proof.Machine

open Sys2Proof.Safety

/-! ### The sentinel -/

/-- The judgement of a tap's expected cycle, the first in its crossing. -/
theorem execSentinelJudge_of_first {i : Nat} {o : TapOffer} {s : State} {x : LedgerTap} {p : LedgerPath} (hx : mfind s.dec.taps i = some x)
    (hp : mfind s.dec.paths x.path = some p) (hc : s.counting = true) (hk : s.clocked (i / 2) = true)
    (hb : bitOf x.contexts (s.dist (i / 2)).ctx = true) (hj : mfind s.dec.judged i ≠ some s.crossing) (ho : o.busy = false) :
    execSentinelJudge i o s = .next (judgeOffer i x p o { s with dec := { s.dec with judged := mput s.dec.judged i s.crossing } }) := by
  unfold execSentinelJudge
  rw [hx]
  dsimp only
  rw [hp]
  dsimp only
  rw [if_neg (by simp [hc, hk, hb, hj]), ho]
  rfl

theorem execSentinelJudge_of_judged {i : Nat} {o : TapOffer} {s : State} {x : LedgerTap} {p : LedgerPath} (hx : mfind s.dec.taps i = some x)
    (hp : mfind s.dec.paths x.path = some p) (hj : mfind s.dec.judged i = some s.crossing) : execSentinelJudge i o s = .next s := by
  unfold execSentinelJudge
  rw [hx]
  dsimp only
  rw [hp]
  dsimp only
  rw [if_pos (by simp [hj])]

theorem line_holdDecision (i t : Nat) (d : Decision) (s : State) : mfind ((holdDecision i t d s).line i) t = some d := by
  show mfind (mget (mset s.dec.lines i _ []) i []) t = some d
  rw [mget_mset_same]
  exact mfind_mput_same ..

/-- What a breach leaves. -/
theorem breach_spec (i p t code shown : Nat) (s : State) :
    (breach i p t code shown s).dec.breach.isSome = true ∧ (breach i p t code shown s).dec.breached.contains p = true ∧
      (∃ d, mfind ((breach i p t code shown s).line i) t = some d ∧ d.kind = (if s.fget .POLICY p = 1 then .forced else .policyReject)) ∧
      (breach i p t code shown s).rget .LAST_BREACH_KIND p = code ∧
      (breach i p t code shown s).rget .BREACHES p = Nat.min (s.rget .BREACHES p + 1) (El.BREACHES.modulus - 1) ∧
      (breach i p t code shown s).cells = s.cells := by
  unfold breach
  extract_lets f user kind s₁ latch _ s₂
  have hl : latch.isSome = true := by
    unfold latch
    cases s₁.dec.breach with
    | none => rfl
    | some c => rfl
  have hb : (if s₁.dec.breached.contains p then s₁.dec.breached else s₁.dec.breached ++ [p]).contains p = true := by
    split
    · next h => exact h
    · simp
  have hline : s₂.line i = s₁.line i := rfl
  refine ⟨?_, ?_, ⟨{ kind, atype := 0, user }, ?_, rfl⟩, ?_, ?_, ?_⟩
  · rw [raise_dec]
    exact hl
  · rw [raise_dec]
    exact hb
  · rw [State.line, raise_dec]
    exact line_holdDecision ..
  · rw [raise_rget _ _ _ _ _ _ (by decide), State.rget_rset_same]
  · rw [raise_rget _ _ _ _ _ _ (by decide), State.rget_rset, if_neg (by simp), State.rget_rset, if_neg (by simp)]
    exact State.rget_rset_same ..
  · rw [raise_cells]
    rfl

/-! ### What taps emit -/

theorem countDecision_dec (p : Nat) (d : Decision) (s : State) : (countDecision p d s).dec = s.dec := by
  unfold countDecision
  cases d.kind <;> rfl

theorem emission_dec (i t : Nat) (p : LedgerPath) (s : State) : (emission i t p s).2.dec = s.dec := by
  have hl : (lineDecision i t p s).2.dec = s.dec := by
    unfold lineDecision
    split
    · rfl
    · split
      · rfl
      · rfl
  unfold emission
  split
  · rfl
  · split
    · exact hl
    · rfl
    · split <;> rfl
    · split <;> rfl
    · split
      · split <;> rfl
      · rfl
    all_goals rfl

/-- Two states with the same loaded paths and the same emissions. -/
def SameEmitted (s t : State) : Prop := t.dec.emitted = s.dec.emitted ∧ t.dec.paths = s.dec.paths

theorem putDownlinks_sameEmitted (q mask cmd : Nat) (s : State) : SameEmitted s (putDownlinks q mask cmd s) := by
  have h := foldl_keeps (fun t : State => (t.dec.emitted, t.dec.paths))
    (f := fun (t : State) j => if bitOf mask j then { t with dec := { t.dec with downlinks := mput t.dec.downlinks (16 * q + j) cmd } } else t)
    (fun t j => by split <;> rfl) (List.range 16) s
  exact ⟨congrArg Prod.fst h, congrArg Prod.snd h⟩

theorem handOut_sameEmitted (i t : Nat) (x : LedgerTap) (p : LedgerPath) (d : Decision) (s : State) : SameEmitted s (handOut i t x p d s) := by
  unfold handOut
  extract_lets q out ct s₁ _ s₂
  have h₁ : SameEmitted s s₁ := by
    unfold s₁
    split
    · exact putDownlinks_sameEmitted ..
    · exact ⟨rfl, rfl⟩
  have h₂ : SameEmitted s s₂ := by
    unfold s₂
    split
    · exact h₁
    · exact h₁
  split
  · unfold offerAccept
    split
    · exact h₂
    · exact h₂
  · exact h₂

/-- A tap has emitted for a crossing. -/
def HasEmitted (t i : Nat) (s : State) : Prop := ∃ d, mfind s.dec.emitted i = some (t, d)

/-- A tap of a loaded path that has not emitted for the crossing emits what the device state gives it. -/
theorem emitTap_of_loaded {t i : Nat} {x : LedgerTap} {p : LedgerPath} {s : State} (hp : mfind s.dec.paths x.path = some p)
    (he : ¬ HasEmitted t i s) :
    mfind (emitTap t i x s).dec.emitted i = some (t, (emission i t p s).1) ∧
      (∀ j, j ≠ i → mfind (emitTap t i x s).dec.emitted j = mfind s.dec.emitted j) ∧ (emitTap t i x s).dec.paths = s.dec.paths := by
  unfold emitTap
  rw [hp]
  dsimp only
  rw [if_neg]
  · obtain ⟨h1, h2⟩ := handOut_sameEmitted i t x p (emission i t p s).1 (countDecision x.path (emission i t p s).1 (emission i t p s).2)
    rw [countDecision_dec, emission_dec] at h1 h2
    refine ⟨mfind_mput_same .., fun j hj => ?_, h2⟩
    rw [← h1]
    exact mfind_mput_other _ _ _ _ hj
  · intro h
    split at h
    · next u d hu => exact he ⟨d, by rw [hu, beq_iff_eq.mp h]⟩
    · cases h

/-- A tap that has emitted for the crossing emits no more. -/
theorem emitTap_of_emitted {t i : Nat} {x : LedgerTap} {s : State} (he : HasEmitted t i s) : emitTap t i x s = s := by
  obtain ⟨d, hd⟩ := he
  unfold emitTap
  split
  · rfl
  · rw [hd]
    exact if_pos (beq_self_eq_true t)

theorem emitTap_spec (t i : Nat) (x : LedgerTap) (s : State) : (emitTap t i x s).dec.paths = s.dec.paths ∧
    (∀ j, HasEmitted t j s → HasEmitted t j (emitTap t i x s)) ∧
    ((mfind s.dec.paths x.path).isSome = true → HasEmitted t i (emitTap t i x s)) := by
  cases hp : mfind s.dec.paths x.path with
  | none =>
    have he : emitTap t i x s = s := by unfold emitTap; rw [hp]
    rw [he]
    exact ⟨rfl, fun _ h => h, fun h => by cases h⟩
  | some p =>
    by_cases he : HasEmitted t i s
    · rw [emitTap_of_emitted he]
      exact ⟨rfl, fun _ h => h, fun _ => he⟩
    · obtain ⟨h1, h2, h3⟩ := emitTap_of_loaded (x := x) hp he
      refine ⟨h3, fun j hj => ?_, fun _ => ⟨_, h1⟩⟩
      by_cases hji : j = i
      · subst hji
        exact ⟨_, h1⟩
      · obtain ⟨d, hd⟩ := hj
        exact ⟨d, (h2 j hji).trans hd⟩

theorem foldl_emitTap {t : Nat} {l : List (Nat × LedgerTap)} (s : State) :
    (∀ j, HasEmitted t j s → HasEmitted t j (l.foldl (fun u x => emitTap t x.1 x.2 u) s)) ∧
      ∀ y ∈ l, (mfind s.dec.paths y.2.path).isSome = true → HasEmitted t y.1 (l.foldl (fun u x => emitTap t x.1 x.2 u) s) := by
  induction l generalizing s with
  | nil => exact ⟨fun _ h => h, fun y hy => by cases hy⟩
  | cons x l ih =>
    obtain ⟨hp, hk, hx⟩ := emitTap_spec t x.1 x.2 s
    obtain ⟨ih1, ih2⟩ := ih (emitTap t x.1 x.2 s)
    refine ⟨fun j h => ih1 j (hk j h), fun y hy hs => ?_⟩
    obtain rfl | hy := List.mem_cons.mp hy
    · exact ih1 _ (hx hs)
    · exact ih2 y hy (by rwa [hp])

theorem fixMessages_dec (t : Nat) (s : State) : (fixMessages t s).dec = s.dec := by
  unfold fixMessages
  split
  · rfl
  · exact foldl_keeps State.dec (fun u k => by split <;> rfl) _ _

theorem mem_tapsInOrder {s : State} {y : Nat × LedgerTap} (h : y ∈ s.dec.taps) (hp : y.2.path < 64) : y ∈ s.tapsInOrder := by
  unfold State.tapsInOrder
  rw [List.mem_flatMap]
  exact ⟨y.2.path, List.mem_range.mpr hp, List.mem_filter.mpr ⟨h, beq_self_eq_true _⟩⟩

/-- The one tap loaded stands once in the order of emission. -/
theorem tapsInOrder_single {s : State} {y : Nat × LedgerTap} (h : s.dec.taps = [y]) (hp : y.2.path < 64) : s.tapsInOrder = [y] := by
  have hf : ∀ l : List Nat, l.Nodup → l.flatMap (fun p => [y].filter (fun x => x.2.path == p)) = if y.2.path ∈ l then [y] else [] := by
    intro l hl
    induction l with
    | nil => rfl
    | cons a l ih =>
      obtain ⟨ha, hl⟩ := List.nodup_cons.mp hl
      rw [List.flatMap_cons, ih hl]
      by_cases hy : y.2.path = a
      · subst hy
        simp [ha]
      · simp [hy]
  unfold State.tapsInOrder
  rw [h, hf _ List.nodup_range, if_pos (List.mem_range.mpr hp)]

/-- In RUNNING and outside a marker interval a tap emits what its line holds. -/
theorem emission_of_line {i t : Nat} {p : LedgerPath} {s : State} {d : Decision} (hh : s.tb.held = none) (hr : s.dev = .running)
    (hm : s.pathMarked p t = false) (hd : mfind (s.line i) t = some d) : emission i t p s = (d, s) := by
  unfold emission
  rw [if_neg (by simp [hh]), hr]
  dsimp only
  unfold lineDecision
  rw [if_neg (by simp [hm]), hd]

/-- Settles O24: the sentinel by its judgement, the emission tap by tap. -/
theorem sentinelAndEmission : Obligations.SentinelAndEmission := by
  unfold Obligations.SentinelAndEmission
  refine ⟨fun i o s x p hx hp hc hk hb hm ho => ⟨fun hj => execSentinelJudge_of_judged hx hp hj, fun hj hn => ?_, fun c hj hn hr => ?_⟩,
    fun s hc he => ⟨_, if_neg (by simp [hc, he]), fun y hy hp hs => ?_, fun i x p d ht hp hpp hr hh hm hd => ?_⟩⟩
  · have hjo : judgeOffer i x p o { s with dec := { s.dec with judged := mput s.dec.judged i s.crossing } } =
        holdDecision i (s.crossing + x.hold) { kind := offeredKind o, atype := o.atype.toNat, user := o.user.toNat }
          { s with dec := { s.dec with judged := mput s.dec.judged i s.crossing } } := by
      refine (if_neg ?_).trans ?_
      · exact fun h => absurd (hm.symm.trans h) (by simp)
      · show (match breachOf o (decidedTag (s.crossing + x.hold) p.ldec) with | none => _ | some code => _) = _
        rw [hn]
        rfl
    exact ⟨_, (execSentinelJudge_of_first hx hp hc hk hb hj ho).trans (congrArg _ hjo), rfl, line_holdDecision .., rfl⟩
  · have hjo : judgeOffer i x p o { s with dec := { s.dec with judged := mput s.dec.judged i s.crossing } } =
        breach i x.path (s.crossing + x.hold) c (s.crossing + 1) { s with dec := { s.dec with judged := mput s.dec.judged i s.crossing } } := by
      refine (if_neg ?_).trans ?_
      · exact fun h => absurd (hm.symm.trans h) (by simp)
      · show (match breachOf o (decidedTag (s.crossing + x.hold) p.ldec) with | none => _ | some code => _) = _
        rw [hn]
        exact if_pos hr
    obtain ⟨h1, h2, ⟨d, h3, h4⟩, h5, h6, h7⟩ := breach_spec i x.path (s.crossing + x.hold) c (s.crossing + 1)
      { s with dec := { s.dec with judged := mput s.dec.judged i s.crossing } }
    exact ⟨_, d, (execSentinelJudge_of_first hx hp hc hk hb hj ho).trans (congrArg _ hjo), h1, h2, h3, h4, h5, h6, h7⟩
  · rw [fixMessages_dec]
    exact (foldl_emitTap s).2 y (mem_tapsInOrder hy hp) hs
  · have hne : ¬ HasEmitted s.crossing i s := by
      rintro ⟨d, hd⟩
      have ha : s.emittedAll s.crossing = true := by simp [State.emittedAll, ht, hd]
      rw [he] at ha
      cases ha
    rw [fixMessages_dec, tapsInOrder_single ht hp, List.foldl_cons, List.foldl_nil]
    have hem := (emitTap_of_loaded (x := x) hpp hne).1
    rwa [emission_of_line hh hr hm hd] at hem

/-! ### Settings of the decision path -/

/-- A value that waits for the next orbit boundary. -/
theorem write_deferred {w : Route} {e : El} {u v : Nat} {h : Handler} {s : State} (ha : accepts w e u v s = true)
    (hr : h.allow w v s = true) (hv : h.range v s = true) (hact : h.act v s = .ok (s.rdefer e u v)) :
    Deferred w e u v s (write w e u v h s) := by
  rw [write_performed ha hr hv hact]
  exact stored_deferred (loader_of_accepts ha)

@[simp] theorem lane_setLane (s : State) (q : Nat) (x : LaneRx) : (s.setLane q x).lane q = x := mget_mset_same ..

theorem lane_setLane_other (s : State) {q p : Nat} (x : LaneRx) (h : p ≠ q) : (s.setLane q x).lane p = s.lane p :=
  mget_mset_other _ _ _ _ _ _ h

/-- Settles O25: each setting by its handler. -/
theorem decisionSettings : Obligations.DecisionSettings := by
  unfold Obligations.DecisionSettings
  refine fun w u v s => ⟨fun ha hv => ⟨fun hb => ?_, fun hb => ?_⟩, fun ha => ?_, fun ha => write_deferred (h := hPolicy u) ha rfl rfl rfl,
    fun ha x hx => ⟨fun hv => ?_, fun hv => ?_⟩, fun ha => ⟨fun ht h1 h2 => ?_, fun ht => ?_⟩, fun ha => ⟨fun hv => ?_, fun hv => ?_⟩⟩
  · exact write_performed (h := hBreachAck) ha rfl rfl (congrArg Except.ok (if_neg (by simp [hb])))
  · refine write_performed (h := hBreachAck) ha rfl rfl (congrArg Except.ok (if_pos ?_))
    rw [Bool.and_eq_true, decide_eq_true_eq]
    exact ⟨hv, Option.isSome_iff_ne_none.mpr hb⟩
  · cases hc : s.counting with
    | true =>
      exact ⟨_, write_performed (h := hBusyForce) ha rfl rfl (congrArg Except.ok (if_pos hc)), State.rget_rset_same .., rfl,
        fun k hk => mfind_rset_other _ _ hk, rfl⟩
    | false =>
      have hc' : ¬ (s.rset .BUSY_FORCE 0 v).counting = true := fun h => absurd (hc.symm.trans h) (by simp)
      exact ⟨_, write_performed (h := hBusyForce) ha rfl rfl (congrArg Except.ok (if_neg hc')), State.rget_rset_same .., rfl,
        fun k hk => mfind_rset_other _ _ hk, rfl⟩
  · exact write_deferred (h := hTapOut u) ha rfl (by simp only [hTapOut, hx, beq_iff_eq]; exact hv) rfl
  · exact write_outOfRange (h := hTapOut u) ha rfl (by simp only [hTapOut, hx, beq_eq_false_iff_ne]; exact hv)
  · exact write_refused (h := hSsMode u) ha rfl rfl (if_pos (by simp [ht, h1, h2])) (by decide)
  · refine ⟨_, write_performed (h := hSsMode u) ha rfl rfl (if_neg ?_), State.rget_rset_same .., ?_, mfind_mdel_same ..,
      fun k hk => mfind_rset_other _ _ hk, rfl⟩
    · obtain h | h | h := ht <;> simp [h]
    · exact mget_mset_same (s.rset .SS_MODE u v).dec.lanes u LaneRx.idle LaneRx.idle
  · exact write_stores (h := hSsFioCfg u) ha rfl hv rfl
  · exact write_outOfRange (h := hSsFioCfg u) ha rfl hv

/-! ### Accepts from pairs -/

/-- A word with a bad CRC on an unlocked lane. -/
theorem badLaneWord_of_unlocked {q : Nat} {s : State} (h : (s.lane q).locked = false) :
    ((badLaneWord q s).lane q).locked = false ∧ ((badLaneWord q s).lane q).good = 0 ∧ (∀ p, p ≠ q → (badLaneWord q s).lane p = s.lane p) ∧
      (badLaneWord q s).rget .ACC_CRC_ERRORS q = Nat.min (s.rget .ACC_CRC_ERRORS q + 1) (El.ACC_CRC_ERRORS.modulus - 1) ∧
      (badLaneWord q s).rget .ACC_COUNT q = s.rget .ACC_COUNT q := by
  unfold badLaneWord
  extract_lets x recent lost s₁
  have hx : x.locked = false := h
  have hlost : lost = true := by simp [lost, hx]
  have hq : s₁.lane q = { x with recent := if lost then [] else recent, locked := !lost, good := 0 } := lane_setLane ..
  have hp : ∀ p, p ≠ q → s₁.lane p = s.lane p := fun p hp => lane_setLane_other s _ hp
  have hr : s₁.rget .ACC_CRC_ERRORS q = Nat.min (s.rget .ACC_CRC_ERRORS q + 1) (El.ACC_CRC_ERRORS.modulus - 1) := State.rget_rset_same ..
  have hc : s₁.rget .ACC_COUNT q = s.rget .ACC_COUNT q := by
    unfold s₁
    rw [State.rget_rinc, if_neg (by simp)]
    rfl
  split
  · exact ⟨by rw [hq, hlost]; rfl, by rw [hq], hp, hr, hc⟩
  · have hd : ((s₁.setLane q { s₁.lane q with warned := some s₁.tb.orbit }).raise sevWarning 0x1901 q []).dec =
        (s₁.setLane q { s₁.lane q with warned := some s₁.tb.orbit }).dec := raise_dec ..
    refine ⟨?_, ?_, fun p hpq => ?_, ?_, ?_⟩
    · rw [State.lane, hd]
      show ((s₁.setLane q _).lane q).locked = false
      rw [lane_setLane, hq, hlost]
      rfl
    · rw [State.lane, hd]
      show ((s₁.setLane q _).lane q).good = 0
      rw [lane_setLane, hq]
    · rw [State.lane, hd]
      exact (lane_setLane_other s₁ _ hpq).trans (hp p hpq)
    · rw [raise_rget _ _ _ _ _ _ (by decide)]
      exact hr
    · rw [raise_rget _ _ _ _ _ _ (by decide)]
      exact hc

theorem offerAccept_of_on {a : Accept} {s : State} (he : s.rflag .EB_ENABLE = true) (hd : s.dev = .running ∨ s.dev = .hold) :
    offerAccept a s = { s with eb := { s.eb with offered := s.eb.offered ++ [a] } } :=
  if_pos (by obtain h | h := hd <;> simp [he, h])

theorem offerAccept_of_off {a : Accept} {s : State} (he : s.rflag .EB_ENABLE = false) : offerAccept a s = s := if_neg (by simp [he])

theorem offerAccept_regs (a : Accept) (s : State) : (offerAccept a s).regs = s.regs := by
  unfold offerAccept
  split <;> rfl

/-- An accept from a pair is counted, with a tag that does not match, and offered to the intake. -/
theorem pairAccept_eq (q atype : Nat) (forced mismatch : Bool) (s : State) :
    ∃ g, Leaves [.ACC_TAG_MISMATCH, .ACC_COUNT] s { s with regs := g } ∧
      { s with regs := g }.rget .ACC_COUNT q = Nat.min (s.rget .ACC_COUNT q + 1) (El.ACC_COUNT.modulus - 1) ∧
      pairAccept q atype forced mismatch s =
        offerAccept { crossing := s.crossing - s.rget .ACC_DELAY q, atype, forced, mismatch, source := 64 + q } { s with regs := g } := by
  unfold pairAccept
  extract_lets s₁
  obtain ⟨g, hg⟩ : ∃ g, s₁ = { s with regs := g } := by
    unfold s₁
    split
    · exact ⟨_, rfl⟩
    · exact ⟨_, rfl⟩
  have hl : Leaves [.ACC_TAG_MISMATCH] s s₁ := .ite (.rinc (by decide) ..) (.refl s)
  have hcr : s₁.crossing = s.crossing := by
    have hL : s₁.L = s.L := hl.rget .ORBIT_LEN (by decide) 0
    clear_value s₁
    subst hg
    exact crossing_congr rfl rfl rfl hL
  have hd : s₁.rget .ACC_DELAY q = s.rget .ACC_DELAY q := hl.rget _ (by decide) q
  have hc : (s₁.rinc .ACC_COUNT q).rget .ACC_COUNT q = Nat.min (s.rget .ACC_COUNT q + 1) (El.ACC_COUNT.modulus - 1) := by
    rw [State.rget_rinc, if_pos ⟨rfl, rfl⟩, hl.rget _ (by decide)]
  have hl' : Leaves [.ACC_TAG_MISMATCH, .ACC_COUNT] s (s₁.rinc .ACC_COUNT q) := (hl.mono (by decide)).trans (.rinc (by decide) ..)
  rw [hcr, hd]
  clear_value s₁
  subst hg
  exact ⟨_, hl', hc, rfl⟩

/-- What an accept from a pair leaves. -/
theorem pairAccept_spec (q atype : Nat) (forced mismatch : Bool) (s : State) :
    (pairAccept q atype forced mismatch s).rget .ACC_COUNT q = Nat.min (s.rget .ACC_COUNT q + 1) (El.ACC_COUNT.modulus - 1) ∧
      (s.rflag .EB_ENABLE = true → (s.dev = .running ∨ s.dev = .hold) → (pairAccept q atype forced mismatch s).eb.offered =
        s.eb.offered ++ [{ crossing := s.crossing - s.rget .ACC_DELAY q, atype, forced, mismatch, source := 64 + q }]) ∧
      (s.rflag .EB_ENABLE = false → { pairAccept q atype forced mismatch s with regs := s.regs } = s) := by
  obtain ⟨g, hl, hc, he⟩ := pairAccept_eq q atype forced mismatch s
  have hen : { s with regs := g }.rflag .EB_ENABLE = s.rflag .EB_ENABLE := by
    unfold State.rflag
    rw [hl.rget _ (by decide)]
  rw [he]
  refine ⟨?_, fun hon hd => ?_, fun hoff => ?_⟩
  · rw [State.rget, offerAccept_regs]
    exact hc
  · rw [offerAccept_of_on (hen.trans hon) hd]
  · rw [offerAccept_of_off (hen.trans hoff)]

/-- Settles O26: lanes by their receivers, accepts by `pairAccept`, the bucket by its own event. -/
theorem acceptsFromPairs : Obligations.AcceptsFromPairs := by
  unfold Obligations.AcceptsFromPairs
  refine ⟨fun q x s hm hc hq hl => ⟨fun hok => ?_, fun hok => ?_⟩, fun q x s hm hc hq hl hok hk hd => ?_, fun q s hm hc hq hd => ?_,
    fun s h => ?_, fun s h => ?_⟩
  · show execAcceptLaneWord q x s = _
    unfold execAcceptLaneWord
    extract_lets y mult good n
    have hgood : good = true := hok
    rw [if_neg (by simp [hm, hc, Nat.ble_eq, hq]), if_neg (by simp [hgood]), if_pos (by rw [show y.locked = false from hl]; rfl)]
    have hlk : Nat.ble 16 n = (laneStartOk x && decide (16 ≤ (s.lane q).good + 1)) := by
      unfold n
      cases laneStartOk x with
      | true => exact Bool.eq_iff_iff.mpr (by simp [Nat.ble_eq, y])
      | false => rfl
    rw [hlk]
  · refine ⟨badLaneWord q s, ?_, badLaneWord_of_unlocked hl⟩
    show execAcceptLaneWord q x s = _
    unfold execAcceptLaneWord
    extract_lets y mult good
    have hgood : good = false := hok
    rw [if_neg (by simp [hm, hc, Nat.ble_eq, hq]), if_pos (by simp [hgood])]
  · obtain ⟨h1, h2, h3⟩ := pairAccept_spec q (bitsOf x 7 4) (bitsOf x 3 2 == 3)
      (bitsOf x 15 8 != (s.crossing - s.rget .ACC_DELAY q) % 4096 % 256) (s.setLane q { s.lane q with recent := (false :: (s.lane q).recent).take 16 })
    refine ⟨_, ?_, h1, fun he hd => ?_, fun he => ?_⟩
    · show execAcceptLaneWord q x s = _
      unfold execAcceptLaneWord
      extract_lets y mult good n s₁ kind ct
      have hgood : good = true := hok
      rw [if_neg (by simp [hm, hc, Nat.ble_eq, hq]), if_neg (by simp [hgood]), if_neg (by rw [show y.locked = true from hl]; simp), if_pos]
      · rfl
      · rw [Bool.and_eq_true, Bool.or_eq_true, decide_eq_true_eq, decide_eq_true_eq, Nat.ble_eq]
        exact ⟨hk, hd⟩
    · rw [Nat.mod_mod_of_dvd _ (by decide : 256 ∣ 4096)] at h2 ⊢
      exact h2 he hd
    · exact congrArg (fun t : State => { t with dec := s.dec }) (h3 he)
  · obtain ⟨h1, h2, h3⟩ := pairAccept_spec q (s.rget .ACC_TYPE q) false false s
    refine ⟨_, if_pos ?_, h1, h2, h3⟩
    simp [hm, hc, hq, Nat.ble_eq, hd, Nat.blt_eq]
  · exact if_neg (by rw [Nat.ble_eq]; omega)
  · exact if_pos (by rw [Nat.ble_eq]; exact h)

end Sys2Proof.Machine
end

section

/-! # The event builder and the queues (O27, O28) -/

namespace Sys2Proof.Machine

open Sys2Proof.Safety

/-! ### A queue's content -/

theorem queue_congr {s t : State} (h : t.queues = s.queues) (q : Nat) : t.queue q = s.queue q := by rw [State.queue, h, State.queue]

theorem setQueue_queues (s : State) (q : Nat) (x : Queue) : (s.setQueue q x).queues = mset s.queues q x Queue.empty := by
  unfold State.setQueue
  extract_lets h core s₁ s₂
  have h₁ : s₁.queues = s.queues := by
    unfold s₁
    split <;> rfl
  show mset s₁.queues q x Queue.empty = _
  rw [h₁]

@[simp] theorem queue_setQueue (s : State) (q : Nat) (x : Queue) : (s.setQueue q x).queue q = x := by
  rw [State.queue, setQueue_queues]
  exact mget_mset_same ..

theorem queue_setQueue_other (s : State) {q p : Nat} (x : Queue) (h : p ≠ q) : (s.setQueue q x).queue p = s.queue p := by
  rw [State.queue, setQueue_queues]
  exact mget_mset_other _ _ _ _ _ _ h

theorem setQueue_leaves (s : State) (q : Nat) (x : Queue) : Leaves [.Q_HEAD, .Q_LEVEL] s (s.setQueue q x) := by
  unfold State.setQueue
  extract_lets h core s₁ s₂
  have h₁ : s₂.regs = s.regs := by
    show s₁.regs = _
    unfold s₁
    split <;> rfl
  exact (Leaves.of_regs h₁).trans ((Leaves.rset (by decide) ..).trans (.rset (by decide) ..))

theorem setQueue_level (s : State) (q : Nat) (x : Queue) : (s.setQueue q x).rget .Q_LEVEL q = x.held.length := State.rget_rset_same ..

/-- A queue whose number of rows stays raises no interrupt. -/
theorem setQueue_same_length {s : State} {q : Nat} {x : Queue} (h : x.held.length = (s.queue q).held.length) :
    ∃ g m, s.setQueue q x = { s with regs := g, queues := m } := by
  unfold State.setQueue
  extract_lets h' core s₁ s₂
  have h₁ : s₁ = s := if_neg (by simp [h', h])
  unfold s₂
  rw [h₁]
  exact ⟨_, _, rfl⟩

theorem Accessed.queues {s t : State} (h : Accessed s t) : t.queues = s.queues := by
  obtain ⟨⟨c, b, l, x, g, r, n, f, u, m, d, i, o, rfl⟩, -⟩ := h
  rfl

theorem Accessed.eb {s t : State} (h : Accessed s t) : t.eb = s.eb := by
  obtain ⟨⟨c, b, l, x, g, r, n, f, u, m, d, i, o, rfl⟩, -⟩ := h
  rfl

theorem setQueue_eb (s : State) (q : Nat) (x : Queue) : (s.setQueue q x).eb = s.eb := by
  obtain ⟨r, m, i, h⟩ := setQueue_frame s q x
  rw [h]

theorem setQueue_cells (s : State) (q : Nat) (x : Queue) : (s.setQueue q x).cells = s.cells := by
  obtain ⟨r, m, i, h⟩ := setQueue_frame s q x
  rw [h]

/-! ### Extraction -/

theorem extractWord_accessed (n a : Nat) (s : State) : Accessed s (extractWord n a s).2 := readWord_accessed ..

theorem extractRows_accessed (cls : Nat) (l : List (Nat × Nat)) (s : State) : Accessed s (extractRows cls l s).2 := by
  induction l generalizing s with
  | nil => exact .refl s
  | cons x l ih =>
    obtain ⟨n, row⟩ := x
    exact (engineTurn_accessed n (.extraction (n / 64)) cls s).trans
      ((extractWord_accessed ..).trans ((extractWord_accessed ..).trans (ih _)))

theorem extractPresent_accessed (t : EbTask) (a b : Nat) (s : State) : Accessed s (extractPresent t a b s).2 := by
  unfold extractPresent
  have h (l : List Nat) (acc : (List (BitVec 64) × Nat × Nat) × State) (ha : Accessed s acc.2) :
      Accessed s (l.foldl (fun acc p =>
        let m := extractRows (acc.2.rget .G_CLASS t.group) (acc.2.entryPlaces t a b p) acc.2
        let bad := (m.1.filter (·.2)).length
        let flag := match m.1 with | w :: _ => statusFlag w | [] => 0
        ((acc.1.1 ++ m.1.map (·.1), acc.1.2.1 + bad, Nat.lor acc.1.2.2 flag), m.2)) acc).2 := by
    induction l generalizing acc with
    | nil => exact ha
    | cons p l ih => exact ih _ (ha.trans (extractRows_accessed ..))
  exact h _ _ (.refl s)

theorem extractCrossing_accessed (t : EbTask) (c : Nat) (s : State) : Accessed s (extractCrossing t c s).2 := by
  unfold extractCrossing
  split
  · exact extractPresent_accessed ..
  · exact .refl s
  · exact .refl s
  · exact .refl s

theorem extractAll_accessed (t : EbTask) (l : List Nat) (s : State) : Accessed s (extractAll t l s).2 := by
  induction l generalizing s with
  | nil => exact .refl s
  | cons c l ih => exact (extractCrossing_accessed ..).trans (ih _)

/-- The fragment that is read, or built, in place of a task. -/
theorem setTask_stages {x y : EbTask} {s : State} (ht : y.ticket = x.ticket) (hg : y.group = x.group) (hs : y.stage = 2) :
    (showLevel (setTask y s)).eb.tasks.length = s.eb.tasks.length ∧
      (∀ u ∈ (showLevel (setTask y s)).eb.tasks, u.ticket = x.ticket → u.group = x.group → u.stage = 2) ∧
      (showLevel (setTask y s)).queues = s.queues := by
  refine ⟨List.length_map .., fun u hu h1 h2 => ?_, rfl⟩
  obtain ⟨v, -, rfl⟩ := List.mem_map.mp hu
  split
  · exact hs
  · next hne =>
    rw [if_neg hne] at h1 h2
    exact absurd (by rw [h1, h2, ht, hg]; simp) hne

theorem execExtractionStart_spec {g : Nat} {x : EbTask} {s : State}
    (hx : s.eb.tasks.find? (fun t => t.stage == 0 && t.group == g) = some x) (hu : s.unitTask x.quarter = some x)
    (hc : s.counting = true) (hw : s.windowIncomplete x = false) (hb : s.bufferUsed x.quarter = 0) :
    ∃ f, execExtractionStart g s = .next (setTask { x with stage := 1, entry := s.rget .RING_WORDS x.quarter, flags := f } s) := by
  unfold execExtractionStart
  rw [hx]
  dsimp only
  rw [if_neg (by simp [hu, hc, hw, hb])]
  split
  · exact ⟨_, rfl⟩
  · exact ⟨_, rfl⟩
  · exact ⟨_, rfl⟩

theorem execExtractionDone_spec {g : Nat} {x : EbTask} {s : State}
    (hx : s.eb.tasks.find? (fun t => t.stage == 1 && t.group == g) = some x)
    (hr : x.flags = flagNoRing ∨ x.flags = flagExpired ∨ (banksReady (s.spanBanks x) s).1 = true) :
    ∃ y t, execExtractionDone g s = .next (showLevel (setTask y t)) ∧ y.ticket = x.ticket ∧ y.group = x.group ∧ y.stage = 2 ∧
      t.eb = s.eb ∧ t.queues = s.queues := by
  unfold execExtractionDone
  rw [hx]
  dsimp only
  split
  · exact ⟨_, s, rfl, rfl, rfl, rfl, rfl, rfl⟩
  · next hf =>
    have hrd : (banksReady (s.spanBanks x) s).1 = true := by
      rw [Bool.or_eq_true, decide_eq_true_eq, decide_eq_true_eq] at hf
      obtain h | h | h := hr
      · exact absurd (.inl h) hf
      · exact absurd (.inr h) hf
      · exact h
    have ha : Accessed s (extractAll x x.span (banksReady (s.spanBanks x) s).2).2 := (banksReady_accessed ..).trans (extractAll_accessed ..)
    rw [if_neg (by simp [hrd])]
    split
    · exact ⟨_, _, rfl, rfl, rfl, rfl, ha.eb, ha.queues⟩
    · exact ⟨_, _, rfl, rfl, rfl, rfl, ha.eb, ha.queues⟩
    · exact ⟨_, _, rfl, rfl, rfl, rfl, ha.eb, ha.queues⟩

/-! ### The merge stage -/

theorem warnOnce_spec (key code : Nat) (d : Bytes) (s : State) : (warnOnce key code d s).eb.tasks = s.eb.tasks ∧
    (warnOnce key code d s).queues = s.queues ∧ (warnOnce key code d s).cells = s.cells ∧ Leaves [.REC_LOST] s (warnOnce key code d s) := by
  unfold warnOnce
  split
  · exact ⟨rfl, rfl, rfl, .refl s⟩
  · refine ⟨?_, ?_, ?_, .raise_of_regs (by decide) (s := s) ?_⟩
    · rw [raise_eb]
    · rw [raise_queues]
    · rw [raise_cells]
    · rfl

/-- The counters of a fragment written are its group's. -/
def groupEls : List El := [.G_FRAGMENTS, .G_EXPIRED, .G_DAMAGED, .G_TRUNCATED]

/-- A fragment whose banks are ready is written behind the queue's whole fragments. -/
theorem writeFragment_spec {y : EbTask} {s : State}
    (hr : (rowsReady (s.qClass y.queue) (s.tailRows y.queue (pairRows (y.header y.mt ++ y.words)).length (s.rget .Q_TAIL y.queue)).1 s).1 = true) :
    (writeFragment y s).eb.tasks = s.eb.tasks.drop 1 ∧
      ((writeFragment y s).queue y.queue).frags = (s.queue y.queue).frags ++
        [(s.tailRows y.queue (pairRows (y.header y.mt ++ y.words)).length (s.rget .Q_TAIL y.queue)).1] ∧
      (writeFragment y s).rget .Q_FRAGMENTS y.queue = Nat.min (s.rget .Q_FRAGMENTS y.queue + 1) (El.Q_FRAGMENTS.modulus - 1) := by
  unfold writeFragment
  extract_lets q data rows ready s₁ x s₂ f s₃ s₄ s₅ s₆
  have hready : ready.1 = true := hr
  have ha : Accessed s s₁ := (rowsReady_accessed ..).trans (writeRows_accessed ..)
  have hx : x = s.queue q := queue_congr ha.queues q
  clear_value s₁
  have h₂ : s₂.eb = s.eb := (setQueue_eb ..).trans ha.eb
  have hq₂ : (s₂.queue q).frags = (s.queue q).frags ++ [rows.1] := by
    show ((State.setQueue ..).queue q).frags = _
    rw [queue_setQueue, hx]
  have hr₂ : s₂.rget .Q_FRAGMENTS q = Nat.min (s.rget .Q_FRAGMENTS q + 1) (El.Q_FRAGMENTS.modulus - 1) := by
    unfold s₂
    rw [State.rget_rinc, if_pos ⟨rfl, rfl⟩, (setQueue_leaves ..).rget _ (by decide), State.rget_rset, if_neg (by simp), ha.regs.rget _ (by decide)]
  clear_value s₂
  have hg (c : Prop) [Decidable c] (t : State) (e : El) : ∃ g, (if c then t.rinc e y.group else t) = { t with regs := g } := by
    split
    · exact ⟨_, rfl⟩
    · exact ⟨_, rfl⟩
  have hframe : ∃ g, s₆ = { s₂ with regs := g } := by
    obtain ⟨g₄, h₄⟩ := hg (Nat.land f flagExpired != 0) s₃ .G_EXPIRED
    obtain ⟨g₅, h₅⟩ := hg (Nat.land f flagDamaged != 0) s₄ .G_DAMAGED
    obtain ⟨g₆, h₆⟩ := hg (Nat.land f flagTruncated != 0) s₅ .G_TRUNCATED
    refine ⟨g₆, h₆.trans ?_⟩
    rw [show s₅ = _ from h₅, show s₄ = _ from h₄]
    rfl
  have hregs : Leaves groupEls s₂ s₆ :=
    (Leaves.rinc (by decide) ..).trans (.trans (.ite (.rinc (by decide) ..) (.refl _)) (.trans (.ite (.rinc (by decide) ..) (.refl _))
      (.ite (.rinc (by decide) ..) (.refl _))))
  rw [if_neg (by simp [hready])]
  clear_value s₆
  refine ⟨?_, ?_, ?_⟩
  · obtain ⟨g, rfl⟩ := hframe
    show s₂.eb.tasks.drop 1 = _
    rw [h₂]
  · obtain ⟨g, rfl⟩ := hframe
    exact hq₂
  · exact (hregs.rget _ (by decide) q).trans hr₂

/-- Settles O27: the unit's task by its stages, the merge stage by `writeFragment`. -/
theorem eventBuilding : Obligations.EventBuilding := by
  unfold Obligations.EventBuilding
  refine ⟨⟨fun g x s hx _ hu hc hw hb => ?_, fun g x s hx hr => ?_, fun g x l s ht hst hg => ⟨fun hq => ?_, fun hq hpk hpr y hy hyq => ?_⟩⟩,
    fun w u v s => ⟨fun ha => ?_, fun e ha => ?_, fun ha => ?_⟩⟩
  · obtain ⟨f, h⟩ := execExtractionStart_spec hx hu hc hw hb
    exact ⟨_, f, h, rfl, rfl⟩
  · obtain ⟨y, t, h, h1, h2, h3, h4, h5⟩ := execExtractionDone_spec hx hr
    obtain ⟨i1, i2, i3⟩ := setTask_stages (s := t) h1 h2 h3
    exact ⟨_, h, by rw [i1, h4], i2, i3.trans h5⟩
  · obtain ⟨h1, h2, h3, h4⟩ := warnOnce_spec (16 + x.queue) 0x2802 [] (s.rinc .NOQUEUE)
    refine ⟨dropTask (warnOnce (16 + x.queue) 0x2802 [] (s.rinc .NOQUEUE)), ?_, ?_, ?_, h2, h3⟩
    · show execFragmentWrite g s = _
      unfold execFragmentWrite
      rw [ht]
      dsimp only
      rw [if_neg (by simp [hst, hg]), if_pos (by simp [hq])]
    · show (warnOnce (16 + x.queue) 0x2802 [] (s.rinc .NOQUEUE)).eb.tasks.drop 1 = l
      rw [h1, State.rinc_eb, ht]
      rfl
    · exact (h4.rget _ (by decide) 0).trans (State.rget_rset_same ..)
  · intro rows hr
    have he : exec (.fragmentWrite g) s = .next (writeFragment y s) := by
      show execFragmentWrite g s = _
      unfold execFragmentWrite
      rw [ht]
      dsimp only
      rw [if_neg (by simp [hst, hg]), if_neg (by simp [hq]), if_neg (by simp [hpk, hpr]), hy]
    unfold rows at hr ⊢
    rw [← hyq] at hr ⊢
    obtain ⟨h1, h2, h3⟩ := writeFragment_spec hr
    exact ⟨_, he, by rw [h1, ht]; rfl, h2, h3⟩
  · intro split
    refine ⟨fun h => write_refused (h := hEbGroup u) ha rfl rfl (if_pos h) (by decide), fun h => ?_⟩
    exact write_deferred (h := hEbGroup u) ha rfl rfl (if_neg fun h' => absurd (h.symm.trans h') (by simp))
  · intro other
    refine ⟨fun h => write_deferred (h := hGWindow e u) ha rfl ?_ rfl, fun h => write_outOfRange (h := hGWindow e u) ha rfl ?_⟩
    · exact Nat.ble_eq ▸ h
    · rw [← Bool.not_eq_true]
      exact fun h' => h (Nat.ble_eq ▸ h')
  · refine ⟨_, write_performed (h := hEventPreset) ha rfl rfl rfl, ?_, State.rget_rset_same .., fun k h1 h2 => ?_, rfl⟩
    · rw [State.rget_rset, if_neg (by simp), State.rget_rset_same]
    · exact (mfind_rset_other _ _ h2).trans (mfind_rset_other _ _ h1)

/-! ### Queues -/

theorem bitOf_even (v : Nat) : bitOf (v - v % 2) 0 = false := by
  unfold bitOf
  simp only [pow_zero, Nat.div_one, decide_eq_false_iff_not]
  omega

theorem held_empty : Queue.empty.held = [] := rfl

/-- A queue that is not busy holds no row. -/
theorem held_of_not_busy {x : Queue} (h : x.busy = false) : x.held = [] := by
  unfold Queue.busy at h
  simpa using (Bool.or_eq_false_iff.mp h).1

/-- The row that a producer pushes into its own queue, with free space and its bank ready. -/
theorem pushRow_spec {q : Nat} {row : BitVec 128} {s : State} (hd : (s.queue q).dropping = false)
    (hl : (s.queue q).part.length < s.queueRows q) (hf : s.queueFree q ≠ 0)
    (hr : (rowsReady (s.qClass q) (s.tailRows q 1 (s.rget .Q_TAIL q)).1 s).1 = true) :
    ∃ t : State, (pushRow q row false false s).2 = t.setQueue q { s.queue q with part := (s.queue q).part ++ (s.tailRows q 1 (s.rget .Q_TAIL q)).1 } ∧
      t.queues = s.queues ∧ t.rget .Q_TAIL q = (s.tailRows q 1 (s.rget .Q_TAIL q)).2 := by
  unfold pushRow
  extract_lets x t ready s₁ part s₂
  have hready : ready.1 = true := hr
  have ha : Accessed s s₁ := (rowsReady_accessed ..).trans (writeRows_accessed ..)
  rw [if_neg (by rw [show x.dropping = false from hd]; simp), if_neg (by rw [Nat.ble_eq]; exact Nat.not_le.mpr hl), if_neg hf,
    if_neg (by simp [hready])]
  exact ⟨s₂, rfl, ha.queues, State.rget_rset_same ..⟩

theorem popFragment_of_empty {q : Nat} {s : State} (h : (s.queue q).frags = []) : popFragment q s = (some [], s) := by
  unfold popFragment
  dsimp only
  rw [h]

theorem popFragment_of_frag {q : Nat} {r : List Nat} {l : List (List Nat)} {s : State} (h : (s.queue q).frags = r :: l)
    (hr : (rowsReady (s.qClass q) r s).1 = true) (hd : (deliverRows r (rowsReady (s.qClass q) r s).2).1.2 = false) :
    popFragment q s = (some (deliverRows r (rowsReady (s.qClass q) r s).2).1.1,
      (deliverRows r (rowsReady (s.qClass q) r s).2).2.setQueue q
        { (deliverRows r (rowsReady (s.qClass q) r s).2).2.queue q with frags := l }) := by
  unfold popFragment
  dsimp only
  rw [h]
  dsimp only
  rw [if_neg (by simp [hr]), if_neg (by simp [hd])]

/-- Settles O28: the descriptor by `hQCtrl`, a push by `pushRow`, a pop by `popFragment`. -/
theorem queuesServe : Obligations.QueuesServe := by
  unfold Obligations.QueuesServe
  refine ⟨fun w v s => ?_, fun d q row s hc hp hdr hl hf hr => ?_, fun d q s hc hp => ⟨fun h => ?_, fun r l h hr hd => ?_⟩⟩
  · intro q
    have hon := bitOf_arm v
    have hoff := bitOf_even v
    have hrange {x : Nat} (h31 : bitsOf x 31 10 = 0) (h : bitOf x 0 = false ∨ s.ctrlRefused q x = false) : hQCtrl.range x s = true := by
      simp only [hQCtrl, h31, Bool.and_eq_true, beq_self_eq_true, true_and, Bool.not_eq_true', Bool.and_eq_false_iff]
      exact h
    refine ⟨fun ha h31 he hcr => ⟨fun hb => ?_, fun hb => ?_⟩, fun ha h31 he hcr hv => ⟨fun hb => ?_, fun hb => ?_⟩,
      fun ha h31 he => ⟨fun hv hb => ?_, fun h => ?_⟩, fun ha => ⟨fun he => ?_, fun he hv => ?_⟩⟩
    · exact write_refused (h := hQCtrl) ha rfl (hrange h31 (.inr hcr))
        ((if_neg (by rw [show bitOf (s.rget .Q_CTRL s.qwin) 0 = false from he]; simp)).trans ((if_pos hon).trans (if_pos hb))) (by decide)
    · have hact : hQCtrl.act (v - v % 2 + 1) s =
          .ok (((s.rset .Q_CTRL q (v - v % 2 + 1)).rset .Q_TAIL q (s.rget .Q_BASE q)).setQueue q Queue.empty) :=
        (if_neg (by rw [show bitOf (s.rget .Q_CTRL s.qwin) 0 = false from he]; simp)).trans ((if_pos hon).trans
          (if_neg fun h' => absurd (hb.symm.trans h') (by simp)))
      refine ⟨_, write_performed (h := hQCtrl) ha rfl (hrange h31 (.inr hcr)) hact, ?_, ?_, queue_setQueue .., ?_, ?_⟩
      · rw [(setQueue_leaves ..).rget _ (by decide), State.rget_rset, if_neg (by simp), State.rget_rset_same]
      · rw [(setQueue_leaves ..).rget _ (by decide), State.rget_rset_same]
      · rw [setQueue_level, held_empty]
        rfl
      · rw [setQueue_cells]
        rfl
    · exact write_refused (h := hQCtrl) ha rfl (hrange h31 (.inr hcr))
        ((if_pos he).trans ((if_neg (by simpa using hv)).trans ((if_pos hon).trans (if_pos hb)))) (by decide)
    · exact write_performed (h := hQCtrl) ha rfl (hrange h31 (.inr hcr))
        ((if_pos he).trans ((if_neg (by simpa using hv)).trans ((if_pos hon).trans (if_neg fun h' => absurd (hb.symm.trans h') (by simp)))))
    · have hact : hQCtrl.act (v - v % 2) s = .ok ((s.rset .Q_CTRL q (v - v % 2)).setQueue q Queue.empty) :=
        (if_pos he).trans ((if_neg (by simpa using hv)).trans ((if_neg (by simp [hoff])).trans
          (if_neg fun h' => absurd (hb.symm.trans h') (by simp))))
      have hc : ((s.rset .Q_CTRL q (v - v % 2)).setQueue q Queue.empty).rget .Q_CTRL q = v - v % 2 := by
        rw [(setQueue_leaves ..).rget _ (by decide), State.rget_rset_same]
      refine ⟨_, write_performed (h := hQCtrl) ha rfl (hrange h31 (.inl hoff)) hact, hc, ?_, queue_setQueue ..,
        fun p hp => queue_setQueue_other _ _ hp, ?_⟩
      · rw [State.qEnabled, hc, hoff]
      · obtain ⟨g, m, h⟩ := setQueue_same_length (s := s.rset .Q_CTRL q (v - v % 2)) (q := q) (x := Queue.empty)
          (by rw [show (s.rset .Q_CTRL q (v - v % 2)).queue q = s.queue q from rfl, held_of_not_busy hb, held_empty])
        rw [h]
        rfl
    · refine write_refused (h := hQCtrl) ha rfl (hrange h31 (.inl hoff)) ((if_pos he).trans ?_) (by decide)
      by_cases hv : (v - v % 2) / 2 = s.rget .Q_CTRL q / 2
      · exact (if_neg (by simpa using hv)).trans ((if_neg (by simp [hoff])).trans (if_pos (h.resolve_left fun h' => h' hv)))
      · exact if_pos (by simpa using hv)
    · exact write_refused (h := hQFlush) ha rfl rfl (if_pos he) (by decide)
    · have hact : hQFlush.act v s = .ok (s.setQueue q Queue.empty) :=
        (if_neg fun h' => absurd (he.symm.trans h') (by simp)).trans (congrArg _ (if_pos hv))
      refine ⟨_, write_performed (h := hQFlush) ha rfl rfl hact, queue_setQueue .., ?_, fun p hp => queue_setQueue_other _ _ hp, setQueue_cells ..⟩
      rw [setQueue_level, held_empty]
      rfl
  · obtain ⟨t, ht, hqs, htl⟩ := pushRow_spec (row := row) hdr hl hf hr
    have he : exec (.qpPush d q row false) s = .next (pushRow q row false false s).2 := by
      show execQpPush d q row false s = _
      rw [execQpPush, if_neg (by simp [hc]), if_neg (by simp [hp])]
    rw [ht] at he
    refine ⟨_, he, ?_, ?_, ?_, fun p hpq => ?_⟩
    · rw [queue_setQueue]
    · rw [queue_setQueue]
    · rw [(setQueue_leaves ..).rget _ (by decide), htl]
    · rw [queue_setQueue_other _ _ hpq, queue_congr hqs]
  · show execQpPopRequest d q s = _
    rw [execQpPopRequest, if_neg (by simp [hc]), if_neg (by simp [hp]), popFragment_of_empty h]
  · have he : exec (.qpPopRequest d q) s = .next { (popFragment q s).2 with
        qports := mput (popFragment q s).2.qports d (deliverRows r (rowsReady (s.qClass q) r s).2).1.1
        fabric := { (popFragment q s).2.fabric with
          poppedAt := mput (popFragment q s).2.fabric.poppedAt d (popFragment q s).2.fabric.cycle } } := by
      show execQpPopRequest d q s = _
      rw [execQpPopRequest, if_neg (by simp [hc]), if_neg (by simp [hp]), popFragment_of_frag h hr hd]
    have ha : Accessed s (deliverRows r (rowsReady (s.qClass q) r s).2).2 := (rowsReady_accessed ..).trans (deliverRows_accessed ..)
    rw [popFragment_of_frag h hr hd] at he
    refine ⟨_, he, mfind_mput_same .., ?_, fun p hpq => ?_⟩
    · show (State.queue (State.setQueue ..) q).frags = l
      rw [queue_setQueue]
    · show State.queue (State.setQueue ..) p = _
      rw [queue_setQueue_other _ _ hpq, queue_congr ha.queues]

end Sys2Proof.Machine
end

section

/-! # The trunks' settings and link states (O29, O30) -/

namespace Sys2Proof.Machine

open Sys2Proof.Safety

/-! ### A trunk's state -/

@[simp] theorem trunk_setTrunk (s : State) (k : Nat) (x : Trunk) : (s.setTrunk k x).trunk k = x := mget_mset_same ..

theorem trunk_setTrunk_other (s : State) {k j : Nat} (x : Trunk) (h : j ≠ k) : (s.setTrunk k x).trunk j = s.trunk j :=
  mget_mset_other _ _ _ _ _ _ h

@[simp] theorem trunk_rset (s : State) (e : El) (u v k : Nat) : (s.rset e u v).trunk k = s.trunk k := rfl

@[simp] theorem trunk_rinc (s : State) (e : El) (u k : Nat) : (s.rinc e u).trunk k = s.trunk k := rfl

@[simp] theorem rget_setTrunk (s : State) (k : Nat) (x : Trunk) (e : El) (u : Nat) : (s.setTrunk k x).rget e u = s.rget e u := rfl

theorem trunk_congr {s t : State} (h : t.trunks = s.trunks) (k : Nat) : t.trunk k = s.trunk k := by rw [State.trunk, h, State.trunk]

/-- Nothing but registers and trunks changes. -/
def OnlyTrunks (s t : State) : Prop := ∃ r m, t = { s with regs := r, trunks := m }

namespace OnlyTrunks

theorem refl (s : State) : OnlyTrunks s s := ⟨_, _, rfl⟩

theorem trans {s t r : State} (h : OnlyTrunks s t) (h' : OnlyTrunks t r) : OnlyTrunks s r := by
  obtain ⟨_, _, rfl⟩ := h
  obtain ⟨_, _, rfl⟩ := h'
  exact ⟨_, _, rfl⟩

theorem setTrunk (s : State) (k : Nat) (x : Trunk) : OnlyTrunks s (s.setTrunk k x) := ⟨_, _, rfl⟩

theorem rset (s : State) (e : El) (u v : Nat) : OnlyTrunks s (s.rset e u v) := ⟨_, _, rfl⟩

theorem ite {c : Prop} [Decidable c] {s t r : State} (ht : OnlyTrunks s t) (hr : OnlyTrunks s r) : OnlyTrunks s (if c then t else r) := by
  split
  · exact ht
  · exact hr

theorem frame {s t : State} (h : OnlyTrunks s t) : { t with regs := s.regs, trunks := s.trunks } = s := by
  obtain ⟨_, _, rfl⟩ := h
  rfl

end OnlyTrunks

/-! ### Link states -/

/-- A link that is up passes to TRAINING: lock is lost, and what is not acknowledged is to be resent. -/
theorem toTraining_spec {k : Nat} {s : State} (h : linkState s k = 3 ∨ linkState s k = 4) :
    linkState (toTraining k s) k = 2 ∧ ((toTraining k s).trunk k).lock = false ∧
      ((toTraining k s).trunk k).resend = (s.trunk k).unacked.length ∧
      (toTraining k s).rget .RETRAINS k = Nat.min (s.rget .RETRAINS k + 1) (El.RETRAINS.modulus - 1) := by
  have hst : linkState s k ≠ 2 := by obtain h | h := h <;> rw [h] <;> decide
  have hup : (linkState s k = 2 || linkState s k = 3 || linkState s k = 4) = true := by
    obtain h | h := h <;> rw [h] <;> rfl
  unfold toTraining
  dsimp only
  rw [if_pos hup, if_neg hst]
  refine ⟨State.rget_rset_same .., ?_, ?_, ?_⟩
  · rw [trunk_rset, trunk_setTrunk]
  · rw [trunk_rset, trunk_setTrunk]
    rfl
  · rw [State.rget_rset, if_neg (by simp)]
    exact State.rget_rset_same ..

theorem toTraining_onlyTrunks (k : Nat) (s : State) : OnlyTrunks s (toTraining k s) := by
  unfold toTraining
  exact .ite ((OnlyTrunks.ite (.refl s) (.rset ..)).trans ((OnlyTrunks.setTrunk ..).trans (.rset ..))) (.refl s)

theorem enterUp_onlyTrunks (k : Nat) (s : State) : OnlyTrunks s (enterUp k s) :=
  (OnlyTrunks.ite (.refl s) (.rset ..)).trans ((OnlyTrunks.setTrunk ..).trans (.rset ..))

/-- What entry into UP keeps of a trunk. -/
theorem enterUp_trunk (k : Nat) (s : State) : ((enterUp k s).trunk k).lock = (s.trunk k).lock ∧
    ((enterUp k s).trunk k).remoteReady = (s.trunk k).remoteReady ∧ ((enterUp k s).trunk k).seen = (s.trunk k).seen ∧
    ((enterUp k s).trunk k).badWords = (s.trunk k).badWords := by
  unfold enterUp
  extract_lets x s₁
  rw [trunk_rset, trunk_setTrunk]
  exact ⟨rfl, rfl, rfl, rfl⟩

theorem enterUp_leaves (k : Nat) (s : State) : Leaves [.REPLAYS, .LINK_STATE] s (enterUp k s) := by
  unfold enterUp
  extract_lets x s₁
  have h₁ : Leaves [.REPLAYS, .LINK_STATE] s s₁ := .ite (.refl s) (.rinc (by decide) ..)
  exact h₁.trans (.trans (t := s₁.setTrunk k _) (.of_regs rfl) (.rset (by decide) ..))

theorem settleLink_onlyTrunks (k : Nat) (s : State) : OnlyTrunks s (settleLink k s) :=
  .ite (.ite (.ite (.refl s) (enterUp_onlyTrunks k s)) (.rset ..)) (.refl s)

theorem settleLink_trunk (k : Nat) (s : State) : ((settleLink k s).trunk k).lock = (s.trunk k).lock ∧
    ((settleLink k s).trunk k).remoteReady = (s.trunk k).remoteReady ∧ ((settleLink k s).trunk k).seen = (s.trunk k).seen ∧
    ((settleLink k s).trunk k).badWords = (s.trunk k).badWords := by
  unfold settleLink
  extract_lets x st
  split
  · split
    · split
      · exact ⟨rfl, rfl, rfl, rfl⟩
      · exact enterUp_trunk k s
    · exact ⟨rfl, rfl, rfl, rfl⟩
  · exact ⟨rfl, rfl, rfl, rfl⟩

theorem settleLink_leaves (k : Nat) (s : State) : Leaves [.REPLAYS, .LINK_STATE] s (settleLink k s) :=
  .ite (.ite (.ite (.refl s) (enterUp_leaves k s)) (.rset (by decide) ..)) (.refl s)

/-- Training that ends with lock leads to UP or UP_NOT_READY. -/
theorem settleLink_trained {k : Nat} {s : State} (h : linkState s k = 2) (hl : (s.trunk k).lock = true) :
    linkState (settleLink k s) k = if s.bothReady k then 4 else 3 := by
  unfold settleLink
  dsimp only
  rw [if_pos (by simp [h, hl])]
  split
  · rw [if_neg (by simp [h])]
    exact State.rget_rset_same ..
  · exact State.rget_rset_same ..

/-- An EPOCH that is the partner's is noted and nothing else. -/
theorem noteEpoch_same {k e : Nat} {s : State} (h : (s.trunk k).partner = some e) :
    noteEpoch k e s = s.setTrunk k { s.trunk k with seen := e } := by
  unfold noteEpoch
  dsimp only
  rw [h]
  exact if_pos rfl

/-- READY of a partner whose EPOCH is known. -/
theorem takeReady_spec {k : Nat} {b : BitVec 256} {s : State} (h : (s.trunk k).partner = some (bitsOf b.toNat 31 16)) :
    ((takeReady k b s).trunk k).remoteReady = bitOf b.toNat 8 ∧ ((takeReady k b s).trunk k).seen = bitsOf b.toNat 31 16 ∧
      ((takeReady k b s).trunk k).badWords = (s.trunk k).badWords ∧ OnlyTrunks s (takeReady k b s) ∧
      Leaves [.REPLAYS, .LINK_STATE] s (takeReady k b s) := by
  unfold takeReady
  rw [noteEpoch_same h]
  dsimp only
  rw [trunk_setTrunk]
  obtain ⟨-, h1, h2, h3⟩ := settleLink_trunk k ((s.setTrunk k { s.trunk k with seen := bitsOf b.toNat 31 16 }).setTrunk k
    { s.trunk k with seen := bitsOf b.toNat 31 16, remoteReady := bitOf b.toNat 8 })
  rw [trunk_setTrunk] at h1 h2 h3
  exact ⟨h1, h2, h3, (OnlyTrunks.setTrunk ..).trans ((OnlyTrunks.setTrunk ..).trans (settleLink_onlyTrunks ..)),
    .trans (t := (s.setTrunk k _).setTrunk k _) (.of_regs rfl) (settleLink_leaves ..)⟩

/-! ### Codewords -/

theorem corrected_filter (es : List Nat) : es.filter (fun e => e != 0 && !wordLost e) = es.filter (fun e => 1 ≤ e && e ≤ 15) := by
  refine List.filter_congr fun e _ => ?_
  rw [Bool.eq_iff_iff]
  simp only [wordLost, correctedSymbols, Bool.and_eq_true, bne_iff_ne, Bool.not_eq_true', ← Bool.not_eq_true, Nat.blt_eq, decide_eq_true_eq]
  omega

theorem lost_filter (es : List Nat) : es.filter wordLost = es.filter (fun e => 16 ≤ e) := by
  refine List.filter_congr fun e _ => ?_
  rw [Bool.eq_iff_iff, wordLost, Nat.blt_eq, decide_eq_true_eq]
  rfl

theorem countWords_onlyTrunks (k : Nat) (es : List Nat) (s : State) : OnlyTrunks s (countWords k es s) :=
  (OnlyTrunks.rset ..).trans (.rset ..)

theorem countWords_counts (k : Nat) (es : List Nat) (s : State) :
    (countWords k es s).rget .FEC_CORRECTED k = Nat.min (s.rget .FEC_CORRECTED k + (es.filter (fun e => 1 ≤ e && e ≤ 15)).length)
        (El.FEC_CORRECTED.modulus - 1) ∧
      (countWords k es s).rget .FEC_UNCORR k = Nat.min (s.rget .FEC_UNCORR k + (es.filter (fun e => 16 ≤ e)).length)
        (El.FEC_UNCORR.modulus - 1) := by
  unfold countWords
  rw [corrected_filter, lost_filter]
  refine ⟨?_, ?_⟩
  · rw [State.rget_radd, if_neg (by simp), State.rget_radd, if_pos ⟨rfl, rfl⟩]
  · rw [State.rget_radd, if_pos ⟨rfl, rfl⟩, State.rget_radd, if_neg (by simp)]

theorem countWords_leaves (k : Nat) (es : List Nat) (s : State) : Leaves [.FEC_CORRECTED, .FEC_UNCORR] s (countWords k es s) :=
  (Leaves.radd (by decide) ..).trans (.radd (by decide) ..)

theorem linked_of_up {k : Nat} {s : State} (h : linkState s k = 3 ∨ linkState s k = 4) : s.linked k = true := by
  rw [State.linked, Bool.or_eq_true, beq_iff_eq, beq_iff_eq]
  exact h

/-- A MARK under lock whose codewords keep it. -/
theorem execMarkReceived_kept {k : Nat} {m : MarkSpan} {s : State} (hr : s.receives k = true)
    (hp : (s.trunk k).partner = some (bitsOf m.block.toNat 31 16)) (hrun : (lostRun (s.trunk k).badWords m.errors).2 = false)
    (ha : absentMarks m.errors < 2) :
    execMarkReceived k m s = .next (takeReady k m.block ((countWords k m.errors s).setTrunk k
      { s.trunk k with badWords := (lostRun (s.trunk k).badWords m.errors).1 })) := by
  unfold execMarkReceived
  dsimp only
  rw [if_pos hr, if_neg]
  rw [hrun, Bool.false_or, Nat.ble_eq]
  exact Nat.not_le.mpr ha

theorem execMarkReceived_lost {k : Nat} {m : MarkSpan} {s : State} (hr : s.receives k = true)
    (h : (lostRun (s.trunk k).badWords m.errors).2 = true ∨ 2 ≤ absentMarks m.errors) :
    execMarkReceived k m s = .next (toTraining k (countWords k m.errors s)) := by
  unfold execMarkReceived
  dsimp only
  rw [if_pos hr, if_pos]
  rw [Bool.or_eq_true, Nat.ble_eq]
  exact h

/-- Settles O30: `toTraining`, `settleLink` and `takeReady` say what each event does to a link. -/
theorem trunkLinkStates : Obligations.TrunkLinkStates := by
  unfold Obligations.TrunkLinkStates
  intro k s
  refine ⟨fun h => ?_, fun h hm hn => ?_, fun h hm => ?_, fun h => ?_, fun h hl => ?_, fun h hr => ?_, fun b hr hp => ?_,
    fun m hr hp hrun ha => ?_, fun m hr h hrun => ?_, fun m hr h hm => ?_, fun h hm => ?_, fun b hr hb => ?_⟩
  · have he : exec (.trunkPllLock k) s = .next ((s.setTrunk k { s.trunk k with pll := true }).rset .LINK_STATE k 2) :=
      congrArg Host.Outcome.next (if_pos h)
    refine ⟨_, he, State.rget_rset_same .., ?_, ((OnlyTrunks.setTrunk ..).trans (.rset ..)).frame⟩
    rw [trunk_rset, trunk_setTrunk]
  · refine congrArg Host.Outcome.next (if_neg ?_)
    rw [hm, Bool.and_eq_true, Bool.or_eq_true, Nat.ble_eq]
    rintro ⟨-, h' | h'⟩
    · cases h'
    · exact absurd h' (Nat.not_le.mpr hn)
  · have hc : (linkState s k = 2 && (s.rget .TK_MODE k != 0 || Nat.ble lockMarks (s.trunk k).marksIn)) = true := by
      simpa [h, Nat.ble_eq] using hm
    have he : exec (.codewordLock k) s = .next (settleLink k (s.setTrunk k { s.trunk k with lock := true })) :=
      congrArg Host.Outcome.next (if_pos hc)
    refine ⟨_, he, ?_, ?_, ((OnlyTrunks.setTrunk ..).trans (settleLink_onlyTrunks ..)).frame⟩
    · rw [(settleLink_trunk ..).1, trunk_setTrunk]
    · rw [settleLink_trained (s := s.setTrunk k { s.trunk k with lock := true }) h (by rw [trunk_setTrunk])]
      have hb : (s.setTrunk k { s.trunk k with lock := true }).bothReady k = s.bothReady k := by
        unfold State.bothReady
        rw [trunk_setTrunk]
        rfl
      rw [hb]
  · exact congrArg Host.Outcome.next (if_pos h)
  · have he : ∀ i ∈ [Instr.codewordLockLost k, .partnerTrainingRequest k], exec i s = .next (toTraining k s) := by
      intro i hi
      rw [List.mem_cons, List.mem_singleton] at hi
      obtain rfl | rfl := hi
      · exact congrArg Host.Outcome.next (if_pos hl)
      · rfl
    obtain ⟨h1, h2, h3, -⟩ := toTraining_spec h
    exact fun i hi => ⟨_, he i hi, h1, h2, h3, (toTraining_onlyTrunks k s).frame⟩
  · obtain ⟨h1, h2, -, -⟩ := toTraining_spec h
    have ho := toTraining_onlyTrunks k s
    refine ⟨_, congrArg Host.Outcome.next (if_pos hr), ?_, ?_, ?_⟩
    · exact (raise_rget _ _ _ _ _ _ (by decide)).trans h1
    · rw [trunk_congr (raise_trunks ..), h2]
    · obtain ⟨g, r, hg⟩ := raise_frame (toTraining k s) sevWarning 0x1801 k []
      rw [hg]
      obtain ⟨_, _, ht⟩ := ho
      rw [ht]
  · obtain ⟨h1, h2, -, h4, -⟩ := takeReady_spec hp
    exact ⟨_, congrArg Host.Outcome.next (if_pos hr), h1, h2, h4.frame⟩
  · obtain ⟨h1, h2, h3, h4, h5⟩ := takeReady_spec (k := k) (b := m.block) (s := (countWords k m.errors s).setTrunk k
      { s.trunk k with badWords := (lostRun (s.trunk k).badWords m.errors).1 }) (by rw [trunk_setTrunk]; exact hp)
    rw [trunk_setTrunk] at h3
    obtain ⟨c1, c2⟩ := countWords_counts k m.errors s
    exact ⟨_, execMarkReceived_kept hr hp hrun ha, h1, h2, h3, (h5.rget _ (by decide) k).trans c1, (h5.rget _ (by decide) k).trans c2,
      ((countWords_onlyTrunks ..).trans ((OnlyTrunks.setTrunk ..).trans h4)).frame⟩
  · have hc : linkState (countWords k m.errors s) k = linkState s k := (countWords_leaves k m.errors s).rget _ (by decide) k
    obtain ⟨h1, h2, -, -⟩ := toTraining_spec (s := countWords k m.errors s) (hc.symm ▸ h)
    exact ⟨_, execMarkReceived_lost hr hrun, h1, h2, ((countWords_onlyTrunks ..).trans (toTraining_onlyTrunks ..)).frame⟩
  · show execMarkReceived k m s = _
    unfold execMarkReceived
    dsimp only
    rw [if_neg (by simp [hr]), if_pos (by simp [h, hm])]
    simp only [Bool.and_eq_true, bne_iff_ne, ne_eq, beq_iff_eq, markSpacing]
  · refine if_pos ?_
    obtain h | h | h := h <;> simp [h, hm]
  · refine congrArg Host.Outcome.next (if_pos ?_)
    simpa [hr] using hb

/-! ### Settings -/

/-- An enabled trunk without a test pattern trains, or waits for its PLL. -/
theorem startTrunk_runs {k : Nat} {s : State} (hs : (s.trunk k).stopped = false) (hr : s.trunkRuns k = true) (hp : s.rget .TK_PRBS k = 0) :
    startTrunk k s = s.rset .LINK_STATE k (if (s.trunk k).pll then 2 else 1) := by
  unfold startTrunk
  dsimp only
  rw [if_neg (by simp [hs]), if_neg (by simp [hr]), if_neg (by simp [hp])]

/-- A trunk that does not run any more is off. -/
theorem startTrunk_off {k : Nat} {s : State} (hs : (s.trunk k).stopped = false) (hr : s.trunkRuns k = false) :
    (startTrunk k s).rget .LINK_STATE k = 0 ∧ ((startTrunk k s).trunk k).lock = false ∧
      (∀ j, j ≠ k → (startTrunk k s).trunk j = s.trunk j) := by
  unfold startTrunk
  dsimp only
  rw [if_neg (by simp [hs]), if_pos (by simp [hr])]
  refine ⟨State.rget_rset_same .., ?_, fun j hj => trunk_setTrunk_other _ _ hj⟩
  rw [trunk_rset, trunk_setTrunk]

/-- A test pattern of an enabled trunk. -/
theorem startTrunk_pattern {k : Nat} {s : State} (hs : (s.trunk k).stopped = false) (hr : s.trunkRuns k = true) (hp : s.rget .TK_PRBS k ≠ 0) :
    (startTrunk k s).rget .LINK_STATE k = 5 ∧ ((startTrunk k s).trunk k).lock = false := by
  unfold startTrunk
  dsimp only
  rw [if_neg (by simp [hs]), if_neg (by simp [hr]), if_pos (by simpa using hp)]
  refine ⟨State.rget_rset_same .., ?_⟩
  rw [trunk_rset, trunk_setTrunk]

theorem startTrunk_onlyTrunks (k : Nat) (s : State) : OnlyTrunks s (startTrunk k s) :=
  .ite (.rset ..) (.ite ((OnlyTrunks.setTrunk ..).trans (.rset ..)) (.ite ((OnlyTrunks.setTrunk ..).trans (.rset ..)) (.rset ..)))

theorem startTrunk_leaves (k : Nat) (s : State) : Leaves [.LINK_STATE] s (startTrunk k s) := by
  have h (x : Trunk) (v : Nat) : Leaves [.LINK_STATE] s ((s.setTrunk k x).rset .LINK_STATE k v) :=
    .trans (t := s.setTrunk k x) (.of_regs rfl) (.rset (by decide) ..)
  exact .ite (.rset (by decide) ..) (.ite (h ..) (.ite (h ..) (.rset (by decide) ..)))

/-- Both directions restart from SEQ 0. -/
theorem restartSeq_spec (k : Nat) (s : State) : (restartSeq k s).rget .RX_EXPECT k = 0 ∧
    (restartSeq k s).rget .TX_SEQ k = (s.trunk k).unacked.length % 65536 ∧ ((restartSeq k s).trunk k).resend = (s.trunk k).unacked.length ∧
    ((restartSeq k s).trunk k).unacked = renumber 0 (s.trunk k).unacked ∧ OnlyTrunks s (restartSeq k s) := by
  unfold restartSeq
  extract_lets x n s₁
  have h₁ : OnlyTrunks s s₁ := .ite (.rset ..) (.refl s)
  refine ⟨?_, State.rget_rset_same .., ?_, ?_, h₁.trans ((OnlyTrunks.setTrunk ..).trans ((OnlyTrunks.rset ..).trans (.rset ..)))⟩
  · rw [State.rget_rset, if_neg (by simp), State.rget_rset_same]
  · rw [trunk_rset, trunk_rset, trunk_setTrunk]
  · rw [trunk_rset, trunk_rset, trunk_setTrunk]

/-- Settles O29: the settings by their handlers, the starts of a trunk by `startTrunk`. -/
theorem trunkSettings : Obligations.TrunkSettings := by
  unfold Obligations.TrunkSettings
  intro w k v s
  refine ⟨fun ha h => ?_, fun ha h => ?_, fun ha hs hne => ⟨fun hv hp => ?_, fun hv hb => ?_⟩,
    fun ha => ⟨fun hv hn => ?_, fun hv h1 h2 hne hs hen => ?_⟩, fun ha hv h => ?_, fun ha hv => ?_⟩
  · have hr : (hTkRate k).range v s = true := by simpa [hTkRate] using h
    exact ⟨fun hen => write_refused (h := hTkRate k) ha rfl hr (if_pos hen) (by decide),
      fun hen => write_stores (h := hTkRate k) ha rfl hr (if_neg (by simp [hen]))⟩
  · have hr : (hTkMode k).range v s = true := by simpa [hTkMode] using h
    refine ⟨fun hen => write_refused (h := hTkMode k) ha rfl hr (if_pos (by simpa using hen)) (by decide),
      fun hen ht => write_stores (h := hTkMode k) ha rfl hr (if_neg ?_)⟩
    simpa [hen, or_iff_not_imp_left] using ht
  · subst hv
    have hrun : (s.rset .TK_ENABLE k 1).trunkRuns k = true := by
      rw [State.trunkRuns, State.rflag, State.rget_rset_same]
      rfl
    have hact : (hTkEnable k).act 1 s = .ok ((s.rset .TK_ENABLE k 1).rset .LINK_STATE k (if (s.trunk k).pll then 2 else 1)) :=
      congrArg Except.ok ((if_neg hne).trans (startTrunk_runs hs hrun (by rw [State.rget_rset, if_neg (by simp), hp])))
    refine ⟨_, write_performed (h := hTkEnable k) ha rfl rfl hact, ?_, State.rget_rset_same .., rfl⟩
    rw [State.rget_rset, if_neg (by simp), State.rget_rset_same]
  · subst hv
    have hrun : (s.rset .TK_ENABLE k 0).trunkRuns k = false := by
      have hb' : (s.rset .TK_ENABLE k 0).bootSrc = s.bootSrc := by
        unfold State.bootSrc
        rw [State.rget_rset, if_neg (by simp)]
      rw [State.trunkRuns, State.rflag, State.rget_rset_same, hb']
      simpa [imp_iff_not_or] using hb
    have hact : (hTkEnable k).act 0 s = .ok (startTrunk k (s.rset .TK_ENABLE k 0)) := congrArg Except.ok (if_neg hne)
    obtain ⟨h1, h2, h3⟩ := startTrunk_off (s := s.rset .TK_ENABLE k 0) hs hrun
    refine ⟨_, write_performed (h := hTkEnable k) ha rfl rfl hact, ?_, h1, h2, h3, ((OnlyTrunks.rset ..).trans (startTrunk_onlyTrunks ..)).frame⟩
    rw [(startTrunk_leaves ..).rget _ (by decide), State.rget_rset_same]
  · exact write_refused (h := hTkPrbs k) ha rfl rfl (if_pos (by simpa [hv] using hn)) (by decide)
  · have hact : (hTkPrbs k).act v s = .ok (startTrunk k (s.rset .TK_PRBS k v)) := (if_neg (by simp [h1, h2])).trans (if_neg hne)
    have hrun : (s.rset .TK_PRBS k v).trunkRuns k = true := by
      rw [State.trunkRuns, State.rflag, State.rget_rset, if_neg (by simp), Bool.or_eq_true]
      exact .inl hen
    obtain ⟨p1, p2⟩ := startTrunk_pattern (s := s.rset .TK_PRBS k v) hs hrun (by rw [State.rget_rset_same]; exact hv)
    refine ⟨_, write_performed (h := hTkPrbs k) ha rfl rfl hact, ?_, p1, p2, ((OnlyTrunks.rset ..).trans (startTrunk_onlyTrunks ..)).frame⟩
    rw [(startTrunk_leaves ..).rget _ (by decide), State.rget_rset_same]
  · obtain ⟨h1, h2, h3, h4⟩ := toTraining_spec h
    exact ⟨_, write_performed (h := hRetrain k) ha rfl rfl (congrArg Except.ok (if_pos hv)), h1, h2, h3, h4, (toTraining_onlyTrunks k s).frame⟩
  · obtain ⟨h1, h2, h3, h4, h5⟩ := restartSeq_spec k (s.draw.2.setTrunk k { s.draw.2.trunk k with epoch := (Config.epoch s.draw.1).toNat })
    rw [trunk_setTrunk] at h2 h3 h4
    refine ⟨_, write_performed (h := hTkReset k) ha rfl rfl (congrArg Except.ok (if_pos hv)), h1, h2, h3, h4, ?_⟩
    obtain ⟨r, m, he⟩ := h5
    show _ = s
    rw [he]
    rfl

end Sys2Proof.Machine
end

section

/-! # The trunks' packets, C0 channel and Ethernet frames (O31, O32) -/

namespace Sys2Proof.Machine

open Sys2Proof.Safety

/-! ### Acknowledgement -/

/-- Nothing but the trunks changes. -/
def TrunksAlone (s t : State) : Prop := ∃ m, t = { s with trunks := m }

namespace TrunksAlone

theorem trans {s t r : State} (h : TrunksAlone s t) (h' : TrunksAlone t r) : TrunksAlone s r := by
  obtain ⟨_, rfl⟩ := h
  obtain ⟨_, rfl⟩ := h'
  exact ⟨_, rfl⟩

theorem setTrunk (s : State) (k : Nat) (x : Trunk) : TrunksAlone s (s.setTrunk k x) := ⟨_, rfl⟩

theorem frame {s t : State} (h : TrunksAlone s t) : { t with trunks := s.trunks } = s := by
  obtain ⟨_, rfl⟩ := h
  rfl

end TrunksAlone

theorem setQueue_trunks (s : State) (q : Nat) (x : Queue) : (s.setQueue q x).trunks = s.trunks := by
  obtain ⟨r, m, i, h⟩ := setQueue_frame s q x
  rw [h]

theorem Accessed.trunks {s t : State} (h : Accessed s t) : t.trunks = s.trunks := by
  obtain ⟨⟨c, b, l, x, g, r, n, f, u, m, d, i, o, rfl⟩, -⟩ := h
  rfl

/-- What a row's way into a queue and out of it may write. -/
def rowEls : List El := [.Q_HEAD, .Q_LEVEL, .Q_TAIL, .Q_OVERSIZE, .Q_STALLS, .Q_FRAGMENTS, .RX_NOQUEUE] ++ accessEls

/-- The trunks are as before, and so are the registers that no row moves. -/
def RowMoves (s t : State) : Prop := t.trunks = s.trunks ∧ Leaves rowEls s t

namespace RowMoves

theorem refl (s : State) : RowMoves s s := ⟨rfl, .refl s⟩

theorem trans {s t r : State} (h : RowMoves s t) (h' : RowMoves t r) : RowMoves s r := ⟨h'.1.trans h.1, h.2.trans h'.2⟩

theorem setQueue (s : State) (q : Nat) (x : Queue) : RowMoves s (s.setQueue q x) :=
  ⟨setQueue_trunks .., (setQueue_leaves ..).mono (by decide)⟩

theorem rset {e : El} (he : e ∈ rowEls) (s : State) (u v : Nat) : RowMoves s (s.rset e u v) := ⟨rfl, .rset he ..⟩

theorem rinc {e : El} (he : e ∈ rowEls) (s : State) (u : Nat) : RowMoves s (s.rinc e u) := ⟨rfl, .rinc he ..⟩

theorem raise (s : State) (v c u : Nat) (d : Bytes) : RowMoves s (s.raise v c u d) := ⟨raise_trunks .., .raise (by decide) ..⟩

theorem accessed {s t : State} (h : Accessed s t) : RowMoves s t := ⟨h.trunks, h.regs.mono (List.subset_append_right ..)⟩

end RowMoves

/-- Packets acknowledged leave the list; no bank word changes. -/
theorem acknowledge_spec (k n : Nat) (s : State) : ((acknowledge k n s).trunk k).unacked = (s.trunk k).unacked.drop n ∧
    (acknowledge k n s).cells = s.cells := by
  unfold acknowledge
  extract_lets x gone s₁ s₂
  have h₁ : s₂.trunks = s₁.trunks ∧ s₂.cells = s.cells := by
    unfold s₂
    split
    · exact ⟨rfl, rfl⟩
    · exact ⟨rfl, rfl⟩
  have hf (t : State) (p : SentPacket) : (if p.frees && p.eof then freeFragment p.queue t else t).trunks = t.trunks := by
    split
    · exact setQueue_trunks ..
    · rfl
  have hg (t : State) (p : SentPacket) : (if p.frees && p.eof then freeFragment p.queue t else t).cells = t.cells := by
    split
    · exact setQueue_cells ..
    · rfl
  refine ⟨?_, ?_⟩
  · rw [trunk_congr (foldl_keeps State.trunks hf gone s₂), trunk_congr h₁.1]
    unfold s₁
    rw [trunk_setTrunk]
  · rw [foldl_keeps State.cells hg gone s₂, h₁.2]

/-- A LINK block without NAK of the partner's known EPOCH. -/
theorem execLinkBlockReceived_spec {k : Nat} {b : BitVec 256} {s : State} (hr : s.receives k = true)
    (hp : (s.trunk k).partner = some (bitsOf b.toNat 95 80)) (hn : bitOf b.toNat 8 = false) :
    ∃ t, execLinkBlockReceived k b s = .next t ∧
      (t.trunk k).cred = [bitsOf b.toNat 47 32, bitsOf b.toNat 63 48, bitsOf b.toNat 79 64] ∧
      (t.trunk k).unacked = (s.trunk k).unacked.drop (ackCount (s.trunk k) (bitsOf b.toNat 31 16)) ∧ t.cells = s.cells := by
  unfold execLinkBlockReceived
  rw [if_neg (by simp [hr])]
  dsimp only
  rw [noteEpoch_same hp, hn]
  dsimp only
  obtain ⟨h1, h2⟩ := acknowledge_spec k (ackCount { s.trunk k with seen := bitsOf b.toNat 95 80 } (bitsOf b.toNat 31 16))
    (s.setTrunk k { s.trunk k with seen := bitsOf b.toNat 95 80 })
  rw [trunk_setTrunk] at h1
  refine ⟨_, if_neg (by simp), ?_, ?_, ?_⟩
  · rw [trunk_setTrunk]
  · rw [trunk_setTrunk, trunk_setTrunk]
    exact h1
  · rw [trunk_setTrunk]
    exact h2

/-- The low fields of a LINK block: its type, NAK and the SEQ it acknowledges. -/
theorem linkFields (f : Bool) (a c : Nat) :
    bitsOf (0xA5 + flagBit f 8 + a * 2 ^ 16 + c * 2 ^ 32) 7 0 = 0xA5 ∧ bitOf (0xA5 + flagBit f 8 + a * 2 ^ 16 + c * 2 ^ 32) 8 = f ∧
      bitsOf (0xA5 + flagBit f 8 + a * 2 ^ 16 + c * 2 ^ 32) 31 16 = a % 65536 := by
  unfold bitsOf bitOf
  cases f
  · rw [show flagBit false 8 = 0 from rfl]
    exact ⟨by omega, decide_eq_false (by omega), by omega⟩
  · rw [show flagBit true 8 = 256 from rfl]
    exact ⟨by omega, decide_eq_true (by omega), by omega⟩

theorem execLinkBlockSend_spec {k : Nat} {s : State} (hl : s.linked k = true) (hm : s.rget .TK_MODE k = 0) :
    ∃ t b, execLinkBlockSend k s = .next t ∧ t.trunk k = { s.trunk k with nakDue := false, out := [controlBlock b] } ∧
      bitsOf b 7 0 = 0xA5 ∧ bitOf b 8 = (s.trunk k).nakDue ∧
      bitsOf b 31 16 = (if (s.trunk k).nakDue then s.rget .RX_EXPECT k else s.rget .RX_EXPECT k + 65535) % 65536 ∧
      { t with trunks := s.trunks } = s := by
  unfold execLinkBlockSend
  rw [if_neg (by simp [hl, hm])]
  extract_lets x e ack c b
  have hsum : b = 0xA5 + flagBit x.nakDue 8 + ack * 2 ^ 16 + (c 1 + c 2 * 2 ^ 16 + c 3 * 2 ^ 32 + x.epoch % 65536 * 2 ^ 48) * 2 ^ 32 := by
    unfold b
    omega
  have hack : ack % 65536 = (if x.nakDue then e else e + 65535) % 65536 := by
    unfold ack
    split
    · rfl
    · exact Nat.mod_mod ..
  obtain ⟨h1, h2, h3⟩ := linkFields x.nakDue ack (c 1 + c 2 * 2 ^ 16 + c 3 * 2 ^ 32 + x.epoch % 65536 * 2 ^ 48)
  rw [← hsum] at h1 h2 h3
  refine ⟨_, b, rfl, ?_, h1, h2, h3.trans hack, ((TrunksAlone.setTrunk ..).trans (.setTrunk ..)).frame⟩
  rw [sendBlocks, trunk_setTrunk, trunk_setTrunk]

/-- A timeout below the sixteenth in a row. -/
theorem execReplayTimeout_spec {k : Nat} {s : State} (hl : s.linked k = true) (hu : (s.trunk k).unacked ≠ [])
    (ht : (s.trunk k).timeouts < 15) :
    ∃ m x, execReplayTimeout k s = .next ((m.setTrunk k x).rinc .REPLAYS k) ∧ x.resend = (s.trunk k).unacked.length ∧
      x.timeouts = (s.trunk k).timeouts + 1 ∧ m.regs = s.regs ∧ OnlyTrunks s m := by
  unfold execReplayTimeout
  extract_lets x s₁
  have hl' : s₁.linked k = true := hl
  have hx : s₁.trunk k = { x with nakSent := false } := trunk_setTrunk ..
  rw [if_neg (by simp [hl', x, hu]), if_neg (by rw [Nat.ble_eq]; exact Nat.not_le.mpr ht)]
  exact ⟨s₁, _, rfl, rfl, rfl, rfl, .setTrunk ..⟩

/-! ### Packets sent -/

theorem sendPacket_spec (k : Nat) (p : SentPacket) (s : State) : ((sendPacket k p s).trunk k).unacked = (s.trunk k).unacked ∧
    Leaves accessEls s (sendPacket k p s) := by
  have ha : Accessed s (packetData p.rows s).2 := takeRows_accessed ..
  unfold sendPacket
  extract_lets d data s₁ x
  refine ⟨?_, ha.regs.trans (.of_regs rfl)⟩
  rw [trunk_setTrunk]
  have hx : x = { d.2.trunk k with out := startBlock p d.1.2 data.length :: rowBlocks data } := trunk_setTrunk ..
  rw [hx]
  show (d.2.trunk k).unacked = _
  rw [trunk_congr ha.trunks]

/-- A new packet takes the next SEQ and waits for its acknowledgement. -/
theorem sendNew_spec (k : Nat) (p : SentPacket) (s : State) :
    (sendNew k p s).rget .TX_SEQ k = (s.rget .TX_SEQ k + 1) % 65536 ∧
      ((sendNew k p s).trunk k).unacked.length = (s.trunk k).unacked.length + 1 := by
  unfold sendNew
  extract_lets seq p' s₁
  obtain ⟨h1, h2⟩ := sendPacket_spec k p' (s.rset .TX_SEQ k ((seq + 1) % 65536))
  refine ⟨?_, ?_⟩
  · rw [rget_setTrunk, h2.rget _ (by decide), State.rget_rset_same]
  · rw [trunk_setTrunk]
    show (((s₁.trunk k).unacked) ++ [p']).length = _
    rw [h1, trunk_rset, List.length_append, List.length_singleton]

theorem skipToTail_rowMoves (q : Nat) (s : State) : RowMoves s (skipToTail q s) := (RowMoves.setQueue ..).trans (.raise ..)

/-- Taking a queue's next packet changes no trunk and no SEQ. -/
theorem nextPacket_rowMoves (q n : Nat) (s : State) : RowMoves s (nextPacket q n s).2 := by
  unfold nextPacket
  extract_lets x rows sof base w0 w3 d s₁ cut eof
  split
  · have hd : RowMoves s d.2 := .accessed (deliverRows_accessed ..)
    have h₁ : RowMoves s s₁ := by
      unfold s₁
      split
      · exact hd.trans (skipToTail_rowMoves ..)
      · exact hd
    exact h₁.trans (.setQueue ..)
  · exact .setQueue ..

/-- The chosen packet goes out as a new one. -/
theorem execPacketSend_spec {k : Nat} {s : State} {p : Candidate} (hl : s.linked k = true) (hm : s.rget .TK_MODE k = 0)
    (hr : (s.trunk k).resend = 0) (hu : (s.trunk k).unacked.length < unackedLimit)
    (hc : chooseAmong (s.trunk k) ((s.headPackets k packetRows).filter (creditAllows (s.trunk k))) = some p)
    (hk : p.key = mgmtKey → (s.trunk k).mgmtOut ≠ []) (hq : p.key ≠ mgmtKey → (packetReady p.key packetRows s).1 = true) :
    ∃ a t, execPacketSend k s = .next (sendNew k a t) ∧ t.rget .TX_SEQ k = s.rget .TX_SEQ k ∧
      (t.trunk k).unacked = (s.trunk k).unacked := by
  unfold execPacketSend
  rw [if_neg (by simp [hl, hm])]
  extract_lets x all
  rw [if_neg (by simp [x, hr]), if_neg (by rw [Nat.ble_eq]; exact Nat.not_le.mpr hu)]
  split
  · next h => cases hc.symm.trans h
  · next p' h =>
    obtain rfl : p = p' := Option.some.inj (hc.symm.trans h)
    split
    · next hkey =>
      have hne : (countTurns all p x).mgmtOut ≠ [] := hk hkey
      unfold sendMgmt
      dsimp only
      rw [trunk_setTrunk]
      split
      · next h => exact absurd h hne
      · refine ⟨_, _, rfl, rfl, ?_⟩
        rw [trunk_setTrunk]
        rfl
    · next hkey =>
      extract_lets r n
      have hready : r.1 = true := hq hkey
      have ha : Accessed s r.2 := rowsReady_accessed ..
      obtain ⟨h1, h2⟩ := nextPacket_rowMoves p.key packetRows (r.2.setTrunk k (countTurns all p (r.2.trunk k)))
      rw [if_neg (by simp [hready])]
      refine ⟨n.1, n.2, rfl, (h2.rget _ (by decide) k).trans (ha.regs.rget _ (by decide) k), ?_⟩
      rw [trunk_congr h1, trunk_setTrunk]
      show (r.2.trunk k).unacked = _
      rw [trunk_congr ha.trunks]

/-! ### Packets received -/

theorem freeBlocks_trunk (k c n : Nat) (s : State) : (freeBlocks k c n s).trunk k =
    { s.trunk k with freed := addClass (s.trunk k).freed c n } := trunk_setTrunk ..

theorem pushRow_rowMoves (q : Nat) (r : BitVec 128) (poison last : Bool) (s : State) : RowMoves s (pushRow q r poison last s).2 := by
  unfold pushRow
  extract_lets x t ready s₁ part s₂
  split
  · exact .setQueue ..
  split
  · exact (RowMoves.rset (by decide) ..).trans ((RowMoves.setQueue ..).trans (.rinc (by decide) ..))
  split
  · split
    · exact .refl s
    · exact (RowMoves.setQueue ..).trans (.rinc (by decide) ..)
  have hr : RowMoves s ready.2 := .accessed (rowsReady_accessed ..)
  have h₁ : RowMoves s s₁ := hr.trans (.accessed (writeRows_accessed ..))
  have h₂ : RowMoves s s₂ := h₁.trans (.rset (by decide) ..)
  split
  · exact hr
  split
  · exact h₂.trans ((RowMoves.setQueue ..).trans (.rinc (by decide) ..))
  · exact h₂.trans (.setQueue ..)

theorem pushRows_rowMoves (q : Nat) (err eof : Bool) (l : List (BitVec 128)) (s : State) : RowMoves s (pushRows q err eof l s).2 := by
  induction l generalizing s with
  | nil => exact .refl s
  | cons r l ih =>
    have h := pushRow_rowMoves q r (err && l.isEmpty) (eof && l.isEmpty) s
    unfold pushRows
    dsimp only
    split
    · exact h.trans (ih _)
    · exact h

theorem beginRows_rowMoves (q : Nat) (sof : Bool) (s : State) : RowMoves s (beginRows q sof s) := by
  unfold beginRows
  extract_lets x
  split
  · split
    · exact .refl s
    · exact (RowMoves.rset (by decide) ..).trans (.setQueue ..)
  · split
    · exact .setQueue ..
    · exact .refl s

/-- What a packet received is judged by is as before. -/
structure SameJudgement (k : Nat) (s t : State) : Prop where
  nakSent : (t.trunk k).nakSent = (s.trunk k).nakSent
  nakDue : (t.trunk k).nakDue = (s.trunk k).nakDue
  expect : t.rget .RX_EXPECT k = s.rget .RX_EXPECT k

namespace SameJudgement

theorem trans {k : Nat} {s t r : State} (h : SameJudgement k s t) (h' : SameJudgement k t r) : SameJudgement k s r :=
  ⟨h'.nakSent.trans h.nakSent, h'.nakDue.trans h.nakDue, h'.expect.trans h.expect⟩

theorem of_rowMoves {k : Nat} {s t : State} (h : RowMoves s t) : SameJudgement k s t :=
  ⟨congrArg _ (trunk_congr h.1 k), congrArg _ (trunk_congr h.1 k), h.2.rget _ (by decide) k⟩

theorem setTrunk {k : Nat} {s : State} {x : Trunk} (h1 : x.nakSent = (s.trunk k).nakSent) (h2 : x.nakDue = (s.trunk k).nakDue) :
    SameJudgement k s (s.setTrunk k x) :=
  ⟨(congrArg _ (trunk_setTrunk ..)).trans h1, (congrArg _ (trunk_setTrunk ..)).trans h2, rfl⟩

end SameJudgement

theorem noQueue_sameJudgement (k q : Nat) (s : State) : SameJudgement k s (noQueue k q s) := by
  have h₁ : RowMoves s (s.rinc .RX_NOQUEUE k) := .rinc (by decide) ..
  unfold noQueue
  extract_lets s₁ x
  split
  · exact .of_rowMoves h₁
  · refine (SameJudgement.of_rowMoves h₁).trans (SameJudgement.trans ?_ (.of_rowMoves (.raise (s₁.setTrunk k _) ..)))
    exact .setTrunk rfl rfl

/-- The only packet of a receive buffer goes where it belongs: what it was judged by stays. -/
theorem pump_single {k : Nat} {p : TrunkPacket} (hp : rxMg p.header = false) (s : State) : SameJudgement k s (pump k [p] s) := by
  have hpump (t : State) (c n : Nat) : SameJudgement k t (pump k [] (freeBlocks k c n t)) :=
    (SameJudgement.setTrunk (x := { t.trunk k with freed := addClass (t.trunk k).freed c n }) rfl rfl).trans (.setTrunk rfl rfl)
  rw [pump, if_neg (by simp [hp])]
  extract_lets q r
  split
  · have hr : SameJudgement k s r.2 := .of_rowMoves ((beginRows_rowMoves ..).trans (pushRows_rowMoves ..))
    split
    · exact hr.trans (hpump ..)
    · exact hr.trans (.setTrunk rfl rfl)
  · exact (noQueue_sameJudgement ..).trans (hpump ..)

theorem execPacketReceived_expected {k : Nat} {p : TrunkPacket} {s : State} (hr : s.receives k = true) (hl : s.linked k = true)
    (he : s.rget .RX_EXPECT k < 65536) (hs : rxSeq p.header = s.rget .RX_EXPECT k) (hw : wholePacket p = true)
    (hb : (s.trunk k).received = []) :
    execPacketReceived k p s = .next (pump k [p] ((s.rset .RX_EXPECT k ((s.rget .RX_EXPECT k + 1) % 65536)).setTrunk k
      { s.trunk k with received := [p], nakSent := false, nakDue := false })) := by
  unfold execPacketReceived
  rw [if_neg (by simp [hr, hl])]
  dsimp only
  rw [if_pos (by rw [hs]; omega), if_pos hw, drainTrunk, trunk_setTrunk, hb, List.nil_append]

theorem execPacketReceived_ahead {k n : Nat} {p : TrunkPacket} {s : State} (hr : s.receives k = true) (hl : s.linked k = true)
    (he : s.rget .RX_EXPECT k < 65536) (hn : 0 < n) (hn' : n < 32768) (hs : rxSeq p.header = (s.rget .RX_EXPECT k + n) % 65536) :
    ∃ x, execPacketReceived k p s = .next ((freeBlocks k (rxClass p.header) (blocksOf (rxRows p.header)) s).setTrunk k x) ∧
      x.nakSent = true ∧ x.nakDue = ((s.trunk k).nakDue || !(s.trunk k).nakSent) ∧ x.received = (s.trunk k).received := by
  unfold execPacketReceived
  rw [if_neg (by simp [hr, hl])]
  dsimp only
  rw [if_neg (by rw [hs]; omega), if_pos (by rw [hs]; omega), freeBlocks_trunk]
  exact ⟨_, rfl, rfl, rfl, rfl⟩

/-- Settles O31: the LINK block by its fields, packets by `sendNew` and `pump`. -/
theorem trunkAcknowledgement : Obligations.TrunkAcknowledgement := by
  unfold Obligations.TrunkAcknowledgement
  intro k s
  refine ⟨fun b hr hp hn => execLinkBlockReceived_spec hr hp hn, fun hl hm => ?_, fun hl hu ht => ?_, fun hl hm hr hu p hc hk hq => ?_,
    fun p hr hl he => ⟨fun hs hw hg hb => ?_, fun n hn hn' hs => ?_⟩⟩
  · exact execLinkBlockSend_spec hl hm
  · obtain ⟨m, x, he, h1, h2, h3, h4⟩ := execReplayTimeout_spec hl hu ht
    refine ⟨_, he, ?_, ?_, ?_, (h4.trans ((OnlyTrunks.setTrunk ..).trans (.rset ..))).frame⟩
    · rw [trunk_rinc, trunk_setTrunk, h1]
    · rw [trunk_rinc, trunk_setTrunk, h2]
    · rw [State.rget_rinc, if_pos ⟨rfl, rfl⟩, rget_setTrunk, State.rget, State.rget, h3]
  · obtain ⟨a, t, h, h1, h2⟩ := execPacketSend_spec hl hm hr hu hc hk hq
    obtain ⟨h3, h4⟩ := sendNew_spec k a t
    exact ⟨_, h, by rw [h3, h1], by rw [h4, h2]⟩
  · have h := pump_single (k := k) hg ((s.rset .RX_EXPECT k ((s.rget .RX_EXPECT k + 1) % 65536)).setTrunk k
      { s.trunk k with received := [p], nakSent := false, nakDue := false })
    refine ⟨_, execPacketReceived_expected hr hl he hs hw hb, ?_, ?_, ?_⟩
    · rw [h.expect, rget_setTrunk, State.rget_rset_same]
    · rw [h.nakSent, trunk_setTrunk]
    · rw [h.nakDue, trunk_setTrunk]
  · obtain ⟨x, h, h1, h2, h3⟩ := execPacketReceived_ahead hr hl he hn hn' hs
    refine ⟨_, h, ?_, ?_, ?_, ((TrunksAlone.setTrunk ..).trans (.setTrunk ..)).frame⟩
    · rw [trunk_setTrunk, h1]
    · rw [trunk_setTrunk, h2]
    · rw [trunk_setTrunk, h3]

/-! ### The C0 channel and Ethernet -/

/-- A C0 block for a crossing it names, which its LOST marks others beside. -/
theorem execC0BlockReceived_named {k c : Nat} {b : BitVec 256} {s : State} (hr : s.receives k = true) (hc : s.counting = true)
    (hn : s.c0Crossing (bitsOf b.toNat 127 112) = some c) :
    ∃ x : Trunk, x.c0In = (s.trunk k).c0In ∧ execC0BlockReceived k b s =
      if Nat.ble (c + s.rget .C0_RX_DELAY k) s.crossing then .next ((s.setTrunk k x).rinc .C0_LATE k)
      else .next ((s.setTrunk k x).setTrunk k { (s.setTrunk k x).trunk k with
        c0In := mput ((s.setTrunk k x).trunk k).c0In c
          ((c0Messages b.toNat).foldl (fun m p => mput m p.1 p.2) (mget ((s.setTrunk k x).trunk k).c0In c [])) }) := by
  have hcond : ¬ (!s.receives k || !s.counting) = true := by simp [hr, hc]
  unfold execC0BlockReceived
  simp only [if_neg hcond, hn]
  refine ⟨_, ?_, rfl⟩
  rfl

/-! A received frame that its trunk judges. -/

section
variable {k : Nat} {bytes : Bytes} {s : State} (hl : (s.trunk k).lock = true) (hm : s.rget .TK_MODE k ≠ 0)
include hl hm

theorem execEthFrameReceived_bad (hg : (Nat.ble 64 bytes.length &&
      leVal (bytes.drop (bytes.length - 4)) == crc32 (bytes.take (bytes.length - 4))) = false) :
    execEthFrameReceived k bytes s = .next (s.rinc .RX_DISCARDED k) := by
  unfold execEthFrameReceived
  rw [if_neg (by simp [hl, hm])]
  extract_lets f good
  rw [if_pos (by rw [show good = false from hg]; rfl)]

theorem execEthFrameReceived_other (hg : (Nat.ble 64 bytes.length &&
      leVal (bytes.drop (bytes.length - 4)) == crc32 (bytes.take (bytes.length - 4))) = true)
    (hk : s.ethKind k (bytes.take (bytes.length - 4)) = .other) :
    execEthFrameReceived k bytes s = .next (s.rinc .RX_DISCARDED k) := by
  unfold execEthFrameReceived
  rw [if_neg (by simp [hl, hm])]
  extract_lets f good
  rw [if_neg (by rw [show good = true from hg]; decide), show s.ethKind k f = .other from hk]

theorem execEthFrameReceived_data {o : Bytes} (hg : (Nat.ble 64 bytes.length &&
      leVal (bytes.drop (bytes.length - 4)) == crc32 (bytes.take (bytes.length - 4))) = true)
    (hk : s.ethKind k (bytes.take (bytes.length - 4)) = .data o) : execEthFrameReceived k bytes s = .next (takeData k o s) := by
  unfold execEthFrameReceived
  rw [if_neg (by simp [hl, hm])]
  extract_lets f good
  rw [if_neg (by rw [show good = true from hg]; decide), show s.ethKind k f = .data o from hk]

end

theorem padFrame_length (f : Bytes) (s : State) : 60 ≤ (padFrame f s).1.length := by
  unfold padFrame
  split
  · next h => exact Nat.ble_eq ▸ h
  · dsimp only
    rw [List.length_append, List.length_map, List.length_range]
    omega

theorem padFrame_trunks (f : Bytes) (s : State) : (padFrame f s).2.trunks = s.trunks := by
  unfold padFrame
  split <;> rfl

/-- The rows chosen leave as a frame. -/
theorem execEthFrameSend_spec {k : Nat} {c : Candidate} {s : State} (hl : linkState s k = 4) (hm : s.rget .TK_MODE k ≠ 0)
    (hc : chooseAmong (s.trunk k) (s.headPackets k (s.frameRows k)) = some c) (hr : (packetReady c.key (s.frameRows k) s).1 = true) :
    ∃ t x f, execEthFrameSend k s = .next t ∧ t.trunk k = x ∧ x.fseq = ((s.trunk k).fseq + 1) % 2 ^ 32 ∧ x.frame = some (withFcs f) ∧
      60 ≤ f.length := by
  unfold execEthFrameSend
  rw [if_neg (by simp [hl, hm])]
  extract_lets n all
  split
  · next h => cases hc.symm.trans h
  · next c' h =>
    obtain rfl : c = c' := Option.some.inj (hc.symm.trans h)
    extract_lets r a p d rows s₁ x omium macs body f s₂
    have hready : r.1 = true := hr
    have ha : Accessed s r.2 := rowsReady_accessed ..
    have hd : Accessed a.2 s₁ := takeRows_accessed ..
    have hx : x.fseq = (s.trunk k).fseq := by
      unfold x
      rw [trunk_congr hd.trunks, trunk_congr (nextPacket_rowMoves c.key n _).1, trunk_setTrunk]
      show (r.2.trunk k).fseq = _
      rw [trunk_congr ha.trunks]
    rw [if_neg (by simp [hready])]
    refine ⟨_, { x with fseq := (x.fseq + 1) % 2 ^ 32, frame := some (withFcs f.1) }, f.1, rfl, ?_, ?_, rfl, padFrame_length ..⟩
    · split
      · rw [freeFragment, trunk_congr (setQueue_trunks ..)]
        exact trunk_setTrunk ..
      · exact trunk_setTrunk ..
    · rw [← hx]

/-- Settles O32: a C0 block by the crossing it names, a frame by what it is. -/
theorem trunkC0AndEthernet : Obligations.TrunkC0AndEthernet := by
  unfold Obligations.TrunkC0AndEthernet
  intro k s
  refine ⟨fun b c hr hcn hl hn => ?_, fun m hcn hd hm => ?_, fun c hl hm hc hr => ?_, fun bytes hl hm => ?_⟩
  · obtain ⟨x, hx, he⟩ := execC0BlockReceived_named hr hcn hn
    have hx' : ((s.setTrunk k x).trunk k).c0In = (s.trunk k).c0In := by rw [trunk_setTrunk, hx]
    have ho : OnlyTrunks s (s.setTrunk k x) := .setTrunk ..
    refine ⟨fun h => ⟨_, he.trans (if_neg (by rw [Nat.ble_eq]; omega)), ?_, ((TrunksAlone.setTrunk ..).trans (.setTrunk ..)).frame⟩,
      fun h => ⟨_, he.trans (if_pos (by rw [Nat.ble_eq]; omega)), ?_, ?_, (ho.trans (.rset ..)).frame⟩⟩
    · rw [trunk_setTrunk, ← hx']
      exact mfind_mput_same ..
    · rw [State.rget_rinc, if_pos ⟨rfl, rfl⟩, rget_setTrunk]
    · rw [trunk_rinc, hx']
  · have he : ∃ x, exec (.c0RxPresent k) s = .next (s.setTrunk k x) ∧ x.c0Shown = some (s.crossing - s.rget .C0_RX_DELAY k, m, 0) := by
      show ∃ x, execC0RxPresent k s = _ ∧ _
      unfold execC0RxPresent
      dsimp only
      rw [if_neg, hm]
      · exact ⟨_, rfl, rfl⟩
      · rw [Bool.or_eq_true, Nat.blt_eq]
        simp [hcn, hd]
    obtain ⟨x, he, hx⟩ := he
    exact ⟨_, he, by rw [trunk_setTrunk, hx], (TrunksAlone.setTrunk ..).frame⟩
  · obtain ⟨t, x, f, he, rfl, h1, h2, h3⟩ := execEthFrameSend_spec hl hm hc hr
    exact ⟨t, f, he, h1, h2, h3⟩
  · intro f good
    refine ⟨fun h => ?_, fun o hg hk => ?_⟩
    · cases hg : good
      · exact execEthFrameReceived_bad hl hm hg
      · exact execEthFrameReceived_other hl hm hg (h.resolve_left (by simp [hg]))
    intro q rows s' hpr
    have he : exec (.ethFrameReceived k bytes) s = .next (takeData k o s) := execEthFrameReceived_data hl hm hg hk
    refine ⟨fun h => ?_, fun h1 h2 => ?_⟩
    · rw [he]
      refine congrArg Host.Outcome.next ((if_neg (by rw [Bool.not_eq_true', hpr]; decide)).trans (if_pos ?_))
      rw [Bool.or_eq_true, Nat.ble_eq]
      exact h
    · rw [he]
      refine congrArg Host.Outcome.next ((if_neg (by rw [Bool.not_eq_true', hpr]; decide)).trans (if_neg ?_))
      rw [Bool.or_eq_true, Nat.ble_eq]
      rintro (h | h)
      · exact absurd (h1.symm.trans h) (by decide)
      · exact absurd h (Nat.not_le.mpr h2)

end Sys2Proof.Machine
end

section

/-! # The loader's shared operations: what they leave of the registers and of the load (R276 to R279, R368) -/

namespace Sys2Proof.Machine

open Sys2Proof.Safety

/-! ### LOAD_STATE -/

theorem sendStatusOn_trunks (k : Nat) (s : State) : TrunksAlone s (sendStatusOn k s) := by
  unfold sendStatusOn
  extract_lets x
  split
  · exact .setTrunk ..
  · exact ⟨_, rfl⟩

theorem sendLoaderStatus_trunks (s : State) : TrunksAlone s (sendLoaderStatus s) := by
  have h (l : List Nat) (t : State) : TrunksAlone t (l.foldl (fun t k => sendStatusOn k t) t) := by
    induction l generalizing t with
    | nil => exact ⟨_, rfl⟩
    | cons k l ih =>
      exact (sendStatusOn_trunks k t).trans (ih _)
  exact h _ s

theorem loadPhase_load (v : Nat) (s : State) : (loadPhase v s).load = s.load := by
  unfold loadPhase
  extract_lets v
  split
  · rfl
  · obtain ⟨m, h⟩ := sendLoaderStatus_trunks (latchIrq 11 (s.rset .LOAD_STATE 0 v))
    rw [h]
    rfl

theorem loadPhase_leaves (v : Nat) (s : State) : Leaves [.LOAD_STATE] s (loadPhase v s) := by
  unfold loadPhase
  extract_lets v
  refine .ite (.refl s) ?_
  obtain ⟨m, h⟩ := sendLoaderStatus_trunks (latchIrq 11 (s.rset .LOAD_STATE 0 v))
  rw [h]
  exact .trans (t := s.rset .LOAD_STATE 0 v) (.rset (by decide) ..) (.of_regs rfl)

/-- A phase shows as itself, but for those before the end of a golden load. -/
theorem loadPhase_state {v : Nat} {s : State} (h : s.load.golden = false ∨ 5 ≤ v) : (loadPhase v s).rget .LOAD_STATE = v := by
  unfold loadPhase
  dsimp only
  rw [if_neg (c := (s.load.golden && Nat.blt v 5) = true)]
  · split
    · next hv => exact hv
    · obtain ⟨m, h⟩ := sendLoaderStatus_trunks (latchIrq 11 (s.rset .LOAD_STATE 0 v))
      rw [h]
      exact State.rget_rset_same ..
  · rw [Bool.and_eq_true, Nat.blt_eq]
    rintro ⟨hg, hv⟩
    obtain h | h := h
    · exact absurd (h.symm.trans hg) (by decide)
    · omega

/-! ### The registers of planes, Districts and the ledger -/

theorem promoteRepairs_regs (s : State) : (promoteRepairs s).regs = s.regs := State.setScr_regs ..

theorem dropQueued_regs (plane : Nat) (s : State) : (dropQueued plane s).2.regs = s.regs := by
  unfold dropQueued
  exact (promoteRepairs_regs ..).trans (State.setScr_regs ..)

theorem supersede_regs (plane : Nat) (s : State) : (supersede plane s).regs = s.regs := by
  unfold supersede
  extract_lets p c ts
  rw [State.setScr_regs]
  exact dropQueued_regs ..

theorem setTicket_regs (t v : Nat) (s : State) : (setTicket t v s).regs = s.regs := rfl

theorem setTickets_regs (ts : List Nat) (v : Nat) (s : State) : (setTickets ts v s).regs = s.regs :=
  foldl_keeps State.regs (fun u t => setTicket_regs t v u) ts s

theorem settleSuperseded_regs (plane v : Nat) (s : State) : (settleSuperseded plane v s).regs = s.regs :=
  (setTickets_regs ..).trans (State.setScr_regs ..)

theorem voidPlane_regs (plane : Nat) (s : State) : (voidPlane plane s).regs = s.regs := by
  unfold voidPlane
  extract_lets s₁
  rw [State.setScr_regs, State.setPlane_regs]

theorem emptyPlane_regs (plane : Nat) (s : State) : (emptyPlane plane s).regs = s.regs :=
  (settleSuperseded_regs ..).trans (voidPlane_regs ..)

theorem keepStopped_regs (plane : Nat) (s : State) : (keepStopped plane s).regs = s.regs := by
  unfold keepStopped
  extract_lets x
  split <;> rfl

theorem dropWritten_regs (s : State) : (dropWritten s).regs = s.regs := by
  refine foldl_keeps State.regs (fun t p => (emptyPlane_regs ..).trans ?_) _ s
  split
  · exact keepStopped_regs ..
  · rfl

theorem failWaiting_regs (s : State) : (failWaiting s).regs = s.regs :=
  foldl_keeps State.regs (fun t k => settleSuperseded_regs k 3 t) _ s

theorem eachDistrict_regs (f : District → District) (s : State) : (eachDistrict f s).regs = s.regs :=
  foldl_keeps State.regs (fun t d => (rfl : (t.setDist d (f (t.dist d))).regs = t.regs)) _ s

theorem holdDistrict_regs (d : Nat) (s : State) : (holdDistrict d s).regs = s.regs :=
  foldl_keeps State.regs (fun t k => (rfl : (initShadow (8 * d + k) t).regs = t.regs)) (s.dist d).written s

/-- What the end of a ledger's force writes. -/
def ledgerEls : List El := [.LEDGER_STATUS, .PATH_LDEC, .PATH_S, .SS_TAP, .TAP_DL_MASK, .TAP_HOLD, .TAP_OUT, .TAP_PATH, .TAP_PHASE, .TAP_R, .TAP_TRUNKS]

theorem Leaves.rsets {es l : List El} (hl : ∀ e ∈ l, e ∈ es) (i : Nat) (s : State) :
    Leaves es s (l.foldl (fun t e => t.rset e i e.info.dflt) s) := by
  induction l generalizing s with
  | nil => exact .refl s
  | cons e l ih => exact (Leaves.rset (hl e List.mem_cons_self) ..).trans (ih (fun e he => hl e (List.mem_cons_of_mem _ he)) _)

theorem Leaves.pendings {es : List El} (s : State) (f d : SMap Nat) : Leaves es s { s with force := f, deferred := d } := .of_regs rfl

theorem Leaves.ledger {es : List El} (s : State) (d : DecisionPath) : Leaves es s { s with dec := d } := .of_regs rfl

theorem hideTap_leaves (i : Nat) (s : State) : Leaves ledgerEls s (hideTap i s) := by
  unfold hideTap
  extract_lets s₁ s₂
  have h₁ : Leaves ledgerEls s s₁ := .rsets (by decide) i s
  have h₂ : Leaves ledgerEls s s₂ := h₁.trans (.of_regs rfl)
  exact .ite (h₂.trans (.rset (by decide) ..)) h₂

theorem showTap_leaves (i : Nat) (x : LedgerTap) (fresh : Bool) (s : State) : Leaves ledgerEls s (showTap i x fresh s) := by
  unfold showTap
  extract_lets s₁ s₂ s₃
  have h₁ : Leaves ledgerEls s s₁ :=
    (Leaves.rset (by decide) ..).trans ((Leaves.rset (by decide) ..).trans ((Leaves.rset (by decide) ..).trans (.rset (by decide) ..)))
  have h₂ : Leaves ledgerEls s s₂ := h₁.trans ((Leaves.rset (by decide) ..).trans (.rset (by decide) ..))
  have h₃ : Leaves ledgerEls s s₃ := h₂.trans (.ite (.rset (by decide) ..) (.ite (.rset (by decide) ..) (.refl _)))
  have h₄ : Leaves ledgerEls s (s₃.rset .TAP_OUT i x.outputs) := h₃.trans (.rset (by decide) ..)
  exact .ite (h₄.trans (.pendings ..)) h₃

theorem putLedger_leaves (l : Ledger) (fresh : Nat → Bool) (s : State) : Leaves ledgerEls s (putLedger l fresh s) := by
  have hhide (t : State) (p : Nat × LedgerTap) : Leaves ledgerEls t (hideTap p.1 t) := hideTap_leaves ..
  have hzero (t : State) (p : Nat × LedgerPath) : Leaves ledgerEls t ((t.rset .PATH_LDEC p.1 0).rset .PATH_S p.1 0) :=
    (Leaves.rset (by decide) ..).trans (.rset (by decide) ..)
  have hpath (t : State) (p : Nat × LedgerPath) : Leaves ledgerEls t ((t.rset .PATH_LDEC p.1 p.2.ldec).rset .PATH_S p.1 p.2.entry) :=
    (Leaves.rset (by decide) ..).trans (.rset (by decide) ..)
  unfold putLedger
  extract_lets keep s₁ s₂ _ s₃ s₄
  have h₁ : Leaves ledgerEls s s₁ := .foldl hhide _ s
  have h₂ : Leaves ledgerEls s s₂ := h₁.trans (.foldl hzero _ s₁)
  have h₃ : Leaves ledgerEls s s₃ := h₂.trans (.ledger s₂ _)
  have h₄ : Leaves ledgerEls s s₄ := h₃.trans (.foldl hpath _ s₃)
  exact h₄.trans (.foldl (fun t (p : Nat × LedgerTap) => showTap_leaves p.1 p.2 (fresh p.1) t) _ s₄)

theorem dropLedger_leaves (s : State) : Leaves ledgerEls s (dropLedger s) := (putLedger_leaves ..).trans (.rset (by decide) ..)

theorem settleLinks_leaves (s : State) : Leaves [.REPLAYS, .LINK_STATE] s (settleLinks s) := .foldl (fun t k => settleLink_leaves k t) _ s

theorem settleLinks_onlyTrunks (s : State) : OnlyTrunks s (settleLinks s) := by
  have h (l : List Nat) (t : State) : OnlyTrunks t (l.foldl (fun t k => settleLink k t) t) := by
    induction l generalizing t with
    | nil => exact .refl t
    | cons k l ih => exact (settleLink_onlyTrunks k t).trans (ih _)
  exact h _ s

theorem endFreeze_leaves (s : State) : Leaves [.FREEZE_STATE] s (endFreeze s) := by
  unfold endFreeze
  exact Leaves.trans (t := s.rset .FREEZE_STATE 0 0) (.rset (by decide) ..) (.of_regs (eachDistrict_regs ..))

/-- What an emptied configuration writes. -/
def clearEls : List El := [.REPLAYS, .LINK_STATE, .FREEZE_STATE, .IMAGE_AR, .IP_RAW_ALLOWED, .LOAD_FALLBACK] ++ ledgerEls

theorem clearConfiguration_leaves (s : State) : Leaves clearEls s (clearConfiguration s) := by
  unfold clearConfiguration
  extract_lets ps s₁ s₂ _ _ s₃ s₄
  have h₁ : s₁.regs = s.regs := foldl_keeps State.regs (fun t k => (voidPlane_regs ..).trans (supersede_regs k t)) ps s
  have h₃ : Leaves clearEls s s₃ := .of_regs ((eachDistrict_regs ..).trans h₁)
  have h₄ : Leaves clearEls s s₄ := h₃.trans ((Leaves.rset (by decide) ..).trans ((Leaves.rset (by decide) ..).trans (.rset (by decide) ..)))
  exact h₄.trans (((endFreeze_leaves s₄).mono (by decide)).trans (((dropLedger_leaves _).mono (by decide)).trans
    ((settleLinks_leaves _).mono (by decide))))

theorem State.become_leaves (s : State) (d : DevState) : Leaves [.PREV_STATE, .STATE_MT] s (s.become d) :=
  ⟨fun _ he u => s.become_rget d (List.ne_of_not_mem_cons he) (List.ne_of_not_mem_cons (List.not_mem_of_not_mem_cons he)) u⟩

theorem become_frame (s : State) (d : DevState) :
    ∃ r c i, s.become d = { s with regs := r, ctl := c, core := { s.core with irq := i }, dev := d } := by
  unfold State.become
  split
  · next h =>
    subst h
    exact ⟨_, _, _, rfl⟩
  · exact ⟨_, _, _, rfl⟩

/-- What entry into SAFE writes. -/
def safeEls : List El := [.REPLAYS, .LINK_STATE, .FREEZE_STATE, .TT_COMMIT_STATUS, .SAFE_CAUSE, .PREV_STATE, .STATE_MT]

theorem cancelStages_leaves (s : State) : Leaves [.TT_COMMIT_STATUS] s (cancelStages s) := by
  unfold cancelStages
  extract_lets _ s₁ _ s₂
  have h₁ : Leaves [.TT_COMMIT_STATUS] s s₁ := .of_regs rfl
  have h₂ : Leaves [.TT_COMMIT_STATUS] s s₂ := by
    unfold s₂
    split
    · exact h₁.trans (.trans (t := { s₁ with rb := { s₁.rb with pendingAt := none, fromImage := false } }) (.of_regs rfl) (.rset (by decide) ..))
    · exact h₁
  exact h₂.trans (.of_regs (eachDistrict_regs ..))

theorem enterSafe_leaves (cause : Nat) (s : State) : Leaves safeEls s (enterSafe cause s) := by
  unfold enterSafe
  extract_lets s₁ s₂
  have h₁ : Leaves safeEls s s₁ := Leaves.trans (t := { s with fabricOn := false }) (.of_regs rfl)
    (((endFreeze_leaves _).mono (by decide)).trans ((cancelStages_leaves _).mono (by decide)))
  have h₂ : Leaves safeEls s s₂ := h₁.trans (.of_regs (foldl_keeps State.regs (fun t d => holdDistrict_regs d t) _ _))
  exact h₂.trans ((Leaves.rset (by decide) ..).trans (((State.become_leaves ..).mono (by decide)).trans ((settleLinks_leaves _).mono (by decide))))

theorem enterSafe_cause (cause : Nat) (s : State) : (enterSafe cause s).rget .SAFE_CAUSE = cause := by
  unfold enterSafe
  extract_lets s₁ s₂
  rw [(settleLinks_leaves _).rget _ (by decide), (State.become_leaves ..).rget _ (by decide), State.rget_rset_same]

theorem enterSafe_cells (cause : Nat) (s : State) : (enterSafe cause s).cells = s.cells := cells_of_words (enterSafe_words ..)

/-! ### The end of a load -/

theorem showFault_load (f : LoadFault) (s : State) : (showFault f s).load = s.load := by
  unfold showFault
  extract_lets s₁
  rw [loadPhase_load]
  show s₁.load = _
  unfold s₁
  split <;> rfl

theorem showFault_state (f : LoadFault) (s : State) : (showFault f s).rget .LOAD_STATE = 6 := loadPhase_state (.inr (by decide))

/-- A primary load shows its reason and detail. -/
theorem showFault_primary {s : State} (h : s.load.golden = false) (f : LoadFault) :
    (showFault f s).rget .LOAD_REASON = f.reason ∧ (showFault f s).rget .LOAD_DETAIL = f.detail := by
  unfold showFault
  rw [h]
  refine ⟨?_, ?_⟩
  · rw [(loadPhase_leaves ..).rget _ (by decide), State.rget_rset, if_neg (by simp)]
    show ((s.rset .LOAD_REASON 0 f.reason).rset .LOAD_DETAIL 0 f.detail).rget .LOAD_REASON = _
    rw [State.rget_rset, if_neg (by simp), State.rget_rset_same]
  · rw [(loadPhase_leaves ..).rget _ (by decide), State.rget_rset, if_neg (by simp)]
    exact State.rget_rset_same ..

theorem finishLoad_regs (s : State) : (finishLoad s).regs = s.regs := rfl

theorem dropWritten_recordFault_leaves (f : LoadFault) (s : State) : Leaves [.REC_LOST] s (finishLoad (recordFault f (dropWritten s))) :=
  Leaves.trans (t := dropWritten s) (.of_regs (dropWritten_regs s)) (.trans (t := recordFault f (dropWritten s)) (.raise (by decide) ..)
    (.of_regs (finishLoad_regs _)))

/-- The fault of a partial load ends it and leaves the device state and the bank words. -/
theorem failLoad_partial {f : LoadFault} {s : State} (hg : s.loadsGlobal = false) :
    (failLoad f s).load.active = false ∧ (failLoad f s).rget .LOAD_STATE = 6 ∧ (failLoad f s).dev = s.dev ∧
      (failLoad f s).cells = s.cells ∧
      (s.load.golden = false → (failLoad f s).rget .LOAD_REASON = f.reason ∧ (failLoad f s).rget .LOAD_DETAIL = f.detail) := by
  have hl : failLoad f s = finishLoad (recordFault f (dropWritten (showFault f s))) := by
    unfold failLoad
    dsimp only
    refine if_neg ?_
    rw [State.loadsGlobal, showFault_load]
    exact fun h => absurd (hg.symm.trans h) (by decide)
  have hle := dropWritten_recordFault_leaves f (showFault f s)
  refine ⟨by rw [hl]; rfl, ?_, ?_, cells_of_words (failLoad_words ..), fun h => ?_⟩
  · rw [hl, hle.rget _ (by decide), showFault_state]
  · rw [hl, finishLoad_dev]
    exact dev_eq_of_mode (by simp)
  · obtain ⟨h1, h2⟩ := showFault_primary h f
    rw [hl, hle.rget _ (by decide), hle.rget _ (by decide)]
    exact ⟨h1, h2⟩

/-- A load in progress that is aborted. -/
theorem abortLoad_active {s : State} (ha : s.load.active = true) :
    (abortLoad s).rget .LOAD_STATE = 6 ∧ (s.load.golden = false → (abortLoad s).rget .LOAD_REASON = 9) := by
  have hle : Leaves (.REC_LOST :: clearEls) (showFault { reason := 9, detail := 0, item := s.rget .LOAD_SECTION } s) (abortLoad s) := by
    unfold abortLoad
    rw [if_neg (by simp [ha])]
    extract_lets f s₁
    refine .ite ?_ ((dropWritten_recordFault_leaves ..).mono (by decide))
    exact ((clearConfiguration_leaves s₁).mono (List.subset_cons_self ..)).trans (.of_regs ((finishLoad_regs _).trans (failWaiting_regs _)))
  refine ⟨(hle.rget _ (by decide) 0).trans (showFault_state ..), fun h => ?_⟩
  exact (hle.rget _ (by decide) 0).trans (showFault_primary h _).1

end Sys2Proof.Machine
end

section

/-! # Loading: its commands, its progress and its ends, the counter and the keys (O33, O34, O35) -/

namespace Sys2Proof.Machine

open Sys2Proof.Safety

/-! ### The start and the abort of a load -/

/-- A load that starts has taken nothing. -/
theorem startLoad_spec (source : Nat) (d : DevState) (s : State) :
    ((startLoad false source d s).load.active = true ∧ (startLoad false source d s).load.golden = false ∧
      (startLoad false source d s).load.stream = [] ∧ (startLoad false source d s).load.source = source ∧
      (startLoad false source d s).load.startedIn = d) ∧
    ((startLoad false source d s).rget .LOAD_STATE = 1 ∧ (startLoad false source d s).rget .LOAD_REASON = 0 ∧
      (startLoad false source d s).rget .LOAD_DETAIL = 0 ∧ (startLoad false source d s).rget .LOAD_BYTES = 0) := by
  unfold startLoad
  extract_lets l flash l' s₁ s₂
  have hl : s₂.load = l' := rfl
  have hr : s₂ = (s₁.rset .LOAD_REASON 0 0).rset .LOAD_DETAIL 0 0 := rfl
  have hb : s₁.rget .LOAD_BYTES = 0 := by
    unfold s₁
    rw [State.rget_rset, if_neg (by simp), State.rget_rset_same]
  refine ⟨?_, loadPhase_state (.inl rfl), ?_, ?_, ?_⟩
  · rw [loadPhase_load, hl]
    exact ⟨rfl, rfl, rfl, rfl, rfl⟩
  · rw [(loadPhase_leaves ..).rget _ (by decide), hr, State.rget_rset, if_neg (by simp), State.rget_rset_same]
  · rw [(loadPhase_leaves ..).rget _ (by decide), hr, State.rget_rset_same]
  · rw [(loadPhase_leaves ..).rget _ (by decide), hr, State.rget_rset, if_neg (by simp), State.rget_rset, if_neg (by simp), hb]

theorem loadPhase_frame (v : Nat) (s : State) :
    ∃ r m i, loadPhase v s = { s with regs := r, trunks := m, core := { s.core with irq := i } } := by
  unfold loadPhase
  extract_lets v
  split
  · exact ⟨_, _, _, rfl⟩
  · obtain ⟨m, h⟩ := sendLoaderStatus_trunks (latchIrq 11 (s.rset .LOAD_STATE 0 v))
    rw [h]
    exact ⟨_, m, _, rfl⟩

theorem startLoad_frame (golden : Bool) (source : Nat) (d : DevState) (s : State) :
    ∃ r m i l, startLoad golden source d s = { s with regs := r, trunks := m, core := { s.core with irq := i }, load := l } := by
  unfold startLoad
  extract_lets l flash l' s₁ s₂
  have h₂ : ∃ r, s₂ = { s with regs := r, load := l' } := by
    unfold s₂
    split
    · exact ⟨_, rfl⟩
    · exact ⟨_, rfl⟩
  obtain ⟨r, h₂⟩ := h₂
  obtain ⟨r', m, i, h⟩ := loadPhase_frame 1 s₂
  rw [h, h₂]
  exact ⟨_, _, _, _, rfl⟩

/-- Entry into LOADING. -/
theorem enterLoading_spec (t : State) : (settleLinks (t.become .loading)).load = t.load ∧ (settleLinks (t.become .loading)).dev = .loading ∧
    (settleLinks (t.become .loading)).planes = t.planes ∧ (settleLinks (t.become .loading)).frames = t.frames ∧
    (settleLinks (t.become .loading)).cells = t.cells ∧ (settleLinks (t.become .loading)).dists = t.dists ∧
    Leaves [.PREV_STATE, .STATE_MT, .REPLAYS, .LINK_STATE] t (settleLinks (t.become .loading)) := by
  have hle : Leaves [.PREV_STATE, .STATE_MT, .REPLAYS, .LINK_STATE] t (settleLinks (t.become .loading)) :=
    ((State.become_leaves ..).mono (by decide)).trans ((settleLinks_leaves _).mono (by decide))
  obtain ⟨r, m, h⟩ := settleLinks_onlyTrunks (t.become .loading)
  obtain ⟨r', c, i, h'⟩ := become_frame t .loading
  rw [h'] at h
  exact ⟨by rw [h', h], by rw [h', h], by rw [h', h], by rw [h', h], by rw [h', h], by rw [h', h], hle⟩

/-- Settles O33: LOAD_GO by `startLoad`, LOAD_ABORT by `abortLoad` and `enterSafe`. -/
theorem loadCommands : Obligations.LoadCommands := by
  unfold Obligations.LoadCommands
  intro w v s
  refine ⟨fun ha => ⟨fun h => ?_, fun h1 h2 => ?_⟩, fun ha => ⟨fun h1 h2 => ?_, fun h1 h2 hg => ?_, fun h1 => ?_⟩, fun ha => write_store ha⟩
  · refine write_refused (h := hLoadGo) ha rfl rfl ?_ (by decide)
    unfold hLoadGo Handler.doing
    dsimp only
    rw [if_neg (by decide), if_pos (by simpa using h)]
  · obtain ⟨⟨l1, l2, l3, l4, l5⟩, r1, r2, r3, r4⟩ := startLoad_spec (s.rget .LOAD_SRC) s.dev s
    obtain ⟨r, m, i, l, hf⟩ := startLoad_frame false (s.rget .LOAD_SRC) s.dev s
    have hact : ∃ t : State, hLoadGo.act 1 s = .ok t ∧
        (t = startLoad false (s.rget .LOAD_SRC) s.dev s ∧ ¬ (s.dev = .idle ∨ s.dev = .safe) ∨
          t = settleLinks ((startLoad false (s.rget .LOAD_SRC) s.dev s).become .loading) ∧ (s.dev = .idle ∨ s.dev = .safe)) := by
      unfold hLoadGo Handler.doing
      dsimp only
      rw [if_neg (by decide), if_neg (by simp [h1, h2])]
      cases hd : s.dev
      case idle => exact ⟨_, rfl, .inr ⟨rfl, .inl rfl⟩⟩
      case safe => exact ⟨_, rfl, .inr ⟨rfl, .inr rfl⟩⟩
      all_goals exact ⟨_, rfl, .inl ⟨rfl, by simp⟩⟩
    obtain ⟨t, hact, ⟨rfl, hd⟩ | ⟨rfl, hd⟩⟩ := hact
    · refine ⟨_, write_performed (h := hLoadGo) ha rfl rfl hact, l1, l2, l3, l4, l5, r1, r2, r3, r4, ?_⟩
      rw [if_neg hd, hf]
      exact ⟨rfl, rfl, rfl, rfl, rfl⟩
    · obtain ⟨e1, e2, e3, e4, e5, e6, e7⟩ := enterLoading_spec (startLoad false (s.rget .LOAD_SRC) s.dev s)
      refine ⟨_, write_performed (h := hLoadGo) ha rfl rfl hact, by rw [e1, l1], by rw [e1, l2], by rw [e1, l3], by rw [e1, l4], by rw [e1, l5],
        by rw [e7.rget _ (by decide), r1], by rw [e7.rget _ (by decide), r2], by rw [e7.rget _ (by decide), r3],
        by rw [e7.rget _ (by decide), r4], ?_⟩
      rw [if_pos hd, e2, e3, e4, e5, e6, hf]
      exact ⟨rfl, rfl, rfl, rfl, rfl⟩
  · exact write_performed (h := hLoadAbort) ha rfl rfl (if_pos (by simp [h1, h2]))
  · have hact : hLoadAbort.act 1 s = .ok (enterSafe 3 (abortLoad s)) :=
      (if_neg (by simp [h2])).trans (congrArg Except.ok (if_pos hg))
    refine ⟨_, write_performed (h := hLoadAbort) ha rfl rfl hact, ?_, enterSafe_dev .., enterSafe_cause .., ?_⟩
    · have hm : (enterSafe 3 (abortLoad s)).mode.awaiting = false := by rw [enterSafe_mode, abortLoad_mode]
      exact hm
    · exact (enterSafe_cells ..).trans (cells_of_words (abortLoad_words s))
  · have hact : hLoadAbort.act 1 s = .ok (if s.loadsGlobal then enterSafe 3 (abortLoad s) else abortLoad s) := if_neg (by simp [h1])
    obtain ⟨a1, a2⟩ := abortLoad_active h1
    refine ⟨_, write_performed (h := hLoadAbort) ha rfl rfl hact, ?_⟩
    have hidle : (abortLoad s).load.active = false := congrArg Mode.loading (abortLoad_mode s)
    cases hg : s.loadsGlobal
    · rw [if_neg (by decide)]
      exact ⟨hidle, a1, cells_of_words (abortLoad_words s), a2, fun h => absurd h (by decide), fun _ => abortLoad_dev s⟩
    · rw [if_pos rfl]
      have hle := enterSafe_leaves 3 (abortLoad s)
      refine ⟨?_, (hle.rget _ (by decide) 0).trans a1, (enterSafe_cells ..).trans (cells_of_words (abortLoad_words s)),
        fun h => (hle.rget _ (by decide) 0).trans (a2 h), fun _ => ⟨enterSafe_dev .., enterSafe_cause ..⟩, fun h => absurd h (by decide)⟩
      have hm : (enterSafe 3 (abortLoad s)).mode.loading = false := by rw [enterSafe_mode, abortLoad_mode]
      exact hm

/-! ### The progress of a load -/

/-- A listener's wait that ends in vain. -/
theorem noGolden_spec (s : State) : (noGolden s).dev = .safe ∧ (noGolden s).rget .SAFE_CAUSE = 2 ∧ (noGolden s).load.goldenWait = false ∧
    (noGolden s).cells = s.cells := by
  obtain ⟨x, hx, hl⟩ : ∃ x, noGolden s = enterSafe 2 x ∧ x.load.goldenWait = false := by
    refine ⟨_, rfl, ?_⟩
    rw [recordGolden, raise_load]
    rfl
  refine ⟨enterSafe_dev .., enterSafe_cause .., ?_, cells_of_words (noGolden_words s)⟩
  rw [hx]
  exact (congrArg Mode.awaiting (enterSafe_mode 2 x)).trans hl

theorem takeBytes_fresh {bs : Bytes} {s : State} (hh : s.load.headed = false) (hs : s.load.stream = []) :
    takeBytes bs s = (s.setLoad { s.load with stream := bs }).rset .LOAD_BYTES 0 (s.load.hunted + bs.length) := by
  unfold takeBytes
  dsimp only
  rw [hh, hs]
  rfl

/-- A stream without SYNC found yet is judged no further. -/
theorem judge_unsynced {t : State} (hs : t.load.active = false ∨ t.load.synced = false) (hh : t.load.active = false ∨ t.load.headed = false)
    (ht : t.load.active = false ∨ t.load.tabled = false) : resumeSections (judgeTable (judgeHeader t)) = t := by
  have h1 : judgeHeader t = t := if_pos (by
    obtain h | h := hs <;> simp [h])
  have h2 : judgeTable t = t := if_pos (by
    obtain h | h := hh <;> simp [h])
  rw [h1, h2]
  refine if_neg ?_
  obtain h | h := ht <;> simp [h]

theorem payOwed_ended {s : State} (h : s.load.active = false) : payOwed s = { s with ctl := { s.ctl with owed := [] } } :=
  if_pos (by simp [h])

theorem setFrameCells_frame (plane frame : Nat) (v : BitVec 2093) (s : State) :
    ∃ f c, setFrameCells plane frame v s = { s with frames := f, scr := c } := by
  unfold setFrameCells
  extract_lets key
  split
  · exact ⟨_, _, rfl⟩
  · exact ⟨_, _, rfl⟩

theorem writeFrame_frame' (plane frame : Nat) (data : BitVec 2048) (s : State) :
    ∃ f c, writeFrame plane frame data s = { s with frames := f, scr := c } := setFrameCells_frame ..

/-- The writes of a frame keep all but the frames and the scrubber. -/
theorem writeTwice_frame (stands : State → Bool) (plane frame : Nat) (data : BitVec 2048) (s : State) :
    ∃ f c, (writeTwice stands plane frame data s).2 = { s with frames := f, scr := c } := by
  obtain ⟨f, c, h1⟩ := writeFrame_frame' plane frame data s
  obtain ⟨f', c', h2⟩ := writeFrame_frame' plane frame data (writeFrame plane frame data s)
  rw [writeTwice_eq]
  split
  · exact ⟨f, c, h1⟩
  · exact ⟨f', c', by rw [h2, h1]⟩

/-- A frame that waits, behind the first of its plane, is written; one that does not stand ends the load. -/
theorem execLoadFrameWrite_failed {j : FrameJob} {s : State} (ha : s.load.active = true) (hf : s.load.frames = [j]) (hn : 0 < j.next)
    (hr : (writeVerified j.plane j.next (BitVec.ofNat 2048 (leVal (j.data.take 256))) s).1 = false) :
    execLoadFrameWrite s = .next (payOwed (failLoad { reason := 2, detail := 0, item := j.sect }
      (writeVerified j.plane j.next (BitVec.ofNat 2048 (leVal (j.data.take 256))) s).2)) := by
  have hn' : j.next ≠ 0 := Nat.ne_of_gt hn
  unfold execLoadFrameWrite
  rw [if_pos ha, hf]
  dsimp only
  rw [if_neg (c := (decide (j.next = 0) && mget s.load.planes j.plane false) = true) (by simp [hn']), if_neg hn', hr]
  exact if_pos rfl

theorem execLoadFrameWrite_next {j : FrameJob} {s t : State} (ha : s.load.active = true) (hf : s.load.frames = [j]) (hn : 0 < j.next)
    (hl : j.next + 1 < 4800) (hr : writeVerified j.plane j.next (BitVec.ofNat 2048 (leVal (j.data.take 256))) s = (true, t)) :
    execLoadFrameWrite s = .next (t.setLoad { t.load with frames := [{ j with next := j.next + 1, data := j.data.drop 256 }] }) := by
  have hn' : j.next ≠ 0 := Nat.ne_of_gt hn
  unfold execLoadFrameWrite
  rw [if_pos ha, hf]
  dsimp only
  rw [if_neg (c := (decide (j.next = 0) && mget s.load.planes j.plane false) = true) (by simp [hn']), if_neg hn', hr]
  exact (if_neg (by simp)).trans (if_pos hl)

/-- Bytes of a load in progress. -/
theorem feed_of_active {bs : Bytes} {s : State} (hw : s.load.goldenWait = false) (ha : s.load.active = true) :
    feed bs s = resumeSections (judgeTable (judgeHeader (findStart (takeBytes bs s)))) := by
  unfold feed
  rw [hw]
  exact if_pos ha

/-- Settles O34: bytes by `feed`, frames by `writeVerified`, ends by `failLoad` and `noGolden`. -/
theorem loadProgress : Obligations.LoadProgress := by
  unfold Obligations.LoadProgress
  intro bs s
  refine ⟨fun ha hw => ?_, fun ha hw hs hh ht hsrc hst => ⟨fun hl => ?_, fun hl hsync hg hgold => ?_⟩, fun j ha hf hn hl hd => ?_,
    fun j ha hf hn hg hgold hr => ?_, fun h => ?_, fun ha hg hgold => ?_, fun ha hw hl => ?_, fun ha h => ?_⟩
  · refine congrArg Host.Outcome.next ?_
    unfold feed
    rw [hw]
    exact if_neg (by simp [ha])
  · have hfind : findStart (takeBytes bs s) = (s.setLoad { s.load with stream := bs }).rset .LOAD_BYTES 0 (s.load.hunted + bs.length) := by
      rw [takeBytes_fresh hh hst]
      unfold findStart
      refine (if_neg (by simp [State.setLoad, hs])).trans ((if_neg ?_).trans (if_pos hl))
      rw [Nat.ble_eq]
      exact Nat.not_le.mpr hsrc
    have he : feed bs s = (s.setLoad { s.load with stream := bs }).rset .LOAD_BYTES 0 (s.load.hunted + bs.length) := by
      rw [feed_of_active hw ha, hfind]
      exact judge_unsynced (.inr hs) (.inr hh) (.inr ht)
    exact ⟨_, congrArg Host.Outcome.next he, rfl, State.rget_rset_same .., rfl⟩
  · have hfind : findStart (takeBytes bs s) = failLoad { reason := 3, detail := 0, item := 0 }
        ((s.setLoad { s.load with stream := bs }).rset .LOAD_BYTES 0 (s.load.hunted + bs.length)) := by
      rw [takeBytes_fresh hh hst]
      unfold findStart
      refine (if_neg (by simp [State.setLoad, hs])).trans ((if_neg ?_).trans ((if_neg (Nat.not_lt.mpr hl)).trans (if_neg ?_)))
      · rw [Nat.ble_eq]
        exact Nat.not_le.mpr hsrc
      · rw [beq_iff_eq]
        exact hsync
    obtain ⟨f1, f2, f3, f4, f5⟩ := failLoad_partial (f := { reason := 3, detail := 0, item := 0 })
      (s := (s.setLoad { s.load with stream := bs }).rset .LOAD_BYTES 0 (s.load.hunted + bs.length)) hg
    refine ⟨_, congrArg Host.Outcome.next ((feed_of_active hw ha).trans ?_), f1, f2, (f5 hgold).1, f3, f4⟩
    rw [hfind]
    exact judge_unsynced (.inl f1) (.inl f1) (.inl f1)
  · obtain ⟨f, c, he⟩ := writeFrame_frame' j.plane j.next (BitVec.ofNat 2048 (leVal (j.data.take 256))) s
    have hload : (writeFrame j.plane j.next (BitVec.ofNat 2048 (leVal (j.data.take 256))) s).load = s.load := by rw [he]
    exact (execLoadFrameWrite_next ha hf hn hl (writeVerified_eq _ hd)).trans (by rw [hload])
  · obtain ⟨f, c, he⟩ := writeTwice_frame (fun s => s.verifies j.plane j.next) j.plane j.next (BitVec.ofNat 2048 (leVal (j.data.take 256))) s
    have hexec := execLoadFrameWrite_failed ha hf hn hr
    rw [show (writeVerified j.plane j.next (BitVec.ofNat 2048 (leVal (j.data.take 256))) s).2 = _ from he] at hexec
    obtain ⟨f1, f2, f3, f4, f5⟩ := failLoad_partial (f := { reason := 2, detail := 0, item := j.sect }) (s := { s with frames := f, scr := c }) hg
    rw [payOwed_ended f1] at hexec
    exact ⟨_, hexec, f1, f2, (f5 hgold).1, f3, f4⟩
  · show execLoadFrameWrite s = _
    unfold execLoadFrameWrite
    have hnone : (if s.load.active then s.load.frames else []) = [] := by
      obtain h | h := h
      · rw [h]
        rfl
      · rw [h, ite_self]
    rw [hnone]
  · obtain ⟨f1, f2, f3, f4, f5⟩ := failLoad_partial (f := { reason := 7, detail := 0, item := s.rget .LOAD_SECTION }) hg
    exact ⟨_, congrArg Host.Outcome.next (if_pos ha), f1, f2, (f5 hgold).1, f3, f4⟩
  · obtain ⟨n1, n2, n3, n4⟩ := noGolden_spec s
    refine ⟨_, congrArg Host.Outcome.next ((if_neg (by simp [ha])).trans (if_pos ?_)), n1, n2, n3, n4⟩
    rw [hw, Bool.true_and, Option.isSome_iff_ne_none]
    exact hl
  · refine congrArg Host.Outcome.next ((if_neg (by simp [ha])).trans (if_neg ?_))
    obtain h | h := h <;> simp [h]

/-! ### The acceptance of a load -/

theorem finishLoad_loadPhase_spec (t : State) : (finishLoad (loadPhase 5 t)).rget .LOAD_STATE = 5 ∧
    (finishLoad (loadPhase 5 t)).load.active = false ∧ (finishLoad (loadPhase 5 t)).dev = t.dev ∧
    (finishLoad (loadPhase 5 t)).load.imageId = t.load.imageId ∧ Leaves [.LOAD_STATE] t (finishLoad (loadPhase 5 t)) := by
  refine ⟨loadPhase_state (v := 5) (.inr (by decide)), rfl, ?_, ?_, (loadPhase_leaves 5 t).trans (.of_regs (finishLoad_regs _))⟩
  · rw [finishLoad_dev]
    exact dev_eq_of_mode (loadPhase_mode ..)
  · show (loadPhase 5 t).load.imageId = _
    rw [loadPhase_load]

/-- A global load accepted leaves the image's identity, and the device in ARMED. -/
theorem acceptGlobal_spec (s₀ s : State) : (acceptGlobal s₀ s).dev = .armed ∧
    (acceptGlobal s₀ s).rget .IMAGE_AR = hdrVersion s₀.load.stream ∧ (acceptGlobal s₀ s).load.imageId = hdrId s₀.load.stream ∧
    (acceptGlobal s₀ s).rget .SAFE_CAUSE = 0 := by
  unfold acceptGlobal
  extract_lets l h s₁ s₂ s₃ _ s₄
  have hle := State.become_leaves (s₄.rset .SAFE_CAUSE 0 0) .armed
  refine ⟨State.become_dev .., ?_, ?_, ?_⟩
  · rw [hle.rget _ (by decide), State.rget_rset, if_neg (by simp)]
    show s₃.rget .IMAGE_AR = _
    unfold s₃
    rw [State.rget_rset, if_neg (by simp), State.rget_rset, if_neg (by simp), State.rget_rset_same]
  · obtain ⟨r, c, i, hf⟩ := become_frame (s₄.rset .SAFE_CAUSE 0 0) .armed
    rw [hf]
    rfl
  · rw [hle.rget _ (by decide), State.rget_rset_same]

theorem acceptLoad_spec (s₀ t : State) (led : Ledger) : (acceptLoad s₀ t led).rget .LOAD_STATE = 5 ∧ (acceptLoad s₀ t led).load.active = false ∧
    (s₀.load.global = true → (acceptLoad s₀ t led).dev = .armed ∧ (acceptLoad s₀ t led).rget .IMAGE_AR = hdrVersion s₀.load.stream ∧
      (acceptLoad s₀ t led).load.imageId = hdrId s₀.load.stream ∧ (acceptLoad s₀ t led).rget .SAFE_CAUSE = 0) := by
  unfold acceptLoad
  extract_lets s₁ s₂ s₃ s₄ s₅
  obtain ⟨h1, h2, h3, h4, h5⟩ := finishLoad_loadPhase_spec s₅
  refine ⟨h1, h2, fun hg => ?_⟩
  have hs : s₅ = acceptGlobal s₀ s₄ := if_pos hg
  obtain ⟨a1, a2, a3, a4⟩ := acceptGlobal_spec s₀ s₄
  rw [h3, h5.rget _ (by decide), h4, h5.rget _ (by decide), hs]
  exact ⟨a1, a2, a3, a4⟩

theorem showLedger_frame (f : Option LedgerFault) (s : State) : ∃ r, showLedger f s = { s with regs := r } := by
  unfold showLedger
  split
  · exact ⟨_, rfl⟩
  · exact ⟨_, rfl⟩

section
variable {s : State} (ha : s.load.active = true) (ht : s.load.tabled = true) (hd : s.load.table.length ≤ s.load.done) (hf : s.load.frames = [])
include ha ht hd hf

theorem judged_condition : ¬ (!s.load.active || !s.load.tabled || decide (s.load.done < s.load.table.length) || s.load.frames != []) = true := by
  simp [ha, ht, hf, hd]

theorem execLoadAccept_ok {t : State} {led : Ledger} (hj : s.judgeLoad = .ok (t, led)) (hu : t.scheduledUnderTest s.loadedNow = false) :
    execLoadAccept s = .next (acceptLoad s t led) := by
  unfold execLoadAccept
  extract_lets l
  rw [if_neg (judged_condition ha ht hd hf), hj]
  exact if_neg (by simp [hu])

theorem execLoadAccept_error {f : LoadFault} {x : Option LedgerFault} (hj : s.judgeLoad = .error (f, x)) :
    ∃ r, execLoadAccept s = .next (failLoad f { s with regs := r }) := by
  unfold execLoadAccept
  extract_lets l
  rw [if_neg (judged_condition ha ht hd hf), hj]
  cases x with
  | none => exact ⟨s.regs, rfl⟩
  | some x =>
    obtain ⟨r, h⟩ := showLedger_frame (some x) s
    exact ⟨r, by rw [← h]⟩

end

/-! ### The counter and the signing keys -/

/-- A sound keeper takes a counter's value. -/
theorem writeCounter_of_sound {k len v : Nat} {s : State} (hd : s.keeper.dead.contains k = false) (hf : s.keeper.failed = false)
    (hw : ∀ n, s.worn n = false) : ∃ t, writeCounter k len v s = .ok t := by
  unfold writeCounter
  rw [if_neg (by rw [hd]; decide)]
  extract_lets a ga gb home sec gen t
  rw [if_neg (by simp [hf]), if_neg (by simp [hw])]
  exact ⟨_, rfl⟩

theorem writeSector_keeper (n : Nat) (d : BitVec 512) (s : State) : (writeSector n d s).keeper.signing = s.keeper.signing ∧
    (writeSector n d s).keeper.aes = s.keeper.aes := by
  unfold writeSector
  extract_lets m k s₁
  split
  · rw [raise_keeper]
    have h : ((s₁.rinc .KP_WORN).keeperState 1).keeper = s₁.keeper := by
      unfold State.keeperState
      extract_lets v
      split <;> rfl
    rw [h]
    exact ⟨rfl, rfl⟩
  · exact ⟨rfl, rfl⟩

/-- A key's sectors written change the keeper's sectors, and no slot. -/
theorem writeSectors_spec (l : List (Nat × Bytes)) (s : State) :
    OnlyKeeper s (l.foldl (fun t p => writeSector p.1 (sectorOf p.2) t) s) ∧
      (l.foldl (fun t p => writeSector p.1 (sectorOf p.2) t) s).keeper.signing = s.keeper.signing ∧
      (l.foldl (fun t p => writeSector p.1 (sectorOf p.2) t) s).keeper.aes = s.keeper.aes := by
  induction l generalizing s with
  | nil => exact ⟨.refl s, rfl, rfl⟩
  | cons p l ih =>
    obtain ⟨h1, h2, h3⟩ := ih (writeSector p.1 (sectorOf p.2) s)
    obtain ⟨h4, h5⟩ := writeSector_keeper p.1 (sectorOf p.2) s
    exact ⟨(writeSector_onlyKeeper ..).trans h1, h2.trans h4, h3.trans h5⟩

theorem keepKey_of_worn {k : Nat} {bs : Bytes} {s : State} (h : ∃ n ∈ keySectors k, s.worn n = true) : keepKey k bs s = .error 7 := by
  unfold keepKey
  exact if_pos (List.any_eq_true.mpr h)

theorem keepKey_of_sound {k : Nat} {bs : Bytes} {s : State} (h : ∀ n ∈ keySectors k, s.worn n = false) :
    ∃ t, keepKey k bs s = .ok t ∧ OnlyKeeper s t ∧ t.keeper.signing = s.keeper.signing ∧ t.keeper.aes = s.keeper.aes := by
  unfold keepKey
  extract_lets ns
  rw [if_neg]
  · obtain ⟨h1, h2, h3⟩ := writeSectors_spec (List.zip ns [bs, bs.drop 64]) s
    exact ⟨_, rfl, h1, h2, h3⟩
  · rw [List.any_eq_true]
    rintro ⟨n, hn, hw⟩
    exact absurd ((h n hn).symm.trans hw) (by decide)

theorem slotRevoked_mput (v : Nat) (t : State) (j : Nat) :
    (t.setKeeper { t.keeper with signing := mput t.keeper.signing v .revoked }).slotRevoked j = (if j = v then true else t.slotRevoked j) := by
  unfold State.slotRevoked
  show (mfind (mput t.keeper.signing v .revoked) j == some .revoked) = _
  split
  · next h =>
    subst h
    rw [mfind_mput_same]
    rfl
  · next h => rw [mfind_mput_other _ _ _ _ h]

/-- Settles O35: acceptance by `acceptLoad`, failure by `failLoad`, the keeper's writes by its sectors. -/
theorem loadEnds : Obligations.LoadEnds := by
  unfold Obligations.LoadEnds
  refine ⟨fun s => ⟨fun ha ht hd hf => ⟨fun t led hj hu => ?_, fun f x hj hg hgold => ?_⟩, fun h => ?_, fun hw hl hs => ?_, fun hw hl hs => ?_,
    fun h => ?_⟩, fun w v s => ⟨fun ha hd => ⟨fun hv => ?_, fun t hv ht => ?_, fun hv hf hw => ?_⟩,
    fun ha => ⟨fun hr => ?_, fun hr h => ?_, fun hr hf hv => ⟨fun hw => ?_, fun hw => ?_⟩⟩⟩⟩
  · exact ⟨_, execLoadAccept_ok ha ht hd hf hj hu, acceptLoad_spec s t led⟩
  · obtain ⟨r, he⟩ := execLoadAccept_error ha ht hd hf hj
    obtain ⟨f1, f2, f3, f4, f5⟩ := failLoad_partial (f := f) (s := { s with regs := r }) hg
    exact ⟨_, he, f2, f1, (f5 hgold).1, (f5 hgold).2, f3, f4⟩
  · show execLoadAccept s = _
    unfold execLoadAccept
    extract_lets l
    exact if_pos (by obtain h | h | h := h <;> simp [l, h])
  · exact congrArg Host.Outcome.next ((if_pos (by simp [hw, hl])).trans (if_neg (by simpa using hs)))
  · obtain ⟨n1, n2, n3, n4⟩ := noGolden_spec s
    exact ⟨_, congrArg Host.Outcome.next ((if_pos (by simp [hw, hl])).trans (if_pos (by simpa using hs))), n1, n2, n3, n4⟩
  · refine congrArg Host.Outcome.next (if_neg ?_)
    obtain h | h := h <;> simp [h]
  · refine write_outOfRange (h := hArAdvance) ha rfl ?_
    show (Nat.blt (s.rget .AR_COUNTER) v || s.keeper.dead.contains 0) = false
    rw [hd, Bool.or_false, ← Bool.not_eq_true, Nat.blt_eq]
    exact Nat.not_lt.mpr hv
  · refine write_performed (h := hArAdvance) ha rfl ?_ ?_
    · show (Nat.blt (s.rget .AR_COUNTER) v || s.keeper.dead.contains 0) = true
      rw [Bool.or_eq_true, Nat.blt_eq]
      exact .inl hv
    · unfold hArAdvance
      dsimp only
      rw [ht]
  · obtain ⟨t, ht⟩ := writeCounter_of_sound (len := 2) (v := v) hd hf hw
    refine ⟨t.rset .AR_COUNTER 0 v, write_performed (h := hArAdvance) ha rfl ?_ ?_, State.rget_rset_same .., ?_⟩
    · show (Nat.blt (s.rget .AR_COUNTER) v || s.keeper.dead.contains 0) = true
      rw [Bool.or_eq_true, Nat.blt_eq]
      exact .inl hv
    · unfold hArAdvance
      dsimp only
      rw [ht]
    · exact (cells_of_words (writeCounter_words ht) : t.cells = s.cells)
  · exact write_performed (h := hKeyRevoke) ha rfl rfl (if_pos hr)
  · exact write_refused (h := hKeyRevoke) ha rfl rfl ((if_neg (by simp [hr])).trans (if_pos (by simpa using h))) (by decide)
  · refine write_refused (h := hKeyRevoke) ha rfl rfl (c := 7) ((if_neg (by simp [hr])).trans ((if_neg (by simp [hf, hv])).trans ?_)) (by decide)
    rw [keepKey_of_worn hw]
    rfl
  · obtain ⟨t, ht, ho, hsig, haes⟩ := keepKey_of_sound (bs := [2]) hw
    have hact : hKeyRevoke.act v s = .ok (t.setKeeper { t.keeper with signing := mput t.keeper.signing v .revoked }) := by
      refine (if_neg (by simp [hr])).trans ((if_neg (by simp [hf, hv])).trans ?_)
      rw [ht]
      rfl
    refine ⟨_, write_performed (h := hKeyRevoke) ha rfl rfl hact, ?_, fun j hj => ?_, haes, ?_⟩
    · rw [slotRevoked_mput, if_pos rfl]
    · rw [slotRevoked_mput, if_neg hj, State.slotRevoked, hsig, State.slotRevoked]
    · obtain ⟨⟨g, c, k, i, rfl⟩⟩ := ho
      exact ⟨rfl, rfl, rfl, rfl⟩

end Sys2Proof.Machine
end

section

/-! # The configuration scrubber's shared operations, and what an access of the reserve leaves (R313 to R334) -/

namespace Sys2Proof.Machine

open Sys2Proof.Safety

/-! ### Accesses of the reserve -/

/-- The frames, the planes, the scrubber and the loader are as before. -/
structure SameConfig (s t : State) : Prop where
  frames : t.frames = s.frames
  planes : t.planes = s.planes
  scr : t.scr = s.scr
  load : t.load = s.load

namespace SameConfig

theorem refl (s : State) : SameConfig s s := ⟨rfl, rfl, rfl, rfl⟩

theorem trans {s t r : State} (h : SameConfig s t) (h' : SameConfig t r) : SameConfig s r :=
  ⟨h'.frames.trans h.frames, h'.planes.trans h.planes, h'.scr.trans h.scr, h'.load.trans h.load⟩

theorem accessed {s t : State} (h : Accessed s t) : SameConfig s t := by
  obtain ⟨⟨c, b, l, x, g, r, n, f, u, m, d, i, o, rfl⟩, -⟩ := h
  exact ⟨rfl, rfl, rfl, rfl⟩

theorem rset (s : State) (e : El) (u v : Nat) : SameConfig s (s.rset e u v) := ⟨rfl, rfl, rfl, rfl⟩

theorem foldl {α : Type} {f : State → α → State} (hf : ∀ t a, SameConfig t (f t a)) (l : List α) (s : State) : SameConfig s (l.foldl f s) := by
  induction l generalizing s with
  | nil => exact refl s
  | cons a l ih => exact (hf s a).trans (ih _)

end SameConfig

theorem startHandover_sameConfig (n v : Nat) (s : State) : SameConfig s (startHandover n v s) := by
  unfold startHandover
  extract_lets _ s₁ old b goes refusedOnes s₂ s₃
  have h₂ : SameConfig s s₂ := ⟨rfl, rfl, rfl, rfl⟩
  have h₃ : SameConfig s s₃ := h₂.trans (.foldl (fun t w => .accessed ((answerRequest_accessed ..).trans (denied_accessed ..))) _ _)
  exact h₃.trans ((SameConfig.rset ..).trans (.rset ..))

theorem endInvalidation_sameConfig (n : Nat) (s : State) : SameConfig s (endInvalidation n s) := by
  have ht : SameConfig s ((clearBank n s).rset .INV_STATE n 0) := by
    obtain ⟨c, b, z, h⟩ := blankBank_frame n false s
    rw [clearBank, h]
    exact ⟨rfl, rfl, rfl, rfl⟩
  unfold endInvalidation
  extract_lets t
  split
  · split
    · exact ht.trans (startHandover_sameConfig ..)
    · exact ht
  · exact .refl s

theorem endWake_sameConfig (n : Nat) (s : State) : SameConfig s (endWake n s) := by
  unfold endWake
  split
  · exact ⟨rfl, rfl, rfl, rfl⟩
  · exact .refl s

theorem settleBank_sameConfig (n : Nat) (r : Requester) (cls : Nat) (s : State) : SameConfig s (settleBank n r cls s) :=
  (endInvalidation_sameConfig n s).trans ((SameConfig.accessed (wakeForAccess_accessed ..)).trans ((endWake_sameConfig ..).trans
    (.accessed (engineTurn_accessed ..))))

theorem writeBytes_sameConfig (f place : Nat) (bs : Bytes) (s : State) : SameConfig s (writeBytes f place bs s) := by
  induction f generalizing place bs s with
  | zero => exact .refl s
  | succ f ih =>
    unfold writeBytes
    split
    · exact .refl s
    · exact ((settleBank_sameConfig ..).trans (.accessed (plazaWriteRow_accessed ..))).trans (ih ..)

/-! ### Triple registers and passes -/

theorem setCopies_frame (e : El) (v : Nat) (s : State) : ∃ a, setCopies e v s = s.setScr { s.scr with triple := a } := ⟨_, rfl⟩

/-- What a check of the triple registers may change: their copies, and what shows that one was outvoted. -/
structure TripleCheck (s t : State) : Prop where
  frame : ∃ a o r g, t = { s with scr := { s.scr with triple := a, oddCopy := o }, regs := r, recorder := g }
  regs : Leaves [.CS_SELF_UPSETS, .REC_LOST] s t

theorem TripleCheck.refl (s : State) : TripleCheck s s := ⟨⟨_, _, _, _, rfl⟩, .refl s⟩

theorem TripleCheck.trans {s t u : State} (h : TripleCheck s t) (h' : TripleCheck t u) : TripleCheck s u := by
  refine ⟨?_, h.regs.trans h'.regs⟩
  obtain ⟨⟨a, o, r, g, rfl⟩, -⟩ := h
  obtain ⟨⟨a', o', r', g', rfl⟩, -⟩ := h'
  exact ⟨_, _, _, _, rfl⟩

theorem setCopy_tripleCheck (e : El) (c v : Nat) (s : State) : TripleCheck s (setCopy e c v s) := ⟨⟨_, _, _, _, rfl⟩, .of_regs rfl⟩

theorem selfUpset_tripleCheck (c : Nat) (s : State) : TripleCheck s (selfUpset c s) := by
  refine ⟨?_, ?_⟩
  · obtain ⟨g, r, h⟩ := raise_frame ((s.setScr { s.scr with oddCopy := c % 3 }).rinc .CS_SELF_UPSETS) sevWarning 0x0112 scrubUnit (leBytes 1 (c % 3))
    exact ⟨_, _, _, _, h⟩
  · exact Leaves.trans (t := s.setScr { s.scr with oddCopy := c % 3 }) (.of_regs rfl) ((Leaves.rinc (by decide) ..).trans (.raise (by decide) ..))

theorem correctTriple_tripleCheck (e : El) (s : State) : TripleCheck s (correctTriple e s) := by
  unfold correctTriple
  extract_lets v
  split
  · exact .refl _
  · exact (setCopy_tripleCheck ..).trans ((setCopy_tripleCheck ..).trans ((setCopy_tripleCheck ..).trans (selfUpset_tripleCheck ..)))

theorem findTriple_tripleCheck (vote : CopyVote) (s : State) : TripleCheck s (findTriple vote s) := by
  unfold findTriple
  split
  · exact .refl s
  · exact .refl s
  · exact .refl s
  · split
    · exact .refl s
    · exact (setCopy_tripleCheck ..).trans (correctTriple_tripleCheck ..)

theorem setCopies_foldl (l : List El) (s : State) :
    ∃ a, l.foldl (fun t e => setCopies e (t.rget e) t) s = s.setScr { s.scr with triple := a } := by
  induction l generalizing s with
  | nil => exact ⟨s.scr.triple, rfl⟩
  | cons e l ih =>
    obtain ⟨b, hb⟩ := setCopies_frame e (s.rget e) s
    rw [List.foldl_cons, hb]
    obtain ⟨a, h⟩ := ih (s.setScr { s.scr with triple := b })
    exact ⟨a, h⟩

theorem refreshTriple_frame (s : State) : (∃ a b r g, refreshTriple s = { s with scr := { s.scr with triple := a, stale := b }, regs := r, recorder := g }) ∧
    Leaves [.REC_LOST] s (refreshTriple s) := by
  unfold refreshTriple
  split
  · split
    · exact ⟨⟨_, _, _, _, rfl⟩, .refl s⟩
    · obtain ⟨g, r, h⟩ := raise_frame (s.setScr { s.scr with stale := true }) sevWarning 0x0114 scrubUnit []
      exact ⟨⟨_, _, _, _, h⟩, Leaves.trans (t := s.setScr { s.scr with stale := true }) (.of_regs rfl) (.raise (by decide) ..)⟩
  · obtain ⟨a, h⟩ := setCopies_foldl tripleElements s
    rw [h]
    exact ⟨⟨_, _, _, _, rfl⟩, .of_regs rfl⟩

/-- A pass that begins. -/
theorem startPass_spec (s : State) : (∃ c r g, startPass s = { s with scr := c, regs := r, recorder := g } ∧ c.pass = s.scr.pass ∧
    c.checkOnly = s.scr.checkOnly ∧ c.reads = [] ∧ c.queue = s.scr.queue ∧ c.extra = s.scr.extra) ∧ Leaves [.REC_LOST] s (startPass s) := by
  obtain ⟨⟨a, b, r, g, h⟩, hl⟩ := refreshTriple_frame s
  unfold startPass
  rw [h] at hl ⊢
  extract_lets s₁ sets
  split
  · exact ⟨⟨_, _, _, rfl, rfl, rfl, rfl, rfl, rfl⟩, hl.trans (.of_regs rfl)⟩
  · exact ⟨⟨_, _, _, rfl, rfl, rfl, rfl, rfl, rfl⟩, hl.trans (.of_regs rfl)⟩

theorem finishPass_spec (s : State) : (∃ c r g, finishPass s = { s with scr := c, regs := r, recorder := g }) ∧
    Leaves [.CS_PASSES, .CS_LAST_PASS, .REC_LOST] s (finishPass s) := by
  unfold finishPass
  split
  · extract_lets took s₁
    obtain ⟨⟨c, r, g, h, -⟩, hl⟩ := startPass_spec (s₁.setScr { s₁.scr with pass := (s₁.scr.pass + 1) % 4 })
    have h₁ : Leaves [.CS_PASSES, .CS_LAST_PASS, .REC_LOST] s s₁ := (Leaves.rinc (by decide) ..).trans (.rset (by decide) ..)
    refine ⟨⟨c, r, g, h⟩, h₁.trans (Leaves.trans (t := s₁.setScr { s₁.scr with pass := (s₁.scr.pass + 1) % 4 }) (.of_regs rfl) (hl.mono (by decide)))⟩
  · exact ⟨⟨_, _, _, rfl⟩, .refl s⟩

/-! ### Repairs -/

theorem promoteRepairs_frame (s : State) : ∃ q x, promoteRepairs s = s.setScr { s.scr with queue := q, extra := x } := ⟨_, _, rfl⟩

/-- What the end of a plane's repairs may change: its judgement, its state where it was REPAIR, and its District's release. -/
theorem settleRepairs_frame (plane : Nat) (s : State) :
    ∃ j p d, settleRepairs plane s = { s with scr := { s.scr with judged := j }, planes := p, dists := d } ∧ ((s.plane plane).state ≠ 3 → p = s.planes) := by
  have hrel (n : Nat) (t : State) : ∃ d, releaseFrom n t = { t with dists := d } := by
    unfold releaseFrom
    split
    · exact ⟨_, rfl⟩
    · exact ⟨_, rfl⟩
  have h₁ (n : Nat) : ∃ j p, (if s.hasQueued n then s else
      if ((s.setScr { s.scr with judged := mdel s.scr.judged n }).plane n).state = 3 then
        (s.setScr { s.scr with judged := mdel s.scr.judged n }).setPlane n
          { (s.setScr { s.scr with judged := mdel s.scr.judged n }).plane n with state := 2 }
      else s.setScr { s.scr with judged := mdel s.scr.judged n }) = { s with scr := { s.scr with judged := j }, planes := p } ∧
      ((s.plane n).state ≠ 3 → p = s.planes) := by
    split
    · exact ⟨_, _, rfl, fun _ => rfl⟩
    · split
      · next h => exact ⟨_, _, rfl, fun h' => absurd h h'⟩
      · exact ⟨_, _, rfl, fun _ => rfl⟩
  obtain ⟨j, p, h, hp⟩ := h₁ plane
  unfold settleRepairs
  extract_lets d _ s₁ _ s₂
  have hs : s₂ = { s with scr := { s.scr with judged := j }, planes := p } := h
  rw [hs]
  split
  · exact ⟨j, p, _, rfl, hp⟩
  · obtain ⟨x, hx⟩ := hrel d { s with scr := { s.scr with judged := j }, planes := p }
    exact ⟨j, p, x, hx, hp⟩

theorem supersede_frame (plane : Nat) (s : State) : ∃ c, supersede plane s = s.setScr c ∧ c.damage = s.scr.damage := by
  unfold supersede dropQueued
  extract_lets p c ts
  exact ⟨_, rfl, rfl⟩

/-- A ticket that was given keeps the value set. -/
theorem ticketState_setTicket {n : Nat} {s : State} (v : Nat) (h : s.ticketState n ≠ 0) : (setTicket n v s).ticketState n = v := by
  unfold State.ticketState setTicket at *
  dsimp only
  rw [← List.map_reverse]
  generalize s.load.tickets.reverse = l at *
  induction l with
  | nil => exact absurd rfl h
  | cons p l ih =>
    rw [List.map_cons, List.find?_cons]
    by_cases hp : p.1 = n
    · rw [if_pos hp]
      simp
    · rw [if_neg hp]
      rw [List.find?_cons] at h
      have hb : (p.1 == n) = false := by simpa using hp
      rw [hb] at h ⊢
      exact ih h

end Sys2Proof.Machine
end

section

/-! # The Inner Ports (O36) -/

namespace Sys2Proof.Machine

open Sys2Proof.Safety

/-! ### Frames -/

theorem setFrame_frames_other (s : State) (p f : Nat) (v : BitVec 2093) {k : Nat} (h : k ≠ frameKey p f) :
    mfind (s.setFrame p f v).frames k = mfind s.frames k := mfind_mset_other _ _ _ _ _ h

theorem setFrame_planes (s : State) (p f : Nat) (v : BitVec 2093) : (s.setFrame p f v).planes = s.planes := rfl

theorem frame_setFrame (s : State) (p f : Nat) (v : BitVec 2093) : (s.setFrame p f v).frame p f = v := mget_mset_same ..

theorem frame_congr {s t : State} (h : t.frames = s.frames) (p f : Nat) : t.frame p f = s.frame p f := by rw [State.frame, h, State.frame]

/-- On sound cells what is written stands. -/
theorem setFrameCells_sound {p f : Nat} (v : BitVec 2093) {s : State} (h : mfind s.scr.damage (frameKey p f) = none) :
    setFrameCells p f v s = s.setFrame p f v := by
  unfold setFrameCells
  extract_lets key
  split
  · rfl
  · next hs => cases h.symm.trans hs

theorem writeFrame_sound {p f : Nat} (d : BitVec 2048) {s : State} (h : mfind s.scr.damage (frameKey p f) = none) :
    writeFrame p f d s = s.setFrame p f (makeFrame p f d) := setFrameCells_sound _ h

/-! ### The Inner Ports -/

theorem length_leBytes (n v : Nat) : (leBytes n v).length = n := by
  induction n generalizing v with
  | zero => rfl
  | succ n ih => rw [leBytes, List.length_cons, ih]

/-- The answer that a port shows. -/
def State.ipShown (s : State) (d : Nat) : IpAnswer := mget s.load.ipOut d { status := 9, ticket := 0, data := 0 }

theorem ipShown_ipAnswer (d status ticket : Nat) (data : BitVec 2048) (s : State) :
    (ipAnswer d status ticket data s).ipShown d = { status, ticket, data } := by
  show (mfind (mput s.load.ipOut d _) d).getD _ = _
  rw [mfind_mput_same]
  rfl

theorem plane_setPlane (s : State) (p : Nat) (x : Plane) : (s.setPlane p x).plane p = x := mget_mset_same ..

theorem ipBegin_spec (p : Nat) (s : State) : (ipBegin p s).frames = s.frames ∧ (ipBegin p s).scr.damage = s.scr.damage ∧
    ((ipBegin p s).plane p).state = if s.ipWrites p then (s.plane p).state else 1 := by
  unfold ipBegin
  split
  · exact ⟨rfl, rfl, rfl⟩
  · extract_lets s₁ _ s₂
    obtain ⟨c, hc, hd⟩ := supersede_frame p s
    have h₁ : s₁ = s.setScr c := hc
    have hst : (s₂.plane p).state = 1 := congrArg Plane.state (plane_setPlane s₁ p _)
    obtain ⟨j, q, x, hf, hp⟩ := settleRepairs_frame p (s₂.setLoad { s₂.load with ipPlanes := mput s₂.load.ipPlanes p [] })
    rw [hf]
    refine ⟨?_, ?_, ?_⟩
    · show s₁.frames = _
      rw [h₁]
      rfl
    · show s₁.scr.damage = _
      rw [h₁, ← hd]
      rfl
    · rw [hp (fun h => absurd (hst.symm.trans h) (by decide))]
      exact hst

/-- A frame written through a port whose cells are sound stands. -/
theorem ipWriteFrame_sound {p f : Nat} (d : BitVec 2048) {s : State} (h : mfind s.scr.damage (frameKey p f) = none) :
    (ipWriteFrame p f d s).1 = true ∧ (ipWriteFrame p f d s).2.frame p f = makeFrame p f d ∧
      (((ipWriteFrame p f d s).2.plane p).state = if s.ipWrites p then (s.plane p).state else 1) ∧
      (∀ k, k ≠ frameKey p f → mfind (ipWriteFrame p f d s).2.frames k = mfind s.frames k) := by
  obtain ⟨hf, hd, hs⟩ := ipBegin_spec p s
  have hsound : mfind (ipBegin p s).scr.damage (frameKey p f) = none := hd ▸ h
  unfold ipWriteFrame
  extract_lets r _ s₁ _
  have hr : r = (true, (ipBegin p s).setFrame p f (makeFrame p f d)) := by
    unfold r
    rw [writeVerified_eq d hsound, writeFrame_sound d hsound]
  have h1 : r.1 = true := by rw [hr]
  have h2 : r.2 = (ipBegin p s).setFrame p f (makeFrame p f d) := by rw [hr]
  have hframes : s₁.frames = r.2.frames := by clear_value r; rfl
  have hplanes : s₁.planes = r.2.planes := by clear_value r; rfl
  clear_value r
  refine ⟨h1, ?_, ?_, fun k hk => ?_⟩
  · show s₁.frame p f = _
    rw [frame_congr hframes, h2, frame_setFrame]
  · show (mget s₁.planes p Plane.empty).state = _
    rw [hplanes, h2, setFrame_planes]
    exact hs
  · show mfind s₁.frames k = _
    rw [hframes, h2, setFrame_frames_other _ _ _ _ hk, hf]

theorem ipStore_sound {d p f : Nat} (x : BitVec 2048) {s : State} (h : mfind s.scr.damage (frameKey p f) = none) :
    (ipStore d p f x s).frame p f = makeFrame p f x ∧ ((ipStore d p f x s).plane p).state = (if s.ipWrites p then (s.plane p).state else 1) ∧
      (ipStore d p f x s).ipShown d = { status := 0, ticket := 0, data := 0 } ∧
      (∀ k, k ≠ frameKey p f → mfind (ipStore d p f x s).frames k = mfind s.frames k) ∧ (ipStore d p f x s).cells = s.cells := by
  obtain ⟨h1, h2, h3, h4⟩ := ipWriteFrame_sound x h
  have he : ipStore d p f x s = ipAnswer d 0 0 0 (ipWriteFrame p f x s).2 := if_pos h1
  refine ⟨?_, ?_, ?_, ?_, cells_of_words (ipStore_words ..)⟩
  · rw [he]
    exact h2
  · rw [he]
    exact h3
  · rw [he, ipShown_ipAnswer]
  · rw [he]
    exact h4

theorem ipRefusal_of_unreached {d p f : Nat} {s : State} (h : s.ipReaches d p f = false) (writes : Bool) : s.ipRefusal d p f writes = some 2 :=
  if_pos (by simp [h])

section
variable {d p : Nat} {s : State} (hr : s.ipReady d = true)
include hr

theorem execIpFrameWrite_of_badBeats {f : Nat} {b : IpBeats} (hb : frameBeats b = false) :
    execIpFrameWrite d p f b s = .next (ipAnswer d 8 0 0 s) := by
  unfold execIpFrameWrite
  rw [if_neg (by simp [hr]), if_pos (by simp [hb])]

theorem execIpFrameRead_of_badBeats {f : IpRequest} (hn : f.beats ≠ 1) : execIpFrameRead d p f s = .next (ipAnswer d 8 0 0 s) := by
  unfold execIpFrameRead
  rw [if_neg (by simp [hr]), if_pos (by simpa using hn)]

theorem execIpPartial_of_badBeats {f : Nat} {mask data : FrameBits} (hm : oneBeat mask = false) :
    execIpPartial d p f mask data s = .next (ipAnswer d 8 0 0 s) := by
  unfold execIpPartial
  rw [if_neg (by simp [hr]), if_pos (by simp [hm])]

theorem execIpFrameWrite_of_refused {f st : Nat} {b : IpBeats} (hb : frameBeats b = true) (h : s.ipRefusal d p f true = some st) :
    execIpFrameWrite d p f b s = .next (ipAnswer d st 0 0 s) := by
  unfold execIpFrameWrite
  rw [if_neg (by simp [hr]), if_neg (by simp [hb]), h]

theorem execIpFrameWrite_of_taken {f : Nat} {b : IpBeats} (hb : frameBeats b = true) (h : s.ipRefusal d p f true = none) :
    execIpFrameWrite d p f b s = .next (ipStore d p f (beatsData b) s) := by
  unfold execIpFrameWrite
  rw [if_neg (by simp [hr]), if_neg (by simp [hb]), h]

theorem execIpFrameRead_of_refused {f st : Nat} (h : s.ipRefusal d p f false = some st) :
    execIpFrameRead d p { number := f, beats := 1 } s = .next (ipAnswer d st 0 0 s) := by
  unfold execIpFrameRead
  rw [if_neg (by simp [hr]), if_neg (by simp), h]

theorem execIpFrameRead_of_good {f : Nat} {v : BitVec 2048} (h : s.ipRefusal d p f false = none) (hv : s.portRead p f = .good v) :
    execIpFrameRead d p { number := f, beats := 1 } s = .next (ipAnswer d 0 0 v s) := by
  unfold execIpFrameRead
  rw [if_neg (by simp [hr]), if_neg (by simp), h]
  dsimp only
  rw [hv]

theorem execIpPartial_of_good {f : Nat} {mask data : FrameBits} {v : BitVec 2048} (hm : oneBeat mask = true)
    (h : s.ipRefusal d p f true = none) (hv : s.portRead p f = .good v) :
    execIpPartial d p f mask data s = .next (ipStore d p f (mergeFrame v mask data) s) := by
  unfold execIpPartial
  rw [if_neg (by simp [hr]), if_neg (by simp [hm]), h]
  dsimp only
  rw [hv]

theorem execIpSeal_of_badBeats {r : IpRequest} (hn : r.beats ≠ 1) : execIpSeal d r s = .next (ipAnswer d 8 0 0 s) := by
  unfold execIpSeal
  rw [if_neg (by simp [hr]), if_pos (by simpa using hn)]

theorem execIpStream_of_unawaited {b : BitVec 128} (h : s.load.active = false ∨ s.load.source ≠ 4) :
    execIpStream d b s = .next (ipAnswer d 7 0 0 s) := by
  unfold execIpStream
  rw [if_neg (by simp [hr]), if_neg (by obtain h | h := h <;> simp [h])]

theorem execIpStream_of_awaited {b : BitVec 128} (ha : s.load.active = true) (hs : s.load.source = 4) :
    execIpStream d b s = .next (ipAnswer d 0 0 0 (feed (leBytes 16 b.toNat) s)) := by
  unfold execIpStream
  rw [if_neg (by simp [hr]), if_pos (by simp [ha, hs])]

theorem execIpSeal_of_reached (h : s.ipRefusal d p 0 false = none) :
    execIpSeal d { number := p, beats := 1 } s = .next (sealNow 2 d p s) := by
  unfold execIpSeal
  rw [if_neg (by simp [hr]), if_neg (by simp), h]

end

theorem sealNow_of_unwritten (n d : Nat) {p : Nat} {s : State} (hw : s.ipWrites p = false) : sealNow (n + 1) d p s = ipAnswer d 6 0 0 s :=
  if_pos (by simp [hw])

section
variable (n d : Nat) {p : Nat} {s t : State} (hw : s.ipWrites p = true)
  (ht : t = s.setPlane p { s.plane p with state := 2, user := s.userOf p })
include hw ht

theorem sealNow_of_fault {f : Nat × Nat} (hf : s.sealFault t p = some f) :
    sealNow (n + 1) d p s = ipAnswer d 6 0 0 ((s.rset .LOAD_REASON 0 f.1).rset .LOAD_DETAIL 0 f.2) := by
  refine (if_neg (by simp [hw])).trans ?_
  rw [← ht]
  simp only [hf]

theorem sealNow_of_passed (hf : s.sealFault t p = none) (hu : t.scheduledUnderTest [p] = false) :
    sealNow (n + 1) d p s = ipAnswer d 0 0 0 (sealPlane p t) := by
  refine (if_neg (by simp [hw])).trans ?_
  rw [← ht]
  simp only [hf, hu, Bool.false_eq_true, if_false]

end

/-- A plane's slot in the reserve takes its frames without a change to the planes or the frames. -/
theorem sealReserve_keeps (p : Nat) (fs : List Nat) (s : State) : (sealReserve p fs s).planes = s.planes ∧ (sealReserve p fs s).frames = s.frames := by
  have hrefill (t : State) : (refill p t).planes = t.planes ∧ (refill p t).frames = t.frames := by
    unfold refill
    extract_lets c
    split
    · exact ⟨rfl, rfl⟩
    · exact ⟨rfl, rfl⟩
  have hcopy (slot f : Nat) (t : State) : (reserveFrame p slot f t).2.planes = t.planes ∧ (reserveFrame p slot f t).2.frames = t.frames := by
    unfold reserveFrame
    split
    · unfold copyToReserve
      extract_lets tail r dir entry s₁ s₂
      have h₂ : SameConfig t s₂ := (writeBytes_sameConfig ..).trans (writeBytes_sameConfig ..)
      split
      · exact ⟨h₂.planes, h₂.frames⟩
      · exact ⟨(writeBytes_sameConfig ..).planes, (writeBytes_sameConfig ..).frames⟩
    · exact ⟨(writeBytes_sameConfig ..).planes, (writeBytes_sameConfig ..).frames⟩
  unfold sealReserve
  split
  · exact ⟨rfl, rfl⟩
  · split
    · exact ⟨foldl_keeps State.planes (fun t f => (hcopy _ f t).1) _ s, foldl_keeps State.frames (fun t f => (hcopy _ f t).2) _ s⟩
    · unfold takeSlot
      split
      · exact ⟨rfl, rfl⟩
      split
      · exact hrefill s
      split
      · exact hrefill _
      · exact ⟨rfl, rfl⟩

theorem noteWritten_keeps (p : Nat) (s : State) : (noteWritten p s).planes = s.planes ∧ (noteWritten p s).frames = s.frames := by
  unfold noteWritten
  extract_lets x s₁
  split
  · exact ⟨rfl, rfl⟩
  · exact ⟨rfl, rfl⟩

theorem settleSuperseded_keeps (p v : Nat) (s : State) : (settleSuperseded p v s).planes = s.planes ∧ (settleSuperseded p v s).frames = s.frames := by
  have ht (t : State) (k : Nat) : (setTicket k v t).planes = t.planes ∧ (setTicket k v t).frames = t.frames := ⟨rfl, rfl⟩
  unfold settleSuperseded setTickets
  extract_lets ts
  exact ⟨foldl_keeps State.planes (fun t k => (ht t k).1) ts _, foldl_keeps State.frames (fun t k => (ht t k).2) ts _⟩

theorem sealPlane_keeps (p : Nat) (t : State) : (sealPlane p t).planes = t.planes ∧ (sealPlane p t).frames = t.frames := by
  unfold sealPlane
  extract_lets fs s₁ s₂ _ _ s₃
  have h₁ := noteWritten_keeps p (initShadow p t)
  have h₃ : s₃.planes = t.planes ∧ s₃.frames = t.frames := h₁
  have h₄ := settleSuperseded_keeps p 2 s₃
  have h₅ := sealReserve_keeps p fs (settleSuperseded p 2 s₃)
  exact ⟨h₅.1.trans (h₄.1.trans h₃.1), h₅.2.trans (h₄.2.trans h₃.2)⟩

/-- Bytes that come before the header is whole join the stream, and nothing more is judged. -/
theorem feed_unheaded {s : State} (bs : Bytes) (ha : s.load.active = true) (hg : s.load.goldenWait = false) (hs : s.load.synced = true)
    (hh : s.load.headed = false) (ht : s.load.tabled = false) (hl : s.load.stream.length + bs.length < headerLen) :
    ∃ u, feed bs s = u ∧ u.load.stream = s.load.stream ++ bs ∧ u.rget .LOAD_BYTES = s.load.hunted + s.load.stream.length + bs.length ∧
      { u with load := s.load, regs := s.regs } = s := by
  let t := s.setLoad { s.load with stream := s.load.stream ++ bs }
  let u := t.rset .LOAD_BYTES 0 (s.load.hunted + (s.load.stream ++ bs).length)
  have hlen : (s.load.stream ++ bs).length = s.load.stream.length + bs.length := List.length_append
  have hbytes : takeBytes bs s = u := by
    unfold takeBytes
    extract_lets l stream hunted
    have hk : hunted = stream := if_neg (by simp [l, hh])
    rw [hk]
  have hfind : findStart u = u := if_pos hs
  have hjudge : judgeHeader u = u := by
    refine if_pos ?_
    show (_ || decide ((s.load.stream ++ bs).length < headerLen)) = true
    rw [hlen, Bool.or_eq_true, decide_eq_true_eq]
    exact .inr hl
  have htable : judgeTable u = u := if_pos (by simp [u, t, State.setLoad, hh])
  refine ⟨u, ?_, rfl, ?_, rfl⟩
  · rw [feed_of_active hg ha, hbytes, hfind, hjudge, htable]
    exact if_neg (by simp [u, t, State.setLoad, ht])
  · rw [Nat.add_assoc, ← hlen]
    exact State.rget_rset_same t ..

/-- Settles O36: the answers by the port's refusals, a write by `ipStore`, SEAL by `sealNow`, the stream by `feed`. -/
theorem innerPorts : Obligations.InnerPorts := by
  unfold Obligations.InnerPorts
  refine ⟨fun d p f b data mask s => ⟨fun hr h => ⟨fun hb => ?_, ?_⟩, fun hr h hd => ⟨fun hb => ?_, fun v hm hv => ?_⟩,
      fun hr v h hv => execIpFrameRead_of_good hr h hv, fun hr hb => ?_, fun hr n hn => ?_, fun hr hm => ?_, fun hr op h5 h7 => ?_,
      fun hr => ⟨if_pos (by simp [hr]), fun n => if_pos (by simp [hr]), if_pos (by simp [hr])⟩⟩,
    fun w d p v s => ⟨fun ha hv => ?_, fun ha => write_store ha, fun hr n hn => ?_, fun hr h => ⟨fun hw => ?_, fun hw => ?_⟩,
      fun hr b h => ?_, fun hr ha hsrc hg hs hh ht hl b => ?_⟩⟩
  · exact execIpFrameWrite_of_refused hr hb (ipRefusal_of_unreached h true)
  · exact execIpFrameRead_of_refused hr (ipRefusal_of_unreached h false)
  · obtain ⟨h1, h2, h3, h4, h5⟩ := ipStore_sound (d := d) (beatsData b) hd
    exact ⟨_, execIpFrameWrite_of_taken hr hb h, h1, h2, h3, h4, h5⟩
  · obtain ⟨h1, h2, h3, h4, h5⟩ := ipStore_sound (d := d) (mergeFrame v mask data) hd
    exact ⟨_, execIpPartial_of_good hr hm h hv, h1, h4, h5⟩
  · exact execIpFrameWrite_of_badBeats hr hb
  · exact execIpFrameRead_of_badBeats hr hn
  · exact execIpPartial_of_badBeats hr hm
  · exact congrArg Host.Outcome.next (if_pos (by simp [hr, Nat.ble_eq, h5, h7]))
  · exact write_stores (h := hIpHost d) ha rfl (by simpa [hIpHost, Nat.ble_eq] using hv) rfl
  · exact execIpSeal_of_badBeats hr hn
  · exact (execIpSeal_of_reached hr h).trans (congrArg Host.Outcome.next (sealNow_of_unwritten 1 d hw))
  · intro x
    refine ⟨fun f hf => (execIpSeal_of_reached hr h).trans (congrArg Host.Outcome.next (sealNow_of_fault 1 d hw rfl hf)), fun hf hu => ?_⟩
    · have he : sealNow 2 d p s = ipAnswer d 0 0 0 (sealPlane p x) := sealNow_of_passed 1 d hw rfl hf hu
      obtain ⟨h1, h2⟩ := sealPlane_keeps p x
      have hx : (ipAnswer d 0 0 0 (sealPlane p x)).plane p = { s.plane p with state := 2, user := s.userOf p } := by
        show mget (sealPlane p x).planes p Plane.empty = _
        rw [h1]
        exact plane_setPlane ..
      refine ⟨_, (execIpSeal_of_reached hr h).trans (congrArg Host.Outcome.next he), ?_, ?_, h2, ipShown_ipAnswer ..⟩
      · rw [hx]
      · rw [hx]
  · exact execIpStream_of_unawaited hr h
  · obtain ⟨u, hu, hstream, hcount, hframe⟩ := feed_unheaded (leBytes 16 b.toNat) ha hg hs hh ht (by rw [length_leBytes]; exact hl)
    refine ⟨ipAnswer d 0 0 0 u, (execIpStream_of_awaited hr ha hsrc).trans (congrArg (fun t => Host.Outcome.next (ipAnswer d 0 0 0 t)) hu),
      hstream, ?_, ipShown_ipAnswer d 0 0 0 u, hframe⟩
    rw [length_leBytes] at hcount
    exact hcount

end Sys2Proof.Machine
end

section

/-! # The sweep with its repairs, and the scrubber's settings (O37, O38) -/

namespace Sys2Proof.Machine

open Sys2Proof.Safety

/-! ### The sweep -/

/-- What a step of the scrubber reads is as before but for the scrubber's own state. -/
theorem paused_congr {s t : State} (hr : t.rb = s.rb) (hb : t.tb = s.tb) (hl : t.L = s.L) (ho : t.orbits = s.orbits) (q k : Nat) :
    t.paused q k = s.paused q k := by
  have hc : t.crossing = s.crossing := by rw [State.crossing, State.crossing, ho, hl, hb]
  have hopen : t.pauseOpen q k = s.pauseOpen q k := by simp only [State.pauseOpen, State.ttCovers, State.ttActive, hr, hc]
  rw [State.paused, State.paused, State.pauseLimit, State.pauseLimit, hopen, hr, hc, hl]

theorem votedWrite_agree {act : State → State} {s : State} (h : s.scr.checkOnly = false) : votedWrite .agree act s = (true, act s) :=
  if_neg (by simp [h])

/-- A corrected frame on sound cells is rewritten and counted. -/
theorem correctOrRepair_sound {p f : Nat} {x : BitVec 2093} {s : State} (hx : classify p f x = .clean)
    (hd : mfind s.scr.damage (frameKey p f) = none) :
    correctOrRepair p f x s = frameVerified p f ((s.setFrame p f x).rinc .CS_CORRECTED) := by
  have hgood : ((s.setFrame p f x).rinc .CS_CORRECTED).readsBack p f = true := by
    show (classify p f ((s.setFrame p f x).frame p f) == .clean) = true
    rw [frame_setFrame, hx]
    rfl
  have hc : correctFrame p f x s = (true, frameVerified p f ((s.setFrame p f x).rinc .CS_CORRECTED)) := by
    unfold correctFrame
    rw [setFrameCells_sound x hd]
    exact if_pos hgood
  unfold correctOrRepair
  rw [hc]
  rfl

/-- The plane that a Quarter's sweep reads next, its frame, and the state in which it is read. -/
def State.sweepPlane (s : State) (q : Nat) : Nat :=
  (mget s.scr.sets q []).getD (mget s.scr.reads q 0 % (mget s.scr.sets q []).length) 0

def State.sweepAt (s : State) (q : Nat) : Nat := mget s.scr.reads q 0 / (mget s.scr.sets q []).length

def sweepMoved (q : Nat) (s : State) : State := s.setScr { s.scr with reads := mput s.scr.reads q (mget s.scr.reads q 0 + 1) }

/-- A read of a frame by a sweep that has begun and is not done. -/
theorem execSweepFrameRead_of_begun {q : Nat} {vote : CopyVote} {s u : State} (hu : findTriple vote s = u) (hm : s.memoryOn = true)
    (hb : u.scr.begun = true) (hp : u.paused q 1 = false) (hd : u.sweepDone q = false) (hl : u.loaded (u.sweepPlane q) = true) :
    execSweepFrameRead q vote s = .next (finishPass (sweepFrame (u.sweepPlane q) (u.sweepAt q) vote (sweepMoved q u))) := by
  unfold execSweepFrameRead
  rw [if_neg (by simp [hm]), hu]
  dsimp only
  rw [if_pos hb, if_neg (by simp [hb, hp]), if_neg (by simp [hd])]
  have hl' : (sweepMoved q u).loaded (u.sweepPlane q) = true := hl
  exact congrArg (fun t => Host.Outcome.next (finishPass t)) (if_pos hl')

theorem sweepFrame_of_clean {p f : Nat} (vote : CopyVote) {s : State} (h : classify p f (s.frame p f) = .clean) : sweepFrame p f vote s = s := by
  rw [sweepFrame, h]

theorem sweepFrame_of_corrected {p f : Nat} {x : BitVec 2093} {s : State} (h : classify p f (s.frame p f) = .corrected x)
    (hx : classify p f x = .clean) (hc : s.scr.checkOnly = false) (hd : mfind s.scr.damage (frameKey p f) = none) :
    sweepFrame p f .agree s = frameVerified p f ((s.setFrame p f x).rinc .CS_CORRECTED) := by
  rw [sweepFrame, h]
  dsimp only
  rw [votedWrite_agree hc, correctOrRepair_sound hx hd]

/-! ### The ends of repairs -/

theorem ticketState_congr {s t : State} (h : t.load = s.load) (n : Nat) : t.ticketState n = s.ticketState n := by
  rw [State.ticketState, h, State.ticketState]

/-- A finished repair keeps the frames, and shows its ticket. -/
theorem finishRepair_spec {p f n v : Nat} {s : State} (ht : s.ticketState n ≠ 0) :
    (finishRepair p f n v s).frames = s.frames ∧ (finishRepair p f n v s).ticketState n = 2 ∧ (finishRepair p f n v s).scr.lastTicket = n ∧
      (finishRepair p f n v s).scr.handed = s.scr.handed.filter (fun h => h.1 != p || h.2.1 != f) ∧
      (finishRepair p f n v s).scr.busy = (s.scr.busy.bind fun b => if b.entry.plane = p ∧ b.entry.frame = f then none else some b) ∧
      (v ≠ 3 → (finishRepair p f n v s).rget .CS_RELOADED = Nat.min (s.rget .CS_RELOADED + 1) 0xFFFFFFFF) := by
  unfold finishRepair
  extract_lets c others busy s₁ s₂ s₃
  have htick : s₁.ticketState n = 2 := ticketState_setTicket 2 ht
  have hbusy : busy = s.scr.busy.bind fun b => if b.entry.plane = p ∧ b.entry.frame = f then none else some b := by
    unfold busy c
    cases s.scr.busy <;> rfl
  have h₃ : (s₃.frames = s₂.frames ∧ s₃.load = s₂.load ∧ s₃.scr = s₂.scr) ∧
      (v ≠ 3 → s₃.rget .CS_RELOADED = Nat.min (s₂.rget .CS_RELOADED + 1) 0xFFFFFFFF) := by
    unfold s₃
    split
    · next h => exact ⟨⟨rfl, rfl, rfl⟩, fun h' => absurd h h'⟩
    · exact ⟨⟨raise_frames .., raise_load .., raise_scr ..⟩, fun _ => by
        rw [raise_rget _ _ _ _ _ _ (by decide), State.rget_rinc, if_pos ⟨rfl, rfl⟩]
        rfl⟩
  obtain ⟨⟨hf₃, hl₃, hs₃⟩, hr₃⟩ := h₃
  obtain ⟨q, x, hp⟩ := promoteRepairs_frame s₃
  obtain ⟨j, pl, d, hse, -⟩ := settleRepairs_frame p (promoteRepairs s₃)
  rw [hse, hp]
  refine ⟨hf₃, ?_, ?_, ?_, ?_, fun hv => ?_⟩
  · show State.ticketState { s₃ with load := s₃.load } n = 2
    exact (ticketState_congr hl₃ n).trans htick
  · exact congrArg CfgScrub.lastTicket hs₃
  · exact congrArg CfgScrub.handed hs₃
  · exact (congrArg CfgScrub.busy hs₃).trans hbusy
  · exact hr₃ hv

/-- A District that is stopped keeps the frames and the scrubber. -/
theorem stopDistrict_keeps (d : Nat) (s : State) : (stopDistrict d s).frames = s.frames ∧ (stopDistrict d s).scr = s.scr := by
  have hinit (k : Nat) (t : State) : (initShadow k t).frames = t.frames ∧ (initShadow k t).scr = t.scr := ⟨rfl, rfl⟩
  unfold stopDistrict
  split
  · exact ⟨rfl, rfl⟩
  · extract_lets s₁
    have h₁ : s₁.frames = s.frames ∧ s₁.scr = s.scr := by
      unfold s₁ holdDistrict
      exact ⟨foldl_keeps State.frames (fun t k => (hinit (8 * d + k) t).1) _ s, foldl_keeps State.scr (fun t k => (hinit (8 * d + k) t).2) _ s⟩
    exact h₁

theorem noteWritten_scr (p : Nat) (s : State) : (noteWritten p s).scr = s.scr := by
  unfold noteWritten
  extract_lets x s₁
  split <;> rfl

/-- The write of a repair on sound cells stands. -/
theorem writeRepair_sound {b : Repairing} {s : State} (hd : mfind s.scr.damage (frameKey b.entry.plane b.entry.frame) = none) :
    (writeRepair b s).frame b.entry.plane b.entry.frame = makeFrame b.entry.plane b.entry.frame b.data ∧
      (∀ k, k ≠ frameKey b.entry.plane b.entry.frame → mfind (writeRepair b s).frames k = mfind s.frames k) ∧
      (writeRepair b s).scr.busy = some { b with written := true } := by
  unfold writeRepair
  extract_lets s₁ r s₂
  have h₁ : s₁.frames = s.frames ∧ s₁.scr = s.scr := by
    unfold s₁
    split
    · exact stopDistrict_keeps ..
    · exact ⟨rfl, rfl⟩
  obtain ⟨hf₁, hs₁⟩ := h₁
  have hd₁ : mfind s₁.scr.damage (frameKey b.entry.plane b.entry.frame) = none := by rw [hs₁]; exact hd
  have hr : r = (true, s₁.setFrame b.entry.plane b.entry.frame (makeFrame b.entry.plane b.entry.frame b.data)) := by
    unfold r
    rw [writeChecked_eq _ hd₁, writeFrame_sound _ hd₁]
  have h₂ : s₂.frames = r.2.frames := by
    unfold s₂
    split
    · rfl
    · exact (noteWritten_keeps ..).2
  clear_value s₂ r
  subst hr
  rw [if_pos rfl]
  refine ⟨?_, fun k hk => ?_, rfl⟩
  · exact (frame_congr h₂ _ _).trans (frame_setFrame ..)
  · show mfind s₂.frames k = _
    rw [h₂, ← hf₁]
    exact setFrame_frames_other _ _ _ _ hk

theorem execContentionFrameRead_of_clean {p f n : Nat} {rest : List (Nat × Nat × Nat)} {vote : CopyVote} {s : State}
    (hh : (findTriple vote s).scr.handed = (p, f, n) :: rest)
    (hst : ((findTriple vote s).plane p).state = 2 ∨ ((findTriple vote s).plane p).state = 3)
    (hc : classify p f ((findTriple vote s).frame p f) = .clean) :
    execContentionFrameRead vote s = .next (finishRepair p f n 0 (findTriple vote s)) := by
  unfold execContentionFrameRead
  dsimp only
  rw [hh]
  dsimp only
  rw [if_neg (by omega), if_neg (by omega), hc]

theorem execRepairStart_of_clean {e : RepairEntry} {rest : List RepairEntry} {image : Bytes} {s : State} (hb : s.scr.busy = none)
    (hq : s.scr.queue = e :: rest) (hc : classify e.plane e.frame (s.frame e.plane e.frame) = .clean) :
    execRepairStart image s = .next (beginRepair e 0 0 (mget s.scr.judged e.plane (s.inService e.plane))
      (s.setScr { s.scr with judged := mput s.scr.judged e.plane (mget s.scr.judged e.plane (s.inService e.plane)) })) := by
  have hc' : ∀ c, classify e.plane e.frame ((s.setScr c).frame e.plane e.frame) = .clean := fun _ => hc
  unfold execRepairStart
  rw [hb, hq]
  dsimp only
  rw [hc']

theorem execRepairFrameWrite_of_agree {b : Repairing} {s : State} (hb : s.scr.busy = some b) (hw : b.written = false)
    (hc : s.scr.checkOnly = false) : execRepairFrameWrite .agree s = .next (writeRepair b s) := by
  unfold execRepairFrameWrite
  rw [show findTriple .agree s = s from rfl]
  dsimp only
  rw [hb]
  dsimp only
  rw [hw, votedWrite_agree hc]
  rfl

theorem execRepairFrameWrite_of_checkOnly {b : Repairing} {vote : CopyVote} {s : State} (hb : s.scr.busy = some b) (hw : b.written = false)
    (hc : s.scr.checkOnly = true) : execRepairFrameWrite vote s = .next (findTriple vote s) := by
  obtain ⟨⟨a, o, r, g, hu⟩, -⟩ := findTriple_tripleCheck vote s
  have hb' : (findTriple vote s).scr.busy = some b := by rw [hu]; exact hb
  have hc' : (findTriple vote s).scr.checkOnly = true := by rw [hu]; exact hc
  unfold execRepairFrameWrite
  dsimp only
  rw [hb']
  dsimp only
  rw [hw]
  exact congrArg (fun r : Bool × State => Host.Outcome.next r.2) (if_pos hc')

theorem execRepairDone_of_written {b : Repairing} {s : State} (hb : s.scr.busy = some b) (hw : b.written = true) :
    execRepairDone s = .next (finishRepair b.entry.plane b.entry.frame b.entry.ticket b.source s) := by
  unfold execRepairDone
  rw [hb]
  exact if_neg (by simp [hw])

/-- Settles O37: a sweep's read by `sweepFrame`, a repair's write by `writeRepair`, its end by `finishRepair`. -/
theorem sweepCorrects : Obligations.SweepCorrects := by
  unfold Obligations.SweepCorrects
  refine fun q vote s => ⟨fun hm hb hp hd => ?_, fun p f n rest hh hst hc ht => ?_, fun e rest image hb hq hc => ?_,
    fun b hb hw => ⟨?_, fun hc => ?_⟩, fun b hb hw ht => ?_⟩
  · intro set p f hl
    refine ⟨fun hc => ?_, fun x hx hcl hv hck hdm => ?_⟩
    · obtain ⟨⟨a, o, r, g, hu⟩, hleaves⟩ := findTriple_tripleCheck vote s
      have hlen := hleaves.rget .ORBIT_LEN (by decide) 0
      rw [hu] at hlen
      have hp' : State.paused { s with scr := { s.scr with triple := a, oddCopy := o }, regs := r, recorder := g } q 1 = false :=
        (paused_congr (s := s) (t := { s with scr := { s.scr with triple := a, oddCopy := o }, regs := r, recorder := g }) rfl rfl hlen rfl q 1).trans hp
      have he := (execSweepFrameRead_of_begun hu hm hb hp' hd hl).trans
        (congrArg (fun t => Host.Outcome.next (finishPass t)) (sweepFrame_of_clean vote hc))
      obtain ⟨⟨c, r', g', hf⟩, -⟩ := finishPass_spec (sweepMoved q { s with scr := { s.scr with triple := a, oddCopy := o }, regs := r, recorder := g })
      rw [hf] at he
      exact ⟨_, he, rfl, rfl, rfl⟩
    · subst hv
      have he : execSweepFrameRead q .agree s =
          .next (finishPass (frameVerified p f (((sweepMoved q s).setFrame p f x).rinc .CS_CORRECTED))) :=
        (execSweepFrameRead_of_begun (u := s) (vote := .agree) rfl hm hb hp hd hl).trans
        (congrArg (fun t => Host.Outcome.next (finishPass t)) (sweepFrame_of_corrected (s := sweepMoved q s) hx hcl hck hdm))
      obtain ⟨⟨c, r, g, hf⟩, hleaves⟩ := finishPass_spec (frameVerified p f (((sweepMoved q s).setFrame p f x).rinc .CS_CORRECTED))
      refine ⟨_, he, ?_, ?_, ?_, ?_, ?_⟩
      · rw [hf]
        exact frame_setFrame (sweepMoved q s) ..
      · rw [hf]
        exact fun k hk => setFrame_frames_other (sweepMoved q s) _ _ _ hk
      · rw [hf]
        rfl
      · rw [hf]
        rfl
      · rw [hleaves.rget .CS_CORRECTED (by decide) 0]
        exact (State.rget_rinc ((sweepMoved q s).setFrame p f x) ..).trans (if_pos ⟨rfl, rfl⟩)
  · obtain ⟨⟨a, o, r, g, hu⟩, hleaves⟩ := findTriple_tripleCheck vote s
    obtain ⟨hframes, htick, hlast, hhand, -, hcount⟩ := finishRepair_spec (p := p) (f := f) (v := 0)
      (s := findTriple vote s) (n := n) (by rw [hu]; exact ht)
    have hs₀ : (findTriple vote s).frames = s.frames ∧ (findTriple vote s).scr.handed = s.scr.handed := by rw [hu]; exact ⟨rfl, rfl⟩
    refine ⟨_, execContentionFrameRead_of_clean (rest := rest) ?_ ?_ ?_, htick, ?_, hlast, ?_, hframes.trans hs₀.1, ?_⟩
    · exact hs₀.2.trans hh
    · rw [hu]
      exact hst
    · rw [hu]
      exact hc
    · rw [hhand, hs₀.2, hh]
      simp
    · rw [hcount (by decide), hleaves.rget .CS_RELOADED (by decide) 0]
    · exact cells_of_words (by simp)
  · refine ⟨_, _, execRepairStart_of_clean hb hq hc, rfl, rfl, rfl, rfl, ?_, rfl, rfl⟩
    show s.scr.queue.drop 1 = rest
    rw [hq]
    rfl
  · intro hv hc hd
    subst hv
    obtain ⟨h1, h2, h3⟩ := writeRepair_sound hd
    exact ⟨_, execRepairFrameWrite_of_agree hb hw hc, h1, h2, h3, cells_of_words (by simp)⟩
  · exact execRepairFrameWrite_of_checkOnly hb hw hc
  · obtain ⟨hframes, htick, hlast, -, hbusy, -⟩ := finishRepair_spec (p := b.entry.plane) (f := b.entry.frame) (v := b.source) ht
    refine ⟨_, execRepairDone_of_written hb hw, ?_, hlast, htick, hframes, cells_of_words (by simp)⟩
    rw [hbusy, hb]
    exact if_pos ⟨rfl, rfl⟩

/-! ### The scrubber's settings -/

/-- A change of a keeper's value leaves the configuration, and a pass that begins with it too. -/
theorem scrubValue_spec {e : El} {v : Nat} {s : State} (he : e ≠ .REC_LOST) (hf : s.keeper.failed = false) (hw : ∀ k, s.worn k = false) :
    ∃ t, keepValue e 0 v s = .ok t ∧ (∀ u, u = (if t.scr.begun then t else startPass t) → u.rget e = v ∧ u.cells = s.cells ∧
      u.frames = s.frames ∧ u.planes = s.planes) := by
  obtain ⟨t, h, hv, ⟨g, r, k, i, ht⟩, -⟩ := keepValue_of_sound (e := e) (u := 0) (v := v) hf (hw _)
  refine ⟨t, h, fun u hu => ?_⟩
  obtain ⟨⟨c, r', g', hp, -⟩, hl⟩ := startPass_spec t
  split at hu
  · subst hu
    refine ⟨hv, ?_⟩
    rw [ht]
    exact ⟨rfl, rfl, rfl⟩
  · subst hu
    refine ⟨(hl.rget e (by simpa using he) 0).trans hv, ?_⟩
    rw [hp, ht]
    exact ⟨rfl, rfl, rfl⟩

theorem hFrEnable_act {v : Nat} {s : State} (h : ¬ (v = 1 ∧ ∃ i, i < s.rget .FR_BANKS ∧ s.reserveRefuses (s.rget .FR_FIRST + i) = true)) :
    hFrEnable.act v s = (match keepValue .FR_ENABLE 0 v s with
      | .error c => .error c
      | .ok s => .ok (if s.scr.begun then s else startPass s)) := by
  refine if_neg fun hc => h ?_
  simpa using hc

/-- The place that a filling takes the record of a frame read CLEAN to. -/
theorem copyToReserve_of_room {p slot f : Nat} {s : State}
    (h : mget s.scr.tails p directoryLen + (makeRecord (frameData (s.frame p f))).1.length ≤ s.slotSize) :
    ∃ u, copyToReserve p slot f s = (true, u) ∧ u.frames = s.frames ∧ u.scr.slots = s.scr.slots ∧ u.scr.filling = s.scr.filling ∧
      u.scr.tails = mput s.scr.tails p (mget s.scr.tails p directoryLen + (makeRecord (frameData (s.frame p f))).1.length) := by
  unfold copyToReserve
  extract_lets tail r dir entry s₁ s₂
  have h₁ : SameConfig s s₁ := writeBytes_sameConfig ..
  have h₂ : SameConfig s s₂ := h₁.trans (writeBytes_sameConfig ..)
  exact ⟨_, if_pos (Nat.ble_eq.mpr h), h₂.frames, (congrArg CfgScrub.slots h₂.scr :), (congrArg CfgScrub.filling h₂.scr :),
    congrArg (fun c : CfgScrub => mput c.tails p (tail + r.1.length)) h₂.scr⟩

theorem copyToReserve_of_full {p slot f : Nat} {s : State}
    (h : s.slotSize < mget s.scr.tails p directoryLen + (makeRecord (frameData (s.frame p f))).1.length) :
    ∃ u, SameConfig s u ∧ copyToReserve p slot f s = (false, u) := by
  unfold copyToReserve
  extract_lets tail r dir entry s₁ s₂
  exact ⟨_, writeBytes_sameConfig .., if_neg (by rw [Nat.ble_eq]; exact Nat.not_le.mpr h)⟩

section
variable {p f : Nat} {rest : List (Nat × Nat)} {s : State} (hfill : s.scr.filling = (p, f) :: rest) (hl : s.loaded p = true)
  (hen : s.votedSetting .FR_ENABLE = 1) (hm : s.memoryOn = true)
include hfill hl hen hm

/-- A step of a filling that goes on. -/
theorem execReserveFillFrame_of_taken {u : State} (hr : reserveFrame p (mget s.scr.slots p 0) f s = (true, u)) :
    ∃ t, execReserveFillFrame s = .next t ∧ t.frames = u.frames ∧ t.scr.slots = u.scr.slots ∧
      t.scr.filling = (if 4800 ≤ f + 1 then mdel u.scr.filling p else mput u.scr.filling p (f + 1)) ∧ t.scr.tails = u.scr.tails := by
  unfold execReserveFillFrame
  rw [hfill, List.find?_cons_of_pos (p := fun p : Nat × Nat => s.loaded p.1) hl]
  dsimp only
  rw [if_neg (by simp [hen, hm]), hr]
  refine ⟨_, if_neg (by simp), rfl, rfl, ?_, rfl⟩
  show (if Nat.ble 4800 (f + 1) = true then _ else _) = _
  simp only [Nat.ble_eq]

theorem execReserveFillFrame_of_full {u : State} (hr : reserveFrame p (mget s.scr.slots p 0) f s = (false, u)) :
    execReserveFillFrame s = .next (dropSlot p u) := by
  unfold execReserveFillFrame
  rw [hfill, List.find?_cons_of_pos (p := fun p : Nat × Nat => s.loaded p.1) hl]
  dsimp only
  rw [if_neg (by simp [hen, hm]), hr]
  rfl

end

/-- Settles O38: the settings by `keepValue` and `startPass`, a filling's step by `reserveFrame`. -/
theorem scrubSettings : Obligations.ScrubSettings := by
  unfold Obligations.ScrubSettings
  refine fun w v s => ⟨fun ha => ?_, fun e ha hb => ⟨fun hf => ?_, fun hf hw => ?_⟩, fun ha ⟨i, hi, hr⟩ => ?_, fun ha hv hf hw => ?_,
    fun h => ?_, fun p f rest hfill hl hen hm => ?_⟩
  · obtain ⟨⟨c, r, g, h, hp, hc, hr, hq, hx⟩, -⟩ := startPass_spec (s.setScr { s.scr with pass := 0, checkOnly := false })
    refine ⟨_, write_performed (h := hCsReset) ha rfl rfl rfl, ?_⟩
    rw [h]
    exact ⟨hc, hp, hr, hq, hx, rfl, rfl⟩
  · refine write_refused (h := hCsSetting e) ha rfl ?_ ?_ (by decide)
    · cases e <;> simp [hCsSetting] <;> exact hb rfl
    · show (match keepValue (scrubSettingEl e) 0 v s with | .error c => _ | .ok s => _) = _
      rw [keepValue_of_failed hf]
  · obtain ⟨t, ht, hspec⟩ := scrubValue_spec (e := scrubSettingEl e) (v := v) (by cases e <;> decide) hf hw
    refine ⟨_, write_performed (h := hCsSetting e) ha rfl ?_ ?_, hspec _ rfl⟩
    · cases e <;> simp [hCsSetting] <;> exact hb rfl
    · unfold hCsSetting
      dsimp only
      rw [ht]
  · refine write_refused (h := hFrEnable) ha rfl rfl (if_pos ?_) (by decide)
    simp only [decide_true, Bool.true_and, List.any_map, List.any_eq_true, List.mem_range]
    exact ⟨i, hi, hr⟩
  · obtain ⟨t, ht, hspec⟩ := scrubValue_spec (e := .FR_ENABLE) (v := v) (by decide) hf hw
    obtain ⟨hu, hc, hfr, -⟩ := hspec _ rfl
    refine ⟨_, write_performed (h := hFrEnable) ha rfl rfl ?_, hu, hc, hfr⟩
    rw [hFrEnable_act, ht]
    rintro ⟨h1, i, hi, hr⟩
    obtain h0 | hn := hv
    · omega
    · exact absurd ((hn i hi).symm.trans hr) (by decide)
  · show execReserveFillFrame s = _
    unfold execReserveFillFrame
    rw [List.find?_eq_none.mpr fun p hp => by simp [h p hp]]
  · intro tail n
    refine ⟨fun hroom => ?_, fun hb hfull => ?_⟩
    · cases hb : s.readsBack p f with
      | false =>
        have hsame := writeBytes_sameConfig 3 (s.slotBase (mget s.scr.slots p 0) + 4 * f) (leBytes 4 0) s
        obtain ⟨t, he, hfr, hsl, hfl, hta⟩ := execReserveFillFrame_of_taken hfill hl hen hm (if_neg (by simp [hb]))
        rw [hsame.scr] at hsl hfl hta
        exact ⟨t, he, hfr.trans hsame.frames, hsl, hfl, hta⟩
      | true =>
        obtain h | h := hroom
        · exact absurd (hb.symm.trans h) (by decide)
        obtain ⟨u, hu, hfu, hsu, hflu, htu⟩ := copyToReserve_of_room (slot := mget s.scr.slots p 0) h
        obtain ⟨t, he, hfr, hsl, hfl, hta⟩ := execReserveFillFrame_of_taken hfill hl hen hm ((if_pos hb).trans hu)
        rw [hflu] at hfl
        exact ⟨t, he, hfr.trans hfu, hsl.trans hsu, hfl, hta.trans htu⟩
    · obtain ⟨u, hsame, hu⟩ := copyToReserve_of_full (slot := mget s.scr.slots p 0) hfull
      refine ⟨_, execReserveFillFrame_of_full hfill hl hen hm ((if_pos hb).trans hu), ?_, ?_, ?_⟩
      · exact (raise_frames ..).trans hsame.frames
      · exact (congrArg CfgScrub.slots (raise_scr ..)).trans (congrArg (fun c : CfgScrub => mdel c.slots p) hsame.scr)
      · exact (congrArg CfgScrub.filling (raise_scr ..)).trans (congrArg (fun c : CfgScrub => mdel c.filling p) hsame.scr)

end Sys2Proof.Machine
end

section

/-! # The I3C bus, the CAN port and the locks (O39, O40, O41) -/

namespace Sys2Proof.Machine

open Sys2Proof.Safety

/-! ### The Expert lock -/

/-- A release leaves the lock free, with a record where it was held. -/
theorem releaseLock_spec (s : State) : (∃ r g, releaseLock s = { s with regs := r, recorder := g }) ∧ (releaseLock s).rget .LOCK_OWNER = 0 ∧
    Leaves [.LOCK_OWNER, .REC_LOST] s (releaseLock s) := by
  unfold releaseLock
  split
  · next h => exact ⟨⟨_, _, rfl⟩, h, .refl s⟩
  · obtain ⟨g, r, h⟩ := raise_frame (s.rset .LOCK_OWNER 0 0) sevInfo 0x3002 2 []
    refine ⟨⟨g, r, h⟩, ?_, (Leaves.rset (by decide) ..).trans (.raise (by decide) ..)⟩
    rw [raise_rget _ _ _ _ _ _ (by decide)]
    exact State.rget_rset_same ..

theorem releaseLockOf_of_held {c : Nat} {s : State} (h : s.rget .LOCK_OWNER = c) (hc : c ≠ 0) : releaseLockOf c s = releaseLock s :=
  if_pos (by simp [h, hc])

theorem releaseLockOf_of_other {c : Nat} {s : State} (h : s.rget .LOCK_OWNER ≠ c) : releaseLockOf c s = s := if_neg (by simp [h])

theorem controllerOf_ne_zero {w : Route} (h : w ≠ .loader) : controllerOf w ≠ 0 := by
  cases w <;> simp_all [controllerOf]

/-! ### Requests that arrive -/

/-- A count of a faulty request leaves all else. -/
theorem countFault_frame (k : Nat) (s : State) : ∃ r, countFault k s = { s with regs := r } := by
  unfold countFault
  split
  · exact ⟨_, rfl⟩
  · split
    · exact ⟨_, rfl⟩
    · exact ⟨_, rfl⟩

/-- No fault is answered while the oldest request has none. -/
theorem answerFaults_of_sound {s : State} (n : Nat) (h : ∀ r ∈ s.ctl.waiting.head?, r.fault = 0) : answerFaults n s = s := by
  cases n with
  | zero => rfl
  | succ n =>
    unfold answerFaults
    split
    · rfl
    · next r rest hw =>
      rw [hw] at h
      exact if_pos (h r rfl)

/-- A request that comes behind sound ones waits behind them. -/
theorem arrive_behind {r : HeldRequest} {s : State} (hw : s.ctl.waiting ≠ []) (hs : ∀ r ∈ s.ctl.waiting, r.fault = 0) :
    ∃ g, arrive r s = { s with ctl := { s.ctl with waiting := s.ctl.waiting ++ [r] }, regs := g } := by
  unfold arrive
  obtain ⟨g, h⟩ := countFault_frame r.fault (s.setCtl { s.ctl with waiting := s.ctl.waiting ++ [r] })
  rw [h]
  refine ⟨g, answerFaults_of_sound _ fun a ha => hs a ?_⟩
  obtain ⟨b, l, hl⟩ := List.exists_cons_of_ne_nil hw
  have hhead : a = b := by simpa [State.setCtl, hl] using ha.symm
  rw [hl, hhead]
  exact List.mem_cons_self ..

/-! ### The obligations -/

theorem drove_setI3c (b : Option Bytes) (s : State) (x : I3cTarget) : drove b (s.setI3c x) = s.setI3c { x with out := b } := rfl

theorem setI3c_frame (s : State) (x : I3cTarget) : { s.setI3c x with ctl := s.ctl } = s := rfl

/-- ENEC and DISEC set the switches of the events that they name. -/
theorem setEvents_spec (n : Nat) (b : Bool) (s : State) : ∃ x, drove (some []) (setEvents n b s) = s.setI3c x ∧
    x.intEnabled = (if bitOf n 0 then b else s.ctl.i3c.intEnabled) ∧ x.hotJoinEnabled = (if bitOf n 3 then b else s.ctl.i3c.hotJoinEnabled) :=
  ⟨_, drove_setI3c .., rfl, rfl⟩

theorem rget_setI3c (s : State) (x : I3cTarget) (e : El) (u : Nat) : (s.setI3c x).rget e u = s.rget e u := rfl

theorem resetInterface_spec (s : State) : ∃ x, resetInterface s = s.setI3c x ∧ x.response = none ∧ x.ddr = false ∧ x.deaf = false :=
  ⟨_, rfl, rfl, rfl, rfl⟩

/-- The lock after a release for one controller. -/
theorem releaseLockOf_spec {c : Nat} (hc : c ≠ 0) (s : State) : (∃ r g, releaseLockOf c s = { s with regs := r, recorder := g }) ∧
    (releaseLockOf c s).rget .LOCK_OWNER = (if s.rget .LOCK_OWNER = c then 0 else s.rget .LOCK_OWNER) ∧
    Leaves [.LOCK_OWNER, .REC_LOST] s (releaseLockOf c s) := by
  by_cases h : s.rget .LOCK_OWNER = c
  · obtain ⟨hf, h0, hl⟩ := releaseLock_spec s
    rw [releaseLockOf_of_held h hc, if_pos h]
    exact ⟨hf, h0, hl⟩
  · rw [releaseLockOf_of_other h, if_neg h]
    exact ⟨⟨_, _, rfl⟩, rfl, .refl s⟩

/-- RSTDAA takes the address away, and the lock of controller 1. -/
theorem execRstdaa_spec {s : State} (hl : s.i3cListens = true) :
    ∃ t, execRstdaa s = .next t ∧ t.rget .I3C_DA = 0 ∧ t.ctl.i3c.out = some [] ∧
      (s.rget .LOCK_OWNER = 1 → t.rget .LOCK_OWNER = 0) ∧ (s.rget .LOCK_OWNER ≠ 1 → t.rget .LOCK_OWNER = s.rget .LOCK_OWNER) ∧
      t.cells = s.cells := by
  have he : execRstdaa s = .next (releaseLockOf 1 (drove (some []) (s.rset .I3C_DA 0 0))) := congrArg Host.Outcome.next (if_pos hl)
  have hown : (drove (some []) (s.rset .I3C_DA 0 0)).rget .LOCK_OWNER = s.rget .LOCK_OWNER :=
    (Leaves.rset (e := .I3C_DA) (es := [.I3C_DA]) (by decide) s 0 0).rget .LOCK_OWNER (by decide) 0
  have hzero : (drove (some []) (s.rset .I3C_DA 0 0)).rget .I3C_DA = 0 := State.rget_rset_same s .I3C_DA 0 0
  obtain ⟨⟨r, g, hf⟩, hlock, hleaves⟩ := releaseLockOf_spec (c := 1) (by decide) (drove (some []) (s.rset .I3C_DA 0 0))
  rw [hown] at hlock
  refine ⟨_, he, (hleaves.rget .I3C_DA (by decide) 0).trans hzero, ?_, fun h => hlock.trans (if_pos h), fun h => hlock.trans (if_neg h),
    cells_of_words (releaseLockOf_words ..)⟩
  rw [hf]
  rfl

/-- Settles O39: each command by its branch for a target that listens, and for one that does not. -/
theorem i3cBusCommands : Obligations.I3cBusCommands := by
  unfold Obligations.I3cBusCommands
  intro n s drives
  refine ⟨fun hl => ⟨fun h0 ha => ?_, fun h0 ha => ?_, ?_,
    ?_,
    fun hn => ?_, ?_, ?_, fun hn => ?_,
    fun h1 h2 => ⟨?_, ?_⟩, fun h => ⟨?_, ?_⟩, congrArg Host.Outcome.next (if_pos hl)⟩,
    ?_, rfl, fun hl i hi => ?_⟩
  · exact congrArg Host.Outcome.next (if_pos (by simp [hl, h0, ha]))
  · exact congrArg Host.Outcome.next (if_pos (by simp [State.i3cAddressed, hl, h0, ha]))
  · exact execRstdaa_spec hl
  · obtain ⟨x, hx, hr, hd, -⟩ := resetInterface_spec s
    have he : execRstact 0 s = .next (drove (some []) (resetInterface s)) :=
      congrArg Host.Outcome.next ((if_neg (by simp [hl])).trans (if_pos rfl))
    rw [hx, drove_setI3c] at he
    exact ⟨_, he, hr, hd, rget_setI3c .., setI3c_frame ..⟩
  · exact congrArg Host.Outcome.next ((if_neg (by simp [hl])).trans (if_neg hn))
  · obtain ⟨x, hx, h0, h3⟩ := setEvents_spec n true s
    refine ⟨_, (congrArg Host.Outcome.next (if_pos hl)).trans (congrArg Host.Outcome.next hx), setI3c_frame .., h0.trans ?_, h3.trans ?_⟩
    · cases bitOf n 0 <;> rfl
    · cases bitOf n 3 <;> rfl
  · obtain ⟨x, hx, h0, h3⟩ := setEvents_spec n false s
    refine ⟨_, (congrArg Host.Outcome.next (if_pos hl)).trans (congrArg Host.Outcome.next hx), setI3c_frame .., h0.trans ?_, h3.trans ?_⟩
    · cases bitOf n 0 <;> rfl
    · cases bitOf n 3 <;> rfl
  · exact congrArg (fun b => Host.Outcome.next (drove b s)) (if_pos (by simp [hl, Nat.ble_eq, hn]))
  · exact congrArg Host.Outcome.next ((if_neg (by simp [hl])).trans (if_pos (by simp [Nat.ble_eq, Nat.blt_eq, h1, h2])))
  · exact congrArg Host.Outcome.next ((if_neg (by simp [hl])).trans (if_pos (by simp [Nat.ble_eq, Nat.blt_eq, h1, h2])))
  · exact congrArg Host.Outcome.next ((if_neg (by simp [hl])).trans (if_neg (by simp [Nat.ble_eq, Nat.not_le.mpr h])))
  · exact congrArg Host.Outcome.next ((if_neg (by simp [hl])).trans (if_neg (by simp [Nat.ble_eq, Nat.not_le.mpr h])))
  · obtain ⟨x, hx, hr, hd, hf⟩ := resetInterface_spec s
    refine ⟨_, rfl, ?_⟩
    rw [hx]
    exact ⟨hr, hd, hf, setI3c_frame ..⟩
  · simp only [List.mem_cons, List.not_mem_nil, or_false] at hi
    obtain rfl | rfl | rfl | rfl | rfl | rfl | rfl | rfl | rfl | rfl := hi
    · exact congrArg Host.Outcome.next (if_neg (by simp [hl]))
    · exact congrArg Host.Outcome.next (if_neg (by simp [State.i3cAddressed, hl]))
    · exact congrArg Host.Outcome.next (if_neg (by simp [hl]))
    · exact congrArg Host.Outcome.next (if_pos (by simp [hl]))
    · exact congrArg Host.Outcome.next (if_neg (by simp [hl]))
    · exact congrArg Host.Outcome.next (if_neg (by simp [hl]))
    · exact congrArg (fun b => Host.Outcome.next (drove b s)) (if_neg (by simp [hl]))
    · exact congrArg Host.Outcome.next (if_pos (by simp [hl]))
    · exact congrArg Host.Outcome.next (if_pos (by simp [hl]))
    · exact congrArg Host.Outcome.next (if_neg (by simp [hl]))

/-- A read up to the length collects the response. -/
theorem i3cCollect_of_held {r : Bytes} {n : Nat} {s : State} (h : s.ctl.i3c.response = some r) (hn : n ≤ s.ctl.i3c.mrl) :
    i3cCollect n s = if r.length ≤ n then s.setI3c { s.ctl.i3c with out := some r, response := none }
      else s.setI3c { s.ctl.i3c with out := some (r.take n) } := by
  have hmin : Nat.min n s.ctl.i3c.mrl = n := Nat.min_eq_left hn
  unfold i3cCollect
  dsimp only
  rw [h, hmin]
  dsimp only
  by_cases hr : r.length ≤ n
  · rw [if_pos (Nat.ble_eq.mpr hr), if_pos hr, List.take_of_length_le hr]
    rfl
  · rw [if_neg (by rw [Nat.ble_eq]; exact hr), if_neg hr, ← h]
    rfl

/-- A request delivered to a route that holds neither a request nor a response waits. -/
theorem i3cDeliver_of_free {bs : Bytes} {s : State} (hp : s.i3cPending = none) (hr : s.ctl.i3c.response = none) (hb : bs ≠ []) :
    i3cDeliver bs s = arrive (heldOf .i3c 0 (wholeFault bs) bs) (drove (some []) s) := by
  unfold i3cDeliver
  rw [hp, hr, if_neg (by decide)]
  cases bs with
  | nil => exact absurd rfl hb
  | cons b bs => rfl

/-- Settles O40: the transfers by `i3cDeliver` and `i3cCollect`, the codes each by its branch. -/
theorem i3cTransfers : Obligations.I3cTransfers := by
  unfold Obligations.I3cTransfers
  intro bs n s drives
  refine ⟨fun ha hp hr hw hs hb => ?_, fun ha r hr => ⟨fun h1 h2 => ?_, fun h1 h2 => ?_⟩, fun hd => ⟨?_, ?_, fun c hc => ?_, fun c hc => ?_⟩,
    fun ha => ⟨?_, ?_, ?_, ?_, ?_, fun i hi => ?_⟩, fun h => ?_, fun h1 h2 hl => ?_, fun hl h0 hj hh => ?_, fun p hf ha hi hm => ?_⟩
  · obtain ⟨g, hg⟩ := arrive_behind (r := heldOf .i3c 0 (wholeFault bs) bs) (s := drove (some []) s) hw hs
    exact ⟨_, congrArg Host.Outcome.next ((if_pos ha).trans ((i3cDeliver_of_free hp hr hb).trans hg)), rfl, rfl, rfl⟩
  · exact congrArg Host.Outcome.next ((if_pos ha).trans ((i3cCollect_of_held hr h2).trans (if_pos h1)))
  · exact congrArg Host.Outcome.next ((if_pos ha).trans ((i3cCollect_of_held hr h2).trans (if_neg (Nat.not_le.mpr h1))))
  · exact congrArg Host.Outcome.next (if_pos (by simp [hd]))
  · exact congrArg Host.Outcome.next (if_pos (by simp [hd]))
  · exact congrArg Host.Outcome.next (if_neg (by simp [hc]))
  · exact congrArg Host.Outcome.next (if_neg (by simp [hc]))
  · exact congrArg (fun b => Host.Outcome.next (drove b s)) (if_pos ha)
  · exact congrArg (fun b => Host.Outcome.next (drove b s)) (if_pos ha)
  · exact congrArg (fun b => Host.Outcome.next (drove b s)) (if_pos ha)
  · exact congrArg (fun b => Host.Outcome.next (drove b s)) (if_pos ha)
  · exact congrArg (fun b => Host.Outcome.next (drove b s)) (if_pos ha)
  · simp only [List.mem_cons, List.not_mem_nil, or_false] at hi
    obtain rfl | rfl | rfl := hi
    · exact ⟨_, _, congrArg Host.Outcome.next (if_pos ha), rfl, rfl, rfl⟩
    · exact ⟨_, _, congrArg Host.Outcome.next (if_pos ha), rfl, rfl, rfl⟩
    · exact ⟨_, _, congrArg Host.Outcome.next (if_pos ha), rfl, rfl, rfl⟩
  · refine congrArg Host.Outcome.next (if_neg ?_)
    simp only [Bool.and_eq_true, Nat.ble_eq]
    omega
  · exact congrArg Host.Outcome.next (if_pos (by simp [Nat.ble_eq, h1, h2, hl]))
  · exact congrArg Host.Outcome.next (if_pos (by simp [hl, h0, hj, hh]))
  · show execIbiSend n true s = _
    unfold execIbiSend
    dsimp only
    rw [hf]
    exact (if_neg (by simp [ha, hi, hm])).trans rfl

/-- A frame of this device that finds a token waits behind the others. -/
theorem execCanFrame_of_admitted {id : Nat} {bs : Bytes} {s : State} (hon : s.canOn = true) (ho : s.canOurs id = true) (hb : bs ≠ [])
    (hl : bs.length = canLength bs.length) (hh : s.canHeld (bitsOf id 14 8) < 4) (ht : (refillTokens s).ctl.can.tokens ≠ 0)
    (hw : s.ctl.waiting ≠ []) (hs : ∀ r ∈ s.ctl.waiting, r.fault = 0) :
    ∃ t, execCanFrame id bs s = .next t ∧ t.ctl.can.tokens = (refillTokens s).ctl.can.tokens - 1 ∧
      t.ctl.waiting = s.ctl.waiting ++ [heldOf (.can (bitsOf id 14 8)) id (leadFault false bs) bs] ∧ t.cells = s.cells := by
  let u := refillTokens (s.setCtl { s.ctl with can := { s.ctl.can with traffic := true } })
  have htok : u.ctl.can.tokens = (refillTokens s).ctl.can.tokens := rfl
  have hheld : u.canHeld (bitsOf id 14 8) = s.canHeld (bitsOf id 14 8) := rfl
  obtain ⟨g, hg⟩ := arrive_behind (r := heldOf (.can (bitsOf id 14 8)) id (leadFault false bs) bs)
    (s := u.setCtl { u.ctl with can := { u.ctl.can with tokens := u.ctl.can.tokens - 1 } }) hw hs
  have he : execCanFrame id bs s = .next (arrive (heldOf (.can (bitsOf id 14 8)) id (leadFault false bs) bs)
      (u.setCtl { u.ctl with can := { u.ctl.can with tokens := u.ctl.can.tokens - 1 } })) := by
    unfold execCanFrame
    dsimp only
    rw [if_pos hon]
    refine (if_neg ?_).trans (if_neg ?_)
    · show ¬ (!s.canOn || !s.canOurs id || bs.isEmpty || bs.length != canLength bs.length) = true
      simp [hon, ho, hb, ← hl]
    · show ¬ (Nat.ble 4 (u.canHeld (bitsOf id 14 8)) || decide (u.ctl.can.tokens = 0)) = true
      rw [hheld, htok]
      simp [Nat.ble_eq, ht, Nat.not_le.mpr hh]
  rw [hg] at he
  exact ⟨_, he, rfl, rfl, rfl⟩

/-- Settles O41: the lock by `releaseLock`, frames by `arrive`. -/
theorem canAndLocks : Obligations.CanAndLocks := by
  unfold Obligations.CanAndLocks
  refine ⟨fun id bs s => ?_, fun w s => ⟨fun ha => ?_, fun ha => ⟨fun h => ?_, fun h => ?_⟩, ?_, fun ha => ?_, fun ha => ?_⟩⟩
  · intro onBus
    refine ⟨fun h => ?_, fun h ho => ?_, fun hon ho hb hl hh ht hw hs => execCanFrame_of_admitted hon ho hb hl hh ht hw hs, fun h => ?_, fun h => ?_⟩
    · show execCanFrame id bs s = _
      unfold execCanFrame
      dsimp only
      simp only [h, Bool.false_eq_true, if_false, Bool.not_false, Bool.true_or, if_true]
    · show execCanFrame id bs s = _
      unfold execCanFrame
      dsimp only
      rw [if_pos h]
      refine if_pos ?_
      show (!s.canOn || !s.canOurs id || bs.isEmpty || bs.length != canLength bs.length) = true
      simp [ho]
    · have hown : (s.rset .CAN_STATE 0 3).rget .LOCK_OWNER = s.rget .LOCK_OWNER :=
        (Leaves.rset (es := [.CAN_STATE]) (by decide) s 0 3).rget .LOCK_OWNER (by decide) 0
      have hcount : (s.rset .CAN_STATE 0 3).rget .CAN_BUS_OFF = s.rget .CAN_BUS_OFF :=
        (Leaves.rset (es := [.CAN_STATE]) (by decide) s 0 3).rget .CAN_BUS_OFF (by decide) 0
      obtain ⟨⟨r, g, hf⟩, h0, hleaves⟩ := releaseLock_spec (s.rset .CAN_STATE 0 3)
      refine ⟨_, if_neg (by simp [h]), ?_⟩
      by_cases hk : 0x80 ≤ s.rget .LOCK_OWNER
      · rw [if_pos (by rw [Nat.ble_eq, hown]; exact hk), if_pos hk]
        refine ⟨(hleaves.rget .CAN_STATE (by decide) 0).trans (State.rget_rset_same ..), (hleaves.rget .CAN_BUS_OFF (by decide) 0).trans hcount, h0, ?_⟩
        rw [hf]
        rfl
      · rw [if_neg (by rw [Nat.ble_eq, hown]; exact hk), if_neg hk]
        exact ⟨State.rget_rset_same .., hcount, hown, rfl⟩
    · refine ⟨_, congrArg Host.Outcome.next (if_pos h), ?_, State.rget_rset_same ((s.rinc .CAN_BUS_OFF).rset .CAN_STATE 0 1) .CAN_TEC_REC 0 0, ?_, rfl⟩
      · exact ((Leaves.rset (e := .CAN_TEC_REC) (es := [.CAN_TEC_REC]) (by decide) ((s.rinc .CAN_BUS_OFF).rset .CAN_STATE 0 1) 0 0).rget .CAN_STATE (by decide) 0).trans
          (State.rget_rset_same ..)
      · refine (((Leaves.rset (es := [.CAN_STATE, .CAN_TEC_REC]) (by decide) (s.rinc .CAN_BUS_OFF) 0 1).trans
          (Leaves.rset (e := .CAN_TEC_REC) (by decide) ((s.rinc .CAN_BUS_OFF).rset .CAN_STATE 0 1) 0 0)).rget .CAN_BUS_OFF (by decide) 0).trans ?_
        exact (State.rget_rinc ..).trans (if_pos ⟨rfl, rfl⟩)
  · exact stored_of_performed (loader_of_accepts ha) (write_performed (h := hExpertLock w) ha rfl rfl rfl)
  · obtain ⟨⟨r, g, hf⟩, h0, -⟩ := releaseLock_spec s
    refine ⟨_, write_performed (h := hExpertLock w) ha rfl rfl
      (congrArg Except.ok (releaseLockOf_of_held h (controllerOf_ne_zero (loader_of_accepts ha)))), h0, ?_, ?_⟩
    · rw [hf]
    · rw [hf]
  · exact write_performed (h := hExpertLock w) ha rfl rfl (congrArg Except.ok (releaseLockOf_of_other h))
  · obtain ⟨⟨r, g, hf⟩, h0, -⟩ := releaseLock_spec s
    refine ⟨_, rfl, h0, ?_⟩
    rw [hf]
  · obtain ⟨⟨r, g, hf⟩, h0, -⟩ := releaseLock_spec s
    refine ⟨_, write_performed (h := hLockBreak) ha rfl rfl rfl, h0, ?_⟩
    show { releaseLock s with regs := s.regs, recorder := s.recorder } = s
    rw [hf]
  · exact stored_of_performed (loader_of_accepts ha) (write_performed (h := hAlertAck) ha rfl rfl rfl)

end Sys2Proof.Machine
end

section

/-! # Requests by identifier: how they are performed, and how they are refused (O42, O56) -/

namespace Sys2Proof.Machine

open Sys2Proof.Safety

/-! ### Requests of a route that is not heard -/

section
variable {w : Route} {s : State} (hh : heard s w = false)
include hh

theorem write_unheard (e : El) (u v : Nat) (h : Handler) : write w e u v h s = .next s := congrArg Host.Outcome.next (if_neg (by simp [hh]))

theorem requestBytes_unheard (e : El) (u : Nat) (bs : Bytes) (ok : Bool) (h : Handler) : requestBytes w e u bs ok h s = s := if_neg (by simp [hh])

theorem susis_unheard {r : HeldRequest} (hr : r.route = w) : susis r s = .next s := by
  subst hr
  exact if_pos (by simp [hh])

theorem execDictWrite_unheard (eid : Nat) (bs : Bytes) : execDictWrite w eid bs s = .next s := if_pos (by simp [hh])

end

/-- A command of a route that is not heard changes nothing: the writes of an element, the requests by identifier, and the elements
with rows of their own. -/
theorem exec_unheard {c : Instr} {w : Route} {s : State} (hc : senderOf c = some w) (hh : heard s w = false) : exec c s = .next s := by
  cases c with
  | clkSrcWrite | timingPortWrite | mclkNominalWrite | orbitLenWrite | fabricRatioWrite | alignSrcWrite | orbitOffsetWrite
  | syncRoleWrite | syncEveryWrite | syncSamplePhaseWrite | fineDelayWrite | ttWordWrite | windowSelectorWrite | ttCopy
  | ttCommit | countClear | portSettingWrite | alignSettingWrite | maskWrite | rxPrbsWrite | dlPrbsWrite | dlCmdWrite | alignReq
  | dlSend | ownerWrite | powerWrite | ringEnableWrite | ringGeometryWrite | vaultEnableWrite | vaultLock | vaultUnlock
  | vaultWipe | upClear | baseNextWrite | baseAtWrite | lockGroupWrite | captureArm | captureDisarm | breachAck | busyForceWrite
  | policyWrite | tapOutWrite | ssModeWrite | ssFioCfgWrite | ebGroupWrite | gWindowWrite | eventPresetWrite | qEnable | qDisable
  | qFlush | tkEnableWrite | tkRateWrite | tkModeWrite | tkPrbsWrite | retrain | tkReset | loadGo | loadAbort | loadSrcWrite
  | arAdvance | keyRevoke | ipHostWrite | ticketQuery | invalidate | lbLeakWrite | scrubEnableWrite | rtRetire | rtUnretire
  | substitute | unsubstitute | flipArm | csReset | csSettingWrite | frEnableWrite | expertLock | lockBreak | alertAck
  | dpBindWrite | safeEnter | safeLeave | coreResetCmd | deviceResetCmd | bistGo | bistAbort | thresholdWrite | freezeGo
  | freezeRelease | fwpEnableWrite | wdtEnableWrite | recClear =>
    cases hc
    exact write_unheard hh ..
  | susisNop | susisRead | susisWrite =>
    cases hc
    exact susis_unheard hh rfl
  | dictWrite =>
    cases hc
    exact execDictWrite_unheard hh ..
  | vendorRequest =>
    cases hc
    exact if_pos (by simp [hh])
  | dpDataWrite | dpDataRead | lcRequest =>
    cases hc
    exact congrArg Host.Outcome.next (if_neg (by simp [hh]))
  | lcChallengeRead =>
    cases hc
    exact if_neg (by simp [hh])
  | lcTokenWrite | keyInstall =>
    cases hc
    exact congrArg Host.Outcome.next (requestBytes_unheard hh ..)
  | _ => cases hc

/-! ### The judgement -/

theorem unitOf_elOf {eid u : Nat} {e : El} (h : elOf eid = some (e, u)) : u < e.info.cnt := by
  unfold elOf at h
  extract_lets area entry at h
  split at h
  · next e' hf =>
    obtain ⟨rfl, rfl⟩ : e' = e ∧ entry - e'.info.base = u := by simpa using h
    have hp := List.find?_some hf
    simp only [Bool.and_eq_true, beq_iff_eq, Nat.ble_eq, Nat.blt_eq] at hp
    obtain ⟨⟨-, hbase⟩, htop⟩ := hp
    omega
  · cases h

section
variable {w : Route} {e : El} {u : Nat} {v : Option Nat} {h : Handler} {s : State} (hw : w ≠ .loader) (hu : u < e.info.cnt)
include hw hu

theorem judge_of_rights (hr : e.info.acc = .ro ∨ rightsOf s w < e.info.rights) : judge w e u v h s = .error 3 := by
  unfold judge
  extract_lets i
  rw [if_neg (by rw [Nat.ble_eq]; exact Nat.not_le.mpr hu), if_pos]
  obtain hr | hr := hr <;> simp [i, hr, Nat.blt_eq]

variable (hro : e.info.acc ≠ .ro) (hr : e.info.rights ≤ rightsOf s w) (ha : h.allow w (v.getD 0) s = true)
include hro hr ha

theorem judge_of_locked (hl : (Nat.ble 2 e.info.rights && e != .LOCK_BREAK && lockedOut s w) = true) : judge w e u v h s = .error 8 := by
  unfold judge
  extract_lets i
  rw [if_neg (by rw [Nat.ble_eq]; exact Nat.not_le.mpr hu), if_neg, if_pos]
  · simpa [hw] using hl
  · simp [i, hro, hw, ha, Nat.blt_eq, Nat.not_lt.mpr hr]

/-- Past the rights and the lock, the length is judged. -/
theorem judge_of_noLength (hv : v = none) (hl : (Nat.ble 2 e.info.rights && e != .LOCK_BREAK && lockedOut s w) = false) :
    judge w e u v h s = .error 2 := by
  unfold judge
  extract_lets i
  rw [if_neg (by rw [Nat.ble_eq]; exact Nat.not_le.mpr hu), if_neg, if_neg]
  · subst hv
    rfl
  · simpa [hw] using hl
  · simp [i, hro, hw, ha, Nat.blt_eq, Nat.not_lt.mpr hr]

/-- Past these, the value. -/
theorem judge_of_badValue {n : Nat} (hv : v = some n) (hl : (Nat.ble 2 e.info.rights && e != .LOCK_BREAK && lockedOut s w) = false)
    (hn : n < e.info.lo ∨ e.info.hi < n) : judge w e u v h s = .error 4 := by
  unfold judge
  extract_lets i
  rw [if_neg (by rw [Nat.ble_eq]; exact Nat.not_le.mpr hu), if_neg, if_neg]
  · subst hv
    refine if_pos ?_
    obtain hn | hn := hn <;> simp [i, Nat.blt_eq, hn]
  · simpa [hw] using hl
  · simp [i, hro, hw, ha, Nat.blt_eq, Nat.not_lt.mpr hr]

end

theorem judged_of_plain {w : Route} {e : El} {u c : Nat} {v : Option Nat} {h : Handler} {s : State} (hj : judge w e u v h s = .error c) (hc : c ≠ 5) :
    judged w e u v h s = (c, s) := by
  rw [judged_of_error hj, refusedWith, if_neg hc]

/-- A write of an element of fixed size, by identifier. -/
theorem dictWrite_of_element {w : Route} {eid u : Nat} {e : El} {bs : Bytes} {s : State} (hv : vendorOpen s w eid = false)
    (he : elOf eid = some (e, u)) (hb : e.info.blob = false) (hl : e ≠ .LC_REQUEST) :
    dictWrite w eid bs s = judged w e u (if bs.length = e.info.size then some (leVal bs) else none) (handlerOf w e u) s := by
  unfold dictWrite
  rw [if_neg (by simp [hv]), he]
  dsimp only
  rw [if_neg (by simp [hb]), if_neg hl]

theorem dictWrite_of_unknown {w : Route} {eid : Nat} {bs : Bytes} {s : State} (hv : vendorOpen s w eid = false) (he : elOf eid = none) :
    dictWrite w eid bs s = (1, s) := by
  unfold dictWrite
  rw [if_neg (by simp [hv]), he]

/-- Settles O56: the routes by `exec_unheard`, the aborts by `judge`'s order. -/
theorem requestsAreJudged : Obligations.RequestsAreJudged := by
  unfold Obligations.RequestsAreJudged
  refine ⟨fun c w s hc hh => exec_unheard hc hh, fun w eid bs s hw hh hi hv => ⟨fun he => ?_, fun e u he hb hlc => ?_⟩⟩
  · rw [exec_dictWrite_of_idle hh hi, dictWrite_of_unknown hv he]
    rfl
  · intro locked
    have hrefused {c : Nat} (hc : c ≠ 5)
        (hj : judge w e u (if bs.length = e.info.size then some (leVal bs) else none) (handlerOf w e u) s = .error c) :
        exec (.dictWrite w eid bs) s = refused w c s := by
      rw [exec_dictWrite_of_idle hh hi, dictWrite_of_element hv he hb hlc, judged_of_plain hj hc]
      rfl
    have hu := unitOf_elOf he
    refine ⟨fun hr => hrefused (by decide) (judge_of_rights hw hu hr), fun hro hr ha => ⟨fun hl => ?_, fun hl hlen => ?_, fun hl hlen hval => ?_⟩⟩
    · exact hrefused (by decide) (judge_of_locked hw hu hro hr (ha _) hl)
    · exact hrefused (by decide) (judge_of_noLength hw hu hro hr (ha _) (if_neg hlen) hl)
    · exact hrefused (by decide) (judge_of_badValue hw hu hro hr (ha _) (if_pos hlen) hl hval)

/-! ### Susis -/

theorem leVal_leBytes (n v : Nat) (h : v < 2 ^ (8 * n)) : leVal (leBytes n v) = v := by
  induction n generalizing v with
  | zero => exact (Nat.lt_one_iff.mp h).symm
  | succ n ih =>
    have hq : v / 256 < 2 ^ (8 * n) := by
      rw [Nat.div_lt_iff_lt_mul (by decide)]
      calc v < 2 ^ (8 * (n + 1)) := h
        _ = 2 ^ (8 * n) * 256 := by rw [Nat.mul_add, Nat.pow_add]
    rw [leBytes, leVal, ih _ hq, BitVec.toNat_ofNat]
    omega

section
variable {w : Route} {s : State} (hw : w ≠ .loader) (hh : heard s w = true)
include hw hh

/-- A request where none waits is performed at once. -/
theorem susis_of_idle (hi : s.ctl.waiting = []) (op eid len : Nat) (bs : Bytes) :
    susis (asked w op eid len bs) s = .next (answerTo w (performRequest (asked w op eid len bs) s).1
      (performRequest (asked w op eid len bs) s).2.1 (performRequest (asked w op eid len bs) s).2.2) := by
  unfold susis
  rw [if_neg (by simp [asked, hw, hh]), inTurn_of_idle hi]
  rfl

/-- Behind an older request of another route nothing is performed. -/
theorem inTurn_of_other {h : HeldRequest} {rest : List HeldRequest} (hs : s.ctl.waiting = h :: rest) (hr : h.route ≠ w)
    (asks : HeldRequest → Bool) (f : State → Nat × Bytes × State) : inTurn w asks f s = s := by
  unfold inTurn
  rw [if_neg hw, hs]
  exact if_neg (by simp [hr])

theorem susis_of_other {h : HeldRequest} {rest : List HeldRequest} (hs : s.ctl.waiting = h :: rest) (hr : h.route ≠ w)
    (op eid len : Nat) (bs : Bytes) : susis (asked w op eid len bs) s = .next s := by
  unfold susis
  rw [if_neg (by simp [asked, hw, hh])]
  exact congrArg Host.Outcome.next (inTurn_of_other hw hh hs hr ..)

theorem execVendorRequest_of_other {h : HeldRequest} {rest : List HeldRequest} (hs : s.ctl.waiting = h :: rest) (hr : h.route ≠ w)
    (eid : Nat) (b : Bool) (bs : Bytes) : execVendorRequest w eid b bs s = .next s := by
  unfold execVendorRequest
  split
  · rfl
  · split
    · exact (if_neg (by simp [hh])).trans (congrArg Host.Outcome.next (inTurn_of_other hw hh hs hr ..))
    · exact congrArg Host.Outcome.next (inTurn_of_other hw hh hs hr ..)

end

/-- The answer given to a route, with no other request waiting, leaves the registers, the bank words and the sender's answer. -/
theorem respond_keeps (r : HeldRequest) (k : Nat) (bs : Bytes) (s : State) : (respond r k bs s).ctl.waiting = s.ctl.waiting ∧
    (respond r k bs s).ctl.answer = s.ctl.answer ∧ (respond r k bs s).regs = s.regs ∧ (respond r k bs s).cells = s.cells := by
  unfold respond
  extract_lets f
  split
  · exact ⟨rfl, rfl, rfl, rfl⟩
  · split
    · exact ⟨rfl, rfl, rfl, rfl⟩
    · exact ⟨rfl, rfl, rfl, rfl⟩
  · exact ⟨rfl, rfl, rfl, rfl⟩
  · exact ⟨rfl, rfl, rfl, rfl⟩
  · exact ⟨rfl, rfl, rfl, rfl⟩
  · exact ⟨rfl, rfl, rfl, rfl⟩

/-- The areas of the dictionary's elements lie below the vendor areas. -/
theorem area_lt (e : El) : e.info.area < 0xF0 := by
  cases e <;> decide

theorem elOf_of_vendor {eid : Nat} (h : vendorArea eid = true) (hlt : eid < 2 ^ 24) : elOf eid = none := by
  have ha : 0xF0 ≤ eid / 65536 := by
    rw [vendorArea, Nat.ble_eq] at h
    omega
  cases he : elOf eid with
  | none => rfl
  | some p =>
    have hid := eidOf_of_elOf he
    unfold elOf at he
    extract_lets area entry at he
    split at he
    · next e hf =>
      have hp := List.find?_some hf
      simp only [Bool.and_eq_true, beq_iff_eq] at hp
      obtain ⟨⟨⟨harea, -⟩, -⟩, -⟩ := hp
      have := area_lt e
      omega
    · cases he

theorem dictWrite_of_value {w : Route} {eid u v : Nat} {e : El} {s : State} (hv : vendorOpen s w eid = false) (he : elOf eid = some (e, u))
    (hb : e.info.blob = false) (hl : e ≠ .LC_REQUEST) (hlt : v < e.modulus) :
    dictWrite w eid (leBytes e.info.size v) s = judged w e u (fit e v) (handlerOf w e u) s := by
  rw [dictWrite_of_element hv he hb hl, if_pos (length_leBytes ..), leVal_leBytes _ _ hlt, fit, if_pos hlt]

theorem dictRead_of_unknown {w : Route} {eid n : Nat} {s : State} (hv : vendorOpen s w eid = false) (he : elOf eid = none) :
    dictRead w eid n s = (1, [], s) := by
  unfold dictRead
  rw [if_neg (by simp [hv]), he]

theorem dictRead_of_element {w : Route} {eid u : Nat} {e : El} {s : State} (hv : vendorOpen s w eid = false) (he : elOf eid = some (e, u))
    (hd : e ≠ .DP_DATA) (ha : e.info.acc ≠ .wo) : dictRead w eid 0 s = (0, (readElement w e u 0 s).1, (readElement w e u 0 s).2) := by
  unfold dictRead
  rw [if_neg (by simp [hv]), he]
  dsimp only
  rw [if_neg hd, if_neg ha, if_neg (by simp [wantedOk])]

/-- The NOP that alone waits leaves the line with its answer. -/
theorem susisNop_of_front {w : Route} {s : State} {h : HeldRequest} (hw : w ≠ .loader) (hh : heard s w = true) (hs : s.ctl.waiting = [h])
    (hr : h.route = w) (hf : h.fault = 0) (ho : susisOp h.opcode = 0) :
    ∃ t, execSusisNop w s = .next t ∧ t.ctl.waiting = [] ∧
      t.ctl.answer = { controller := controllerOf w, status := 0, data := [] } ∧ t.regs = s.regs ∧ t.cells = s.cells := by
  let u := answerTo h.route 0 [] (s.setCtl { s.ctl with waiting := [] })
  obtain ⟨hwait, hans, hregs, hcells⟩ := respond_keeps h 0 [] u
  have hu : u.ctl.waiting = [] ∧ u.regs = s.regs ∧ u.cells = s.cells := by
    unfold u
    cases h.route <;> exact ⟨rfl, rfl, rfl⟩
  have hturn : inTurn w (·.asks (asked w 0 0 0 [])) (performRequest (asked w 0 0 0 [])) s = respond h 0 [] u := by
    unfold inTurn
    rw [if_neg hw, hs]
    refine (if_pos (by simp [hr, hf, HeldRequest.asks, asked, susisOp, ← ho])).trans ?_
    show answerFaults (respond h 0 [] u).ctl.waiting.length (respond h 0 [] u) = _
    rw [hwait, hu.1]
    rfl
  refine ⟨_, (if_neg (by simp [asked, hw, hh])).trans (congrArg Host.Outcome.next hturn), hwait.trans hu.1, hans.trans ?_, hregs.trans hu.2.1,
    hcells.trans hu.2.2⟩
  show (answerTo h.route 0 [] _).ctl.answer = _
  rw [answerTo_answer (by rw [hr]; exact hw), hr]

theorem execVendorRequest_of_idle {w : Route} {s : State} (hh : heard s w = true) (hi : s.ctl.waiting = []) {eid : Nat}
    (ha : vendorArea eid = true) (b : Bool) (bs : Bytes) :
    execVendorRequest w eid b bs s = .next (if b then answerTo w (dictWrite w eid bs s).1 [] (dictWrite w eid bs s).2
      else answerTo w (dictRead w eid 0 s).1 (dictRead w eid 0 s).2.1 (dictRead w eid 0 s).2.2) := by
  refine (if_neg (by simp [hh, ha])).trans ?_
  cases b with
  | true => exact exec_dictWrite_of_idle hh hi ..
  | false => exact congrArg Host.Outcome.next (inTurn_of_idle hi)

/-- An answer given with a free value drawn. -/
theorem answerTo_performed {w : Route} (hw : w ≠ .loader) (k : Nat) (bs : Bytes) (s : State) :
    (answerTo w k bs s.draw.2).ctl.answer.controller = controllerOf w ∧ (answerTo w k bs s.draw.2).fv = s.fv + 1 ∧
      { answerTo w k bs s.draw.2 with fv := s.fv, ctl := { (answerTo w k bs s.draw.2).ctl with answer := s.ctl.answer } } = s := by
  refine ⟨by rw [answerTo_answer hw], ?_, ?_⟩
  · cases w <;> rfl
  · cases w <;> rfl

/-- Settles O42: a request where none waits by `susis_of_idle`, behind another by `inTurn_of_other`, the one that waits by
`susisNop_of_front`. -/
theorem susisRequests : Obligations.SusisRequests := by
  unfold Obligations.SusisRequests
  refine fun w eid bs s hw hh => ⟨fun hi => ⟨susis_of_idle hw hh hi .., fun hv => ⟨fun he => ⟨fun n => ?_, ?_⟩, fun e u he hd ha => ?_,
    fun e u v he hb hl hlt => ?_⟩⟩, fun h rest hs hr => ⟨susis_of_other hw hh hs hr .., fun n => susis_of_other hw hh hs hr ..,
    susis_of_other hw hh hs hr .., ?_, fun b => ?_⟩, fun h hs hr hf ho => ?_, fun hi hv => ⟨fun he => ?_, fun e u v he hb hl hlt => ?_⟩,
    fun hi ha hlt b => ⟨fun hv => ?_, fun hv => ?_⟩⟩
  · refine (susis_of_idle hw hh hi ..).trans ?_
    show Host.Outcome.next (answerTo w (dictRead w eid n s).1 (dictRead w eid n s).2.1 (dictRead w eid n s).2.2) = _
    rw [dictRead_of_unknown hv he]
    rfl
  · refine (susis_of_idle hw hh hi ..).trans ?_
    show Host.Outcome.next (answerTo w (dictWrite w eid bs s).1 [] (dictWrite w eid bs s).2) = _
    rw [dictWrite_of_unknown hv he]
    rfl
  · refine (susis_of_idle hw hh hi ..).trans ?_
    show Host.Outcome.next (answerTo w (dictRead w eid 0 s).1 (dictRead w eid 0 s).2.1 (dictRead w eid 0 s).2.2) = _
    rw [dictRead_of_element hv he hd ha]
  · refine (susis_of_idle hw hh hi ..).trans ?_
    show Host.Outcome.next (answerTo w (dictWrite w eid (leBytes e.info.size v) s).1 [] (dictWrite w eid (leBytes e.info.size v) s).2) = _
    rw [dictWrite_of_value hv he hb hl hlt, write_of_idle hh hi]
  · exact (if_neg (by simp [hh])).trans (congrArg Host.Outcome.next (inTurn_of_other hw hh hs hr ..))
  · exact execVendorRequest_of_other hw hh hs hr ..
  · exact susisNop_of_front hw hh hs hr hf ho
  · rw [exec_dictWrite_of_idle hh hi, dictWrite_of_unknown hv he]
    rfl
  · rw [exec_dictWrite_of_idle hh hi, dictWrite_of_value hv he hb hl hlt, write_of_idle hh hi]
  · refine (execVendorRequest_of_idle hh hi ha b bs).trans ?_
    have he := elOf_of_vendor ha hlt
    cases b with
    | true => rw [if_pos rfl, dictWrite_of_unknown hv he]; rfl
    | false => rw [if_neg (by decide), dictRead_of_unknown hv he]; rfl
  · refine ⟨_, execVendorRequest_of_idle hh hi ha b bs, ?_⟩
    cases b with
    | true =>
      rw [if_pos rfl, dictWrite, if_pos hv]
      exact answerTo_performed hw ..
    | false =>
      rw [if_neg (by decide), dictRead, if_pos hv]
      exact answerTo_performed hw ..

end Sys2Proof.Machine
end

section

/-! # Ivtor (O44) -/

namespace Sys2Proof.Machine

open Sys2Proof.Safety

/-! ### Lines -/

section
variable {s : State} (hr : s.run.running = true) (he : s.run.entered = true) (hp : s.dev ≠ .powerOff) (hd : s.dev ≠ .reset)
include hr he hp hd

/-- A line that comes in while firmware runs raises source 6. -/
theorem ivtorLine_of_running (f : State → State) : ivtorLine f s = .next (f (latchIrq 6 s)) := by
  have hin : lineIn s = latchIrq 6 s := if_neg (by simp [hp, hd, he])
  unfold ivtorLine
  rw [if_pos (by simp [hr, he]), hin]

theorem ivtorAlways_of_running (f : State → State) : ivtorAlways f s = .next (f (latchIrq 6 s)) := by
  have hin : lineIn s = latchIrq 6 s := if_neg (by simp [hp, hd, he])
  unfold ivtorAlways
  rw [if_pos (by simp [State.ivtorRuns, hr, he]), hin]

theorem ivtorGuarded_of_denied (f : State → State) (hl : s.life = .field ∨ s.life = .returned) :
    ivtorGuarded f s = .next (ivtorReply .denied (latchIrq 6 s)) := by
  refine (ivtorLine_of_running hr he hp hd _).trans (congrArg Host.Outcome.next (if_pos ?_))
  show (s.life == .field || s.life == .returned) = true
  obtain hl | hl := hl <;> rw [hl] <;> rfl

theorem ivtorGuarded_of_open (f : State → State) (hf : s.life ≠ .field) (hl : s.life ≠ .returned) :
    ivtorGuarded f s = .next (f (latchIrq 6 s)) := by
  refine (ivtorLine_of_running hr he hp hd _).trans (congrArg Host.Outcome.next (if_neg ?_))
  show ¬ (s.life == .field || s.life == .returned) = true
  simp [hf, hl]

end

theorem parsed_of_some {α : Type} {m n : Nat} {o : Option α} {v : α} (f : α → State → State) (s : State) (hn : m + n ≤ lineMost) (ho : o = some v) :
    parsed m n o f s = f v s := by
  unfold parsed
  rw [if_pos (Nat.ble_eq.mpr hn), ho]

theorem parsed_of_none {α : Type} {m n : Nat} {o : Option α} (f : α → State → State) (s : State) (h : o = none ∨ lineMost < m + n) :
    parsed m n o f s = ivtorReply .syntaxError s := by
  unfold parsed
  split
  · next v hv =>
    split at hv
    · next hn =>
      obtain h | h := h
      · exact absurd (h.symm.trans hv) (by simp)
      · rw [Nat.ble_eq] at hn
        omega
    · cases hv
  · rfl

theorem eidText_length {cs : Bytes} {n : Nat} (h : eidText cs = some n) : cs.length = 10 := by
  unfold eidText at h
  split at h
  · next hc => exact hc.1
  · cases h

theorem baudOf_of_rate {cs : Bytes} {n : Nat} (hn : n ∈ [115200, 460800, 921600, 3000000]) (h : numberOf cs = some n) : baudOf cs = some n := by
  rw [baudOf, h, Option.filter_some, if_pos]
  simpa [or_assoc] using hn

theorem baudOf_of_other {cs : Bytes} (h : ∀ n ∈ [115200, 460800, 921600, 3000000], numberOf cs ≠ some n) : baudOf cs = none := by
  unfold baudOf
  cases hc : numberOf cs with
  | none => rfl
  | some k =>
    rw [Option.filter_some, if_neg]
    intro hk
    exact h k (by simpa [or_assoc] using hk) hc

/-! ### Requests -/

/-- Faults answered change the answers' places alone. -/
theorem answerFaults_frame (n : Nat) (s : State) : ∃ c k, answerFaults n s = { s with ctl := c, core := k } := by
  induction n generalizing s with
  | zero => exact ⟨_, _, rfl⟩
  | succ n ih =>
    have hrespond (r : HeldRequest) (k : Nat) (bs : Bytes) (t : State) : ∃ c x, respond r k bs t = { t with ctl := c, core := x } := by
      unfold respond
      extract_lets f
      split
      · exact ⟨_, _, rfl⟩
      · split
        · exact ⟨_, _, rfl⟩
        · exact ⟨_, _, rfl⟩
      · exact ⟨_, _, rfl⟩
      · exact ⟨_, _, rfl⟩
      · exact ⟨_, _, rfl⟩
      · exact ⟨_, _, rfl⟩
    unfold answerFaults
    split
    · exact ⟨_, _, rfl⟩
    · next r rest _ =>
      split
      · exact ⟨_, _, rfl⟩
      · obtain ⟨c, k, h⟩ := hrespond r r.fault [] (s.setCtl { s.ctl with waiting := rest })
        obtain ⟨c', k', h'⟩ := ih (respond r r.fault [] (s.setCtl { s.ctl with waiting := rest }))
        rw [h', h]
        exact ⟨_, _, rfl⟩

theorem answerFaults_of_none {s : State} (n : Nat) (h : s.ctl.waiting = []) : answerFaults n s = s :=
  answerFaults_of_sound n (by simp [h])

/-- The reply that Ivtor gives to the status and the data of a request. -/
def ivtorAnswer (status : Nat) (data : Bytes) : IvtorReply :=
  if status = 0 then .ok (if data = [] then [] else Config.ivtorValue data) else .err status

/-- What a request of Ivtor leaves where none waits. -/
def ivtorDone (x : Nat × Bytes × State) : State := ivtorReply (ivtorAnswer x.1 x.2.1) (answerTo .ivtor x.1 x.2.1 x.2.2)

/-- A request of Ivtor performed where none waits. -/
theorem ivtorRequest_of_idle {op n k : Nat} {bs : Bytes} {s : State} (hh : heard s .ivtor = true) (hi : s.ctl.waiting = [])
    {x : Nat × Bytes × State} (hx : performRequest (asked .ivtor op n k bs) s = x) :
    ivtorRequest (asked .ivtor op n k bs) s = answerFaults (ivtorDone x).ctl.waiting.length (ivtorDone x) := by
  have hs : s.setCtl { s.ctl with waiting := [] } = s := by rw [← hi]; rfl
  unfold ivtorRequest
  rw [if_neg (by simp [hh]), hi]
  unfold performFront
  dsimp only
  rw [hs, hx]
  rfl

theorem ivtorRequest_settled {op n k : Nat} {bs : Bytes} {s : State} (hh : heard s .ivtor = true) (hi : s.ctl.waiting = [])
    {x : Nat × Bytes × State} (hx : performRequest (asked .ivtor op n k bs) s = x) (hw : x.2.2.ctl.waiting = []) :
    ivtorRequest (asked .ivtor op n k bs) s = ivtorDone x :=
  (ivtorRequest_of_idle hh hi hx).trans (answerFaults_of_none _ hw)

theorem ivtorReply_frame (r : IvtorReply) (s : State) : ∃ c k, ivtorReply r s = { s with ctl := c, core := k } ∧ c.ivtor.reply = some r :=
  ⟨_, _, rfl, rfl⟩

theorem answerTo_ivtor_frame (n : Nat) (d : Bytes) (s : State) : ∃ c, answerTo .ivtor n d s = { s with ctl := c } := ⟨_, rfl⟩

theorem ivtorDone_frame (x : Nat × Bytes × State) : ∃ c k, ivtorDone x = { x.2.2 with ctl := c, core := k } ∧
    c.ivtor.reply = some (ivtorAnswer x.1 x.2.1) := by
  obtain ⟨a, ha⟩ := answerTo_ivtor_frame x.1 x.2.1 x.2.2
  obtain ⟨c, k, hr, hi⟩ := ivtorReply_frame (ivtorAnswer x.1 x.2.1) (answerTo .ivtor x.1 x.2.1 x.2.2)
  refine ⟨c, k, ?_, hi⟩
  rw [ivtorDone, hr, ha]

/-- What Ivtor's answer leaves of the state that a request leaves, whatever faults are answered behind it. -/
theorem answered_frame (x : Nat × Bytes × State) (n : Nat) : ∃ c k, answerFaults n (ivtorDone x) = { x.2.2 with ctl := c, core := k } := by
  obtain ⟨c, k, hf⟩ := answerFaults_frame n (ivtorDone x)
  obtain ⟨c', k', hd, -⟩ := ivtorDone_frame x
  rw [hd] at hf
  exact ⟨c, k, by rw [hd, hf]⟩

/-- A request of Ivtor waits behind sound ones. -/
theorem ivtorRequest_behind {op n k : Nat} {bs : Bytes} {s : State} (hh : heard s .ivtor = true) (hw : s.ctl.waiting ≠ [])
    (hs : ∀ r ∈ s.ctl.waiting, r.fault = 0) :
    ivtorRequest (asked .ivtor op n k bs) s = s.setCtl { s.ctl with waiting := s.ctl.waiting ++ [asked .ivtor op n k bs] } := by
  obtain ⟨b, l, hbl⟩ := List.exists_cons_of_ne_nil hw
  have hfault : b.fault = 0 := hs b (hbl ▸ List.mem_cons_self ..)
  have hline : ivtorRequest (asked .ivtor op n k bs) s = arrive (asked .ivtor op n k bs) s := by
    unfold ivtorRequest
    rw [if_neg (by simp [hh])]
    split
    · next hnil => exact absurd hnil hw
    · rfl
  rw [hline]
  refine answerFaults_of_sound _ fun a ha => ?_
  have hhead : a = b := by
    have ha : a ∈ (s.ctl.waiting ++ [asked .ivtor op n k bs]).head? := ha
    simpa [hbl] using ha.symm
  rw [hhead, hfault]

/-- A read leaves the requests that wait. -/
theorem readElement_waiting (w : Route) (e : El) (u n : Nat) (s : State) : (readElement w e u n s).2.ctl.waiting = s.ctl.waiting := by
  unfold readElement
  split
  · show (readBlob e s).2.ctl.waiting = _
    unfold readBlob
    split <;> rfl
  · split
    · rfl
    · show (readValue w e u s).2.ctl.waiting = _
      unfold readValue
      extract_lets r
      split
      · rfl
      · split
        · rfl
        · split <;> rfl

theorem vendorOpen_ivtor (s : State) (n : Nat) : vendorOpen s .ivtor n = false := by
  unfold vendorOpen
  simp

/-- A command of Ivtor's own rows of the lock. -/
theorem ivtorRequest_lock {v : Nat} {s : State} (ha : accepts .ivtor .EXPERT_LOCK 0 v s = true) (hv : v < 2) {t : State}
    (ht : (hExpertLock .ivtor).act v s = .ok t) (hwait : t.ctl.waiting = []) :
    ivtorRequest (asked .ivtor 2 (eidOf .EXPERT_LOCK 0) 1 [BitVec.ofNat 8 v]) s = ivtorDone (0, [], t) := by
  have hi := idle_of_accepts ha
  have hel : elOf (eidOf .EXPERT_LOCK 0) = some (.EXPERT_LOCK, 0) := by decide +kernel
  have hval : leVal [BitVec.ofNat 8 v] = v := by
    show (BitVec.ofNat 8 v).toNat + 256 * 0 = v
    rw [BitVec.toNat_ofNat]
    omega
  have hj : judge .ivtor .EXPERT_LOCK 0 (some v) (handlerOf .ivtor .EXPERT_LOCK 0) s = .ok t := by
    rw [← ht, ← judge_of_accepts (h := hExpertLock .ivtor) ha rfl rfl, fit, if_pos (lt_trans hv (by decide))]
    rfl
  have hx : performRequest (asked .ivtor 2 (eidOf .EXPERT_LOCK 0) 1 [BitVec.ofNat 8 v]) s = (0, [], t) := by
    show ((dictWrite .ivtor (eidOf .EXPERT_LOCK 0) [BitVec.ofNat 8 v] s).1, [], (dictWrite .ivtor (eidOf .EXPERT_LOCK 0) [BitVec.ofNat 8 v] s).2) = _
    rw [dictWrite_of_element (vendorOpen_ivtor ..) hel (by decide) (by decide), if_pos (by rfl), hval, judged, hj]
  exact ivtorRequest_settled (heard_of_accepts ha) hi hx hwait

/-- A latched source leaves what a request is judged by. -/
theorem accepts_latchIrq (k : Nat) (w : Route) (e : El) (u v : Nat) (s : State) : accepts w e u v (latchIrq k s) = accepts w e u v s := by
  have hrights : rightsOf (latchIrq k s) w = rightsOf s w := by cases w <;> rfl
  have hheard : heard (latchIrq k s) w = heard s w := rfl
  have hlock : lockedOut (latchIrq k s) w = lockedOut s w := rfl
  have hdev : (latchIrq k s).dev = s.dev := rfl
  have hctl : (latchIrq k s).ctl = s.ctl := rfl
  simp only [accepts, mayAsk, hrights, hheard, hlock, hdev, hctl]

/-- Settles O44: a line by `ivtorLine_of_running`, its arguments by `parsed`, its request by `ivtorRequest_of_idle`. -/
theorem ivtorReplies : Obligations.IvtorReplies := by
  unfold Obligations.IvtorReplies
  intro arg val s hr he hp hd x after replies shown
  refine ⟨ivtorAlways_of_running hr he hp hd _, ⟨_, ivtorAlways_of_running hr he hp hd _⟩, ⟨_, ivtorAlways_of_running hr he hp hd _⟩,
    fun n hn ha hl => ?_, fun h => ?_, ?_, ?_, fun h1 h2 => ?_, fun hf i hi => ?_, fun hf hl => ?_⟩
  · refine (ivtorLine_of_running hr he hp hd _).trans (congrArg Host.Outcome.next ?_)
    exact parsed_of_some _ _ (by unfold lineMost; omega) (baudOf_of_rate hn ha)
  · refine (ivtorLine_of_running hr he hp hd _).trans (congrArg Host.Outcome.next (parsed_of_none _ _ ?_))
    exact h.imp baudOf_of_other fun h => by unfold lineMost; omega
  · exact ivtorLine_of_running hr he hp hd _
  · exact ivtorLine_of_running hr he hp hd _
  · refine (ivtorLine_of_running hr he hp hd _).trans (congrArg Host.Outcome.next (parsed_of_none _ _ (.inl ?_)))
    rw [switchOf, if_neg h1, if_neg h2]
  · simp only [List.mem_cons, List.not_mem_nil, or_false] at hi
    obtain rfl | rfl | rfl | rfl | rfl := hi
    · exact ivtorGuarded_of_denied hr he hp hd _ hf
    · exact ivtorGuarded_of_denied hr he hp hd _ hf
    · exact ivtorGuarded_of_denied hr he hp hd _ hf
    · exact ivtorGuarded_of_denied hr he hp hd _ hf
    · exact ivtorGuarded_of_denied hr he hp hd _ hf
  have hopen (f : State → State) : ivtorGuarded f s = .next (f x) := ivtorGuarded_of_open hr he hp hd f hf hl
  have hheard (hb : s.dev ≠ .boot) : heard x .ivtor = true := by
    show heard s .ivtor = true
    unfold heard
    cases hdev : s.dev <;> simp_all
  have hread {n : Nat} (hn : eidText arg = some n) : exec (.ivtorRead arg) s = .next (ivtorRequest (asked .ivtor 1 n 0 []) x) := by
    refine (hopen _).trans (congrArg Host.Outcome.next (parsed_of_some _ _ ?_ hn))
    rw [eidText_length hn]
    decide
  have hwrite {n : Nat} {bs : Bytes} (hn : eidText arg = some n) (hb : valueBytes n val = some bs) (hlen : arg.length + val.length ≤ 248) :
      exec (.ivtorWrite arg val) s = .next (ivtorRequest (asked .ivtor 2 n bs.length bs) x) := by
    refine (hopen _).trans (congrArg Host.Outcome.next (parsed_of_some (v := (n, bs)) _ _ (by unfold lineMost; omega) ?_))
    rw [writeOf, hn, Option.bind_some, hb]
    rfl
  refine ⟨hopen _, fun k ha hk hlen => ?_, fun ha hk => ?_, fun hk => ⟨?_, ?_⟩, fun hlen => ?_, fun n hn hw hs hb => ?_, fun hi hb => ⟨fun n hn hel => ⟨?_, fun bs hbs hlen => ?_⟩,
    fun n e u hn hel hdp hwo => ?_, fun n e u bs y hn hel hblob hlc hbs hsize hlen hj => ?_⟩, fun ha => ?_, fun ha => ?_⟩
  · refine (hopen _).trans (congrArg Host.Outcome.next (parsed_of_some _ _ (by unfold lineMost; omega) ?_))
    rw [if_neg ha, hk]
  · refine (hopen _).trans (congrArg Host.Outcome.next (parsed_of_none _ _ (.inl ?_)))
    rw [if_neg ha, hk]
  · exact (hopen _).trans (congrArg Host.Outcome.next (parsed_of_none _ _ (.inl hk)))
  · refine (hopen _).trans (congrArg Host.Outcome.next (parsed_of_none _ _ (.inl ?_)))
    rw [writeOf, hk]
    rfl
  · exact (hopen _).trans (congrArg Host.Outcome.next (parsed_of_none _ _ (.inr (by unfold lineMost; omega))))
  · rw [hread hn]
    exact congrArg Host.Outcome.next (ivtorRequest_behind (hheard hb) hw hs)
  · have hx : performRequest (asked .ivtor 1 n 0 []) x = (1, [], x) := dictRead_of_unknown (vendorOpen_ivtor ..) hel
    rw [hread hn, ivtorRequest_settled (hheard hb) hi hx hi]
    obtain ⟨c, k, hf, hreply⟩ := ivtorDone_frame (1, [], x)
    exact ⟨_, congrArg Host.Outcome.next hf, hreply, rfl, rfl⟩
  · have hx : performRequest (asked .ivtor 2 n bs.length bs) x = (1, [], x) := by
      show ((dictWrite .ivtor n bs x).1, [], (dictWrite .ivtor n bs x).2) = _
      rw [dictWrite_of_unknown (vendorOpen_ivtor ..) hel]
    rw [hwrite hn hbs hlen, ivtorRequest_settled (hheard hb) hi hx hi]
    obtain ⟨c, k, hf, hreply⟩ := ivtorDone_frame (1, [], x)
    exact ⟨_, congrArg Host.Outcome.next hf, hreply, rfl, rfl⟩
  · intro r
    have hx : performRequest (asked .ivtor 1 n 0 []) x = (0, r.1, r.2) := dictRead_of_element (vendorOpen_ivtor ..) hel hdp hwo
    rw [hread hn, ivtorRequest_settled (hheard hb) hi hx ((readElement_waiting ..).trans hi)]
    rfl
  · have hx : performRequest (asked .ivtor 2 n bs.length bs) x = (0, [], y) := by
      show ((dictWrite .ivtor n bs x).1, [], (dictWrite .ivtor n bs x).2) = _
      rw [dictWrite_of_element (vendorOpen_ivtor ..) hel hblob hlc, if_pos hsize, judged, hj]
    obtain ⟨c, k, ht⟩ := answered_frame (0, [], y) (ivtorDone (0, [], y)).ctl.waiting.length
    have hw := hwrite hn hbs hlen
    exact ⟨⟨_, hw.trans (congrArg Host.Outcome.next ((ivtorRequest_of_idle (hheard hb) hi hx).trans ht)), rfl, rfl, rfl, rfl, rfl, rfl⟩, fun hy =>
      hw.trans (congrArg Host.Outcome.next (ivtorRequest_settled (hheard hb) hi hx hy))⟩
  · have ha : accepts .ivtor .EXPERT_LOCK 0 1 x = true := (accepts_latchIrq ..).trans ha
    obtain ⟨y, hy⟩ : ∃ y, y = x.rset .LOCK_OWNER 0 2 := ⟨_, rfl⟩
    have hown : y.rget .LOCK_OWNER = 2 := by rw [hy, State.rget_rset_same]
    have hx := ivtorRequest_lock (v := 1) (s := x) (t := y) ha (by decide) (by rw [hy]; rfl) (by rw [hy, State.rset_ctl]; exact idle_of_accepts ha)
    obtain ⟨c, k, hdone, hreply⟩ := ivtorDone_frame (0, [], y)
    exact ⟨_, (hopen _).trans (congrArg Host.Outcome.next (hx.trans hdone)), hreply, hown,
      (congrArg State.cells hy).trans (State.rset_cells ..)⟩
  · have ha : accepts .ivtor .EXPERT_LOCK 0 0 x = true := (accepts_latchIrq ..).trans ha
    obtain ⟨⟨r, g, hfr⟩, hown, -⟩ := releaseLockOf_spec (c := 2) (by decide) x
    obtain ⟨c, k, hdone, hreply⟩ := ivtorDone_frame (0, [], releaseLockOf 2 x)
    have hx := (ivtorRequest_lock (v := 0) (s := x) ha (by decide) rfl (t := releaseLockOf 2 x) (by rw [hfr]; dsimp only; exact idle_of_accepts ha)).trans hdone
    refine ⟨_, (hopen _).trans (congrArg Host.Outcome.next hx), hreply, ?_, cells_of_words (releaseLockOf_words 2 x)⟩
    show (releaseLockOf 2 x).rget .LOCK_OWNER ≠ 2
    rw [hown]
    split
    · decide
    · assumption

end Sys2Proof.Machine
end

section

/-! # The service core's stores and loads: which of them protection lets through (R381 to R383) -/

namespace Sys2Proof.Machine

open Sys2Proof.Safety

/-! ### What protection asks of the state -/

theorem pmpFrom_congr {s t : State} (h : t.run.pmp = s.run.pmp) (a i k : Nat) : t.pmpFrom a i k = s.pmpFrom a i k := by
  have he (j : Nat) : t.pmpEntry j = s.pmpEntry j := by rw [State.pmpEntry, h, State.pmpEntry]
  induction k generalizing i with
  | zero => rfl
  | succ k ih => rw [State.pmpFrom, State.pmpFrom, he, he, ih]

theorem pmpAllows_congr {s t : State} (h : t.run.pmp = s.run.pmp) (m : Bool) (g : PmpEntry → Bool) (a : Nat) :
    t.pmpAllows m g a = s.pmpAllows m g a := by
  rw [State.pmpAllows, pmpFrom_congr h, State.pmpAllows]

/-- Protection alone tells states apart for an access of the core. -/
theorem coreMay_congr {s t : State} (h : t.run.pmp = s.run.pmp) (m st : Bool) (a : Nat) : t.coreMay m st a = s.coreMay m st a := by
  rw [State.coreMay, pmpAllows_congr h, State.coreMay]

/-- A machine-only region refuses user mode. -/
theorem coreMay_of_user {s : State} {st : Bool} {a : Nat} (h : (regionOf a).machineOnly = true) : s.coreMay false st a = false := by
  simp [State.coreMay, h]

/-! ### Runs of stores -/

theorem firstFault_of_may {s : State} {m : Bool} {x : CoreStore} (hf : x.faults s = false)
    (h : ∀ k, k < ceilDiv x.size 4 → s.coreMay m true (x.addr + 4 * k) = true) : s.firstFault m x = none := by
  rw [State.firstFault, List.find?_eq_none]
  intro a ha
  obtain ⟨k, hk, rfl⟩ := List.mem_map.mp ha
  simp [hf, h k (List.mem_range.mp hk)]

theorem firstFault_of_first {s : State} {m : Bool} {x : CoreStore} (hs : 0 < ceilDiv x.size 4)
    (h : x.faults s = true ∨ s.coreMay m true x.addr = false) : s.firstFault m x = some x.addr := by
  obtain ⟨n, hn⟩ := Nat.exists_eq_succ_of_ne_zero hs.ne'
  rw [State.firstFault, hn, List.range_succ_eq_map, List.map_cons, List.find?_cons_of_pos]
  · rfl
  · obtain h | h := h <;> simp [h]

theorem coreStores_cons_of_may {s : State} {m : Bool} {x : CoreStore} (l : List CoreStore) (h : s.firstFault m x = none) :
    coreStores m (x :: l) s = coreStores m l (x.effect x.size s) := by
  rw [coreStores, h]

theorem coreStores_cons_of_fault {s : State} {m : Bool} {x : CoreStore} {a : Nat} (l : List CoreStore) (h : s.firstFault m x = some a) :
    coreStores m (x :: l) s = accessFault true a (x.effect (a - x.addr) s) := by
  rw [coreStores, h]

theorem ceilDiv_four : ceilDiv 4 4 = 1 := by decide

/-- A word that protection lets the core store takes its effect. -/
theorem coreStores_word_of_may {s : State} {m : Bool} {a : Nat} (f : State → State) (l : List CoreStore) (h : s.coreMay m true a = true) :
    coreStores m (wordStore a f :: l) s = coreStores m l (f s) := by
  refine coreStores_cons_of_may l (firstFault_of_may rfl fun k hk => ?_)
  have hk : k < ceilDiv 4 4 := hk
  rw [ceilDiv_four] at hk
  obtain rfl : k = 0 := by omega
  exact h

/-- A word that protection refuses is a store access fault, and nothing else. -/
theorem coreStores_word_of_refused {s : State} {m : Bool} {a : Nat} (f : State → State) (l : List CoreStore) (h : s.coreMay m true a = false) :
    coreStores m (wordStore a f :: l) s = accessFault true a s := by
  refine (coreStores_cons_of_fault l (firstFault_of_first (by show 0 < ceilDiv 4 4; rw [ceilDiv_four]; decide) (.inr h))).trans ?_
  show accessFault true a (if a - a = 0 then s else f s) = _
  rw [if_pos (Nat.sub_self a)]

/-- One word stored. -/
theorem coreStores_one {s : State} {m : Bool} {a : Nat} (f : State → State) (h : s.coreMay m true a = true) :
    coreStores m [wordStore a f] s = f s := coreStores_word_of_may f [] h

/-! ### Sectors -/

theorem sectorOf_sectorBytes (v : BitVec 512) : sectorOf (sectorBytes v) = v := by
  have hlen : (sectorBytes v).length = 64 := length_leBytes ..
  rw [sectorOf, List.take_of_length_le hlen.le, sectorBytes, leVal_leBytes _ _ (Nat.lt_of_lt_of_eq v.isLt (congrArg (2 ^ ·) (by decide : 512 = 8 * 64)))]
  exact BitVec.ofNat_toNat ..

end Sys2Proof.Machine
end

section

/-! # Firmware, the raw keeper writes, and the watchdog (O45) -/

namespace Sys2Proof.Machine

open Sys2Proof.Safety

/-! ### The boot ROM -/

theorem startStage_rget (k : Nat) (s : State) (e : El) (u : Nat) : (startStage k s).rget e u = s.rget e u := rfl

theorem runSlot_spec (i : Nat) (s : State) : (runSlot i s).run.entered = true ∧ (runSlot i s).run.wdtRuns = true ∧ (runSlot i s).run.wdtStage = 0 ∧
    (runSlot i s).rget .FW_VERSION = fwField (s.keeperBytes (slotFirst i) 512) 4 4 ∧ (runSlot i s).dists = s.dists := by
  unfold runSlot
  extract_lets h part user s₁
  have h₁ : s₁.dists = s.dists := by
    unfold s₁
    split
    · exact raise_dists ..
    · rfl
  clear_value s₁
  exact ⟨rfl, rfl, rfl, (startStage_rget ..).trans (State.rget_rset_same ..), h₁⟩

/-- Reads of the keeper that are counted leave all but their count. -/
theorem countReads_frame (ns : List Nat) (s : State) : ∃ r, countReads ns s = { s with regs := r } := by
  unfold countReads
  generalize ns.filter _ = l
  induction l generalizing s with
  | nil => exact ⟨_, rfl⟩
  | cons n l ih => exact (ih (s.rinc .KP_ERRORS)).imp fun r h => h

/-- Whether a slot passes rests on the keeper alone. -/
theorem slotPasses_congr {s t : State} (h : t.keeper = s.keeper) (i : Nat) : t.slotPasses i = s.slotPasses i := by
  have hb (f n : Nat) : t.keeperBytes f n = s.keeperBytes f n := by rw [State.keeperBytes, h, State.keeperBytes]
  have hbody (b : Bytes) : t.fwBody i b = s.fwBody i b := by rw [State.fwBody, hb, State.fwBody]
  simp only [State.slotPasses, hb, hbody, h]

/-- With no slot that passes the core stays in ROM service. -/
theorem execCoreBoot_of_none {s : State} (hr : s.run.running = true) (he : s.run.entered = false) (hs : s.run.romService = false)
    (ha : s.slotPasses s.activeSlot = false) (hb : s.slotPasses (1 - s.activeSlot) = false) :
    ∃ t, execCoreBoot s = .next t ∧ t.run = { s.run with romService := true } ∧ t.cells = s.cells := by
  unfold execCoreBoot
  rw [if_neg (by simp [hr, he, hs])]
  extract_lets a read t u
  have hread (i : Nat) (v : State) : (read i v).keeper = v.keeper ∧ (read i v).run = v.run := by
    obtain ⟨r, h⟩ := countReads_frame (fwSectors i (v.keeperBytes (slotFirst i) 512)) v
    show (countReads _ v).keeper = _ ∧ (countReads _ v).run = _
    rw [h]
    exact ⟨rfl, rfl⟩
  have hk : t.keeper = s.keeper := ((hread ..).1.trans (raise_keeper ..)).trans (hread ..).1
  have hrun : u.run = s.run := (raise_run ..).trans (((hread ..).2.trans (raise_run ..)).trans (hread ..).2)
  have hwords : u.words = s.words := by simp [u, t, read]
  clear_value u t
  rw [if_neg (by rw [ha]; decide), if_neg (by rw [slotPasses_congr hk, hb]; decide)]
  exact ⟨_, rfl, congrArg (fun r : CoreRun => { r with romService := true }) hrun, cells_of_words hwords⟩

/-- An active slot that passes runs. -/
theorem execCoreBoot_of_active {s : State} (hr : s.run.running = true) (he : s.run.entered = false) (hs : s.run.romService = false)
    (ha : s.slotPasses s.activeSlot = true) : execCoreBoot s = .next (runSlot s.activeSlot s) :=
  (if_neg (by simp [hr, he, hs])).trans (if_pos ha)

/-! ### Raw writes -/

/-- The stores of KW_GO that protection lets through end in `startKeeperWrite`. -/
theorem execKwGo_of_may {k : Nat} {x : BitVec 512} {m : Bool} {before : List CoreStep} {s : State}
    (h1 : (coreDid before s).coreMay m true 0xB0000060 = true) (h2 : (coreDid before s).coreMay m true 0xB0000064 = true)
    (h3 : ∀ j, j < 16 → (coreDid before s).coreMay m true (0xB0000100 + 4 * j) = true) :
    execKwGo k x ⟨m, 1, before⟩ s = .next (startKeeperWrite 1 (setKwData x 64 (setKwSector k (coreDid before s)))) := by
  generalize hu : coreDid before s = u at *
  unfold execKwGo
  dsimp only
  rw [hu, coreStores_word_of_may _ _ h1]
  have hfault : (setKwSector k u).firstFault m { addr := 0xB0000100, size := 64, effect := setKwData x } = none := by
    refine firstFault_of_may rfl fun j hj => ?_
    have hj : j < ceilDiv 64 4 := hj
    rw [show ceilDiv 64 4 = 16 from by decide] at hj
    exact (coreMay_congr rfl ..).trans (h3 j hj)
  rw [coreStores_cons_of_may _ hfault]
  exact congrArg Host.Outcome.next (coreStores_one _ ((coreMay_congr rfl ..).trans h2))

/-- What `startKeeperWrite` sees after the sector and the data are stored. -/
theorem startKeeperWrite_spec {k : Nat} {x : BitVec 512} {u : State} (hst : u.core.kwStatus ≠ 1) (hk : k < 2 ^ 32) :
    let t := setKwData x 64 (setKwSector k u)
    (u.keeper.failed = true → ∃ y, startKeeperWrite 1 t = y ∧ y.core.kwStatus = 5 ∧ y.keeper = u.keeper) ∧
    (u.keeper.failed = false → firmwareSector k = false ∨ slotSector k = true ∧ u.run.entered = false →
      ∃ y, startKeeperWrite 1 t = y ∧ y.core.kwStatus = 4 ∧ y.keeper = u.keeper) ∧
    (u.keeper.failed = false → firmwareSector k = true → slotSector k = false ∨ u.run.entered = true → u.worn k = false →
      ∃ y, startKeeperWrite 1 t = y ∧ y.core.kwStatus = 1 ∧ y.keeper.sectors = u.keeper.sectors ∧
        y.keeper.jobs = u.keeper.jobs ++ [.raw k x]) := by
  intro t
  have hsec : t.core.kwSector = k := Nat.mod_eq_of_lt hk
  have hdata : sectorOf t.core.kwData = x := by
    have hlen : (sectorBytes x).length = 64 := length_leBytes ..
    have hk : t.core.kwData = sectorBytes x ++ u.core.kwData.drop 64 := by
      show (sectorBytes x).take 64 ++ _ = _
      rw [List.take_of_length_le hlen.le]
      rfl
    rw [hk, sectorOf, List.take_append_of_le_length hlen.ge]
    exact sectorOf_sectorBytes x
  have hguard : ¬ ((1 != 1 || decide (t.core.kwStatus = 1)) = true) := by
    show ¬ ((1 != 1 || decide (u.core.kwStatus = 1)) = true)
    simp [hst]
  unfold startKeeperWrite
  dsimp only
  rw [hsec, hdata]
  have hkeeper : t.keeper = u.keeper := rfl
  have hrun : t.run = u.run := rfl
  have hworn : t.worn k = u.worn k := rfl
  change _ ∧ _ ∧ _
  rw [if_neg hguard]
  refine ⟨fun hf => ⟨t.setKwStatus 5, if_pos hf, rfl, rfl⟩,
    fun hf h => ⟨t.setKwStatus 4, (if_neg (by rw [hkeeper, hf]; decide)).trans (if_pos ?_), rfl, rfl⟩,
    fun hf h1 h2 hw => ⟨(t.setKwStatus 1).setKeeper { u.keeper with jobs := u.keeper.jobs ++ [.raw k x] },
      (if_neg (by rw [hkeeper, hf]; decide)).trans ((if_neg ?_).trans ((if_neg ?_).trans rfl)), rfl, rfl, rfl⟩⟩
  · rw [hrun]
    obtain h | ⟨h, he⟩ := h
    · simp [h]
    · simp [h, he]
  · rw [hrun]
    obtain h2 | h2 := h2
    · simp [h1, h2]
    · simp [h1, h2]
  · rw [hworn, hw]
    decide

/-- A sector written holds its data, and raises source 12. -/
theorem writeSector_spec (n : Nat) (d : BitVec 512) (s : State) : (writeSector n d s).keeper.sectors = mset s.keeper.sectors n d 0 ∧
    (writeSector n d s).keeper.jobs = s.keeper.jobs ∧ bitOf (writeSector n d s).core.irq 12 = true ∧ (writeSector n d s).dev = s.dev := by
  have hlatch (i : Nat) : bitOf (Nat.lor i (2 ^ 12)) 12 = true := by
    rw [bitOf_lor]
    exact Bool.or_true _
  unfold writeSector
  extract_lets m k s₁
  have h₁ : s₁.keeper.sectors = mset s.keeper.sectors n d 0 ∧ s₁.keeper.jobs = s.keeper.jobs ∧ bitOf s₁.core.irq 12 = true ∧ s₁.dev = s.dev :=
    ⟨rfl, rfl, hlatch _, rfl⟩
  clear_value s₁
  split
  · have hrise (u : State) : (u.rinc .KP_WORN).keeper = u.keeper ∧ (u.rinc .KP_WORN).core = u.core ∧ (u.rinc .KP_WORN).dev = u.dev := ⟨rfl, rfl, rfl⟩
    obtain ⟨hk, hc, hd⟩ := hrise s₁
    have h₂ : ((s₁.rinc .KP_WORN).keeperState 1).keeper = s₁.keeper ∧ bitOf ((s₁.rinc .KP_WORN).keeperState 1).core.irq 12 = true ∧
        ((s₁.rinc .KP_WORN).keeperState 1).dev = s₁.dev := by
      generalize s₁.rinc .KP_WORN = u at *
      unfold State.keeperState
      extract_lets v
      split
      · exact ⟨hk, hlatch _, hd⟩
      · exact ⟨hk, hc ▸ h₁.2.2.1, hd⟩
    rw [raise_keeper, raise_core, raise_dev, h₂.1, h₂.2.2]
    exact ⟨h₁.1, h₁.2.1, h₂.2.1, h₁.2.2.2⟩
  · exact h₁

/-- The raw write under way is done. -/
theorem execKeeperWriteDone_of_raw {k : Nat} {x : BitVec 512} {rest : List KeeperJob} {s : State} (hj : s.keeper.jobs = .raw k x :: rest)
    (hd : s.power.deferred = none) :
    ∃ t, execKeeperWriteDone s = .next t ∧ t.core.kwStatus = 2 ∧ mget t.keeper.sectors k 0 = x ∧
      (∀ j, j ≠ k → mfind t.keeper.sectors j = mfind s.keeper.sectors j) ∧ t.keeper.jobs = rest ∧ bitOf t.core.irq 12 = true ∧ t.dev = s.dev := by
  let u := latchIrq 12 (s.setKeeper { s.keeper with jobs := rest })
  obtain ⟨hsec, hjobs, hirq, hdev⟩ := writeSector_spec k x u
  have hend : endKeeperWrite s = (writeSector k x u).setKwStatus 2 := by
    unfold endKeeperWrite
    rw [hj]
  have hpow : ((writeSector k x u).setKwStatus 2).power.deferred = none := by
    obtain ⟨g, r, q, i, h⟩ := (writeSector_onlyKeeper k x u).frame
    rw [h]
    exact hd
  refine ⟨(writeSector k x u).setKwStatus 2, ?_, rfl, ?_, fun j hne => ?_, hjobs, hirq, hdev⟩
  · unfold execKeeperWriteDone
    dsimp only
    rw [hend, hpow]
  · show mget (writeSector k x u).keeper.sectors k 0 = x
    rw [hsec, mget_mset_same]
  · show mfind (writeSector k x u).keeper.sectors j = _
    rw [hsec, mfind_mset_other _ _ _ _ _ hne]
    rfl

/-! ### The firmware counter -/

theorem commitFirmware_of_reached {s : State} (h : s.run.fwAr ≤ s.keeper.fwCounter) : commitFirmware 1 s = s := by
  unfold commitFirmware
  exact if_pos (by simp [← Bool.not_eq_true, Nat.blt_eq, h])

theorem commitFirmware_of_sound {s : State} (h : s.keeper.fwCounter < s.run.fwAr) (hd : s.keeper.dead.contains 1 = false)
    (hf : s.keeper.failed = false) (hw : ∀ j, s.worn j = false) :
    (commitFirmware 1 s).keeper.fwCounter = s.run.fwAr ∧ (commitFirmware 1 s).cells = s.cells := by
  refine ⟨?_, cells_of_words (commitFirmware_words ..)⟩
  obtain ⟨t, ht⟩ := writeCounter_of_sound (len := 2) (v := s.run.fwAr) hd hf hw
  unfold commitFirmware
  rw [if_neg (by simp [h]), ht]
  rfl

/-! ### The watchdog -/

theorem releaseLockOf_keeps (c : Nat) (s : State) : (∃ r g, releaseLockOf c s = { s with regs := r, recorder := g }) ∧
    Leaves [.LOCK_OWNER, .REC_LOST] s (releaseLockOf c s) := by
  unfold releaseLockOf
  split
  · obtain ⟨h, -, hl⟩ := releaseLock_spec s
    exact ⟨h, hl⟩
  · exact ⟨⟨_, _, rfl⟩, .refl s⟩

theorem lockVault_keeps (s : State) : (∃ r, lockVault s = { s with regs := r }) ∧ Leaves [.VAULT_STATE] s (lockVault s) := by
  unfold lockVault
  split
  · exact ⟨⟨_, rfl⟩, .rset (by decide) ..⟩
  · exact ⟨⟨_, rfl⟩, .refl s⟩

theorem dropStaged_keeps (s : State) : (∃ r m i, dropStaged s = { s with regs := r, queues := m, core := { s.core with irq := i } }) ∧
    Leaves [.Q_HEAD, .Q_LEVEL] s (dropStaged s) := by
  unfold dropStaged
  split
  · exact ⟨setQueue_frame .., setQueue_leaves ..⟩
  · exact ⟨⟨_, _, _, rfl⟩, .refl s⟩

theorem dropCoreWork_keeps (s : State) :
    (∃ r q m c k, dropCoreWork s = { s with regs := r, queues := q, mbox := m, ctl := c, core := k }) ∧
    Leaves [.Q_HEAD, .Q_LEVEL] s (dropCoreWork s) := by
  obtain ⟨⟨r, q, i, h⟩, hl⟩ := dropStaged_keeps s
  unfold dropCoreWork
  rw [h] at hl ⊢
  exact ⟨⟨_, _, _, _, _, rfl⟩, hl.trans (.of_regs rfl)⟩

/-- A core as it starts: in its boot ROM, or held. -/
def startedRun (s : State) : CoreRun := { CoreRun.reset with running := !s.dbg.cur, held := s.dbg.cur, draw := s.fv }

theorem startCore_keeps (s : State) : (∃ r, startCore s = { s with regs := r, run := startedRun s, fv := s.fv + 1 }) ∧
    Leaves [.FW_VERSION] s (startCore s) :=
  ⟨⟨_, rfl⟩, Leaves.trans (t := (s.setRun (startedRun s)).draw.2) (.of_regs rfl) (.rset (by decide) ..)⟩

/-- The registers that a reset of the core may touch. -/
def coreResetEls : List El :=
  [.LOCK_OWNER, .VAULT_STATE, .Q_HEAD, .Q_LEVEL, .FW_VERSION, .CORE_RESETS, .CORE_RESET_CAUSE, .REC_LOST]

/-- A core reset until it is counted: its locks released, the Vault locked, its work dropped, and its start. -/
def coreRestarted (s : State) : State := startCore (dropCoreWork (lockVault (releaseLockOf 4 (releaseLockOf 3 s))))

theorem coreRestarted_leaves (s : State) : Leaves coreResetEls s (coreRestarted s) :=
  ((releaseLockOf_keeps 3 s).2.mono (by decide)).trans (((releaseLockOf_keeps 4 _).2.mono (by decide)).trans
    (((lockVault_keeps _).2.mono (by decide)).trans (((dropCoreWork_keeps _).2.mono (by decide)).trans ((startCore_keeps _).2.mono (by decide)))))

theorem coreRestarted_frame (s : State) : ∃ r g q m c k f, coreRestarted s = { s with
    regs := r, recorder := g, queues := q, mbox := m, ctl := c, core := k, fv := f, run := startedRun s } := by
  obtain ⟨⟨r₁, g₁, h₁⟩, -⟩ := releaseLockOf_keeps 3 s
  obtain ⟨⟨r₂, g₂, h₂⟩, -⟩ := releaseLockOf_keeps 4 (releaseLockOf 3 s)
  have hs : releaseLockOf 4 (releaseLockOf 3 s) = { s with regs := r₂, recorder := g₂ } := h₂.trans (by rw [h₁])
  obtain ⟨⟨r₃, h₃⟩, -⟩ := lockVault_keeps (releaseLockOf 4 (releaseLockOf 3 s))
  obtain ⟨⟨r₄, q, m, c, k, h₄⟩, -⟩ := dropCoreWork_keeps (lockVault (releaseLockOf 4 (releaseLockOf 3 s)))
  obtain ⟨⟨r₅, h₅⟩, -⟩ := startCore_keeps (dropCoreWork (lockVault (releaseLockOf 4 (releaseLockOf 3 s))))
  refine ⟨r₅, g₂, q, m, c, k, s.fv + 1, ?_⟩
  rw [coreRestarted, h₅, h₄, h₃, hs]
  rfl

theorem rinc_rset_frame (s : State) (e e' : El) (u v : Nat) : ∃ r, (s.rinc e).rset e' u v = { s with regs := r } := ⟨_, rfl⟩

/-- What a reset of the core leaves of the state and the registers. -/
theorem coreReset_spec (cause : Nat) (s : State) :
    (∃ r g q m c k f, coreReset cause s = { s with
      regs := r, recorder := g, queues := q, mbox := m, ctl := c, core := k, fv := f, run := startedRun s }) ∧
    Leaves coreResetEls s (coreReset cause s) := by
  have hs : coreReset cause s = if cause = 1 then (((coreRestarted s).rinc .CORE_RESETS).rset .CORE_RESET_CAUSE 0 cause).raise sevError 0x3801 0 []
      else (((coreRestarted s).rinc .CORE_RESETS).rset .CORE_RESET_CAUSE 0 cause).raise sevInfo 0x3802 0 [] := rfl
  have hl : Leaves coreResetEls s (((coreRestarted s).rinc .CORE_RESETS).rset .CORE_RESET_CAUSE 0 cause) :=
    (coreRestarted_leaves s).trans (Leaves.trans (t := (coreRestarted s).rinc .CORE_RESETS) (.rinc (by decide) ..) (.rset (by decide) ..))
  have hf : ∃ r, ((coreRestarted s).rinc .CORE_RESETS).rset .CORE_RESET_CAUSE 0 cause = { coreRestarted s with regs := r } :=
    rinc_rset_frame ..
  obtain ⟨r₁, g₁, q, m, c, k, f, h₁⟩ := coreRestarted_frame s
  rw [hs]
  clear hs
  generalize ((coreRestarted s).rinc .CORE_RESETS).rset .CORE_RESET_CAUSE 0 cause = u at hl hf ⊢
  obtain ⟨r, rfl⟩ := hf
  rw [h₁] at hl ⊢
  split
  · obtain ⟨g, n, h⟩ := raise_frame _ sevError 0x3801 0 []
    exact ⟨⟨_, _, _, _, _, _, _, h⟩, hl.trans (.raise (by decide) ..)⟩
  · obtain ⟨g, n, h⟩ := raise_frame _ sevInfo 0x3802 0 []
    exact ⟨⟨_, _, _, _, _, _, _, h⟩, hl.trans (.raise (by decide) ..)⟩

/-- Stage 1 ends in a reset of the core, and leaves the fabric. -/
theorem endSecondStage_spec (s : State) : (endSecondStage s).rget .CORE_RESET_CAUSE = 1 ∧
    (endSecondStage s).rget .WDT_RESETS = Nat.min (s.rget .WDT_RESETS + 1) (El.WDT_RESETS.modulus - 1) ∧
    (endSecondStage s).run.entered = false ∧ (endSecondStage s).dists = s.dists ∧ (endSecondStage s).ports = s.ports ∧
    (endSecondStage s).cells = s.cells := by
  obtain ⟨⟨r, g, q, m, c, k, f, h⟩, hl⟩ := coreReset_spec 1 (s.rinc .WDT_RESETS)
  refine ⟨coreReset_cause .., (hl.rget .WDT_RESETS (by decide) 0).trans ((State.rget_rinc ..).trans (if_pos ⟨rfl, rfl⟩)), ?_⟩
  unfold endSecondStage
  rw [h]
  exact ⟨rfl, rfl, rfl, rfl⟩

/-- Settles O45: boot by `runSlot`, the stores by `coreStores`, the watchdog by `endFirstStage` and `endSecondStage`. -/
theorem firmwareAndWatchdog : Obligations.FirmwareAndWatchdog := by
  unfold Obligations.FirmwareAndWatchdog
  intro w v k x m before s u may
  refine ⟨fun hr he hs => ⟨fun ha => ?_, fun ha hb => execCoreBoot_of_none hr he hs ha hb⟩, fun hr => if_pos (by simp [hr]),
    fun h1 h2 h3 hst hk => ?_, fun rest hj hd => execKeeperWriteDone_of_raw hj hd, fun h hc => ?_, fun h hc hd hf hw => ?_, fun h hr => ?_,
    fun h hv => ?_, fun h => ?_, fun h => ?_, fun h => ?_, fun hm => ?_, fun ha hf hw => ?_, fun hc h0 hl => ?_, fun h => ?_, fun hc h1 hl => ?_⟩
  · obtain ⟨h1, h2, h3, h4, h5⟩ := runSlot_spec s.activeSlot s
    exact ⟨_, execCoreBoot_of_active hr he hs ha, h1, h2, h3, h4, cells_of_words (runSlot_words ..), h5⟩
  · obtain ⟨h4, h5, h6⟩ := startKeeperWrite_spec (x := x) hst hk
    have he := execKwGo_of_may (k := k) (x := x) h1 h2 h3
    exact ⟨fun hf => (h4 hf).imp fun y h => ⟨he.trans (congrArg Host.Outcome.next h.1), h.2⟩,
      fun hf h => (h5 hf h).imp fun y h => ⟨he.trans (congrArg Host.Outcome.next h.1), h.2⟩,
      fun hf ha hb hw => (h6 hf ha hb hw).imp fun y h => ⟨he.trans (congrArg Host.Outcome.next h.1), h.2⟩⟩
  · exact congrArg Host.Outcome.next ((coreStores_one _ h).trans (commitFirmware_of_reached hc))
  · obtain ⟨h1, h2⟩ := commitFirmware_of_sound hc hd hf hw
    exact ⟨_, congrArg Host.Outcome.next (coreStores_one _ h), h1, h2⟩
  · exact congrArg Host.Outcome.next ((coreStores_one _ h).trans (if_pos (by simpa using hr)))
  · exact congrArg Host.Outcome.next ((coreStores_one _ h).trans (if_neg (by simp [hv])))
  · exact congrArg Host.Outcome.next (coreStores_word_of_refused _ _ h)
  · exact congrArg Host.Outcome.next (coreStores_word_of_refused _ _ h)
  · exact congrArg Host.Outcome.next (coreStores_word_of_refused _ _ h)
  · subst hm
    exact ⟨coreMay_of_user (by decide), coreMay_of_user (by decide), coreMay_of_user (by decide)⟩
  · obtain ⟨t, ht, hv, ho, -⟩ := keepValue_of_sound (e := .WDT_ENABLE) (u := 0) (v := v) hf (hw _)
    have hcells : t.cells = s.cells := cells_of_words (keepValue_words ht)
    refine ⟨if v = 1 then startStage 0 t else t, write_performed (h := hWdtEnable) ha rfl rfl ?_, ?_, fun h1 => ?_, ?_⟩
    · unfold hWdtEnable Handler.doing
      dsimp only
      rw [ht]
    · split
      · exact (startStage_rget ..).trans hv
      · exact hv
    · rw [if_pos h1]
      rfl
    · split
      · exact hcells
      · exact hcells
  · refine ⟨endFirstStage s, congrArg Host.Outcome.next (if_pos (by simp [State.stageOver, hc, h0, hl])), rfl, ?_, rfl⟩
    show bitOf (Nat.lor s.core.irq (2 ^ 8)) 8 = true
    rw [bitOf_lor]
    exact Bool.or_true _
  · have hno (k : Nat) : s.stageOver k = false := by
      obtain h | h := h <;> simp [State.stageOver, h]
    exact ⟨congrArg Host.Outcome.next (if_neg (by simp [hno])), congrArg Host.Outcome.next (if_neg (by simp [hno]))⟩
  · exact ⟨endSecondStage s, congrArg Host.Outcome.next (if_pos (by simp [State.stageOver, hc, h1, hl])), endSecondStage_spec s⟩

end Sys2Proof.Machine
end

section

/-! # The core-local block (O46): a store access fault that ends a locked sequence halts the core, which draws a free value -/

namespace Sys2Proof.Machine

open Sys2Proof.Safety

/-- A core whose halt is deferred, with a fragment that waits for its queue. -/
def haltDue : State :=
  { State.reset with
    run := { State.reset.run with running := true, deferred := some (1, 0) }
    mbox := { State.reset.mbox with waiting := true } }

/-- A trap of a core whose halt is deferred takes the halt. -/
theorem accessFault_fv_of_deferred {s : State} {h : Nat × Nat} (hd : s.run.deferred = some h) (hr : s.run.running = true) (store : Bool) (a : Nat) :
    (accessFault store a s).fv = s.fv + 1 := by
  unfold accessFault coreTrap takeDeferred
  rw [show (s.setRun { s.run with trap := some (if store then 7 else 5, a) }).run.deferred = some h from hd]
  dsimp only
  rw [if_pos (show (s.setRun { s.run with trap := some (if store then 7 else 5, a) }).run.running = true from hr)]
  exact raise_fv ..

/-- The store of a row while a fragment waits, by the core whose halt is due. -/
theorem execMailboxRowCommit_haltDue : ∃ t, execMailboxRowCommit ⟨true, 0, []⟩ 0 false false haltDue = .next t ∧ t.fv = 1 := by
  have h1 : (coreDid [] haltDue).coreMay true true 0xA0000000 = true := by decide
  have h2 : (coreDid [] haltDue).coreMay true true 0xA0000004 = true := by decide
  refine ⟨_, rfl, (congrArg State.fv ((coreStores_word_of_may _ _ h1).trans
    ((coreStores_word_of_may _ _ ((coreMay_congr (s := coreDid [] haltDue) rfl ..).trans h2)).trans
      (coreStores_cons_of_fault _ (firstFault_of_first (by decide) (.inl rfl)))))).trans
    (accessFault_fv_of_deferred (h := (1, 0)) rfl rfl ..)⟩

/-- Refutes O46: a row written while a fragment waits is a store access fault, and where a halt is deferred (R434) the fault takes it,
so that a free value is drawn: the counterexample is `haltDue`, whose count of free values moves on. -/
theorem not_coreLocalBlock : ¬ Obligations.CoreLocalBlock := by
  unfold Obligations.CoreLocalBlock
  intro h
  obtain ⟨-, -, -, -, -, -, -, -, -, -, -, -, -, hrow, -⟩ := h 0 false true [] 0 [] haltDue
  obtain ⟨t, he, -, -, -, hsame⟩ := hrow (by decide) (by decide) rfl
  obtain ⟨u, hu, hfv⟩ := execMailboxRowCommit_haltDue
  obtain rfl : u = t := Host.Outcome.next.inj (hu.symm.trans he)
  have hzero : u.fv = 0 := congrArg State.fv hsame
  omega

end Sys2Proof.Machine
end

section

/-! # What the core does before a command (O47) -/

namespace Sys2Proof.Machine

open Sys2Proof.Safety

theorem coreDid_of_still {s : State} (h : s.run.running = false) (l : List CoreStep) : coreDid l s = s := if_neg (by simp [h])

section
variable {s : State} (hr : s.run.running = true)
include hr

theorem coreDid_of_running (l : List CoreStep) : coreDid l s = l.foldl (fun t x => coreStep x t) s.ran := if_pos hr

theorem coreDid_one (m : Bool) (y : CoreAccess) : coreDid [⟨m, y⟩] s = coreStep ⟨m, y⟩ s.ran := coreDid_of_running hr _

end

theorem coreMay_ran (s : State) (m st : Bool) (a : Nat) : s.ran.coreMay m st a = s.coreMay m st a := coreMay_congr rfl ..

theorem coreRuns_ran (s : State) (m : Bool) (a : Nat) : s.ran.coreRuns m a = s.coreRuns m a := by
  simp only [State.coreRuns, pmpAllows_congr (s := s) (t := s.ran) rfl]

theorem coreMay_of_unlisted {s : State} {m st : Bool} {a : Nat} (h : regionOf a = .none) : s.coreMay m st a = false := by
  simp [State.coreMay, h]

theorem coreMay_of_readOnly {s : State} {m : Bool} {a : Nat} (h : (regionOf a).readOnly = true) : s.coreMay m true a = false := by
  simp [State.coreMay, h]

/-! ### One access of a core that runs -/

section
variable {m : Bool} {a v : Nat} {s : State} (hr : s.run.running = true)
include hr

theorem coreStep_load : coreStep ⟨m, .load a⟩ s = coreLoadWord m a s := if_neg (by simp [hr])

theorem coreStep_store : coreStep ⟨m, .store a v⟩ s = coreStoreWord m a v s := if_neg (by simp [hr])

theorem coreStep_load_of_refused (h : s.coreMay m false a = false) : coreStep ⟨m, .load a⟩ s = accessFault false a s :=
  (coreStep_load hr).trans (if_pos (by simp [h]))

theorem coreStep_store_of_refused (h : s.coreMay m true a = false) : coreStep ⟨m, .store a v⟩ s = accessFault true a s :=
  (coreStep_store hr).trans (if_pos (by simp [h]))

/-- Bank space at a bank of the Vault is refused, whatever protection grants. -/
theorem coreStep_vaultBank (hb : regionOf a = .bank) (hv : s.isVaultBank (bankAt a) = true) :
    coreStep ⟨m, .load a⟩ s = accessFault false a s ∧ coreStep ⟨m, .store a v⟩ s = accessFault true a s := by
  have hnone : s.coreBank a = none := by
    unfold State.coreBank
    rw [hb]
    exact if_pos hv
  refine ⟨(coreStep_load hr).trans ?_, (coreStep_store hr).trans ?_⟩
  · unfold coreLoadWord
    dsimp only
    split
    · rfl
    · rw [hb]
      dsimp only
      rw [hnone]
  · unfold coreStoreWord
    dsimp only
    split
    · rfl
    · rw [hb]
      dsimp only
      rw [hnone]

/-- A load of the keeper window gives what the map gives. -/
theorem coreStep_keeper (hk : regionOf a = .keeper) (hm : s.coreMay m false a = true) :
    coreStep ⟨m, .load a⟩ s = loaded a (mapRead a true s) := by
  refine (coreStep_load hr).trans ((if_neg (by simp [hm])).trans ?_)
  rw [hk]

end

section
variable {a : Nat} {s : State} (hk : regionOf a = .keeper) (hf : s.keeper.failed = false)
include hk hf

theorem loaded_secret (hs : secretSector ((a - 0x80000000) / 64) = true) :
    loaded a (mapRead a true s) = s.setCore { s.core with readOut := 0 } := by
  unfold mapRead
  rw [hk]
  dsimp only
  rw [if_neg (by simp [hf]), if_pos hs]
  rfl

theorem loaded_sector (hs : secretSector ((a - 0x80000000) / 64) = false) (hb : s.keeper.bad.contains ((a - 0x80000000) / 64) = false) :
    loaded a (mapRead a true s) = s.setCore { s.core with
      readOut := wordOf (sectorBytes (mget s.keeper.sectors ((a - 0x80000000) / 64) 0)) (a % 64 / 4 * 4) % 2 ^ 32 } := by
  have hread : s.sectorRead ((a - 0x80000000) / 64) = some (mget s.keeper.sectors ((a - 0x80000000) / 64) 0) := if_neg (by rw [hb]; decide)
  unfold mapRead
  rw [hk]
  dsimp only
  rw [if_neg (by simp [hf]), if_neg (by simp [hs]), hread]
  rfl

theorem loaded_bad (hs : secretSector ((a - 0x80000000) / 64) = false) (hb : s.keeper.bad.contains ((a - 0x80000000) / 64) = true) :
    loaded a (mapRead a true s) = accessFault false a (s.rinc .KP_ERRORS) := by
  have hread : s.sectorRead ((a - 0x80000000) / 64) = none := if_pos hb
  have hcount : countReads [(a - 0x80000000) / 64] s = s.rinc .KP_ERRORS := by
    unfold countReads
    rw [List.filter_cons_of_pos hb]
    rfl
  unfold mapRead
  rw [hk]
  dsimp only
  rw [if_neg (by simp [hf]), if_neg (by simp [hs]), hread]
  dsimp only
  rw [hcount]
  exact if_neg (by simp [mapError])

end

/-! ### Protection's registers -/

theorem pmpEntry_setPmp (s : State) (i : Nat) (e : PmpEntry) : (s.setPmp i e).pmpEntry i = e := mget_mset_same ..

theorem pmpEntry_setPmp_other (s : State) {i j : Nat} (e : PmpEntry) (h : j ≠ i) : (s.setPmp i e).pmpEntry j = s.pmpEntry j :=
  mget_mset_other _ _ _ _ _ _ h

theorem putPmpCsr_addr {i : Nat} (h : i < 16) (v : Nat) (s : State) : putPmpCsr (0x3B0 + i) v s = some (putPmpAddr i v s) := by
  have hi : 0x3B0 + i - 0x3B0 = i := by omega
  unfold putPmpCsr
  rw [if_neg (by simp [Nat.ble_eq]; omega), if_pos (by simp [Nat.ble_eq]; omega), hi]

/-- Settles O47: each access by its rule for one access, `coreStep`. -/
theorem coreAccesses : Obligations.CoreAccesses := by
  unfold Obligations.CoreAccesses
  intro m a v x xs s did
  refine ⟨fun hr => coreDid_of_still hr _, fun hr => ?_⟩
  have hran : s.ran.run.running = true := hr
  have hdid (y : CoreAccess) : did y = coreStep ⟨m, y⟩ s.ran := coreDid_one hr m y
  have hload (h : s.coreMay m false a = false) : did (.load a) = accessFault false a s.ran :=
    (hdid _).trans (coreStep_load_of_refused hran ((coreMay_ran ..).trans h))
  have hstore (h : s.coreMay m true a = false) : did (.store a v) = accessFault true a s.ran :=
    (hdid _).trans (coreStep_store_of_refused hran ((coreMay_ran ..).trans h))
  refine ⟨?_, hload, hstore, fun h => ⟨hload (coreMay_of_unlisted h), hstore (coreMay_of_unlisted h)⟩, fun hm h => ?_, fun h => hstore (coreMay_of_readOnly ?_),
    fun hb hv => ?_, fun hk hm hf => ?_, fun h y hy => ?_, fun h hm => ?_, fun h hm => ⟨?_, ?_⟩, fun h => ?_, fun h => ?_, fun i hi hm hl hn => ?_,
    fun i hi hm hl => ?_, fun hm hd => ?_⟩
  · rw [coreDid_of_running hr, coreDid_of_running hr]
    rfl
  · have hu : (regionOf a).machineOnly = true := by
      simp only [List.mem_cons, List.not_mem_nil, or_false] at h
      obtain h | h | h | h | h := h <;> rw [h] <;> rfl
    subst hm
    exact ⟨hload (coreMay_of_user hu), hstore (coreMay_of_user hu)⟩
  · obtain h | h := h <;> rw [h] <;> rfl
  · obtain ⟨h1, h2⟩ := coreStep_vaultBank (m := m) (v := v) (s := s.ran) hran hb hv
    exact ⟨(hdid _).trans h1, (hdid _).trans h2⟩
  · intro n
    have hk' := (hdid _).trans (coreStep_keeper (m := m) hran hk ((coreMay_ran ..).trans hm))
    exact ⟨fun hs => hk'.trans (loaded_secret (s := s.ran) hk hf hs), fun hs hb => hk'.trans (loaded_sector (s := s.ran) hk hf hs hb),
      fun hs hb => hk'.trans (loaded_bad (s := s.ran) hk hf hs hb)⟩
  · have hat (w r : Bool) : coreAtomic m w r a s.ran = accessFault true a s.ran := if_pos (by simp [h])
    simp only [List.mem_cons, List.not_mem_nil, or_false] at hy
    obtain rfl | rfl | rfl := hy
    · exact (hdid _).trans ((if_neg (by simp [hran])).trans (hat ..))
    · exact (hdid _).trans ((if_neg (by simp [hran])).trans (hat ..))
    · exact (hdid _).trans ((if_neg (by simp [hran])).trans (hat ..))
  · exact (hdid _).trans ((if_neg (by simp [hran])).trans (if_neg (by simp [h, coreMay_ran, hm])))
  · exact (hdid _).trans ((if_neg (by simp [hran])).trans (if_neg (by simp [h, coreMay_ran, hm])))
  · exact (hdid _).trans ((if_neg (by simp [hran])).trans (if_neg (by simp [h, coreMay_ran, hm])))
  · have hc : s.ran.coreRuns m a = true := (coreRuns_ran ..).trans h
    exact (hdid _).trans ((if_neg (by simp [hran])).trans (if_pos hc))
  · have hc : s.ran.coreRuns m a = false := (coreRuns_ran ..).trans h
    exact (hdid _).trans ((if_neg (by simp [hran])).trans (if_neg (by simp [hc])))
  · have hput : putPmpAddr i v s.ran = s.ran.setPmp i { s.pmpEntry i with addr := v } := if_neg (by
      show ¬ ((s.pmpEntry i).locked || ((s.pmpEntry (i + 1)).locked && (s.pmpEntry (i + 1)).mode == 1)) = true
      simp [hl, hn])
    have hw : did (.writeCsr (0x3B0 + i) v) = s.ran.setPmp i { s.pmpEntry i with addr := v } := by
      refine (hdid _).trans ((if_neg (by simp [hran])).trans ((if_pos hm).trans ?_))
      rw [putPmpCsr_addr hi, hput]
      rfl
    rw [hw]
    exact ⟨pmpEntry_setPmp .., fun j hj => pmpEntry_setPmp_other s.ran _ hj⟩
  · have hput : putPmpAddr i v s.ran = s.ran := if_pos (by
      show ((s.pmpEntry i).locked || ((s.pmpEntry (i + 1)).locked && (s.pmpEntry (i + 1)).mode == 1)) = true
      simp [hl])
    refine (hdid _).trans ((if_neg (by simp [hran])).trans ((if_pos hm).trans ?_))
    rw [putPmpCsr_addr hi, hput]
    rfl
  · have hw : did (.writeCsr a v) = coreTrap 2 (Config.freeBits s.ran.fv).toNat s.ran.draw.2 :=
      (hdid _).trans ((if_neg (by simp [hran])).trans (if_neg (by simp [hm])))
    have ht : coreTrap 2 (Config.freeBits s.ran.fv).toNat s.ran.draw.2 =
        s.ran.draw.2.setRun { s.ran.draw.2.run with trap := some (2, (Config.freeBits s.ran.fv).toNat) } := by
      unfold coreTrap takeDeferred
      rw [show (s.ran.draw.2.setRun { s.ran.draw.2.run with trap := some (2, (Config.freeBits s.ran.fv).toNat) }).run.deferred = none from hd]
    rw [hw, ht]
    exact ⟨_, rfl, rfl, rfl⟩

end Sys2Proof.Machine
end

section

/-! # The records (O48) -/

namespace Sys2Proof.Machine

open Sys2Proof.Safety

/-! ### What the writer does -/

theorem raiseAlert_frame (v a : Nat) (s : State) : ∃ g c i, raiseAlert v a s = { s with regs := g, ctl := c, core := i } := by
  unfold raiseAlert
  split
  · exact ⟨_, _, _, rfl⟩
  · exact ⟨_, _, _, rfl⟩

theorem raiseAlert_leaves (v a : Nat) (s : State) : Leaves [.ALERT_PENDING] s (raiseAlert v a s) :=
  .ite (.refl s) ((Leaves.rset (by decide) s _ _).trans (.of_regs rfl))

theorem queueCopy_frame (r : Record) (s : State) : ∃ l, queueCopy r s = s.setRecorder { s.recorder with copies := l } := by
  unfold queueCopy
  extract_lets q
  split
  · exact ⟨_, rfl⟩
  · exact ⟨_, rfl⟩

/-- The record that the writer makes of an event while a slot is free. -/
def newRecord (e : Event) (s : State) : Record :=
  { slot := s.recorder.held.length, seq := s.recorder.seqNext, gen := (mget s.recorder.gens s.recorder.held.length 0 + 1) % 65536,
    pseq := 0, persisted := false, ev := e }

/-- The buffer with that record. -/
def Recorder.withRecord (r : Recorder) (n : Record) (copies : List Record) : Recorder :=
  { r with held := r.held ++ [n], gens := mset r.gens n.slot n.gen 0, seqNext := r.seqNext + 1, copies }

/-- With a free slot the writer adds a record, and beyond the recorder only ALERT moves. -/
theorem writeRecord_of_free (e : Event) {s : State} (h : s.recorder.held.length < recordSlots) :
    ∃ l g c i, writeRecord e s = { s with recorder := s.recorder.withRecord (newRecord e s) l, regs := g, ctl := c, core := i } ∧
      Leaves [.ALERT_PENDING] s (writeRecord e s) := by
  unfold writeRecord
  extract_lets r old slot kept g new before s₁ s₂ s₃
  have hold : old = none := if_pos (Nat.blt_eq.mpr h)
  have hslot : slot = s.recorder.held.length := by
    unfold slot
    rw [hold]
  have hkept : kept = s.recorder.held := by
    unfold kept
    rw [hold]
  have h₁ : s₁ = s.setRecorder (s.recorder.withRecord (newRecord e s) s.recorder.copies) := by
    unfold s₁ new g
    rw [hkept, hslot]
    rfl
  have h₂ : ∃ l, s₂ = s.setRecorder (s.recorder.withRecord (newRecord e s) l) := by
    unfold s₂
    rw [h₁]
    clear_value before
    cases before with
    | none => exact ⟨_, rfl⟩
    | some p =>
      dsimp only
      split
      · obtain ⟨l, hl⟩ := queueCopy_frame p (s.setRecorder (s.recorder.withRecord (newRecord e s) s.recorder.copies))
        exact ⟨l, hl⟩
      · exact ⟨_, rfl⟩
  have h₃ : ∃ l, s₃ = s.setRecorder (s.recorder.withRecord (newRecord e s) l) := by
    obtain ⟨l, hl⟩ := h₂
    unfold s₃
    rw [hl]
    split
    · obtain ⟨l', hl'⟩ := queueCopy_frame new (s.setRecorder (s.recorder.withRecord (newRecord e s) l))
      exact ⟨l', hl'⟩
    · exact ⟨_, rfl⟩
  obtain ⟨l, hl⟩ := h₃
  obtain ⟨g', c, i, hr⟩ := raiseAlert_frame e.severity e.area s₃
  have hregs : s₃.regs = s.regs := by rw [hl]; rfl
  refine ⟨l, g', c, i, ?_, (Leaves.of_regs hregs).trans (raiseAlert_leaves ..)⟩
  rw [hr, hl]
  rfl

/-! ### The copies -/

theorem writeSector_of_fresh {k : Nat} (d : BitVec 512) {s : State} (h : s.wearOf k + 1 < ratedWrites) :
    ∃ w b i, bitOf i 12 = true ∧ writeSector k d s =
      { s with keeper := { s.keeper with sectors := mset s.keeper.sectors k d 0, wear := w, bad := b }, core := { s.core with irq := i } } := by
  have hn : Nat.min (s.wearOf k + 1) 0xFFFFFFFF ≠ ratedWrites :=
    Nat.ne_of_lt (Nat.lt_of_le_of_lt (Nat.min_le_left ..) h)
  exact ⟨_, _, _, latchIrq_bit 12 s, if_neg hn⟩

theorem rewriteRecord_frame (q : Nat) (f : Record → Record) (s : State) :
    ∃ l g, rewriteRecord q f s = s.setRecorder { s.recorder with held := l, gens := g } := by
  unfold rewriteRecord
  extract_lets r
  split
  · exact ⟨_, _, rfl⟩
  · exact ⟨_, _, rfl⟩

theorem take_copies (r : Recorder) (e : Event) : (r.take e).1.copies = r.copies := by
  unfold Recorder.take
  extract_lets full
  clear_value full
  split
  · split
    · rfl
    · split <;> rfl
  · split
    · split <;> rfl
    · rfl

/-- What a copy is free to change of the recorder: all but the queue of copies. -/
structure Copied (s t : State) : Prop where
  copies : t.recorder.copies = s.recorder.copies
  cells : t.cells = s.cells
  dev : t.dev = s.dev

namespace Copied

theorem refl (s : State) : Copied s s := ⟨rfl, rfl, rfl⟩

theorem trans {s t r : State} (h : Copied s t) (h' : Copied t r) : Copied s r :=
  ⟨h'.copies.trans h.copies, h'.cells.trans h.cells, h'.dev.trans h.dev⟩

theorem setRecorder (s : State) (r : Recorder) (h : r.copies = s.recorder.copies) : Copied s (s.setRecorder r) := ⟨h, rfl, rfl⟩

theorem raise (s : State) (v c u : Nat) (d : Bytes) : Copied s (s.raise v c u d) := by
  refine ⟨?_, raise_cells .., raise_dev ..⟩
  unfold State.raise
  split
  · rfl
  · extract_lets e x s₁
    have h : s₁.recorder.copies = s.recorder.copies := take_copies ..
    clear_value s₁
    split
    · exact h
    · exact h

theorem ite {c : Prop} [Decidable c] {s t r : State} (ht : Copied s t) (hr : Copied s r) : Copied s (if c then t else r) := by
  split
  · exact ht
  · exact hr

end Copied

theorem writeSector_copied (k : Nat) (d : BitVec 512) (s : State) : Copied s (writeSector k d s) := by
  unfold writeSector
  extract_lets m x s₁
  have h : Copied s s₁ := ⟨rfl, rfl, rfl⟩
  clear_value s₁
  have hstate (u : State) : Copied u (u.keeperState 1) := .ite ⟨rfl, rfl, rfl⟩ (.refl u)
  have hrise : Copied s₁ (s₁.rinc .KP_WORN) := ⟨rfl, rfl, rfl⟩
  exact .ite (h.trans ((hrise.trans (hstate _)).trans (.raise ..))) h

theorem rewriteRecord_copied (q : Nat) (f : Record → Record) (s : State) : Copied s (rewriteRecord q f s) := by
  obtain ⟨l, g, h⟩ := rewriteRecord_frame q f s
  rw [h]
  exact .setRecorder _ _ rfl

theorem copyRecord_copied (r : Record) (s : State) : Copied s (copyRecord r s) := by
  unfold copyRecord
  extract_lets q s₁ n src s₂ now
  have h₁ : Copied s s₁ := .setRecorder _ _ rfl
  clear_value s₁
  split
  · split
    · exact .ite h₁ (h₁.trans (writeSector_copied ..))
    · exact h₁
  · split
    · exact h₁
    · have h₂ : Copied s s₂ := h₁.trans (Copied.trans (t := s₁.setRecorder { s₁.recorder with pseqNext := (n + 1) % 2 ^ 32 }) ⟨rfl, rfl, rfl⟩ (rewriteRecord_copied ..))
      clear_value s₂
      exact h₂.trans (writeSector_copied ..)

/-- A copy that the keeper already holds under its PSEQ is written again into its own sector. -/
theorem copyRecord_of_held {r : Record} {s : State} {k : Nat} (hp : r.pseq ≠ 0) (hk : s.fatalSector r.pseq = some k)
    (hw : s.worn k = false) :
    copyRecord r s = writeSector k (sectorOf r.bytes) (s.setRecorder { s.recorder with refreshed := s.us }) := by
  have hk' : (s.setRecorder { s.recorder with refreshed := s.us }).fatalSector r.pseq = some k := hk
  have hw' : (s.setRecorder { s.recorder with refreshed := s.us }).worn k = false := hw
  unfold copyRecord
  rw [if_pos (bne_iff_ne.mpr hp), hk']
  exact if_neg (by simp [hw'])

/-! ### The commands -/

/-- The event of REC_CLEAR (R422). -/
def clearEvent (w : Route) (s : State) : Event :=
  let top := match s.recorder.held.getLast? with
    | some h => h.seq
    | none => 0
  let t := (s.setRecorder { s.recorder with held := [] }).rset .REC_LOST 0 0
  t.synthetic sevNotice 0x4802
    (leBytes 1 (controllerOf w) ++ List.replicate 7 0 ++ leBytes 4 s.recorder.held.length ++ leBytes 4 top)

theorem hRecClear_one (w : Route) (s : State) : (hRecClear w).act 1 s =
    .ok (writeRecord (clearEvent w s) ((s.setRecorder { s.recorder with held := [] }).rset .REC_LOST 0 0)) := rfl


theorem execRecordWrite_of_empty {s : State} (h : s.recorder.intake = []) : exec .recordWrite s = .next s := by
  show Host.Outcome.next (writeNext s) = _
  rw [writeNext, h]

theorem execRecordWrite_of_event {s : State} {e : Event} {rest : List Event} (h : s.recorder.intake = e :: rest) (hl : s.recorder.lost = 0) :
    exec .recordWrite s = .next (writeRecord e (s.setRecorder { s.recorder with intake := rest })) := by
  show Host.Outcome.next (writeNext s) = _
  rw [writeNext, h]
  exact congrArg (fun t => Host.Outcome.next (writeRecord e t)) (if_pos hl)

theorem execPersistCopy_of_waiting {s : State} {r : Record} {rest : List Record} (h : s.recorder.copies = r :: rest) :
    exec .persistCopy s =
      if s.keeper.failed then .next (s.setRecorder { s.recorder with copies := rest })
      else .next (copyRecord ((s.recorder.held.find? (fun p => p.seq == r.seq)).getD r) (s.setRecorder { s.recorder with copies := rest })) := by
  show execPersistCopy s = _
  rw [execPersistCopy, h]
  rfl

theorem execPersistRefresh_of_last {s : State} {r : Record} (h : s.recorder.held.getLast? = some r) :
    exec .persistRefresh s =
      .next (if s.copyBehind r && Nat.ble (s.recorder.refreshed + 1000000) s.us then copyRecord r s else s) := by
  show execPersistRefresh s = _
  rw [execPersistRefresh, h]

/-- Settles O48: a record beyond the recorder moves ALERT alone, and a copy beyond the keeper and source 12 the time of the last copy. -/
theorem recordsAreKept : Obligations.RecordsAreKept := by
  intro w s
  refine ⟨execRecordWrite_of_empty, fun e rest hi hl hf => ?_, fun ha => ?_, fun h => ?_, fun r rest hc => ?_, fun h => ?_,
      fun r hr => ⟨fun hb => ?_, fun hb ht => ?_, fun hb ht k hp hk hw => ?_⟩⟩
  · obtain ⟨l, g, c, i, h, -⟩ := writeRecord_of_free e (s := s.setRecorder { s.recorder with intake := rest }) hf
    refine ⟨_, newRecord e s, execRecordWrite_of_event hi hl, ?_⟩
    rw [h]
    exact ⟨rfl, rfl, rfl, rfl, rfl, rfl, rfl, rfl, rfl⟩
  · obtain ⟨l, g, c, i, h, hleaves⟩ := writeRecord_of_free
      (clearEvent w s) (s := (s.setRecorder { s.recorder with held := [] }).rset .REC_LOST 0 0)
      (Nat.zero_lt_succ _)
    refine ⟨_, newRecord (clearEvent w s) ((s.setRecorder { s.recorder with held := [] }).rset .REC_LOST 0 0),
      write_performed (h := hRecClear w) ha rfl rfl (hRecClear_one ..), ?_⟩
    have hlost := (hleaves.rget .REC_LOST (by decide) 0).trans (State.rget_rset_same ..)
    change (writeRecord (clearEvent w s) _).recorder.held = _ ∧ _ ∧ _ ∧ (writeRecord (clearEvent w s) _).recorder.seqNext = _ ∧
      (writeRecord (clearEvent w s) _).rget _ _ = _ ∧ (writeRecord (clearEvent w s) _).cells = _
    refine ⟨?_, rfl, rfl, ?_, hlost, ?_⟩
    · rw [h]; rfl
    · rw [h]; rfl
    · rw [h]; rfl
  · show execPersistCopy s = _
    rw [execPersistCopy, h]
  · rw [execPersistCopy_of_waiting hc]
    split
    · exact ⟨_, rfl, rfl, fun _ => rfl, rfl, rfl⟩
    · obtain ⟨h1, h2, h3⟩ := copyRecord_copied ((s.recorder.held.find? (fun p => p.seq == r.seq)).getD r) (s.setRecorder { s.recorder with copies := rest })
      exact ⟨_, rfl, h1, fun hf => absurd hf ‹_›, h2, h3⟩
  · show execPersistRefresh s = _
    rw [execPersistRefresh, h]
    rfl
  · rw [execPersistRefresh_of_last hr, hb]
    rfl
  · rw [execPersistRefresh_of_last hr, if_neg (by simp [Nat.ble_eq]; omega)]
  · have hworn : s.worn k = false := by
      rw [State.worn, ← Bool.not_eq_true, Nat.ble_eq]
      omega
    obtain ⟨x, b, i, hi, h⟩ := writeSector_of_fresh (k := k) (sectorOf r.bytes) (s := s.setRecorder { s.recorder with refreshed := s.us }) hw
    refine ⟨_, (execPersistRefresh_of_last hr).trans (congrArg Host.Outcome.next (if_pos (by simp [hb, Nat.ble_eq, ht]))), ?_⟩
    rw [copyRecord_of_held hp hk hworn, h]
    dsimp only
    refine ⟨?_, ?_, ?_, ?_, ?_⟩
    · exact mget_mset_same _ _ _ _
    · intro j hj
      exact mfind_mset_other _ _ _ _ _ hj
    · rfl
    · exact hi
    · rfl

end Sys2Proof.Machine
end

section

/-! # The JTAG port (O49) -/

namespace Sys2Proof.Machine

open Sys2Proof.Safety

/-! ### What a detachment changes -/

/-- The registers of a watchpoint that stops waiting. -/
def stopEls : List El := [.FWP_ENABLE, .CAPTURE_CTRL]

/-- Beyond registers and records a detachment changes the debug port, the core's run and the count of free values alone. -/
structure Detached (s t : State) : Prop where
  frame : ∃ g r d x f, t = { s with regs := g, recorder := r, dbg := d, run := x, fv := f }

namespace Detached

theorem refl (s : State) : Detached s s := ⟨_, _, _, _, _, rfl⟩

theorem trans {s t r : State} (h : Detached s t) (h' : Detached t r) : Detached s r := by
  obtain ⟨_, _, _, _, _, rfl⟩ := h
  obtain ⟨_, _, _, _, _, rfl⟩ := h'
  exact ⟨_, _, _, _, _, rfl⟩

theorem rset (s : State) (e : El) (u v : Nat) : Detached s (s.rset e u v) := ⟨_, _, _, _, _, rfl⟩

theorem setDbg (s : State) (d : DebugPort) : Detached s (s.setDbg d) := ⟨_, _, _, _, _, rfl⟩

theorem setRun (s : State) (x : CoreRun) : Detached s (s.setRun x) := ⟨_, _, _, _, _, rfl⟩

theorem draw (s : State) : Detached s s.draw.2 := ⟨_, _, _, _, _, rfl⟩

theorem raise (s : State) (v c u : Nat) (d : Bytes) : Detached s (s.raise v c u d) := by
  obtain ⟨g, r, h⟩ := raise_frame s v c u d
  exact ⟨g, r, _, _, _, h⟩

theorem ite {c : Prop} [Decidable c] {s t r : State} (ht : Detached s t) (hr : Detached s r) : Detached s (if c then t else r) := by
  split
  · exact ht
  · exact hr

theorem foldl {α : Type} {f : State → α → State} (hf : ∀ t a, Detached t (f t a)) (l : List α) (s : State) : Detached s (l.foldl f s) := by
  induction l generalizing s with
  | nil => exact .refl s
  | cons a l ih => exact (hf s a).trans (ih _)

section
variable {s t : State} (h : Detached s t)
include h

theorem cells : t.cells = s.cells := by obtain ⟨_, _, _, _, _, rfl⟩ := h; rfl
theorem dists : t.dists = s.dists := by obtain ⟨_, _, _, _, _, rfl⟩ := h; rfl
theorem ports : t.ports = s.ports := by obtain ⟨_, _, _, _, _, rfl⟩ := h; rfl
theorem dev : t.dev = s.dev := by obtain ⟨_, _, _, _, _, rfl⟩ := h; rfl

end

end Detached

theorem releaseHalt_detached (s : State) : Detached s (releaseHalt s) := by
  unfold releaseHalt
  extract_lets r d
  exact (Detached.draw s).trans ((Detached.setRun ..).trans (.raise ..))

theorem releaseHalt_run (s : State) : (releaseHalt s).run.running = true ∧ (releaseHalt s).run.halted = false := by
  unfold releaseHalt
  extract_lets r d
  rw [raise_run]
  exact ⟨rfl, rfl⟩

theorem releaseHalt_leaves (s : State) : Leaves [El.REC_LOST] s (releaseHalt s) := by
  unfold releaseHalt
  extract_lets r d
  refine Leaves.raise_of_regs (es := [El.REC_LOST]) (by decide) ?_
  rfl

theorem captureMissed_detached (d : Nat) (s : State) : Detached s (captureMissed d s) := .rset ..

theorem captureMissed_run (d : Nat) (s : State) : (captureMissed d s).run = s.run := State.rset_run ..

theorem captureMissed_leaves (d : Nat) (s : State) : Leaves stopEls s (captureMissed d s) := .rset (by decide) ..

theorem stopWaiting_detached (w : Nat) (s : State) : Detached s (stopWaiting w s) := by
  unfold stopWaiting
  extract_lets s₁ d
  have h : Detached s s₁ := .rset ..
  exact .ite (.ite (h.trans (captureMissed_detached ..)) h) (.refl s)

theorem stopWaiting_run (w : Nat) (s : State) : (stopWaiting w s).run = s.run := by
  unfold stopWaiting
  extract_lets s₁ d
  have h : s₁.run = s.run := rfl
  clear_value s₁
  split
  · split
    · exact (captureMissed_run ..).trans h
    · exact h
  · rfl

theorem stopWaiting_leaves (w : Nat) (s : State) : Leaves stopEls s (stopWaiting w s) := by
  unfold stopWaiting
  extract_lets s₁ d
  have h : Leaves stopEls s s₁ := .rset (by decide) ..
  exact .ite (.ite (h.trans (captureMissed_leaves ..)) h) (.refl s)

theorem disableTrigger_detached (n : Nat) (s : State) : Detached s (disableTrigger n s) := .setDbg ..

/-- A debugger's triggers disabled and CUR cleared. -/
def disarm (s : State) : State := (List.range triggerCount).foldl (fun t n => disableTrigger n t) (s.setDbg { s.dbg with cur := false })

theorem disableTriggers_keeps (l : List Nat) (s : State) : (l.foldl (fun t n => disableTrigger n t) s).regs = s.regs ∧
    (l.foldl (fun t n => disableTrigger n t) s).run = s.run ∧ (l.foldl (fun t n => disableTrigger n t) s).dbg.cur = s.dbg.cur := by
  induction l generalizing s with
  | nil => exact ⟨rfl, rfl, rfl⟩
  | cons n l ih => exact ih (disableTrigger n s)

theorem disarm_keeps (s : State) : (disarm s).regs = s.regs ∧ (disarm s).run = s.run ∧ (disarm s).dbg.cur = false :=
  disableTriggers_keeps (List.range triggerCount) (s.setDbg { s.dbg with cur := false })

theorem disarm_detached (s : State) : Detached s (disarm s) :=
  (Detached.setDbg ..).trans (.foldl (fun t n => disableTrigger_detached n t) _ _)

/-- The core as a detachment leaves it: one that was halted goes on, and so does one that CUR held in reset. -/
def goOn (s : State) : State :=
  if s.run.halted then (releaseHalt s).setRun { (releaseHalt s).run with stepping := false }
  else if s.run.held then (s.setRun { s.run with held := false, running := true }).raise sevInfo 0x3806 0 []
  else s.raise sevInfo 0x3806 0 []

theorem goOn_detached (s : State) : Detached s (goOn s) :=
  .ite ((releaseHalt_detached s).trans (.setRun ..)) (.ite ((Detached.setRun ..).trans (.raise ..)) (.raise ..))

theorem goOn_leaves (s : State) : Leaves [El.REC_LOST] s (goOn s) :=
  .ite ((releaseHalt_leaves s).trans (.of_regs rfl))
    (.ite (.raise_of_regs (es := [El.REC_LOST]) (s := s) (t := s.setRun { s.run with held := false, running := true }) (by decide) rfl)
      (.raise (es := [El.REC_LOST]) (by decide) ..))

theorem goOn_halted (s : State) : (goOn s).run.halted = false := by
  unfold goOn
  split
  · exact (releaseHalt_run s).2
  · rename_i h
    split
    · rw [raise_run]
      exact Bool.eq_false_iff.mpr h
    · rw [raise_run]
      exact Bool.eq_false_iff.mpr h

theorem releaseHalt_dbg (s : State) : (releaseHalt s).dbg = s.dbg := by
  unfold releaseHalt
  extract_lets r d
  exact raise_dbg ..

theorem goOn_dbg (s : State) : (goOn s).dbg = s.dbg := by
  unfold goOn
  split
  · exact releaseHalt_dbg s
  · split
    · exact raise_dbg ..
    · exact raise_dbg ..

theorem detach_of_attached {s : State} (h : s.rflag .DBG_ATTACHED = true) :
    detach s = goOn (disarm (stopWaiting 1 (stopWaiting 0 (s.rset .DBG_ATTACHED 0 0)))) := if_neg (by simp [h])

theorem detach_of_none {s : State} (h : s.rflag .DBG_ATTACHED = false) : detach s = s := if_pos (by simp [h])

theorem detach_detached (s : State) : Detached s (detach s) := by
  cases h : s.rflag .DBG_ATTACHED with
  | false => rw [detach_of_none h]; exact .refl s
  | true =>
    rw [detach_of_attached h]
    exact (Detached.rset ..).trans ((stopWaiting_detached ..).trans ((stopWaiting_detached ..).trans ((disarm_detached ..).trans (goOn_detached ..))))

theorem detach_attached (s : State) : (detach s).rflag .DBG_ATTACHED = false := by
  cases h : s.rflag .DBG_ATTACHED with
  | false => rw [detach_of_none h]; exact h
  | true =>
    rw [detach_of_attached h]
    have h0 : (s.rset .DBG_ATTACHED 0 0).rget .DBG_ATTACHED = 0 := State.rget_rset_same ..
    have hstop : (stopWaiting 1 (stopWaiting 0 (s.rset .DBG_ATTACHED 0 0))).rget .DBG_ATTACHED = 0 :=
      (((stopWaiting_leaves 0 _).trans (stopWaiting_leaves 1 _)).rget .DBG_ATTACHED (by decide) 0).trans h0
    generalize stopWaiting 1 (stopWaiting 0 (s.rset .DBG_ATTACHED 0 0)) = t at hstop ⊢
    have hgo : (goOn (disarm t)).rget .DBG_ATTACHED = 0 :=
      ((goOn_leaves (disarm t)).rget .DBG_ATTACHED (by decide) 0).trans ((Leaves.of_regs (es := []) (disarm_keeps t).1).rget .DBG_ATTACHED (by decide) 0 |>.trans hstop)
    rw [State.rflag, hgo]
    rfl

/-! ### The instructions -/

theorem instruct_on {s : State} (i : JtagInstruction) (h : s.tapOn = true) :
    instruct i s = .next { s with
      pinsTaken := drivesPins (if s.jtagOpen || alwaysAvailable i then i else .bypass)
      dbg := { s.dbg with
        instruction := if s.jtagOpen || alwaysAvailable i then i else .bypass
        idcode := if (if s.jtagOpen || alwaysAvailable i then i else .bypass) = .idcode then some s.idcodeWord else none } } :=
  congrArg Host.Outcome.next (if_neg (by simp [h]))

theorem instruct_off {s : State} (i : JtagInstruction) (h : s.tapOn = false) : instruct i s = .next s :=
  congrArg Host.Outcome.next (if_pos (by simp [h]))

theorem jtagOpen_iff (s : State) : s.jtagOpen = true ↔ s.life = .blank ∨ s.life = .opened ∨ s.life = .returned := by
  simp [State.jtagOpen, or_assoc]

theorem drivesPins_iff (i : JtagInstruction) :
    drivesPins i = true ↔ i ∈ [JtagInstruction.extest, .extestPulse, .extestTrain, .clamp, .highz] := by
  cases i <;> decide

theorem exec_instruction {c : Instr} {j : JtagInstruction}
    (h : (c, j) ∈ [(Instr.extest, JtagInstruction.extest), (.idcode, .idcode), (.samplePreload, .sample), (.extestPulse, .extestPulse),
      (.extestTrain, .extestTrain), (.clamp, .clamp), (.highz, .highz), (.dbgAccess, .dbgAccess), (.bypass, .bypass),
      (.tapLogicReset, .idcode)]) (s : State) : exec c s = instruct j s := by
  simp only [List.mem_cons, Prod.mk.injEq, List.not_mem_nil, or_false] at h
  rcases h with ⟨rfl, rfl⟩ | ⟨rfl, rfl⟩ | ⟨rfl, rfl⟩ | ⟨rfl, rfl⟩ | ⟨rfl, rfl⟩ | ⟨rfl, rfl⟩ | ⟨rfl, rfl⟩ | ⟨rfl, rfl⟩ | ⟨rfl, rfl⟩ | ⟨rfl, rfl⟩
  all_goals rfl

/-- What is in force after an instruction: itself, where JTAG is open or it is always available. -/
theorem inForce (s : State) (j : JtagInstruction) :
    (if s.jtagOpen || alwaysAvailable j then j else .bypass) =
      if s.life = .blank ∨ s.life = .opened ∨ s.life = .returned ∨ j = .idcode then j else .bypass := by
  have ho := jtagOpen_iff s
  cases h : s.jtagOpen with
  | true =>
    rw [if_pos (by simp), if_pos]
    rw [h] at ho
    tauto
  | false =>
    rw [h] at ho
    cases j <;> simp_all [alwaysAvailable]

/-- Settles O49: the ten instructions are one, of which JTAG open or closed says what comes into force. -/
theorem jtagInstructions : Obligations.JtagInstructions := by
  intro s rows
  refine ⟨fun c j hc ht => ?_, fun ht => ?_, fun ht => ⟨congrArg Host.Outcome.next (if_neg (by simp [ht])), fun c j hc => ?_⟩⟩
  · refine ⟨_, (exec_instruction hc s).trans (instruct_on j ht), inForce s j, drivesPins_iff _, fun h => ?_, rfl⟩
    exact if_pos h
  · obtain ⟨hd, ha⟩ := And.intro (detach_detached s) (detach_attached s)
    refine ⟨{ detach s with dbg := DebugPort.reset, pinsTaken := false }, congrArg Host.Outcome.next (if_pos ht), rfl, rfl, ha, hd.cells, hd.dists⟩
  · exact (exec_instruction hc s).trans (instruct_off j ht)

end Sys2Proof.Machine
end

section

/-! # The debugger (O50) -/

namespace Sys2Proof.Machine

open Sys2Proof.Safety

/-! ### Halts -/

theorem takeHalt_detached (c n : Nat) (b : Bool) (s : State) : Detached s (takeHalt c n b s) := by
  obtain ⟨g, r, x, f, h⟩ := takeHalt_frame c n b s
  exact ⟨g, r, _, x, f, h⟩

theorem takeHalt_run (c n : Nat) (b : Bool) (s : State) : (takeHalt c n b s).run.halted = true ∧ (takeHalt c n b s).run.running = false ∧
    (takeHalt c n b s).run.cause = c ∧ (takeHalt c n b s).run.trigger = n ∧ (takeHalt c n b s).run.lockBroken = b := by
  unfold takeHalt
  extract_lets r d
  rw [raise_run]
  exact ⟨rfl, rfl, rfl, rfl, rfl⟩

theorem takeHalt_dbg (c n : Nat) (b : Bool) (s : State) : (takeHalt c n b s).dbg = s.dbg := by
  obtain ⟨g, r, x, f, h⟩ := takeHalt_frame c n b s
  rw [h]

section
variable {s : State} (hr : s.run.running = true)
include hr

theorem requestHalt_now (c n : Nat) : requestHalt c n false s = takeHalt c n false s := (if_neg (by simp [hr])).trans (if_neg (by decide))

theorem requestHalt_locked (c n : Nat) : requestHalt c n true s =
    s.setRun { s.run with deferred := some (s.run.deferred.getD (c, n)), reservation := true, stepping := false } :=
  (if_neg (by simp [hr])).trans (if_pos rfl)

theorem takeDeferred_due {h : Nat × Nat} (hd : s.run.deferred = some h) (b : Bool) : takeDeferred b s = takeHalt h.1 h.2 b s := by
  unfold takeDeferred
  rw [hd]
  exact if_pos hr

theorem hitTrigger_halts {n : Nat} (ha : s.armed n = true) (hq : s.qualified (s.trigger n) = true) (hc : (s.trigger n).chains = false)
    (hh : (s.trigger n).halts = true) :
    hitTrigger n false s =
      takeHalt 2 n false (s.setTrigger n { s.trigger n with hits := Nat.min ((s.trigger n).hits + 1) 0xFFFFFFFF, armed := false }) := by
  unfold hitTrigger
  refine (if_neg (by simp [ha, hq])).trans ((if_neg (by simp [hc])).trans ((if_pos hh).trans ?_))
  exact requestHalt_now (s := s.setTrigger n { s.trigger n with hits := Nat.min ((s.trigger n).hits + 1) 0xFFFFFFFF, armed := false }) hr 2 n

end

theorem takeDeferred_none {s : State} (h : s.run.deferred = none) (b : Bool) : takeDeferred b s = s := by
  rw [takeDeferred, h]

theorem takeDeferred_still {s : State} (h : s.run.running = false) (b : Bool) : takeDeferred b s = s := by
  unfold takeDeferred
  split
  · exact if_neg (by simp [h])
  · rfl

theorem trigger_setTrigger (s : State) (n : Nat) (t : Trigger) : (s.setTrigger n t).trigger n = t := mget_mset_same ..

/-! ### Transactions -/

/-- What a transaction leaves: its result held for Capture-DR. -/
def captured (a : Nat) (r : MapResult) : State := r.state.setDbg { r.state.dbg with status := r.status.code, addr := a % 2 ^ 32, data := r.data }

theorem captured_detached {s : State} {r : MapResult} (a : Nat) (h : Detached s r.state) : Detached s (captured a r) := h.trans (.setDbg ..)

/-- The debugger attached. -/
def attached (s : State) : State := s.rset .DBG_ATTACHED 0 1

theorem attached_detached (s : State) : Detached s (attached s) := .rset ..

theorem attached_run (s : State) : (attached s).run = s.run := rfl

theorem attached_dbg (s : State) : (attached s).dbg = s.dbg := rfl

theorem attached_flag (s : State) : (attached s).rflag .DBG_ATTACHED = true := by
  rw [State.rflag, attached, State.rget_rset_same]
  rfl

theorem captured_flag {r : MapResult} (a : Nat) : (captured a r).rflag .DBG_ATTACHED = r.state.rflag .DBG_ATTACHED := rfl

section
variable {s : State} (ht : s.tapOn = true) (hi : s.dbg.instruction = .dbgAccess) (ho : s.jtagOpen = true)
include ht hi ho

theorem transact_open (f : State → MapResult) (a : Nat) : transact f a s = .next (captured a (f (attached s))) :=
  if_neg (by simp [ht, hi, ho])

theorem execDbgNop_open : exec .dbgNop s = .next (attached s) := congrArg Host.Outcome.next (if_pos (by simp [ht, hi, ho]))

/-- A transaction that meets the one before it RUNNING. -/
theorem shiftIn_overlaps {r : DebugTransaction} (h : r.overlaps = true) (f : State → MapResult) :
    shiftIn r f s = .next (captured s.dbg.addr { status := .dropped, data := s.dbg.data, state := attached s }) :=
  (if_pos h).trans (transact_open ht hi ho ..)

theorem shiftIn_performed {r : DebugTransaction} (h : r.overlaps = false) (hr : r.reserved = false) (f : State → MapResult) :
    shiftIn r f s = .next (captured r.addr (f (attached s))) := by
  refine (if_neg (by simp [h])).trans ((transact_open ht hi ho ..).trans ?_)
  rw [hr]
  rfl

theorem shiftIn_reserved {r : DebugTransaction} (h : r.overlaps = false) (f : State → MapResult) (hr : r.reserved = true ∨ f = mapError) :
    shiftIn r f s = .next (captured r.addr (mapError (attached s))) := by
  refine (if_neg (by simp [h])).trans ((transact_open ht hi ho ..).trans ?_)
  rcases hr with hr | rfl
  · rw [hr]; rfl
  · rw [ite_self]

theorem strobeDctrl_open (b : Nat) (l : Bool) {t : State} (hw : writeDctrl (s.dctrl + 2 ^ b) l (attached s) = some t) :
    strobeDctrl b l s = .next (captured 0 (writeOk t)) := by
  refine (transact_open ht hi ho ..).trans ?_
  have : (attached s).dctrl = s.dctrl := rfl
  rw [this, hw]
  rfl

end

/-! ### DCTRL -/

theorem dctrl_lt (s : State) : s.dctrl < 2 ^ 32 := by
  unfold State.dctrl
  cases s.dbg.step <;> cases s.dbg.cur <;> cases s.dbg.stepNoIrq <;> decide

/-- DCTRL with one of its strobes: the settings as they stand, and that strobe alone. -/
theorem dctrl_bits (s : State) {b : Nat} (hb : b ∈ [0, 1, 4, 5]) :
    bitsOf (s.dctrl + 2 ^ b) 31 7 = 0 ∧ bitOf (s.dctrl + 2 ^ b) 2 = s.dbg.step ∧ bitOf (s.dctrl + 2 ^ b) 3 = s.dbg.cur ∧
      bitOf (s.dctrl + 2 ^ b) 6 = s.dbg.stepNoIrq ∧ ∀ j ∈ [0, 1, 4, 5], bitOf (s.dctrl + 2 ^ b) j = decide (j = b) := by
  unfold State.dctrl
  generalize s.dbg.step = x, s.dbg.cur = y, s.dbg.stepNoIrq = z
  revert x y z b
  decide

/-- What a strobe of DCTRL does. -/
def strobed (b : Nat) (l : Bool) (s : State) : State :=
  if b = 4 then coreReset 3 s else if b = 0 then requestHalt 1 0 l s else if b = 1 then resumeCore s else detach s

theorem writeDctrl_strobe (s : State) (l : Bool) {b : Nat} (hb : b ∈ [0, 1, 4, 5]) : writeDctrl (s.dctrl + 2 ^ b) l s = some (strobed b l s) := by
  obtain ⟨hz, h2, h3, h6, hj⟩ := dctrl_bits s hb
  have h0 := hj 0 (by decide)
  have h1 := hj 1 (by decide)
  have h4 := hj 4 (by decide)
  have h5 := hj 5 (by decide)
  have hs : s.setDbg { s.dbg with step := s.dbg.step, cur := s.dbg.cur, stepNoIrq := s.dbg.stepNoIrq } = s := rfl
  unfold writeDctrl
  rw [if_neg (by simp [hz]), h0, h1, h2, h3, h4, h5, h6, hs]
  simp only [List.mem_cons, List.not_mem_nil, or_false] at hb
  rcases hb with rfl | rfl | rfl | rfl
  all_goals simp [strobed]

/-! ### The spaces -/

theorem debugRead_dctrl {r : DebugTransaction} (hs : r.space = 0) (ha : r.addr = 0) (s : State) : debugRead r s = readOk s.dctrl s := by
  simp only [debugRead, hs, ha, if_true]
  rfl

theorem debugRead_tcm {r : DebugTransaction} {v : Nat} {s : State} (hs : r.space = 1) (ht : isTcm (r.addr / 4 * 4) = true) (ha : r.addr < 2 ^ 32)
    (hr : s.run.running = false) (hv : mfind s.run.tcm (r.addr / 4 * 4) = some v) : debugRead r s = readOk v s := by
  unfold debugRead
  extract_lets a
  have h : a = r.addr := Nat.mod_eq_of_lt ha
  rw [if_neg (by omega), if_pos hs, h]
  unfold tcmRead
  extract_lets b
  rw [if_neg (by simp [b, ht]), if_neg (by simp [hr]), hv]
  rfl

theorem debugWrite_csrSel {r : DebugTransaction} (hs : r.space = 0) (ha : r.addr = 0x018) (hd : r.data < 4096) (s : State) :
    debugWrite r s = writeOk (s.setDbg { s.dbg with csrSel := r.data }) := by
  have h : r.data % 2 ^ 32 = r.data := Nat.mod_eq_of_lt (by omega)
  have hc : coreWrite 0x018 r.data r.locked s = some (s.setDbg { s.dbg with csrSel := r.data }) := if_pos (Nat.blt_eq.mpr hd)
  unfold debugWrite
  rw [if_pos hs, ha, h]
  exact congrArg (fun t => orError t s) hc

theorem coreWrite_taddr {n v : Nat} {s : State} (hn : n < 8) (he : (s.trigger n).enabled = false) :
    coreWrite (triggerOffset n .taddr) v false s = some (s.setTrigger n { s.trigger n with addr := v }) := by
  have ho : triggerOffset n .taddr = 256 + 16 * n := rfl
  have hin : (Nat.ble 0x100 (256 + 16 * n) && Nat.blt (256 + 16 * n) (0x100 + 16 * triggerCount) && (256 + 16 * n) % 4 == 0) = true := by
    simp only [triggerCount, Bool.and_eq_true, Nat.ble_eq, Nat.blt_eq, beq_iff_eq]
    omega
  have hq : (256 + 16 * n - 256) / 16 = n := by omega
  have hk : (256 + 16 * n) % 16 / 4 = 0 := by omega
  have hb : (Nat.ble 12 n || (s.trigger n).enabled) = false := by
    rw [he, Bool.or_false, ← Bool.not_eq_true, Nat.ble_eq]
    omega
  unfold coreWrite
  rw [ho, if_neg (by omega), if_neg (by omega), if_neg (by omega), if_neg (by omega), if_neg (by omega), if_neg (by omega), if_neg (by omega),
    if_pos hin, hq, hk]
  unfold triggerWrite
  extract_lets x
  rw [if_neg (by decide), if_neg (by decide), if_neg (by simp [x, hb])]
  rfl

/-! ### The rows -/

section
variable {s : State} (hr : s.run.running = true)
include hr

theorem execEbreak_of_attached (h : s.rflag .DBG_ATTACHED = true) : exec (.ebreak false) s = .next (takeHalt 4 0 false s) :=
  congrArg Host.Outcome.next ((if_neg (by simp [hr])).trans ((if_pos h).trans (requestHalt_now hr ..)))

theorem execEbreak_of_none (h : s.rflag .DBG_ATTACHED = false) (l : Bool) : exec (.ebreak l) s = .next (breakpointTrap s) :=
  congrArg Host.Outcome.next ((if_neg (by simp [hr])).trans (if_neg (by simp [h])))

theorem execStepHalt_of_step (h : s.run.stepping = true) : exec (.stepHalt false) s = .next (takeHalt 3 0 false s) :=
  congrArg Host.Outcome.next ((if_pos h).trans (requestHalt_now hr ..))

theorem execLockBrokenTimeout_due {h : Nat × Nat} (hd : s.run.deferred = some h) :
    exec .lockBrokenTimeout s = .next ((takeHalt h.1 h.2 true s).raise sevWarning 0x5803 0 []) :=
  congrArg Host.Outcome.next ((if_pos (by simp [hd, hr])).trans (congrArg (fun t => t.raise sevWarning 0x5803 0 []) (takeDeferred_due hr hd true)))

end

theorem execLockBrokenTimeout_still {s : State} (h : s.run.running = false) : exec .lockBrokenTimeout s = .next s :=
  congrArg Host.Outcome.next (if_neg (by simp [h]))

theorem execEbreak_still {s : State} (h : s.run.running = false) (l : Bool) : exec (.ebreak l) s = .next s :=
  congrArg Host.Outcome.next (if_pos (by simp [h]))

/-- A core that halted at an address that it was about to execute (log entry 219). -/
def haltedAt (a : Nat) (s u : State) : CoreRun :=
  { u.run with dpc := some a, fresh := s.run.fresh && s.run.dpc == some a, tcm := if s.run.fresh && s.run.dpc == some a then s.run.tcm else u.run.tcm }

theorem execCodeBreakpointHit_halts {s : State} {n : Nat} (hr : s.run.running = true) (hn : n < 8) {u : State} (hu : hitTrigger n false s = u)
    (hh : u.run.halted = true) : exec (.codeBreakpointHit n false) s = .next (u.setRun (haltedAt (s.trigger n).addr s u)) := by
  have h : exec (.codeBreakpointHit n false) s = execCodeBreakpointHit n false s := rfl
  rw [h, execCodeBreakpointHit, if_neg (by simp [hr, hn]), hu]
  exact congrArg Host.Outcome.next (if_pos hh)

theorem execDataWatchpointHit_store {s : State} {n : Nat} (hr : s.run.running = true) (h8 : 8 ≤ n) (h12 : n < 12)
    (ha : bitOf (s.trigger n).access 1 = true) : exec (.dataWatchpointHit n true false) s = .next (hitTrigger n false s) :=
  if_neg (by simp [hr, h12, ha, h8])

theorem Detached.keeps {s t : State} (h : Detached s t) : t.cells = s.cells ∧ t.dists = s.dists ∧ t.ports = s.ports ∧ t.dev = s.dev :=
  ⟨h.cells, h.dists, h.ports, h.dev⟩

section
variable {s : State} (ht : s.tapOn = true) (hi : s.dbg.instruction = .dbgAccess) (ho : s.jtagOpen = true)
include ht hi ho

theorem strobe_open {b : Nat} (hb : b ∈ [0, 1, 4, 5]) (l : Bool) : strobeDctrl b l s = .next (captured 0 (writeOk (strobed b l (attached s)))) :=
  strobeDctrl_open ht hi ho b l (writeDctrl_strobe (attached s) l hb)

theorem exec_taddr_open {n v : Nat} (hn : n < 8) (hv : v < 2 ^ 32) (he : (s.trigger n).enabled = false) :
    exec (.triggerConfigWrite n .taddr v) s =
      .next (captured (triggerOffset n .taddr) (writeOk ((attached s).setTrigger n { s.trigger n with addr := v }))) := by
  refine (transact_open ht hi ho (fun u => orError (coreWrite (triggerOffset n .taddr) (v % 2 ^ 32) false u) u) _).trans ?_
  rw [Nat.mod_eq_of_lt hv, coreWrite_taddr (s := attached s) hn he]
  rfl

end

/-- A trigger hit, and counted. -/
def counted (n : Nat) (s : State) : State := s.setTrigger n { s.trigger n with hits := Nat.min ((s.trigger n).hits + 1) 0xFFFFFFFF, armed := false }

theorem halted_trigger (n : Nat) (s : State) :
    ((takeHalt 2 n false (counted n s)).trigger n).hits = Nat.min ((s.trigger n).hits + 1) 0xFFFFFFFF := by
  have h : (takeHalt 2 n false (counted n s)).trigger n = (counted n s).trigger n := by
    rw [State.trigger, takeHalt_dbg, State.trigger]
  rw [h, counted, trigger_setTrigger]

theorem halted_detached (n : Nat) (s : State) : Detached s (takeHalt 2 n false (counted n s)) :=
  (Detached.setDbg ..).trans (takeHalt_detached ..)

/-- Settles O50: every transaction is captured, and the strobes of DCTRL, the triggers and EBREAK are halts, resumes and detachments. -/
theorem debuggerTransactions : Obligations.DebuggerTransactions := by
  intro n r s same
  have hsame {t : State} (h : Detached s t) : same t := h.keeps
  have hcap {m : MapResult} (a : Nat) (h : Detached (attached s) m.state) : same (captured a m) :=
    hsame (captured_detached a ((attached_detached s).trans h))
  refine ⟨fun ht hi ho => ⟨execDbgNop_open ht hi ho, fun hv i hm => ?_, fun hv hres i hm => ?_, fun hv hres hsp ha => ?_, fun v hv hres hsp hl ha hn hf => ?_,
    fun hv hres hsp ha hd => ?_, fun hv => ?_, fun hr => ?_, fun hr hd => ?_, fun hh hn => ?_, fun b => ?_, ?_, ?_, fun v hn hv he => ?_⟩,
        fun hr => ⟨fun hst => ?_, fun ha => ?_, fun h hd => ⟨?_, ?_⟩, fun ha hq hc hh => ⟨fun hn => ?_, fun h8 h12 hb => ?_⟩⟩,
        fun hr ha hd l => ?_, fun hr l => ?_⟩
  · refine ⟨captured s.dbg.addr { status := .dropped, data := s.dbg.data, state := attached s }, ?_, rfl, rfl, rfl, attached_run s, hcap _ (.refl _)⟩
    simp only [List.mem_cons, List.not_mem_nil, or_false] at hm
    rcases hm with rfl | rfl | rfl
    all_goals exact shiftIn_overlaps ht hi ho hv _
  · refine ⟨captured r.addr (mapError (attached s)), ?_, rfl, rfl, attached_run s, hcap _ (.refl _)⟩
    simp only [List.mem_cons, List.not_mem_nil, or_false] at hm
    rcases hm with rfl | rfl | rfl
    all_goals exact shiftIn_reserved ht hi ho hv _ (.inl hres)
  · refine ⟨_, (shiftIn_performed ht hi ho hv hres _).trans (congrArg (fun m => Host.Outcome.next (captured r.addr m)) (debugRead_dctrl hsp ha _)), rfl, ?_, ?_, hcap _ (.refl _)⟩
    · exact Nat.mod_eq_of_lt (dctrl_lt s)
    · exact attached_flag s
  · exact ⟨_, (shiftIn_performed ht hi ho hv hres _).trans (congrArg (fun m => Host.Outcome.next (captured r.addr m)) (debugRead_tcm hsp hl ha hn hf)),
      rfl, rfl, attached_run s, hcap _ (.refl _)⟩
  · exact ⟨_, (shiftIn_performed ht hi ho hv hres _).trans (congrArg (fun m => Host.Outcome.next (captured r.addr m)) (debugWrite_csrSel hsp ha hd _)),
      rfl, rfl, hcap _ (.setDbg ..)⟩
  · exact ⟨_, shiftIn_reserved ht hi ho hv _ (.inr rfl), rfl, attached_flag s, attached_run s, hcap _ (.refl _)⟩
  · have h := requestHalt_now (s := attached s) hr 1 0
    obtain ⟨h1, h2, h3, -⟩ := takeHalt_run 1 0 false (attached s)
    refine ⟨_, (strobe_open ht hi ho (b := 0) (by decide) false).trans (congrArg (fun m => Host.Outcome.next (captured 0 (writeOk m))) h),
        h1, h2, h3, hcap _ (takeHalt_detached ..)⟩
  · have h := requestHalt_locked (s := attached s) hr 1 0
    refine ⟨_, (strobe_open ht hi ho (b := 0) (by decide) true).trans (congrArg (fun m => Host.Outcome.next (captured 0 (writeOk m))) h), ?_, hr, hcap _ (.setRun ..)⟩
    show some (s.run.deferred.getD (1, 0)) = _
    rw [hd]
    rfl
  · have h : resumeCore (attached s) = releaseHalt (attached s) := (if_neg (by rw [attached_run, hn]; decide)).trans (if_pos hh)
    obtain ⟨h1, h2⟩ := releaseHalt_run (attached s)
    exact ⟨_, (strobe_open ht hi ho (b := 1) (by decide) false).trans (congrArg (fun m => Host.Outcome.next (captured 0 (writeOk m))) h), h1, h2, hcap _ (releaseHalt_detached _)⟩
  · refine ⟨captured 0 (writeOk ((attached s).setDbg { (attached s).dbg with cur := b })), ?_, rfl, attached_run s, hcap _ (.setDbg ..)⟩
    exact transact_open ht hi ho (fun u => writeOk (u.setDbg { u.dbg with cur := b })) 0
  · obtain ⟨⟨g, q, x, m, c, k, f, h⟩, -⟩ := coreReset_spec 3 (attached s)
    have hc := coreReset_cause 3 (attached s)
    have hs : strobed 4 false (attached s) = coreReset 3 (attached s) := if_pos rfl
    have hrun : (coreReset 3 (attached s)).run.entered = false := by rw [h]; rfl
    have hk : (coreReset 3 (attached s)).cells = s.cells ∧ (coreReset 3 (attached s)).dists = s.dists ∧
        (coreReset 3 (attached s)).ports = s.ports ∧ (coreReset 3 (attached s)).dev = s.dev := by rw [h]; exact ⟨rfl, rfl, rfl, rfl⟩
    have hx := strobe_open ht hi ho (b := 4) (by decide) false
    rw [hs] at hx
    clear hs h
    generalize coreReset 3 (attached s) = u at hc hrun hk hx
    exact ⟨captured 0 (writeOk u), hx, hc, hrun, hk⟩
  · have ha := detach_attached (attached s)
    have hs : strobed 5 false (attached s) = detach (attached s) := rfl
    have hd := detach_of_attached (attached_flag s)
    refine ⟨_, (strobe_open ht hi ho (b := 5) (by decide) false).trans (congrArg (fun m => Host.Outcome.next (captured 0 (writeOk m))) hs), ha, ?_, ?_, hcap _ (detach_detached _)⟩
    · show (detach (attached s)).dbg.cur = false
      rw [hd, goOn_dbg]
      exact (disarm_keeps _).2.2
    · show (detach (attached s)).run.halted = false
      rw [hd]
      exact goOn_halted _
  · exact ⟨_, exec_taddr_open ht hi ho hn hv he, trigger_setTrigger .., rfl, hcap _ (.setDbg ..)⟩
  · obtain ⟨h1, -, h3, -⟩ := takeHalt_run 3 0 false s
    exact ⟨_, execStepHalt_of_step hr hst, h1, h3, hsame (takeHalt_detached ..)⟩
  · obtain ⟨h1, -, h3, -⟩ := takeHalt_run 4 0 false s
    exact ⟨_, execEbreak_of_attached hr ha, h1, h3, hsame (takeHalt_detached ..)⟩
  · obtain ⟨h1, -, h3, -, h5⟩ := takeHalt_run h.1 h.2 false s
    exact ⟨_, congrArg Host.Outcome.next (takeDeferred_due hr hd false), h1, h3, h5, hsame (takeHalt_detached ..)⟩
  · obtain ⟨h1, -, h3, -, h5⟩ := takeHalt_run h.1 h.2 true s
    refine ⟨_, execLockBrokenTimeout_due hr hd, ?_, ?_, ?_, hsame ((takeHalt_detached ..).trans (.raise ..))⟩
    · rw [raise_run, h1]
    · rw [raise_run, h3]
    · rw [raise_run, h5]
  · obtain ⟨h1, -, h3, h4, -⟩ := takeHalt_run 2 n false (counted n s)
    exact ⟨_, execCodeBreakpointHit_halts hr hn (hitTrigger_halts hr ha hq hc hh) h1, h1, h3, h4, rfl, halted_trigger n s,
      hsame ((halted_detached n s).trans (.setRun ..))⟩
  · obtain ⟨h1, -, h3, h4, -⟩ := takeHalt_run 2 n false (counted n s)
    exact ⟨_, (execDataWatchpointHit_store hr h8 h12 hb).trans (congrArg Host.Outcome.next (hitTrigger_halts hr ha hq hc hh)), h1, h3, h4,
      halted_trigger n s, hsame (halted_detached n s)⟩
  · have hx : breakpointTrap s = s.draw.2.setRun { s.run with trap := some (3, (Config.breakpointValue s.draw.1).toNat) } :=
      takeDeferred_none (s := s.draw.2.setRun { s.run with trap := some (3, (Config.breakpointValue s.draw.1).toNat) }) hd false
    exact ⟨_, _, (execEbreak_of_none hr ha l).trans (congrArg Host.Outcome.next hx), rfl, rfl, rfl, rfl, rfl, rfl⟩
  · exact ⟨execEbreak_still hr l, congrArg Host.Outcome.next (takeDeferred_still hr false), execLockBrokenTimeout_still hr⟩

end Sys2Proof.Machine
end

section

/-! # The device's own state, its lifecycle and its keeper through wipes and handovers -/

namespace Sys2Proof.Machine

open Sys2Proof.Safety

/-- The lifecycle, what is held for its change, the keeper, the device state, the queue of commands, the fabric's clock and the load
stand as before. -/
structure Civil (s t : State) : Prop where
  life : t.life = s.life
  lc : t.lc = s.lc
  keeper : t.keeper = s.keeper
  dev : t.dev = s.dev
  pending : t.pending = s.pending
  fabricOn : t.fabricOn = s.fabricOn
  load : t.load = s.load

namespace Civil

theorem refl (s : State) : Civil s s := ⟨rfl, rfl, rfl, rfl, rfl, rfl, rfl⟩

theorem trans {s t r : State} (h : Civil s t) (h' : Civil t r) : Civil s r :=
  ⟨h'.life.trans h.life, h'.lc.trans h.lc, h'.keeper.trans h.keeper, h'.dev.trans h.dev, h'.pending.trans h.pending,
    h'.fabricOn.trans h.fabricOn, h'.load.trans h.load⟩

theorem rset (s : State) (e : El) (u v : Nat) : Civil s (s.rset e u v) := ⟨rfl, rfl, rfl, rfl, rfl, rfl, rfl⟩

theorem raise (s : State) (v c u : Nat) (d : Bytes) : Civil s (s.raise v c u d) := 
  ⟨raise_life .., raise_lc .., raise_keeper .., raise_dev .., raise_pending .., raise_fabricOn .., raise_load ..⟩

theorem ite {c : Prop} [Decidable c] {s t r : State} (ht : Civil s t) (hr : Civil s r) : Civil s (if c then t else r) := by
  split
  · exact ht
  · exact hr

theorem foldl {α : Type} {f : State → α → State} (hf : ∀ t a, Civil t (f t a)) (l : List α) (s : State) : Civil s (l.foldl f s) := by
  induction l generalizing s with
  | nil => exact .refl s
  | cons a l ih => exact (hf s a).trans (ih _)

end Civil

/-! ### The end of a test -/

theorem clockReads_civil (ops : List MarchOp) (fails : List BistRead) (s : State) : Civil s (clockReads ops fails s) := by
  unfold clockReads
  extract_lets ones b s₁ s₂
  have h : Civil s s₂ := Civil.trans (t := s₁) (.rset ..) ⟨rfl, rfl, rfl, rfl, rfl, rfl, rfl⟩
  split
  · exact h
  · exact h.trans (Civil.trans (t := if b.mismatch then s₂ else s₂.rset .BIST_FAIL_ADDR 0 _) (.ite (.refl _) (.rset ..)) ⟨rfl, rfl, rfl, rfl, rfl, rfl, rfl⟩)

theorem cutShort_civil (s : State) : Civil s (cutShort s).2 := Civil.trans (t := s.draw.2) ⟨rfl, rfl, rfl, rfl, rfl, rfl, rfl⟩ (clockReads_civil ..)

theorem closeTest_civil (s : State) : Civil s (closeTest s) := by
  unfold closeTest
  extract_lets b ok result s₁ s₂ items s₃
  have h : Civil s s₃ := ⟨rfl, rfl, rfl, rfl, rfl, rfl, rfl⟩
  split
  · exact h.trans (.raise ..)
  · exact .ite (h.trans (.raise ..)) (h.trans (.raise ..))

theorem startMove_civil (q b i : Nat) (back : Bool) (s : State) : Civil s (startMove q b i back s) := ⟨rfl, rfl, rfl, rfl, rfl, rfl, rfl⟩

theorem substitute_civil {q b : Nat} {s t : State} (h : s.substitute q b = some t) : Civil s t := by
  unfold State.substitute at h
  split at h
  · split at h
    · cases h
    · cases h
      exact startMove_civil ..
  · cases h

theorem endTest_civil (s : State) : Civil s (endTest s) := by
  unfold endTest
  extract_lets n b kind s₁ _ s₂ s₃ s₄
  have h₂ : Civil s s₂ := (closeTest_civil s).trans ⟨rfl, rfl, rfl, rfl, rfl, rfl, rfl⟩
  have h₃ : Civil s s₃ := h₂.trans (.ite (.rset ..) (.refl _))
  have h₄ : Civil s s₄ := by
    refine h₃.trans (.ite ?_ (.refl _))
    split
    · next t ht => exact substitute_civil ht
    · exact .raise ..
  exact .ite (h₄.trans (.raise ..)) h₄

theorem endOffline_civil (s : State) : Civil s (endOffline s) := by
  unfold endOffline
  extract_lets n s₁ s₂
  have h₂ : Civil s s₂ := by
    unfold s₂
    split
    · exact ⟨rfl, rfl, rfl, rfl, rfl, rfl, rfl⟩
    · exact ⟨rfl, rfl, rfl, rfl, rfl, rfl, rfl⟩
    · exact ⟨rfl, rfl, rfl, rfl, rfl, rfl, rfl⟩
  exact h₂.trans (endTest_civil _)

theorem clearSlice_civil (place : Nat) (s : State) : Civil s (clearSlice place s) := by
  obtain ⟨c, h⟩ := clearSlice_frame place s
  rw [h]
  exact ⟨rfl, rfl, rfl, rfl, rfl, rfl, rfl⟩

theorem stopTest_civil (s : State) : Civil s (stopTest s) := by
  unfold stopTest
  extract_lets n _ s₁ s₂ s₃
  have h₂ : Civil s s₂ := Civil.trans (t := s₁) ⟨rfl, rfl, rfl, rfl, rfl, rfl, rfl⟩ (.ite (cutShort_civil _) (.refl _))
  have h₃ : Civil s s₃ := by
    refine h₂.trans ?_
    unfold s₃
    split
    · exact clearSlice_civil ..
    · exact .refl _
  exact .ite (.ite (h₃.trans (endOffline_civil _)) (h₃.trans ((Civil.rset ..).trans (endTest_civil _)))) (.refl s)

/-! ### Wipes and handovers -/

theorem blankBank_civil (n : Nat) (z : Bool) (s : State) : Civil s (blankBank n z s) := by
  obtain ⟨c, b, y, h⟩ := blankBank_frame n z s
  rw [h]
  exact ⟨rfl, rfl, rfl, rfl, rfl, rfl, rfl⟩

theorem denied_civil (n : Nat) (r : Requester) (s : State) : Civil s (denied n r s) := by
  obtain ⟨g, x, k, h⟩ := raiseLimited_frame (s.rinc .DENIED n) 1000 (0x0501 * 2 ^ 16 + n) sevWarning 0x0501 n (leBytes 2 n ++ leBytes 1 (ownerOf r))
  rw [denied, h]
  exact ⟨rfl, rfl, rfl, rfl, rfl, rfl, rfl⟩

theorem answerRequest_civil (n : Nat) (w : Waiting) (a : Answer) (s : State) : Civil s (answerRequest n w a s) := by
  obtain ⟨g, r, x, f, h⟩ := faultOfCore_frame n w a
    (if w.req.cls = 0 then answerFixed (laneKey n w.src) w.order a s else answerLane (laneKey n w.src) w.order a s)
  rw [answerRequest, h]
  have h' : Civil s (if w.req.cls = 0 then answerFixed (laneKey n w.src) w.order a s else answerLane (laneKey n w.src) w.order a s) :=
    .ite ⟨rfl, rfl, rfl, rfl, rfl, rfl, rfl⟩ ⟨rfl, rfl, rfl, rfl, rfl, rfl, rfl⟩
  exact ⟨h'.life, h'.lc, h'.keeper, h'.dev, h'.pending, h'.fabricOn, h'.load⟩

theorem startHandover_civil (n v : Nat) (s : State) : Civil s (startHandover n v s) := by
  unfold startHandover
  extract_lets s₁ old b goes refusedOnes _ s₂ s₃
  have h₃ : Civil s s₃ := Civil.trans (t := s₂) ⟨rfl, rfl, rfl, rfl, rfl, rfl, rfl⟩ (.foldl (fun t w => (answerRequest_civil ..).trans (denied_civil ..)) _ _)
  clear_value s₃
  exact h₃.trans ((Civil.rset ..).trans (.rset ..))

theorem startWipe_civil (cause : Nat) (s : State) : Civil s (startWipe cause s) := by
  unfold startWipe
  extract_lets s₁ s₂ _
  have h₂ : Civil s s₂ := (stopTest_civil s).trans (.ite (.refl _) (.foldl (fun t n => blankBank_civil ..) _ _))
  clear_value s₂
  exact .ite (h₂.trans ⟨rfl, rfl, rfl, rfl, rfl, rfl, rfl⟩) (.refl s)

theorem finishWipe_civil (s : State) : Civil s (finishWipe s) := by
  unfold finishWipe
  extract_lets cause s₁ on s₂ s₃
  have h₁ : Civil s s₁ := .foldl (fun t n => blankBank_civil ..) _ _
  clear_value s₁
  have h₂ : Civil s s₂ := h₁.trans ((Civil.rset ..).trans (Civil.trans (t := (s₁.rset .VAULT_STATE 0 (if on then 1 else 0)).rinc .WIPE_COUNT)
    (.rset ..) (.rset ..)))
  clear_value s₂
  have h₃ : Civil s s₃ := h₂.trans (.ite (.refl _) (.foldl (fun t n => startHandover_civil ..) _ _))
  exact .ite (h₃.trans (.raise ..)) (.refl s)

end Sys2Proof.Machine
end

section

/-! # The lifecycle, keys and tamper (O51) -/

namespace Sys2Proof.Machine

open Sys2Proof.Safety

/-! ### The record of the lifecycle -/

theorem writeCounter_onlyKeeper {k len v : Nat} {s t : State} (h : writeCounter k len v s = .ok t) : OnlyKeeper s t ∧ Leaves keeperEls s t := by
  unfold writeCounter at h
  extract_lets a ga gb home sec gen u at h
  have hu : OnlyKeeper s u := writeSector_onlyKeeper ..
  have hl : Leaves keeperEls s u := writeSector_leaves ..
  clear_value u
  split at h
  · cases h
  split at h
  · cases h
  split at h
  · cases h
  cases h
  exact ⟨.ite (hu.trans (relocate_onlyKeeper ..)) hu, .ite (hl.trans (relocate_leaves ..)) hl⟩

/-- A sound keeper takes the lifecycle's record. -/
theorem writeLifecycle_of_sound {code pending : Nat} {s : State} (hd : s.keeper.dead = []) (hf : s.keeper.failed = false)
    (hw : ∀ n, s.worn n = false) : ∃ t, writeLifecycle code pending s = .ok t ∧ OnlyKeeper s t :=
  have ⟨t, ht⟩ := writeCounter_of_sound (by rw [hd]; rfl) hf hw
  ⟨t, ht, (writeCounter_onlyKeeper ht).1⟩

theorem bumpCounter_leaves (k : Nat) (e : El) (s : State) : Leaves (e :: keeperEls) s (bumpCounter k e s) := by
  unfold bumpCounter
  extract_lets v
  split
  · next t h => exact ((writeCounter_onlyKeeper h).2.mono (by simp)).trans (.rset (by simp) ..)
  · exact .ite (.rset (by simp) ..) (.refl s)

/-! ### Requests for a change -/

section
variable {w : Route} {v : Nat} {s : State}

theorem execLcChallengeRead_of_idle (hh : heard s w = true) (hi : s.ctl.waiting = []) : exec (.lcChallengeRead w) s =
    .next (answerTo w 0 (leBytes 32 (Config.challenge s.fv).toNat) { s with fv := s.fv + 1, lc := { s.lc with challenge := some s.fv } }) :=
  (if_pos hh).trans (congrArg Host.Outcome.next (inTurn_of_idle hi))

theorem fit_of_accepts {e : El} {u : Nat} (ha : accepts w e u v s = true) : fit e v = some v := by
  simp only [accepts, Bool.and_eq_true, Nat.blt_eq] at ha
  obtain ⟨⟨⟨⟨-, hm⟩, -⟩, -⟩, -⟩ := ha
  exact if_pos hm

/-- A write of bytes of a good length is judged as a write of 0. -/
theorem requestBytes_of_accepts {e : El} {u : Nat} (ha : accepts w e u 0 s = true) {bs : Bytes} {ok : Bool} (hk : ok = true)
    (hl : bs.length ≤ e.info.size) (h : Handler) :
    requestBytes w e u bs ok h s = answerTo w (judged w e u (fit e 0) h s).1 [] (judged w e u (fit e 0) h s).2 := by
  have hc : (ok && Nat.ble bs.length e.info.size) = true := by simp [hk, Nat.ble_eq, hl]
  refine (if_pos (heard_of_accepts ha)).trans ((inTurn_of_idle (idle_of_accepts ha)).trans ?_)
  dsimp only
  rw [hc, fit_of_accepts ha]
  rfl

theorem execLcTokenWrite_of_accepts (ha : accepts w .LC_TOKEN 0 0 s = true) {bs : Bytes} (hl : bs.length ≤ El.LC_TOKEN.info.size) :
    exec (.lcTokenWrite w bs) s = performed w { s with lc := { s.lc with token := some bs } } := by
  have hj : judged w .LC_TOKEN 0 (fit .LC_TOKEN 0) (hLcToken bs) s = (0, { s with lc := { s.lc with token := some bs } }) := by
    rw [judged, judge_of_accepts (h := hLcToken bs) ha rfl rfl]
    rfl
  refine (congrArg Host.Outcome.next (requestBytes_of_accepts ha rfl hl (hLcToken bs))).trans ?_
  rw [hj]
  rfl

theorem hLcRequest_range {c : LifecycleChange} (hc : changeOf s.life v = some c) : (hLcRequest w).range v s = true := by
  show (changeOf s.life v).isSome = true
  rw [hc]
  rfl

/-- LC_REQUEST, judged. -/
theorem execLcRequest_of_accepts (ha : accepts w .LC_REQUEST 0 v s = true) {x : Nat × State}
    (hx : judged w .LC_REQUEST 0 (fit .LC_REQUEST v) (hLcRequest w) s = x) :
    exec (.lcRequest w v) s = .next (answerTo w x.1 [] (consumeToken w v s x.2)) := by
  refine congrArg Host.Outcome.next ((if_pos (heard_of_accepts ha)).trans ((inTurn_of_idle (idle_of_accepts ha)).trans ?_))
  dsimp only
  rw [hx]

section
variable {c : LifecycleChange} (hc : changeOf s.life v = some c) (hf : s.keeper.failed = false) (hn : s.lc.change = none)
  (hk : c.needsKey = true → ∃ k, k < 4 ∧ s.signingKey k ≠ none)
include hc hf hn hk

/-- A change that nothing but the token can stop. -/
theorem hLcRequest_act : (hLcRequest w).act v s =
    if c.needsToken && !s.tokenPasses v then .error 9
    else match writeLifecycle s.life.code v s with
      | .error e => .error e
      | .ok t => .ok (startWipe 3 { t with lc := { t.lc with change := some (v, controllerOf w) } }) := by
  have hkeys : (c.needsKey && (List.range 4).all (fun k => (s.signingKey k).isNone)) = false := by
    rw [Bool.and_eq_false_iff, ← Bool.not_eq_true, Classical.or_iff_not_imp_left]
    intro h
    obtain ⟨k, hk4, hne⟩ := hk (not_not.mp h)
    rw [List.all_eq_false]
    exact ⟨k, List.mem_range.mpr hk4, by simpa using hne⟩
  unfold hLcRequest
  dsimp only
  rw [hc]
  exact if_neg (by simp [hf, hn, hkeys])

theorem execLcRequest_of_noToken (ha : accepts w .LC_REQUEST 0 v s = true) (ht : c.needsToken = true) (hp : s.tokenPasses v = false) :
    exec (.lcRequest w v) s = .next (answerTo w 9 [] (consumeToken w v s s)) := by
  have hj : judged w .LC_REQUEST 0 (fit .LC_REQUEST v) (hLcRequest w) s = (9, s) := by
    refine judged_of_plain ((judge_of_accepts (h := hLcRequest w) ha rfl (hLcRequest_range hc)).trans ?_) (by decide)
    rw [hLcRequest_act hc hf hn hk, if_pos (by simp [ht, hp])]
  exact execLcRequest_of_accepts ha hj

theorem execLcRequest_of_permitted (ha : accepts w .LC_REQUEST 0 v s = true) (hp : c.needsToken = true → s.tokenPasses v = true) {t : State}
    (hw : writeLifecycle s.life.code v s = .ok t) : exec (.lcRequest w v) s =
      .next (answerTo w 0 [] (consumeToken w v s (startWipe 3 { t with lc := { t.lc with change := some (v, controllerOf w) } }))) := by
  have hj : judged w .LC_REQUEST 0 (fit .LC_REQUEST v) (hLcRequest w) s =
      (0, startWipe 3 { t with lc := { t.lc with change := some (v, controllerOf w) } }) := by
    rw [judged, judge_of_accepts (h := hLcRequest w) ha rfl (hLcRequest_range hc), hLcRequest_act hc hf hn hk, if_neg, hw]
    cases hb : c.needsToken with
    | false => simp
    | true => simp [hp hb]
  exact execLcRequest_of_accepts ha hj

end

end

/-- What an LC_REQUEST uses up, for a controller that is heard. -/
theorem consumeToken_of_heard {w : Route} {v : Nat} {s : State} (h : heard s w = true) (t : State) : consumeToken w v s t =
    { t with lc := { t.lc with token := none, challenge := if v = 3 || v = 4 then none else t.lc.challenge } } := if_pos h

/-! ### The change -/

theorem lifecycleOf_of_change {l : Lifecycle} {v : Nat} {c : LifecycleChange} (h : changeOf l v = some c) : ∃ x, lifecycleOf v = some x := by
  unfold changeOf at h
  split at h
  case h_10 => cases h
  all_goals exact ⟨_, rfl⟩

theorem closeJtag_detached (s : State) : (closeJtag s).life = s.life ∧ (closeJtag s).lc = s.lc := by
  unfold closeJtag
  split
  · exact ⟨rfl, rfl⟩
  · extract_lets i
    obtain ⟨g, r, d, x, f, h⟩ := (detach_detached ({ s with pinsTaken := false }.setDbg { s.dbg with instruction := i })).frame
    rw [h]
    exact ⟨rfl, rfl⟩

/-- A change that erases nothing ends in its target. -/
theorem completeChange_spec {v k : Nat} {s : State} {c : LifecycleChange} (hc : changeOf s.life v = some c) (he : c.erases = false)
    (hf : s.keeper.failed = false) (hd : s.keeper.dead = []) (hw : ∀ n, s.worn n = false) :
    some (completeChange v k s).life = lifecycleOf v ∧ (completeChange v k s).lc.change = none := by
  have hkeeper := (finishWipe_civil s).keeper
  obtain ⟨t, ht, ho⟩ := writeLifecycle_of_sound (code := v) (pending := 0xFF)
    (s := { finishWipe s with lc := { s.lc with change := none } }) (by rw [← hd]; exact congrArg Keeper.dead hkeeper)
    (by rw [← hf]; exact congrArg Keeper.failed hkeeper) (fun n => by rw [← hw n]; show Nat.ble _ (mget (finishWipe s).keeper.wear n 0) = _; rw [hkeeper]; rfl)
  obtain ⟨x, hx⟩ := lifecycleOf_of_change hc
  have hlc : t.lc.change = none := by
    obtain ⟨_, _, _, _, rfl⟩ := ho.frame
    rfl
  clear ho
  unfold completeChange
  extract_lets old _ _ u er e
  have hold : changeOf old v = some c := hc
  have her : er = false := by
    unfold er
    rw [hold]
    exact he
  have heu : e = (true, u) := by
    unfold e
    rw [her]
    rfl
  have hu : writeLifecycle v 0xFF u = .ok t := ht
  clear_value e u
  subst heu
  dsimp only
  rw [hu, if_neg (by decide)]
  dsimp only
  obtain ⟨hl, hcl⟩ := closeJtag_detached { t with life := (lifecycleOf v).getD old }
  constructor
  · rw [raise_life, hl, hx]
    rfl
  · rw [raise_lc, hcl]
    exact hlc

/-! ### Keys -/

section
variable {w : Route} {bs : Bytes} {s : State} (ha : accepts w .KEY_INSTALL 0 0 s = true) (hk : s.keyLength bs = true)
include ha hk

theorem execKeyInstall_of_accepts {x : Nat × State} (hx : judged w .KEY_INSTALL 0 (fit .KEY_INSTALL 0) (hKeyInstall bs) s = x) :
    exec (.keyInstall w bs) s = .next (answerTo w x.1 [] x.2) := by
  have hl : bs.length ≤ El.KEY_INSTALL.info.size := by
    have h : bs.length = if s.signingSelected then 97 else 32 := beq_iff_eq.mp hk
    have hs : El.KEY_INSTALL.info.size = 97 := rfl
    rw [h, hs]
    split <;> decide
  refine (congrArg Host.Outcome.next (requestBytes_of_accepts ha hk hl (hKeyInstall bs))).trans ?_
  rw [hx]

theorem execKeyInstall_of_life (hl : s.life = .field ∨ s.life = .returned) : exec (.keyInstall w bs) s = refused w 3 s := by
  refine execKeyInstall_of_accepts ha hk (judged_of_plain (judge_of_notAllowed ha ?_) (by decide))
  show (s.life != .field && s.life != .returned) = false
  obtain h | h := hl <;> rw [h] <;> rfl

section
variable (h1 : s.life ≠ .field) (h2 : s.life ≠ .returned) (hs : s.signingSelected = true) (hp : pointOf bs ≠ none)
  (hf : s.keeper.failed = false) (hl : s.keeper.keysLost = false) (hn : mfind s.keeper.signing (s.rget .KEY_SEL) = none)
include h1 h2 hs hp hf hl hn

theorem judge_keyInstall : judge w .KEY_INSTALL 0 (fit .KEY_INSTALL 0) (hKeyInstall bs) s =
    (keepKey (s.rget .KEY_SEL) (1 :: bs) s).map
      (fun t => t.setKeeper { t.keeper with signing := mput s.keeper.signing (s.rget .KEY_SEL) (.valid bs) }) := by
  refine (judge_of_accepts (h := hKeyInstall bs) ha ?_ ?_).trans ?_
  · show (s.life != .field && s.life != .returned) = true
    simp [h1, h2]
  · show (!s.signingSelected || (pointOf bs).isSome) = true
    simp [hs, Option.isSome_iff_ne_none, hp]
  · exact (if_neg (by simp [hf, hl])).trans ((if_pos hs).trans (if_neg (by simp [hn])))

theorem execKeyInstall_of_worn (hw : ∃ k ∈ keySectors (s.rget .KEY_SEL), s.worn k = true) : exec (.keyInstall w bs) s = refused w 7 s := by
  refine execKeyInstall_of_accepts ha hk (judged_of_plain ((judge_keyInstall ha hk h1 h2 hs hp hf hl hn).trans ?_) (by decide))
  rw [keepKey_of_worn hw]
  rfl

theorem execKeyInstall_of_sound {t : State} (ht : keepKey (s.rget .KEY_SEL) (1 :: bs) s = .ok t) : exec (.keyInstall w bs) s =
    performed w (t.setKeeper { t.keeper with signing := mput s.keeper.signing (s.rget .KEY_SEL) (.valid bs) }) := by
  refine execKeyInstall_of_accepts ha hk (x := (0, t.setKeeper { t.keeper with signing := mput s.keeper.signing (s.rget .KEY_SEL) (.valid bs) })) ?_
  rw [judged, judge_keyInstall ha hk h1 h2 hs hp hf hl hn, ht]
  rfl

end

end

/-- A signing key kept: the two sectors of its slot hold it. -/
theorem keepKey_signing {k : Nat} {bs : Bytes} {s : State} (hk : k < 4) (h : ∀ n ∈ keySectors k, s.worn n = false) :
    ∃ t, keepKey k (1 :: bs) s = .ok t ∧ OnlyKeeper s t ∧ t.keeper.aes = s.keeper.aes ∧
      mget t.keeper.sectors (32832 + 2 * k) 0 = sectorOf (1 :: bs) ∧ mget t.keeper.sectors (32833 + 2 * k) 0 = sectorOf (bs.drop 63) ∧
      ∀ n, n ∉ keySectors k → mfind t.keeper.sectors n = mfind s.keeper.sectors n := by
  obtain ⟨t, ht, ho, -, haes⟩ := keepKey_of_sound (bs := 1 :: bs) h
  have hks : keySectors k = [32832 + 2 * k, 32833 + 2 * k] := if_pos (Nat.blt_eq.mpr hk)
  have hsec : t.keeper.sectors = mset (mset s.keeper.sectors (32832 + 2 * k) (sectorOf (1 :: bs)) 0) (32833 + 2 * k) (sectorOf (bs.drop 63)) 0 := by
    unfold keepKey at ht
    rw [hks] at ht
    extract_lets ns at ht
    split at ht
    · cases ht
    · cases ht
      exact (writeSector_spec ..).1.trans (congrArg (fun m => mset m _ _ 0) (writeSector_spec ..).1)
  refine ⟨t, ht, ho, haes, ?_, ?_, fun n hn => ?_⟩
  · rw [hsec, mget_mset_other _ _ _ _ _ _ (by omega), mget_mset_same]
  · rw [hsec, mget_mset_same]
  · rw [hks] at hn
    simp only [List.mem_cons, List.not_mem_nil, or_false, not_or] at hn
    rw [hsec, mfind_mset_other _ _ _ _ _ hn.2, mfind_mset_other _ _ _ _ _ hn.1]

/-! ### Tamper -/

theorem tamperEdge_again {k : Nat} {s : State} (h : bitOf (s.rget .TAMPER_STATE) (k - 1) = true) : tamperEdge k s = s := if_pos (by simp [h])

theorem tamperOver_of_set {k : Nat} {s : State} (h : bitOf (s.rget .TAMPER_STATE) (k - 1) = true) :
    tamperOver k s = s.rset .TAMPER_STATE 0 (s.rget .TAMPER_STATE - 2 ^ (k - 1)) := if_pos h

theorem tamperOver_of_clear {k : Nat} {s : State} (h : bitOf (s.rget .TAMPER_STATE) (k - 1) = false) : tamperOver k s = s := if_neg (by simp [h])

theorem startWipe_leaves (cause : Nat) (s : State) : Leaves testEndEls s (startWipe cause s) := by
  unfold startWipe
  extract_lets s₁ s₂ _
  have h₂ : s₂.regs = s₁.regs := by
    unfold s₂
    split
    · rfl
    · refine foldl_keeps State.regs (fun t n => ?_) vaultBanks s₁
      obtain ⟨c, b, z, hb⟩ := blankBank_frame n false t
      rw [clearBank, hb]
  have hl : Leaves testEndEls s s₂ := (stopTest_leaves s).trans (.of_regs h₂)
  clear_value s₂
  exact .ite (hl.trans (Leaves.trans (t := s₂.rset .VAULT_STATE 0 3) (.rset (by decide) ..) (.of_regs rfl))) (.refl s)

/-- The first edge of a source is latched, and wipes an enabled Vault. -/
theorem tamperEdge_spec {k : Nat} {s : State} (hp : s.power.aux = true) (h : bitOf (s.rget .TAMPER_STATE) (k - 1) = false)
    (h1 : s.dev ≠ .powerOff) (h2 : s.dev ≠ .reset) :
    (tamperEdge k s).rget .TAMPER_STATE = s.rget .TAMPER_STATE + 2 ^ (k - 1) ∧ bitOf (tamperEdge k s).core.irq 9 = true ∧
      (s.rflag .VAULT_ENABLE = true → (tamperEdge k s).rget .VAULT_STATE = 3) := by
  let s₁ := s.rset .TAMPER_STATE 0 (s.rget .TAMPER_STATE + 2 ^ (k - 1))
  have he : tamperEdge k s = (latchIrq 9 (bumpCounter 3 .TAMPER_COUNT (startWipe k s₁))).raise sevWarning 0x5801 0 (leBytes 1 k) := by
    unfold tamperEdge
    rw [if_neg (by simp [hp, h])]
    simp [h1, h2, s₁]
  have hb : Leaves (.TAMPER_COUNT :: keeperEls) (startWipe k s₁) (tamperEdge k s) := by
    rw [he]
    exact (bumpCounter_leaves ..).trans (.raise_of_regs (by decide) (State.latchIrq_regs ..))
  have ht : s₁.rget .TAMPER_STATE = s.rget .TAMPER_STATE + 2 ^ (k - 1) := State.rget_rset_same ..
  have hv : s₁.rget .VAULT_ENABLE = s.rget .VAULT_ENABLE := (Leaves.rset (es := [.TAMPER_STATE]) (by decide) ..).rget .VAULT_ENABLE (by decide) 0
  clear_value s₁
  refine ⟨?_, ?_, fun hen => ?_⟩
  · rw [hb.rget _ (by decide), (startWipe_leaves k s₁).rget _ (by decide), ht]
  · rw [he, raise_core]
    exact latchIrq_bit ..
  · rw [hb.rget _ (by decide)]
    exact (startWipe_spec (.inl (by rw [State.rflag, hv]; exact hen))).1

/-- Settles O51: LC_REQUEST by `judged`, the change by `completeChange`, a key by `keepKey`, tamper by `tamperEdge` and `tamperOver`. -/
theorem lifecycleAndKeys : Obligations.LifecycleAndKeys := by
  intro w v bs s
  refine ⟨execLcChallengeRead_of_idle, fun ha => execLcTokenWrite_of_accepts ha, fun ha c hc hf hn hk => ⟨fun ht hp => ?_, fun hp hd hw => ?_⟩, fun hn => ?_,
    fun c hc he hch hf hd hw => ?_, fun ha hk => ⟨execKeyInstall_of_life ha hk, fun h1 h2 hs hp hf hl hn => ⟨execKeyInstall_of_worn ha hk h1 h2 hs hp hf hl hn, fun hw => ?_⟩⟩,
    fun i j b hm => ?_⟩
  · have hx := execLcRequest_of_noToken hc hf hn hk ha ht hp
    rw [consumeToken_of_heard (heard_of_accepts ha)] at hx
    refine ⟨_, hx, ?_, ?_, ?_, ?_, ?_, ?_⟩
    · rw [answerTo_answer (loader_of_accepts ha)]
    · rw [answerTo_lc]; exact hn
    · rw [answerTo_lc]
    · rw [answerTo_life]
    · rw [answerTo_cells]
    · rw [answerTo_keeper]
  · obtain ⟨t, ht, ho⟩ := writeLifecycle_of_sound (code := s.life.code) (pending := v) hd hf hw
    have hx := execLcRequest_of_permitted hc hf hn hk ha hp ht
    rw [consumeToken_of_heard (heard_of_accepts ha)] at hx
    have hc := startWipe_civil 3 { t with lc := { t.lc with change := some (v, controllerOf w) } }
    refine ⟨_, hx, ?_, ?_, ?_, ?_⟩
    · rw [answerTo_answer (loader_of_accepts ha)]
    · rw [answerTo_lc]
      exact congrArg LifecycleControl.change hc.lc
    · rw [answerTo_lc]
    · rw [answerTo_life]
      refine hc.life.trans ?_
      obtain ⟨_, _, _, _, rfl⟩ := ho.frame
      rfl
  · show execLifecycleChangeDone s = _
    rw [execLifecycleChangeDone, hn]
  · obtain ⟨h1, h2⟩ := completeChange_spec (k := 1) hc he hf hd hw
    refine ⟨_, ?_, h1, h2⟩
    show execLifecycleChangeDone s = _
    rw [execLifecycleChangeDone, hch]
  · obtain ⟨t, ht, ho, haes, hlo, hhi, hoth⟩ := keepKey_signing (bs := bs) (Nat.blt_eq.mp hs) hw
    refine ⟨_, execKeyInstall_of_sound ha hk h1 h2 hs hp hf hl hn ht, rfl, haes, hlo, hhi, hoth, ?_⟩
    obtain ⟨_, _, _, _, rfl⟩ := ho.frame
    exact ⟨rfl, rfl, rfl⟩
  · simp only [List.mem_cons, Prod.mk.injEq, List.not_mem_nil, or_false] at hm
    obtain ⟨rfl, rfl, rfl⟩ | ⟨rfl, rfl, rfl⟩ := hm
    · exact ⟨fun hp h h1 h2 => ⟨_, rfl, tamperEdge_spec (k := 1) hp h h1 h2⟩,
        fun h => ⟨congrArg Host.Outcome.next (tamperEdge_again (k := 1) h), congrArg Host.Outcome.next (tamperOver_of_set (k := 1) h)⟩,
        fun h => congrArg Host.Outcome.next (tamperOver_of_clear (k := 1) h)⟩
    · exact ⟨fun hp h h1 h2 => ⟨_, rfl, tamperEdge_spec (k := 2) hp h h1 h2⟩,
        fun h => ⟨congrArg Host.Outcome.next (tamperEdge_again (k := 2) h), congrArg Host.Outcome.next (tamperOver_of_set (k := 2) h)⟩,
        fun h => congrArg Host.Outcome.next (tamperOver_of_clear (k := 2) h)⟩

end Sys2Proof.Machine
end

section

/-! # Freezes and watchpoints (O52) -/

namespace Sys2Proof.Machine

open Sys2Proof.Safety

/-! ### Districts that freeze -/

/-- A District stopped by a freeze. -/
def freezeDist (t : State) (d : Nat) : State := t.setDist d { t.dist d with frozen := true }

theorem foldl_freezeDist_dists (l : List Nat) (s : State) : ∃ m, l.foldl freezeDist s = { s with dists := m } := by
  induction l generalizing s with
  | nil => exact ⟨_, rfl⟩
  | cons d l ih =>
    obtain ⟨m, h⟩ := ih (freezeDist s d)
    exact ⟨m, h⟩

theorem foldl_freezeDist_other {l : List Nat} {d : Nat} (h : d ∉ l) (s : State) : (l.foldl freezeDist s).dist d = s.dist d := by
  induction l generalizing s with
  | nil => rfl
  | cons a l ih =>
    rw [List.mem_cons, not_or] at h
    exact (ih h.2 _).trans (dist_setDist_other s _ h.1)

theorem foldl_freezeDist_kept {l : List Nat} {d : Nat} {s : State} (h : (s.dist d).frozen = true) : ((l.foldl freezeDist s).dist d).frozen = true := by
  induction l generalizing s with
  | nil => exact h
  | cons a l ih =>
    refine ih ?_
    by_cases ha : d = a
    · subst ha
      rw [freezeDist, dist_setDist]
    · rw [freezeDist, dist_setDist_other s _ ha]
      exact h

theorem foldl_freezeDist_named {l : List Nat} {d : Nat} (h : d ∈ l) (s : State) : ((l.foldl freezeDist s).dist d).frozen = true := by
  induction l generalizing s with
  | nil => exact absurd h (List.not_mem_nil)
  | cons a l ih =>
    rcases List.mem_cons.mp h with rfl | h
    · refine foldl_freezeDist_kept (s := freezeDist s d) ?_
      rw [freezeDist, dist_setDist]
    · exact ih h _

/-- The Districts that a mask names. -/
def maskDists (m : BitVec 128) : List Nat := (List.range 128).filter (fun d => m.getLsbD d)

theorem mem_maskDists {m : BitVec 128} {d : Nat} : d ∈ maskDists m ↔ d < 128 ∧ m.getLsbD d = true := by
  rw [maskDists, List.mem_filter, List.mem_range]

/-- The Districts stopped, and no freeze pending. -/
def stopped (f : Freeze) (s : State) : State := (maskDists f.mask).foldl freezeDist { s with freeze := none }

/-- The state as a freeze leaves it. -/
def frozen (f : Freeze) (s : State) : State :=
  (((stopped f s).rset .FREEZE_STATE 0 2).rset .FREEZE_MT 0 (stopped f s).mt).become .hold

theorem execFreezeStart_due {f : Freeze} {s : State} (hf : s.freeze = some f) (hc : s.counting = true) (ha : f.at_ ≤ s.crossing)
    (hd : s.dev = .running ∨ s.dev = .hold) : exec .freezeStart s = .next (frozen f s) := by
  show execFreezeStart s = _
  unfold execFreezeStart
  rw [hf]
  exact if_pos (by simp [hc, Nat.ble_eq, ha, hd])

/-- A freeze stops the Districts that its mask names and no other. -/
theorem frozen_spec (f : Freeze) (s : State) : (frozen f s).dev = .hold ∧ (frozen f s).rget .FREEZE_STATE = 2 ∧ (frozen f s).freeze = none ∧
    (∀ d, d < 128 → f.mask.getLsbD d = true → ((frozen f s).dist d).frozen = true) ∧
    (∀ d, f.mask.getLsbD d = false → (frozen f s).dist d = s.dist d) ∧ (frozen f s).cells = s.cells := by
  obtain ⟨m, hm⟩ := foldl_freezeDist_dists (maskDists f.mask) { s with freeze := none }
  have hs : ∃ r, ((stopped f s).rset .FREEZE_STATE 0 2).rset .FREEZE_MT 0 (stopped f s).mt = { stopped f s with regs := r } := ⟨_, rfl⟩
  have hst : (((stopped f s).rset .FREEZE_STATE 0 2).rset .FREEZE_MT 0 (stopped f s).mt).rget .FREEZE_STATE = 2 :=
    ((Leaves.rset (es := [.FREEZE_MT]) (by decide) ..).rget .FREEZE_STATE (by decide) 0).trans (State.rget_rset_same ..)
  have hother (d : Nat) (h : f.mask.getLsbD d = false) : (stopped f s).dist d = s.dist d :=
    foldl_freezeDist_other (s := { s with freeze := none }) (fun hd => by rw [(mem_maskDists.mp hd).2] at h; cases h)
  have hnamed (d : Nat) (hd : d < 128) (h : f.mask.getLsbD d = true) : ((stopped f s).dist d).frozen = true :=
    foldl_freezeDist_named (mem_maskDists.mpr ⟨hd, h⟩) _
  have hm' : stopped f s = { s with freeze := none, dists := m } := hm
  unfold frozen
  generalize ((stopped f s).rset .FREEZE_STATE 0 2).rset .FREEZE_MT 0 (stopped f s).mt = u at hs hst ⊢
  obtain ⟨r, hu⟩ := hs
  have hl := (State.become_leaves u .hold).rget .FREEZE_STATE (by decide) 0
  obtain ⟨r', c, i, hb⟩ := become_frame u .hold
  refine ⟨by rw [hb], hl.trans hst, ?_, fun d hd h => ?_, fun d h => ?_, ?_⟩
  · rw [hb, hu, hm']
  · rw [← hnamed d hd h, hb, hu]
    rfl
  · rw [← hother d h, hb, hu]
    rfl
  · rw [hb, hu, hm']

/-! ### Watchpoints -/

theorem requestHalt_detached (c n : Nat) (l : Bool) (s : State) : Detached s (requestHalt c n l s) :=
  .ite (.refl s) (.ite (.setRun ..) (takeHalt_detached ..))

theorem requestHalt_leaves (c n : Nat) (l : Bool) (s : State) : Leaves [.REC_LOST] s (requestHalt c n l s) :=
  .ite (.refl s) (.ite (.of_regs rfl) (takeHalt_leaves ..))

theorem setTrigger_detached (s : State) (n : Nat) (t : Trigger) : Detached s (s.setTrigger n t) := .setDbg ..

theorem setTrigger_leaves (s : State) (n : Nat) (t : Trigger) : Leaves [.REC_LOST] s (s.setTrigger n t) := .of_regs rfl

theorem hitTrigger_detached (n : Nat) (l : Bool) (s : State) : Detached s (hitTrigger n l s) := by
  unfold hitTrigger
  extract_lets t s₁ x
  have h₁ : Detached s s₁ := setTrigger_detached ..
  exact .ite (.refl s) (.ite (.ite (h₁.trans (setTrigger_detached ..)) h₁) (.ite (h₁.trans (requestHalt_detached ..)) h₁))

theorem hitTrigger_leaves (n : Nat) (l : Bool) (s : State) : Leaves [.REC_LOST] s (hitTrigger n l s) := by
  unfold hitTrigger
  extract_lets t s₁ x
  have h₁ : Leaves [.REC_LOST] s s₁ := setTrigger_leaves ..
  exact .ite (.refl s) (.ite (.ite (h₁.trans (setTrigger_leaves ..)) h₁) (.ite (h₁.trans (requestHalt_leaves ..)) h₁))

theorem captureNow_spec (d : Nat) (s : State) : (captureNow d s).cells = s.cells ∧ (captureNow d s).dists = s.dists ∧
    Leaves [.CAPTURE_CTRL, .REC_LOST] s (captureNow d s) := by
  unfold captureNow
  extract_lets c x s₁
  have h₁ : Leaves [.CAPTURE_CTRL, .REC_LOST] s s₁ := .of_regs rfl
  have hk : s₁.cells = s.cells ∧ s₁.dists = s.dists := ⟨rfl, rfl⟩
  clear_value s₁
  split
  · exact ⟨rfl, rfl, .refl s⟩
  · split
    · exact ⟨(captureMissed_detached d s).cells, (captureMissed_detached d s).dists, .rset (by decide) ..⟩
    · rw [raise_cells, raise_dists]
      exact ⟨hk.1, hk.2, h₁.trans ((Leaves.rset (by decide) ..).trans (.raise (by decide) ..))⟩

/-- A watchpoint that fires is counted and disabled. -/
theorem execFwpFire_met {n : Nat} {s : State} (b : Bool) (hn : n < 2) (hm : s.watchpointMet n = true) :
    ∃ t, exec (.fwpFire n b) s = .next t ∧ t.rget .FWP_ENABLE n = 0 ∧
      t.rget .FWP_HITS n = Nat.min (s.rget .FWP_HITS n + 1) (El.FWP_HITS.modulus - 1) ∧ t.cells = s.cells ∧ t.dists = s.dists := by
  have he : exec (.fwpFire n b) s = execFwpFire n b s := rfl
  rw [he, execFwpFire, if_neg (by simp [hn, hm])]
  extract_lets t d s₁ s₂
  have h₁ : s₁.rget .FWP_ENABLE n = 0 ∧ s₁.rget .FWP_HITS n = Nat.min (s.rget .FWP_HITS n + 1) (El.FWP_HITS.modulus - 1) ∧
      s₁.cells = s.cells ∧ s₁.dists = s.dists := by
    refine ⟨State.rget_rset_same .., ?_, rfl, rfl⟩
    refine ((Leaves.rset (es := [.FWP_ENABLE]) (by decide) ..).rget .FWP_HITS (by decide) n).trans ?_
    exact (State.rget_rinc ..).trans (if_pos ⟨rfl, rfl⟩)
  clear_value s₁
  have h₂ : s₂.cells = s₁.cells ∧ s₂.dists = s₁.dists ∧ Leaves [.CAPTURE_CTRL, .REC_LOST] s₁ s₂ := by
    unfold s₂
    split
    · exact captureNow_spec ..
    · exact ⟨rfl, rfl, .refl _⟩
  clear_value s₂
  obtain ⟨hen, hhits, hc, hd⟩ := h₁
  obtain ⟨hc₂, hd₂, hl₂⟩ := h₂
  have h₃ : Detached s₂ (if t.enabled then hitTrigger (fabricTrigger n) b s₂ else s₂) := .ite (hitTrigger_detached ..) (.refl _)
  have hl₃ : Leaves [.REC_LOST] s₂ (if t.enabled then hitTrigger (fabricTrigger n) b s₂ else s₂) := .ite (hitTrigger_leaves ..) (.refl _)
  refine ⟨_, rfl, ?_, ?_, h₃.cells.trans (hc₂.trans hc), h₃.dists.trans (hd₂.trans hd)⟩
  · rw [hl₃.rget _ (by decide), hl₂.rget _ (by decide), hen]
  · rw [hl₃.rget _ (by decide), hl₂.rget _ (by decide), hhits]

theorem stopWaiting_disabled (w : Nat) (s : State) : (stopWaiting w s).rflag .FWP_ENABLE w = false := by
  unfold stopWaiting
  extract_lets s₁ d
  have h₁ : s₁.rget .FWP_ENABLE w = 0 := State.rget_rset_same ..
  clear_value s₁
  split
  · split
    · have hc : Leaves [.CAPTURE_CTRL] s₁ (captureMissed d s₁) := .rset (by decide) ..
      rw [State.rflag, hc.rget .FWP_ENABLE (by decide) w, h₁]
      rfl
    · rw [State.rflag, h₁]
      rfl
  · next h => exact Bool.not_eq_true _ ▸ h

/-! ### The obligation -/

theorem hFreezeGo_range {v : Nat} {s : State} (hm : s.freezeMask ≠ 0) (hc : s.crossing + 2 ≤ s.freezeCrossing v) : hFreezeGo.range v s = true := by
  show (s.freezeMask != 0 && Nat.ble (s.crossing + 2) (s.freezeCrossing v)) = true
  rw [Bool.and_eq_true, bne_iff_ne, Nat.ble_eq]
  exact ⟨hm, hc⟩

/-- Settles O52: a freeze by `frozen_spec`, a watchpoint by `execFwpFire_met` and `stopWaiting`. -/
theorem freezesAndWatchpoints : Obligations.FreezesAndWatchpoints := by
  intro w n v s
  refine ⟨fun ha hm hc => ⟨fun h => ?_, fun h => ?_⟩, fun f hf hc ha hd => ⟨_, execFreezeStart_due hf hc ha hd, frozen_spec f s⟩, fun h => ?_,
    fun ha => ⟨fun h => ?_, fun h => ?_⟩, fun ha => ⟨fun h => ?_, fun h => ?_⟩, fun b hn hm => execFwpFire_met b hn hm, fun b hm => ?_, fun hn hc hl => ?_⟩
  · exact write_refused (h := hFreezeGo) ha rfl (hFreezeGo_range hm hc) (if_pos (by simpa using h)) (by decide)
  · refine ⟨_, write_performed (h := hFreezeGo) ha rfl (hFreezeGo_range hm hc) (if_neg (by simpa using h)), State.rget_rset_same .., rfl, rfl⟩
  · show execFreezeStart s = _
    rw [execFreezeStart, h]
  · refine stored_of_performed (loader_of_accepts ha) (write_performed (h := hFreezeRelease) ha rfl rfl ?_)
    exact congrArg Except.ok (if_pos (by simp [h]))
  · exact write_performed (h := hFreezeRelease) ha rfl rfl (congrArg Except.ok (if_neg (by simp [h])))
  · exact write_stores (h := hFwpEnable n) ha rfl (by simpa [hFwpEnable, Nat.ble_eq] using h) rfl
  · exact write_outOfRange (h := hFwpEnable n) ha rfl (by
      show ((1 : Nat) == 0 || Nat.ble (s.rget .FWP_FIRST n) (s.rget .FWP_LAST n)) = false
      rw [Bool.or_eq_false_iff, ← Bool.not_eq_true (Nat.ble _ _), Nat.ble_eq]
      exact ⟨rfl, by omega⟩)
  · exact if_pos (by simp [hm])
  · refine ⟨_, congrArg Host.Outcome.next (if_pos (by simp [hn, hc, hl])), stopWaiting_disabled n s, (stopWaiting_detached n s).cells⟩

end Sys2Proof.Machine
end

section

/-! # What stays through BOOT and through the work finished before the power goes -/

namespace Sys2Proof.Machine

open Sys2Proof.Safety

/-- The device state, the queue of commands, the fabric's clock, the load, what a release found of the keeper, the straps and the
cause of the reset stand as before. -/
structure Steady (s t : State) : Prop where
  dev : t.dev = s.dev
  pending : t.pending = s.pending
  fabricOn : t.fabricOn = s.fabricOn
  load : t.load = s.load
  failed : t.keeper.failed = s.keeper.failed
  failAt : t.keeper.failAt = s.keeper.failAt
  straps : t.rget .STRAPS = s.rget .STRAPS
  cause : t.rget .RESET_CAUSE = s.rget .RESET_CAUSE

namespace Steady

theorem refl (s : State) : Steady s s := ⟨rfl, rfl, rfl, rfl, rfl, rfl, rfl, rfl⟩

theorem trans {s t r : State} (h : Steady s t) (h' : Steady t r) : Steady s r :=
  ⟨h'.dev.trans h.dev, h'.pending.trans h.pending, h'.fabricOn.trans h.fabricOn, h'.load.trans h.load, h'.failed.trans h.failed,
    h'.failAt.trans h.failAt, h'.straps.trans h.straps, h'.cause.trans h.cause⟩

theorem ite {c : Prop} [Decidable c] {s t r : State} (ht : Steady s t) (hr : Steady s r) : Steady s (if c then t else r) := by
  split
  · exact ht
  · exact hr

theorem foldl {α : Type} {f : State → α → State} (hf : ∀ t a, Steady t (f t a)) (l : List α) (s : State) : Steady s (l.foldl f s) := by
  induction l generalizing s with
  | nil => exact .refl s
  | cons a l ih => exact (hf s a).trans (ih _)

/-- The state apart, by its parts, and the registers by what they leave. -/
theorem of_leaves {s t : State} {es : List El} (hl : Leaves es s t) (h1 : El.STRAPS ∉ es) (h2 : El.RESET_CAUSE ∉ es) (hd : t.dev = s.dev)
    (hp : t.pending = s.pending) (hf : t.fabricOn = s.fabricOn) (ho : t.load = s.load) (hk : t.keeper.failed = s.keeper.failed)
    (ha : t.keeper.failAt = s.keeper.failAt) : Steady s t := ⟨hd, hp, hf, ho, hk, ha, hl.rget _ h1 _, hl.rget _ h2 _⟩

theorem rset {e : El} (h1 : e ≠ .STRAPS) (h2 : e ≠ .RESET_CAUSE) (s : State) (u v : Nat) : Steady s (s.rset e u v) :=
  of_leaves (Leaves.rset (es := [e]) List.mem_cons_self s u v) (by simpa using h1.symm) (by simpa using h2.symm) rfl rfl rfl rfl rfl rfl

theorem raise (s : State) (v c u : Nat) (d : Bytes) : Steady s (s.raise v c u d) :=
  of_leaves (Leaves.raise (es := [.REC_LOST]) (by decide) s v c u d) (by decide) (by decide) (raise_dev ..) (raise_pending ..) (raise_fabricOn ..)
    (raise_load ..) (by rw [raise_keeper]) (by rw [raise_keeper])

theorem civil {s t : State} {es : List El} (h : Civil s t) (hl : Leaves es s t) (h1 : El.STRAPS ∉ es) (h2 : El.RESET_CAUSE ∉ es) : Steady s t :=
  of_leaves hl h1 h2 h.dev h.pending h.fabricOn h.load (congrArg Keeper.failed h.keeper) (congrArg Keeper.failAt h.keeper)

theorem setKeeper {s : State} {k : Keeper} (h1 : k.failed = s.keeper.failed) (h2 : k.failAt = s.keeper.failAt) : Steady s (s.setKeeper k) :=
  ⟨rfl, rfl, rfl, rfl, h1, h2, rfl, rfl⟩

theorem draw (s : State) : Steady s s.draw.2 := ⟨rfl, rfl, rfl, rfl, rfl, rfl, rfl, rfl⟩

theorem trunks (s : State) (m : SMap Trunk) : Steady s { s with trunks := m } := ⟨rfl, rfl, rfl, rfl, rfl, rfl, rfl, rfl⟩

theorem latchIrq (k : Nat) (s : State) : Steady s (latchIrq k s) := ⟨rfl, rfl, rfl, rfl, rfl, rfl, rfl, rfl⟩

theorem detached {s t : State} (h : Detached s t) {es : List El} (hl : Leaves es s t) (h1 : El.STRAPS ∉ es) (h2 : El.RESET_CAUSE ∉ es) : Steady s t := by
  obtain ⟨_, _, _, _, _, rfl⟩ := h.frame
  exact of_leaves hl h1 h2 rfl rfl rfl rfl rfl rfl

end Steady

/-! ### The keeper's writes -/

theorem keeperState_steady (s : State) (v : Nat) : Steady s (s.keeperState v) := by
  unfold State.keeperState
  extract_lets v
  exact .ite ((Steady.rset (by decide) (by decide) ..).trans (.latchIrq ..)) (.refl s)

theorem writeSector_steady (n : Nat) (d : BitVec 512) (s : State) : Steady s (writeSector n d s) := by
  unfold writeSector
  extract_lets m k s₁
  have h : Steady s s₁ := ⟨rfl, rfl, rfl, rfl, rfl, rfl, rfl, rfl⟩
  clear_value s₁
  exact .ite (h.trans ((Steady.rset (by decide) (by decide) ..).trans ((keeperState_steady ..).trans (.raise ..)))) h

theorem relocate_steady (home id len value gen : Nat) (s : State) : Steady s (relocate home id len value gen s) := by
  unfold relocate
  split
  · exact keeperState_steady ..
  · next p _ =>
    extract_lets k s₁ s₂
    have h₁ : Steady s s₁ := 
      Steady.trans (t := s.setKeeper { k with moved := mput k.moved home p, taken := k.taken ++ [p] }) (.setKeeper rfl rfl) (.rset (by decide) (by decide) ..)
    clear_value s₁
    have h : Steady s s₂ := h₁.trans (writeSector_steady ..)
    exact .ite (h.trans (keeperState_steady ..)) h

theorem writeCounter_steady {k len v : Nat} {s t : State} (h : writeCounter k len v s = .ok t) : Steady s t := by
  unfold writeCounter at h
  extract_lets a ga gb home sec gen u at h
  have hu : Steady s u := writeSector_steady ..
  clear_value u
  split at h
  · cases h
  split at h
  · cases h
  split at h
  · cases h
  cases h
  exact .ite (hu.trans (relocate_steady ..)) hu

theorem bumpCounter_steady (k : Nat) {e : El} (h1 : e ≠ .STRAPS) (h2 : e ≠ .RESET_CAUSE) (s : State) : Steady s (bumpCounter k e s) := by
  unfold bumpCounter
  extract_lets v
  split
  · next t h => exact (writeCounter_steady h).trans (.rset h1 h2 ..)
  · exact .ite (.rset h1 h2 ..) (.refl s)

/-! ### A change of the lifecycle -/

theorem eraseSecrets_steady (s : State) : Steady s (eraseSecrets s).2 := by
  unfold eraseSecrets
  extract_lets ok s₁
  have h₁ : Steady s s₁ := .foldl (fun t n => .ite (.refl t) (writeSector_steady ..)) _ _
  clear_value s₁
  exact h₁.trans (.setKeeper rfl rfl)

theorem detach_leaves (s : State) : Leaves [.DBG_ATTACHED, .FWP_ENABLE, .CAPTURE_CTRL, .REC_LOST] s (detach s) := by
  cases h : s.rflag .DBG_ATTACHED with
  | false => rw [detach_of_none h]; exact .refl s
  | true =>
    rw [detach_of_attached h]
    exact (Leaves.rset (by decide) ..).trans (((stopWaiting_leaves ..).mono (by decide)).trans (((stopWaiting_leaves ..).mono (by decide)).trans
      ((Leaves.of_regs (disarm_keeps _).1).trans ((goOn_leaves _).mono (by decide)))))

theorem detach_steady (s : State) : Steady s (detach s) := .detached (detach_detached s) (detach_leaves s) (by decide) (by decide)

theorem closeJtag_steady (s : State) : Steady s (closeJtag s) := by
  unfold closeJtag
  extract_lets i
  exact .ite (.refl s) (Steady.trans (t := { s with pinsTaken := false }.setDbg { s.dbg with instruction := i })
    ⟨rfl, rfl, rfl, rfl, rfl, rfl, rfl, rfl⟩ (detach_steady _))

theorem finishWipe_leaves (s : State) : Leaves [.VAULT_STATE, .WIPE_COUNT, .LAST_WIPE_CAUSE, .REC_LOST, .DENIED, .OWNER, .HANDOVER] s (finishWipe s) := by
  unfold finishWipe
  extract_lets cause s₁ on s₂ s₃
  have h₁ : s₁.regs = s.regs := foldl_keeps State.regs (fun t n => by obtain ⟨c, b, z, h⟩ := blankBank_frame n true t; rw [h]) vaultBanks s
  have h₂ : Leaves [.VAULT_STATE, .WIPE_COUNT, .LAST_WIPE_CAUSE] s₁ s₂ :=
    ((Leaves.rset (by decide) ..).trans (.rinc (by decide) ..)).trans (.rset (by decide) ..)
  have h₃ : Leaves [.REC_LOST, .DENIED, .OWNER, .HANDOVER] s₂ s₃ := .ite (.refl _) (foldl_startHandover_leaves ..)
  clear_value s₁ s₃
  exact .ite ((Leaves.of_regs h₁).trans ((h₂.mono (by decide)).trans ((h₃.mono (by decide)).trans (.raise (by decide) ..)))) (.refl s)

theorem finishWipe_steady (s : State) : Steady s (finishWipe s) := .civil (finishWipe_civil s) (finishWipe_leaves s) (by decide) (by decide)

theorem startWipe_steady (k : Nat) (s : State) : Steady s (startWipe k s) := .civil (startWipe_civil k s) (startWipe_leaves k s) (by decide) (by decide)

theorem completeChange_steady (v k : Nat) (s : State) : Steady s (completeChange v k s) := by
  unfold completeChange
  extract_lets old _ _ u er e
  have hu : Steady s u := (finishWipe_steady s).trans ⟨rfl, rfl, rfl, rfl, rfl, rfl, rfl, rfl⟩
  clear_value u
  have he : Steady s e.2 := by
    unfold e
    split
    · exact hu.trans (eraseSecrets_steady u)
    · exact hu
  clear_value e
  split
  · exact he.trans (.raise ..)
  · split
    · exact he
    · next t ht =>
      extract_lets r
      have hr : Steady s r := he.trans ((writeCounter_steady ht).trans 
        (Steady.trans (t := { t with life := (lifecycleOf v).getD old }) ⟨rfl, rfl, rfl, rfl, rfl, rfl, rfl, rfl⟩ (closeJtag_steady _)))
      clear_value r
      exact hr.trans (.raise ..)

/-! ### What BOOT reads of the keeper -/

theorem sampleStraps_spec (n : Nat) (s : State) : (sampleStraps n s).rget .STRAPS = n % 4096 ∧
    (sampleStraps n s).rget .RESET_CAUSE = s.rget .RESET_CAUSE ∧ Steady (s.rset .STRAPS 0 (n % 4096)) (sampleStraps n s) := by
  have h : Steady (s.rset .STRAPS 0 (n % 4096)) (sampleStraps n s) := by
    unfold sampleStraps
    extract_lets v src s₁
    have h₁ : Steady (s.rset .STRAPS 0 (n % 4096)) s₁ := .rset (by decide) (by decide) ..
    clear_value s₁
    exact .ite (h₁.trans (.raise ..)) h₁
  refine ⟨h.straps.trans (State.rget_rset_same ..), h.cause.trans ?_, h⟩
  exact (Leaves.rset (es := [.STRAPS]) (by decide) s 0 _).rget .RESET_CAUSE (by decide) 0

theorem newEpochs_steady (s : State) : Steady s (newEpochs s) := .foldl (fun t k => (Steady.draw t).trans (.trunks ..)) _ s

theorem startCore_steady (s : State) : Steady s (startCore s) :=
  Steady.trans (t := (s.setRun (startedRun s)).draw.2) ⟨rfl, rfl, rfl, rfl, rfl, rfl, rfl, rfl⟩ (.rset (by decide) (by decide) ..)

theorem countReads_steady (l : List Nat) (s : State) : Steady s (countReads l s) := .foldl (fun t n => .rset (by decide) (by decide) ..) _ s

theorem bootName_steady (s : State) : Steady s (bootName s) := by
  unfold bootName
  extract_lets sec
  exact .ite ⟨rfl, rfl, rfl, rfl, rfl, rfl, rfl, rfl⟩ (Steady.trans (t := { s with devName := [] }) ⟨rfl, rfl, rfl, rfl, rfl, rfl, rfl, rfl⟩ (.raise ..))

theorem bootValue_steady {e : El} (h1 : e ≠ .STRAPS) (h2 : e ≠ .RESET_CAUSE) (u : Nat) (s : State) : Steady s (bootValue e u s) := by
  unfold bootValue
  extract_lets home sec
  exact .ite (.rset h1 h2 ..) ((Steady.rset h1 h2 ..).trans (.raise ..))

/-- No element that the keeper holds is the straps or the cause of a reset. -/
theorem foldl_bootValue_steady {l : List (El × Nat)} (h : ∀ p ∈ l, p.1 ≠ .STRAPS ∧ p.1 ≠ .RESET_CAUSE) (s : State) :
    Steady s (l.foldl (fun t p => (List.range p.2).foldl (fun t u => bootValue p.1 u t) t) s) := by
  induction l generalizing s with
  | nil => exact .refl s
  | cons p l ih =>
    obtain ⟨h1, h2⟩ := h p List.mem_cons_self
    have hp : Steady s ((List.range p.2).foldl (fun t u => bootValue p.1 u t) s) := .foldl (fun t u => bootValue_steady h1 h2 u t) _ s
    exact hp.trans (ih (fun q hq => h q (List.mem_cons_of_mem _ hq)) _)

theorem bootCounter_steady (k : Nat) (s : State) : Steady s (bootCounter k s) := by
  unfold bootCounter
  extract_lets c _ s₁
  have h₁ : Steady s s₁ := by
    unfold s₁
    split
    · exact .rset (by decide) (by decide) ..
    · exact .setKeeper rfl rfl
    · exact .rset (by decide) (by decide) ..
    · exact .rset (by decide) (by decide) ..
  clear_value s₁
  exact .ite (h₁.trans (Steady.trans (t := s₁.setKeeper { s₁.keeper with dead := s₁.keeper.dead ++ [k] }) (.setKeeper rfl rfl) (.raise ..))) h₁

theorem bootKeeper_steady (s : State) : Steady s (bootKeeper s) := by
  unfold bootKeeper
  extract_lets s₁ s₂ _ s₃ wornOnes s₄
  have h₁ : Steady s s₁ := (countReads_steady ..).trans (Steady.trans (t := bootPool (countReads s.bootSectors s))
    (.setKeeper rfl rfl) (bootName_steady _))
  clear_value s₁
  have h₂ : Steady s s₂ := h₁.trans (foldl_bootValue_steady (by decide) _)
  clear_value s₂
  have h₃ : Steady s s₃ := h₂.trans (Steady.trans (t := s₂.setKeeper { s₂.keeper with dead := [] }) (.setKeeper rfl rfl)
    (.foldl (fun t k => bootCounter_steady k t) _ _))
  clear_value s₃
  have h₄ : Steady s s₄ := h₃.trans (Steady.trans (t := s₃.rset .KP_WORN 0 wornOnes) (.rset (by decide) (by decide) ..) (.rset (by decide) (by decide) ..))
  clear_value s₄
  exact .ite ((keeperState_steady ..).trans (.raise ..)) (h₄.trans (keeperState_steady ..))

theorem bootAddress_steady (s : State) : Steady s (bootAddress s) := .rset (by decide) (by decide) ..

theorem bootRetirement_steady (s : State) : Steady s (bootRetirement s) := by
  have h (l : List (Nat × Nat)) (n : Nat) : Steady s ({ s with mem := { s.mem with retired := l, retiring := [] } }.rset .RT_COUNT 0 n) :=
    Steady.trans (t := { s with mem := { s.mem with retired := l, retiring := [] } }) ⟨rfl, rfl, rfl, rfl, rfl, rfl, rfl, rfl⟩
      (.rset (by decide) (by decide) ..)
  unfold bootRetirement
  extract_lets copyOf slotsOf listed t _ s₁
  have h₁ : Steady s s₁ := h ..
  clear_value s₁
  exact .ite ((h ..).trans (.raise ..)) (.ite (h₁.trans (.raise ..)) h₁)

theorem bootSpares_steady (s : State) : Steady s (bootSpares s) := by
  unfold bootSpares
  extract_lets listed
  refine .foldl (fun t n => ?_) _ s
  exact (Steady.rset (by decide) (by decide) ..).trans (.rset (by decide) (by decide) ..)

theorem bootRepairs_steady (s : State) : Steady s (bootRepairs s) := by
  unfold bootRepairs
  extract_lets mine _ s₁
  have h₁ : Steady s s₁ := ⟨rfl, rfl, rfl, rfl, rfl, rfl, rfl, rfl⟩
  clear_value s₁
  refine h₁.trans (.foldl (fun t p => ?_) _ _)
  exact .ite (.raise ..) ⟨rfl, rfl, rfl, rfl, rfl, rfl, rfl, rfl⟩

theorem refreshTriple_steady (s : State) : Steady s (refreshTriple s) := by
  obtain ⟨⟨a, b, r, g, h⟩, hl⟩ := refreshTriple_frame s
  rw [h] at hl ⊢
  exact .of_leaves hl (by decide) (by decide) rfl rfl rfl rfl rfl rfl

theorem bootPseq_steady (s : State) : Steady s (bootPseq s) := ⟨rfl, rfl, rfl, rfl, rfl, rfl, rfl, rfl⟩

theorem bootEdges_steady (s : State) : Steady s (bootEdges s) :=
  Steady.trans (t := { s with power := { s.power with edges := 0 } }) ⟨rfl, rfl, rfl, rfl, rfl, rfl, rfl, rfl⟩
    (.foldl (fun t _ => bumpCounter_steady 3 (by decide) (by decide) t) _ _)

theorem bootVault_steady (s : State) : Steady s (bootVault s) :=
  .ite ((Steady.foldl (fun t n => (Steady.rset (by decide) (by decide) ..).trans (.rset (by decide) (by decide) ..)) _ _).trans
    (.rset (by decide) (by decide) ..)) (.refl s)

theorem bootChange_steady (s : State) : Steady s (bootChange s) := by
  unfold bootChange
  split
  · exact .ite (.refl s) ((startWipe_steady 3 s).trans (completeChange_steady ..))
  · exact .refl s

theorem startTrunk_steady (k : Nat) (s : State) : Steady s (startTrunk k s) := by
  obtain ⟨r, x, h⟩ := startTrunk_onlyTrunks k s
  refine .of_leaves (startTrunk_leaves k s) (by decide) (by decide) ?_ ?_ ?_ ?_ ?_ ?_ <;> rw [h]

/-- From the core's start to the first trunk's, BOOT keeps what the release found. -/
theorem boot_steady (s : State) : Steady s (startTrunk 0 (bootChange (bootVault (bootEdges (bootPseq (refreshTriple (bootRepairs (bootSpares
    (bootRetirement (bootAddress (bootKeeper (newEpochs (startCore (bootLifecycle s)))))))))))))) := by
  have h₁ : Steady s (startCore (bootLifecycle s)) :=
    Steady.trans (t := bootLifecycle s) ⟨rfl, rfl, rfl, rfl, rfl, rfl, rfl, rfl⟩ (startCore_steady _)
  refine h₁.trans ?_
  generalize startCore (bootLifecycle s) = u
  have h₂ : Steady u (bootRepairs (bootSpares (bootRetirement (bootAddress (bootKeeper (newEpochs u)))))) :=
    (newEpochs_steady u).trans ((bootKeeper_steady _).trans ((bootAddress_steady _).trans ((bootRetirement_steady _).trans
      ((bootSpares_steady _).trans (bootRepairs_steady _)))))
  refine h₂.trans ?_
  generalize bootRepairs (bootSpares (bootRetirement (bootAddress (bootKeeper (newEpochs u))))) = x
  exact (refreshTriple_steady x).trans ((bootPseq_steady _).trans ((bootEdges_steady _).trans ((bootVault_steady _).trans
    ((bootChange_steady _).trans (startTrunk_steady 0 _)))))

end Sys2Proof.Machine
end

section

/-! # Power, BOOT and the end in SHUTDOWN (O54) -/

namespace Sys2Proof.Machine

open Sys2Proof.Safety

/-! ### The work finished before the power goes -/

theorem commitSlot_steady (slot page : Nat) (s : State) : Steady s (commitSlot slot page s) := by
  unfold commitSlot
  extract_lets put sec s₁ m r
  have hput (n : Nat) (t : State) : Steady t (put n t) := .ite (.refl t) (writeSector_steady ..)
  have h₁ : Steady s s₁ := (hput ..).trans (hput ..)
  clear_value s₁ put
  exact h₁.trans (Steady.trans (t := { s₁ with mem := { m with retired := r, retiring := m.retiring.erase (slot, page) } })
    ⟨rfl, rfl, rfl, rfl, rfl, rfl, rfl, rfl⟩ (.rset (by decide) (by decide) ..))

theorem endKeeperWrite_steady (s : State) : Steady s (endKeeperWrite s) := by
  unfold endKeeperWrite
  split
  · exact .refl s
  · next j rest _ =>
    extract_lets _ s₁
    have h₁ : Steady s s₁ := ⟨rfl, rfl, rfl, rfl, rfl, rfl, rfl, rfl⟩
    clear_value s₁
    split
    · next n d _ =>
      have h₂ : Steady s (writeSector n d s₁) := h₁.trans (writeSector_steady ..)
      generalize writeSector n d s₁ = u at h₂ ⊢
      exact h₂.trans ⟨rfl, rfl, rfl, rfl, rfl, rfl, rfl, rfl⟩
    · exact h₁.trans (commitSlot_steady ..)

theorem Steady.setRecorder (s : State) (r : Recorder) : Steady s (s.setRecorder r) := ⟨rfl, rfl, rfl, rfl, rfl, rfl, rfl, rfl⟩

theorem queueCopy_steady (r : Record) (s : State) : Steady s (queueCopy r s) := by
  obtain ⟨l, h⟩ := queueCopy_frame r s
  rw [h]
  exact .setRecorder ..

theorem raiseAlert_steady (v a : Nat) (s : State) : Steady s (raiseAlert v a s) := by
  have hl := raiseAlert_leaves v a s
  obtain ⟨g, c, i, h⟩ := raiseAlert_frame v a s
  rw [h] at hl ⊢
  exact .of_leaves hl (by decide) (by decide) rfl rfl rfl rfl rfl rfl

theorem writeRecord_steady (e : Event) (s : State) : Steady s (writeRecord e s) := by
  unfold writeRecord
  extract_lets r old slot kept g new before s₁ s₂ s₃
  have h₁ : Steady s s₁ := .setRecorder ..
  clear_value s₁
  have h₂ : Steady s s₂ := by
    unfold s₂
    clear_value before
    cases before with
    | none => exact h₁
    | some p => exact h₁.trans (.ite (queueCopy_steady ..) (.refl _))
  clear_value s₂
  have h₃ : Steady s s₃ := h₂.trans (.ite (queueCopy_steady ..) (.refl _))
  clear_value s₃
  exact h₃.trans (raiseAlert_steady ..)

theorem writeNext_steady (s : State) : Steady s (writeNext s) := by
  unfold writeNext
  split
  · exact .refl s
  · extract_lets r lost s₁
    have h₁ : Steady s s₁ := .ite (.setRecorder ..) (.setRecorder ..)
    clear_value s₁
    exact h₁.trans (writeRecord_steady ..)

theorem rewriteRecord_steady (q : Nat) (f : Record → Record) (s : State) : Steady s (rewriteRecord q f s) := by
  obtain ⟨l, g, h⟩ := rewriteRecord_frame q f s
  rw [h]
  exact .setRecorder ..

theorem copyRecord_steady (r : Record) (s : State) : Steady s (copyRecord r s) := by
  unfold copyRecord
  extract_lets q s₁ n src s₂ now
  have h₁ : Steady s s₁ := .setRecorder ..
  clear_value s₁
  split
  · split
    · exact .ite h₁ (h₁.trans (writeSector_steady ..))
    · exact h₁
  · split
    · exact h₁
    · have h₂ : Steady s s₂ := h₁.trans (Steady.trans (t := s₁.setRecorder { s₁.recorder with pseqNext := (n + 1) % 2 ^ 32 }) (.setRecorder ..)
        (rewriteRecord_steady ..))
      clear_value s₂
      exact h₂.trans (writeSector_steady ..)

theorem finishWork_steady (s : State) : Steady s (finishWork s) := by
  unfold finishWork
  extract_lets s₁ s₂ s₃
  have h₁ : Steady s s₁ := .foldl (fun t _ => endKeeperWrite_steady t) _ s
  clear_value s₁
  have h₂ : Steady s s₂ := by
    refine h₁.trans ?_
    unfold s₂
    split
    · exact completeChange_steady ..
    · exact .refl _
  clear_value s₂
  have h₃ : Steady s s₃ := h₂.trans (.foldl (fun t _ => writeNext_steady t) _ _)
  clear_value s₃
  exact h₃.trans ((Steady.setRecorder ..).trans (.foldl (fun t r => copyRecord_steady _ t) _ _))

/-! ### Power -/

theorem execPowerOn_off {s : State} (h : s.dev = .powerOff) :
    exec .powerOn s = .next { inReset 0 .reset s with power := { s.power with aux := true, cause := 0 } } := congrArg Host.Outcome.next (if_pos h)

theorem execPowerOn_on {s : State} (h : s.dev ≠ .powerOff) : exec .powerOn s = .next s := congrArg Host.Outcome.next (if_neg h)

/-- What a device reset leaves. -/
theorem inReset_frame (k : Nat) (d : DevState) (s : State) : (inReset k d s).dev = d ∧ (inReset k d s).cells = [] ∧ (inReset k d s).planes = [] ∧
    (inReset k d s).keeper = { s.keeper with jobs := [] } ∧ (inReset k d s).pending = s.pending := ⟨rfl, rfl, rfl, rfl, rfl⟩

theorem execResetRelease_other {s : State} (h : s.dev ≠ .reset) (f : ResetFindings) : exec (.resetRelease f) s = .next s := if_pos (by simp [h])

/-- The state of a release before its straps are sampled. -/
def found (f : ResetFindings) (s : State) : State :=
  { s with dev := .boot, fabricOn := true,
           keeper := { s.keeper with failed := f.keeperFails, failAt := f.failAt, bad := f.bad },
           scr := { s.scr with damage := f.damaged.foldl (fun m (x : FrameDamage) => mput m x.key (x.bits, x.writes)) s.scr.damage } }

theorem execResetRelease_reset {s : State} (h : s.dev = .reset) (f : ResetFindings) :
    ∃ t, exec (.resetRelease f) s = .next t ∧ Steady (sampleStraps f.straps ((found f s).rset .RESET_CAUSE 0 s.power.cause)) t :=
  ⟨_, if_neg (by simp [h]), boot_steady _⟩

/-! ### The end of BOOT -/

/-- The control planes as they are when control is ready. -/
def readyPlane (c : Control) : Control :=
  { c with ready := true, i3c := { c.i3c with intEnabled := true, hotJoinEnabled := true }, can := { c.can with traffic := false } }

/-- Control ready, with the CAN settings of this start. -/
def opened (s : State) : State := { canForce s with ctl := readyPlane s.ctl }

/-- Control ready, and the CAN port as its setting has it. -/
def controlReady (s : State) : State :=
  ((opened s).rset .CAN_STATE 0 ((opened s).rget .CAN_ENABLE)).rset .CAN_TEC_REC 0 0

theorem controlReady_frame (s : State) : ∃ f r, controlReady s = { s with force := f, regs := r, ctl := readyPlane s.ctl } := ⟨_, _, rfl⟩

theorem controlReady_leaves (s : State) : Leaves [.CAN_STATE, .CAN_TEC_REC] s (controlReady s) :=
  Leaves.trans (t := opened s) (.of_regs rfl) ((Leaves.rset (by decide) ..).trans (.rset (by decide) ..))

theorem controlReady_can (s : State) : (controlReady s).rget .CAN_STATE = s.rget .CAN_ENABLE :=
  ((Leaves.rset (es := [.CAN_TEC_REC]) (by decide) ..).rget .CAN_STATE (by decide) 0).trans (State.rget_rset_same ..)

theorem execBootEnd_boot {s : State} (h : s.dev = .boot) (hc : s.coreWaits = false) : exec .bootEnd s =
    .next (if bitOf ((controlReady s).rget .STRAPS) 3 && Nat.blt (controlReady s).bootSrc 4 then
        (startLoad false ((controlReady s).rget .LOAD_SRC) .idle (controlReady s)).become .loading
      else (controlReady s).become .idle) := by
  show execBootEnd s = _
  unfold execBootEnd
  rw [if_neg (by simp [h, hc])]
  rfl

end Sys2Proof.Machine
end

section
namespace Sys2Proof.Machine

open Sys2Proof.Safety

theorem startLoad_leaves (g : Bool) (n : Nat) (d : DevState) (s : State) :
    Leaves [.LOAD_BYTES, .LOAD_SECTION, .LOAD_REASON, .LOAD_DETAIL, .LOAD_STATE] s (startLoad g n d s) := by
  unfold startLoad
  extract_lets l flash l' s₁ s₂
  have h₁ : Leaves [.LOAD_BYTES, .LOAD_SECTION, .LOAD_REASON, .LOAD_DETAIL, .LOAD_STATE] s s₁ :=
    Leaves.trans (t := s.setLoad l') (.of_regs rfl) ((Leaves.rset (by decide) ..).trans (.rset (by decide) ..))
  clear_value s₁
  exact (h₁.trans (.ite (.refl _) ((Leaves.rset (by decide) ..).trans (.rset (by decide) ..)))).trans ((loadPhase_leaves 1 _).mono (by decide))

theorem become_load (s : State) (d : DevState) : (s.become d).load = s.load := by
  obtain ⟨r, c, i, h⟩ := become_frame s d
  rw [h]

/-- The interface that the control planes show through a change of the device state. -/
theorem become_ready (s : State) (d : DevState) : (s.become d).ctl.ready = s.ctl.ready := by
  unfold State.become
  split
  · rfl
  · rfl

/-- The end of BOOT. -/
theorem execBootEnd_spec {s : State} (h : s.dev = .boot) (hc : s.coreWaits = false) :
    ∃ t, exec .bootEnd s = .next t ∧ t.ctl.ready = true ∧ t.rget .CAN_STATE = s.rget .CAN_ENABLE ∧ t.cells = s.cells ∧
      (bitOf (s.rget .STRAPS) 3 = true → s.bootSrc < 4 → t.dev = .loading ∧ t.load.active = true) ∧
      (bitOf (s.rget .STRAPS) 3 = false ∨ 4 ≤ s.bootSrc → t.dev = .idle ∧ t.load = s.load) := by
  have hst : (controlReady s).rget .STRAPS = s.rget .STRAPS := (controlReady_leaves s).rget _ (by decide) _
  have hsrc : (controlReady s).bootSrc = s.bootSrc := by rw [State.bootSrc, hst, State.bootSrc]
  have hcan := controlReady_can s
  have he := execBootEnd_boot h hc
  obtain ⟨f, r, hf⟩ := controlReady_frame s
  have hready : (controlReady s).ctl.ready = true := by rw [hf]; rfl
  have hcells : (controlReady s).cells = s.cells := by rw [hf]
  have hload : (controlReady s).load = s.load := by rw [hf]
  clear hf
  rw [hst, hsrc] at he
  generalize controlReady s = u at *
  by_cases ha : bitOf (s.rget .STRAPS) 3 = true ∧ s.bootSrc < 4
  · rw [if_pos (by simp [ha.1, ha.2])] at he
    obtain ⟨⟨hact, -⟩, -⟩ := startLoad_spec (u.rget .LOAD_SRC) .idle u
    obtain ⟨r', m, i, l, hs⟩ := startLoad_frame false (u.rget .LOAD_SRC) .idle u
    refine ⟨_, he, ?_, ?_, ?_, fun _ _ => ⟨?_, ?_⟩, fun h => ?_⟩
    · rw [become_ready, hs]
      exact hready
    · rw [(State.become_leaves ..).rget _ (by decide), (startLoad_leaves ..).rget _ (by decide), hcan]
    · rw [(cells_of_words (State.become_words ..) : (State.become _ _).cells = _), hs]
      exact hcells
    · obtain ⟨_, _, _, hb⟩ := become_frame (startLoad false (u.rget .LOAD_SRC) .idle u) .loading
      rw [hb]
    · rw [become_load]
      exact hact
    · exfalso
      rcases h with h | h
      · rw [ha.1] at h
        cases h
      · omega
  · rw [if_neg (by simpa using ha)] at he
    refine ⟨_, he, ?_, ?_, ?_, fun h1 h2 => absurd ⟨h1, h2⟩ ha, fun _ => ⟨?_, ?_⟩⟩
    · rw [become_ready]
      exact hready
    · rw [(State.become_leaves ..).rget _ (by decide), hcan]
    · rw [(cells_of_words (State.become_words ..) : (State.become _ _).cells = _)]
      exact hcells
    · obtain ⟨_, _, _, hb⟩ := become_frame u .idle
      rw [hb]
    · rw [become_load]
      exact hload

/-! ### The entry into SHUTDOWN -/

theorem setTicket_fabricOn (k v : Nat) (s : State) : (setTicket k v s).fabricOn = s.fabricOn := rfl

theorem setTickets_fabricOn (l : List Nat) (v : Nat) (s : State) : (setTickets l v s).fabricOn = s.fabricOn :=
  foldl_keeps State.fabricOn (fun u t => setTicket_fabricOn t v u) l s

theorem settleSuperseded_fabricOn (p v : Nat) (s : State) : (settleSuperseded p v s).fabricOn = s.fabricOn :=
  (setTickets_fabricOn ..).trans (State.setScr_fabricOn ..)

theorem voidPlane_fabricOn (p : Nat) (s : State) : (voidPlane p s).fabricOn = s.fabricOn := by
  unfold voidPlane
  extract_lets s₁
  rw [State.setScr_fabricOn, State.setPlane_fabricOn]

theorem supersede_fabricOn (p : Nat) (s : State) : (supersede p s).fabricOn = s.fabricOn := by
  unfold supersede
  extract_lets q c ts
  rw [State.setScr_fabricOn]
  exact (State.setScr_fabricOn ..).trans (State.setScr_fabricOn ..)

theorem keepStopped_fabricOn (p : Nat) (s : State) : (keepStopped p s).fabricOn = s.fabricOn := by
  unfold keepStopped
  extract_lets x
  split
  · rfl
  · rfl

theorem dropWritten_fabricOn (s : State) : (dropWritten s).fabricOn = s.fabricOn := by
  refine foldl_keeps State.fabricOn (fun t p => ?_) _ s
  refine (settleSuperseded_fabricOn ..).trans ((voidPlane_fabricOn ..).trans ?_)
  split
  · exact keepStopped_fabricOn ..
  · rfl

theorem eachDistrict_fabricOn (f : District → District) (s : State) : (eachDistrict f s).fabricOn = s.fabricOn :=
  foldl_keeps State.fabricOn (fun _ _ => State.setDist_fabricOn ..) _ s

theorem failWaiting_fabricOn (s : State) : (failWaiting s).fabricOn = s.fabricOn :=
  foldl_keeps State.fabricOn (fun t k => settleSuperseded_fabricOn k 3 t) _ s

theorem hideTap_fabricOn (i : Nat) (s : State) : (hideTap i s).fabricOn = s.fabricOn := by
  unfold hideTap
  extract_lets s₁ s₂
  have h₁ : s₁.fabricOn = s.fabricOn := foldl_keeps State.fabricOn (fun _ _ => State.rset_fabricOn ..) _ s
  clear_value s₁
  have h₂ : s₂.fabricOn = s₁.fabricOn := rfl
  clear_value s₂
  split
  · exact (State.rset_fabricOn ..).trans (h₂.trans h₁)
  · exact h₂.trans h₁

theorem dropLedger_fabricOn (s : State) : (dropLedger s).fabricOn = s.fabricOn := by
  refine (State.rset_fabricOn ..).trans ?_
  unfold putLedger
  extract_lets keep s₁ s₂ _ s₃ s₄
  have h₁ : s₁.fabricOn = s.fabricOn := foldl_keeps State.fabricOn (fun t p => hideTap_fabricOn ..) _ s
  have h₂ : s₂.fabricOn = s₁.fabricOn := foldl_keeps State.fabricOn (fun t p => (State.rset_fabricOn ..).trans (State.rset_fabricOn ..)) _ s₁
  exact h₂.trans h₁

theorem settleLinks_fabricOn (s : State) : (settleLinks s).fabricOn = s.fabricOn := by
  obtain ⟨r, m, h⟩ := settleLinks_onlyTrunks s
  rw [h]

theorem endFreeze_fabricOn (s : State) : (endFreeze s).fabricOn = s.fabricOn := eachDistrict_fabricOn ..

theorem cancelStages_fabricOn (s : State) : (cancelStages s).fabricOn = s.fabricOn := by
  unfold cancelStages
  extract_lets _ s₁ _ s₂
  have h₂ : s₂.fabricOn = s.fabricOn := by
    unfold s₂
    split
    · rfl
    · rfl
  clear_value s₂
  exact (eachDistrict_fabricOn ..).trans h₂

theorem clearConfiguration_fabricOn (s : State) : (clearConfiguration s).fabricOn = s.fabricOn := by
  unfold clearConfiguration
  extract_lets ps s₁ _ s₂ _ s₃ s₄
  have h₁ : s₁.fabricOn = s.fabricOn := foldl_keeps State.fabricOn (fun t k => (voidPlane_fabricOn ..).trans (supersede_fabricOn ..)) ps s
  clear_value s₁
  have h₂ : s₂.fabricOn = s₁.fabricOn := eachDistrict_fabricOn ..
  clear_value s₂
  have h₃ : s₃.fabricOn = s₂.fabricOn := rfl
  clear_value s₃
  have h₄ : s₄.fabricOn = s₃.fabricOn := rfl
  clear_value s₄
  rw [settleLinks_fabricOn, dropLedger_fabricOn, endFreeze_fabricOn, h₄, h₃, h₂, h₁]

theorem showFault_fabricOn (f : LoadFault) (s : State) : (showFault f s).fabricOn = s.fabricOn := by
  unfold showFault
  extract_lets s₁
  have h₁ : s₁.fabricOn = s.fabricOn := by
    unfold s₁
    split
    · rfl
    · rfl
  clear_value s₁
  obtain ⟨r, m, i, h⟩ := loadPhase_frame 6 (s₁.rset .LOAD_SECTION 0 f.item)
  rw [h]
  exact h₁

theorem abortLoad_fabricOn (s : State) : (abortLoad s).fabricOn = s.fabricOn := by
  unfold abortLoad
  extract_lets _ f s₁
  have h₁ : s₁.fabricOn = s.fabricOn := showFault_fabricOn ..
  clear_value s₁
  split
  · exact State.setLoad_fabricOn ..
  · split
    · exact (State.setLoad_fabricOn ..).trans <| (failWaiting_fabricOn _).trans ((clearConfiguration_fabricOn _).trans h₁)
    · refine (State.setLoad_fabricOn ..).trans ?_
      rw [recordFault, raise_fabricOn, dropWritten_fabricOn, h₁]

theorem lockVault_spec (s : State) : (lockVault s).rget .VAULT_STATE ≠ 2 ∧ (lockVault s).fabricOn = s.fabricOn := by
  unfold lockVault
  split
  · rw [State.rget_rset_same]
    exact ⟨by decide, rfl⟩
  · exact ⟨‹_›, rfl⟩

theorem stopTrunk_onlyTrunks (k : Nat) (s : State) : OnlyTrunks s (stopTrunk k s) := by
  unfold stopTrunk
  extract_lets x stop
  exact (OnlyTrunks.setTrunk ..).trans (.rset ..)

theorem stopTrunks_onlyTrunks (l : List Nat) (s : State) : OnlyTrunks s (l.foldl (fun t k => stopTrunk k t) s) := by
  induction l generalizing s with
  | nil => exact .refl s
  | cons k l ih => exact (stopTrunk_onlyTrunks k s).trans (ih _)

theorem stopTrunk_leaves (k : Nat) (s : State) : Leaves [.LINK_STATE] s (stopTrunk k s) := by
  unfold stopTrunk
  extract_lets x stop
  refine Leaves.trans (t := s.setTrunk k _) (.of_regs rfl) (.rset (by decide) ..)

/-- SHUTDOWN as it is entered. -/
theorem enterShutdown_spec (s : State) : (enterShutdown s).dev = .shutdown ∧ (enterShutdown s).fabricOn = false ∧
    (enterShutdown s).run.running = false ∧ (enterShutdown s).load.active = false ∧ (enterShutdown s).safeDue = none ∧
    (enterShutdown s).rget .VAULT_STATE ≠ 2 ∧ (enterShutdown s).cells = s.cells := by
  have hm := enterShutdown_mode s
  have hcells := cells_of_words (enterShutdown_words s)
  suffices h : (enterShutdown s).fabricOn = false ∧ (enterShutdown s).run.running = false ∧ (enterShutdown s).rget .VAULT_STATE ≠ 2 from
    ⟨congrArg Mode.dev hm, h.1, h.2.1, congrArg Mode.loading hm, congrArg Mode.safeDue hm, h.2.2, hcells⟩
  clear hm hcells
  unfold enterShutdown
  extract_lets last s₁ s₂ s₃ _ s₄
  obtain ⟨hv, hf⟩ : s₁.rget .VAULT_STATE ≠ 2 ∧ s₁.fabricOn = false := by
    obtain ⟨h1, h2⟩ := lockVault_spec (abortLoad { s with fabricOn := false, safeDue := none })
    exact ⟨h1, h2.trans (abortLoad_fabricOn _)⟩
  clear_value s₁
  have h₂ : Leaves [.FREEZE_STATE, .TT_COMMIT_STATUS] s₁ s₂ := ((cancelStages_leaves _).mono (by decide)).trans ((endFreeze_leaves _).mono (by decide))
  have hf₂ : s₂.fabricOn = false := (endFreeze_fabricOn _).trans ((cancelStages_fabricOn _).trans hf)
  clear_value s₂
  have h₃ : Leaves [.LINK_STATE] s₂ s₃ := .foldl (fun t k => stopTrunk_leaves k t) _ _
  obtain ⟨_, _, ht⟩ := stopTrunks_onlyTrunks (List.range trunkCount) s₂
  have hf₃ : s₃.fabricOn = false := by
    refine (congrArg State.fabricOn ht).trans ?_
    exact hf₂
  clear_value s₃
  obtain ⟨⟨r, q, m, c, k, hd⟩, hld⟩ := dropCoreWork_keeps s₃
  have h₄ : Leaves [.Q_HEAD, .Q_LEVEL] s₃ s₄ := hld.trans (.of_regs rfl)
  have hf₄ : s₄.fabricOn = false := by
    have : (dropCoreWork s₃).fabricOn = s₃.fabricOn := by rw [hd]
    exact this.trans hf₃
  have hr₄ : s₄.run.running = false := rfl
  clear_value s₄
  have h₅ : Leaves [.FW_VERSION] s₄ ((s₄.setHeat { s₄.heat with stopAt := none, markersTo := last }).rset .FW_VERSION 0 0) :=
    Leaves.trans (t := s₄.setHeat { s₄.heat with stopAt := none, markersTo := last }) (.of_regs rfl) (.rset (by decide) ..)
  have hf₅ : ((s₄.setHeat { s₄.heat with stopAt := none, markersTo := last }).rset .FW_VERSION 0 0).fabricOn = false := hf₄
  have hr₅ : ((s₄.setHeat { s₄.heat with stopAt := none, markersTo := last }).rset .FW_VERSION 0 0).run.running = false := hr₄
  generalize (s₄.setHeat { s₄.heat with stopAt := none, markersTo := last }).rset .FW_VERSION 0 0 = u at *
  obtain ⟨_, _, _, hb⟩ := become_frame u .shutdown
  refine ⟨?_, ?_, ?_⟩
  · rw [hb]; exact hf₅
  · rw [hb]; exact hr₅
  · rw [(State.become_leaves ..).rget _ (by decide), h₅.rget _ (by decide), h₄.rget _ (by decide), h₃.rget _ (by decide), h₂.rget _ (by decide)]
    exact hv

theorem execShutdownEntry_due {s : State} {x : Nat} (hx : s.heat.stopAt = some x) (h : s.counting = false ∨ x ≤ s.crossing) :
    exec .shutdownEntry s = .next (enterShutdown s) := by
  show execShutdownEntry s = _
  rw [execShutdownEntry, hx]
  exact congrArg Host.Outcome.next (if_pos (by simpa [Nat.ble_eq] using h))

theorem execShutdownEntry_early {s : State} {x : Nat} (hx : s.heat.stopAt = some x) (hc : s.counting = true) (h : s.crossing < x) :
    exec .shutdownEntry s = .next s := by
  show execShutdownEntry s = _
  rw [execShutdownEntry, hx]
  exact congrArg Host.Outcome.next (if_neg (by simp [hc, Nat.ble_eq, h]))

/-! ### The power gate -/

theorem powerGate_spec (s : State) : (powerGate s).dev = s.dev ∧ (powerGate s).power.gated = true ∧ (powerGate s).cells = [] ∧
    (powerGate s).planes = [] ∧ (powerGate s).pending = s.pending := ⟨rfl, rfl, rfl, rfl, rfl⟩

theorem execShutdownPowerGate_shut {s : State} (hd : s.dev = .shutdown) (hg : s.power.gated = false) :
    ∃ t, exec .shutdownPowerGate s = .next (powerGate t) ∧ t.dev = .shutdown ∧ t.pending = s.pending := by
  have h := (finishWork_steady s).trans (bumpCounter_steady 2 (e := .SHUTDOWNS) (by decide) (by decide) _)
  exact ⟨_, congrArg Host.Outcome.next (if_pos (by simp [hd, hg])), h.dev.trans hd, h.pending⟩

/-! ### Thresholds -/

theorem execThresholdWrite_refused {w : Route} {e : Threshold} {v : Nat} {s : State} (ha : accepts w (thresholdEl e) 0 v s = true)
    (h : s.orderKept (thresholdEl e) v = false) : exec (.thresholdWrite w e v) s = refused w 4 s := by
  refine write_outOfRange (h := hThreshold (thresholdEl e)) ha rfl ?_
  show (Nat.ble v (thresholdEl e).info.dflt && Nat.ble 1600 v && s.orderKept (thresholdEl e) v) = false
  rw [h, Bool.and_false]

theorem hThreshold_range {e : El} {v : Nat} {s : State} (h1 : v ≤ e.info.dflt) (h2 : 1600 ≤ v) (h : s.orderKept e v = true) :
    (hThreshold e).range v s = true := by
  show (Nat.ble v e.info.dflt && Nat.ble 1600 v && s.orderKept e v) = true
  simp [Nat.ble_eq, h1, h2, h]

end Sys2Proof.Machine
end

section
namespace Sys2Proof.Machine

open Sys2Proof.Safety

/-! ### Rounds of readings -/

/-- Beyond registers, records and latched sources a round changes the thermal controller alone. -/
structure Heated (s t : State) : Prop where
  frame : ∃ h g r i, t = { s with heat := h, regs := g, recorder := r, core := { s.core with irq := i } }

namespace Heated

theorem refl (s : State) : Heated s s := ⟨_, _, _, _, rfl⟩

theorem trans {s t r : State} (h : Heated s t) (h' : Heated t r) : Heated s r := by
  obtain ⟨_, _, _, _, rfl⟩ := h
  obtain ⟨_, _, _, _, rfl⟩ := h'
  exact ⟨_, _, _, _, rfl⟩

theorem rset (s : State) (e : El) (u v : Nat) : Heated s (s.rset e u v) := ⟨_, _, _, _, rfl⟩

theorem setHeat (s : State) (h : Thermal) : Heated s (s.setHeat h) := ⟨_, _, _, _, rfl⟩

theorem latchIrq (k : Nat) (s : State) : Heated s (latchIrq k s) := ⟨_, _, _, _, rfl⟩

theorem raise (s : State) (v c u : Nat) (d : Bytes) : Heated s (s.raise v c u d) := by
  obtain ⟨g, r, h⟩ := raise_frame s v c u d
  exact ⟨_, g, r, _, h⟩

theorem ite {c : Prop} [Decidable c] {s t r : State} (ht : Heated s t) (hr : Heated s r) : Heated s (if c then t else r) := by
  split
  · exact ht
  · exact hr

theorem foldl {α : Type} {f : State → α → State} (hf : ∀ t a, Heated t (f t a)) (l : List α) (s : State) : Heated s (l.foldl f s) := by
  induction l generalizing s with
  | nil => exact .refl s
  | cons a l ih => exact (hf s a).trans (ih _)

section
variable {s t : State} (h : Heated s t)
include h

theorem cells : t.cells = s.cells := by obtain ⟨_, _, _, _, rfl⟩ := h; rfl
theorem dev : t.dev = s.dev := by obtain ⟨_, _, _, _, rfl⟩ := h; rfl
theorem tb : t.tb = s.tb := by obtain ⟨_, _, _, _, rfl⟩ := h; rfl

end

end Heated

/-- The registers that a reading may move. -/
def readEls : List El := [.SENSORS_BROKEN, .REC_LOST]

theorem breakSensor_spec (n : Nat) (s : State) : Heated s (breakSensor n s) ∧ Leaves readEls s (breakSensor n s) := by
  unfold breakSensor
  split
  · exact ⟨.refl s, .refl s⟩
  · next x _ =>
    have h : Heated s (((s.setHeat { s.heat with sensors := mput s.heat.sensors n { x with broken := true } }).rinc .SENSORS_BROKEN).raise
        sevWarning 0x5003 sensorUnit []) := (Heated.setHeat ..).trans ((Heated.rset ..).trans (.raise ..))
    have hl : Leaves readEls s (((s.setHeat { s.heat with sensors := mput s.heat.sensors n { x with broken := true } }).rinc .SENSORS_BROKEN).raise
        sevWarning 0x5003 sensorUnit []) :=
      Leaves.trans (t := s.setHeat { s.heat with sensors := mput s.heat.sensors n { x with broken := true } }) (.of_regs rfl)
        ((Leaves.rinc (by decide) ..).trans (.raise (by decide) ..))
    exact ⟨.ite (.refl s) h, .ite (.refl s) hl⟩

theorem takeReading_spec (n : Nat) (r : Option Int) (s : State) : Heated s (takeReading n r s) ∧ Leaves readEls s (takeReading n r s) := by
  unfold takeReading
  extract_lets t x bad x' _ s₁
  have h₁ : Heated s s₁ := .setHeat ..
  have hl₁ : Leaves readEls s s₁ := .of_regs rfl
  clear_value s₁
  obtain ⟨h, hl⟩ := breakSensor_spec n s₁
  exact ⟨.ite (.refl s) (.ite (h₁.trans h) h₁), .ite (.refl s) (.ite (hl₁.trans hl) hl₁)⟩

theorem comparePair_spec (i : Nat) (s : State) : Heated s (comparePair i s) ∧ Leaves readEls s (comparePair i s) := by
  unfold comparePair
  extract_lets put
  have hput (k : Nat) (t : State) : Heated t (put k t) ∧ Leaves readEls t (put k t) := by
    unfold put
    split
    · exact ⟨.setHeat .., .of_regs rfl⟩
    · exact ⟨.refl t, .refl t⟩
  clear_value put
  split
  · next a b _ _ =>
    have hb := breakSensor_spec (if decide (a < b) then 2 * i else 2 * i + 1) (put 0 s)
    exact ⟨.ite (.ite ((hput 0 s).1.trans hb.1) (hput _ s).1) (hput 0 s).1,
      .ite (.ite ((hput 0 s).2.trans hb.2) (hput _ s).2) (hput 0 s).2⟩
  · exact hput 0 s

theorem compensate_spec (i : Nat) (s : State) : Heated s (compensate i s) ∧ Leaves readEls s (compensate i s) := by
  unfold compensate
  split
  · exact ⟨.refl s, .refl s⟩
  · extract_lets stale
    exact ⟨.ite (.setHeat ..) (.refl s), .ite (.of_regs rfl) (.refl s)⟩

/-- The state in which a round is judged: its readings taken, its pairs compared, its items compensated. -/
def sensed (rs : List (Nat × Option Int)) (s : State) : State :=
  (List.range basePairs).foldl (fun t i => compensate i t)
    ((List.range (sensorCount / 2)).foldl (fun t i => comparePair i t) (rs.foldl (fun t p => takeReading p.1 p.2 t) s))

theorem rounds_spec (rs : List (Nat × Option Int)) (l m : List Nat) (s : State) :
    Heated s (m.foldl (fun t i => compensate i t) (l.foldl (fun t i => comparePair i t) (rs.foldl (fun t p => takeReading p.1 p.2 t) s))) ∧
    Leaves readEls s (m.foldl (fun t i => compensate i t) (l.foldl (fun t i => comparePair i t) (rs.foldl (fun t p => takeReading p.1 p.2 t) s))) :=
  ⟨(Heated.foldl (fun t p => (takeReading_spec p.1 p.2 t).1) rs s).trans ((Heated.foldl (fun t i => (comparePair_spec i t).1) l _).trans
      (.foldl (fun t i => (compensate_spec i t).1) m _)),
    (Leaves.foldl (fun t p => (takeReading_spec p.1 p.2 t).2) rs s).trans ((Leaves.foldl (fun t i => (comparePair_spec i t).2) l _).trans
      (.foldl (fun t i => (compensate_spec i t).2) m _))⟩

theorem sensed_spec (rs : List (Nat × Option Int)) (s : State) : Heated s (sensed rs s) ∧ Leaves readEls s (sensed rs s) := rounds_spec ..

theorem execSensorRound_on {s : State} (h : s.sensorsOn = true) (rs : List (Nat × Option Int)) :
    exec (.sensorRound rs) s = .next (judgeRound (sensed rs s)) := if_neg (by simp [h])

/-! ### Its judgement -/

theorem tget_congr {s t : State} {e : El} (h : t.rget e = s.rget e) : t.tget e = s.tget e := by
  unfold State.tget
  rw [h]

theorem tget_leaves {s t : State} {es : List El} (h : Leaves es s t) {e : El} (he : e ∉ es) : t.tget e = s.tget e := tget_congr (h.rget e he 0)

/-- THROTTLE_F is the floor of 256 times the fraction of the way from T_THROTTLE to T_CEILING. -/
theorem throttleOf_eq (s : State) (x : Int) : s.throttleOf x = if x ≤ s.tget .T_THROTTLE then 0 else if s.tget .T_CEILING ≤ x then 256
    else (256 * (x - s.tget .T_THROTTLE) / (s.tget .T_CEILING - s.tget .T_THROTTLE)).toNat := by
  unfold State.throttleOf
  dsimp only
  generalize s.tget .T_THROTTLE = a, s.tget .T_CEILING = b
  by_cases h1 : x ≤ a
  · rw [if_pos (decide_eq_true h1), if_pos h1]
  rw [if_neg (by simpa using h1), if_neg h1]
  by_cases h2 : b ≤ x
  · rw [if_pos (decide_eq_true h2), if_pos h2]
  rw [if_neg (by simpa using h2), if_neg h2]
  obtain ⟨p, hp⟩ := Int.eq_ofNat_of_zero_le (show 0 ≤ x - a by omega)
  obtain ⟨q, hq⟩ := Int.eq_ofNat_of_zero_le (show 0 ≤ b - a by omega)
  have hpq : p < q := by omega
  have hle : p * 256 / q ≤ 256 := Nat.div_le_of_le_mul (by omega)
  rw [hp, hq, Int.toNat_natCast, Int.toNat_natCast]
  refine (Nat.min_eq_right hle).trans ?_
  rw [Nat.mul_comm]
  exact (Int.toNat_natCast _).symm

section
variable {s t : State} (h : Heated s t)
include h

theorem Heated.counting : t.counting = s.counting := by rw [State.counting, State.counting, h.tb]

theorem Heated.crossing {es : List El} (hl : Leaves es s t) (he : El.ORBIT_LEN ∉ es) : t.crossing = s.crossing :=
  crossing_congr (by rw [h.tb]) (by rw [h.tb]) (by rw [h.tb]) (hl.rget _ he _)

end

/-- The hottest sensor rests on the sensors and on the two thresholds that stand for broken ones. -/
theorem hottest_congr {s t : State} (h : t.heat.sensors = s.heat.sensors) (h1 : t.tget .T_SHUTDOWN = s.tget .T_SHUTDOWN)
    (h2 : t.tget .T_CEILING = s.tget .T_CEILING) : t.hottest = s.hottest := by
  have hs : t.standing = s.standing := by
    have hb (n : Nat) : t.sensorBroken n = s.sensorBroken n := by rw [State.sensorBroken, h, State.sensorBroken]
    have hr (n : Nat) : t.reading n = s.reading n := by rw [State.reading, h, State.reading]
    funext n
    simp only [State.standing, hb, hr, h1, h2]
  unfold State.hottest
  rw [hs]

theorem thermalTo_spec (v : Nat) (s : State) : (thermalTo v s).rget .THERMAL_STATE = v ∧ Heated s (thermalTo v s) ∧
    Leaves [.THERMAL_STATE, .REC_LOST] s (thermalTo v s) ∧ (thermalTo v s).heat = s.heat :=
  ⟨State.rget_rset_same .., (Heated.rset ..).trans (.latchIrq ..),
    Leaves.trans (t := s.rset .THERMAL_STATE 0 v) (.rset (by decide) ..) (.of_regs rfl), rfl⟩

/-- What a judgement short of the shutdown moves. -/
theorem judgeState_spec (n : Nat) (x : Int) (f : Nat) (s : State) : Heated s (judgeState n x f s) ∧
    Leaves [.THERMAL_STATE, .REC_LOST] s (judgeState n x f s) ∧ (judgeState n x f s).heat = s.heat := by
  have hto (v : Nat) := (thermalTo_spec v s).2
  have hraise (v c d : Nat) (b : Bytes) : Heated s ((thermalTo v s).raise c d 0 b) ∧
      Leaves [.THERMAL_STATE, .REC_LOST] s ((thermalTo v s).raise c d 0 b) ∧ ((thermalTo v s).raise c d 0 b).heat = s.heat :=
    ⟨(hto v).1.trans (.raise ..), (hto v).2.1.trans (.raise (by decide) ..), (raise_heat ..).trans (hto v).2.2⟩
  have hno : Heated s s ∧ Leaves [.THERMAL_STATE, .REC_LOST] s s ∧ s.heat = s.heat := ⟨.refl s, .refl s, rfl⟩
  unfold judgeState
  extract_lets st
  split
  · split
    · exact hraise ..
    · split
      · exact hraise ..
      · split
        · exact hto 0
        · exact hno
  · split
    · exact hto 1
    · exact hno

/-- The trigger of a shutdown. -/
theorem triggerShutdown_spec (s : State) : (triggerShutdown s).rget .THERMAL_STATE = 3 ∧ Heated s (triggerShutdown s) ∧
    Leaves [.THERMAL_STATE, .REC_LOST] s (triggerShutdown s) ∧ (triggerShutdown s).heat.sensors = s.heat.sensors ∧
    (triggerShutdown s).heat.stopAt = some (if s.counting then s.crossing + 1 else 0) := by
  obtain ⟨h1, h2, h3, h4⟩ := thermalTo_spec 3 s
  have hh : Heated s ((thermalTo 3 s).raise sevFatal 0x5004 0 []) := h2.trans (.raise ..)
  have hl : Leaves [.THERMAL_STATE, .REC_LOST] s ((thermalTo 3 s).raise sevFatal 0x5004 0 []) := h3.trans (.raise (by decide) ..)
  have ht : ((thermalTo 3 s).raise sevFatal 0x5004 0 []).rget .THERMAL_STATE = 3 := (raise_rget _ _ _ _ _ _ (by decide) ..).trans h1
  have he : ((thermalTo 3 s).raise sevFatal 0x5004 0 []).heat = s.heat := (raise_heat ..).trans h4
  unfold triggerShutdown
  extract_lets u
  change Heated s u at hh
  change Leaves _ s u at hl
  change u.rget _ = 3 at ht
  change u.heat = _ at he
  clear_value u
  refine ⟨ht, hh.trans (.setHeat ..), hl.trans (.of_regs rfl), show u.heat.sensors = s.heat.sensors from congrArg Thermal.sensors he, ?_⟩
  show some (if u.counting then u.crossing + 1 else 0) = _
  rw [hh.counting, hh.crossing hl (by decide)]

/-- The registers that a round's judgement writes before the thermal state. -/
def judgedEls : List El := [.TJ_MAX, .TJ_MAX_SENSOR, .THROTTLE_F]

/-- The hottest sensor shown and the throttle fraction taken from it. -/
def throttled (n : Nat) (x : Int) (s : State) : State :=
  let u := (s.rset .TJ_MAX 0 (tempBits x)).rset .TJ_MAX_SENSOR 0 n
  u.rset .THROTTLE_F 0 (u.throttleOf x)

theorem throttled_spec (n : Nat) (x : Int) (s : State) : (throttled n x s).rget .TJ_MAX = tempBits x ∧ (throttled n x s).rget .TJ_MAX_SENSOR = n ∧
    (throttled n x s).rget .THROTTLE_F = s.throttleOf x ∧ Heated s (throttled n x s) ∧ Leaves judgedEls s (throttled n x s) ∧
    (throttled n x s).heat = s.heat := by
  unfold throttled
  extract_lets u
  have hu : Leaves [.TJ_MAX, .TJ_MAX_SENSOR] s u := (Leaves.rset (by decide) ..).trans (.rset (by decide) ..)
  have h1 : u.rget .TJ_MAX = tempBits x := by
    refine ((Leaves.rset (es := [.TJ_MAX_SENSOR]) (by decide) ..).rget .TJ_MAX (by decide) 0).trans ?_
    exact State.rget_rset_same ..
  have h2 : u.rget .TJ_MAX_SENSOR = n := State.rget_rset_same ..
  have hh : Heated s u := (Heated.rset ..).trans (.rset ..)
  have he : u.heat = s.heat := rfl
  clear_value u
  have hl : Leaves [.THROTTLE_F] u (u.rset .THROTTLE_F 0 (u.throttleOf x)) := .rset (by decide) ..
  refine ⟨(hl.rget _ (by decide) _).trans h1, (hl.rget _ (by decide) _).trans h2, ?_, hh.trans (.rset ..), (hu.mono (by decide)).trans (hl.mono (by decide)), he⟩
  rw [State.rget_rset_same, throttleOf_eq, throttleOf_eq, tget_leaves hu (by decide), tget_leaves hu (by decide)]

/-- Readings follow faster within 8 °C of T_THROTTLE (R461). -/
def fastOf (x : Int) (s : State) : Bool :=
  if decide (s.tget .T_THROTTLE - 512 ≤ x) then true else if decide (x < s.tget .T_THROTTLE - 640) then false else s.heat.fast

/-- The state in which the thermal state is judged. -/
def paced (n : Nat) (x : Int) (s : State) : State :=
  (throttled n x s).setHeat { (throttled n x s).heat with fast := fastOf x (throttled n x s) }

theorem paced_spec (n : Nat) (x : Int) (s : State) : Heated (throttled n x s) (paced n x s) ∧ (paced n x s).regs = (throttled n x s).regs ∧
    (paced n x s).heat.sensors = (throttled n x s).heat.sensors := ⟨.setHeat .., rfl, rfl⟩

theorem judgeRound_of_hottest {n : Nat} {x : Int} {s : State} (h : s.hottest = some (n, x)) (hd : s.dev ≠ .shutdown) (ht : s.rget .THERMAL_STATE ≠ 3) :
    ∃ f, judgeRound s = if decide ((paced n x s).tget .T_SHUTDOWN ≤ x) then triggerShutdown (paced n x s) else judgeState n x f (paced n x s) := by
  have hu : ((s.rset .TJ_MAX 0 (tempBits x)).rset .TJ_MAX_SENSOR 0 n).rget .THERMAL_STATE = s.rget .THERMAL_STATE :=
    ((Leaves.rset (es := [.TJ_MAX, .TJ_MAX_SENSOR]) (by decide) ..).trans (.rset (by decide) ..)).rget _ (by decide) 0
  refine ⟨((s.rset .TJ_MAX 0 (tempBits x)).rset .TJ_MAX_SENSOR 0 n).throttleOf x, ?_⟩
  unfold judgeRound
  rw [h]
  refine (if_neg ?_).trans rfl
  rw [hu]
  simp [hd, ht]

/-- A round's judgement outside SHUTDOWN. -/
theorem judgeRound_spec {s : State} (hd : s.dev ≠ .shutdown) (ht : s.rget .THERMAL_STATE ≠ 3) : Heated s (judgeRound s) ∧
    ∀ n x, (judgeRound s).hottest = some (n, x) → (judgeRound s).rget .TJ_MAX = tempBits x ∧ (judgeRound s).rget .TJ_MAX_SENSOR = n ∧
      (judgeRound s).rget .THROTTLE_F = s.throttleOf x ∧ (s.tget .T_SHUTDOWN ≤ x → (judgeRound s).rget .THERMAL_STATE = 3 ∧
        (judgeRound s).heat.stopAt = some (if s.counting then s.crossing + 1 else 0)) := by
  cases h : s.hottest with
  | none =>
    have hj : judgeRound s = s := by rw [judgeRound, h]
    rw [hj]
    exact ⟨.refl s, fun n x hx => absurd (h.symm.trans hx) (by simp)⟩
  | some p =>
    obtain ⟨n, x⟩ := p
    obtain ⟨f, hj⟩ := judgeRound_of_hottest h hd ht
    obtain ⟨h1, h2, h3, hh, hl, he⟩ := throttled_spec n x s
    obtain ⟨hp, hr, hs⟩ := paced_spec n x s
    have hlp : Leaves judgedEls s (paced n x s) := hl.trans (.of_regs hr)
    have hhp := hh.trans hp
    have hsp : (paced n x s).heat.sensors = s.heat.sensors := hs.trans (congrArg Thermal.sensors he)
    have hrp (e : El) : (paced n x s).rget e = (throttled n x s).rget e := by rw [State.rget, State.rget, hr]
    have hlast : Heated (paced n x s) (judgeRound s) ∧ Leaves [.THERMAL_STATE, .REC_LOST] (paced n x s) (judgeRound s) ∧
        (judgeRound s).heat.sensors = (paced n x s).heat.sensors ∧ ((paced n x s).tget .T_SHUTDOWN ≤ x → (judgeRound s).rget .THERMAL_STATE = 3 ∧
          (judgeRound s).heat.stopAt = some (if (paced n x s).counting then (paced n x s).crossing + 1 else 0)) := by
      obtain ⟨t1, t2, t3, t4, t5⟩ := triggerShutdown_spec (paced n x s)
      obtain ⟨j1, j2, j3⟩ := judgeState_spec n x f (paced n x s)
      rw [hj]
      by_cases hc : (paced n x s).tget .T_SHUTDOWN ≤ x
      · rw [if_pos (decide_eq_true hc)]
        exact ⟨t2, t3, t4, fun _ => ⟨t1, t5⟩⟩
      · rw [if_neg (by simpa using hc)]
        exact ⟨j1, j2, congrArg Thermal.sensors j3, fun h => absurd h hc⟩
    obtain ⟨hq, hlq, hsq, hstop⟩ := hlast
    clear hj
    generalize judgeRound s = t at *
    have hall : Leaves (judgedEls ++ [.THERMAL_STATE, .REC_LOST]) s t := (hlp.mono (by simp)).trans (hlq.mono (by simp))
    have hhot : t.hottest = s.hottest := hottest_congr (hsq.trans hsp) (tget_leaves hall (by decide)) (tget_leaves hall (by decide))
    refine ⟨hhp.trans hq, fun n' x' hx => ?_⟩
    rw [hhot, h] at hx
    cases hx
    refine ⟨?_, ?_, ?_, fun hle => ?_⟩
    · rw [hlq.rget _ (by decide), hrp, h1]
    · rw [hlq.rget _ (by decide), hrp, h2]
    · rw [hlq.rget _ (by decide), hrp, h3]
    · obtain ⟨e1, e2⟩ := hstop (by rw [tget_leaves hlp (by decide)]; exact hle)
      refine ⟨e1, e2.trans ?_⟩
      rw [hhp.counting, hhp.crossing hlp (by decide)]

/-! ### The obligation -/

/-- Settles O54: BOOT by `Steady`, SHUTDOWN by `enterShutdown_spec`, a round by `sensed_spec` and `judgeRound_spec`. -/
theorem powerAndThermal : Obligations.PowerAndThermal := by
  refine ⟨fun n fails later bad damaged s => ⟨fun hd => ⟨_, execPowerOn_off hd, ?_⟩, execPowerOn_on, ⟨_, rfl, ?_⟩, fun hd => ?_, fun hd => execResetRelease_other hd _,
    execBootEnd_spec, fun x hx => ⟨fun h => ?_, fun hc h => execShutdownEntry_early hx hc h⟩, fun hd hg => ?_⟩,
        fun w e v s ha => ⟨fun h1 h2 ho hf hw => ?_, fun h => execThresholdWrite_refused ha h⟩,
    fun rs s hon hd ht => ?_⟩
  · obtain ⟨h1, h2, h3, h4, h5⟩ := inReset_frame 0 .reset s
    exact ⟨h1, rfl, h2, h3, (congrArg Keeper.sectors h4 :)⟩
  · obtain ⟨h1, h2, h3, h4, h5⟩ := inReset_frame 0 .powerOff s
    exact ⟨h1, rfl, h2, h3, (congrArg Keeper.sectors h4 :), State.rget_rset_same .., h5⟩
  · obtain ⟨t, ht, hst⟩ := execResetRelease_reset hd ⟨n, fails, later, bad, damaged⟩
    obtain ⟨h1, h2, h3⟩ := sampleStraps_spec n ((found ⟨n, fails, later, bad, damaged⟩ s).rset .RESET_CAUSE 0 s.power.cause)
    have hs := h3.trans hst
    exact ⟨t, ht, hs.dev, hs.fabricOn, hs.failed, hs.failAt, hst.straps.trans h1, hst.cause.trans (h2.trans (State.rget_rset_same ..)), hs.load⟩
  · exact ⟨_, execShutdownEntry_due hx h, enterShutdown_spec s⟩
  · obtain ⟨t, ht, hdev, hp⟩ := execShutdownPowerGate_shut hd hg
    obtain ⟨h1, h2, h3, h4, h5⟩ := powerGate_spec t
    exact ⟨_, ht, h1.trans hdev, h2, h3, h4, h5.trans hp⟩
  · obtain ⟨t, hk, hv, hfr, -⟩ := keepValue_of_sound (e := thresholdEl e) (u := 0) (v := v) hf (hw _)
    refine ⟨t, write_performed (h := hThreshold (thresholdEl e)) ha rfl (hThreshold_range h1 h2 ho) hk, hv, ?_⟩
    obtain ⟨_, _, _, _, rfl⟩ := hfr.frame
    exact ⟨rfl, rfl⟩
  · obtain ⟨hh, hl⟩ := sensed_spec rs s
    have hd' : (sensed rs s).dev ≠ .shutdown := by rw [hh.dev]; exact hd
    have ht' : (sensed rs s).rget .THERMAL_STATE ≠ 3 := by rw [hl.rget _ (by decide)]; exact ht
    obtain ⟨hj, hall⟩ := judgeRound_spec hd' ht'
    refine ⟨_, execSensorRound_on hon rs, hj.cells.trans hh.cells, hj.dev.trans hh.dev, fun n x hx => ?_⟩
    obtain ⟨h1, h2, h3, h4⟩ := hall n x hx
    refine ⟨h1, h2, ?_, fun hle => ?_⟩
    · rw [h3, throttleOf_eq, tget_leaves hl (by decide), tget_leaves hl (by decide)]
    · rw [tget_leaves hl (by decide), hh.counting, hh.crossing hl (by decide)] at h4
      exact h4 hle

end Sys2Proof.Machine
end

section

/-! # Memory self-tests (O55) -/

namespace Sys2Proof.Machine

open Sys2Proof.Safety

/-! ### How many operations an algorithm has (R402) -/

theorem length_stepTrace (k : Nat) (x : MarchStep) (first n : Nat) : (stepTrace k x first n).length = x.ops.length * n := by
  unfold stepTrace
  split
  · simp [Function.comp_def, Nat.mul_comm]
  · simp [Function.comp_def, Nat.mul_comm]

theorem length_marchTrace (algo first n : Nat) : (marchTrace algo first n).length = marchOps algo * n := by
  have hl (l : List MarchStep) (k : Nat) :
      ((l.zipIdx k).flatMap (fun x => stepTrace x.2 x.1 first n)).length = (l.map (fun x => x.ops.length)).sum * n := by
    induction l generalizing k with
    | nil => simp
    | cons x l ih =>
      rw [List.zipIdx_cons, List.flatMap_cons, List.length_append, ih, length_stepTrace, List.map_cons, List.sum_cons, Nat.add_mul]
  exact hl ..

/-- The longest algorithm performs 22 operations on an address. -/
theorem marchOps_le (algo : Nat) : marchOps algo ≤ 22 := by
  unfold marchOps marchSteps
  split <;> decide

/-! ### A test begins -/

theorem rget_withBist (s : State) (b : SelfTest) (e : El) (u : Nat) : ({ s with bist := b } : State).rget e u = s.rget e u := rfl

theorem seedTest_rget (s : State) (e : El) (u : Nat) : (seedTest s).rget e u =
    ((((((s.rset .BIST_PLANNED 0 (marchOps (s.rget .BIST_ALGO) * bistAddresses (s.rget .BIST_KIND))).rset .BIST_EXECUTED 0 0).rset
      .BIST_FAIL_ADDR 0 0xFFFFFFFF).rset .BIST_RESULT 0 0).rset .BIST_SIG 0 0).rset .BIST_STATE 0 1).rget e u := by
  unfold seedTest
  exact rget_withBist ..

/-- What a seeded test shows. -/
structure Seeded (s t : State) : Prop where
  state : t.rget .BIST_STATE = 1
  executed : t.rget .BIST_EXECUTED = 0
  planned : t.rget .BIST_PLANNED = marchOps (s.rget .BIST_ALGO) * bistAddresses (s.rget .BIST_KIND)
  result : t.rget .BIST_RESULT = 0
  cells : t.cells = s.cells
  dists : t.dists = s.dists

theorem seedTest_seeded (s : State) : Seeded s (seedTest s) :=
  ⟨by simp [seedTest_rget, State.rget_rset], by simp [seedTest_rget, State.rget_rset], by simp [seedTest_rget, State.rget_rset],
    by simp [seedTest_rget, State.rget_rset], rfl, rfl⟩

theorem Seeded.of_regs {s t r : State} (h : Seeded s t) (hr : r.regs = t.regs) (hc : r.cells = t.cells) (hd : r.dists = t.dists) :
    Seeded s r := by
  have he (e : El) (u : Nat) : r.rget e u = t.rget e u := congrArg (mget · (regKey e u) e.info.dflt) hr
  exact ⟨(he ..).trans h.state, (he ..).trans h.executed, (he ..).trans h.planned, (he ..).trans h.result, hc.trans h.cells, hd.trans h.dists⟩

theorem freeSpare_seedTest {q : Nat} {s : State} (h : s.freeSpare q ≠ none) : (seedTest s).freeSpare q ≠ none := by
  have hfree (i : Nat) (hi : s.spareFree q i = true) : (seedTest s).spareFree q i = true := by
    simp only [State.spareFree, Bool.and_eq_true] at hi ⊢
    obtain ⟨⟨h1, -⟩, h3⟩ := hi
    refine ⟨⟨?_, rfl⟩, h3⟩
    rw [← h1, seedTest_rget]
    split <;> simp [State.rget_rset]
  intro hn
  refine h (List.find?_eq_none.2 fun i hi hs => ?_)
  exact List.find?_eq_none.1 hn i hi (hfree i hs)

theorem beginTest_slices {s : State} (hm : s.rget .BIST_MODE = 0) (hf : s.freeSpare (s.rget .BIST_TARGET / 64) ≠ none) :
    Seeded s (beginTest s) := by
  have h := seedTest_seeded s
  have hm' : (seedTest s).rget .BIST_MODE = 0 := by rw [seedTest_rget]; simpa [State.rget_rset] using hm
  obtain ⟨i, hi⟩ := Option.ne_none_iff_exists'.1 (freeSpare_seedTest hf)
  have hb : beginTest s = { seedTest s with bist := { (seedTest s).bist with spare := some i } } := by
    unfold beginTest
    extract_lets n t
    rw [if_pos hm', hi]
  rw [hb]
  clear hb hm' hi
  generalize seedTest s = t at h ⊢
  exact h.of_regs rfl rfl rfl

theorem beginTest_offline {s : State} (hm : s.rget .BIST_MODE = 1) :
    (beginTest s).rget .BIST_STATE = 1 ∧ (beginTest s).rget .BIST_EXECUTED = 0 ∧ (beginTest s).cells = s.cells := by
  have h := seedTest_seeded s
  have hm' : (seedTest s).rget .BIST_MODE = 1 := by rw [seedTest_rget]; simpa [State.rget_rset] using hm
  unfold beginTest
  extract_lets n t
  rw [if_neg (show ¬ t.rget .BIST_MODE = 0 by rw [hm']; decide)]
  have h : Seeded s t := h
  split
  · generalize hx : ({ t with bist := _ } : State) = x
    have hl := (startHandover_handedOver n 0x82 x).regs
    have hc : (startHandover n 0x82 x).cells = x.cells := cells_of_words (startHandover_words ..)
    have hs : Seeded s x := by
      rw [← hx]
      clear_value t
      exact h.of_regs rfl rfl rfl
    rw [hl.rget _ (by decide), hl.rget _ (by decide), hc]
    exact ⟨hs.state, hs.executed, hs.cells⟩
  · exact ⟨h.state, h.executed, h.cells⟩

/-! ### BIST_GO -/

theorem execBistGo_owned {w : Route} {s : State} (ha : accepts w .BIST_GO 0 1 s = true) (h : s.testOwner = some 3) :
    execBistGo w 1 s = refused w 3 s :=
  write_notAllowed (h := hBistGo) ha (by simp [hBistGo, h])

/-- The handover of an off-line test is to BIST, never to the Vault: it is not refused with 0x04. -/
theorem testOwner_ne_four (s : State) : s.testOwner ≠ some 4 := by
  unfold State.testOwner
  split
  · unfold State.ownerRefusal
    repeat' split
    all_goals simp_all
  · simp

theorem hBistGo_range {s : State} (hs : s.bistSelectable = true) : hBistGo.range 1 s = true := by
  simp [hBistGo, hs, testOwner_ne_four]

theorem execBistGo_refused {w : Route} {s : State} (ha : accepts w .BIST_GO 0 1 s = true) (hs : s.bistSelectable = true)
    (ho : s.testOwner ≠ some 3) (h : s.bistRefusal = some 6) : execBistGo w 1 s = refused w 6 s :=
  write_refused (h := hBistGo) ha (by simp [hBistGo, ho]) (hBistGo_range hs) (by simp [hBistGo, h]) (by decide)

/-- A test that nothing refuses is not refused its handover either. -/
theorem testOwner_of_permitted {s : State} (h : s.bistRefusal = none) : s.testOwner = none := by
  by_cases hm : s.rget .BIST_MODE = 1
  · unfold State.bistRefusal at h
    extract_lets n at h
    split at h
    · cases h
    · split at h
      · cases h
      · rw [if_neg (by rw [hm]; decide)] at h
        split at h
        · cases h
        · exact h
  · exact if_neg (by simp [hm])

theorem execBistGo_begins {w : Route} {s : State} (ha : accepts w .BIST_GO 0 1 s = true) (hs : s.bistSelectable = true)
    (h : s.bistRefusal = none) : execBistGo w 1 s = performed w (beginTest s) :=
  write_performed (h := hBistGo) ha (by simp [hBistGo, testOwner_of_permitted h]) (hBistGo_range hs) (by simp [hBistGo, h])

/-! ### The end of a test -/

/-- The result that the end of a test shows (R404). -/
def testResult (s : State) : Nat :=
  if !(s.bist.complete && !s.bist.aborted && s.rget .BIST_EXECUTED == s.rget .BIST_PLANNED) then 3
  else if s.bist.mismatch || s.bist.misr != s.bist.refMisr then 2 else 1

theorem testResult_congr {s t : State} (hb : t.bist = s.bist) (he : t.rget .BIST_EXECUTED = s.rget .BIST_EXECUTED)
    (hp : t.rget .BIST_PLANNED = s.rget .BIST_PLANNED) : testResult t = testResult s := by
  unfold testResult
  rw [hb, he, hp]

/-- What the end of a test shows, and that it leaves memory and District RAM. -/
structure TestEnded (s t : State) : Prop where
  state : t.rget .BIST_STATE = 3
  result : t.rget .BIST_RESULT = testResult s
  cells : t.cells = s.cells
  dram : t.dram = s.dram

theorem closeTest_ended (s : State) : TestEnded s (closeTest s) := by
  have hr (v c : Nat) (d : Bytes) (x : State) (hx : TestEnded s x) : TestEnded s (x.raise v c 0 d) :=
    ⟨by rw [raise_rget _ _ _ _ _ _ (by decide), hx.state], by rw [raise_rget _ _ _ _ _ _ (by decide), hx.result],
      (raise_cells ..).trans hx.cells, (raise_dram ..).trans hx.dram⟩
  unfold closeTest
  extract_lets b ok result s₁ s₂ items s₃
  have h₃ : TestEnded s s₃ := by
    refine ⟨?_, ?_, rfl, rfl⟩
    · show s₁.rget .BIST_STATE = 3
      rw [State.rget_rset, if_neg (by decide), State.rget_rset_same]
    · show s₁.rget .BIST_RESULT = _
      rw [State.rget_rset_same]
      rfl
  clear_value s₃
  split
  · exact hr _ _ _ _ h₃
  · split
    · exact hr _ _ _ _ h₃
    · exact hr _ _ _ _ h₃

/-- Where nothing waits for the end of a test but an unlocking, its end shows the result alone. -/
theorem endTest_ended {s : State} (hm : s.bist.moveDue = false) (hb : s.bist.beyond = false) : TestEnded s (endTest s) := by
  have h := closeTest_ended s
  unfold endTest
  extract_lets n b kind s₁ _ s₂ s₃ s₄
  have h₂ : TestEnded s s₂ := ⟨h.state, h.result, h.cells, h.dram⟩
  have h₃ : TestEnded s s₃ := by
    unfold s₃
    split
    · exact ⟨by rw [State.rget_rset, if_neg (by decide), h₂.state], by rw [State.rget_rset, if_neg (by decide), h₂.result], h₂.cells, h₂.dram⟩
    · exact h₂
  have h₄ : s₄ = s₃ := if_neg (by simp [b, hm, hb])
  rw [if_neg (by simp [b, hb]), h₄]
  exact h₃

/-! ### BIST_ABORT -/

theorem execBistAbort_eq {w : Route} {s : State} (ha : accepts w .BIST_ABORT 0 1 s = true) :
    execBistAbort w 1 s = performed w (abortTest s) :=
  write_performed (h := hBistAbort) ha rfl rfl rfl

theorem abortTest_idle {s : State} (h : s.bistRunning = false) : abortTest s = s := if_pos (by simp [h])

theorem abortTest_betweenSlices {s : State} (hr : s.bistRunning = true) (hm : s.rget .BIST_MODE = 0) (hp : s.bist.phase = none) :
    abortTest s = endTest (showSignature { s with bist := { s.bist with aborted := true } }) := by
  unfold abortTest
  rw [if_neg (by simp [hr])]
  extract_lets _ s₁
  have hm' : ¬ s₁.rget .BIST_MODE = 1 := by show ¬ s.rget .BIST_MODE = 1; rw [hm]; decide
  have hp' : s₁.bist.phase = none := hp
  rw [if_neg hm', hp']
  rfl

/-! ### Slices -/

theorem fallAsleep_awake {n : Nat} {s : State} (h : (s.bank n).sleepHeld = false) : fallAsleep n s = s := by
  unfold fallAsleep
  extract_lets b
  exact if_neg (by simp [b, h])

theorem fallAsleep_bist (n : Nat) (s : State) : (fallAsleep n s).bist = s.bist := by
  unfold fallAsleep
  extract_lets b
  split
  · rfl
  · rfl

theorem fallAsleep_cells (n : Nat) (s : State) : (fallAsleep n s).cells = s.cells := by
  unfold fallAsleep
  extract_lets b
  split
  · rfl
  · rfl

/-- Before the last slice and without an abort, the next slice is due. -/
theorem nextSlice_due {s : State} (ha : s.bist.aborted = false) (hn : s.bist.slice + 1 ≠ 64) :
    nextSlice s = fallAsleep (s.rget .BIST_TARGET) (setPhase none { s with bist := { s.bist with slice := s.bist.slice + 1 } }) := by
  unfold nextSlice
  extract_lets _ s₁ s₂
  have h₂ : s₂.bist = s₁.bist := fallAsleep_bist ..
  have h₁ : s₁.bist.aborted = false ∧ s₁.bist.slice ≠ 64 := ⟨ha, hn⟩
  refine if_neg ?_
  rw [h₂, h₁.1]
  simp [h₁.2]

theorem execBistSliceStart_waits {s : State} (h : s.bistRunning = false) : execBistSliceStart s = .next s := if_pos (by simp [h])

/-- Nothing holds up the next slice (R406). -/
structure SliceDue (s : State) : Prop where
  running : s.bistRunning = true
  spare : s.bist.spare ≠ none
  phase : s.bist.phase = none
  allowed : s.bistAllowed (s.rget .BIST_TARGET) = true
  throttle : s.rget .THROTTLE_F = 0
  moves : mfind s.mem.moves (s.rget .BIST_TARGET / 64) = none
  inv : s.rget .INV_STATE (s.rget .BIST_TARGET) ≠ 1

theorem execBistSliceStart_due {s : State} (h : SliceDue s) : execBistSliceStart s =
    if !s.isAwake (s.rget .BIST_TARGET) || (s.bank (s.rget .BIST_TARGET)).sleepHeld then .next (nextSlice s)
    else .next (setPhase (some .copy) s) := by
  obtain ⟨i, hi⟩ := Option.ne_none_iff_exists'.1 h.spare
  unfold execBistSliceStart
  exact if_neg (by simp [h.running, hi, h.phase, h.allowed, h.throttle, h.moves, h.inv])

/-! ### Phases -/

/-- An access of a bank leaves the test, but for the status of a failure. -/
theorem Accessed.bist {s t : State} (h : Accessed s t) : ∃ f, t.bist = { s.bist with failStatus := f } := by
  obtain ⟨⟨c, b, l, x, g, r, n, f, u, m, d, i, o, rfl⟩, -⟩ := h
  exact ⟨i, rfl⟩

theorem bistTurn_accessed (s : State) : Accessed s (bistTurn s) := engineTurn_accessed ..

/-- The requests that go before a phase's accesses leave the test. -/
theorem bistTurn_bist (s : State) : (bistTurn s).bist.phase = s.bist.phase ∧ (bistTurn s).bist.aborted = s.bist.aborted ∧
    (bistTurn s).bist.slice = s.bist.slice := by
  obtain ⟨f, h⟩ := (bistTurn_accessed s).bist
  rw [h]
  exact ⟨rfl, rfl, rfl⟩

theorem execBistPhaseDone_none {s : State} (h : s.bist.phase = none) (fails : List BistRead) : execBistPhaseDone fails s = .next s := by
  unfold execBistPhaseDone
  rw [if_neg (by rw [h]; decide)]
  dsimp only
  rw [h]

theorem execBistPhaseDone_copy {s : State} (h : s.bist.phase = some .copy) (fails : List BistRead) :
    execBistPhaseDone fails s = .next (setPhase (some .test) (copySlice true (bistTurn s))) := by
  unfold execBistPhaseDone
  rw [if_pos (by rw [h]; rfl)]
  dsimp only
  rw [(bistTurn_bist s).1, h]

theorem execBistPhaseDone_test {s : State} (h : s.bist.phase = some .test) (fails : List BistRead) :
    ∃ t, execBistPhaseDone fails s = .next (setPhase (some .restore) t) := by
  unfold execBistPhaseDone
  rw [if_pos (by rw [h]; rfl)]
  dsimp only
  rw [(bistTurn_bist s).1, h]
  exact ⟨_, rfl⟩

theorem execBistPhaseDone_restore {s : State} (h : s.bist.phase = some .restore) (fails : List BistRead) :
    execBistPhaseDone fails s = .next (setPhase (some .clear) (copySlice false (bistTurn s))) := by
  unfold execBistPhaseDone
  rw [if_pos (by rw [h]; rfl)]
  dsimp only
  rw [(bistTurn_bist s).1, h]

theorem execBistPhaseDone_clear {s : State} (h : s.bist.phase = some .clear) (fails : List BistRead) :
    execBistPhaseDone fails s = .next (nextSlice (clearSlice (64 + (bistTurn s).bist.spare.getD 0) (bistTurn s))) := by
  unfold execBistPhaseDone
  rw [if_pos (by rw [h]; rfl)]
  dsimp only
  rw [(bistTurn_bist s).1, h]

/-- The slice done with makes the next one due; where no request waited and no sleep is held, no register changes. -/
theorem execBistPhaseDone_cleared {s : State} (h : s.bist.phase = some .clear) (ha : s.bist.aborted = false) (hn : s.bist.slice + 1 ≠ 64)
    (fails : List BistRead) : ∃ t, execBistPhaseDone fails s = .next t ∧ t.bist.phase = none ∧ t.bist.slice = s.bist.slice + 1 ∧
      ((s.bank (s.rget .BIST_TARGET)).waiting = [] → (s.bank (s.rget .BIST_TARGET)).sleepHeld = false → t.regs = s.regs) := by
  obtain ⟨-, hta, htn⟩ := bistTurn_bist s
  obtain ⟨c, hc⟩ := clearSlice_frame (64 + (bistTurn s).bist.spare.getD 0) (bistTurn s)
  have hn' : (bistTurn s).bist.slice + 1 ≠ 64 := by rw [htn]; exact hn
  rw [execBistPhaseDone_clear h, hc, nextSlice_due (s := { bistTurn s with cells := c }) (hta.trans ha) hn']
  refine ⟨_, rfl, ?_, ?_, fun hw hs => ?_⟩
  · rw [fallAsleep_bist]
    rfl
  · rw [fallAsleep_bist]
    exact congrArg (· + 1) htn
  · have ht : bistTurn s = s := engineTurn_of_none hw
    rw [ht]
    refine (congrArg State.regs (fallAsleep_awake ?_)).trans rfl
    exact hs

/-! ### Off-line tests (R408) -/

theorem execBistOfflineDone_waits {s : State} (h : s.bistRunning = false) (fails : List BistRead) : execBistOfflineDone fails s = .next s :=
  if_pos (by simp [h])

theorem failLog_nil (ops : List MarchOp) : failLog [] ops = [] := by
  have h : ops.flatMap (fun o => (([] : List BistRead).filter (failsAt o)).flatMap (fun f => f.cells.map (fun c => (o.address, c)))) = [] :=
    List.flatMap_eq_nil_iff.2 fun _ _ => rfl
  rw [failLog, h, List.eraseDups_nil]

theorem allocateSpares_nil (s : State) : allocateSpares [] s = s := by
  unfold allocateSpares
  exact if_pos rfl

/-- Operations of which no read fails are counted, and clock both MISRs alike. -/
theorem clockReads_clean (ops : List MarchOp) (s : State) : clockReads ops [] s = { s.radd .BIST_EXECUTED 0 ops.length with
    bist := { s.bist with refMisr := misrOver (onesFold (s.rget .BIST_KIND)) [] ops s.bist.refMisr
                          misr := misrOver (onesFold (s.rget .BIST_KIND)) [] ops s.bist.misr } } := by
  unfold clockReads
  rw [failLog_nil]

/-- An algorithm that has run over the whole range, with no read failed. -/
def ranClean (s : State) : State := completeTest (clockReads s.testOps [] s)

theorem execBistOfflineDone_clean {s : State} (hr : s.bistRunning = true) (hm : s.rget .BIST_MODE = 1) (hk : s.rget .BIST_KIND = 1)
    (ht : s.rget .THROTTLE_F = 0) : execBistOfflineDone [] s = .next (endOffline (ranClean s)) := by
  unfold execBistOfflineDone
  extract_lets kind t ops
  have hk : kind = 1 := hk
  rw [if_neg (by simp [hr, hm, ht, hk])]
  have h : t = s := if_neg (by rw [hk]; decide)
  clear_value t
  subst h
  rw [failLog_nil]
  rw [allocateSpares_nil]
  rfl

theorem ranClean_rget (s : State) (e : El) (u : Nat) : (ranClean s).rget e u = (s.radd .BIST_EXECUTED 0 s.testOps.length).rget e u := by
  rw [ranClean, clockReads_clean]
  rfl

/-- The whole algorithm was executed. -/
theorem ranClean_executed {s : State} (hm : s.rget .BIST_MODE = 1) (hk : s.rget .BIST_KIND = 1) (he : s.rget .BIST_EXECUTED = 0) :
    (ranClean s).rget .BIST_EXECUTED = marchOps (s.rget .BIST_ALGO) * bistAddresses 1 := by
  have hl : s.testOps.length = marchOps (s.rget .BIST_ALGO) * bistAddresses 1 := by
    rw [State.testOps, if_pos hm, length_marchTrace, hk]
  have hb : marchOps (s.rget .BIST_ALGO) * bistAddresses 1 ≤ El.BIST_EXECUTED.modulus - 1 :=
    (Nat.mul_le_mul_right _ (marchOps_le _)).trans (by decide)
  rw [ranClean_rget, State.rget_radd_same, he, hl, Nat.zero_add]
  exact Nat.min_eq_left hb

/-- A whole run with no failure is a pass: both MISRs hold the same. -/
theorem ranClean_result {s : State} (hm : s.rget .BIST_MODE = 1) (hk : s.rget .BIST_KIND = 1) (he : s.rget .BIST_EXECUTED = 0)
    (hp : s.rget .BIST_PLANNED = marchOps (s.rget .BIST_ALGO) * bistAddresses 1) (hs : s.bist.misr = s.bist.refMisr)
    (hmm : s.bist.mismatch = false) (ha : s.bist.aborted = false) : testResult (ranClean s) = 1 := by
  have hx := ranClean_executed hm hk he
  have hpl : (ranClean s).rget .BIST_PLANNED = (ranClean s).rget .BIST_EXECUTED := by
    rw [hx, ranClean_rget, State.rget_radd, if_neg (by decide), hp]
  have hbist : (ranClean s).bist = { s.bist with
      complete := true
      misr := misrClock (misrOver (onesFold (s.rget .BIST_KIND)) [] s.testOps s.bist.misr) (BitVec.ofNat 64 ((ranClean s).rget .BIST_EXECUTED))
      refMisr := misrClock (misrOver (onesFold (s.rget .BIST_KIND)) [] s.testOps s.bist.refMisr)
        (BitVec.ofNat 64 ((ranClean s).rget .BIST_PLANNED)) } := by
    rw [ranClean, clockReads_clean]
    rfl
  unfold testResult
  rw [hpl, hbist, hpl, hs]
  simp [ha, hmm]

theorem mset_default {α : Type} [DecidableEq α] (m : SMap α) (k : Nat) (d : α) : mset m k d d = mdel m k := if_pos rfl

/-- The end of an off-line test of a District's RAM: its content is lost, and the result shown. -/
theorem endOffline_ram {s : State} (hk : s.rget .BIST_KIND = 1) (hm : s.bist.moveDue = false) (hb : s.bist.beyond = false) :
    (endOffline s).rget .BIST_STATE = 3 ∧ (endOffline s).rget .BIST_RESULT = testResult s ∧
      mfind (endOffline s).dram (s.rget .BIST_TARGET) = none ∧ (endOffline s).cells = s.cells := by
  unfold endOffline
  extract_lets n s₁ s₂
  have hk₁ : s₁.rget .BIST_KIND = 1 := by
    show (s.rset .BIST_SIG 0 _).rget .BIST_KIND = 1
    rw [State.rget_rset, if_neg (by decide), hk]
  have h₂ : s₂ = { s₁ with dram := mdel s₁.dram n } := by
    unfold s₂
    rw [hk₁]
    exact congrArg (fun d => ({ s₁ with dram := d } : State)) (mset_default ..)
  clear_value s₂
  subst h₂
  have h := endTest_ended (s := { s₁ with dram := mdel s₁.dram n }) hm hb
  refine ⟨h.state, h.result.trans ?_, ?_, h.cells⟩
  · have he : s₁.rget .BIST_EXECUTED = s.rget .BIST_EXECUTED := by
      show (s.rset .BIST_SIG 0 _).rget .BIST_EXECUTED = _
      rw [State.rget_rset, if_neg (by decide)]
    have hp : s₁.rget .BIST_PLANNED = s.rget .BIST_PLANNED := by
      show (s.rset .BIST_SIG 0 _).rget .BIST_PLANNED = _
      rw [State.rget_rset, if_neg (by decide)]
    exact testResult_congr rfl he hp
  · rw [h.dram]
    exact mfind_mdel_same ..

/-! ### The obligation -/

/-- Settles O55: a start by `seedTest_seeded`, the ends by `endTest_ended`, the phases by `bistTurn_bist`. -/
theorem selfTests : Obligations.SelfTests := by
  refine fun w fails s => ⟨fun ha hs => ⟨execBistGo_owned ha, execBistGo_refused ha hs, fun hr hm hf => ?_, fun hr hm => ?_⟩,
    fun ha => ⟨fun hr => ?_, fun hr hm hp hmd hb => ?_⟩, fun hr hsp hp hal ht hmv hi => ⟨fun hw hsl => ?_, fun hw hab hn => ?_⟩,
    fun hr => ⟨execBistSliceStart_waits hr, execBistOfflineDone_waits hr fails⟩, fun h => execBistPhaseDone_none h fails,
    fun h ha hn => execBistPhaseDone_cleared h ha hn fails, fun h => ⟨_, execBistPhaseDone_copy h fails, rfl⟩,
    fun h => ?_, fun h => ⟨_, execBistPhaseDone_restore h fails, rfl⟩, fun hr hm hk ht hs hmm hab he hp hmd hb => ?_⟩
  · have h := beginTest_slices hm hf
    exact ⟨_, execBistGo_begins ha hs hr, h.state, h.executed, h.planned, h.result, h.cells, h.dists⟩
  · exact ⟨_, execBistGo_begins ha hs hr, beginTest_offline hm⟩
  · exact (execBistAbort_eq ha).trans (by rw [abortTest_idle hr])
  · have h := endTest_ended (s := showSignature { s with bist := { s.bist with aborted := true } }) hmd hb
    refine ⟨_, (execBistAbort_eq ha).trans (by rw [abortTest_betweenSlices hr hm hp]), h.state, h.result.trans ?_, h.cells⟩
    exact if_pos (by simp [showSignature])
  · exact (execBistSliceStart_due ⟨hr, hsp, hp, hal, ht, hmv, hi⟩).trans (if_neg (by simp [hw, hsl]))
  · refine ⟨_, (execBistSliceStart_due ⟨hr, hsp, hp, hal, ht, hmv, hi⟩).trans (if_pos ?_), ?_⟩
    · obtain hw | hw := hw
      · simp [hw]
      · simp [hw]
    · rw [nextSlice_due hab hn, fallAsleep_bist, fallAsleep_cells]
      exact ⟨rfl, rfl, rfl, rfl⟩
  · obtain ⟨t, ht⟩ := execBistPhaseDone_test h fails
    exact ⟨_, ht, rfl⟩
  · have hk' : (ranClean s).rget .BIST_KIND = 1 := by rw [ranClean_rget, State.rget_radd, if_neg (by decide), hk]
    have ht' : (ranClean s).rget .BIST_TARGET = s.rget .BIST_TARGET := by rw [ranClean_rget, State.rget_radd, if_neg (by decide)]
    have hfr : (ranClean s).bist.moveDue = false ∧ (ranClean s).bist.beyond = false ∧ (ranClean s).cells = s.cells := by
      rw [ranClean, clockReads_clean]
      exact ⟨hmd, hb, rfl⟩
    obtain ⟨hmd', hb', hc⟩ := hfr
    obtain ⟨h1, h2, h3, h4⟩ := endOffline_ram hk' hmd' hb'
    exact ⟨_, execBistOfflineDone_clean hr hm hk ht, h1, h2.trans (ranClean_result hm hk he hp hs hmm hab), ht' ▸ h3, h4.trans hc⟩

end Sys2Proof.Machine
end
